-- ==== Sys2Proof/Word.lean ====
section
/-! DEFINITION. The word types of the Chibonan: registers are 32 bits wide (00_scope.md R5) and every
frame, ring entry and UART message is a sequence of bytes. -/

namespace Sys2Proof

/-- A register word, 32 bits, little-endian (R5). -/
abbrev Word := BitVec 32

/-- One byte of a frame, a bundle or a UART message. -/
abbrev Byte := BitVec 8

end Sys2Proof
end

