-- ==== Sys2Proof/Syntax.lean ====
section
/-! DEFINITION. The commands of the block: one constructor per row of spec/opcode_table.json, with the row's operands.
Plates, slots, tenants, functions (0 is the PF, n is VFn), lanes, feeds and watchdog channels are finite numbers, so
that no index can lie outside the device. -/

namespace Sys2Proof

/-- Where a register access of a function lands: its BAR0, its BAR2 (MSI-X table and PBA) or its configuration space. -/
inductive Space where
  | bar0 | bar2 | cfg
  deriving DecidableEq, Repr

/-- A clock source of the reference tree and the timebase PLL (R129, R786); `tree` is the reference tree as a source of
the timebase PLL, `internal` the tree's own oscillator. -/
inductive ClockSrc where
  | internal | oscIn | refIn | refclk | tree
  deriving DecidableEq, Repr

/-- The coherently read register pairs of R122. -/
inductive Pair where
  | frozen | note | flr
  deriving DecidableEq, Repr

/-- The straps of R145 as the balls show them at the sampling instant. -/
structure Straps where
  sid       : Fin 4
  pairEn    : Bool
  perstMode : Bool
  flQuad    : Bool
  deriving DecidableEq, Repr

/-- What a link-layer error is (R115): the correctable ones, from which the link layer recovers, and the fatal ones, after which
the link retrains. -/
inductive LinkError where
  | receiver | badTlp | badDllp | replayTimer | replayRollover
  | dataLink | flowControl
  deriving DecidableEq, Repr

/-- How the read of a ring header (R188) ends: its double words at offsets 0x00 and 0x04, a completion timeout, a poisoned
completion. -/
inductive HeaderRead where
  | data (dw0 dw1 : Word)
  | timeout
  | poisoned
  deriving DecidableEq, Repr

/-- How the read of a descriptor (R189) ends: its double words 0, 1, 2 with 3, and 4, a completion timeout, a poisoned
completion. -/
inductive DescRead where
  | data (dw0 dw1 : Word) (addr : BitVec 64) (cookie : Word)
  | timeout
  | poisoned
  deriving DecidableEq, Repr

/-- A TLP that arrives with an error (R115): an MMIO write of a function, or the completion of a DMA read of
tenant `t` for ring slot `idx`. -/
inductive RxTlp where
  | mmioWrite (fn : Fin 65)
  | completion (t : Fin 64) (idx : Nat)
  deriving DecidableEq, Repr

/-- What a debugger reaches through a graver (R171, R649), at an address of the plate's internal map. -/
inductive DebugTarget where
  | register
  | pc
  | rom (addr : Nat)
  | patchRam (addr : Nat)
  /-- Plate store, cell memory, queue manager or TDM highway buffers. -/
  | mapped (addr : Nat)
  | unmapped (addr : Nat)
  deriving DecidableEq, Repr

/-- One tone of a signal in one kernel frame (R257, R297-R300): its frequency in 0.1 Hz, its peak amplitude in the units of an
18-bit sample, by how many degrees its phase steps in the frame, and its amplitude modulation: frequency in 0.01 Hz, depth in
0.1 %. -/
structure Tone where
  freq : Nat
  amp : Nat
  turn : Nat
  amFreq : Nat
  amDepth : Nat
  deriving DecidableEq, Repr

/-- The resistances of a thermistor's half-bridge (R506), in mΩ: R_T between THn_IN and THn_RET as seen from the balls, and
R_REF. -/
structure Bridge where
  thermistor : Nat
  reference : Nat
  deriving DecidableEq, Repr

/-- What a detector finds in one kernel frame of a signal: its tones, and the peak amplitude of V.21 channel 2 HDLC flags, 0 for
none. -/
structure Heard where
  tones : List Tone := []
  flags : Nat := 0
  deriving DecidableEq, Repr

/-- What one channel's signals bring in one kernel frame: the bytes received in its timeslot, one for each highway frame, and the
tones in Rin, in Sin and in e. -/
structure FrameIn where
  ch : Fin 256
  line : List Byte
  rin : Heard
  sin : Heard
  e : Heard
  deriving DecidableEq, Repr

/-- What goes wrong in a plate's frame: an access of a graver outside what it reaches (R171), the header word of the slot of local
channel `ch` changed in a way that SECDED cannot see (R187), an uncorrectable error of the patch RAM (R181), or a graver's read of
a store line in which the bits of `flips` have changed: 36 data and 8 check bits (R182, R185). -/
inductive KernelFault where
  | access (v : Fin 4) (write : Bool) (addr : Nat)
  | header (ch : Fin 256) (word : BitVec 18)
  | patchRam
  | store (line : Fin 2097152) (flips : BitVec 44)
  deriving DecidableEq, Repr

/-- What goes wrong as the kernel of a plate is initialised: graver `v`'s check of its ROM fails (R187), or an uncorrectable error
of the patch RAM is found (R181). -/
inductive InitFault where
  | rom (v : Fin 4)
  | patchRam
  deriving DecidableEq, Repr

/-- Header of an Epkuone frame (R689) with the lane on which it arrived or leaves: 0 PAIR0, 1 PAIR1, 2 STACK_UP,
3 STACK_DN. `dest` 8 is every node. -/
structure EpkHdr where
  lane : Fin 4
  origin : Fin 8
  relayed : Bool
  hops : Fin 8
  plate : Option (Fin 8)
  dest : Fin 9
  seq : Nat
  deriving DecidableEq, Repr

/-- What a ROLE frame says of one plate (R690, R699): besides the fields of R690, whether the plate has been ACTIVE since
its last reset, whether its device's fuses enable it, which R698 and R699 compare, and whether the device holds the plate's
impression burst, which R706 asks of both. -/
structure RoleEntry where
  role : Fin 3
  prot : Fin 3
  epoch : Nat
  stamp : Nat
  wasActive : Bool
  running : Bool
  want : Fin 4
  enabled : Bool
  grant : Bool
  deriving DecidableEq, Repr

namespace Machine

/-- The configuration a channel runs on, as snapshotted when its request was served (R215). -/
structure ChConfig where
  codec : Nat := 0
  tail : Nat := 0
  bridge : Nat := 0
  tq : Nat := 6
  timeslot : Nat := 0
  peer : Nat := 0
  deriving DecidableEq, Repr

/-- The echo configuration a channel applies (R264). -/
structure EchoCfg where
  enable : Bool := true
  nlpMode : Nat := 2
  tdMode : Nat := 1
  fastEn : Bool := true
  bulkMs : Nat := 0
  muShift : Nat := 3
  dtDb : Nat := 6
  dtHangMs : Nat := 30
  convDb : Nat := 18
  attenDb : Nat := 30
  marginDb : Nat := 20
  cnMax : Int := -400
  releaseDbm0 : Int := -360
  releaseMs : Nat := 250
  deriving DecidableEq, Repr

/-- One call-progress detector as configured (R299): frequencies in 4 Hz units, times in 20 ms units. -/
structure CptCfg where
  f1 : Nat := 0
  f2 : Nat := 0
  onMin : Nat := 10
  offMin : Nat := 0
  deriving DecidableEq, Repr

/-- One generator profile (R302): frequencies in 4 Hz units; the cadence in 50 ms units, or in 250 ms units with `unit` 1. -/
structure TgProf where
  f1 : Nat := 0
  f2 : Nat := 0
  on : Nat := 0
  off : Nat := 0
  unit : Nat := 0
  deriving DecidableEq, Repr

/-- A comfort-noise estimate (R254, R255): whether one exists, the six coefficients of the linear-prediction filter in Q1.17, and the
filter's last outputs, newest first. -/
structure NoiseEst where
  valid : Bool := false
  a : List Int := []
  mem : List Int := []
  deriving DecidableEq, Repr

/-- The packet-leg and codec configuration a channel applies (R307): words as stored at apply. -/
structure MediaCfg where
  tmpl : List Byte := []
  ipv6 : Bool := false
  pt : Nat := 8
  evPt : Nat := 0
  rtcpEn : Bool := true
  rtcpMux : Bool := false
  udpCsum : Bool := true
  rxPt : Nat := 8
  rxEvPt : Nat := 0
  ssrcFixed : Bool := false
  ssrcRx : Nat := 0
  intervalMs : Nat := 5000
  cname : List Byte := []
  /-- Automatic initial values, and the initial words (R281). -/
  ssrcAuto : Bool := true
  seqAuto : Bool := true
  tsAuto : Bool := true
  ssrcTx : Nat := 0
  seqInit : Nat := 0
  tsInit : Nat := 0
  mode : Nat := 0
  fpp : Nat := 1
  vad : Bool := false
  /-- Format options: bit 0 amr_oa, 1 evs_hf, 2 evs_nb, 3 g726_aal2. -/
  fmt : Nat := 1
  cmrFollow : Bool := true
  cmrTx : Nat := 15
  dtmfMode : Nat := 1
  dtmfPkt : Bool := false
  cptEn : Nat := 0
  cptDir : Bool := false
  faxEn : Bool := true
  /-- Gains in 0.5 dB (R306). -/
  txGain : Int := 0
  rxGain : Int := 0
  /-- TD_CTRL.cpt_min_db and TD_CPT as applied (R299). -/
  cptMinDb : Nat := 35
  cpt : List CptCfg := []
  /-- TG_PROF as applied (R302). -/
  prof : List TgProf := []
  deriving DecidableEq, Repr

/-- The configuration a jitter buffer applies (R338). -/
structure JbCfg where
  fixed : Bool := false
  slip : Bool := false
  skip : Nat := 1
  silDb : Nat := 50
  minMs : Nat := 20
  maxMs : Nat := 200
  nomMs : Nat := 40
  marginMs : Nat := 5
  winS : Nat := 4
  dfWin : Nat := 16
  dfSlew : Nat := 20
  deriving DecidableEq, Repr

/-- The configuration a channel runs on (R215): that of the four chapters whose words an apply takes. -/
structure AppliedCfg where
  ch : ChConfig := {}
  echo : EchoCfg := {}
  media : MediaCfg := {}
  jb : JbCfg := {}
  deriving DecidableEq, Repr

end Machine

/-- The mirrored state of one channel as an impression or a proof carries it (R266, R334, R710, R711): descriptor words as
(offset, value), and the configuration as applied; coefficients, all taps in an impression, every fourth in a proof. Instants are
local time in 2⁻¹⁶ ns. -/
structure MirrorChan where
  ch : Fin 256
  words : List (Nat × Nat)
  applied : Machine.AppliedCfg
  phase : Nat
  bypass : Bool
  nlpOffTd : Bool
  forced : Bool
  toneRin : Nat
  toneSin : Nat
  quietMs : Nat
  erl : Nat
  erle : Nat
  rinNoise : Nat
  sinNoise : Nat
  rinEst : Machine.NoiseEst
  sinEst : Machine.NoiseEst
  taps : List Int
  posOk : Bool
  pos : Int
  posFrac : Nat
  posAt : Int
  ratio : Int
  aim : Int
  est : Int
  hasEst : Bool
  dfState : Nat
  fixedBuffer : Bool
  delay : Int
  target : Nat
  spread : Int
  rxSsrc : Option Nat
  maxSeq : Nat
  ssrc : Nat
  ipId : Nat
  nextSeq : Nat
  nextTs : Nat
  nextAt : Int
  txPkts : Nat
  txOctets : Nat
  stRxSsrc : Nat
  deriving DecidableEq, Repr

/-- What an Epkuone frame carries (R690). -/
inductive EpkBody where
  | hello (uid device sid : Nat) (pairEn : Bool) (lane : Nat) (node : Nat)
  /-- Times in 2⁻¹⁶ ns; `lastSeq` and `held` (2⁻³ ns) are bytes 24–31 (R724). -/
  | marker (time correction : Int) (tbState source lastSeq held : Nat)
  | role (subtype : Nat) (plates : List RoleEntry)
  | impression (number : Nat) (chans : List MirrorChan)
  | proof (number : Nat) (chans : List MirrorChan)
  | ack (number : Nat)
  | report (charge : Nat)
  | lease (leases : List Nat)
  | propose (round tc : Nat)
  | vote (round : Nat) (yes : Bool)
  | commit (round : Nat)
  | abort (round stamp : Nat)
  | wake (plates stamp : Nat)
  deriving DecidableEq, Repr

/-- The commands, first those with operands, each group in the table's order. The docstring of each gives its row's
summary. -/
inductive Instr where
  /-- A host write to a register field that has no row of its own is stored, dropped or clamped according to its access code and range. (R10) -/
  | registerWrite (fn : Fin 65) (sp : Space) (off : Nat) (data : Word)
  /-- A read of an RC field returns its value and clears it, or restarts a low-water or peak field from the current value. (R10) -/
  | readClear (fn : Fin 65) (sp : Space) (off : Nat)
  /-- A read of the low word of a 48-bit RC counter returns bits 31:0, clears the counter and latches bits 47:32 into its shadow. (R11) -/
  | counter48LowRead (fn : Fin 65) (off : Nat)
  /-- An MMIO request that breaks natural 32-bit alignment is an access violation: a write is dropped and a read returns 0xFFFF_FFFF. (R104) -/
  | misalignedMmioAccess (fn : Fin 65) (bar : Fin 6) (off : Nat) (be : BitVec 4) (dws : Nat) (write : Bool)
  /-- A write of EVENT_EN stores the enables, and asserts the sheet's interrupt for each set bit whose enable goes from 0 to 1. (R52) -/
  | eventEnableWrite (fn : Fin 65) (sheet : Nat) (data : Word)
  /-- A write of LOCK.claim equal to the writer's master ID acquires a free lock, or changes nothing if the lock is held. (R57) -/
  | lockClaim (fn : Fin 65) (sheet : Nat) (claim : BitVec 8)
  /-- A LOCK write with claim 0x00 from the holder releases the lock; from any other master it changes nothing. (R59) -/
  | lockRelease (fn : Fin 65) (sheet : Nat)
  /-- A write of 1 to LOCK.broken clears it only if the writer held the lock before the write. (R60) -/
  | lockBrokenClear (fn : Fin 65) (sheet : Nat) (claim : BitVec 8)
  /-- A lock held longer than lock_limit is a lock-overrun violation that freezes its holder. (R65) -/
  | lockOverrun (sheet : Nat)
  /-- Every 10 ms each traced sheet compares STATE with HOST_STATE and counts agreements and mismatches. (R68) -/
  | traceSample (sheet : Nat)
  /-- A lock holder's write of 1 to TRACE_CHECK.accept_path while held copies the seen state into HOST_STATE and ends the hold. (R74) -/
  | acceptPathWrite (fn : Fin 65) (sheet : Nat)
  /-- A write of COMPAT.prev selects CBN1024 behaviour, taking effect at once or only while the block is OFF, per the offered bits. (R80) -/
  | compatPrevWrite (fn : Fin 65) (sheet : Nat) (prev : Bool)
  /-- A write of the host port sheet's HOST_STATE records the intended link speed and width and ends any hold. (R119) -/
  | hostPortHostStateWrite (fn : Fin 65) (data : Word)
  /-- A PF write of a tenant sheet's HOST_STATE sets the tenant's intent to OFF or RUNNING and ends any hold. (R123) -/
  | tenantHostStateWrite (fn : Fin 65) (t : Fin 64) (data : Word)
  /-- A write of NumVFs stores at most TotalVFs, and VFs that stop being live undergo FLR effects. (R90) -/
  | numvfsWrite (n : Nat)
  /-- A write of Initiate FLR for a VF finishes its TLP on the link, abandons its unfinished operations and breaks its locks. (R106) -/
  | vfFlr (t : Fin 64)
  /-- The in-chip drain of an FLR ends, and unfinished operations are marked abandoned with their cells returned. (R108) -/
  | flrDrainComplete (fn : Fin 65)
  /-- An FLR completes: VF-written fields and MSI-X state are reset, the HP_FLR bit clears and flr_done is set. (R108) -/
  | flrComplete (fn : Fin 65)
  /-- A completion for a DMA read arrives and its data is placed, or is discarded if late or for an abandoned operation. (R101) -/
  | dmaReadCompletion (t : Fin 64) (idx : Nat) (off : Nat) (data : List Byte)
  /-- A DMA read whose completion does not arrive within the programmed timeout ends its operation with cpl_timeout. (R101) -/
  | completionTimeout (t : Fin 64) (idx : Nat)
  /-- An MMIO read not answered within 50 µs completes with 0xFFFF_FFFF and counts mmio_timeout. (R103) -/
  | mmioReadTimeout (fn : Fin 65) (off : Nat)
  /-- A poisoned TLP drops an MMIO write or ends a DMA read operation with poisoned, and is logged. (R115) -/
  | poisonedTlpReceived (tlp : RxTlp)
  /-- A TLP with an ECRC error is dropped, logged and handled as if lost. (R115) -/
  | ecrcError (tlp : RxTlp)
  /-- A malformed TLP or receiver overflow is logged as fatal and the TLP is dropped. (R115) -/
  | malformedTlp (overflow : Bool)
  /-- The host port link reaches L0 and the host port reports RUNNING with its trained width and speed. (R119) -/
  | linkTrained (width : BitVec 4) (speed : BitVec 4)
  /-- Unmasking an MSI-X vector whose PBA bit is set sends the pending message. (R114) -/
  | msixUnmask (fn : Fin 65) (vec : Nat)
  /-- A VF write of TEN_VF_NOTE stores the message and sets that VF's HP_NOTE bit and vf_note. (R126) -/
  | vfNoteWrite (t : Fin 64) (note : Word)
  /-- A PF write of TEN_PF_NOTE stores the message and sets the tenant's pf_note event. (R126) -/
  | pfNoteWrite (t : Fin 64) (note : Word)
  /-- A read of the LO word of HP_FROZEN, HP_NOTE or HP_FLR captures the register pair coherently for the HI read. (R122) -/
  | hpPairLoRead (fn : Fin 65) (pair : Pair)
  /-- A write of CR_TREE_SRC.prefer moves the reference tree to a present preferred source within 200 µs, or back to automatic order. (R129) -/
  | treePreferWrite (fn : Fin 65) (prefer : BitVec 2)
  /-- A higher-priority source present continuously for 1 s makes the reference tree slew onto it. (R130) -/
  | treeSourceReturn (src : ClockSrc)
  /-- A higher-priority timebase PLL source present for 1 s makes the PLL slew onto it. (R786) -/
  | timebasePllSourceReturn (src : ClockSrc)
  /-- A plate PLL loses lock; longer than 10 µs it causes a plate reset with cause clock. (R133) -/
  | platePllUnlock (p : Fin 8) (ns : Nat)
  /-- POR_N rises, the straps are sampled and the boot sequence begins. (R159) -/
  | porNRelease (straps : Straps)
  /-- VDD_AON has been within tolerance for 10 ms, ending the power-on reset if POR_N is high. (R142) -/
  | vddAonRecovered (straps : Straps)
  /-- A locked PF write of CR_RESET_REQ with chip set and confirm 0xA5 requests a chip reset. (R148) -/
  | chipResetRequest (fn : Fin 65) (data : Word)
  /-- A locked PF write of CR_RESET_REQ with plate_mask bits and confirm 0xA5 requests plate resets. (R148) -/
  | plateResetRequest (fn : Fin 65) (data : Word)
  /-- Once 50 µs have passed and supplies and PERST_N allow, the chip reset is released and boot resumes at step 2. (R785) -/
  | chipResetRelease (suppliesOk : Bool)
  /-- A plate's wake slot begins, spaced by gap_us from the previous wake, and its PLL restarts. (R164) -/
  | plateWakeSlot (p : Fin 8)
  /-- The restarted plate PLL locks. (R155) -/
  | platePllLock (p : Fin 8)
  /-- The plate store and cell memory have been written to zero with valid check bits. (R155) -/
  | plateStoreInitDone (p : Fin 8)
  /-- The Adenath kernel is initialised from ROM and the patch area copy, and the plate reaches OFF. (R155) -/
  | plateKernelInitDone (p : Fin 8) (fault : Option InitFault)
  /-- The patch bundle read from flash ends and is judged, and the patch area is written if it is accepted. (R645) -/
  | bootBundleReadDone (readOk : Bool) (header : List Byte) (payload : List Byte)
  /-- The plate's 1 ms frame tick hands samples to the gravers, serves requests and runs each channel's frame processing. (R177) -/
  | frameTick (p : Fin 8) (media : List FrameIn) (fault : Option KernelFault)
  /-- A graver misses the step 4 deadline for a channel, which repeats its TDM output and skips its packet. (R178) -/
  | graverOverrun (p : Fin 8) (v : Fin 4) (ch : Fin 256)
  /-- Burnishing reads the next store line, correcting and writing back a single-bit error. (R184) -/
  | burnishRead (p : Fin 8) (flips : BitVec 44)
  /-- A write of the plate sheet's HOST_STATE starts, stops or quiets the plate and ends any hold. (R196) -/
  | plateHostStateWrite (fn : Fin 65) (p : Fin 8) (data : Word)
  /-- A stopping plate's channels are idle and its DMA operations ended, so grants are released and it reaches OFF. (R196) -/
  | plateStopComplete (p : Fin 8)
  /-- A starting plate whose base grant was refused repeats the request every 10 ms. (R196) -/
  | baseGrantRetry (p : Fin 8)
  /-- A write of the graver cluster sheet's HOST_STATE records intent and ends any hold without changing the gravers. (R203) -/
  | graverClusterHostStateWrite (fn : Fin 65) (p : Fin 8) (data : Word)
  /-- A write of GC_DEBUG.halt halts or resumes the selected gravers in MAKER, OPEN and RETURNED, and stores 0 in FIELD. (R200) -/
  | graverDebugHaltWrite (fn : Fin 65) (p : Fin 8) (data : Word)
  /-- A write of the plate DMA sheet's HOST_STATE enables or refuses the plate's DMA service and ends any hold. (R206) -/
  | dmaHostStateWrite (fn : Fin 65) (p : Fin 8) (data : Word)
  /-- A write of TEN_DMA_CTRL.dma_en starts ring polling from the header's cons, or stops new operations. (R192) -/
  | dmaEnableWrite (fn : Fin 65) (t : Fin 64) (data : Word)
  /-- Every poll_us the plate DMA reads a tenant's ring header and the descriptors up to prod. (R191) -/
  | dmaRingPoll (t : Fin 64) (header : HeaderRead)
  /-- A read descriptor is checked in order and either fails with a status or becomes ready to start. (R787) -/
  | dmaDescriptorRead (t : Fin 64) (desc : DescRead)
  /-- A pending operation starts in ring order once the plate and tenant in-flight limits allow, issuing its TLPs. (R193) -/
  | dmaOperationStart (p : Fin 8)
  /-- An ended operation's status, then cons, then its vector 1 message are written in ring order after all earlier operations. (R194) -/
  | dmaStatusWrite (t : Fin 64)
  /-- A write of CH_INTENT makes an open, modify, mute, unmute or close request, and ends any channel hold. (R214) -/
  | chIntentWrite (fn : Fin 65) (g : Fin 2048) (data : Word)
  /-- A PF write of CH_OWNER assigns a slot only while the channel is idle or refused with want CLOSED. (R211) -/
  | chOwnerWrite (fn : Fin 65) (g : Fin 2048) (data : Word)
  /-- An open or modify on a quiet plate not running within 100 ms is refused with wake_timeout. (R223) -/
  | wakeTimeout (g : Fin 2048)
  /-- Every 10 ms each channel's want is compared with its path state, and a channel is held on the third mismatch. (R229) -/
  | channelTraceSample (g : Fin 2048)
  /-- A write of CH_TRACE.accept_path while held sets want from the seen state and ends the hold. (R232) -/
  | channelAcceptPath (fn : Fin 65) (g : Fin 2048)
  /-- A channel that has spent 2 s in FAST releases its burst grant and goes to NORMAL. (R245) -/
  | ecFastTimeout (g : Fin 2048)
  /-- EC_CMD.reset_coef sets the coefficients to zero and requests fast entry if Rin is active. (R245) -/
  | ecResetCoef (fn : Fin 65) (g : Fin 2048)
  /-- EC_CMD.td_force places the canceller in bypass until td_release. (R261) -/
  | ecTdForce (fn : Fin 65) (g : Fin 2048)
  /-- EC_CMD.td_release ends a forced or tone-caused bypass. (R261) -/
  | ecTdRelease (fn : Fin 65) (g : Fin 2048)
  /-- Channels waiting for fast entry are retried in channel order when a place or grant frees, or every 100 ms. (R248) -/
  | ecFastRetry (p : Fin 8)
  /-- Double-talk ends dt_hang_ms after the last qualifying sample, letting adaptation and the NLP resume. (R251) -/
  | doubleTalkHangEnd (g : Fin 2048)
  /-- Rin and Sin below the release level for release_ms release the tone disabler at the next tick. (R260) -/
  | toneDisablerRelease (g : Fin 2048)
  /-- At its randomised interval the channel sends a compound RTCP packet with an SR or RR and SDES. (R290) -/
  | rtcpSend (g : Fin 2048)
  /-- A write of EV_SEND with send 1 starts an RFC 4733 event at the next tick or queues it. (R295) -/
  | eventSendWrite (fn : Fin 65) (g : Fin 2048) (data : Word)
  /-- Every 50 ms during an outgoing event an update packet is sent. (R293) -/
  | eventUpdateSend (g : Fin 2048)
  /-- An end packet of an outgoing event is sent at the end tick and 10 ms and 20 ms after it. (R293) -/
  | eventEndSend (g : Fin 2048)
  /-- A received event played as DTMF stops 150 ms beyond its reported duration without another packet. (R296) -/
  | eventPlayTimeout (g : Fin 2048)
  /-- A write of TG_CMD starts or stops a generator profile at the next frame tick. (R303) -/
  | toneGenCommand (fn : Fin 65) (g : Fin 2048) (data : Word)
  /-- Each whole second the jitter buffer updates D, J and the target delay and the drift follower recomputes its estimate. (R319) -/
  | jitterSecondUpdate (g : Fin 2048)
  /-- JB_CMD.resync restarts the buffer at the next tick, keeping the drift estimate. (R330) -/
  | jbResyncCommand (fn : Fin 65) (g : Fin 2048)
  /-- JB_CMD.df_reset sets the drift estimate to 0 and clears the regression points without restarting the buffer. (R331) -/
  | dfResetCommand (fn : Fin 65) (g : Fin 2048)
  /-- A write of QD_CTRL.flush frees every entry enqueued before the write without counting drops. (R359) -/
  | queueFlush (fn : Fin 65) (p : Fin 8) (q : Fin 1024)
  /-- A PF write of QD_OWNER of a steering or general queue takes effect only while it is empty and no DMA names it. (R345) -/
  | queueOwnerWrite (fn : Fin 65) (p : Fin 8) (q : Fin 1024) (data : Word)
  /-- A steering queue entry moves to the tail of its relay general queue once it fits. (R346) -/
  | steeringRelay (p : Fin 8) (q : Fin 32)
  /-- A write of the frame MAC's HOST_STATE starts, stops or quiets the port and ends any hold. (R371) -/
  | macHostStateWrite (fn : Fin 65) (p : Fin 8) (data : Word)
  /-- Mn_ABS going high while starting or running puts the port in FAULT. (R370) -/
  | moduleAbsent (p : Fin 8) (high : Bool)
  /-- Mn_TXFAULT high for 100 µs while starting or running puts the port in FAULT. (R370) -/
  | moduleTxFault (p : Fin 8) (high : Bool) (ns : Nat)
  /-- The PCS reports link for up_hold_ms and the link is declared up, resuming transmission at the next hatch-cycle boundary. (R372) -/
  | linkUpDeclare (p : Fin 8) (speed : Fin 3) (heldNs : Nat)
  /-- The PCS loses link for over 10 µs, the link is declared down and flap grace starts. (R373) -/
  | linkDownDeclare (p : Fin 8) (remote : Bool)
  /-- Flap grace ends with the link down and every TQ entry is freed and counted in tx_flushed. (R376) -/
  | flapGraceExpire (p : Fin 8)
  /-- A voice entry at a TQ head whose deadline has passed is freed and counted in tx_expired. (R378) -/
  | txEntryExpire (p : Fin 8) (q : Fin 8)
  /-- A received frame's first byte triggers its 16-cell allocation check. (R351) -/
  | frameFirstByte (p : Fin 8) (head : List Byte)
  /-- A received frame's last byte arrives and the frame is checked, classified, steered and stored or dropped. (R390) -/
  | frameReceived (p : Fin 8) (bytes : List Byte) (align : Bool) (fcsOk : Bool)
  /-- A received PAUSE frame sets or clears the pause timer, or is ignored during a pause hold. (R386) -/
  | pauseFrameReceived (p : Fin 8) (quanta : BitVec 16)
  /-- The pause timer reaches zero and the port may start frames again. (R386) -/
  | pauseTimerExpire (p : Fin 8)
  /-- Continuous pause beyond pause_guard clears the timer and starts a pause hold. (R387) -/
  | pauseGuardExpire (p : Fin 8)
  /-- The pause hold ends after pause_hold and PAUSE frames are honoured again. (R387) -/
  | pauseHoldEnd (p : Fin 8)
  /-- Half the sent pause time passes while the pool stays at or below the floor, and the PAUSE frame is repeated. (R388) -/
  | pauseTxRepeat (p : Fin 8)
  /-- The free transmitter chooses the highest TQ whose gate is open, whose head fits and whose shaper allows, and starts the frame. (R421) -/
  | transmitChoice (p : Fin 8)
  /-- A frame's last byte leaves the port and its entry is freed and counted. (R380) -/
  | transmitEnd (p : Fin 8)
  /-- The transmit buffer empties mid-frame, the frame ends with a bad FCS and txstart is raised by 256. (R384) -/
  | txUnderrun (p : Fin 8) (sent : Nat)
  /-- A read of MAC_TXTS_POP returns its word and removes the head timestamp record. (R409) -/
  | txtsPopRead (fn : Fin 65) (p : Fin 8)
  /-- A write of the hatch scheduler's HOST_STATE places the grid and starts it, or stops it after the running cycle. (R418) -/
  | hatchHostStateWrite (fn : Fin 65) (p : Fin 8) (data : Word)
  /-- A grid instant or cycle end is reached and the next hatch cycle begins, or a swap or gap takes effect. (R414) -/
  | hatchCycleBoundary (p : Fin 8)
  /-- A hatch table entry boundary opens or closes gates and the transmitter choice is repeated. (R416) -/
  | gateEdge (p : Fin 8)
  /-- At each 1 µs refill tick every enabled shaper adds its rate to its level, capped at burst. (R425) -/
  | refillTick (p : Fin 8)
  /-- HS_SWAP go with a non-active bank makes it pending to act at a later cycle end. (R431) -/
  | hatchSwapGo (fn : Fin 65) (p : Fin 8) (bank : Fin 2)
  /-- HS_SWAP cancel removes a pending swap if it arrives at least 2 µs before it would act. (R432) -/
  | hatchSwapCancel (fn : Fin 65) (p : Fin 8)
  /-- A write of SH_RESET sets the named shapers' levels to 0. (R428) -/
  | shaperReset (fn : Fin 65) (p : Fin 8) (data : Word)
  /-- A write of the TDM highway's HOST_STATE applies TH_CFG and starts it, or stops it. (R455) -/
  | tdmHostStateWrite (fn : Fin 65) (p : Fin 8) (data : Word)
  /-- An elastic store spacing reaches 1.75 or 0.25 frames and one whole frame is deleted or repeated. (R450) -/
  | elasticSlip (p : Fin 8) (rx : Bool) (deleted : Bool)
  /-- No slave Tp_CLK edge for 2 µs declares clock lost and channels receive silence. (R453) -/
  | tdmClockLost (p : Fin 8)
  /-- Tp_CLK edges at nominal rate for 100 µs declare the clock back. (R453) -/
  | tdmClockBack (p : Fin 8)
  /-- Tp_FS not at its expected bit counts an FS error, and three in a row unlock frame sync. (R453) -/
  | tdmFsError (p : Fin 8)
  /-- Two FS pulses one frame apart realign the elastic stores and make a starting slave highway RUNNING. (R453) -/
  | tdmRealign (p : Fin 8)
  /-- A write of the timebase HOST_STATE starts reference selection in a servo mode, or returns it to FREE. (R466) -/
  | timebaseHostStateWrite (fn : Fin 65) (data : Word)
  /-- An accepted PPS_IN edge completes a period and yields a labelled phase error for the servo. (R470) -/
  | ppsEdge (falling : Bool) (width : Nat)
  /-- A write of TB_PTP_SUBMIT submits the PTP offset as a measurement, or rejects it. (R472) -/
  | ptpSubmit (fn : Fin 65) (data : Word)
  /-- A write of TB_TOD_NEXT_LO arms the seconds label for the next PPS_IN edge. (R471) -/
  | todNextArm (fn : Fin 65) (data : Word)
  /-- Each second a frequency source's error is measured and the servo updates y. (R476) -/
  | freqSourceSecond (refIn : Bool) (samples : List Int)
  /-- A frequency source within range for 10 s becomes qualified. (R469) -/
  | sourceQualifyTimer (refIn : Bool)
  /-- A write of TB_SET_CTRL.go takes an absolute time or offset and steps or slews it. (R482) -/
  | timeSetGo (fn : Fin 65) (data : Word)
  /-- In external servo mode a write of TB_EXT_FREQ supplies y. (R477) -/
  | extFreqWrite (fn : Fin 65) (data : Word)
  /-- In external servo mode a write of TB_EXT_CTRL.ext_state sets the timebase state. (R477) -/
  | extStateWrite (fn : Fin 65) (data : Word)
  /-- HM_CMD.reset clears the coefficients, learn_h and covariance and starts a new epoch. (R489) -/
  | modelReset (fn : Fin 65)
  /-- HM_CMD.export copies the model into HM_IMAGE. (R489) -/
  | modelExport (fn : Fin 65)
  /-- HM_CMD.import checks HM_IMAGE and takes the model from it, or reports why not. (R489) -/
  | modelImport (fn : Fin 65)
  /-- A read of TB_TIME_NS or PT_TIME_NS captures the time for the following seconds and fraction reads. (R490) -/
  | timeCaptureRead (fn : Fin 65) (plate : Option (Fin 8))
  /-- Every 1 µs the timebase sends each plate a broadcast word with site time, step flag and check code. (R492) -/
  | broadcastWord (bad : BitVec 8)
  /-- bc_miss consecutive bad words put the plate timekeeper on its own clock. (R493) -/
  | broadcastLoss (p : Fin 8)
  /-- After 1 ms of valid words the timekeeper records its offset and adopts or slews toward site time. (R494) -/
  | broadcastBack (p : Fin 8)
  /-- The timekeeper's rejoin slew reaches 8 ns and it adopts site time, realigning the plate. (R494) -/
  | rejoinAdopt (p : Fin 8)
  /-- A write of the plate timekeeper's HOST_STATE keeps it on its own clock or starts a rejoin. (R495) -/
  | timekeeperHostStateWrite (fn : Fin 65) (p : Fin 8) (data : Word)
  /-- A write of the front end's HOST_STATE starts excitation and readings, or turns them off. (R528) -/
  | frontEndHostStateWrite (fn : Fin 65) (data : Word)
  /-- Every 100 ms each enabled thermistor channel produces a reading that is linearised and judged good or not. (R514) -/
  | frontEndReading (th0 : Bridge) (th1 : Bridge) (die : Int)
  /-- Each second a thermistor channel forms a mean and recomputes its rate over the last 600 means. (R517) -/
  | frontEndRateSecond (n : Fin 2)
  /-- A write of 1 to FE_TH_CFG.loaded copies a channel's coefficients into its evaluator and invalidates it. (R513) -/
  | coefLoadWrite (fn : Fin 65) (data : Word)
  /-- Every 100 ms EFC_REF is measured and low is reported below 900 mV. (R525) -/
  | efcRefMeasure (mv : Nat)
  /-- A write of FE_EFC_MAN drives EFC_OUT with the manual code while the timebase is OFF. (R526) -/
  | efcManualWrite (fn : Fin 65) (data : Word)
  /-- Each island measurement interval forms power and adds its energy to the forward or reverse accumulator. (R545) -/
  | islandInterval (k : Fin 8) (current : List Int) (volts : List Int)
  /-- Each 1 ms window the island publishes window power and the feed and island blocks into the mailbox. (R547) -/
  | islandWindowPublish (arrives : Bool)
  /-- Every 100 ms a feed temperature reading is taken, linearised and judged valid or not. (R539) -/
  | islandTempReading (k : Fin 8) (th : Bridge) (die : Int)
  /-- Fk_DRV at its current limit for 1 ms sets flux_fault and stops the feed's energy accumulation. (R537) -/
  | fluxDriveLimit (k : Fin 8) (limited : Bool)
  /-- A debounced change of SEAL_EN writes an audit record and reloads shadow sets on release. (R549) -/
  | sealEnChange (level : Bool)
  /-- The READ_PARAM command returns a parameter value, and the shadow value for coefficients. (R563) -/
  | uartReadParam (item : BitVec 16)
  /-- The WRITE_PARAM command stores a parameter under SEAL_EN, counting and logging a change. (R551) -/
  | uartWriteParam (item : BitVec 16) (value : Word) (nvmOk : Bool)
  /-- The COMMIT command copies shadow coefficient sets to active sets, logging each changed set. (R552) -/
  | uartCommit (feed : BitVec 8) (mask : BitVec 8) (nvmOk : Bool)
  /-- The READ_LOG command returns an audit record by index. (R563) -/
  | uartReadLog (index : Word)
  /-- The STREAM command starts or stops periodic feed block frames. (R563) -/
  | uartStream (feed : BitVec 8) (period : BitVec 16)
  /-- Each stream period the island sends an unsolicited feed block frame. (R563) -/
  | streamFeedSend (k : Fin 8)
  /-- The TP_SET command selects the test pulse feed, direction, constant and enable. (R563) -/
  | uartTpSet (feed : BitVec 8) (direction : BitVec 8) (constant : BitVec 8) (enable : BitVec 8)
  /-- The READ_FEED command returns a feed block. (R563) -/
  | uartReadFeed (feed : BitVec 8)
  /-- A UART frame with bad CRC, length or gap is discarded and counted in uart_bad. (R562) -/
  | uartBadFrame (bytes : List Byte) (gap : Bool)
  /-- VDD_ISL below 3.0 V stops measurement and writes a checkpoint before reset at 2.8 V. (R558) -/
  | vddIslLow (reset : Bool) (holdUp : Bool)
  /-- A read of MB_SEQ latches the latest complete publication for the following mailbox reads. (R566) -/
  | mbSeqRead (fn : Fin 65)
  /-- A locked PF write of FZ_UNFREEZE with the matching seq ends a non-PF master's freeze. (R586) -/
  | unfreezeWrite (fn : Fin 65) (data : Word)
  /-- A read of FZ_REC0 or a history word 0 captures the six record words coherently. (R584) -/
  | freezeRecordRead (fn : Fin 65) (sel : Option (Fin 16))
  /-- Draining a reset master exceeds 20 µs and is recorded, with plate resets for FLR and agent resets. (R594) -/
  | drainOverrun (master : BitVec 8) (plate : Fin 8) (us : Nat)
  /-- A write of WD_SERVICE is evaluated against the window and token as ignored, failure or good service. (R610) -/
  | watchdogService (fn : Fin 65) (c : Fin 9) (data : Word)
  /-- A channel's elapsed reaches its period and it fails with cause expiry. (R611) -/
  | watchdogExpiry (c : Fin 9)
  /-- A locked write of WD_CTRL.start starts an OFF channel with a new challenge. (R614) -/
  | watchdogStart (fn : Fin 65) (c : Fin 9) (data : Word)
  /-- The first write of WD_KEY after a start-state reset sets the key; later writes are ignored. (R607) -/
  | watchdogKeyWrite (fn : Fin 65) (c : Fin 9) (data : Word)
  /-- A write of WD_DEBUG.hold 1 holds a plate channel in debug-permitting states. (R617) -/
  | watchdogDebugHold (fn : Fin 65) (c : Fin 9)
  /-- A write of WD_DEBUG.hold 0 releases the hold with elapsed 0. (R617) -/
  | watchdogDebugRelease (fn : Fin 65) (c : Fin 9)
  /-- A channel's elapsed reaches P − L and window_open is set. (R625) -/
  | watchdogWindowOpen (c : Fin 9)
  /-- A kernel-served channel of a quiet plate reaches its latch point and latches a wake. (R622) -/
  | watchdogWakeLatch (c : Fin 9)
  /-- A PF write of 1 to WD_EV_CAUSE.valid clears the evidence fields. (R620) -/
  | evidenceClear (fn : Fin 65) (c : Fin 9)
  /-- Every 1,024 ticks the always-on tick length is measured against site time. (R600) -/
  | tickMeasure (ns : Nat)
  /-- A locked PF write of LC_REQ advances or resets the three-word transition sequence. (R630) -/
  | lifecycleRequestWord (fn : Fin 65) (word : Word)
  /-- The transition fuse is blown and verified and the new state is pending. (R632) -/
  | transitionFuseDone (ok : Bool)
  /-- A write of LC_RTM_IMG stores an image word and clears rtm_armed. (R636) -/
  | rtmImageWrite (fn : Fin 65) (w : Fin 32) (data : Word)
  /-- A locked write of LC_RTM_VERIFY.go starts checking the return-to-maker image. (R635) -/
  | rtmVerifyGo (fn : Fin 65)
  /-- A locked PF write of LC_FUSE_CMD with confirm 0x5A programs an option fuse group. (R641) -/
  | fuseProgramCmd (fn : Fin 65) (data : Word)
  /-- Option fuse programming completes with a result and fuse_done. (R641) -/
  | fuseProgramDone (ok : Bool)
  /-- The EXTEST instruction drives the balls from the boundary-scan cells. (R646) -/
  | extest (cells : List Bool)
  /-- The SAMPLE/PRELOAD instruction samples the balls and preloads the scan cells. (R646) -/
  | samplePreload (balls : List Bool) (cells : List Bool)
  /-- A maker test instruction 0x20–0x3F acts in MAKER and RETURNED. (R646) -/
  | makerTest (code : Fin 32)
  /-- A debugger halts a graver through DEBUG, as a debug halt. (R649) -/
  | debugHalt (p : Fin 8) (g : Fin 4)
  /-- A debugger resumes a halted graver through DEBUG. (R649) -/
  | debugResume (p : Fin 8) (g : Fin 4)
  /-- A debugger single-steps a halted graver through DEBUG. (R649) -/
  | debugSingleStep (p : Fin 8) (g : Fin 4)
  /-- A debugger reads registers or memory through a graver, as that graver's access. (R649) -/
  | debugAccess (p : Fin 8) (g : Fin 4) (target : DebugTarget) (write : Bool)
  /-- A port whose lane grant was refused repeats the request every 10 ms. (R661) -/
  | laneGrantRetry (epk : Bool) (port : Fin 8)
  /-- A quiet request not entered within lapse_ms lapses and the plate returns to RUNNING. (R664) -/
  | quietLapse (p : Fin 8)
  /-- A write of the quiet sheet's HOST_STATE enables or disables this member's yes vote. (R683) -/
  | quietHostStateWrite (fn : Fin 65) (data : Word)
  /-- A write of QM_WAKE_REQ requests a host wake of the named plates. (R669) -/
  | wakeRequestWrite (fn : Fin 65) (data : Word)
  /-- Every 1 ms each SITE_IN is sampled and debounced, yielding active or inactive events. (R679) -/
  | siteInSample (input : Fin 8) (pin : Bool)
  /-- An input active for 10 s is declared stuck and its active events are masked. (R681) -/
  | siteInStuck (input : Fin 8)
  /-- A member receives PROPOSE and sends its vote. (R677) -/
  | proposeReceived (h : EpkHdr) (round : BitVec 8) (tc : Nat)
  /-- The coordinator receives a vote, committing when all are yes or aborting on a no. (R677) -/
  | voteReceived (h : EpkHdr) (round : BitVec 8) (yes : Bool)
  /-- A voted member receives COMMIT and becomes ARMED. (R677) -/
  | commitReceived (h : EpkHdr) (round : BitVec 8)
  /-- A member receives ABORT stamped before T_c and returns to IDLE. (R677) -/
  | abortReceived (h : EpkHdr) (round : BitVec 8) (stamp : Nat)
  /-- A write of the Epkuone sheet's HOST_STATE enables the lanes, or releases active plates and takes the lanes OFF. (R736) -/
  | epkHostStateWrite (fn : Fin 65) (data : Word)
  /-- An Epkuone lane holds block lock for 1 ms and starts sending HELLO. (R693) -/
  | laneBlockLock (l : Fin 4)
  /-- Every 100 µs a locked lane sends HELLO. (R693) -/
  | helloSend (l : Fin 4)
  /-- A received HELLO is accepted, bringing the lane UP, or refused as a conflict. (R694) -/
  | helloReceived (l : Fin 4) (peer : BitVec 64) (device : BitVec 16) (sid : Fin 4) (pairEn : Bool) (lane : Fin 4) (node : Fin 8)
  /-- A lane making no progress for 100 ms returns to TRAIN. (R693) -/
  | laneTrainTimeout (l : Fin 4)
  /-- An UP lane loses block lock or receives no frame for loss_ms and returns to TRAIN. (R693) -/
  | laneLoss (l : Fin 4) (blockLock : Bool)
  /-- An Epkuone frame with bad CRC, length or type is discarded and counted. (R691) -/
  | epkBadFrame (l : Fin 4)
  /-- A received MARKER updates lane delay and gives a phase error for source 4. (R726) -/
  | markerReceived (h : EpkHdr) (time : Int) (correction : Int) (tbState : Nat) (source : Nat) (lastSeq : Nat) (held : Nat)
  /-- A received ROLE frame settles plate roles, requests takeover on release, or demotes a plate. (R699) -/
  | roleReceived (h : EpkHdr) (subtype : Fin 3) (plates : List RoleEntry)
  /-- At the first frame tick after the decision a standby plate becomes active and resumes its mirrored channels. (R716) -/
  | takeover (p : Fin 8)
  /-- A refused impression burst grant is requested again every 100 ms. (R706) -/
  | impressionGrantRetry (p : Fin 8)
  /-- The standby receives IMPR_END, checks the CRC and applies the impression and later proofs. (R707) -/
  | impressionEndReceived (h : EpkHdr) (number : BitVec 32) (chans : List MirrorChan) (crcOk : Bool)
  /-- The standby receives PROOF_END, applies the proof and sends ACK, or counts a gap. (R709) -/
  | proofEndReceived (h : EpkHdr) (number : BitVec 32) (whole : Bool) (chans : List MirrorChan)
  /-- The active device receives ACK and updates the plate's protection. (R704) -/
  | ackReceived (h : EpkHdr) (number : BitVec 32)
  /-- A write of EK_PLATE.want requesting the other role starts a handover at the next proof snapshot. (R719) -/
  | switchoverRequest (fn : Fin 65) (p : Fin 8) (data : Word)
  /-- Every 10 ms each plate's want is compared with its role, holding pair activity on the third mismatch. (R720) -/
  | pairTraceSample (p : Fin 8)
  /-- A write of EK_PTRACE.accept_path while held sets want to the seen role and ends the hold. (R721) -/
  | pairAcceptPath (fn : Fin 65) (p : Fin 8)
  /-- The master receives reports and sends STK_LEASE with each node's lease. (R728) -/
  | stkReportReceived (h : EpkHdr) (charge : Nat)
  /-- A device receives STK_LEASE and adopts its new lease. (R729) -/
  | stkLeaseReceived (h : EpkHdr) (leases : List Nat)
  /-- A received WAKE frame wakes the named coordinated plates that are quiet or entering quiet. (R673) -/
  | wakeFrameReceived (h : EpkHdr) (plates : BitVec 8) (stamp : Nat)
  /-- A locked write of EK_CMD.agent_reset resets and drains the Epkuone agent, dropping protection. (R734) -/
  | agentReset (fn : Fin 65) (data : Word)
  /-- A clock source's edges are counted within ±2 % over 100 µs, so it becomes present, and REFCLK present for 100 µs lets the host port train again. (R129) -/
  | referencePresent (src : ClockSrc) (at25 : Bool)
  /-- A clock source that neither the tree nor the timebase PLL uses stops being present, which sets ref_lost and disqualifies the matching timebase source. (R168) -/
  | referenceAbsent (src : ClockSrc)
  /-- A starting master highway drives its first Tp_FS at a multiple of 125,000 ns of timekeeper time and becomes RUNNING. (R447) -/
  | masterFsStart (p : Fin 8)
  /-- The slave highway's one-second frequency average updates TH_FREQ, and a crossing of ±200 ppm changes detail bit 2 and sets clk_range. (R449) -/
  | highwayFreqUpdate (p : Fin 8) (ppb : Int)
  /-- A stack node sends no frame for loss_ms and stops being present, which may change the master, the leases and the vote coordinator. (R695) -/
  | nodeAbsent (n : Fin 8)
  /-- Clearing VF Enable applies FLR effects to every VF that stops being live. (R110) -/
  | vfEnableClear
  /-- An FLR of the PF resets its config space and MSI-X, clears VF Enable and applies FLR effects to every live VF. (R109) -/
  | pfFlr
  /-- D3hot on the PF disables MMIO to the PF and every VF and disables PF MSI-X messages. (R111) -/
  | d3hotEntry
  /-- Return of the PF to D0 re-enables MMIO with all device state intact. (R111) -/
  | d0Return
  /-- A data link or flow control protocol error is logged as fatal and the link retrains. (R115) -/
  | linkProtocolError (error : LinkError)
  /-- The data link goes down, abandoning every DMA operation and performing a host port reset. (R149) -/
  | linkDownReset
  /-- A received hot reset performs a host port reset with the effects of a PF FLR. (R149) -/
  | hotResetReceived
  /-- REFCLK stops being present while the link is up, so the transmitters go idle and a link-down reset follows. (R132) -/
  | refclkLoss
  /-- The PCI Express link leaves L1, a wake source for the plates in QM_PCIE_WAKE. (R669) -/
  | l1Exit
  /-- The reference tree's source is lost, the PLL holds frequency and moves to the next present source. (R130) -/
  | treeSourceLoss
  /-- The timebase PLL's source is lost and it moves to the next present source without stepping site time. (R786) -/
  | timebasePllSourceLoss
  /-- The timebase PLL actually loses lock and tb_pll_unlock is set. (R168) -/
  | timebasePllUnlock
  /-- POR_N goes low and the device enters power-on reset. (R147) -/
  | porNAssert
  /-- VDD_AON falls below 0.70 V and a power-on reset begins whatever POR_N holds. (R142) -/
  | vddAonLow
  /-- VDD_CORE or VDD_SRAM stays below its monitor threshold for over 5 µs, causing a chip reset with cause supply. (R142) -/
  | supplyDip
  /-- PERST_N goes low, causing a host port reset or, with PERST_MODE 1, a chip reset. (R147) -/
  | perstNAssert
  /-- PERST_N rises and the host port enters Detect within 2 ms. (R160) -/
  | perstNRelease
  /-- Every enabled plate has reached OFF, CR_BOOT.done is set and ALM_N is released. (R159) -/
  | bootDone
  /-- The power arbiter answers a pending grant request, granting or refusing it against the ceiling and reserve. (R660) -/
  | arbiterAnswer
  /-- No PPS_IN edge by 1.001 s after the last disqualifies source 0. (R470) -/
  | ppsPeriodFault
  /-- PPS_IN held at one level for more than 1.2 s sets stuck and pps_stuck. (R470) -/
  | ppsStuck
  /-- No PTP measurement accepted for ptp_timeout_ms disqualifies source 1. (R469) -/
  | ptpSourceTimeout
  /-- A higher-priority source qualified for wtr_s seconds replaces the working source while revert is 1. (R474) -/
  | wtrExpire
  /-- Every 1 ms the timebase writes the EFC_OUT code from y. (R463) -/
  | efcUpdate (osc : Int)
  /-- A phase slew profile finishes removing its offset. (R480) -/
  | slewProfileEnd
  /-- Each second in holdover the model is re-evaluated and the holdover frequency updated. (R485) -/
  | holdoverEval
  /-- No TB_EXT_FREQ write for ext_timeout_ms while locked or relocking enters holdover. (R477) -/
  | extTimeout
  /-- Every 60 s under the learning conditions the holdover model takes a sample and updates its coefficients. (R486) -/
  | learnSample
  /-- At each whole second PPS_OUT rises for pps_w_ms when enabled. (R491) -/
  | ppsOutPulse
  /-- An excitation current limit held for 1 ms turns off all excitation and sets the front end to FAULT. (R521) -/
  | excitationFault
  /-- One second after an excitation fault the front end restarts if its intent is RUNNING. (R521) -/
  | excitationRetry
  /-- An ISL_TP pulse and its low time end and the next queued pulse may start. (R564) -/
  | testPulseEnd
  /-- The IDENT command returns firmware version, ROM CRC, serial, seal count and log count. (R563) -/
  | uartIdent
  /-- Every 60 s the island writes a checkpoint of accumulators and T_feed to NVM. (R557) -/
  | islandCheckpoint
  /-- ISL_POR_N low writes a checkpoint and holds the island in reset. (R559) -/
  | islPorNAssert
  /-- The island leaves reset, restores its latest checkpoint and counts powerups. (R560) -/
  | islandResetRelease
  /-- The island crystal fails, accumulation stops and publications carry clock_fault. (R548) -/
  | crystalFail
  /-- The crystal has run for 1 s and the island resumes accumulating. (R548) -/
  | crystalResume
  /-- No publication for 10 ms makes the mailbox sheet report FAULT and set island_lost. (R569) -/
  | islandLost
  /-- A PF freeze ends by itself after pf_hold_ms always-on ticks. (R588) -/
  | pfFreezeExpire
  /-- A gap over 1 ms in the LC_REQ sequence resets it with result sequence. (R630) -/
  | lifecycleRequestTimeout
  /-- The image check ends with a result and arms the request if verified. (R635) -/
  | rtmVerifyDone
  /-- TRST_N low holds the TAP in Test-Logic-Reset with IDCODE selected. (R646) -/
  | trstNAssert
  /-- The IDCODE instruction selects the identification register 0x1204_8D6F. (R647) -/
  | idcode
  /-- The CLAMP instruction holds the balls at the scan cells with BYPASS selected. (R646) -/
  | clamp
  /-- The HIGHZ instruction places the scanned outputs in high impedance. (R646) -/
  | highz
  /-- The BYPASS instruction, or any instruction not allowed in the state, selects the bypass register. (R646) -/
  | bypass
  /-- The DEBUG instruction connects the TAP to the gravers' debug ports in MAKER, OPEN and RETURNED. (R649) -/
  | debug
  /-- The coordinator proposes a quiet round with commit instant T_c. (R676) -/
  | votePropose
  /-- The coordinator lacks every vote within vote_ms and aborts the round. (R677) -/
  | voteWindowTimeout
  /-- A voted member has no COMMIT by T_c − 1 ms and aborts. (R677) -/
  | commitWaitTimeout
  /-- At T_c + 50 µs an armed member enters quiet mode for every coordinated plate. (R677) -/
  | commitInstant
  /-- At each whole millisecond a MARKER is sent on every UP lane. (R696) -/
  | markerSend
  /-- Three ms without a qualifying marker from the origin disqualifies source 4. (R726) -/
  | epkTimeSourceLoss
  /-- No frame from the pair partner for loss_ms declares the partner lost. (R696) -/
  | partnerLoss
  /-- Every 10 ms and at each change a device sends a ROLE frame for its plates. (R698) -/
  | roleSend
  /-- Every 10 ms each device reports its active charge to the stack master. (R728) -/
  | stkReportSend
  /-- The PCI Express link enters ASPM L1 and HP_LINK.in_l1 sets while the host port stays RUNNING. (R119) -/
  | aspmL1Entry
  /-- A write that sets VF Enable makes the VFs up to NumVFs on enabled plates live and sets vf_enable_change. (R92) -/
  | vfEnableSet
  /-- At boot step 4 the tree, service and timebase PLLs lock, site time starts at 0 in FREE, and the host port may enter Detect. (R159) -/
  | bootPllLock
  deriving DecidableEq, Repr

end Sys2Proof
end

