-- ==== Sys2Proof/Config.lean ====
section
/-! DEFINITION. What a run of the block does not fix: the free values (opaque constants with no body) and the
few model constants that a log entry names. A free value is drawn by applying the constant to the draw counter
`State.draws`, to a tag that says what is drawn, and so is a fresh value at every draw. -/

namespace Sys2Proof

/-- A free value for the draw number `n` (DESIGN CHOICE, log entry 7): a random number of the hardware, the output
of a codec, a detector or a level meter, or any other value the spec leaves open. Nothing constrains it. -/
opaque Config.freeNat : Nat → Nat

/-- A free truth value for the draw number `n` (DESIGN CHOICE, log entry 7): a detector's or a cryptographic
check's verdict that the spec does not let one compute. -/
opaque Config.freeBool : Nat → Bool

/-- The chip's 64-bit unique ID, blown at manufacture (03_host_port.md R86); its value is left open. -/
opaque Config.uid : Nat

/-- The lane equalisation control values of the 8 GT/s capability, by double word (03_host_port.md R86), left open. -/
opaque Config.laneEq : Nat → Nat

/-- SHA-256 of a byte sequence, a standard the spec names and does not restate (R634, R644). -/
opaque Config.sha256 : List Byte → List Byte

/-- Does the ECDSA P-256 signature `r`, `s` over a digest verify with key number `key` (0 to 3 production, 4 debug)?
The keys are held in boot ROM and left open (R634, R644). -/
opaque Config.ecdsaOk : Nat → List Byte → List Byte → List Byte → Bool

/-- Coefficient `i` of the kernel's 32-tap quadrature mirror filter, lower band, in Q1.17 (R242), left open. -/
opaque Config.qmf : Nat → Int


/-- The loop gains 0 to 2 of the converters' second-order modulators (R502), left open. -/
opaque Config.loopGain : Nat → Int

/-- The offset of converter `n`'s amplifier in 2⁻²³ of its reference (R503, R504), left open; the island's converters count
from 16. -/
opaque Config.ampOffset : Nat → Int

/-- The fixed path delay of the chopped signal in modulator cycles (R503), left open. -/
opaque Config.chopDelay : Nat


/-- Entry `i` of the covariance that the learning starts from once it has been cleared (R486, R489), a single-precision word,
and what a word that is an infinity or a NaN counts as: left open. -/
opaque Config.rlsStart (i : Nat) : Nat
opaque Config.f32Special (w : Nat) : Int

/-- The natural frequency of the servo, 2⁻³² rad/s, for a bandwidth of `bw` mHz and damping factor 1 (R476): the spec does not
say how the bandwidth is measured. -/
opaque Config.servoOmega (bw : Nat) : Int

/-- The filtered phase error, 2⁻³ ns, from the one before and a new phase error in ns (R476): the spec gives no filter. -/
opaque Config.phaseFilter (before error : Int) : Int

/-- The damping factor of the loop of R473 beyond 5, which keeps its peaking below 0.1 dB, in 2⁻⁸: left open. -/
opaque Config.loopDamping : Nat

/-- The island's firmware version (16 bits), ROM CRC-32 and 64-bit serial number (R533, R557), left open. -/
opaque Config.islandVersion : Nat
opaque Config.islandRomCrc : Nat
opaque Config.islandSerial : Nat

/-- How many nanoseconds the block idles for when `step` finds no command waiting (DESIGN CHOICE, log entry 1). -/
def Config.idleNs : Nat := 1000

end Sys2Proof
end

