-- ==== Sys2Proof/Machine/Bits.lean ====
section
/-! DEFINITION. Bit fields, two's complement, saturation, rounding and the sparse store: the helpers every family
uses. -/

namespace Sys2Proof.Machine

/-- The field of `w` that is `width` bits wide and starts at bit `lsb`. -/
def bitsOf (w lsb width : Nat) : Nat := (w >>> lsb) % 2 ^ width

/-- Bit `i` of `w` as a truth value. -/
def bitAt (w i : Nat) : Bool := w >>> i % 2 == 1

/-- `w` with bit `i` set to `b`. -/
def setBit (w i : Nat) (b : Bool) : Nat :=
  if b then w ||| 2 ^ i else if bitAt w i then w - 2 ^ i else w

/-- 1 for true, 0 for false: a one-bit field. -/
def b2n (b : Bool) : Nat := if b then 1 else 0

/-- The two's-complement reading of a `width`-bit value. -/
def toSigned (width v : Nat) : Int :=
  if v % 2 ^ width < 2 ^ (width - 1) then ((v % 2 ^ width : Nat) : Int) else ((v % 2 ^ width : Nat) : Int) - 2 ^ width

/-- The `width`-bit two's-complement code of `v`. -/
def ofSigned (width : Nat) (v : Int) : Nat := (v % (2 ^ width : Int)).toNat

/-- `v` held within `lo` to `hi`. -/
def clampNat (lo hi v : Nat) : Nat := if v < lo then lo else if hi < v then hi else v

/-- `v` held within `lo` to `hi`. -/
def clampInt (lo hi v : Int) : Int := if v < lo then lo else if hi < v then hi else v

/-- Addition that stops at `cap` (a saturating counter). -/
def satAdd (cap a b : Nat) : Nat := min cap (a + b)

/-- `a / b` rounded to nearest, ties away from zero; `b` positive. -/
def divRound (a b : Int) : Int :=
  if 0 ≤ a then (2 * a + b) / (2 * b) else -((2 * (-a) + b) / (2 * b))

/-- `m` shifted right by `k` bits, rounded to nearest, ties away from zero. -/
def shrRound (m : Int) (k : Nat) : Int := divRound m (2 ^ k)

/-- Big-endian value of a byte list (network order). -/
def beVal : List Byte → Nat
  | [] => 0
  | b :: r => b.toNat * 256 ^ r.length + beVal r

/-- Little-endian value of a byte list. -/
def leVal : List Byte → Nat
  | [] => 0
  | b :: r => b.toNat + 256 * leVal r

/-- The `n` bytes of `v`, most significant first. -/
def beBytes : Nat → Nat → List Byte
  | 0, _ => []
  | n + 1, v => BitVec.ofNat 8 (v >>> (8 * n)) :: beBytes n v

/-- The `n` bytes of `v`, least significant first. -/
def leBytes : Nat → Nat → List Byte
  | 0, _ => []
  | n + 1, v => BitVec.ofNat 8 v :: leBytes n (v >>> 8)

/-- `n` bytes of `l` from byte `i`, missing bytes read as nothing. -/
def bytesAt (l : List Byte) (i n : Nat) : List Byte := (l.drop i).take n

/-- Sparse data by key, in one canonical form: keys strictly rising, an unlisted key holding the default. -/
abbrev Sparse (α : Type) := List (Nat × α)

/-- What key `k` holds, if it is listed. -/
def Sparse.find? {α : Type} : Sparse α → Nat → Option α
  | [], _ => none
  | e :: r, k => if e.1 = k then some e.2 else Sparse.find? r k

/-- What key `k` holds, `d` when it is not listed. -/
def Sparse.get {α : Type} (d : α) (m : Sparse α) (k : Nat) : α := (Sparse.find? m k).getD d

/-- `m` with key `k` no longer listed. -/
def Sparse.del {α : Type} : Sparse α → Nat → Sparse α
  | [], _ => []
  | e :: r, k => if e.1 = k then r else if k < e.1 then e :: r else e :: Sparse.del r k

/-- `m` with `v` listed at key `k`. -/
def Sparse.ins {α : Type} : Sparse α → Nat → α → Sparse α
  | [], k, v => [(k, v)]
  | e :: r, k, v =>
    if k < e.1 then (k, v) :: e :: r else if e.1 = k then (k, v) :: r else e :: Sparse.ins r k v

/-- `m` with key `k` holding `v`; the entry is dropped when `v` is the default `d`. -/
def Sparse.put {α : Type} [DecidableEq α] (d : α) (m : Sparse α) (k : Nat) (v : α) : Sparse α :=
  if v = d then Sparse.del m k else Sparse.ins m k v

/-- The canonical form: keys strictly rising. -/
def Sparse.wf {α : Type} : Sparse α → Bool
  | [] => true
  | e :: r => (match r with | [] => true | e' :: _ => decide (e.1 < e'.1)) && Sparse.wf r

/-- `f` applied once for each number below `n`, in ascending order. -/
def forUpTo {σ : Type} (n : Nat) (f : Nat → σ → σ) (s : σ) : σ :=
  match n with
  | 0 => s
  | n + 1 => f n (forUpTo n f s)

/-- `f` applied once for each entry of a list, in order. -/
def forEach {σ α : Type} (l : List α) (f : α → σ → σ) (s : σ) : σ := l.foldl (fun t a => f a t) s

end Sys2Proof.Machine
end

