-- ==== Sys2Proof/Machine/Row.lean ====
section
/-! DEFINITION. The form of one row of the spec's register tables: where a field lies in its sheet, who may write it
and how a written value is brought into its range (00_scope.md R7-R10, 02_sheets.md R54, R55). -/

namespace Sys2Proof.Machine

/-- Access codes of R10; `woL` is 'WO, lock holder only', `special` is the title block's LOCK. -/
inductive Acc where
  | rw | ro | wo | woL | w1c | rc | rwl | rwo | special
  deriving DecidableEq, Repr

/-- The Writer column of the tenant sheet and the descriptors (R123, R213). -/
inductive Writer where
  | any | pf | vf | owner
  deriving DecidableEq, Repr

/-- One end of a range: a number, or a field of the same sheet as stored (R55), found by its offset, lowest bit and
reset value; `fldSub` subtracts a constant and `sfld` reads the field as two's complement of the given width. -/
inductive Bound where
  | c (n : Int)
  | fld (off lsb reset : Nat)
  | fldSub (off lsb reset sub : Nat)
  | sfld (off lsb reset width : Nat)
  deriving DecidableEq, Repr

/-- How a written value outside the Range is stored (R8): the nearest legal value of an unsigned or two's-complement
range, the documented default of an enumerated field; for a range that also admits 0, a value below it stores 0
(`zeroOr`) or the nearer of 0 and its lower end (`zeroNear`). -/
inductive Clamp where
  | any
  | nat (lo hi : Bound)
  | int (lo hi : Bound)
  | enum (lo hi dflt : Nat)
  | zeroOr (lo hi : Nat)
  | zeroNear (lo hi : Nat)
  deriving DecidableEq, Repr

/-- One row of a register table. An array of registers is one row with a stride and a count. -/
structure Row where
  off    : Nat
  stride : Nat := 4
  count  : Nat := 1
  lsb    : Nat
  width  : Nat
  acc    : Acc
  writer : Writer := .any
  reset  : Nat := 0
  clamp  : Clamp := .any
  deriving DecidableEq, Repr

/-- The key of a field in the register store: PF BAR0 byte address times 32, plus its lowest bit. -/
def fieldKey (base : Nat) (r : Row) (i : Nat) : Nat := (base + r.off + r.stride * i) * 32 + r.lsb

/-- Does the row have a field in the register at sheet offset `off`? Its array index if so. -/
def Row.indexAt (r : Row) (off : Nat) : Option Nat :=
  if off < r.off then none
  else if (off - r.off) % r.stride = 0 ∧ (off - r.off) / r.stride < r.count then some ((off - r.off) / r.stride)
  else none

end Sys2Proof.Machine
end

