-- ==== Sys2Proof/Machine/FieldsChannel.lean ====
section
/-! DEFINITION. The register tables of the spec, one row per field (Descriptor control header, Descriptor media fields, Descriptor echo fields, Descriptor jitter-buffer fields, Descriptor pair mirror status).
Each docstring gives the register, the field and the rule whose table it is. -/

namespace Sys2Proof.Machine.Reg

/-! ### Descriptor control header -/

/-- CH_OWNER.slot, R238. -/
def chOwnerSlot : Row := { off := 0x0, lsb := 0, width := 3, acc := .rw, writer := .pf }
/-- CH_OWNER.assigned, R238. -/
def chOwnerAssigned : Row := { off := 0x0, lsb := 3, width := 1, acc := .rw, writer := .pf }
/-- CH_OWNER.unit_cap, R238. -/
def chOwnerUnitCap : Row :=
  { off := 0x0, lsb := 4, width := 4, acc := .rw, writer := .pf, reset := 9, clamp := .nat (.c 1) (.c 9) }
/-- CH_INTENT.want, R238. -/
def chIntentWant : Row :=
  { off := 0x4, lsb := 0, width := 2, acc := .rw, writer := .owner, clamp := .enum 0 2 0 }
/-- CH_INTENT.gen, R238. -/
def chIntentGen : Row := { off := 0x4, lsb := 8, width := 8, acc := .rw, writer := .owner }
/-- CH_CONFIG.codec, R238. -/
def chConfigCodec : Row :=
  { off := 0x8, lsb := 0, width := 4, acc := .rw, writer := .owner, clamp := .enum 0 7 0 }
/-- CH_CONFIG.tail, R238. -/
def chConfigTail : Row := { off := 0x8, lsb := 4, width := 1, acc := .rw, writer := .owner }
/-- CH_CONFIG.bridge, R238. -/
def chConfigBridge : Row :=
  { off := 0x8, lsb := 5, width := 2, acc := .rw, writer := .owner, clamp := .enum 0 2 0 }
/-- CH_CONFIG.tq, R238. -/
def chConfigTq : Row := { off := 0x8, lsb := 8, width := 3, acc := .rw, writer := .owner, reset := 6 }
/-- CH_CONFIG.timeslot, R238. -/
def chConfigTimeslot : Row := { off := 0x8, lsb := 16, width := 7, acc := .rw, writer := .owner }
/-- CH_CONFIG.peer, R238. -/
def chConfigPeer : Row := { off := 0x8, lsb := 24, width := 8, acc := .rw, writer := .owner }
/-- CH_PATH.state, R238. -/
def chPathState : Row := { off := 0xc, lsb := 0, width := 4, acc := .ro }
/-- CH_PATH.held_from, R238. -/
def chPathHeldFrom : Row := { off := 0xc, lsb := 4, width := 4, acc := .ro }
/-- CH_PATH.reason, R238. -/
def chPathReason : Row := { off := 0xc, lsb := 8, width := 3, acc := .ro }
/-- CH_PATH.result, R238. -/
def chPathResult : Row := { off := 0xc, lsb := 12, width := 4, acc := .ro }
/-- CH_PATH.last_gen, R238. -/
def chPathLastGen : Row := { off := 0xc, lsb := 16, width := 8, acc := .ro }
/-- CH_PATH.graver, R238. -/
def chPathGraver : Row := { off := 0xc, lsb := 24, width := 2, acc := .ro }
/-- CH_PATH.units, R238. -/
def chPathUnits : Row := { off := 0xc, lsb := 26, width := 4, acc := .ro }
/-- CH_PATH.peer_lost, R238. -/
def chPathPeerLost : Row := { off := 0xc, lsb := 30, width := 1, acc := .ro }
/-- CH_EVENT.events, R238. -/
def chEventEvents : Row := { off := 0x10, lsb := 0, width := 16, acc := .w1c, writer := .owner }
/-- CH_EVENT_EN.enables, R238. -/
def chEventEnEnables : Row := { off := 0x14, lsb := 0, width := 16, acc := .rw, writer := .owner }
/-- CH_TRACE.mismatch, R238. -/
def chTraceMismatch : Row := { off := 0x18, lsb := 0, width := 1, acc := .ro }
/-- CH_TRACE.accept_path, R238. -/
def chTraceAcceptPath : Row := { off := 0x18, lsb := 1, width := 1, acc := .wo, writer := .owner }
/-- CH_TRACE.held, R238. -/
def chTraceHeld : Row := { off := 0x18, lsb := 2, width := 1, acc := .ro }
/-- CH_TRACE.fault_ok, R238. -/
def chTraceFaultOk : Row := { off := 0x18, lsb := 3, width := 1, acc := .ro }
/-- CH_TRACE.count, R238. -/
def chTraceCount : Row := { off := 0x18, lsb := 4, width := 2, acc := .ro }
/-- CH_TRACE.seen_state, R238. -/
def chTraceSeenState : Row := { off := 0x18, lsb := 8, width := 4, acc := .ro }
/-- CH_TRACE.seen_want, R238. -/
def chTraceSeenWant : Row := { off := 0x18, lsb := 12, width := 2, acc := .ro }
/-- CH_REFUSALS.count, R238. -/
def chRefusalsCount : Row := { off := 0x1c, lsb := 0, width := 16, acc := .rc }

/-- The fields of the table: Descriptor control header. -/
def chRows : List Row :=
  [chOwnerSlot, chOwnerAssigned, chOwnerUnitCap, chIntentWant, chIntentGen, chConfigCodec, chConfigTail, chConfigBridge, chConfigTq, chConfigTimeslot, chConfigPeer, chPathState, chPathHeldFrom, chPathReason, chPathResult, chPathLastGen, chPathGraver, chPathUnits, chPathPeerLost, chEventEvents, chEventEnEnables, chTraceMismatch, chTraceAcceptPath, chTraceHeld, chTraceFaultOk, chTraceCount, chTraceSeenState, chTraceSeenWant, chRefusalsCount]

/-! ### Descriptor media fields -/

/-- PK_TMPL.bytes, R309. -/
def pkTmplBytes : Row :=
  { off := 0x40, stride := 4, count := 16, lsb := 0, width := 32, acc := .rw, writer := .owner }
/-- PK_TMPL_CTRL.ip, R309. -/
def pkTmplCtrlIp : Row :=
  { off := 0x80, lsb := 0, width := 2, acc := .rw, writer := .owner, reset := 1, clamp := .enum 1 2 1 }
/-- RTP_TX.pt, R309. -/
def rtpTxPt : Row := { off := 0x84, lsb := 0, width := 7, acc := .rw, writer := .owner, reset := 8 }
/-- RTP_TX.ev_pt, R309. -/
def rtpTxEvPt : Row := { off := 0x84, lsb := 8, width := 7, acc := .rw, writer := .owner }
/-- RTP_TX.ssrc_auto, R309. -/
def rtpTxSsrcAuto : Row :=
  { off := 0x84, lsb := 16, width := 1, acc := .rw, writer := .owner, reset := 1 }
/-- RTP_TX.seq_auto, R309. -/
def rtpTxSeqAuto : Row :=
  { off := 0x84, lsb := 17, width := 1, acc := .rw, writer := .owner, reset := 1 }
/-- RTP_TX.ts_auto, R309. -/
def rtpTxTsAuto : Row :=
  { off := 0x84, lsb := 18, width := 1, acc := .rw, writer := .owner, reset := 1 }
/-- RTP_TX.rtcp_en, R309. -/
def rtpTxRtcpEn : Row :=
  { off := 0x84, lsb := 19, width := 1, acc := .rw, writer := .owner, reset := 1 }
/-- RTP_TX.rtcp_mux, R309. -/
def rtpTxRtcpMux : Row := { off := 0x84, lsb := 20, width := 1, acc := .rw, writer := .owner }
/-- RTP_TX.udp_csum, R309. -/
def rtpTxUdpCsum : Row :=
  { off := 0x84, lsb := 21, width := 1, acc := .rw, writer := .owner, reset := 1 }
/-- RTP_SSRC_TX.ssrc, R309. -/
def rtpSsrcTxSsrc : Row := { off := 0x88, lsb := 0, width := 32, acc := .rw, writer := .owner }
/-- RTP_SEQ_INIT.seq, R309. -/
def rtpSeqInitSeq : Row := { off := 0x8c, lsb := 0, width := 16, acc := .rw, writer := .owner }
/-- RTP_TS_INIT.ts, R309. -/
def rtpTsInitTs : Row := { off := 0x90, lsb := 0, width := 32, acc := .rw, writer := .owner }
/-- RTP_RX.rx_pt, R309. -/
def rtpRxRxPt : Row := { off := 0x94, lsb := 0, width := 7, acc := .rw, writer := .owner, reset := 8 }
/-- RTP_RX.rx_ev_pt, R309. -/
def rtpRxRxEvPt : Row := { off := 0x94, lsb := 8, width := 7, acc := .rw, writer := .owner }
/-- RTP_RX.ssrc_fixed, R309. -/
def rtpRxSsrcFixed : Row := { off := 0x94, lsb := 16, width := 1, acc := .rw, writer := .owner }
/-- RTP_SSRC_RX.ssrc, R309. -/
def rtpSsrcRxSsrc : Row := { off := 0x98, lsb := 0, width := 32, acc := .rw, writer := .owner }
/-- RTCP_CTRL.interval_ms, R309. -/
def rtcpCtrlIntervalMs : Row :=
  { off := 0x9c, lsb := 0, width := 16, acc := .rw, writer := .owner, reset := 5000, clamp := .nat (.c 500) (.c 60000) }
/-- RTCP_CTRL.cname_len, R309. -/
def rtcpCtrlCnameLen : Row :=
  { off := 0x9c, lsb := 16, width := 5, acc := .rw, writer := .owner, clamp := .nat (.c 0) (.c 16) }
/-- RTCP_CNAME.bytes, R309. -/
def rtcpCnameBytes : Row :=
  { off := 0xa0, stride := 4, count := 4, lsb := 0, width := 32, acc := .rw, writer := .owner }
/-- EV_SEND.event, R309. -/
def evSendEvent : Row :=
  { off := 0xb0, lsb := 0, width := 8, acc := .wo, writer := .owner, clamp := .nat (.c 0) (.c 15) }
/-- EV_SEND.dur_ms, R309. -/
def evSendDurMs : Row :=
  { off := 0xb0, lsb := 8, width := 16, acc := .wo, writer := .owner, clamp := .nat (.c 40) (.c 65535) }
/-- EV_SEND.send, R309. -/
def evSendSend : Row := { off := 0xb0, lsb := 31, width := 1, acc := .wo, writer := .owner }
/-- CO_CODEC.mode, R310. -/
def coCodecMode : Row :=
  { off := 0xc0, lsb := 0, width := 4, acc := .rw, writer := .owner, reset := 15 }
/-- CO_CODEC.fpp, R310. -/
def coCodecFpp : Row := { off := 0xc0, lsb := 4, width := 3, acc := .rw, writer := .owner, reset := 2 }
/-- CO_CODEC.vad, R310. -/
def coCodecVad : Row := { off := 0xc0, lsb := 7, width := 1, acc := .rw, writer := .owner }
/-- CO_CODEC.amr_oa, R310. -/
def coCodecAmrOa : Row :=
  { off := 0xc0, lsb := 8, width := 1, acc := .rw, writer := .owner, reset := 1 }
/-- CO_CODEC.evs_hf, R310. -/
def coCodecEvsHf : Row := { off := 0xc0, lsb := 9, width := 1, acc := .rw, writer := .owner }
/-- CO_CODEC.evs_nb, R310. -/
def coCodecEvsNb : Row := { off := 0xc0, lsb := 10, width := 1, acc := .rw, writer := .owner }
/-- CO_CODEC.cmr_follow, R310. -/
def coCodecCmrFollow : Row :=
  { off := 0xc0, lsb := 11, width := 1, acc := .rw, writer := .owner, reset := 1 }
/-- CO_CODEC.cmr_tx, R310. -/
def coCodecCmrTx : Row :=
  { off := 0xc0, lsb := 12, width := 4, acc := .rw, writer := .owner, reset := 15 }
/-- CO_CODEC.g726_aal2, R310. -/
def coCodecG726Aal2 : Row := { off := 0xc0, lsb := 16, width := 1, acc := .rw, writer := .owner }
/-- CO_GAIN.tx_gain, R310. -/
def coGainTxGain : Row :=
  { off := 0xc4, lsb := 0, width := 8, acc := .rw, writer := .owner, clamp := .int (.c (-48)) (.c (24)) }
/-- CO_GAIN.rx_gain, R310. -/
def coGainRxGain : Row :=
  { off := 0xc4, lsb := 8, width := 8, acc := .rw, writer := .owner, clamp := .int (.c (-48)) (.c (24)) }
/-- TD_CTRL.dtmf_mode, R310. -/
def tdCtrlDtmfMode : Row :=
  { off := 0xc8, lsb := 0, width := 2, acc := .rw, writer := .owner, reset := 1, clamp := .enum 0 2 1 }
/-- TD_CTRL.dtmf_pkt, R310. -/
def tdCtrlDtmfPkt : Row := { off := 0xc8, lsb := 2, width := 1, acc := .rw, writer := .owner }
/-- TD_CTRL.cpt_en, R310. -/
def tdCtrlCptEn : Row := { off := 0xc8, lsb := 4, width := 4, acc := .rw, writer := .owner }
/-- TD_CTRL.cpt_dir, R310. -/
def tdCtrlCptDir : Row := { off := 0xc8, lsb := 8, width := 1, acc := .rw, writer := .owner }
/-- TD_CTRL.fax_en, R310. -/
def tdCtrlFaxEn : Row :=
  { off := 0xc8, lsb := 9, width := 1, acc := .rw, writer := .owner, reset := 1 }
/-- TD_CTRL.cpt_min_db, R310. -/
def tdCtrlCptMinDb : Row :=
  { off := 0xc8, lsb := 10, width := 6, acc := .rw, writer := .owner, reset := 35, clamp := .nat (.c 10) (.c 45) }
/-- TD_CPT.f1, R310. -/
def tdCptF1 : Row :=
  { off := 0xcc, stride := 4, count := 4, lsb := 0, width := 10, acc := .rw, writer := .owner, clamp := .nat (.c 75) (.c 850) }
/-- TD_CPT.f2, R310. -/
def tdCptF2 : Row :=
  { off := 0xcc, stride := 4, count := 4, lsb := 10, width := 10, acc := .rw, writer := .owner, clamp := .zeroNear 75 850 }
/-- TD_CPT.on_min, R310. -/
def tdCptOnMin : Row :=
  { off := 0xcc, stride := 4, count := 4, lsb := 20, width := 6, acc := .rw, writer := .owner, reset := 10, clamp := .nat (.c 1) (.c 63) }
/-- TD_CPT.off_min, R310. -/
def tdCptOffMin : Row :=
  { off := 0xcc, stride := 4, count := 4, lsb := 26, width := 6, acc := .rw, writer := .owner }
/-- TG_PROF.f1, R310. -/
def tgProfF1 : Row :=
  { off := 0xdc, stride := 4, count := 8, lsb := 0, width := 10, acc := .rw, writer := .owner, clamp := .nat (.c 0) (.c 1000) }
/-- TG_PROF.f2, R310. -/
def tgProfF2 : Row :=
  { off := 0xdc, stride := 4, count := 8, lsb := 10, width := 10, acc := .rw, writer := .owner, clamp := .nat (.c 0) (.c 1000) }
/-- TG_PROF.on, R310. -/
def tgProfOn : Row :=
  { off := 0xdc, stride := 4, count := 8, lsb := 20, width := 6, acc := .rw, writer := .owner }
/-- TG_PROF.off, R310. -/
def tgProfOff : Row :=
  { off := 0xdc, stride := 4, count := 8, lsb := 26, width := 5, acc := .rw, writer := .owner }
/-- TG_PROF.unit, R310. -/
def tgProfUnit : Row :=
  { off := 0xdc, stride := 4, count := 8, lsb := 31, width := 1, acc := .rw, writer := .owner }
/-- TG_CMD.profile, R310. -/
def tgCmdProfile : Row := { off := 0xfc, lsb := 0, width := 3, acc := .rw, writer := .owner }
/-- TG_CMD.dir, R310. -/
def tgCmdDir : Row :=
  { off := 0xfc, lsb := 4, width := 2, acc := .rw, writer := .owner, clamp := .enum 0 2 0 }
/-- TG_CMD.mix, R310. -/
def tgCmdMix : Row := { off := 0xfc, lsb := 6, width := 1, acc := .rw, writer := .owner }
/-- TG_CMD.level_db, R310. -/
def tgCmdLevelDb : Row :=
  { off := 0xfc, lsb := 8, width := 6, acc := .rw, writer := .owner, reset := 13, clamp := .nat (.c 0) (.c 50) }
/-- TG_CMD.repeat, R310. -/
def tgCmdRepeat : Row := { off := 0xfc, lsb := 16, width := 8, acc := .rw, writer := .owner }
/-- TG_CMD.run, R310. -/
def tgCmdRun : Row := { off := 0xfc, lsb := 24, width := 1, acc := .rw, writer := .owner }
/-- ST_TX_PKTS.pkts, R311. -/
def stTxPktsPkts : Row := { off := 0x180, lsb := 0, width := 32, acc := .ro }
/-- ST_TX_OCTETS.octets, R311. -/
def stTxOctetsOctets : Row := { off := 0x184, lsb := 0, width := 32, acc := .ro }
/-- ST_RX_PKTS.pkts, R311. -/
def stRxPktsPkts : Row := { off := 0x188, lsb := 0, width := 32, acc := .ro }
/-- ST_RX_ERR.bad_hdr, R311. -/
def stRxErrBadHdr : Row := { off := 0x18c, lsb := 0, width := 8, acc := .rc }
/-- ST_RX_ERR.bad_pt, R311. -/
def stRxErrBadPt : Row := { off := 0x18c, lsb := 8, width := 8, acc := .rc }
/-- ST_RX_ERR.bad_ssrc, R311. -/
def stRxErrBadSsrc : Row := { off := 0x18c, lsb := 16, width := 8, acc := .rc }
/-- ST_RX_ERR.bad_frame, R311. -/
def stRxErrBadFrame : Row := { off := 0x18c, lsb := 24, width := 8, acc := .rc }
/-- ST_RTCP.tx, R311. -/
def stRtcpTx : Row := { off := 0x190, lsb := 0, width := 8, acc := .rc }
/-- ST_RTCP.rx, R311. -/
def stRtcpRx : Row := { off := 0x190, lsb := 8, width := 8, acc := .rc }
/-- ST_RTCP.rx_bad, R311. -/
def stRtcpRxBad : Row := { off := 0x190, lsb := 16, width := 8, acc := .rc }
/-- ST_RTCP.bye_rx, R311. -/
def stRtcpByeRx : Row := { off := 0x190, lsb := 24, width := 8, acc := .rc }
/-- ST_RTT.rtt_ms, R311. -/
def stRttRttMs : Row := { off := 0x194, lsb := 0, width := 16, acc := .ro }
/-- ST_RTT.valid, R311. -/
def stRttValid : Row := { off := 0x194, lsb := 31, width := 1, acc := .ro }
/-- ST_RX_SSRC.ssrc, R311. -/
def stRxSsrcSsrc : Row := { off := 0x198, lsb := 0, width := 32, acc := .ro }
/-- TD_LAST.code, R311. -/
def tdLastCode : Row := { off := 0x19c, lsb := 0, width := 8, acc := .ro }
/-- TD_LAST.class, R311. -/
def tdLastClass : Row := { off := 0x19c, lsb := 8, width := 3, acc := .ro }
/-- TD_LAST.dir, R311. -/
def tdLastDir : Row := { off := 0x19c, lsb := 11, width := 1, acc := .ro }
/-- TD_LAST.end, R311. -/
def tdLastEnd : Row := { off := 0x19c, lsb := 12, width := 1, acc := .ro }
/-- TD_LAST.level, R311. -/
def tdLastLevel : Row := { off := 0x19c, lsb := 13, width := 6, acc := .ro }
/-- TD_LAST.dur, R311. -/
def tdLastDur : Row := { off := 0x19c, lsb := 19, width := 13, acc := .ro }
/-- TD_COUNTS.dtmf, R311. -/
def tdCountsDtmf : Row := { off := 0x1a0, lsb := 0, width := 8, acc := .rc }
/-- TD_COUNTS.cpt, R311. -/
def tdCountsCpt : Row := { off := 0x1a0, lsb := 8, width := 8, acc := .rc }
/-- TD_COUNTS.fax, R311. -/
def tdCountsFax : Row := { off := 0x1a0, lsb := 16, width := 8, acc := .rc }
/-- TD_COUNTS.ev_rx, R311. -/
def tdCountsEvRx : Row := { off := 0x1a0, lsb := 24, width := 8, acc := .rc }
/-- ST_CODEC.tx_mode, R311. -/
def stCodecTxMode : Row := { off := 0x1a4, lsb := 0, width := 4, acc := .ro }
/-- ST_CODEC.fpp_used, R311. -/
def stCodecFppUsed : Row := { off := 0x1a4, lsb := 4, width := 3, acc := .ro }
/-- ST_CODEC.rx_cmr, R311. -/
def stCodecRxCmr : Row := { off := 0x1a4, lsb := 8, width := 4, acc := .ro }
/-- ST_CODEC.tg_run, R311. -/
def stCodecTgRun : Row := { off := 0x1a4, lsb := 12, width := 1, acc := .ro }

/-- The fields of the table: Descriptor media fields. -/
def mediaRows : List Row :=
  [pkTmplBytes, pkTmplCtrlIp, rtpTxPt, rtpTxEvPt, rtpTxSsrcAuto, rtpTxSeqAuto, rtpTxTsAuto, rtpTxRtcpEn, rtpTxRtcpMux, rtpTxUdpCsum, rtpSsrcTxSsrc, rtpSeqInitSeq, rtpTsInitTs, rtpRxRxPt, rtpRxRxEvPt, rtpRxSsrcFixed, rtpSsrcRxSsrc, rtcpCtrlIntervalMs, rtcpCtrlCnameLen, rtcpCnameBytes, evSendEvent, evSendDurMs, evSendSend, coCodecMode, coCodecFpp, coCodecVad, coCodecAmrOa, coCodecEvsHf, coCodecEvsNb, coCodecCmrFollow, coCodecCmrTx, coCodecG726Aal2, coGainTxGain, coGainRxGain, tdCtrlDtmfMode, tdCtrlDtmfPkt, tdCtrlCptEn, tdCtrlCptDir, tdCtrlFaxEn, tdCtrlCptMinDb] ++
  [tdCptF1, tdCptF2, tdCptOnMin, tdCptOffMin, tgProfF1, tgProfF2, tgProfOn, tgProfOff, tgProfUnit, tgCmdProfile, tgCmdDir, tgCmdMix, tgCmdLevelDb, tgCmdRepeat, tgCmdRun, stTxPktsPkts, stTxOctetsOctets, stRxPktsPkts, stRxErrBadHdr, stRxErrBadPt, stRxErrBadSsrc, stRxErrBadFrame, stRtcpTx, stRtcpRx, stRtcpRxBad, stRtcpByeRx, stRttRttMs, stRttValid, stRxSsrcSsrc, tdLastCode, tdLastClass, tdLastDir, tdLastEnd, tdLastLevel, tdLastDur, tdCountsDtmf, tdCountsCpt, tdCountsFax, tdCountsEvRx, stCodecTxMode] ++
  [stCodecFppUsed, stCodecRxCmr, stCodecTgRun]

/-! ### Descriptor echo fields -/

/-- EC_CTRL.enable, R271. -/
def ecCtrlEnable : Row :=
  { off := 0x100, lsb := 0, width := 1, acc := .rw, writer := .owner, reset := 1 }
/-- EC_CTRL.nlp_mode, R271. -/
def ecCtrlNlpMode : Row :=
  { off := 0x100, lsb := 1, width := 2, acc := .rw, writer := .owner, reset := 2, clamp := .enum 0 2 2 }
/-- EC_CTRL.td_mode, R271. -/
def ecCtrlTdMode : Row :=
  { off := 0x100, lsb := 4, width := 2, acc := .rw, writer := .owner, reset := 1 }
/-- EC_CTRL.fast_en, R271. -/
def ecCtrlFastEn : Row :=
  { off := 0x100, lsb := 6, width := 1, acc := .rw, writer := .owner, reset := 1 }
/-- EC_CTRL.bulk_ms, R271. -/
def ecCtrlBulkMs : Row :=
  { off := 0x100, lsb := 8, width := 8, acc := .rw, writer := .owner, clamp := .nat (.c 0) (.c 64) }
/-- EC_CTRL.mu_shift, R271. -/
def ecCtrlMuShift : Row :=
  { off := 0x100, lsb := 16, width := 3, acc := .rw, writer := .owner, reset := 3, clamp := .nat (.c 2) (.c 6) }
/-- EC_DT.dt_db, R271. -/
def ecDtDtDb : Row :=
  { off := 0x104, lsb := 0, width := 6, acc := .rw, writer := .owner, reset := 6, clamp := .nat (.c 0) (.c 24) }
/-- EC_DT.dt_hang_ms, R271. -/
def ecDtDtHangMs : Row :=
  { off := 0x104, lsb := 8, width := 8, acc := .rw, writer := .owner, reset := 30, clamp := .nat (.c 10) (.c 200) }
/-- EC_DT.conv_db, R271. -/
def ecDtConvDb : Row :=
  { off := 0x104, lsb := 16, width := 6, acc := .rw, writer := .owner, reset := 18, clamp := .nat (.c 6) (.c 40) }
/-- EC_NLP.atten_db, R271. -/
def ecNlpAttenDb : Row :=
  { off := 0x108, lsb := 0, width := 6, acc := .rw, writer := .owner, reset := 30, clamp := .nat (.c 6) (.c 60) }
/-- EC_NLP.nlp_margin_db, R271. -/
def ecNlpNlpMarginDb : Row :=
  { off := 0x108, lsb := 8, width := 6, acc := .rw, writer := .owner, reset := 20, clamp := .nat (.c 6) (.c 40) }
/-- EC_NLP.cn_max, R271. -/
def ecNlpCnMax : Row :=
  { off := 0x108, lsb := 16, width := 16, acc := .rw, writer := .owner, reset := 65136, clamp := .int (.c (-900)) (.c (-300)) }
/-- EC_TD.release_dbm0, R271. -/
def ecTdReleaseDbm0 : Row :=
  { off := 0x10c, lsb := 0, width := 16, acc := .rw, writer := .owner, reset := 65176, clamp := .int (.c (-500)) (.c (-200)) }
/-- EC_TD.release_ms, R271. -/
def ecTdReleaseMs : Row :=
  { off := 0x10c, lsb := 16, width := 10, acc := .rw, writer := .owner, reset := 250, clamp := .nat (.c 100) (.c 1000) }
/-- EC_CMD.reset_coef, R271. -/
def ecCmdResetCoef : Row := { off := 0x110, lsb := 0, width := 1, acc := .wo, writer := .owner }
/-- EC_CMD.td_force, R271. -/
def ecCmdTdForce : Row := { off := 0x110, lsb := 1, width := 1, acc := .wo, writer := .owner }
/-- EC_CMD.td_release, R271. -/
def ecCmdTdRelease : Row := { off := 0x110, lsb := 2, width := 1, acc := .wo, writer := .owner }
/-- EC_STATUS.phase, R271. -/
def ecStatusPhase : Row := { off := 0x114, lsb := 0, width := 3, acc := .ro }
/-- EC_STATUS.bypass, R271. -/
def ecStatusBypass : Row := { off := 0x114, lsb := 4, width := 1, acc := .ro }
/-- EC_STATUS.nlp_off_td, R271. -/
def ecStatusNlpOffTd : Row := { off := 0x114, lsb := 5, width := 1, acc := .ro }
/-- EC_STATUS.forced, R271. -/
def ecStatusForced : Row := { off := 0x114, lsb := 6, width := 1, acc := .ro }
/-- EC_STATUS.dt, R271. -/
def ecStatusDt : Row := { off := 0x114, lsb := 7, width := 1, acc := .ro }
/-- EC_STATUS.nlp_on, R271. -/
def ecStatusNlpOn : Row := { off := 0x114, lsb := 8, width := 1, acc := .ro }
/-- EC_STATUS.suspended, R271. -/
def ecStatusSuspended : Row := { off := 0x114, lsb := 9, width := 1, acc := .ro }
/-- EC_STATUS.burst, R271. -/
def ecStatusBurst : Row := { off := 0x114, lsb := 10, width := 1, acc := .ro }
/-- EC_STATUS.from_mirror, R271. -/
def ecStatusFromMirror : Row := { off := 0x114, lsb := 11, width := 1, acc := .ro }
/-- EC_STATUS.mirror_ok, R271. -/
def ecStatusMirrorOk : Row := { off := 0x114, lsb := 12, width := 1, acc := .ro }
/-- EC_STATUS.erl_valid, R271. -/
def ecStatusErlValid : Row := { off := 0x114, lsb := 13, width := 1, acc := .ro }
/-- EC_STATUS.path_delay, R271. -/
def ecStatusPathDelay : Row := { off := 0x114, lsb := 16, width := 12, acc := .ro }
/-- EC_ERL.erl, R271. -/
def ecErlErl : Row := { off := 0x118, lsb := 0, width := 16, acc := .ro, reset := 32768 }
/-- EC_ERL.erle, R271. -/
def ecErlErle : Row := { off := 0x118, lsb := 16, width := 16, acc := .ro, reset := 32768 }
/-- EC_LEVELS.rin, R271. -/
def ecLevelsRin : Row := { off := 0x11c, lsb := 0, width := 16, acc := .ro, reset := 32768 }
/-- EC_LEVELS.sin, R271. -/
def ecLevelsSin : Row := { off := 0x11c, lsb := 16, width := 16, acc := .ro, reset := 32768 }
/-- EC_NOISE.sin_noise, R271. -/
def ecNoiseSinNoise : Row := { off := 0x120, lsb := 0, width := 16, acc := .ro, reset := 32768 }
/-- EC_NOISE.rin_noise, R271. -/
def ecNoiseRinNoise : Row := { off := 0x120, lsb := 16, width := 16, acc := .ro, reset := 32768 }
/-- EC_COUNTS.td_events, R271. -/
def ecCountsTdEvents : Row := { off := 0x124, lsb := 0, width := 8, acc := .rc }
/-- EC_COUNTS.diverged, R271. -/
def ecCountsDiverged : Row := { off := 0x124, lsb := 8, width := 8, acc := .rc }
/-- EC_COUNTS.burst_refused, R271. -/
def ecCountsBurstRefused : Row := { off := 0x124, lsb := 16, width := 8, acc := .rc }
/-- EC_MIRROR.span_ms, R271. -/
def ecMirrorSpanMs : Row := { off := 0x128, lsb := 0, width := 8, acc := .ro }
/-- EC_MIRROR.quarters, R271. -/
def ecMirrorQuarters : Row := { off := 0x128, lsb := 8, width := 4, acc := .ro }

/-- The fields of the table: Descriptor echo fields. -/
def ecRows : List Row :=
  [ecCtrlEnable, ecCtrlNlpMode, ecCtrlTdMode, ecCtrlFastEn, ecCtrlBulkMs, ecCtrlMuShift, ecDtDtDb, ecDtDtHangMs, ecDtConvDb, ecNlpAttenDb, ecNlpNlpMarginDb, ecNlpCnMax, ecTdReleaseDbm0, ecTdReleaseMs, ecCmdResetCoef, ecCmdTdForce, ecCmdTdRelease, ecStatusPhase, ecStatusBypass, ecStatusNlpOffTd, ecStatusForced, ecStatusDt, ecStatusNlpOn, ecStatusSuspended, ecStatusBurst, ecStatusFromMirror, ecStatusMirrorOk, ecStatusErlValid, ecStatusPathDelay, ecErlErl, ecErlErle, ecLevelsRin, ecLevelsSin, ecNoiseSinNoise, ecNoiseRinNoise, ecCountsTdEvents, ecCountsDiverged, ecCountsBurstRefused, ecMirrorSpanMs, ecMirrorQuarters]

/-! ### Descriptor jitter-buffer fields -/

/-- JB_CTRL.mode, R338. -/
def jbCtrlMode : Row := { off := 0x140, lsb := 0, width := 1, acc := .rw, writer := .owner }
/-- JB_CTRL.df_mode, R338. -/
def jbCtrlDfMode : Row :=
  { off := 0x140, lsb := 1, width := 2, acc := .rw, writer := .owner, clamp := .enum 0 1 0 }
/-- JB_CTRL.jb_skip, R338. -/
def jbCtrlJbSkip : Row :=
  { off := 0x140, lsb := 4, width := 3, acc := .rw, writer := .owner, reset := 1 }
/-- JB_CTRL.sil_db, R338. -/
def jbCtrlSilDb : Row :=
  { off := 0x140, lsb := 8, width := 7, acc := .rw, writer := .owner, reset := 50, clamp := .nat (.c 30) (.c 70) }
/-- JB_DELAY.min_ms, R338. -/
def jbDelayMinMs : Row :=
  { off := 0x144, lsb := 0, width := 10, acc := .rw, writer := .owner, reset := 20, clamp := .nat (.c 10) (.c 500) }
/-- JB_DELAY.max_ms, R338. -/
def jbDelayMaxMs : Row :=
  { off := 0x144, lsb := 16, width := 10, acc := .rw, writer := .owner, reset := 200, clamp := .nat (.fld 0x144 0 20) (.c 500) }
/-- JB_NOM.nom_ms, R338. -/
def jbNomNomMs : Row :=
  { off := 0x148, lsb := 0, width := 10, acc := .rw, writer := .owner, reset := 40, clamp := .nat (.fld 0x144 0 20) (.fld 0x144 16 200) }
/-- JB_NOM.margin_ms, R338. -/
def jbNomMarginMs : Row :=
  { off := 0x148, lsb := 16, width := 6, acc := .rw, writer := .owner, reset := 5, clamp := .nat (.c 0) (.c 50) }
/-- JB_NOM.win_s, R338. -/
def jbNomWinS : Row :=
  { off := 0x148, lsb := 24, width := 5, acc := .rw, writer := .owner, reset := 4, clamp := .nat (.c 1) (.c 16) }
/-- JB_DF.df_win_s, R338. -/
def jbDfDfWinS : Row :=
  { off := 0x14c, lsb := 0, width := 7, acc := .rw, writer := .owner, reset := 16, clamp := .nat (.c 8) (.c 64) }
/-- JB_DF.df_slew, R338. -/
def jbDfDfSlew : Row :=
  { off := 0x14c, lsb := 8, width := 8, acc := .rw, writer := .owner, reset := 20, clamp := .nat (.c 1) (.c 100) }
/-- JB_CMD.resync, R338. -/
def jbCmdResync : Row := { off := 0x150, lsb := 0, width := 1, acc := .wo, writer := .owner }
/-- JB_CMD.df_reset, R338. -/
def jbCmdDfReset : Row := { off := 0x150, lsb := 1, width := 1, acc := .wo, writer := .owner }
/-- JS_DELAY.delay_x10, R339. -/
def jsDelayDelayX10 : Row := { off := 0x1b0, lsb := 0, width := 13, acc := .ro }
/-- JS_DELAY.target_ms, R339. -/
def jsDelayTargetMs : Row := { off := 0x1b0, lsb := 16, width := 10, acc := .ro }
/-- JS_JITTER.spread_x10, R339. -/
def jsJitterSpreadX10 : Row := { off := 0x1b4, lsb := 0, width := 13, acc := .ro }
/-- JS_JITTER.resamp_us, R339. -/
def jsJitterResampUs : Row := { off := 0x1b4, lsb := 16, width := 11, acc := .ro }
/-- JS_RATIO.ratio, R339. -/
def jsRatioRatio : Row := { off := 0x1b8, lsb := 0, width := 32, acc := .ro }
/-- JS_EST.est, R339. -/
def jsEstEst : Row := { off := 0x1bc, lsb := 0, width := 32, acc := .ro }
/-- JS_POS.pos, R339. -/
def jsPosPos : Row := { off := 0x1c0, lsb := 0, width := 32, acc := .ro }
/-- JS_STATE.jb_state, R339. -/
def jsStateJbState : Row := { off := 0x1c4, lsb := 0, width := 2, acc := .ro }
/-- JS_STATE.df_state, R339. -/
def jsStateDfState : Row := { off := 0x1c4, lsb := 4, width := 2, acc := .ro }
/-- JS_STATE.df_edge, R339. -/
def jsStateDfEdge : Row := { off := 0x1c4, lsb := 6, width := 1, acc := .ro }
/-- JS_STATE.points, R339. -/
def jsStatePoints : Row := { off := 0x1c4, lsb := 8, width := 7, acc := .ro }
/-- JS_LOSS.lost, R339. -/
def jsLossLost : Row := { off := 0x1c8, lsb := 0, width := 16, acc := .rc }
/-- JS_LOSS.late, R339. -/
def jsLossLate : Row := { off := 0x1c8, lsb := 16, width := 16, acc := .rc }
/-- JS_ADJ.inserted, R339. -/
def jsAdjInserted : Row := { off := 0x1cc, lsb := 0, width := 8, acc := .rc }
/-- JS_ADJ.deleted, R339. -/
def jsAdjDeleted : Row := { off := 0x1cc, lsb := 8, width := 8, acc := .rc }
/-- JS_ADJ.forced, R339. -/
def jsAdjForced : Row := { off := 0x1cc, lsb := 16, width := 8, acc := .rc }
/-- JS_ADJ.resyncs, R339. -/
def jsAdjResyncs : Row := { off := 0x1cc, lsb := 24, width := 8, acc := .rc }
/-- JS_DROP.dup, R339. -/
def jsDropDup : Row := { off := 0x1d0, lsb := 0, width := 16, acc := .rc }
/-- JS_DROP.early, R339. -/
def jsDropEarly : Row := { off := 0x1d0, lsb := 16, width := 16, acc := .rc }
/-- JS_PLAYED.ms, R339. -/
def jsPlayedMs : Row := { off := 0x1d4, lsb := 0, width := 32, acc := .ro }
/-- JS_CONCEAL.ms, R339. -/
def jsConcealMs : Row := { off := 0x1d8, lsb := 0, width := 32, acc := .ro }

/-- The fields of the table: Descriptor jitter-buffer fields. -/
def jbRows : List Row :=
  [jbCtrlMode, jbCtrlDfMode, jbCtrlJbSkip, jbCtrlSilDb, jbDelayMinMs, jbDelayMaxMs, jbNomNomMs, jbNomMarginMs, jbNomWinS, jbDfDfWinS, jbDfDfSlew, jbCmdResync, jbCmdDfReset, jsDelayDelayX10, jsDelayTargetMs, jsJitterSpreadX10, jsJitterResampUs, jsRatioRatio, jsEstEst, jsPosPos, jsStateJbState, jsStateDfState, jsStateDfEdge, jsStatePoints, jsLossLost, jsLossLate, jsAdjInserted, jsAdjDeleted, jsAdjForced, jsAdjResyncs, jsDropDup, jsDropEarly, jsPlayedMs, jsConcealMs]

/-! ### Descriptor pair mirror status -/

/-- PM_STATUS.role, R738. -/
def pmStatusRole : Row := { off := 0x1e0, lsb := 0, width := 2, acc := .ro }
/-- PM_STATUS.mirrored, R738. -/
def pmStatusMirrored : Row := { off := 0x1e0, lsb := 2, width := 1, acc := .ro }
/-- PM_STATUS.charged, R738. -/
def pmStatusCharged : Row := { off := 0x1e0, lsb := 3, width := 1, acc := .ro }
/-- PM_STATUS.took_over, R738. -/
def pmStatusTookOver : Row := { off := 0x1e0, lsb := 4, width := 1, acc := .ro }
/-- PM_STATUS.unprot, R738. -/
def pmStatusUnprot : Row := { off := 0x1e0, lsb := 5, width := 3, acc := .ro }
/-- PM_STATUS.seq_skip, R738. -/
def pmStatusSeqSkip : Row := { off := 0x1e0, lsb := 16, width := 8, acc := .ro }
/-- PM_PROOF.seq, R738. -/
def pmProofSeq : Row := { off := 0x1e4, lsb := 0, width := 32, acc := .ro }
/-- PM_AGE.age_us, R738. -/
def pmAgeAgeUs : Row := { off := 0x1e8, lsb := 0, width := 24, acc := .ro }
/-- PM_RTP.next_seq, R738. -/
def pmRtpNextSeq : Row := { off := 0x1ec, lsb := 0, width := 16, acc := .ro }
/-- PM_TS.next_ts, R738. -/
def pmTsNextTs : Row := { off := 0x1f0, lsb := 0, width := 32, acc := .ro }

/-- The fields of the table: Descriptor pair mirror status. -/
def pmRows : List Row :=
  [pmStatusRole, pmStatusMirrored, pmStatusCharged, pmStatusTookOver, pmStatusUnprot, pmStatusSeqSkip, pmProofSeq, pmAgeAgeUs, pmRtpNextSeq, pmTsNextTs]

end Sys2Proof.Machine.Reg
end

