-- ==== Sys2Proof/Machine/FieldsChip.lean ====
section
/-! DEFINITION. The register tables of the spec, one row per field (Site summary sheet, Sheet directory sheet, Host port sheet, Clock and reset sheet, Life-cycle and fuse sheet, Timebase sheet, Holdover model sheet, Front-end sheet, Power arbiter sheet, Quiet mode sheet, Freeze unit sheet, Epkuone link sheet, Site inputs sheet, Watchdog channel sheets, Island mailbox sheet).
Each docstring gives the register, the field and the rule whose table it is. -/

namespace Sys2Proof.Machine.Reg

/-! ### Site summary sheet -/

/-- DEVICE_REV.stepping, R33. -/
def deviceRevStepping : Row := { off := 0x40, lsb := 0, width := 8, acc := .ro, reset := 1 }
/-- DEVICE_REV.device, R33. -/
def deviceRevDevice : Row := { off := 0x40, lsb := 16, width := 16, acc := .ro, reset := 8264 }
/-- FUSE_VIEW.plates_present, R33. -/
def fuseViewPlatesPresent : Row := { off := 0x44, lsb := 0, width := 8, acc := .ro }
/-- FUSE_VIEW.island_present, R33. -/
def fuseViewIslandPresent : Row := { off := 0x44, lsb := 8, width := 1, acc := .ro }
/-- FUSE_VIEW.vf_limit, R33. -/
def fuseViewVfLimit : Row :=
  { off := 0x44, lsb := 9, width := 7, acc := .ro, clamp := .nat (.c 0) (.c 64) }
/-- FUSE_VIEW.life_cycle, R33. -/
def fuseViewLifeCycle : Row := { off := 0x44, lsb := 16, width := 2, acc := .ro }
/-- FUSE_VIEW.wd_hw_start, R33. -/
def fuseViewWdHwStart : Row := { off := 0x44, lsb := 18, width := 1, acc := .ro }
/-- CEILING_FUSE.ceiling, R33. -/
def ceilingFuseCeiling : Row :=
  { off := 0x48, lsb := 0, width := 12, acc := .ro, clamp := .nat (.c 1) (.c 1600) }
/-- SITE_MAP.operator_tag, R33. -/
def siteMapOperatorTag : Row :=
  { off := 0x50, stride := 4, count := 8, lsb := 0, width := 16, acc := .rw }
/-- SITE_MAP.feed, R33. -/
def siteMapFeed : Row := { off := 0x50, stride := 4, count := 8, lsb := 16, width := 3, acc := .rw }
/-- SITE_MAP.feed_valid, R33. -/
def siteMapFeedValid : Row :=
  { off := 0x50, stride := 4, count := 8, lsb := 19, width := 1, acc := .rw }
/-- SITE_MAP.in_use, R33. -/
def siteMapInUse : Row := { off := 0x50, stride := 4, count := 8, lsb := 20, width := 1, acc := .rw }
/-- CAPACITY.units_per_plate, R33. -/
def capacityUnitsPerPlate : Row := { off := 0x70, lsb := 0, width := 9, acc := .ro, reset := 256 }
/-- CAPACITY.tenants_per_plate, R33. -/
def capacityTenantsPerPlate : Row := { off := 0x70, lsb := 9, width := 4, acc := .ro, reset := 8 }
/-- CAPACITY.plates, R33. -/
def capacityPlates : Row := { off := 0x70, lsb := 13, width := 4, acc := .ro, reset := 8 }

/-- The fields of the table: Site summary sheet. -/
def siteRows : List Row :=
  [deviceRevStepping, deviceRevDevice, fuseViewPlatesPresent, fuseViewIslandPresent, fuseViewVfLimit, fuseViewLifeCycle, fuseViewWdHwStart, ceilingFuseCeiling, siteMapOperatorTag, siteMapFeed, siteMapFeedValid, siteMapInUse, capacityUnitsPerPlate, capacityTenantsPerPlate, capacityPlates]

/-! ### Sheet directory sheet -/

/-- DIR_LOCK_LIMIT.lock_limit, R82. -/
def dirLockLimitLockLimit : Row :=
  { off := 0x40, lsb := 0, width := 16, acc := .rwl, reset := 100, clamp := .nat (.c 10) (.c 10000) }
/-- DIR_LOCK_SUMMARY.locked, R82. -/
def dirLockSummaryLocked : Row := { off := 0x44, lsb := 0, width := 12, acc := .ro }
/-- DIR_LOCK_SUMMARY.broken, R82. -/
def dirLockSummaryBroken : Row := { off := 0x44, lsb := 16, width := 12, acc := .ro }
/-- DIR_TRACE_SUMMARY.held, R82. -/
def dirTraceSummaryHeld : Row := { off := 0x48, lsb := 0, width := 12, acc := .ro }
/-- DIR_HELD_PLATES.plate_held, R82. -/
def dirHeldPlatesPlateHeld : Row := { off := 0x4c, lsb := 0, width := 8, acc := .ro }
/-- DIR_LOCK_PLATES.locked, R82. -/
def dirLockPlatesLocked : Row := { off := 0x50, lsb := 0, width := 8, acc := .ro }
/-- DIR_LOCK_PLATES.broken, R82. -/
def dirLockPlatesBroken : Row := { off := 0x50, lsb := 16, width := 8, acc := .ro }
/-- DIR_LOCK_WD.locked, R82. -/
def dirLockWdLocked : Row := { off := 0x54, lsb := 0, width := 9, acc := .ro }
/-- DIR_LOCK_WD.broken, R82. -/
def dirLockWdBroken : Row := { off := 0x54, lsb := 16, width := 9, acc := .ro }

/-- The fields of the table: Sheet directory sheet. -/
def dirRows : List Row :=
  [dirLockLimitLockLimit, dirLockSummaryLocked, dirLockSummaryBroken, dirTraceSummaryHeld, dirHeldPlatesPlateHeld, dirLockPlatesLocked, dirLockPlatesBroken, dirLockWdLocked, dirLockWdBroken]

/-! ### Host port sheet -/

/-- HP_LINK.width, R120. -/
def hpLinkWidth : Row := { off := 0x40, lsb := 0, width := 4, acc := .ro }
/-- HP_LINK.speed, R120. -/
def hpLinkSpeed : Row := { off := 0x40, lsb := 4, width := 4, acc := .ro }
/-- HP_LINK.up, R120. -/
def hpLinkUp : Row := { off := 0x40, lsb := 8, width := 1, acc := .ro }
/-- HP_LINK.in_l1, R120. -/
def hpLinkInL1 : Row := { off := 0x40, lsb := 9, width := 1, acc := .ro }
/-- HP_VF.num_vfs, R120. -/
def hpVfNumVfs : Row := { off := 0x44, lsb := 0, width := 7, acc := .ro }
/-- HP_VF.vf_enable, R120. -/
def hpVfVfEnable : Row := { off := 0x44, lsb := 7, width := 1, acc := .ro }
/-- HP_VF.ari, R120. -/
def hpVfAri : Row := { off := 0x44, lsb := 8, width := 1, acc := .ro }
/-- HP_VF.total_vfs, R120. -/
def hpVfTotalVfs : Row := { off := 0x44, lsb := 9, width := 7, acc := .ro }
/-- HP_TAGS.ext_tag, R120. -/
def hpTagsExtTag : Row := { off := 0x48, lsb := 0, width := 1, acc := .ro }
/-- HP_TAGS.tags_per_plate, R120. -/
def hpTagsTagsPerPlate : Row := { off := 0x48, lsb := 4, width := 4, acc := .ro, reset := 4 }
/-- HP_TAGS.mrrs, R120. -/
def hpTagsMrrs : Row := { off := 0x48, lsb := 8, width := 3, acc := .ro, reset := 2 }
/-- HP_TAGS.mps, R120. -/
def hpTagsMps : Row := { off := 0x48, lsb := 12, width := 3, acc := .ro }
/-- HP_CNT_A.mmio_timeout, R120. -/
def hpCntAMmioTimeout : Row := { off := 0x50, lsb := 0, width := 16, acc := .rc }
/-- HP_CNT_A.cpl_timeout, R120. -/
def hpCntACplTimeout : Row := { off := 0x50, lsb := 16, width := 16, acc := .rc }
/-- HP_CNT_B.poisoned_rx, R120. -/
def hpCntBPoisonedRx : Row := { off := 0x54, lsb := 0, width := 16, acc := .rc }
/-- HP_CNT_B.abandoned, R120. -/
def hpCntBAbandoned : Row := { off := 0x54, lsb := 16, width := 16, acc := .rc }
/-- HP_CNT_C.ur_sent, R120. -/
def hpCntCUrSent : Row := { off := 0x58, lsb := 0, width := 16, acc := .rc }
/-- HP_CNT_C.link_down, R120. -/
def hpCntCLinkDown : Row := { off := 0x58, lsb := 16, width := 16, acc := .rc }
/-- HP_FROZEN_LO.vf, R120. -/
def hpFrozenLoVf : Row := { off := 0x5c, lsb := 0, width := 32, acc := .ro }
/-- HP_FROZEN_HI.vf, R120. -/
def hpFrozenHiVf : Row := { off := 0x60, lsb := 0, width := 32, acc := .ro }
/-- HP_NOTE_LO.vf, R120. -/
def hpNoteLoVf : Row := { off := 0x64, lsb := 0, width := 32, acc := .w1c }
/-- HP_NOTE_HI.vf, R120. -/
def hpNoteHiVf : Row := { off := 0x68, lsb := 0, width := 32, acc := .w1c }
/-- HP_FLR_LO.vf, R120. -/
def hpFlrLoVf : Row := { off := 0x6c, lsb := 0, width := 32, acc := .ro }
/-- HP_FLR_HI.vf, R120. -/
def hpFlrHiVf : Row := { off := 0x70, lsb := 0, width := 32, acc := .ro }
/-- HP_FAULT.plate, R120. -/
def hpFaultPlate : Row := { off := 0x74, lsb := 0, width := 3, acc := .ro }
/-- HP_FAULT.valid, R120. -/
def hpFaultValid : Row := { off := 0x74, lsb := 3, width := 1, acc := .w1c }
/-- HP_FAULT.drain_us, R120. -/
def hpFaultDrainUs : Row := { off := 0x74, lsb := 8, width := 8, acc := .ro }

/-- The fields of the table: Host port sheet. -/
def hpRows : List Row :=
  [hpLinkWidth, hpLinkSpeed, hpLinkUp, hpLinkInL1, hpVfNumVfs, hpVfVfEnable, hpVfAri, hpVfTotalVfs, hpTagsExtTag, hpTagsTagsPerPlate, hpTagsMrrs, hpTagsMps, hpCntAMmioTimeout, hpCntACplTimeout, hpCntBPoisonedRx, hpCntBAbandoned, hpCntCUrSent, hpCntCLinkDown, hpFrozenLoVf, hpFrozenHiVf, hpNoteLoVf, hpNoteHiVf, hpFlrLoVf, hpFlrHiVf, hpFaultPlate, hpFaultValid, hpFaultDrainUs]

/-! ### Clock and reset sheet -/

/-- CR_STRAPS.sid, R167. -/
def crStrapsSid : Row := { off := 0x40, lsb := 0, width := 2, acc := .ro }
/-- CR_STRAPS.pair_en, R167. -/
def crStrapsPairEn : Row := { off := 0x40, lsb := 2, width := 1, acc := .ro }
/-- CR_STRAPS.perst_mode, R167. -/
def crStrapsPerstMode : Row := { off := 0x40, lsb := 3, width := 1, acc := .ro }
/-- CR_STRAPS.fl_quad, R167. -/
def crStrapsFlQuad : Row := { off := 0x40, lsb := 4, width := 1, acc := .ro }
/-- CR_BOOT.step, R167. -/
def crBootStep : Row := { off := 0x44, lsb := 0, width := 4, acc := .ro }
/-- CR_BOOT.done, R167. -/
def crBootDone : Row := { off := 0x44, lsb := 4, width := 1, acc := .ro }
/-- CR_BOOT.patch_status, R167. -/
def crBootPatchStatus : Row := { off := 0x44, lsb := 8, width := 3, acc := .ro }
/-- CR_BOOT.patch_kib, R167. -/
def crBootPatchKib : Row := { off := 0x44, lsb := 16, width := 11, acc := .ro }
/-- CR_BOOT_TIME.boot_ms, R167. -/
def crBootTimeBootMs : Row := { off := 0x48, lsb := 0, width := 16, acc := .ro }
/-- CR_REF_STATUS.osc_in_ok, R167. -/
def crRefStatusOscInOk : Row := { off := 0x4c, lsb := 0, width := 1, acc := .ro }
/-- CR_REF_STATUS.ref_in_ok, R167. -/
def crRefStatusRefInOk : Row := { off := 0x4c, lsb := 1, width := 1, acc := .ro }
/-- CR_REF_STATUS.refclk_ok, R167. -/
def crRefStatusRefclkOk : Row := { off := 0x4c, lsb := 2, width := 1, acc := .ro }
/-- CR_REF_STATUS.tree_src, R167. -/
def crRefStatusTreeSrc : Row := { off := 0x4c, lsb := 4, width := 2, acc := .ro }
/-- CR_REF_STATUS.tb_pll_lock, R167. -/
def crRefStatusTbPllLock : Row := { off := 0x4c, lsb := 6, width := 1, acc := .ro }
/-- CR_REF_STATUS.tb_src, R167. -/
def crRefStatusTbSrc : Row := { off := 0x4c, lsb := 8, width := 2, acc := .ro }
/-- CR_REF_STATUS.ref_in_25, R167. -/
def crRefStatusRefIn25 : Row := { off := 0x4c, lsb := 12, width := 1, acc := .ro }
/-- CR_REF_STATUS.switches, R167. -/
def crRefStatusSwitches : Row := { off := 0x4c, lsb := 16, width := 8, acc := .rc }
/-- CR_TREE_SRC.prefer, R167. -/
def crTreeSrcPrefer : Row := { off := 0x50, lsb := 0, width := 2, acc := .rwl }
/-- CR_RESET_REQ.plate_mask, R167. -/
def crResetReqPlateMask : Row := { off := 0x54, lsb := 0, width := 8, acc := .wo }
/-- CR_RESET_REQ.chip, R167. -/
def crResetReqChip : Row := { off := 0x54, lsb := 8, width := 1, acc := .wo }
/-- CR_RESET_REQ.confirm, R167. -/
def crResetReqConfirm : Row := { off := 0x54, lsb := 24, width := 8, acc := .wo }
/-- CR_CHIP_CAUSE.cause, R167. -/
def crChipCauseCause : Row := { off := 0x58, lsb := 0, width := 4, acc := .ro }
/-- CR_CHIP_CAUSE.count, R167. -/
def crChipCauseCount : Row := { off := 0x58, lsb := 8, width := 8, acc := .ro }
/-- CR_CHIP_CAUSE.tick, R167. -/
def crChipCauseTick : Row := { off := 0x58, lsb := 16, width := 16, acc := .ro }
/-- CR_HOST_RESETS.perst, R167. -/
def crHostResetsPerst : Row := { off := 0x5c, lsb := 0, width := 8, acc := .rc }
/-- CR_HOST_RESETS.hot, R167. -/
def crHostResetsHot : Row := { off := 0x5c, lsb := 8, width := 8, acc := .rc }
/-- CR_HOST_RESETS.link_down, R167. -/
def crHostResetsLinkDown : Row := { off := 0x5c, lsb := 16, width := 8, acc := .rc }
/-- CR_PLATE_CAUSE.cause, R167. -/
def crPlateCauseCause : Row :=
  { off := 0x60, stride := 4, count := 8, lsb := 0, width := 4, acc := .ro }
/-- CR_PLATE_CAUSE.count, R167. -/
def crPlateCauseCount : Row :=
  { off := 0x60, stride := 4, count := 8, lsb := 8, width := 8, acc := .ro }
/-- CR_PLATE_CAUSE.tick, R167. -/
def crPlateCauseTick : Row :=
  { off := 0x60, stride := 4, count := 8, lsb := 16, width := 16, acc := .ro }
/-- CR_PLATE_RUN.powered, R167. -/
def crPlateRunPowered : Row := { off := 0x80, lsb := 0, width := 8, acc := .ro }
/-- CR_PLATE_RUN.in_reset, R167. -/
def crPlateRunInReset : Row := { off := 0x80, lsb := 8, width := 8, acc := .ro }
/-- CR_WAKE_GAP.gap_us, R167. -/
def crWakeGapGapUs : Row :=
  { off := 0x84, lsb := 0, width := 10, acc := .rwl, reset := 200, clamp := .nat (.c 200) (.c 1000) }
/-- CR_CLK_MON.plate_pll, R167. -/
def crClkMonPlatePll : Row := { off := 0x88, lsb := 0, width := 8, acc := .ro }
/-- CR_CLK_MON.mac_rx, R167. -/
def crClkMonMacRx : Row := { off := 0x88, lsb := 8, width := 8, acc := .ro }
/-- CR_CLK_MON.epk_pll, R167. -/
def crClkMonEpkPll : Row := { off := 0x88, lsb := 16, width := 1, acc := .ro }

/-- The fields of the table: Clock and reset sheet. -/
def crRows : List Row :=
  [crStrapsSid, crStrapsPairEn, crStrapsPerstMode, crStrapsFlQuad, crBootStep, crBootDone, crBootPatchStatus, crBootPatchKib, crBootTimeBootMs, crRefStatusOscInOk, crRefStatusRefInOk, crRefStatusRefclkOk, crRefStatusTreeSrc, crRefStatusTbPllLock, crRefStatusTbSrc, crRefStatusRefIn25, crRefStatusSwitches, crTreeSrcPrefer, crResetReqPlateMask, crResetReqChip, crResetReqConfirm, crChipCauseCause, crChipCauseCount, crChipCauseTick, crHostResetsPerst, crHostResetsHot, crHostResetsLinkDown, crPlateCauseCause, crPlateCauseCount, crPlateCauseTick, crPlateRunPowered, crPlateRunInReset, crWakeGapGapUs, crClkMonPlatePll, crClkMonMacRx, crClkMonEpkPll]

/-! ### Life-cycle and fuse sheet -/

/-- LC_STATE.state, R652. -/
def lcStateState : Row := { off := 0x40, lsb := 0, width := 2, acc := .ro }
/-- LC_STATE.pend_state, R652. -/
def lcStatePendState : Row := { off := 0x40, lsb := 4, width := 2, acc := .ro }
/-- LC_STATE.pending, R652. -/
def lcStatePending : Row := { off := 0x40, lsb := 6, width := 1, acc := .ro }
/-- LC_STATE.rtm_armed, R652. -/
def lcStateRtmArmed : Row := { off := 0x40, lsb := 8, width := 1, acc := .ro }
/-- LC_STATE.erased, R652. -/
def lcStateErased : Row := { off := 0x40, lsb := 9, width := 1, acc := .ro }
/-- LC_UID_LO.uid, R652. -/
def lcUidLoUid : Row := { off := 0x44, lsb := 0, width := 32, acc := .ro }
/-- LC_UID_HI.uid, R652. -/
def lcUidHiUid : Row := { off := 0x48, lsb := 0, width := 32, acc := .ro }
/-- LC_NONCE_LO.nonce, R652. -/
def lcNonceLoNonce : Row := { off := 0x4c, lsb := 0, width := 32, acc := .ro }
/-- LC_NONCE_HI.nonce, R652. -/
def lcNonceHiNonce : Row := { off := 0x50, lsb := 0, width := 32, acc := .ro }
/-- LC_REQ.word, R652. -/
def lcReqWord : Row := { off := 0x54, lsb := 0, width := 32, acc := .woL }
/-- LC_REQ_STATUS.result, R652. -/
def lcReqStatusResult : Row := { off := 0x58, lsb := 0, width := 3, acc := .ro }
/-- LC_FUSE_DATA.value, R652. -/
def lcFuseDataValue : Row := { off := 0x5c, lsb := 0, width := 32, acc := .rwl }
/-- LC_FUSE_CMD.group, R652. -/
def lcFuseCmdGroup : Row :=
  { off := 0x60, lsb := 0, width := 4, acc := .woL, clamp := .nat (.c 0) (.c 7) }
/-- LC_FUSE_CMD.confirm, R652. -/
def lcFuseCmdConfirm : Row := { off := 0x60, lsb := 24, width := 8, acc := .woL }
/-- LC_FUSE_STATUS.busy, R652. -/
def lcFuseStatusBusy : Row := { off := 0x64, lsb := 0, width := 1, acc := .ro }
/-- LC_FUSE_STATUS.result, R652. -/
def lcFuseStatusResult : Row := { off := 0x64, lsb := 4, width := 3, acc := .ro }
/-- LC_FUSE_STATUS.group, R652. -/
def lcFuseStatusGroup : Row := { off := 0x64, lsb := 8, width := 4, acc := .ro }
/-- LC_OPT_SENSED.plate_dis, R652. -/
def lcOptSensedPlateDis : Row := { off := 0x70, lsb := 0, width := 8, acc := .ro }
/-- LC_OPT_SENSED.isl_off, R652. -/
def lcOptSensedIslOff : Row := { off := 0x70, lsb := 8, width := 1, acc := .ro }
/-- LC_OPT_SENSED.wd_hw, R652. -/
def lcOptSensedWdHw : Row := { off := 0x70, lsb := 9, width := 1, acc := .ro }
/-- LC_OPT_SENSED.key_rev, R652. -/
def lcOptSensedKeyRev : Row := { off := 0x70, lsb := 12, width := 4, acc := .ro }
/-- LC_OPT_SENSED.sec_ver, R652. -/
def lcOptSensedSecVer : Row := { off := 0x70, lsb := 16, width := 6, acc := .ro }
/-- LC_CEIL.sensed, R652. -/
def lcCeilSensed : Row := { off := 0x78, lsb := 0, width := 11, acc := .ro }
/-- LC_CEIL.sensed_lock, R652. -/
def lcCeilSensedLock : Row := { off := 0x78, lsb := 11, width := 1, acc := .ro }
/-- LC_CEIL.blown, R652. -/
def lcCeilBlown : Row := { off := 0x78, lsb := 16, width := 11, acc := .ro }
/-- LC_CEIL.blown_lock, R652. -/
def lcCeilBlownLock : Row := { off := 0x78, lsb := 27, width := 1, acc := .ro }
/-- LC_VFCAP.sensed, R652. -/
def lcVfcapSensed : Row := { off := 0x7c, lsb := 0, width := 7, acc := .ro }
/-- LC_VFCAP.sensed_lock, R652. -/
def lcVfcapSensedLock : Row := { off := 0x7c, lsb := 7, width := 1, acc := .ro }
/-- LC_VFCAP.blown, R652. -/
def lcVfcapBlown : Row := { off := 0x7c, lsb := 16, width := 7, acc := .ro }
/-- LC_VFCAP.blown_lock, R652. -/
def lcVfcapBlownLock : Row := { off := 0x7c, lsb := 23, width := 1, acc := .ro }
/-- LC_PATCH.reason, R652. -/
def lcPatchReason : Row := { off := 0x80, lsb := 0, width := 4, acc := .ro }
/-- LC_PATCH.kind, R652. -/
def lcPatchKind : Row := { off := 0x80, lsb := 4, width := 2, acc := .ro }
/-- LC_PATCH.key, R652. -/
def lcPatchKey : Row := { off := 0x80, lsb := 6, width := 2, acc := .ro }
/-- LC_PATCH.sec_ver, R652. -/
def lcPatchSecVer : Row := { off := 0x80, lsb := 8, width := 6, acc := .ro }
/-- LC_RTM_VERIFY.go, R652. -/
def lcRtmVerifyGo : Row := { off := 0x84, lsb := 0, width := 1, acc := .woL }
/-- LC_RTM_STATUS.result, R652. -/
def lcRtmStatusResult : Row := { off := 0x88, lsb := 0, width := 3, acc := .ro }
/-- LC_RTM_STATUS.busy, R652. -/
def lcRtmStatusBusy : Row := { off := 0x88, lsb := 3, width := 1, acc := .ro }
/-- LC_RTM_IMG.word, R652. -/
def lcRtmImgWord : Row :=
  { off := 0x100, stride := 4, count := 32, lsb := 0, width := 32, acc := .rwl }
/-- LC_TKEY.word, R652. -/
def lcTkeyWord : Row := { off := 0x800, stride := 4, count := 256, lsb := 0, width := 32, acc := .rwl }

/-- The fields of the table: Life-cycle and fuse sheet. -/
def lcRows : List Row :=
  [lcStateState, lcStatePendState, lcStatePending, lcStateRtmArmed, lcStateErased, lcUidLoUid, lcUidHiUid, lcNonceLoNonce, lcNonceHiNonce, lcReqWord, lcReqStatusResult, lcFuseDataValue, lcFuseCmdGroup, lcFuseCmdConfirm, lcFuseStatusBusy, lcFuseStatusResult, lcFuseStatusGroup, lcOptSensedPlateDis, lcOptSensedIslOff, lcOptSensedWdHw, lcOptSensedKeyRev, lcOptSensedSecVer, lcCeilSensed, lcCeilSensedLock, lcCeilBlown, lcCeilBlownLock, lcVfcapSensed, lcVfcapSensedLock, lcVfcapBlown, lcVfcapBlownLock, lcPatchReason, lcPatchKind, lcPatchKey, lcPatchSecVer, lcRtmVerifyGo, lcRtmStatusResult, lcRtmStatusBusy, lcRtmImgWord, lcTkeyWord]

/-! ### Timebase sheet -/

/-- TB_CTRL.revert, R497. -/
def tbCtrlRevert : Row := { off := 0x40, lsb := 0, width := 1, acc := .rwl, reset := 1 }
/-- TB_CTRL.pps_out_en, R497. -/
def tbCtrlPpsOutEn : Row := { off := 0x40, lsb := 1, width := 1, acc := .rwl, reset := 1 }
/-- TB_CTRL.pps_free, R497. -/
def tbCtrlPpsFree : Row := { off := 0x40, lsb := 2, width := 1, acc := .rwl }
/-- TB_CTRL.pps_w_ms, R497. -/
def tbCtrlPpsWMs : Row :=
  { off := 0x40, lsb := 8, width := 8, acc := .rwl, reset := 100, clamp := .nat (.c 1) (.c 200) }
/-- TB_CTRL.wtr_s, R497. -/
def tbCtrlWtrS : Row :=
  { off := 0x40, lsb := 16, width := 12, acc := .rwl, reset := 300, clamp := .nat (.c 0) (.c 3600) }
/-- TB_PRI.pri_pps, R497. -/
def tbPriPriPps : Row := { off := 0x44, lsb := 0, width := 3, acc := .rwl, reset := 1 }
/-- TB_PRI.pri_ptp, R497. -/
def tbPriPriPtp : Row := { off := 0x44, lsb := 4, width := 3, acc := .rwl }
/-- TB_PRI.pri_synce, R497. -/
def tbPriPriSynce : Row := { off := 0x44, lsb := 8, width := 3, acc := .rwl }
/-- TB_PRI.pri_ref, R497. -/
def tbPriPriRef : Row := { off := 0x44, lsb := 12, width := 3, acc := .rwl }
/-- TB_PRI.pri_epk, R497. -/
def tbPriPriEpk : Row := { off := 0x44, lsb := 16, width := 3, acc := .rwl }
/-- TB_PRI.synce_port, R497. -/
def tbPriSyncePort : Row := { off := 0x44, lsb := 20, width := 3, acc := .rwl }
/-- TB_PRI.force, R497. -/
def tbPriForce : Row := { off := 0x44, lsb := 24, width := 4, acc := .rwl, clamp := .enum 0 6 0 }
/-- TB_PRI.assist, R497. -/
def tbPriAssist : Row := { off := 0x44, lsb := 28, width := 1, acc := .rwl }
/-- TB_SERVO.bw_mhz, R497. -/
def tbServoBwMhz : Row :=
  { off := 0x48, lsb := 0, width := 10, acc := .rwl, reset := 50, clamp := .nat (.c 1) (.c 1000) }
/-- TB_SERVO.lock_ns, R497. -/
def tbServoLockNs : Row :=
  { off := 0x48, lsb := 16, width := 10, acc := .rwl, reset := 100, clamp := .nat (.c 10) (.c 1000) }
/-- TB_LOCK.lock_s, R497. -/
def tbLockLockS : Row :=
  { off := 0x4c, lsb := 0, width := 8, acc := .rwl, reset := 60, clamp := .nat (.c 10) (.c 255) }
/-- TB_LOCK.unlock_ns, R497. -/
def tbLockUnlockNs : Row :=
  { off := 0x4c, lsb := 16, width := 16, acc := .rwl, reset := 1000, clamp := .nat (.fld 0x48 16 100) (.c 65535) }
/-- TB_STEP.step_limit, R497. -/
def tbStepStepLimit : Row :=
  { off := 0x50, lsb := 0, width := 30, acc := .rwl, reset := 1000, clamp := .nat (.c 100) (.c 999999999) }
/-- TB_SLEW.slew_ppb, R497. -/
def tbSlewSlewPpb : Row :=
  { off := 0x54, lsb := 0, width := 16, acc := .rwl, reset := 100, clamp := .nat (.c 1) (.c 10000) }
/-- TB_SLEW.ramp_ppbs, R497. -/
def tbSlewRampPpbs : Row :=
  { off := 0x54, lsb := 16, width := 4, acc := .rwl, reset := 10, clamp := .nat (.c 1) (.c 10) }
/-- TB_PPS_CFG.pps_edge, R497. -/
def tbPpsCfgPpsEdge : Row := { off := 0x58, lsb := 0, width := 1, acc := .rwl }
/-- TB_PPS_CFG.pps_delay_ns, R497. -/
def tbPpsCfgPpsDelayNs : Row := { off := 0x58, lsb := 16, width := 16, acc := .rwl }
/-- TB_PPS_STAT.good_run, R497. -/
def tbPpsStatGoodRun : Row := { off := 0x5c, lsb := 0, width := 4, acc := .ro }
/-- TB_PPS_STAT.stuck, R497. -/
def tbPpsStatStuck : Row := { off := 0x5c, lsb := 4, width := 1, acc := .ro }
/-- TB_PPS_STAT.qualified, R497. -/
def tbPpsStatQualified : Row := { off := 0x5c, lsb := 5, width := 1, acc := .ro }
/-- TB_PPS_STAT.fast, R497. -/
def tbPpsStatFast : Row := { off := 0x5c, lsb := 8, width := 8, acc := .rc }
/-- TB_PPS_STAT.period_err, R497. -/
def tbPpsStatPeriodErr : Row := { off := 0x5c, lsb := 16, width := 8, acc := .rc }
/-- TB_PTP_CFG.ptp_timeout_ms, R497. -/
def tbPtpCfgPtpTimeoutMs : Row :=
  { off := 0x60, lsb := 0, width := 16, acc := .rwl, reset := 3000, clamp := .nat (.c 100) (.c 60000) }
/-- TB_PTP_CFG.ptp_ok, R497. -/
def tbPtpCfgPtpOk : Row := { off := 0x60, lsb := 16, width := 1, acc := .rwl }
/-- TB_PTP_CFG.ptp_gate_us, R497. -/
def tbPtpCfgPtpGateUs : Row := { off := 0x60, lsb := 24, width := 8, acc := .rwl }
/-- TB_PTP_OFS.ofs_ns, R497. -/
def tbPtpOfsOfsNs : Row := { off := 0x64, lsb := 0, width := 32, acc := .rw }
/-- TB_PTP_SUBMIT.t_ns, R497. -/
def tbPtpSubmitTNs : Row :=
  { off := 0x68, lsb := 0, width := 30, acc := .wo, clamp := .nat (.c 0) (.c 999999999) }
/-- TB_FREQ_CFG.synce_ok, R497. -/
def tbFreqCfgSynceOk : Row := { off := 0x70, lsb := 0, width := 1, acc := .rwl }
/-- TB_FREQ_CFG.range_ppb, R497. -/
def tbFreqCfgRangePpb : Row :=
  { off := 0x70, lsb := 16, width := 16, acc := .rwl, reset := 4600, clamp := .nat (.c 100) (.c 50000) }
/-- TB_EXT_FREQ.freq, R497. -/
def tbExtFreqFreq : Row := { off := 0x74, lsb := 0, width := 32, acc := .rw }
/-- TB_EXT_CTRL.ext_state, R497. -/
def tbExtCtrlExtState : Row := { off := 0x78, lsb := 0, width := 3, acc := .rw, clamp := .enum 0 4 0 }
/-- TB_EXT_CTRL.ext_timeout_ms, R497. -/
def tbExtCtrlExtTimeoutMs : Row :=
  { off := 0x78, lsb := 16, width := 16, acc := .rwl, reset := 2000, clamp := .nat (.c 100) (.c 60000) }
/-- TB_SET_SEC_LO.sec_lo, R497. -/
def tbSetSecLoSecLo : Row := { off := 0x80, lsb := 0, width := 32, acc := .rwl }
/-- TB_SET_SEC_HI.sec_hi, R497. -/
def tbSetSecHiSecHi : Row := { off := 0x84, lsb := 0, width := 16, acc := .rwl }
/-- TB_SET_NS.ns, R497. -/
def tbSetNsNs : Row :=
  { off := 0x88, lsb := 0, width := 30, acc := .rwl, clamp := .nat (.c 0) (.c 999999999) }
/-- TB_SET_CTRL.go, R497. -/
def tbSetCtrlGo : Row := { off := 0x8c, lsb := 0, width := 1, acc := .woL }
/-- TB_SET_CTRL.rel, R497. -/
def tbSetCtrlRel : Row := { off := 0x8c, lsb := 1, width := 1, acc := .woL }
/-- TB_SET_CTRL.force, R497. -/
def tbSetCtrlForce : Row := { off := 0x8c, lsb := 2, width := 1, acc := .woL }
/-- TB_TOD_NEXT_HI.sec_hi, R497. -/
def tbTodNextHiSecHi : Row := { off := 0x90, lsb := 0, width := 16, acc := .rwl }
/-- TB_TOD_NEXT_LO.sec_lo, R497. -/
def tbTodNextLoSecLo : Row := { off := 0x94, lsb := 0, width := 32, acc := .rwl }
/-- TB_UTC.utc_offset, R497. -/
def tbUtcUtcOffset : Row := { off := 0x98, lsb := 0, width := 8, acc := .rwl, reset := 37 }
/-- TB_TIME_NS.ns, R497. -/
def tbTimeNsNs : Row := { off := 0xa0, lsb := 0, width := 30, acc := .ro }
/-- TB_PHASE.phase, R497. -/
def tbPhasePhase : Row := { off := 0xb0, lsb := 0, width := 32, acc := .ro, reset := 2147483648 }
/-- TB_FREQ.freq, R497. -/
def tbFreqFreq : Row := { off := 0xb4, lsb := 0, width := 32, acc := .ro }
/-- TB_EFC.code, R497. -/
def tbEfcCode : Row := { off := 0xb8, lsb := 0, width := 18, acc := .ro, reset := 131072 }
/-- TB_EFC.at_limit, R497. -/
def tbEfcAtLimit : Row := { off := 0xb8, lsb := 31, width := 1, acc := .ro }
/-- TB_EFC_CFG.efc_range_ppb, R497. -/
def tbEfcCfgEfcRangePpb : Row :=
  { off := 0xbc, lsb := 0, width := 16, acc := .rwl, reset := 800, clamp := .nat (.c 10) (.c 65535) }
/-- TB_EFC_CFG.efc_sign, R497. -/
def tbEfcCfgEfcSign : Row := { off := 0xbc, lsb := 16, width := 1, acc := .rwl }
/-- TB_REF_STAT.present, R497. -/
def tbRefStatPresent : Row := { off := 0xc0, lsb := 0, width := 5, acc := .ro }
/-- TB_REF_STAT.qualified, R497. -/
def tbRefStatQualified : Row := { off := 0xc0, lsb := 8, width := 5, acc := .ro }
/-- TB_REF_STAT.selected, R497. -/
def tbRefStatSelected : Row := { off := 0xc0, lsb := 16, width := 3, acc := .ro, reset := 7 }
/-- TB_REF_STAT.wtr_left_s, R497. -/
def tbRefStatWtrLeftS : Row := { off := 0xc0, lsb := 20, width := 12, acc := .ro }
/-- TB_COUNTS.switches, R497. -/
def tbCountsSwitches : Row := { off := 0xc4, lsb := 0, width := 8, acc := .rc }
/-- TB_COUNTS.steps, R497. -/
def tbCountsSteps : Row := { off := 0xc4, lsb := 8, width := 8, acc := .rc }
/-- TB_COUNTS.deferred, R497. -/
def tbCountsDeferred : Row := { off := 0xc4, lsb := 16, width := 8, acc := .rc }
/-- TB_COUNTS.ptp_rej, R497. -/
def tbCountsPtpRej : Row := { off := 0xc4, lsb := 24, width := 8, acc := .rc }
/-- TB_HO_TIME.ho_s, R497. -/
def tbHoTimeHoS : Row := { off := 0xc8, lsb := 0, width := 32, acc := .ro }

/-- The fields of the table: Timebase sheet. -/
def tbRows : List Row :=
  [tbCtrlRevert, tbCtrlPpsOutEn, tbCtrlPpsFree, tbCtrlPpsWMs, tbCtrlWtrS, tbPriPriPps, tbPriPriPtp, tbPriPriSynce, tbPriPriRef, tbPriPriEpk, tbPriSyncePort, tbPriForce, tbPriAssist, tbServoBwMhz, tbServoLockNs, tbLockLockS, tbLockUnlockNs, tbStepStepLimit, tbSlewSlewPpb, tbSlewRampPpbs, tbPpsCfgPpsEdge, tbPpsCfgPpsDelayNs, tbPpsStatGoodRun, tbPpsStatStuck, tbPpsStatQualified, tbPpsStatFast, tbPpsStatPeriodErr, tbPtpCfgPtpTimeoutMs, tbPtpCfgPtpOk, tbPtpCfgPtpGateUs, tbPtpOfsOfsNs, tbPtpSubmitTNs, tbFreqCfgSynceOk, tbFreqCfgRangePpb, tbExtFreqFreq, tbExtCtrlExtState, tbExtCtrlExtTimeoutMs, tbSetSecLoSecLo, tbSetSecHiSecHi, tbSetNsNs] ++
  [tbSetCtrlGo, tbSetCtrlRel, tbSetCtrlForce, tbTodNextHiSecHi, tbTodNextLoSecLo, tbUtcUtcOffset, tbTimeNsNs, tbPhasePhase, tbFreqFreq, tbEfcCode, tbEfcAtLimit, tbEfcCfgEfcRangePpb, tbEfcCfgEfcSign, tbRefStatPresent, tbRefStatQualified, tbRefStatSelected, tbRefStatWtrLeftS, tbCountsSwitches, tbCountsSteps, tbCountsDeferred, tbCountsPtpRej, tbHoTimeHoS]

/-! ### Holdover model sheet -/

/-- HM_CTRL.learn_en, R498. -/
def hmCtrlLearnEn : Row := { off := 0x40, lsb := 0, width := 1, acc := .rwl, reset := 1 }
/-- HM_CTRL.use_model, R498. -/
def hmCtrlUseModel : Row := { off := 0x40, lsb := 1, width := 1, acc := .rwl, reset := 1 }
/-- HM_CTRL.lambda_shift, R498. -/
def hmCtrlLambdaShift : Row :=
  { off := 0x40, lsb := 8, width := 5, acc := .rwl, reset := 14, clamp := .nat (.c 10) (.c 20) }
/-- HM_CTRL.tau0_h, R498. -/
def hmCtrlTau0H : Row :=
  { off := 0x40, lsb := 16, width := 16, acc := .rwl, reset := 24, clamp := .nat (.c 1) (.c 1000) }
/-- HM_STATUS.valid, R498. -/
def hmStatusValid : Row := { off := 0x44, lsb := 0, width := 1, acc := .ro }
/-- HM_STATUS.th0_ok, R498. -/
def hmStatusTh0Ok : Row := { off := 0x44, lsb := 1, width := 1, acc := .ro }
/-- HM_STATUS.learning, R498. -/
def hmStatusLearning : Row := { off := 0x44, lsb := 2, width := 1, acc := .ro }
/-- HM_STATUS.settling, R498. -/
def hmStatusSettling : Row := { off := 0x44, lsb := 3, width := 1, acc := .ro }
/-- HM_STATUS.learn_h, R498. -/
def hmStatusLearnH : Row := { off := 0x44, lsb := 16, width := 16, acc := .ro }
/-- HM_MIN.min_h, R498. -/
def hmMinMinH : Row :=
  { off := 0x48, lsb := 0, width := 8, acc := .rwl, reset := 24, clamp := .nat (.c 1) (.c 255) }
/-- HM_AGE.age_h, R498. -/
def hmAgeAgeH : Row := { off := 0x4c, lsb := 0, width := 32, acc := .ro }
/-- HM_COEF.coef, R498. -/
def hmCoefCoef : Row := { off := 0x50, stride := 4, count := 7, lsb := 0, width := 32, acc := .ro }
/-- HM_TEMP.th0, R498. -/
def hmTempTh0 : Row := { off := 0x6c, lsb := 0, width := 16, acc := .ro }
/-- HM_TEMP.th1, R498. -/
def hmTempTh1 : Row := { off := 0x6c, lsb := 16, width := 16, acc := .ro }
/-- HM_RATE.th0_rate, R498. -/
def hmRateTh0Rate : Row := { off := 0x70, lsb := 0, width := 16, acc := .ro }
/-- HM_RATE.th1_rate, R498. -/
def hmRateTh1Rate : Row := { off := 0x70, lsb := 16, width := 16, acc := .ro }
/-- HM_RESID.rms_ppt, R498. -/
def hmResidRmsPpt : Row := { off := 0x74, lsb := 0, width := 16, acc := .ro }
/-- HM_CMD.reset, R498. -/
def hmCmdReset : Row := { off := 0x78, lsb := 0, width := 1, acc := .woL }
/-- HM_CMD.export, R498. -/
def hmCmdExport : Row := { off := 0x78, lsb := 1, width := 1, acc := .woL }
/-- HM_CMD.import, R498. -/
def hmCmdImport : Row := { off := 0x78, lsb := 2, width := 1, acc := .woL }
/-- HM_XFER.result, R498. -/
def hmXferResult : Row := { off := 0x7c, lsb := 0, width := 3, acc := .ro }
/-- HM_IMAGE.word, R498. -/
def hmImageWord : Row := { off := 0x100, stride := 4, count := 64, lsb := 0, width := 32, acc := .rwl }

/-- The fields of the table: Holdover model sheet. -/
def hmRows : List Row :=
  [hmCtrlLearnEn, hmCtrlUseModel, hmCtrlLambdaShift, hmCtrlTau0H, hmStatusValid, hmStatusTh0Ok, hmStatusLearning, hmStatusSettling, hmStatusLearnH, hmMinMinH, hmAgeAgeH, hmCoefCoef, hmTempTh0, hmTempTh1, hmRateTh0Rate, hmRateTh1Rate, hmResidRmsPpt, hmCmdReset, hmCmdExport, hmCmdImport, hmXferResult, hmImageWord]

/-! ### Front-end sheet -/

/-- FE_CTRL.th_en, R531. -/
def feCtrlThEn : Row := { off := 0x40, lsb := 0, width := 2, acc := .rwl, reset := 3 }
/-- FE_CTRL.step_max, R531. -/
def feCtrlStepMax : Row :=
  { off := 0x40, lsb := 8, width := 8, acc := .rwl, reset := 50, clamp := .nat (.c 1) (.c 255) }
/-- FE_TH_CFG.loaded, R531. -/
def feThCfgLoaded : Row := { off := 0x44, lsb := 0, width := 2, acc := .rwl }
/-- FE_TH_LIM.t_min, R531. -/
def feThLimTMin : Row :=
  { off := 0x48, stride := 4, count := 2, lsb := 0, width := 16, acc := .rwl, reset := 60416, clamp := .int (.c (-16384)) (.c (16383)) }
/-- FE_TH_LIM.t_max, R531. -/
def feThLimTMax : Row :=
  { off := 0x48, stride := 4, count := 2, lsb := 16, width := 16, acc := .rwl, reset := 14080, clamp := .int (.sfld 0x48 0 60416 16) (.c 16383) }
/-- FE_RAW.s, R531. -/
def feRawS : Row := { off := 0x50, stride := 4, count := 3, lsb := 0, width := 24, acc := .ro }
/-- FE_DIE.die, R531. -/
def feDieDie : Row := { off := 0x5c, lsb := 0, width := 16, acc := .ro }
/-- FE_TEMP.temp, R531. -/
def feTempTemp : Row :=
  { off := 0x60, stride := 4, count := 2, lsb := 0, width := 32, acc := .ro, reset := 2147483648 }
/-- FE_COUNTS.bad0, R531. -/
def feCountsBad0 : Row := { off := 0x68, lsb := 0, width := 8, acc := .rc }
/-- FE_COUNTS.bad1, R531. -/
def feCountsBad1 : Row := { off := 0x68, lsb := 8, width := 8, acc := .rc }
/-- FE_COUNTS.exc_fault, R531. -/
def feCountsExcFault : Row := { off := 0x68, lsb := 16, width := 8, acc := .rc }
/-- FE_EFC.code, R531. -/
def feEfcCode : Row := { off := 0x70, lsb := 0, width := 18, acc := .ro, reset := 131072 }
/-- FE_EFC.manual, R531. -/
def feEfcManual : Row := { off := 0x70, lsb := 24, width := 1, acc := .ro }
/-- FE_EFC_REF.ref_mv, R531. -/
def feEfcRefRefMv : Row := { off := 0x74, lsb := 0, width := 13, acc := .ro }
/-- FE_EFC_REF.low, R531. -/
def feEfcRefLow : Row := { off := 0x74, lsb := 16, width := 1, acc := .ro }
/-- FE_EFC_MAN.code, R531. -/
def feEfcManCode : Row := { off := 0x78, lsb := 0, width := 18, acc := .rwl, reset := 131072 }
/-- FE_EFC_MAN.man_en, R531. -/
def feEfcManManEn : Row := { off := 0x78, lsb := 31, width := 1, acc := .rwl }
/-- FE_COEF.c, R531. -/
def feCoefC : Row := { off := 0x80, stride := 4, count := 32, lsb := 0, width := 32, acc := .rwl }

/-- The fields of the table: Front-end sheet. -/
def feRows : List Row :=
  [feCtrlThEn, feCtrlStepMax, feThCfgLoaded, feThLimTMin, feThLimTMax, feRawS, feDieDie, feTempTemp, feCountsBad0, feCountsBad1, feCountsExcFault, feEfcCode, feEfcManual, feEfcRefRefMv, feEfcRefLow, feEfcManCode, feEfcManManEn, feCoefC]

/-! ### Power arbiter sheet -/

/-- PA_CEIL.ceiling, R682. -/
def paCeilCeiling : Row :=
  { off := 0x40, lsb := 0, width := 12, acc := .rwl, clamp := .nat (.c 1) (.c 1600) }
/-- PA_USED.committed, R682. -/
def paUsedCommitted : Row := { off := 0x44, lsb := 0, width := 12, acc := .ro, reset := 144 }
/-- PA_USED.bursts, R682. -/
def paUsedBursts : Row := { off := 0x44, lsb := 16, width := 12, acc := .ro }
/-- PA_FREE.free, R682. -/
def paFreeFree : Row := { off := 0x48, lsb := 0, width := 12, acc := .ro }
/-- PA_FREE.reserve, R682. -/
def paFreeReserve : Row := { off := 0x48, lsb := 16, width := 12, acc := .ro }
/-- PA_BURST.echo, R682. -/
def paBurstEcho : Row :=
  { off := 0x4c, lsb := 0, width := 8, acc := .rwl, reset := 2, clamp := .nat (.c 1) (.c 20) }
/-- PA_BURST.impression, R682. -/
def paBurstImpression : Row :=
  { off := 0x4c, lsb := 8, width := 8, acc := .rwl, reset := 20, clamp := .nat (.c 1) (.c 100) }
/-- PA_RHO.rho, R682. -/
def paRhoRho : Row := { off := 0x50, lsb := 0, width := 8, acc := .ro, reset := 4 }
/-- PA_RES.units, R682. -/
def paResUnits : Row := { off := 0x60, stride := 4, count := 16, lsb := 0, width := 4, acc := .ro }
/-- PA_RES.res, R682. -/
def paResRes : Row :=
  { off := 0x60, stride := 4, count := 16, lsb := 8, width := 8, acc := .rwl, clamp := .nat (.c 1) (.c 255) }
/-- PA_PLATE.charge, R682. -/
def paPlateCharge : Row := { off := 0xa0, stride := 4, count := 8, lsb := 0, width := 12, acc := .ro }
/-- PA_PLATE.calls, R682. -/
def paPlateCalls : Row := { off := 0xa0, stride := 4, count := 8, lsb := 16, width := 12, acc := .ro }
/-- PA_COUNTS.calls, R682. -/
def paCountsCalls : Row := { off := 0xc0, lsb := 0, width := 16, acc := .rc }
/-- PA_COUNTS.bursts, R682. -/
def paCountsBursts : Row := { off := 0xc0, lsb := 16, width := 16, acc := .rc }

/-- The fields of the table: Power arbiter sheet. -/
def paRows : List Row :=
  [paCeilCeiling, paUsedCommitted, paUsedBursts, paFreeFree, paFreeReserve, paBurstEcho, paBurstImpression, paRhoRho, paResUnits, paResRes, paPlateCharge, paPlateCalls, paCountsCalls, paCountsBursts]

/-! ### Quiet mode sheet -/

/-- QM_COORD.plates, R684. -/
def qmCoordPlates : Row := { off := 0x40, lsb := 0, width := 8, acc := .rwl }
/-- QM_VOTE_CFG.commit_lead_ms, R684. -/
def qmVoteCfgCommitLeadMs : Row :=
  { off := 0x44, lsb := 0, width := 8, acc := .rwl, reset := 20, clamp := .nat (.c 5) (.c 200) }
/-- QM_VOTE_CFG.vote_ms, R684. -/
def qmVoteCfgVoteMs : Row :=
  { off := 0x44, lsb := 8, width := 8, acc := .rwl, reset := 5, clamp := .nat (.c 1) (.fldSub 0x44 0 20 3) }
/-- QM_VOTE_CFG.retry_ms, R684. -/
def qmVoteCfgRetryMs : Row :=
  { off := 0x44, lsb := 16, width := 16, acc := .rwl, reset := 100, clamp := .nat (.c 10) (.c 1000) }
/-- QM_LAPSE.lapse_ms, R684. -/
def qmLapseLapseMs : Row :=
  { off := 0x48, lsb := 0, width := 10, acc := .rwl, reset := 900, clamp := .nat (.c 100) (.c 900) }
/-- QM_ROUND.round, R684. -/
def qmRoundRound : Row := { off := 0x4c, lsb := 0, width := 8, acc := .ro }
/-- QM_COMMIT_NS.ns, R684. -/
def qmCommitNsNs : Row := { off := 0x50, lsb := 0, width := 30, acc := .ro }
/-- QM_COMMIT_SEC.sec, R684. -/
def qmCommitSecSec : Row := { off := 0x54, lsb := 0, width := 32, acc := .ro }
/-- QM_REQ.requesting, R684. -/
def qmReqRequesting : Row := { off := 0x58, lsb := 0, width := 8, acc := .ro }
/-- QM_REQ.ready, R684. -/
def qmReqReady : Row := { off := 0x58, lsb := 8, width := 8, acc := .ro }
/-- QM_WAKE_REQ.plates, R684. -/
def qmWakeReqPlates : Row := { off := 0x5c, lsb := 0, width := 8, acc := .wo }
/-- QM_WAKE_SRC.src, R684. -/
def qmWakeSrcSrc : Row := { off := 0x60, lsb := 0, width := 6, acc := .w1c }
/-- QM_WAKE_PEND.plates, R684. -/
def qmWakePendPlates : Row := { off := 0x64, lsb := 0, width := 8, acc := .ro }
/-- QM_PCIE_WAKE.plates, R684. -/
def qmPcieWakePlates : Row := { off := 0x68, lsb := 0, width := 8, acc := .rwl }
/-- QM_LAST_WAKE.source, R684. -/
def qmLastWakeSource : Row := { off := 0x6c, lsb := 0, width := 3, acc := .ro }
/-- QM_LAST_WAKE.plate, R684. -/
def qmLastWakePlate : Row := { off := 0x6c, lsb := 4, width := 3, acc := .ro }
/-- QM_LAST_WAKE.after_commit, R684. -/
def qmLastWakeAfterCommit : Row := { off := 0x6c, lsb := 7, width := 1, acc := .ro }
/-- QM_LAST_WAKE.latency_us, R684. -/
def qmLastWakeLatencyUs : Row := { off := 0x6c, lsb := 16, width := 16, acc := .ro }
/-- QM_COUNTS.commits, R684. -/
def qmCountsCommits : Row := { off := 0x70, lsb := 0, width := 8, acc := .rc }
/-- QM_COUNTS.aborts, R684. -/
def qmCountsAborts : Row := { off := 0x70, lsb := 8, width := 8, acc := .rc }
/-- QM_COUNTS.lapses, R684. -/
def qmCountsLapses : Row := { off := 0x70, lsb := 16, width := 8, acc := .rc }

/-- The fields of the table: Quiet mode sheet. -/
def qm2Rows : List Row :=
  [qmCoordPlates, qmVoteCfgCommitLeadMs, qmVoteCfgVoteMs, qmVoteCfgRetryMs, qmLapseLapseMs, qmRoundRound, qmCommitNsNs, qmCommitSecSec, qmReqRequesting, qmReqReady, qmWakeReqPlates, qmWakeSrcSrc, qmWakePendPlates, qmPcieWakePlates, qmLastWakeSource, qmLastWakePlate, qmLastWakeAfterCommit, qmLastWakeLatencyUs, qmCountsCommits, qmCountsAborts, qmCountsLapses]

/-! ### Freeze unit sheet -/

/-- FZ_SEL.master, R597. -/
def fzSelMaster : Row := { off := 0x40, lsb := 0, width := 8, acc := .rw }
/-- FZ_REC0.master, R597. -/
def fzRec0Master : Row := { off := 0x44, lsb := 0, width := 8, acc := .ro }
/-- FZ_REC0.kind, R597. -/
def fzRec0Kind : Row := { off := 0x44, lsb := 8, width := 4, acc := .ro }
/-- FZ_REC0.access, R597. -/
def fzRec0Access : Row := { off := 0x44, lsb := 12, width := 3, acc := .ro }
/-- FZ_REC0.frozen, R597. -/
def fzRec0Frozen : Row := { off := 0x44, lsb := 15, width := 1, acc := .ro }
/-- FZ_REC0.plate, R597. -/
def fzRec0Plate : Row := { off := 0x44, lsb := 16, width := 3, acc := .ro }
/-- FZ_REC0.plate_ok, R597. -/
def fzRec0PlateOk : Row := { off := 0x44, lsb := 19, width := 1, acc := .ro }
/-- FZ_REC1.addr_lo, R597. -/
def fzRec1AddrLo : Row := { off := 0x48, lsb := 0, width := 32, acc := .ro }
/-- FZ_REC2.addr_hi, R597. -/
def fzRec2AddrHi : Row := { off := 0x4c, lsb := 0, width := 32, acc := .ro }
/-- FZ_REC3.ns, R597. -/
def fzRec3Ns : Row := { off := 0x50, lsb := 0, width := 30, acc := .ro }
/-- FZ_REC4.sec, R597. -/
def fzRec4Sec : Row := { off := 0x54, lsb := 0, width := 32, acc := .ro }
/-- FZ_REC5.seq, R597. -/
def fzRec5Seq : Row := { off := 0x58, lsb := 0, width := 16, acc := .ro }
/-- FZ_REC5.repeats, R597. -/
def fzRec5Repeats : Row := { off := 0x58, lsb := 16, width := 8, acc := .ro }
/-- FZ_UNFREEZE.master, R597. -/
def fzUnfreezeMaster : Row := { off := 0x60, lsb := 0, width := 8, acc := .woL }
/-- FZ_UNFREEZE.seq, R597. -/
def fzUnfreezeSeq : Row := { off := 0x60, lsb := 16, width := 16, acc := .woL }
/-- FZ_FROZEN_GRV.graver, R597. -/
def fzFrozenGrvGraver : Row := { off := 0x64, lsb := 0, width := 32, acc := .ro }
/-- FZ_FROZEN_OTH.dma, R597. -/
def fzFrozenOthDma : Row := { off := 0x68, lsb := 0, width := 8, acc := .ro }
/-- FZ_FROZEN_OTH.epk, R597. -/
def fzFrozenOthEpk : Row := { off := 0x68, lsb := 8, width := 1, acc := .ro }
/-- FZ_FROZEN_OTH.pf, R597. -/
def fzFrozenOthPf : Row := { off := 0x68, lsb := 9, width := 1, acc := .ro }
/-- FZ_PF_HOLD.pf_hold_ms, R597. -/
def fzPfHoldPfHoldMs : Row :=
  { off := 0x6c, lsb := 0, width := 10, acc := .rwl, reset := 20, clamp := .nat (.c 1) (.c 1000) }
/-- FZ_COUNTS.freezes, R597. -/
def fzCountsFreezes : Row := { off := 0x70, lsb := 0, width := 16, acc := .rc }
/-- FZ_COUNTS.drain_overrun, R597. -/
def fzCountsDrainOverrun : Row := { off := 0x70, lsb := 16, width := 8, acc := .rc }
/-- FZ_COUNTS.unfreeze_ignored, R597. -/
def fzCountsUnfreezeIgnored : Row := { off := 0x70, lsb := 24, width := 8, acc := .rc }
/-- FZ_FABRIC.master, R597. -/
def fzFabricMaster : Row := { off := 0x74, lsb := 0, width := 8, acc := .ro }
/-- FZ_FABRIC.plate, R597. -/
def fzFabricPlate : Row := { off := 0x74, lsb := 8, width := 3, acc := .ro }
/-- FZ_FABRIC.valid, R597. -/
def fzFabricValid : Row := { off := 0x74, lsb := 11, width := 1, acc := .w1c }
/-- FZ_FABRIC.drain_us, R597. -/
def fzFabricDrainUs : Row := { off := 0x74, lsb := 16, width := 8, acc := .ro }
/-- FZ_HIST_HEAD.next, R597. -/
def fzHistHeadNext : Row := { off := 0x7c, lsb := 0, width := 4, acc := .ro }

/-- The fields of the table: Freeze unit sheet. -/
def fzRows : List Row :=
  [fzSelMaster, fzRec0Master, fzRec0Kind, fzRec0Access, fzRec0Frozen, fzRec0Plate, fzRec0PlateOk, fzRec1AddrLo, fzRec2AddrHi, fzRec3Ns, fzRec4Sec, fzRec5Seq, fzRec5Repeats, fzUnfreezeMaster, fzUnfreezeSeq, fzFrozenGrvGraver, fzFrozenOthDma, fzFrozenOthEpk, fzFrozenOthPf, fzPfHoldPfHoldMs, fzCountsFreezes, fzCountsDrainOverrun, fzCountsUnfreezeIgnored, fzFabricMaster, fzFabricPlate, fzFabricValid, fzFabricDrainUs, fzHistHeadNext]

/-! ### Epkuone link sheet -/

/-- EK_CTRL.lane_en, R737. -/
def ekCtrlLaneEn : Row := { off := 0x40, lsb := 0, width := 4, acc := .rwl, reset := 15 }
/-- EK_CTRL.loss_ms, R737. -/
def ekCtrlLossMs : Row :=
  { off := 0x40, lsb := 8, width := 4, acc := .rwl, reset := 5, clamp := .nat (.c 2) (.c 10) }
/-- EK_CTRL.imprint_en, R737. -/
def ekCtrlImprintEn : Row := { off := 0x40, lsb := 16, width := 1, acc := .rwl, reset := 1 }
/-- EK_NODE.node, R737. -/
def ekNodeNode : Row := { off := 0x44, lsb := 0, width := 3, acc := .ro }
/-- EK_NODE.paired, R737. -/
def ekNodePaired : Row := { off := 0x44, lsb := 3, width := 1, acc := .ro }
/-- EK_NODE.is_master, R737. -/
def ekNodeIsMaster : Row := { off := 0x44, lsb := 4, width := 1, acc := .ro }
/-- EK_NODE.master_node, R737. -/
def ekNodeMasterNode : Row := { off := 0x44, lsb := 8, width := 3, acc := .ro }
/-- EK_NODE.master_ok, R737. -/
def ekNodeMasterOk : Row := { off := 0x44, lsb := 11, width := 1, acc := .ro }
/-- EK_NODE.nodes, R737. -/
def ekNodeNodes : Row := { off := 0x44, lsb := 16, width := 8, acc := .ro }
/-- EK_PARTNER_LO.uid, R737. -/
def ekPartnerLoUid : Row := { off := 0x48, lsb := 0, width := 32, acc := .ro }
/-- EK_PARTNER_HI.uid, R737. -/
def ekPartnerHiUid : Row := { off := 0x4c, lsb := 0, width := 32, acc := .ro }
/-- EK_LANE.state, R737. -/
def ekLaneState : Row := { off := 0x50, stride := 4, count := 4, lsb := 0, width := 3, acc := .ro }
/-- EK_LANE.grant, R737. -/
def ekLaneGrant : Row := { off := 0x50, stride := 4, count := 4, lsb := 3, width := 1, acc := .ro }
/-- EK_LANE.peer_node, R737. -/
def ekLanePeerNode : Row := { off := 0x50, stride := 4, count := 4, lsb := 4, width := 3, acc := .ro }
/-- EK_LANE.crc_err, R737. -/
def ekLaneCrcErr : Row := { off := 0x50, stride := 4, count := 4, lsb := 16, width := 8, acc := .rc }
/-- EK_LANE.downs, R737. -/
def ekLaneDowns : Row := { off := 0x50, stride := 4, count := 4, lsb := 24, width := 8, acc := .rc }
/-- EK_DELAY.delay, R737. -/
def ekDelayDelay : Row := { off := 0x60, stride := 4, count := 4, lsb := 0, width := 24, acc := .ro }
/-- EK_TIME.origin, R737. -/
def ekTimeOrigin : Row := { off := 0x70, lsb := 0, width := 3, acc := .ro }
/-- EK_TIME.origin_ok, R737. -/
def ekTimeOriginOk : Row := { off := 0x70, lsb := 3, width := 1, acc := .ro }
/-- EK_TIME.qualified, R737. -/
def ekTimeQualified : Row := { off := 0x70, lsb := 4, width := 1, acc := .ro }
/-- EK_PLATE.want, R737. -/
def ekPlateWant : Row :=
  { off := 0x80, stride := 8, count := 8, lsb := 0, width := 2, acc := .rwl, reset := 3 }
/-- EK_PLATE.tdm_shared, R737. -/
def ekPlateTdmShared : Row :=
  { off := 0x80, stride := 8, count := 8, lsb := 2, width := 1, acc := .rwl }
/-- EK_PLATE.role, R737. -/
def ekPlateRole : Row := { off := 0x80, stride := 8, count := 8, lsb := 4, width := 2, acc := .ro }
/-- EK_PLATE.prot, R737. -/
def ekPlateProt : Row := { off := 0x80, stride := 8, count := 8, lsb := 8, width := 2, acc := .ro }
/-- EK_PLATE.epoch, R737. -/
def ekPlateEpoch : Row := { off := 0x80, stride := 8, count := 8, lsb := 16, width := 8, acc := .ro }
/-- EK_PTRACE.mismatch, R737. -/
def ekPtraceMismatch : Row :=
  { off := 0x84, stride := 8, count := 8, lsb := 0, width := 1, acc := .ro }
/-- EK_PTRACE.accept_path, R737. -/
def ekPtraceAcceptPath : Row :=
  { off := 0x84, stride := 8, count := 8, lsb := 1, width := 1, acc := .woL }
/-- EK_PTRACE.held, R737. -/
def ekPtraceHeld : Row := { off := 0x84, stride := 8, count := 8, lsb := 2, width := 1, acc := .ro }
/-- EK_PTRACE.count, R737. -/
def ekPtraceCount : Row := { off := 0x84, stride := 8, count := 8, lsb := 4, width := 2, acc := .ro }
/-- EK_PTRACE.seen_role, R737. -/
def ekPtraceSeenRole : Row :=
  { off := 0x84, stride := 8, count := 8, lsb := 8, width := 2, acc := .ro }
/-- EK_PTRACE.seen_want, R737. -/
def ekPtraceSeenWant : Row :=
  { off := 0x84, stride := 8, count := 8, lsb := 12, width := 2, acc := .ro }
/-- EK_PROOF_TX.seq, R737. -/
def ekProofTxSeq : Row := { off := 0xc0, lsb := 0, width := 32, acc := .ro }
/-- EK_PROOF_RX.seq, R737. -/
def ekProofRxSeq : Row := { off := 0xc4, lsb := 0, width := 32, acc := .ro }
/-- EK_COUNTS.takeovers, R737. -/
def ekCountsTakeovers : Row := { off := 0xc8, lsb := 0, width := 8, acc := .rc }
/-- EK_COUNTS.proofs_lost, R737. -/
def ekCountsProofsLost : Row := { off := 0xc8, lsb := 8, width := 8, acc := .rc }
/-- EK_COUNTS.impressions, R737. -/
def ekCountsImpressions : Row := { off := 0xc8, lsb := 16, width := 8, acc := .rc }
/-- EK_COUNTS.demotions, R737. -/
def ekCountsDemotions : Row := { off := 0xc8, lsb := 24, width := 8, acc := .rc }
/-- EK_LAST_TAKE.plate, R737. -/
def ekLastTakePlate : Row := { off := 0xcc, lsb := 0, width := 3, acc := .ro }
/-- EK_LAST_TAKE.cause, R737. -/
def ekLastTakeCause : Row := { off := 0xcc, lsb := 4, width := 3, acc := .ro }
/-- EK_LAST_TAKE.gap_us, R737. -/
def ekLastTakeGapUs : Row := { off := 0xcc, lsb := 16, width := 16, acc := .ro }
/-- EK_STK_CEIL.ceiling, R737. -/
def ekStkCeilCeiling : Row :=
  { off := 0xd0, lsb := 0, width := 14, acc := .rwl, clamp := .nat (.c 0) (.c 12800) }
/-- EK_STK_LEASE.lease, R737. -/
def ekStkLeaseLease : Row := { off := 0xd4, lsb := 0, width := 14, acc := .ro }
/-- EK_STK_LEASE.charge, R737. -/
def ekStkLeaseCharge : Row := { off := 0xd4, lsb := 16, width := 14, acc := .ro }
/-- EK_CMD.agent_reset, R737. -/
def ekCmdAgentReset : Row := { off := 0xd8, lsb := 0, width := 1, acc := .woL }

/-- The fields of the table: Epkuone link sheet. -/
def ekRows : List Row :=
  [ekCtrlLaneEn, ekCtrlLossMs, ekCtrlImprintEn, ekNodeNode, ekNodePaired, ekNodeIsMaster, ekNodeMasterNode, ekNodeMasterOk, ekNodeNodes, ekPartnerLoUid, ekPartnerHiUid, ekLaneState, ekLaneGrant, ekLanePeerNode, ekLaneCrcErr, ekLaneDowns, ekDelayDelay, ekTimeOrigin, ekTimeOriginOk, ekTimeQualified, ekPlateWant, ekPlateTdmShared, ekPlateRole, ekPlateProt, ekPlateEpoch, ekPtraceMismatch, ekPtraceAcceptPath, ekPtraceHeld, ekPtraceCount, ekPtraceSeenRole, ekPtraceSeenWant, ekProofTxSeq, ekProofRxSeq, ekCountsTakeovers, ekCountsProofsLost, ekCountsImpressions, ekCountsDemotions, ekLastTakePlate, ekLastTakeCause, ekLastTakeGapUs] ++
  [ekStkCeilCeiling, ekStkLeaseLease, ekStkLeaseCharge, ekCmdAgentReset]

/-! ### Site inputs sheet -/

/-- SI_CFG.debounce_ms, R685. -/
def siCfgDebounceMs : Row :=
  { off := 0x40, stride := 4, count := 8, lsb := 0, width := 8, acc := .rwl, reset := 10, clamp := .nat (.c 1) (.c 255) }
/-- SI_CFG.active_low, R685. -/
def siCfgActiveLow : Row :=
  { off := 0x40, stride := 4, count := 8, lsb := 8, width := 1, acc := .rwl, reset := 1 }
/-- SI_CFG.wake_plates, R685. -/
def siCfgWakePlates : Row :=
  { off := 0x40, stride := 4, count := 8, lsb := 16, width := 8, acc := .rwl }
/-- SI_STATE.level, R685. -/
def siStateLevel : Row := { off := 0x60, lsb := 0, width := 8, acc := .ro }
/-- SI_STATE.stuck, R685. -/
def siStateStuck : Row := { off := 0x60, lsb := 8, width := 8, acc := .ro }
/-- SI_STATE.raw, R685. -/
def siStateRaw : Row := { off := 0x60, lsb := 16, width := 8, acc := .ro }
/-- SI_COUNT.events, R685. -/
def siCountEvents : Row := { off := 0x70, stride := 4, count := 8, lsb := 0, width := 16, acc := .rc }
/-- SI_COUNT.stuck, R685. -/
def siCountStuck : Row := { off := 0x70, stride := 4, count := 8, lsb := 16, width := 8, acc := .rc }

/-- The fields of the table: Site inputs sheet. -/
def siRows : List Row :=
  [siCfgDebounceMs, siCfgActiveLow, siCfgWakePlates, siStateLevel, siStateStuck, siStateRaw, siCountEvents, siCountStuck]

/-! ### Watchdog channel sheets -/

/-- WD_CTRL.start, R626. -/
def wdCtrlStart : Row := { off := 0x40, lsb := 0, width := 1, acc := .woL }
/-- WD_CTRL.src, R626. -/
def wdCtrlSrc : Row := { off := 0x40, lsb := 4, width := 1, acc := .rwo }
/-- WD_PERIOD.period_ms, R626. -/
def wdPeriodPeriodMs : Row :=
  { off := 0x44, lsb := 0, width := 16, acc := .rwo, reset := 16384, clamp := .nat (.c 1) (.c 65535) }
/-- WD_PERIOD.window, R626. -/
def wdPeriodWindow : Row :=
  { off := 0x44, lsb := 16, width := 2, acc := .rwo, reset := 2, clamp := .enum 0 2 2 }
/-- WD_KEY.key, R626. -/
def wdKeyKey : Row := { off := 0x48, lsb := 0, width := 16, acc := .wo }
/-- WD_CHAL.chal, R626. -/
def wdChalChal : Row := { off := 0x4c, lsb := 0, width := 16, acc := .ro }
/-- WD_SERVICE.token, R626. -/
def wdServiceToken : Row := { off := 0x50, lsb := 0, width := 16, acc := .wo }
/-- WD_STATUS.elapsed, R626. -/
def wdStatusElapsed : Row := { off := 0x54, lsb := 0, width := 16, acc := .ro }
/-- WD_STATUS.n, R626. -/
def wdStatusN : Row := { off := 0x54, lsb := 16, width := 4, acc := .ro }
/-- WD_STATUS.in_window, R626. -/
def wdStatusInWindow : Row := { off := 0x54, lsb := 20, width := 1, acc := .ro }
/-- WD_STATUS.first, R626. -/
def wdStatusFirst : Row := { off := 0x54, lsb := 21, width := 1, acc := .ro }
/-- WD_STATUS.key_set, R626. -/
def wdStatusKeySet : Row := { off := 0x54, lsb := 22, width := 1, acc := .ro }
/-- WD_STATUS.held, R626. -/
def wdStatusHeld : Row := { off := 0x54, lsb := 23, width := 1, acc := .ro }
/-- WD_STATUS.wake_req, R626. -/
def wdStatusWakeReq : Row := { off := 0x54, lsb := 24, width := 1, acc := .ro }
/-- WD_STATUS.src_inuse, R626. -/
def wdStatusSrcInuse : Row := { off := 0x54, lsb := 25, width := 1, acc := .ro }
/-- WD_INUSE.period, R626. -/
def wdInusePeriod : Row := { off := 0x58, lsb := 0, width := 16, acc := .ro }
/-- WD_INUSE.open_at, R626. -/
def wdInuseOpenAt : Row := { off := 0x58, lsb := 16, width := 16, acc := .ro }
/-- WD_DEBUG.hold, R626. -/
def wdDebugHold : Row := { off := 0x5c, lsb := 0, width := 1, acc := .rwl }
/-- WD_NOW.tick, R626. -/
def wdNowTick : Row := { off := 0x60, lsb := 0, width := 32, acc := .ro }
/-- WD_TICK_NS.tick_ns, R626. -/
def wdTickNsTickNs : Row := { off := 0x64, lsb := 0, width := 21, acc := .ro }
/-- WD_TICK_NS.valid, R626. -/
def wdTickNsValid : Row := { off := 0x64, lsb := 31, width := 1, acc := .ro }
/-- WD_COUNTS.services, R626. -/
def wdCountsServices : Row := { off := 0x68, lsb := 0, width := 16, acc := .rc }
/-- WD_COUNTS.ignored, R626. -/
def wdCountsIgnored : Row := { off := 0x68, lsb := 16, width := 8, acc := .rc }
/-- WD_EV_CAUSE.cause, R626. -/
def wdEvCauseCause : Row := { off := 0x80, lsb := 0, width := 2, acc := .ro }
/-- WD_EV_CAUSE.pc_ok, R626. -/
def wdEvCausePcOk : Row := { off := 0x80, lsb := 4, width := 1, acc := .ro }
/-- WD_EV_CAUSE.n, R626. -/
def wdEvCauseN : Row := { off := 0x80, lsb := 8, width := 4, acc := .ro }
/-- WD_EV_CAUSE.overwritten, R626. -/
def wdEvCauseOverwritten : Row := { off := 0x80, lsb := 16, width := 1, acc := .ro }
/-- WD_EV_CAUSE.valid, R626. -/
def wdEvCauseValid : Row := { off := 0x80, lsb := 31, width := 1, acc := .w1c }
/-- WD_EV_COUNT.elapsed, R626. -/
def wdEvCountElapsed : Row := { off := 0x84, lsb := 0, width := 16, acc := .ro }
/-- WD_EV_COUNT.period, R626. -/
def wdEvCountPeriod : Row := { off := 0x84, lsb := 16, width := 16, acc := .ro }
/-- WD_EV_FAIL_TICK.tick, R626. -/
def wdEvFailTickTick : Row := { off := 0x88, lsb := 0, width := 32, acc := .ro }
/-- WD_EV_GOOD_TICK.tick, R626. -/
def wdEvGoodTickTick : Row := { off := 0x8c, lsb := 0, width := 32, acc := .ro }
/-- WD_EV_GOOD_NS.ns, R626. -/
def wdEvGoodNsNs : Row := { off := 0x90, lsb := 0, width := 30, acc := .ro }
/-- WD_EV_GOOD_SEC.sec, R626. -/
def wdEvGoodSecSec : Row := { off := 0x94, lsb := 0, width := 32, acc := .ro }
/-- WD_EV_PC.pc, R626. -/
def wdEvPcPc : Row := { off := 0xa0, stride := 4, count := 4, lsb := 0, width := 22, acc := .ro }

/-- The fields of the table: Watchdog channel sheets. -/
def wdRows : List Row :=
  [wdCtrlStart, wdCtrlSrc, wdPeriodPeriodMs, wdPeriodWindow, wdKeyKey, wdChalChal, wdServiceToken, wdStatusElapsed, wdStatusN, wdStatusInWindow, wdStatusFirst, wdStatusKeySet, wdStatusHeld, wdStatusWakeReq, wdStatusSrcInuse, wdInusePeriod, wdInuseOpenAt, wdDebugHold, wdNowTick, wdTickNsTickNs, wdTickNsValid, wdCountsServices, wdCountsIgnored, wdEvCauseCause, wdEvCausePcOk, wdEvCauseN, wdEvCauseOverwritten, wdEvCauseValid, wdEvCountElapsed, wdEvCountPeriod, wdEvFailTickTick, wdEvGoodTickTick, wdEvGoodNsNs, wdEvGoodSecSec, wdEvPcPc]

/-! ### Island mailbox sheet -/

/-- MB_SEQ.seq, R569. -/
def mbSeqSeq : Row := { off := 0x40, lsb := 0, width := 32, acc := .ro }
/-- MB_STAT.lost, R569. -/
def mbStatLost : Row := { off := 0x44, lsb := 0, width := 16, acc := .rc }
/-- MB_STAT.age_us, R569. -/
def mbStatAgeUs : Row := { off := 0x44, lsb := 16, width := 16, acc := .ro }

/-- The fields of the table: Island mailbox sheet. -/
def mbRows : List Row :=
  [mbSeqSeq, mbStatLost, mbStatAgeUs]

end Sys2Proof.Machine.Reg
end

