-- ==== Sys2Proof/Machine/FieldsPlate.lean ====
section
/-! DEFINITION. The register tables of the spec, one row per field (Plate sheet, Graver cluster sheet, Plate store sheet, Queue manager sheet, Queue descriptor array entry, Plate DMA sheet, Frame MAC sheet, Hatch scheduler sheet, Shaper sheet, TDM highway sheet, Plate timekeeper sheet, Tenant sheet).
Each docstring gives the register, the field and the rule whose table it is. -/

namespace Sys2Proof.Machine.Reg

/-! ### Plate sheet -/

/-- PL_UNITS.used, R202. -/
def plUnitsUsed : Row := { off := 0x40, lsb := 0, width := 9, acc := .ro }
/-- PL_UNITS.free, R202. -/
def plUnitsFree : Row := { off := 0x40, lsb := 16, width := 9, acc := .ro, reset := 256 }
/-- PL_FAULT.cause, R202. -/
def plFaultCause : Row := { off := 0x48, lsb := 0, width := 4, acc := .ro }
/-- PL_FAULT.graver, R202. -/
def plFaultGraver : Row := { off := 0x48, lsb := 4, width := 2, acc := .ro }
/-- PL_FAULT.line, R202. -/
def plFaultLine : Row := { off := 0x48, lsb := 8, width := 21, acc := .ro }

/-- The fields of the table: Plate sheet. -/
def plateRows : List Row :=
  [plUnitsUsed, plUnitsFree, plFaultCause, plFaultGraver, plFaultLine]

/-! ### Graver cluster sheet -/

/-- GC_KERNEL.rom_ver, R204. -/
def gcKernelRomVer : Row := { off := 0x40, lsb := 0, width := 16, acc := .ro, reset := 256 }
/-- GC_KERNEL.patch_id, R204. -/
def gcKernelPatchId : Row := { off := 0x40, lsb := 16, width := 16, acc := .ro }
/-- GC_RUN.running, R204. -/
def gcRunRunning : Row := { off := 0x44, lsb := 0, width := 4, acc := .ro }
/-- GC_RUN.frozen, R204. -/
def gcRunFrozen : Row := { off := 0x44, lsb := 4, width := 4, acc := .ro }
/-- GC_RUN.halted, R204. -/
def gcRunHalted : Row := { off := 0x44, lsb := 8, width := 4, acc := .ro }
/-- GC_DEBUG.halt, R204. -/
def gcDebugHalt : Row := { off := 0x48, lsb := 0, width := 4, acc := .rwl }
/-- GC_OVERRUN.g0, R204. -/
def gcOverrunG0 : Row := { off := 0x4c, lsb := 0, width := 8, acc := .rc }
/-- GC_OVERRUN.g1, R204. -/
def gcOverrunG1 : Row := { off := 0x4c, lsb := 8, width := 8, acc := .rc }
/-- GC_OVERRUN.g2, R204. -/
def gcOverrunG2 : Row := { off := 0x4c, lsb := 16, width := 8, acc := .rc }
/-- GC_OVERRUN.g3, R204. -/
def gcOverrunG3 : Row := { off := 0x4c, lsb := 24, width := 8, acc := .rc }
/-- GC_OVR_LIMIT.limit, R204. -/
def gcOvrLimitLimit : Row :=
  { off := 0x50, lsb := 0, width := 8, acc := .rwl, reset := 100, clamp := .nat (.c 10) (.c 255) }
/-- GC_OVR_LIMIT.disable, R204. -/
def gcOvrLimitDisable : Row := { off := 0x50, lsb := 8, width := 1, acc := .rwl }
/-- GC_PC.pc, R204. -/
def gcPcPc : Row := { off := 0x60, stride := 4, count := 4, lsb := 0, width := 22, acc := .ro }
/-- GC_LOAD.busy_pct, R204. -/
def gcLoadBusyPct : Row := { off := 0x70, stride := 4, count := 4, lsb := 0, width := 8, acc := .ro }
/-- GC_LOAD.peak_pct, R204. -/
def gcLoadPeakPct : Row := { off := 0x70, stride := 4, count := 4, lsb := 8, width := 8, acc := .rc }

/-- The fields of the table: Graver cluster sheet. -/
def gcRows : List Row :=
  [gcKernelRomVer, gcKernelPatchId, gcRunRunning, gcRunFrozen, gcRunHalted, gcDebugHalt, gcOverrunG0, gcOverrunG1, gcOverrunG2, gcOverrunG3, gcOvrLimitLimit, gcOvrLimitDisable, gcPcPc, gcLoadBusyPct, gcLoadPeakPct]

/-! ### Plate store sheet -/

/-- PS_BURNISH.interval_us, R205. -/
def psBurnishIntervalUs : Row :=
  { off := 0x40, lsb := 0, width := 12, acc := .rwl, reset := 2, clamp := .nat (.c 1) (.c 4095) }
/-- PS_BURNISH.enable, R205. -/
def psBurnishEnable : Row := { off := 0x40, lsb := 31, width := 1, acc := .rwl, reset := 1 }
/-- PS_PASS.line, R205. -/
def psPassLine : Row := { off := 0x44, lsb := 0, width := 21, acc := .ro }
/-- PS_CORR.corrected, R205. -/
def psCorrCorrected : Row := { off := 0x48, lsb := 0, width := 16, acc := .rc }
/-- PS_CORR.uncorrected, R205. -/
def psCorrUncorrected : Row := { off := 0x48, lsb := 16, width := 16, acc := .rc }
/-- PS_LAST_ERR.line, R205. -/
def psLastErrLine : Row := { off := 0x4c, lsb := 0, width := 21, acc := .ro }
/-- PS_LAST_ERR.kind, R205. -/
def psLastErrKind : Row := { off := 0x4c, lsb := 21, width := 2, acc := .ro }
/-- PS_LAST_ERR.by_burnish, R205. -/
def psLastErrByBurnish : Row := { off := 0x4c, lsb := 23, width := 1, acc := .ro }
/-- PS_LAST_ERR.channel, R205. -/
def psLastErrChannel : Row := { off := 0x4c, lsb := 24, width := 8, acc := .ro }
/-- PS_INJECT.line, R205. -/
def psInjectLine : Row := { off := 0x50, lsb := 0, width := 21, acc := .rwl }
/-- PS_INJECT.bits, R205. -/
def psInjectBits : Row :=
  { off := 0x50, lsb := 21, width := 2, acc := .rwl, clamp := .nat (.c 0) (.c 2) }

/-- The fields of the table: Plate store sheet. -/
def psRows : List Row :=
  [psBurnishIntervalUs, psBurnishEnable, psPassLine, psCorrCorrected, psCorrUncorrected, psLastErrLine, psLastErrKind, psLastErrByBurnish, psLastErrChannel, psInjectLine, psInjectBits]

/-! ### Queue manager sheet -/

/-- QM_POOL.free, R364. -/
def qmPoolFree : Row := { off := 0x40, lsb := 0, width := 14, acc := .ro, reset := 16383 }
/-- QM_POOL.low_water, R364. -/
def qmPoolLowWater : Row := { off := 0x40, lsb := 16, width := 14, acc := .rc, reset := 16383 }
/-- QM_FLOOR.floor, R364. -/
def qmFloorFloor : Row :=
  { off := 0x44, lsb := 0, width := 14, acc := .rwl, reset := 1024, clamp := .nat (.c 0) (.c 8192) }
/-- QM_POOL_DROP.voice, R364. -/
def qmPoolDropVoice : Row := { off := 0x48, lsb := 0, width := 16, acc := .rc }
/-- QM_QUOTA.quota, R364. -/
def qmQuotaQuota : Row :=
  { off := 0x50, stride := 4, count := 8, lsb := 0, width := 14, acc := .rwl, reset := 2047 }
/-- QM_QUOTA.tq_allow, R364. -/
def qmQuotaTqAllow : Row :=
  { off := 0x50, stride := 4, count := 8, lsb := 16, width := 8, acc := .rwl }
/-- QM_USED.used, R364. -/
def qmUsedUsed : Row := { off := 0x70, stride := 4, count := 8, lsb := 0, width := 14, acc := .ro }
/-- QM_USED.peak, R364. -/
def qmUsedPeak : Row := { off := 0x70, stride := 4, count := 8, lsb := 16, width := 14, acc := .rc }
/-- QM_TEN_DROP.quota, R364. -/
def qmTenDropQuota : Row := { off := 0x90, stride := 4, count := 8, lsb := 0, width := 16, acc := .rc }
/-- QM_TEN_DROP.floor, R364. -/
def qmTenDropFloor : Row :=
  { off := 0x90, stride := 4, count := 8, lsb := 16, width := 16, acc := .rc }

/-- The fields of the table: Queue manager sheet. -/
def qmRows : List Row :=
  [qmPoolFree, qmPoolLowWater, qmFloorFloor, qmPoolDropVoice, qmQuotaQuota, qmQuotaTqAllow, qmUsedUsed, qmUsedPeak, qmTenDropQuota, qmTenDropFloor]

/-! ### Queue descriptor array entry -/

/-- QD_LINK.head, R366. -/
def qdLinkHead : Row := { off := 0x0, lsb := 0, width := 14, acc := .ro }
/-- QD_LINK.tail, R366. -/
def qdLinkTail : Row := { off := 0x0, lsb := 16, width := 14, acc := .ro }
/-- QD_OWNER.slot, R366. -/
def qdOwnerSlot : Row := { off := 0x4, lsb := 0, width := 3, acc := .rw }
/-- QD_OWNER.owned, R366. -/
def qdOwnerOwned : Row := { off := 0x4, lsb := 3, width := 1, acc := .rw }
/-- QD_OWNER.kind, R366. -/
def qdOwnerKind : Row := { off := 0x4, lsb := 4, width := 2, acc := .ro }
/-- QD_OWNER.limit_cells, R366. -/
def qdOwnerLimitCells : Row := { off := 0x4, lsb := 16, width := 14, acc := .rw }
/-- QD_CTRL.relay, R366. -/
def qdCtrlRelay : Row := { off := 0x8, lsb := 0, width := 10, acc := .rw, clamp := .zeroOr 296 1023 }
/-- QD_CTRL.flush, R366. -/
def qdCtrlFlush : Row := { off := 0x8, lsb := 31, width := 1, acc := .wo }
/-- QD_STATS.drops, R366. -/
def qdStatsDrops : Row := { off := 0xc, lsb := 0, width := 16, acc := .rc }
/-- QD_STATS.peak_cells, R366. -/
def qdStatsPeakCells : Row := { off := 0xc, lsb := 16, width := 15, acc := .rc }

/-- The fields of the table: Queue descriptor array entry. -/
def qdRows : List Row :=
  [qdLinkHead, qdLinkTail, qdOwnerSlot, qdOwnerOwned, qdOwnerKind, qdOwnerLimitCells, qdCtrlRelay, qdCtrlFlush, qdStatsDrops, qdStatsPeakCells]

/-! ### Plate DMA sheet -/

/-- DMA_CFG.poll_us, R207. -/
def dmaCfgPollUs : Row :=
  { off := 0x40, lsb := 0, width := 10, acc := .rwl, reset := 20, clamp := .nat (.c 1) (.c 1000) }
/-- DMA_CFG.max_inflight, R207. -/
def dmaCfgMaxInflight : Row :=
  { off := 0x40, lsb := 16, width := 5, acc := .rwl, reset := 16, clamp := .nat (.c 1) (.c 16) }
/-- DMA_INFLIGHT.total, R207. -/
def dmaInflightTotal : Row := { off := 0x44, lsb := 0, width := 5, acc := .ro }
/-- DMA_TEN_CFG.limit, R207. -/
def dmaTenCfgLimit : Row :=
  { off := 0x50, stride := 4, count := 8, lsb := 0, width := 5, acc := .rwl, reset := 4, clamp := .nat (.c 1) (.c 16) }
/-- DMA_CNT_OPS.ops, R207. -/
def dmaCntOpsOps : Row := { off := 0x70, lsb := 0, width := 32, acc := .rc }
/-- DMA_CNT_ERR.bad_index, R207. -/
def dmaCntErrBadIndex : Row := { off := 0x74, lsb := 0, width := 8, acc := .rc }
/-- DMA_CNT_ERR.poll_fail, R207. -/
def dmaCntErrPollFail : Row := { off := 0x74, lsb := 8, width := 8, acc := .rc }
/-- DMA_CNT_ERR.too_long, R207. -/
def dmaCntErrTooLong : Row := { off := 0x74, lsb := 16, width := 8, acc := .rc }
/-- DMA_CNT_ERR.no_cells, R207. -/
def dmaCntErrNoCells : Row := { off := 0x74, lsb := 24, width := 8, acc := .rc }

/-- The fields of the table: Plate DMA sheet. -/
def dmaRows : List Row :=
  [dmaCfgPollUs, dmaCfgMaxInflight, dmaInflightTotal, dmaTenCfgLimit, dmaCntOpsOps, dmaCntErrBadIndex, dmaCntErrPollFail, dmaCntErrTooLong, dmaCntErrNoCells]

/-! ### Frame MAC sheet -/

/-- MAC_CFG.rate, R408. -/
def macCfgRate : Row :=
  { off := 0x40, lsb := 0, width := 3, acc := .rwl, reset := 1, clamp := .enum 1 4 1 }
/-- MAC_CFG.an_en, R408. -/
def macCfgAnEn : Row := { off := 0x40, lsb := 3, width := 1, acc := .rwl, reset := 1 }
/-- MAC_CFG.tx_ref, R408. -/
def macCfgTxRef : Row := { off := 0x40, lsb := 4, width := 1, acc := .rwl }
/-- MAC_CFG.up_hold_ms, R408. -/
def macCfgUpHoldMs : Row :=
  { off := 0x40, lsb := 16, width := 10, acc := .rwl, reset := 10, clamp := .nat (.c 0) (.c 1000) }
/-- MAC_ADDR_HI.addr_hi, R408. -/
def macAddrHiAddrHi : Row := { off := 0x44, lsb := 0, width := 16, acc := .rwl }
/-- MAC_ADDR_LO.addr_lo, R408. -/
def macAddrLoAddrLo : Row := { off := 0x48, lsb := 0, width := 32, acc := .rwl }
/-- MAC_RX_CFG.untagged_slot, R408. -/
def macRxCfgUntaggedSlot : Row := { off := 0x4c, lsb := 0, width := 3, acc := .rwl }
/-- MAC_RX_CFG.untagged_en, R408. -/
def macRxCfgUntaggedEn : Row := { off := 0x4c, lsb := 3, width := 1, acc := .rwl, reset := 1 }
/-- MAC_RX_CFG.default_drop, R408. -/
def macRxCfgDefaultDrop : Row := { off := 0x4c, lsb := 4, width := 1, acc := .rwl, reset := 1 }
/-- MAC_RX_CFG.default_filter, R408. -/
def macRxCfgDefaultFilter : Row := { off := 0x4c, lsb := 8, width := 5, acc := .rwl }
/-- MAC_TX_CFG.txstart, R408. -/
def macTxCfgTxstart : Row :=
  { off := 0x50, lsb := 0, width := 12, acc := .rwl, reset := 256, clamp := .nat (.c 64) (.c 2048) }
/-- MAC_TX_CFG.voice_life_ms, R408. -/
def macTxCfgVoiceLifeMs : Row :=
  { off := 0x50, lsb := 16, width := 8, acc := .rwl, reset := 20, clamp := .nat (.c 1) (.c 255) }
/-- MAC_FLAP.flap_grace, R408. -/
def macFlapFlapGrace : Row :=
  { off := 0x54, lsb := 0, width := 11, acc := .rwl, reset := 40, clamp := .nat (.c 0) (.c 2000) }
/-- MAC_FLAP.grace_left, R408. -/
def macFlapGraceLeft : Row := { off := 0x54, lsb := 16, width := 11, acc := .ro }
/-- MAC_PAUSE.rx_en, R408. -/
def macPauseRxEn : Row := { off := 0x58, lsb := 0, width := 1, acc := .rwl, reset := 1 }
/-- MAC_PAUSE.tx_en, R408. -/
def macPauseTxEn : Row := { off := 0x58, lsb := 1, width := 1, acc := .rwl }
/-- MAC_PAUSE.tx_quanta, R408. -/
def macPauseTxQuanta : Row :=
  { off := 0x58, lsb := 16, width := 16, acc := .rwl, reset := 4096, clamp := .nat (.c 1) (.c 65535) }
/-- MAC_PAUSE_GUARD.pause_guard, R408. -/
def macPauseGuardPauseGuard : Row :=
  { off := 0x5c, lsb := 0, width := 16, acc := .rwl, reset := 500, clamp := .nat (.c 10) (.c 10000) }
/-- MAC_PAUSE_GUARD.pause_hold, R408. -/
def macPauseGuardPauseHold : Row :=
  { off := 0x5c, lsb := 16, width := 16, acc := .rwl, reset := 1000, clamp := .nat (.c 100) (.c 60000) }
/-- MAC_PTP.tx_ts_en, R408. -/
def macPtpTxTsEn : Row := { off := 0x60, lsb := 0, width := 1, acc := .rwl }
/-- MAC_PTP.one_step_en, R408. -/
def macPtpOneStepEn : Row := { off := 0x60, lsb := 1, width := 1, acc := .rwl }
/-- MAC_PTP_DELAY.rx_delay, R408. -/
def macPtpDelayRxDelay : Row := { off := 0x64, lsb := 0, width := 16, acc := .rwl }
/-- MAC_PTP_DELAY.tx_delay, R408. -/
def macPtpDelayTxDelay : Row := { off := 0x64, lsb := 16, width := 16, acc := .rwl }
/-- MAC_TXTS_STAT.count, R408. -/
def macTxtsStatCount : Row := { off := 0x68, lsb := 0, width := 5, acc := .ro }
/-- MAC_TXTS_STAT.lost, R408. -/
def macTxtsStatLost : Row := { off := 0x68, lsb := 8, width := 8, acc := .rc }
/-- MAC_TXTS_NS.ns, R408. -/
def macTxtsNsNs : Row := { off := 0x70, lsb := 0, width := 30, acc := .ro }
/-- MAC_TXTS_SEC.sec, R408. -/
def macTxtsSecSec : Row := { off := 0x74, lsb := 0, width := 32, acc := .ro }
/-- MAC_TXTS_ID.sec_hi, R408. -/
def macTxtsIdSecHi : Row := { off := 0x78, lsb := 0, width := 16, acc := .ro }
/-- MAC_TXTS_ID.seq_id, R408. -/
def macTxtsIdSeqId : Row := { off := 0x78, lsb := 16, width := 16, acc := .ro }
/-- MAC_TXTS_POP.frac, R408. -/
def macTxtsPopFrac : Row := { off := 0x7c, lsb := 0, width := 16, acc := .ro }
/-- MAC_TXTS_POP.msg_type, R408. -/
def macTxtsPopMsgType : Row := { off := 0x7c, lsb := 16, width := 4, acc := .ro }
/-- MAC_TXTS_POP.domain, R408. -/
def macTxtsPopDomain : Row := { off := 0x7c, lsb := 20, width := 8, acc := .ro }
/-- MAC_TXTS_POP.valid, R408. -/
def macTxtsPopValid : Row := { off := 0x7c, lsb := 31, width := 1, acc := .ro }
/-- MAC_TEN_TAG.vid, R408. -/
def macTenTagVid : Row :=
  { off := 0xc0, stride := 4, count := 8, lsb := 0, width := 12, acc := .rwl, clamp := .nat (.c 1) (.c 4094) }
/-- MAC_TEN_TAG.tagged, R408. -/
def macTenTagTagged : Row :=
  { off := 0xc0, stride := 4, count := 8, lsb := 12, width := 1, acc := .rwl }
/-- MAC_TEN_TAG.strip, R408. -/
def macTenTagStrip : Row :=
  { off := 0xc0, stride := 4, count := 8, lsb := 13, width := 1, acc := .rwl }
/-- MAC_TEN_TAG.pcp_voice, R408. -/
def macTenTagPcpVoice : Row :=
  { off := 0xc0, stride := 4, count := 8, lsb := 16, width := 3, acc := .rwl, reset := 5 }
/-- MAC_TEN_TAG.pcp_data, R408. -/
def macTenTagPcpData : Row :=
  { off := 0xc0, stride := 4, count := 8, lsb := 20, width := 3, acc := .rwl }
/-- MAC_FILT[n] filtEnable (R410) -/
def filtEnable : Row := { off := 0x100, stride := 16, count := 32, lsb := 0, width := 1, acc := .rwl }
/-- MAC_FILT[n] filtEtypeEn (R410) -/
def filtEtypeEn : Row := { off := 0x100, stride := 16, count := 32, lsb := 1, width := 1, acc := .rwl }
/-- MAC_FILT[n] filtDmacEn (R410) -/
def filtDmacEn : Row := { off := 0x100, stride := 16, count := 32, lsb := 2, width := 1, acc := .rwl }
/-- MAC_FILT[n] filtProtoEn (R410) -/
def filtProtoEn : Row := { off := 0x100, stride := 16, count := 32, lsb := 3, width := 1, acc := .rwl }
/-- MAC_FILT[n] filtPortEn (R410) -/
def filtPortEn : Row := { off := 0x100, stride := 16, count := 32, lsb := 4, width := 1, acc := .rwl }
/-- MAC_FILT[n] filtTsTrailer (R410) -/
def filtTsTrailer : Row :=
  { off := 0x100, stride := 16, count := 32, lsb := 5, width := 1, acc := .rwl }
/-- MAC_FILT[n] filtEtype (R410) -/
def filtEtype : Row := { off := 0x100, stride := 16, count := 32, lsb := 16, width := 16, acc := .rwl }
/-- MAC_FILT[n] filtPortLo (R410) -/
def filtPortLo : Row := { off := 0x104, stride := 16, count := 32, lsb := 0, width := 16, acc := .rwl }
/-- MAC_FILT[n] filtPortHi (R410) -/
def filtPortHi : Row :=
  { off := 0x104, stride := 16, count := 32, lsb := 16, width := 16, acc := .rwl, clamp := .nat (.fld 0x104 0 0) (.c 65535) }
/-- MAC_FILT[n] filtDmacLo (R410) -/
def filtDmacLo : Row := { off := 0x108, stride := 16, count := 32, lsb := 0, width := 32, acc := .rwl }
/-- MAC_FILT[n] filtDmacHi (R410) -/
def filtDmacHi : Row := { off := 0x10c, stride := 16, count := 32, lsb := 0, width := 16, acc := .rwl }
/-- MAC_FILT[n] filtProto (R410) -/
def filtProto : Row := { off := 0x10c, stride := 16, count := 32, lsb := 16, width := 8, acc := .rwl }

/-- The fields of the table: Frame MAC sheet. -/
def macRows : List Row :=
  [macCfgRate, macCfgAnEn, macCfgTxRef, macCfgUpHoldMs, macAddrHiAddrHi, macAddrLoAddrLo, macRxCfgUntaggedSlot, macRxCfgUntaggedEn, macRxCfgDefaultDrop, macRxCfgDefaultFilter, macTxCfgTxstart, macTxCfgVoiceLifeMs, macFlapFlapGrace, macFlapGraceLeft, macPauseRxEn, macPauseTxEn, macPauseTxQuanta, macPauseGuardPauseGuard, macPauseGuardPauseHold, macPtpTxTsEn, macPtpOneStepEn, macPtpDelayRxDelay, macPtpDelayTxDelay, macTxtsStatCount, macTxtsStatLost, macTxtsNsNs, macTxtsSecSec, macTxtsIdSecHi, macTxtsIdSeqId, macTxtsPopFrac, macTxtsPopMsgType, macTxtsPopDomain, macTxtsPopValid, macTenTagVid, macTenTagTagged, macTenTagStrip, macTenTagPcpVoice, macTenTagPcpData, filtEnable, filtEtypeEn] ++
  [filtDmacEn, filtProtoEn, filtPortEn, filtTsTrailer, filtEtype, filtPortLo, filtPortHi, filtDmacLo, filtDmacHi, filtProto]

/-! ### Hatch scheduler sheet -/

/-- HS_CTRL.gap_mask, R439. -/
def hsCtrlGapMask : Row := { off := 0x40, lsb := 0, width := 8, acc := .rwl, reset := 255 }
/-- HB_LEN.len, R439. -/
def hbLenLen : Row :=
  { off := 0x50, stride := 16, count := 2, lsb := 0, width := 13, acc := .rwl, reset := 1, clamp := .nat (.c 1) (.c 4096) }
/-- HB_CYCLE.cycle_8ns, R439. -/
def hbCycleCycle8ns : Row :=
  { off := 0x54, stride := 16, count := 2, lsb := 0, width := 27, acc := .rwl, reset := 125000, clamp := .nat (.c 125) (.c 125000000) }
/-- HB_BASE_NS.ns, R439. -/
def hbBaseNsNs : Row :=
  { off := 0x58, stride := 16, count := 2, lsb := 0, width := 30, acc := .rwl, clamp := .nat (.c 0) (.c 999999999) }
/-- HB_BASE_SEC.sec, R439. -/
def hbBaseSecSec : Row := { off := 0x5c, stride := 16, count := 2, lsb := 0, width := 32, acc := .rwl }
/-- HS_SWAP.bank, R439. -/
def hsSwapBank : Row := { off := 0x70, lsb := 0, width := 1, acc := .woL }
/-- HS_SWAP.go, R439. -/
def hsSwapGo : Row := { off := 0x70, lsb := 1, width := 1, acc := .woL }
/-- HS_SWAP.cancel, R439. -/
def hsSwapCancel : Row := { off := 0x70, lsb := 2, width := 1, acc := .woL }
/-- HS_STATUS.active_bank, R439. -/
def hsStatusActiveBank : Row := { off := 0x74, lsb := 0, width := 1, acc := .ro }
/-- HS_STATUS.pending, R439. -/
def hsStatusPending : Row := { off := 0x74, lsb := 1, width := 1, acc := .ro }
/-- HS_LAST_NS.ns, R439. -/
def hsLastNsNs : Row := { off := 0x78, lsb := 0, width := 30, acc := .ro }
/-- HS_LAST_SEC.sec, R439. -/
def hsLastSecSec : Row := { off := 0x7c, lsb := 0, width := 32, acc := .ro }
/-- HS_CYCLES.cycles, R439. -/
def hsCyclesCycles : Row := { off := 0x80, lsb := 0, width := 32, acc := .ro }
/-- HS_COUNTS.realign, R439. -/
def hsCountsRealign : Row := { off := 0x84, lsb := 0, width := 8, acc := .rc }
/-- HS_COUNTS.swaps, R439. -/
def hsCountsSwaps : Row := { off := 0x84, lsb := 8, width := 8, acc := .rc }
/-- HS_SPAN.span_8ns, R439. -/
def hsSpanSpan8ns : Row :=
  { off := 0x90, stride := 4, count := 8, lsb := 0, width := 27, acc := .ro, reset := 134217727 }
/-- HS_NOWIN.count, R439. -/
def hsNowinCount : Row := { off := 0xb0, stride := 4, count := 8, lsb := 0, width := 16, acc := .rc }

/-- The fields of the table: Hatch scheduler sheet. -/
def hsRows : List Row :=
  [hsCtrlGapMask, hbLenLen, hbCycleCycle8ns, hbBaseNsNs, hbBaseSecSec, hsSwapBank, hsSwapGo, hsSwapCancel, hsStatusActiveBank, hsStatusPending, hsLastNsNs, hsLastSecSec, hsCyclesCycles, hsCountsRealign, hsCountsSwaps, hsSpanSpan8ns, hsNowinCount]

/-! ### Shaper sheet -/

/-- SH_CFG.rate, R440. -/
def shCfgRate : Row :=
  { off := 0x40, stride := 8, count := 8, lsb := 0, width := 20, acc := .rwl, clamp := .nat (.c 0) (.c 320000) }
/-- SH_CFG.enable, R440. -/
def shCfgEnable : Row := { off := 0x40, stride := 8, count := 8, lsb := 31, width := 1, acc := .rwl }
/-- SH_BURST.burst, R440. -/
def shBurstBurst : Row :=
  { off := 0x44, stride := 8, count := 8, lsb := 0, width := 16, acc := .rwl, reset := 4096 }
/-- SH_LEVEL.level, R440. -/
def shLevelLevel : Row := { off := 0x80, stride := 4, count := 8, lsb := 0, width := 18, acc := .ro }
/-- SH_LEVEL.frac, R440. -/
def shLevelFrac : Row := { off := 0x80, stride := 4, count := 8, lsb := 24, width := 8, acc := .ro }
/-- SH_RESET.reset, R440. -/
def shResetReset : Row := { off := 0xa0, lsb := 0, width := 8, acc := .woL }
/-- SH_BLOCK.blocking, R440. -/
def shBlockBlocking : Row := { off := 0xa4, lsb := 0, width := 8, acc := .ro }

/-- The fields of the table: Shaper sheet. -/
def shRows : List Row :=
  [shCfgRate, shCfgEnable, shBurstBurst, shLevelLevel, shLevelFrac, shResetReset, shBlockBlocking]

/-! ### TDM highway sheet -/

/-- TH_CFG.rate, R461. -/
def thCfgRate : Row := { off := 0x40, lsb := 0, width := 2, acc := .rwl, clamp := .enum 0 2 0 }
/-- TH_CFG.master, R461. -/
def thCfgMaster : Row := { off := 0x40, lsb := 2, width := 1, acc := .rwl }
/-- TH_CFG.law, R461. -/
def thCfgLaw : Row := { off := 0x40, lsb := 3, width := 1, acc := .rwl }
/-- TH_CFG.clk_edge, R461. -/
def thCfgClkEdge : Row := { off := 0x40, lsb := 4, width := 1, acc := .rwl }
/-- TH_CFG.fs_pol, R461. -/
def thCfgFsPol : Row := { off := 0x40, lsb := 5, width := 1, acc := .rwl }
/-- TH_CFG.fs_early, R461. -/
def thCfgFsEarly : Row := { off := 0x40, lsb := 6, width := 1, acc := .rwl }
/-- TH_CFG.unused_hiz, R461. -/
def thCfgUnusedHiz : Row := { off := 0x40, lsb := 7, width := 1, acc := .rwl }
/-- TH_CFG.loop, R461. -/
def thCfgLoop : Row := { off := 0x40, lsb := 8, width := 2, acc := .rwl, clamp := .enum 0 2 0 }
/-- TH_CFG.idle_byte, R461. -/
def thCfgIdleByte : Row := { off := 0x40, lsb := 16, width := 8, acc := .rwl, reset := 213 }
/-- TH_STATUS.slots, R461. -/
def thStatusSlots : Row := { off := 0x44, lsb := 0, width := 8, acc := .ro, reset := 32 }
/-- TH_STATUS.rx_fill, R461. -/
def thStatusRxFill : Row := { off := 0x44, lsb := 16, width := 4, acc := .ro }
/-- TH_STATUS.tx_fill, R461. -/
def thStatusTxFill : Row := { off := 0x44, lsb := 20, width := 4, acc := .ro }
/-- TH_STATUS.beyond, R461. -/
def thStatusBeyond : Row := { off := 0x44, lsb := 24, width := 8, acc := .ro }
/-- TH_FREQ.offset_ppb, R461. -/
def thFreqOffsetPpb : Row := { off := 0x48, lsb := 0, width := 32, acc := .ro }
/-- TH_SLIPS.rx_del, R461. -/
def thSlipsRxDel : Row := { off := 0x4c, lsb := 0, width := 8, acc := .rc }
/-- TH_SLIPS.rx_rep, R461. -/
def thSlipsRxRep : Row := { off := 0x4c, lsb := 8, width := 8, acc := .rc }
/-- TH_SLIPS.tx_del, R461. -/
def thSlipsTxDel : Row := { off := 0x4c, lsb := 16, width := 8, acc := .rc }
/-- TH_SLIPS.tx_rep, R461. -/
def thSlipsTxRep : Row := { off := 0x4c, lsb := 24, width := 8, acc := .rc }
/-- TH_ERRS.fs_err, R461. -/
def thErrsFsErr : Row := { off := 0x50, lsb := 0, width := 8, acc := .rc }
/-- TH_ERRS.realign, R461. -/
def thErrsRealign : Row := { off := 0x50, lsb := 8, width := 8, acc := .rc }
/-- TH_ERRS.clk_lost, R461. -/
def thErrsClkLost : Row := { off := 0x50, lsb := 16, width := 8, acc := .rc }
/-- TH_PHASE.phase_ns, R461. -/
def thPhasePhaseNs : Row := { off := 0x54, lsb := 0, width := 17, acc := .ro }

/-- The fields of the table: TDM highway sheet. -/
def thRows : List Row :=
  [thCfgRate, thCfgMaster, thCfgLaw, thCfgClkEdge, thCfgFsPol, thCfgFsEarly, thCfgUnusedHiz, thCfgLoop, thCfgIdleByte, thStatusSlots, thStatusRxFill, thStatusTxFill, thStatusBeyond, thFreqOffsetPpb, thSlipsRxDel, thSlipsRxRep, thSlipsTxDel, thSlipsTxRep, thErrsFsErr, thErrsRealign, thErrsClkLost, thPhasePhaseNs]

/-! ### Plate timekeeper sheet -/

/-- PT_CTRL.bc_miss, R499. -/
def ptCtrlBcMiss : Row :=
  { off := 0x40, lsb := 0, width := 4, acc := .rwl, reset := 4, clamp := .nat (.c 2) (.c 15) }
/-- PT_CTRL.rejoin_ppm, R499. -/
def ptCtrlRejoinPpm : Row :=
  { off := 0x40, lsb := 8, width := 8, acc := .rwl, reset := 100, clamp := .nat (.c 10) (.c 200) }
/-- PT_STAT.bad_words, R499. -/
def ptStatBadWords : Row := { off := 0x44, lsb := 0, width := 16, acc := .rc }
/-- PT_STAT.losses, R499. -/
def ptStatLosses : Row := { off := 0x44, lsb := 16, width := 8, acc := .rc }
/-- PT_STAT.steps, R499. -/
def ptStatSteps : Row := { off := 0x44, lsb := 24, width := 8, acc := .rc }
/-- PT_OFFSET.offset, R499. -/
def ptOffsetOffset : Row := { off := 0x48, lsb := 0, width := 32, acc := .ro }
/-- PT_OWN.own_ms, R499. -/
def ptOwnOwnMs : Row := { off := 0x4c, lsb := 0, width := 32, acc := .ro }
/-- PT_TIME_NS.ns, R499. -/
def ptTimeNsNs : Row := { off := 0x50, lsb := 0, width := 30, acc := .ro }

/-- The fields of the table: Plate timekeeper sheet. -/
def ptRows : List Row :=
  [ptCtrlBcMiss, ptCtrlRejoinPpm, ptStatBadWords, ptStatLosses, ptStatSteps, ptOffsetOffset, ptOwnOwnMs, ptTimeNsNs]

/-! ### Tenant sheet -/

/-- TEN_ID.vf, R126. -/
def tenIdVf : Row := { off := 0x40, lsb := 0, width := 7, acc := .ro }
/-- TEN_ID.slot, R126. -/
def tenIdSlot : Row := { off := 0x40, lsb := 8, width := 3, acc := .ro }
/-- TEN_ID.plate, R126. -/
def tenIdPlate : Row := { off := 0x40, lsb := 12, width := 3, acc := .ro }
/-- TEN_ID.master, R126. -/
def tenIdMaster : Row := { off := 0x40, lsb := 16, width := 8, acc := .ro }
/-- TEN_ID.vf_live, R126. -/
def tenIdVfLive : Row := { off := 0x40, lsb := 24, width := 1, acc := .ro }
/-- TEN_WIN_BASE_LO.base_lo, R126. -/
def tenWinBaseLoBaseLo : Row := { off := 0x44, lsb := 12, width := 20, acc := .rwl, writer := .pf }
/-- TEN_WIN_BASE_HI.base_hi, R126. -/
def tenWinBaseHiBaseHi : Row := { off := 0x48, lsb := 0, width := 32, acc := .rwl, writer := .pf }
/-- TEN_WIN_SIZE.pages, R126. -/
def tenWinSizePages : Row := { off := 0x4c, lsb := 0, width := 24, acc := .rwl, writer := .pf }
/-- TEN_DMA_CTRL.dma_en, R126. -/
def tenDmaCtrlDmaEn : Row := { off := 0x50, lsb := 0, width := 1, acc := .rwl, writer := .vf }
/-- TEN_DMA_CTRL.ro_en, R126. -/
def tenDmaCtrlRoEn : Row := { off := 0x50, lsb := 1, width := 1, acc := .rwl, writer := .vf }
/-- TEN_DMA_STATUS.in_flight, R126. -/
def tenDmaStatusInFlight : Row := { off := 0x54, lsb := 0, width := 5, acc := .ro }
/-- TEN_DMA_STATUS.refused, R126. -/
def tenDmaStatusRefused : Row := { off := 0x54, lsb := 16, width := 8, acc := .rc }
/-- TEN_DMA_STATUS.abandoned, R126. -/
def tenDmaStatusAbandoned : Row := { off := 0x54, lsb := 24, width := 8, acc := .rc }
/-- TEN_PF_NOTE.note, R126. -/
def tenPfNoteNote : Row := { off := 0x58, lsb := 0, width := 32, acc := .rw, writer := .pf }
/-- TEN_VF_NOTE.note, R126. -/
def tenVfNoteNote : Row := { off := 0x5c, lsb := 0, width := 32, acc := .rw, writer := .vf }
/-- TEN_FREEZE.frozen, R126. -/
def tenFreezeFrozen : Row := { off := 0x60, lsb := 0, width := 1, acc := .ro }
/-- TEN_FREEZE.freeze_count, R126. -/
def tenFreezeFreezeCount : Row := { off := 0x60, lsb := 8, width := 8, acc := .ro }

/-- The fields of the table: Tenant sheet. -/
def tenRows : List Row :=
  [tenIdVf, tenIdSlot, tenIdPlate, tenIdMaster, tenIdVfLive, tenWinBaseLoBaseLo, tenWinBaseHiBaseHi, tenWinSizePages, tenDmaCtrlDmaEn, tenDmaCtrlRoEn, tenDmaStatusInFlight, tenDmaStatusRefused, tenDmaStatusAbandoned, tenPfNoteNote, tenVfNoteNote, tenFreezeFrozen, tenFreezeFreezeCount]

end Sys2Proof.Machine.Reg
end

