-- ==== Sys2Proof/Machine/Sheets.lean ====
section
/-! DEFINITION. The address map (02_sheets.md R37, R40, R43), the sheet index (R46), the title block's rows (R48) and
the master IDs (R56). -/

namespace Sys2Proof.Machine

/-- The kinds of sheet of R46. -/
inductive SheetKind where
  | site | dir | hp | cr | lc | tb | hm | fe | pa | qm | fz | ek | si | wd | mb
  | plate | gc | ps | qmgr | dma | mac | hs | sh | th | pt | ten | cnt
  deriving DecidableEq, Repr

/-! ### Bases -/

def siteB : Nat := 0x0
def dirB : Nat := 0x1000
def hpB : Nat := 0x2000
def crB : Nat := 0x3000
def lcB : Nat := 0x4000
def tbB : Nat := 0x5000
def hmB : Nat := 0x6000
def feB : Nat := 0x7000
def paB : Nat := 0x8000
def qmB : Nat := 0x9000
def fzB : Nat := 0xA000
def ekB : Nat := 0xB000
def siB : Nat := 0xC000
/-- Watchdog channel `c`. -/
def wdB (c : Nat) : Nat := 0x10000 + c * 0x1000
def mbB : Nat := 0x1000000
/-- Island mailbox data region. -/
def mbDataB : Nat := 0x1001000
/-- Descriptor of global channel `g`. -/
def chB (g : Nat) : Nat := 0x1800000 + g * 0x200
/-- Window of plate `p`. -/
def winB (p : Nat) : Nat := 0x2000000 + p * 0x400000
def plB (p : Nat) : Nat := winB p
def gcB (p : Nat) : Nat := winB p + 0x1000
def psB (p : Nat) : Nat := winB p + 0x2000
def qgB (p : Nat) : Nat := winB p + 0x3000
def dmaB (p : Nat) : Nat := winB p + 0x4000
def macB (p : Nat) : Nat := winB p + 0x5000
def hsB (p : Nat) : Nat := winB p + 0x6000
def shB (p : Nat) : Nat := winB p + 0x7000
def thB (p : Nat) : Nat := winB p + 0x8000
def ptB (p : Nat) : Nat := winB p + 0x9000
/-- Tenant sheet of tenant number `t` = plate × 8 + slot. -/
def tenB (t : Nat) : Nat := winB (t / 8) + 0x10000 + t % 8 * 0x1000
/-- PF counter set of port Mp. -/
def pcntB (p : Nat) : Nat := winB p + 0x18000
/-- Tenant counter set of tenant number `t`. -/
def tcntB (t : Nat) : Nat := winB (t / 8) + 0x20000 + t % 8 * 0x1000
/-- Queue count array of plate `p`. -/
def qcB (p : Nat) : Nat := winB p + 0x40000
/-- Queue descriptor of queue `q` of plate `p`. -/
def qdB (p q : Nat) : Nat := winB p + 0x41000 + q * 16
/-- Hatch table memory of plate `p`. -/
def htB (p : Nat) : Nat := winB p + 0x80000

/-- The plate whose window holds `a`. -/
def plateOfAddr (a : Nat) : Option Nat :=
  if 0x2000000 ≤ a ∧ a < 0x4000000 then some ((a - 0x2000000) / 0x400000) else none

/-- The chip-service sheet of block type 1 to 13 (R46), by its 4 KiB slot. -/
def chipKind : Nat → SheetKind
  | 0 => .site | 1 => .dir | 2 => .hp | 3 => .cr | 4 => .lc | 5 => .tb | 6 => .hm | 7 => .fe | 8 => .pa | 9 => .qm
  | 10 => .fz | 11 => .ek | _ => .si

/-- The plate sheet in slot 0 to 9 of a plate window (R40). -/
def plateKind : Nat → SheetKind
  | 0 => .plate | 1 => .gc | 2 => .ps | 3 => .qmgr | 4 => .dma | 5 => .mac | 6 => .hs | 7 => .sh | 8 => .th | _ => .pt

/-- What lies at a PF BAR0 address (R37, R40). -/
inductive Region where
  | sheet (k : SheetKind) (inst base : Nat)
  | mbData (off : Nat)
  | descriptor (g off : Nat)
  | queueCount (p q : Nat)
  | queueDesc (p q off : Nat)
  | hatch (p i : Nat)
  | none
  deriving DecidableEq, Repr

/-- What lies at offset `o` of the window of plate `p` (R40); the instance numbers are those of R46. -/
def windowRegion (p o : Nat) : Region :=
  let b := winB p
  let k := o / 0x1000
  if k < 10 then .sheet (plateKind k) p (b + k * 0x1000)
  else if 16 ≤ k ∧ k < 24 then .sheet .ten (p * 8 + (k - 16)) (b + k * 0x1000)
  else if k = 24 then .sheet .cnt (0x80 + p) (b + k * 0x1000)
  else if 32 ≤ k ∧ k < 40 then .sheet .cnt (p * 8 + (k - 32)) (b + k * 0x1000)
  else if k = 64 then .queueCount p ((o - 0x40000) / 4)
  else if 65 ≤ k ∧ k < 69 then .queueDesc p ((o - 0x41000) / 16) ((o - 0x41000) % 16)
  else if 128 ≤ k ∧ k < 136 then .hatch p ((o - 0x80000) / 4)
  else .none

/-- What lies at PF BAR0 address `a` (R37). -/
def regionAt (a : Nat) : Region :=
  if a < 0xD000 then .sheet (chipKind (a / 0x1000)) 0 (a / 0x1000 * 0x1000)
  else if 0x10000 ≤ a ∧ a < 0x19000 then .sheet .wd ((a - 0x10000) / 0x1000) (a / 0x1000 * 0x1000)
  else if 0x1000000 ≤ a ∧ a < 0x1001000 then .sheet .mb 0 0x1000000
  else if 0x1001000 ≤ a ∧ a < 0x1010000 then .mbData (a - 0x1001000)
  else if 0x1800000 ≤ a ∧ a < 0x1900000 then .descriptor ((a - 0x1800000) / 0x200) ((a - 0x1800000) % 0x200)
  else if 0x2000000 ≤ a ∧ a < 0x4000000 then
    windowRegion ((a - 0x2000000) / 0x400000) ((a - 0x2000000) % 0x400000)
  else .none

/-- The sheet whose 4 KiB page starts at `base`. -/
def sheetAt (base : Nat) : Option (SheetKind × Nat) :=
  match regionAt base with
  | .sheet k i b => if b = base then some (k, i) else none
  | _ => none

/-- R43: where offset `off` of the VF BAR0 of tenant `t` lies in PF BAR0; none where it is unassigned. -/
def vfAddr (t off : Nat) : Option Nat :=
  if off < 0x1000 then some (tenB t + off)
  else if off < 0x2000 then some (tcntB t + (off - 0x1000))
  else if off < 0x3000 then some (qcB (t / 8) + (off - 0x2000))
  else if 0x20000 ≤ off ∧ off < 0x40000 then some (chB (t / 8 * 256) + (off - 0x20000))
  else none

/-! ### The sheet index (R46) -/

def SheetKind.type : SheetKind → Nat
  | .site => 1 | .dir => 2 | .hp => 3 | .cr => 4 | .lc => 5 | .tb => 6 | .hm => 7 | .fe => 8 | .pa => 9 | .qm => 0xA
  | .fz => 0xB | .ek => 0xC | .si => 0xD | .wd => 0xE | .mb => 0xF
  | .plate => 0x20 | .gc => 0x21 | .ps => 0x22 | .qmgr => 0x23 | .dma => 0x24 | .mac => 0x25 | .hs => 0x26
  | .sh => 0x27 | .th => 0x28 | .pt => 0x29 | .ten => 0x2A | .cnt => 0x2B

def SheetKind.lockable : SheetKind → Bool
  | .site | .mb | .cnt => false
  | _ => true

def SheetKind.traced : SheetKind → Bool
  | .hp | .tb | .fe | .qm | .ek | .plate | .gc | .dma | .mac | .hs | .th | .pt | .ten => true
  | _ => false

/-- Sheets that lie in the always-on domain: the watchdog channel sheets (18_watchdog.md). -/
def SheetKind.aon : SheetKind → Bool
  | .wd => true
  | _ => false

def SheetKind.tenantVisible (k : SheetKind) (inst : Nat) : Bool :=
  match k with
  | .ten => true
  | .cnt => inst < 0x80
  | _ => false

/-- Chip-service sheets, whose summaries stand in the sheet directory (R82). -/
def SheetKind.inWindow : SheetKind → Bool
  | .plate | .gc | .ps | .qmgr | .dma | .mac | .hs | .sh | .th | .pt | .ten | .cnt => true
  | _ => false

/-- The PF or VF vector a sheet's `EVENT` asserts (R112, R113): function and vector. -/
def SheetKind.vector (k : SheetKind) (inst : Nat) : Nat × Nat :=
  match k with
  | .wd => (0, 13)
  | .mb => (0, 14)
  | .plate | .gc | .ps => (0, 16 + 5 * inst)
  | .qmgr | .dma => (0, 17 + 5 * inst)
  | .mac => (0, 18 + 5 * inst)
  | .hs | .sh => (0, 19 + 5 * inst)
  | .th | .pt => (0, 20 + 5 * inst)
  | .ten => (inst + 1, 0)
  | .cnt => if inst < 0x80 then (inst + 1, 0) else (0, 18 + 5 * (inst - 0x80))
  | k => (0, k.type - 1)

/-! ### Title block rows (R48). `STATE` is a view over the stored data-path code. -/

namespace Title
def compatPrev : Row := { off := 0x8, lsb := 0, width := 1, acc := .rwl }
/-- The data path's operating code and mode (R49); what `STATE.op` reads is `State.opOf`. -/
def stateOp : Row := { off := 0xC, lsb := 0, width := 4, acc := .ro }
def stateMode : Row := { off := 0xC, lsb := 8, width := 8, acc := .ro }
def stateDetail : Row := { off := 0xC, lsb := 16, width := 16, acc := .ro }
def event : Row := { off := 0x10, lsb := 0, width := 32, acc := .w1c }
def eventEn : Row := { off := 0x14, lsb := 0, width := 32, acc := .rw }
def lockBroken : Row := { off := 0x18, lsb := 8, width := 1, acc := .special }
def lockOwner : Row := { off := 0x1C, lsb := 0, width := 8, acc := .ro }
def lastBroken : Row := { off := 0x1C, lsb := 8, width := 8, acc := .ro }
def hostOp : Row := { off := 0x20, lsb := 0, width := 4, acc := .rwl }
def hostMode : Row := { off := 0x20, lsb := 8, width := 8, acc := .rwl }
def mismatch : Row := { off := 0x24, lsb := 0, width := 1, acc := .ro }
def held : Row := { off := 0x24, lsb := 2, width := 1, acc := .ro }
def count : Row := { off := 0x24, lsb := 4, width := 2, acc := .ro }
def seenOp : Row := { off := 0x24, lsb := 8, width := 4, acc := .ro }
def wantOp : Row := { off := 0x24, lsb := 12, width := 4, acc := .ro }
def seenMode : Row := { off := 0x24, lsb := 16, width := 8, acc := .ro }
end Title

/-! ### Operating codes (R49) -/

def opOff : Nat := 0
def opStarting : Nat := 1
def opRunning : Nat := 2
def opHeld : Nat := 3
def opQuiet : Nat := 4
def opStopping : Nat := 5
def opFrozen : Nat := 6
def opFault : Nat := 7
def opReset : Nat := 8

/-! ### Master IDs (R56) -/

/-- The PF (function 0) is 0x01, VFn is 0x40 + n. -/
def masterOfFn (fn : Nat) : Nat := if fn = 0 then 1 else 0x40 + fn
def masterGraver (p g : Nat) : Nat := 0x90 + 4 * p + g
def masterDma (p : Nat) : Nat := 0xB0 + p
def masterEpk : Nat := 0xC0
/-- The values R56 assigns to masters. -/
def isMaster (m : Nat) : Bool :=
  m == 1 || (0x41 ≤ m && m ≤ 0x80) || (0x90 ≤ m && m ≤ 0xAF) || (0xB0 ≤ m && m ≤ 0xB7) || m == 0xC0

/-- The plate a master belongs to; the PF and the Epkuone agent belong to none. -/
def plateOfMaster (m : Nat) : Option Nat :=
  if 0x41 ≤ m ∧ m ≤ 0x80 then some ((m - 0x41) / 8)
  else if 0x90 ≤ m ∧ m ≤ 0xAF then some ((m - 0x90) / 4)
  else if 0xB0 ≤ m ∧ m ≤ 0xB7 then some (m - 0xB0)
  else none

end Sys2Proof.Machine
end

