-- ==== Sys2Proof/Machine/State.lean ====
section
/-! DEFINITION. The machine state: plain data, holding every register field, queue, buffer, counter, mode, pin and
pending activity the spec gives the Chibonan, and the commands that wait. Register fields live in ONE store, `regs`,
keyed by PF BAR0 address and bit (R39: every view shares it); an unlisted field holds its reset value. What is derived
by a rule from other state (summaries, `STATE.op`) is computed at the read and stored nowhere. -/

namespace Sys2Proof.Machine

/-- Why a step stops with a fault: nothing in this model does, since every violation the spec names freezes its master
and the block goes on (R577). The one constructor is a name that no meaning raises; safe. -/
inductive Fault where
  | none
  deriving DecidableEq, Repr

/-- Why a command is refused. -/
inductive Refusal where
  /-- Raised by exec's arm for a command that has no meaning yet; safe. -/
  | notModelled (mnemonic : String)
  deriving DecidableEq, Repr

/-! ### What the block emits -/

/-- What leaves the block; State lists it newest first. -/
inductive Output where
  /-- The TLP that is the next output carries an ECRC digest (R84). -/
  | digest
  /-- MSI-X message `vec` of function `fn` (R112-R114). -/
  | msix (fn vec : Nat)
  /-- Read completion with data to function `fn` (R53, R104). -/
  | readData (fn : Nat) (data : Word)
  /-- Unsupported Request to function `fn` (R105). -/
  | unsupported (fn : Nat)
  /-- Configuration data that a configuration read of function `fn` returns (R86-R91). -/
  | cfgData (fn : Nat) (data : Word)
  /-- Configuration Request Retry Status to function `fn` (R160). -/
  | cfgRetry (fn : Nat)
  /-- Error message of function `fn`: 0 correctable, 1 non-fatal, 2 fatal (R115). -/
  | errMsg (fn severity : Nat)
  /-- A memory write with payload that the plate DMA issues for tenant `t` (R95, R99): address, bytes, Relaxed Ordering. -/
  | dmaWrite (t addr : Nat) (data : List Byte) (ro : Bool)
  /-- A memory read that the plate DMA issues for tenant `t` (R95, R99): address and length. -/
  | dmaRead (t addr len : Nat)
  /-- Double words 5 and 6 of a descriptor written at host address `addr` (R189, R194). -/
  | dmaStatus (t addr : Nat) (dw5 dw6 : Word)
  /-- `cons` written at host address `addr` (R188, R194). -/
  | dmaCons (t addr cons : Nat)
  /-- A read command to the flash (R161): opcode, the 24-bit address it starts at, dummy clocks, data lines, clock in MHz. -/
  | flash (opcode addr dummy lines mhz : Nat)
  /-- What the TAP shifts out on TDO: an identification code, sampled balls, or what a debugger read. -/
  | tdo (value : Nat)
  /-- A frame on the wire of port Mp, with FCS (R380, R384): without it the frame was ended with the inverted FCS. -/
  | frame (p : Nat) (bytes : List Byte) (good : Bool)
  /-- A PAUSE frame that port Mp sends (R388). -/
  | pause (p : Nat) (frame : List Byte)
  /-- A highway in the kernel frame that ended (R442, R445, R446): is Tp_DX driven on the rising edge of Tp_CLK; the level of Tp_FS in each
  bit period of a frame, where the device drives it; the bits of Tp_DX in each highway frame, none where it was high impedance. -/
  | tdm (p : Nat) (rising : Bool) (sync : Option (List Bool)) (frames : List (List (Option Bool)))
  /-- A frame that the island sends on ISL_TXD (R562). -/
  | uart (bytes : List Byte)
  /-- An Epkuone frame on lane `h.lane` (R689). -/
  | epk (h : EpkHdr) (b : EpkBody)
  deriving DecidableEq, Repr

/-! ### Host port (03_host_port.md) -/

/-- The PF's configuration space, its writable fields (R86-R88, R99-R101). -/
structure PfCfg where
  mse : Bool := false
  bme : Bool := false
  d3hot : Bool := false
  roEn : Bool := false
  extTag : Bool := false
  mps : Nat := 0
  mrrs : Nat := 2
  ctoValue : Nat := 0
  ctoDisable : Bool := false
  ari : Bool := false
  numVfs : Nat := 0
  vfEnable : Bool := false
  vfMse : Bool := false
  msixEn : Bool := false
  msixMask : Bool := false
  /-- The other fields that PCI Express makes writable, by offset of their double word: they are stored and read back. -/
  words : Sparse Nat := []
  deriving DecidableEq, Repr

/-- A VF's configuration space, its writable fields (R91, R96, R114). -/
structure VfCfg where
  bme : Bool := false
  msixEn : Bool := false
  msixMask : Bool := false
  deriving DecidableEq, Repr

/-- One MSI-X table entry with its PBA bit (R86, R91, R114). A vector is masked after reset, as PCI Express says. -/
structure MsixEntry where
  addrLo : Nat := 0
  addrHi : Nat := 0
  data : Nat := 0
  masked : Bool := true
  pba : Bool := false
  deriving DecidableEq, Repr

/-- Errors the functions log in AER (R115). -/
inductive AerError where
  | protocol | overflow | malformed | poisoned | ecrc | unsupportedRequest | completionTimeout | internal
  | flowControl | unexpectedCompletion
  | receiver | badTlp | badDllp | replayTimer | replayRollover
  deriving DecidableEq, Repr

/-- A function's AER registers and the error bits of its Device Status (R84, R91, R115). Places and reset values of the bits
are those of PCI Express (log entry 12). The masks, severities and ECRC enables of the PF hold for its VFs. -/
structure Aer where
  /-- Uncorrectable Error Status, Mask and Severity: severity 1 is fatal, as R115's default severities say. -/
  unc : Nat := 0
  uncMask : Nat := 0x00400000
  uncSev : Nat := 0x00462030
  /-- Correctable Error Status and Mask. -/
  cor : Nat := 0
  corMask : Nat := 0x2000
  ecrcGen : Bool := false
  ecrcCheck : Bool := false
  /-- First Error Pointer, and the 128 bits of the Header Log. -/
  first : Nat := 0
  header : Nat := 0
  /-- Device Status: correctable, non-fatal, fatal error detected, Unsupported Request detected. -/
  devSta : Nat := 0
  deriving DecidableEq, Repr

/-- An FLR in progress (R108): when its Initiate FLR was written and whether its drain has ended. -/
structure Flr where
  start : Nat
  drained : Bool := false
  /-- Begun by an FLR of the PF and ended with it (R109). -/
  withPf : Bool := false
  deriving DecidableEq, Repr

/-! ### Violations (17_masters_freeze.md) -/

/-- A freeze record (R582, R583, R597). -/
structure FrzRec where
  master : Nat := 0
  kind : Nat := 0
  access : Nat := 0
  frozen : Bool := false
  plate : Option Nat := none
  addrLo : Nat := 0
  addrHi : Nat := 0
  ns : Nat := 0
  sec : Nat := 0
  seq : Nat := 0
  repeats : Nat := 0
  deriving DecidableEq, Repr

/-! ### Clocks, supplies, resets (04_clocks_resets_startup.md) -/

/-- What the chip is doing about its resets (R142, R154, R159). -/
inductive Power where
  /-- Power-on reset lasts (POR_N low or VDD_AON low). -/
  | por
  /-- Chip reset, held until R785 lets it go. -/
  | chipReset
  /-- Boot in progress; `CR_BOOT.step` says where. -/
  | booting
  /-- Boot step 10 reached. -/
  | up
  deriving DecidableEq, Repr

/-- Pins and supplies that the reset logic watches, and the outputs of R153. -/
structure Pins where
  porN : Bool := false
  perstN : Bool := false
  /-- VDD_AON is out of its tolerance, or came back less than 10 ms ago (R142). -/
  aonLow : Bool := false
  almN : Bool := false
  /-- CLK_OUT carries buffered OSC_IN; low otherwise (R153). -/
  clkOut : Bool := false
  /-- PCI Express and Epkuone transmitters in electrical idle. -/
  pcieTxIdle : Bool := true
  epkTxIdle : Bool := true
  /-- Plates whose Mp SerDes transmitter is in electrical idle; whose Tp_DX is in high impedance; whose Tp_CLK and Tp_FS are, or are
  inputs (R447, R455, R722). -/
  macTxIdle : Nat := 0xFF
  tdmHiZ : Nat := 0xFF
  tdmSyncHiZ : Nat := 0xFF
  flCsN : Bool := true
  flClk : Bool := false
  deriving DecidableEq, Repr

/-- A clock source as the monitor sees it (R129, R130). -/
structure Source where
  present : Bool := false
  since : Nat := 0
  /-- REF_IN measured at 25 MHz rather than 10 MHz (R167). -/
  at25 : Bool := false
  deriving DecidableEq, Repr

/-- A patch image: its identifier and payload (R180, R644). -/
structure Patch where
  id : Nat
  payload : List Byte
  deriving DecidableEq, Repr

/-- Chip-level reset and clock activity. -/
structure Chip where
  power : Power := .por
  /-- Latest source of the chip reset in progress, and whether any source was the supply monitor or PERST_N (R785). -/
  rstAt : Nat := 0
  rstSupply : Bool := false
  rstPerst : Bool := false
  /-- Instant the boot time counts from (CR_BOOT_TIME). -/
  bootFrom : Nat := 0
  /-- Power-on instant: the always-on tick counter counts from it. -/
  aonFrom : Nat := 0
  /-- Sheets ready at boot step 8 (R159, R160). -/
  sheetsReady : Bool := false
  oscIn : Source := {}
  refIn : Source := {}
  refclk : Source := {}
  /-- Instant at which the last plate wake began (R164). -/
  lastWake : Option Nat := none
  /-- Patch area (R180), none while empty. -/
  patch : Option Patch := none
  deriving DecidableEq, Repr

/-- Where a plate stands in its reset or wake (R155, R159, R672). -/
inductive PlateStage where
  /-- Powered down or waiting for boot step 9. -/
  | down
  /-- In reset, waiting for its wake slot (step 4 of R155). -/
  | waitSlot
  /-- PLL restarting. -/
  | pllStart
  /-- PLL locked; store and cell memory being written to zero. -/
  | storeInit
  /-- Store written; kernel being initialised. -/
  | kernelInit
  /-- Out of reset. -/
  | out
  deriving DecidableEq, Repr

/-- Reset and start activity of one plate (R155, R196). -/
structure PlateInt where
  stage : PlateStage := .down
  /-- Waking out of quiet mode rather than out of reset (R672). -/
  fromQuiet : Bool := false
  /-- The reset in progress has cause `plate fault`, so that `fault_prior` is set at its end (R202). -/
  faultReset : Bool := false
  /-- Base grant held; when a refused one was last asked for (R196). -/
  baseGrant : Bool := false
  baseAskedAt : Nat := 0
  /-- Frame ticks seen since reset: the plate's own count of milliseconds; when the last one was. -/
  ticks : Nat := 0
  tickAt : Nat := 0
  /-- Patch RAM copied from the patch area (R181). -/
  patchRam : Option Patch := none
  /-- Millisecond of timekeeper time on which the last frame tick fell (R176). -/
  lastTick : Option Nat := none
  /-- When burnishing last read a line, or started or resumed (R184). -/
  burnishAt : Nat := 0
  deriving DecidableEq, Repr

/-- One graver (R169-R179, R200). -/
structure Graver where
  /-- Halted by a debugger through DEBUG (R649); the halt of GC_DEBUG stands in its register. -/
  haltTap : Bool := false
  /-- Program counter while the graver is stopped (R172); free while it runs. -/
  pc : Nat := 0
  /-- Frames overrun in a row (R179); the frame under way has been counted. -/
  overruns : Nat := 0
  late : Bool := false
  /-- Unfrozen, so that it resumes at the next frame tick (R199). -/
  resume : Bool := false
  deriving DecidableEq, Repr

/-! ### Queue entries (10_cells_queues.md) -/

/-- One entry of a queue (R341, R347, R378, R396). -/
structure Entry where
  /-- Its first cell (R366); which cells an allocation takes the spec leaves open (log entry 7). -/
  cell : Nat := 1
  /-- Tenant slot it is charged to, and its class. -/
  slot : Nat := 0
  voice : Bool := false
  bytes : List Byte := []
  /-- Deadline of a voice entry of a TQ, in nanoseconds of the plate's frame ticks (R378, R379). -/
  expires : Option Nat := none
  /-- Receive timestamp, timekeeper time in 2⁻¹⁶ ns, and the channel or filter that steered it (R396). -/
  rxTs : Nat := 0
  chan : Option Nat := none
  filt : Option Nat := none
  deriving DecidableEq, Repr

/-! ### Plate DMA (05_plates.md) -/

/-- Where a DMA operation stands. -/
inductive OpPhase where
  | pending | inFlight | ended
  deriving DecidableEq, Repr

/-- One operation of a tenant's ring (R189, R190, R787). -/
structure DmaOp where
  /-- Which of the ring's operations it is, in the order they were taken: two in flight may come from one ring slot (R192). -/
  id : Nat := 0
  idx : Nat
  toHost : Bool
  irq : Bool
  queue : Nat
  length : Nat
  addr : Nat
  cookie : Nat
  /-- Host address of its descriptor (R583). -/
  desc : Nat
  phase : OpPhase := .pending
  status : Nat := 0
  doneLen : Nat := 0
  /-- Bytes for which TLPs have been issued; the reads outstanding, by offset, with their lengths and the instants of their
  issue (R99-R101); the data that has come back, by offset. -/
  issued : Nat := 0
  /-- Device to host: the bytes of the entry that the operation took from its queue (R356). -/
  data : List Byte := []
  reads : Sparse (Nat × Nat) := []
  got : Sparse (List Byte) := []
  /-- The cells the operation holds (R352, R356), the slot they are charged to (R347), and the first of a taken entry (R341). -/
  cells : Nat := 0
  slot : Nat := 0
  cell : Nat := 0
  /-- It ended with a violation, so that its status is written although its VF is frozen (R577). -/
  viol : Bool := false
  deriving DecidableEq, Repr

/-- A tenant's ring as the plate DMA sees it (R188-R194). -/
structure DmaTen where
  /-- Ring position, taken from the header's `cons` (R192). -/
  pos : Option Nat := none
  /-- `prod` as the last poll read it, 0 before (R191). -/
  prod : Nat := 0
  /-- Operations read from the ring and not yet retired, in ring order; how many were taken from it so far. -/
  ops : List DmaOp := []
  taken : Nat := 0
  /-- When the ring header was last read since `dma_en` was set (R191). -/
  pollAt : Option Nat := none
  /-- Reads, by ring slot and offset, that ended by timeout or with their operation: their completions may still come (R101,
  R106). -/
  late : List (Nat × Nat) := []
  deriving DecidableEq, Repr

/-! ### Fuses and life cycle (19_life_cycle.md) -/

/-- The fuses (R627, R640, R642). -/
structure Fuses where
  lc : Nat := 2
  islOff : Bool := false
  plateDis : Nat := 0
  ceil : Nat := 0
  ceilLock : Bool := false
  vfCap : Nat := 0
  vfCapLock : Bool := false
  wdHw : Bool := false
  keyRev : Nat := 0
  secVer : Nat := 0
  deriving DecidableEq, Repr

/-- What the fuse programmer is doing (R631, R632, R641). -/
inductive FuseJob where
  | idle
  | transition (target : Nat)
  | option (group value : Nat)
  deriving DecidableEq, Repr

/-- Where the LC_REQ sequence stands (R630): words taken, the target, and the instant of the first word. -/
structure ReqSeq where
  taken : Nat := 0
  target : Nat := 0
  start : Nat := 0
  deriving DecidableEq, Repr

/-- TAP instruction in effect (R646). -/
inductive TapInstr where
  | idcode | bypass | extest | samplePreload | clamp | highz | debug
  | makerTest (code : Nat)
  deriving DecidableEq, Repr

/-- The TAP and its scan cells (R646-R649). -/
structure Tap where
  instr : TapInstr := .idcode
  trstN : Bool := true
  /-- Scan cells as last preloaded or sampled. -/
  cells : List Bool := []
  deriving DecidableEq, Repr

/-- Life-cycle controller activity. -/
structure Lifecycle where
  job : FuseJob := .idle
  seq : ReqSeq := {}
  /-- The tenant key store accepts no write (step 1 of R637). -/
  keysShut : Bool := false
  deriving DecidableEq, Repr

/-- A time as captured by a read (R490): seconds, nanoseconds, fraction. -/
structure Capture where
  sec : Nat := 0
  ns : Nat := 0
  frac : Nat := 0
  deriving DecidableEq, Repr

/-- A slew profile (R480): what is left of the offset, 2⁻¹⁶ ns × 10⁻⁶; the frequency reached, 2⁻¹⁶ ppb × 10⁻³. -/
structure Slew where
  run : Bool := false
  left : Int := 0
  freq : Int := 0
  deriving DecidableEq, Repr

/-- The second-order loop that filters a frequency source (R473): its two integrators, 2⁻¹⁶ ppb ms. -/
structure FreqLoop where
  first : Int := 0
  second : Int := 0
  deriving DecidableEq, Repr

/-- The on-chip servo (R476). -/
structure Servo where
  /-- Integral part of y, in 1 / (2⁶⁴ · 10¹⁵) of 2⁻¹⁶ ppb. -/
  freq : Int := 0
  /-- Last phase error, and the phase that the frequency errors have added up to, both in units of a slew's remainder. -/
  phase : Int := 0
  added : Int := 0
  /-- When the servo last took a phase error. -/
  at_ : Option Nat := none
  deriving DecidableEq, Repr

/-- y over a second: when it began, the sum of y at its milliseconds, and their number. -/
structure YSecond where
  at_ : Nat
  sum : Int
  n : Nat
  deriving DecidableEq, Repr

/-- Timebase activity (14_timebase.md). Instants are block time; y is in 2⁻¹⁶ ppb. -/
structure Timebase where
  /-- Site time minus the block's clock, ns. -/
  epoch : Int := 0
  /-- What the oscillator's frequency has added to site time since, below a nanosecond, in 2⁻¹⁸ ppb ns; when it was last added
  (R462). -/
  drift : Int := 0
  driftAt : Nat := 0
  /-- All that has been added so, in 2⁻¹⁸ ppb ns; its rate over the last whole second measured, 2⁻¹⁸ ppb, with when and where the next
  one began (R493). -/
  total : Int := 0
  ratio : Int := 0
  ratioAt : Nat := 0
  ratioTotal : Int := 0
  /-- The steps of the last second, newest first: when, and the epoch before (R472). -/
  epochs : List (Nat × Int) := []
  /-- Timebase state (R496): 0 FREE, 1 ACQUIRE, 2 LOCKED, 3 HOLDOVER, 4 RELOCK. -/
  state : Nat := 0
  /-- The servo's y as it stands, the y it moves to under the ramp (R481), and when it last moved. -/
  y : Int := 0
  target : Int := 0
  yAt : Nat := 0
  servo : Servo := {}
  /-- Filtered phase error of the selected source, 2⁻³ ns (R476); the filters of the frequency sources (R473). -/
  filtered : Option Int := none
  loops : Sparse FreqLoop := []
  /-- Last measured error of each source: ns for a phase source, 2⁻¹⁶ ppb for a frequency source. -/
  errors : Sparse Int := []
  /-- Since when each source has been qualified; since when each frequency source has been in range (R469, R474). -/
  qualSince : Sparse Nat := []
  inRange : Sparse Nat := []
  /-- Since when each frequency source has been out of range (R469). -/
  outSince : Sparse Nat := []
  /-- Start of the run within the lock criterion (R468); measurements in a row beyond `unlock_ns` (R467). -/
  lockFrom : Option Nat := none
  unlockRun : Nat := 0
  /-- Time taken from a source, or stepped (R483); a step waits for the next broadcast word; a deferred slew (R479). -/
  timeSet : Bool := false
  step : Option Int := none
  slew : Slew := {}
  deferred : Bool := false
  /-- PPS_IN (R470, R471): last accepted edge, whether its period has been declared at fault, last `pps_fast`, armed label. -/
  ppsAt : Option Nat := none
  ppsLate : Bool := false
  /-- The last pulse of PPS_IN, accepted or not: its edge and its end. -/
  pulseFrom : Nat := 0
  pulseTill : Nat := 0
  fastAt : Option Nat := none
  armed : Option Nat := none
  /-- PTP measurements accepted, newest first, at most 8 (R469). -/
  ptp : List Nat := []
  /-- Last write of TB_EXT_FREQ (R477). -/
  extAt : Nat := 0
  /-- LOCKED since; last step or end of a slew profile (R486); settling after OSC_IN came back lasts until (R487). -/
  lockedAt : Nat := 0
  movedAt : Nat := 0
  settleTill : Nat := 0
  /-- Holdover (R484, R485): entered; its frequency; whether the model gives it; r̄ and the mean y. -/
  hoFrom : Nat := 0
  hoY : Int := 0
  hoModel : Bool := false
  hoBase : Int := 0
  hoMean : Int := 0
  /-- y over the seconds of the last 10 minutes of LOCKED and RELOCK, newest first; y − M of the last 10 learning samples. -/
  ys : List YSecond := []
  resids : List Int := []
  /-- y − M of the learning samples of the last 24 h, newest first (R498). -/
  resid24 : List (Nat × Int) := []
  /-- Sums of θ and θ′ over the valid readings of TH0 since the last learning sample, and their number (R486). -/
  thetaSum : Int := 0
  rateSum : Int := 0
  thetaN : Nat := 0
  /-- Captures of TB_TIME_NS (R490); PPS_OUT is high until (R491). -/
  capture : Capture := {}
  ppsTill : Nat := 0
  deriving DecidableEq, Repr

/-- What the holdover model keeps in the always-on domain beside its registers (R489, R151). -/
structure HoldModel where
  /-- RLS covariance, upper triangle, single-precision words. -/
  cov : List Nat := []
  /-- Learning samples towards the next hour; hours of the epoch counted from this always-on tick. -/
  samples : Nat := 0
  epochTick : Nat := 0
  /-- θ (2⁻⁷ K) and θ′ (2⁻¹⁰ K/h) at the last valid reading (R487). -/
  theta : Int := 0
  rate : Int := 0
  deriving DecidableEq, Repr

/-- The integrators and differentiators of a sinc³ first stage (R504). -/
structure Sinc where
  i1 : Int := 0
  i2 : Int := 0
  i3 : Int := 0
  c1 : Int := 0
  c2 : Int := 0
  c3 : Int := 0
  deriving DecidableEq, Repr

/-- A converter (R502-R505): modulator cycles since it started, the modulator's two integrators, and the first stages in
phase and in quadrature. -/
structure Conv where
  cycle : Nat := 0
  x1 : Int := 0
  x2 : Int := 0
  i : Sinc := {}
  q : Sinc := {}
  deriving DecidableEq, Repr

/-- A thermistor channel of the front end (15_front_end.md R513-R517); y in Q8.24. -/
structure Therm where
  coefs : List Int := []
  valid : Bool := false
  goodRun : Nat := 0
  prevGood : Option Int := none
  /-- Good readings toward the next 1-second mean, newest first; sums of 10 readings, newest first, at most 600. -/
  acc : List Int := []
  means : List Int := []
  deriving DecidableEq, Repr

/-! ### Channels (06_channels.md) -/

/-- A request to the power arbiter (R654, R660). -/
inductive GrantReq where
  | base (p : Nat)
  | lane (p units : Nat)
  | epkLane (l : Nat)
  | call (g : Nat)
  | echo (g : Nat)
  | impression (p : Nat)
  deriving DecidableEq, Repr

/-- Quiet-mode activity (20_power_sleep.md R674-R677). -/
structure Quiet where
  /-- 0 IDLE, 1 PROPOSED, 2 VOTED, 3 ARMED, 4 ASLEEP. -/
  vote : Nat := 0
  /-- T_c of the round, site time ns; when the round was proposed or ended. -/
  tc : Nat := 0
  proposedAt : Nat := 0
  endedAt : Nat := 0
  /-- Nodes whose yes has arrived. -/
  yes : List Nat := []
  deriving DecidableEq, Repr

/-- A wake in progress of one plate: source code and request instant (R670, R684). -/
structure Wake where
  source : Nat
  at_ : Nat
  /-- The request came at or after T_c of the round that put the plate to sleep. -/
  late : Bool := false
  deriving DecidableEq, Repr

/-- Debounce of one SITE_IN (R679-R681). -/
structure SiteIn where
  /-- Level of the last samples and how many in a row. -/
  last : Bool := false
  run : Nat := 0
  level : Bool := false
  /-- When the level last went active; when the last event was. -/
  activeAt : Nat := 0
  eventAt : Option Nat := none
  stuck : Bool := false
  deriving DecidableEq, Repr

/-! ### Echo cancelling (07_echo.md) -/

/-- Sums of squares over one frame: Rin, Sin and e, and whether the canceller adapted in it (R244, R246). -/
structure EchoFrame where
  rin : Nat := 0
  sin : Nat := 0
  e : Nat := 0
  adapted : Bool := false
  deriving DecidableEq, Repr

/-- Echo activity of a channel, beside its registers: `EC_STATUS` holds phase, bypass, forced and the other flags. -/
structure Echo where
  cfg : EchoCfg := {}
  /-- Coefficients, Q1.17, tap 0 first; missing taps are 0 (R243). -/
  w : List Int := []
  /-- Rin samples, newest first (R243). -/
  hist : List Int := []
  /-- Instant FAST was entered; waiting for fast entry; the request of a channel resumed in FAST was refused (R245, R248, R268). -/
  fastAt : Nat := 0
  waiting : Bool := false
  refused : Bool := false
  /-- Units of the burst grant held, 0 if none (R247). -/
  burst : Nat := 0
  /-- Instant at which double-talk ends (R251). -/
  dtTill : Nat := 0
  /-- Frames of continuous 2100 Hz tone in Rin and in Sin; action detected and due at the next tick: 1 bypass, 2 NLP off (R258,
  R259). -/
  toneRin : Nat := 0
  toneSin : Nat := 0
  tdDue : Nat := 0
  /-- Frames in a row with Rin and Sin below the release level; release due at the next tick (R260). -/
  quietMs : Nat := 0
  tdEnd : Bool := false
  /-- EC_CMD bits taken, acting at the next tick (R264). -/
  cmdReset : Bool := false
  cmdForce : Bool := false
  cmdRelease : Bool := false
  /-- Frames, newest first: the last 100, for the reported levels; the last 1,000 that adapted, for the reported ERL and ERLE
  (R244, R271). -/
  levels : List EchoFrame := []
  erls : List EchoFrame := []
  /-- The same since w was last set to 0: the last 100, and the last 200 that adapted, by which the phases move (R245). -/
  frames : List EchoFrame := []
  adapted : List EchoFrame := []
  /-- Comfort-noise estimates of Rin and Sin (R254, R255). -/
  rinEst : NoiseEst := {}
  sinEst : NoiseEst := {}
  /-- Samples of Rin still wanted before adaptation goes on after a takeover (R269). -/
  refill : Nat := 0
  /-- Slips of the highway in the kernel frame under way: the sample, and whether it was deleted (R270, R451). -/
  slips : List (Nat × Bool) := []
  deriving DecidableEq, Repr

/-! ### Coding, packetising and tones (08_coding_tones.md) -/

/-- An outgoing telephone event (R293, R295): its code, volume, first timestamp, the instant of its first sample, its duration in
ms if known, and what has been sent. -/
structure EvOut where
  code : Nat := 0
  volume : Nat := 10
  ts : Nat := 0
  /-- Timestamp units of the segments already sent (RFC 4733 as R293 names it). -/
  seg : Nat := 0
  startedAt : Nat := 0
  durMs : Option Nat := none
  lastSent : Nat := 0
  ends : Nat := 0
  endAt : Nat := 0
  /-- A relayed digit (R298); voice has resumed after it (R280, R294). -/
  relay : Bool := false
  resumed : Bool := false
  deriving DecidableEq, Repr

/-- A received telephone event being played, or the last one ended (R296). -/
structure EvIn where
  ts : Nat := 0
  code : Nat := 0
  volume : Nat := 0
  durMs : Nat := 0
  startedAt : Nat := 0
  lastAt : Nat := 0
  playing : Bool := false
  deriving DecidableEq, Repr

/-- A DTMF detector (R297): the pair heard and its digit, how long it has been there with the interruptions bridged, how long it
has been absent, whether a pause came before it, whether it is reported, and its power as the sum of the squared amplitudes. -/
structure DtmfDet where
  code : Nat := 0
  on : Nat := 0
  gap : Nat := 0
  /-- Milliseconds since the last digit ended, up to the burst heard now. -/
  pause : Nat := 40
  ok : Bool := false
  reported : Bool := false
  power : Nat := 0
  deriving DecidableEq, Repr

/-- A call-progress detector (R299, R301): the on period, the time since the tone was last there, the time from its start. -/
structure CptDet where
  run : Nat := 0
  off : Nat := 0
  since : Nat := 0
  reported : Bool := false
  power : Nat := 0
  deriving DecidableEq, Repr

/-- The fax and modem detectors of one side (R300): milliseconds of CNG, ANS, ANSam and V.21 flags so far, and the power of CNG as its
squared amplitude. -/
structure FaxDet where
  cng : Nat := 0
  power : Nat := 0
  ans : Nat := 0
  ansam : Nat := 0
  flags : Nat := 0
  deriving DecidableEq, Repr

/-- Reception statistics that RTCP reports (RFC 3550 as R290-R292 name it). -/
structure RtcpStat where
  baseSeq : Nat := 0
  maxSeq : Nat := 0
  cycles : Nat := 0
  received : Nat := 0
  expectedPrior : Nat := 0
  receivedPrior : Nat := 0
  transit : Int := 0
  jitter : Nat := 0
  lsr : Nat := 0
  /-- Instant at which the last SR arrived, ns. -/
  lsrAt : Nat := 0
  deriving DecidableEq, Repr

/-- Media activity of a channel. -/
structure Media where
  cfg : MediaCfg := {}
  /-- Next sequence number, timestamp of the next sample, SSRC, IP identification (R279, R281, R284). -/
  seq : Nat := 0
  ts : Nat := 0
  ssrc : Nat := 0
  ipId : Nat := 0
  /-- Kernel frames since the encoder last started; frames still to pass before a restart at the codec frame boundary (R278, R307). -/
  encN : Nat := 0
  encWait : Nat := 0
  /-- G.711 codes of the packet under way (R278); the encoder's mode in each codec frame begun since the last packet (R276); codec frames
  without speech in a row (R275). -/
  code : List Byte := []
  modes : List Nat := []
  dtxRun : Nat := 0
  marker : Bool := false
  dtxPause : Bool := false
  /-- Instants of the last RTP sent, of the first RTP sent or received, and of the next RTCP (R290). -/
  sentAt : Option Nat := none
  rtcpAt : Option Nat := none
  /-- Adopted SSRC; the candidate and how many packets in a row carried it (R288). -/
  rxSsrc : Option Nat := none
  candSsrc : Nat := 0
  candRun : Nat := 0
  badPtAt : Option Nat := none
  /-- Encoder mode a received CMR asks for (R276). -/
  cmr : Option Nat := none
  evOut : Option EvOut := none
  /-- Events before it whose end packets or whose voice is still to come (R293, R294). -/
  evPast : List EvOut := []
  /-- The event of EV_SEND that waits for its tick: code and duration in ms (R295); the relayed digits that wait (R298). -/
  evWait : Option (Nat × Nat) := none
  relayWait : List EvOut := []
  evIn : Option EvIn := none
  /-- Timestamps of the received events before it, and of those that are not played (R296). -/
  evDone : List Nat := []
  evSkip : List Nat := []
  /-- Detectors (R297-R300): DTMF of the bridge and the packet side; call progress 0 to 3; fax and modem of the two sides. -/
  dtmfBridge : DtmfDet := {}
  dtmfPkt : DtmfDet := {}
  cpt : List CptDet := []
  faxBridge : FaxDet := {}
  faxPkt : FaxDet := {}
  rtcp : RtcpStat := {}
  /-- Generator: a TG_CMD waits for the tick; playing; milliseconds of the current cycle; cycles done (R303). -/
  tgDue : Bool := false
  tgRun : Bool := false
  tgMs : Nat := 0
  tgCycles : Nat := 0
  deriving DecidableEq, Repr

/-! ### Jitter buffer and drift follower (09_jitter_drift.md) -/

/-- A codec frame held: first timestamp, length in timestamp units, whether it is a SID or DTX frame, its bytes. -/
structure JFrame where
  t : Int := 0
  len : Nat := 0
  sid : Bool := false
  data : List Byte := []
  deriving DecidableEq, Repr

/-- A packet whose frames are held in its cells (R316, R349). -/
structure JPacket where
  slot : Nat := 0
  cells : Nat := 0
  /-- The first of its cells (R341). -/
  cell : Nat := 0
  frames : List JFrame := []
  deriving DecidableEq, Repr

/-- What plays now: nothing yet, a decoded frame, concealment, comfort noise of DTX. -/
inductive Playing where
  | zero | voice | conceal | noise
  deriving DecidableEq, Repr

/-- Jitter buffer and drift follower of a channel. Times are local (timekeeper) time in 2⁻¹⁶ ns. -/
structure Jitter where
  cfg : JbCfg := {}
  /-- P is set; its integer part and 32-bit fraction (R314, R323). -/
  running : Bool := false
  pos : Int := 0
  frac : Nat := 0
  /-- First timestamp of the codec frame that enters the resampler next. -/
  next : Int := 0
  playing : Playing := .zero
  /-- (r − 1), its target and the estimate, each × 2³² (R325, R334). -/
  ratio : Int := 0
  aim : Int := 0
  est : Int := 0
  hasEst : Bool := false
  held : List JPacket := []
  /-- D and J; D_t in ms (R319, R320). -/
  delay : Int := 0
  target : Nat := 0
  spread : Int := 0
  /-- Voice packets of the current second: slack, receive time, first timestamp (R319, R324). -/
  second : List (Int × Int × Int) := []
  /-- h − l of the seconds that had packets, and the regression points (A, T₁), newest first. -/
  spreads : List Int := []
  points : List (Int × Int) := []
  /-- Kernel frames still to insert, P held (R321). -/
  insertLeft : Nat := 0
  /-- The last eligible frame was a deletion (R321). -/
  deleted : Bool := false
  /-- Accepted voice packets in a row discarded early, or late by more than `max_ms` (R330). -/
  earlyRun : Nat := 0
  lateRun : Nat := 0
  /-- A restart waits for the next tick, or a reset of the estimate (R338). -/
  cmdResync : Bool := false
  cmdDfReset : Bool := false
  /-- Local second for which the last update was made. -/
  secondDone : Nat := 0
  /-- Takeover: r is held until 4 points exist; kernel frames by which a late first packet may still hold P (R335, R336). -/
  afterTakeover : Bool := false
  holdLeft : Nat := 0
  deriving DecidableEq, Repr

/-! ### The samples of a channel (07_echo.md, 08_coding_tones.md, 09_jitter_drift.md) -/

/-- What a channel's signal path holds between two kernel frames. Histories are newest first. -/
structure Sig where
  /-- Decoded samples that have not entered the resampler, and the index of the first of them at the stream rate (R314). -/
  ahead : List Int := []
  idx : Int := 0
  /-- Samples that have entered the resampler (R326). -/
  hist : List Int := []
  /-- The samples inside the G.711 decoder's delay of 3.75 ms, oldest first (R277). -/
  fifo : List Int := []
  /-- What was decoded last, at most 390 samples, and milliseconds concealed in a row; of G.711, what was decoded before the loss and its
  pitch period (R277). -/
  last : List Int := []
  lostMs : Nat := 0
  lossHist : List Int := []
  lossPitch : Nat := 0
  /-- What the channel delivered toward its bridge in its last frame, at the stream rate, and the lower band of it. -/
  out : List Int := []
  out8 : List Int := []
  /-- Histories of the filter pair of R242: splitting the signal toward the bridge and Sin, merging the two bands toward the
  encoder. -/
  qOut : List Int := []
  qSin : List Int := []
  qLow : List Int := []
  qHigh : List Int := []
  /-- Phases of the generator's and of the event player's two oscillators, 2⁻³² of a cycle (R302, R296). -/
  tg1 : Nat := 0
  tg2 : Nat := 0
  ev1 : Nat := 0
  ev2 : Nat := 0
  deriving DecidableEq, Repr

/-! ### Requests and what a channel holds (06_channels.md) -/

/-- An open or modify that waits for its tick or for the arbiter (R214-R217). From its tick on it holds the snapshot of
R215: the configuration, `gen`, whether `want` was MUTED, and the words of the other chapters' regions. -/
structure ChRequest where
  isOpen : Bool
  /-- Arrival (R223). -/
  at_ : Nat
  /-- Path state before the request. -/
  prior : Nat
  /-- Admitted by checks 1 to 9 and waiting for the arbiter's answer. -/
  asked : Bool := false
  /-- Admitted without the arbiter (R218, R220); its result is posted after the frame. -/
  noPower : Bool := false
  /-- An open from FAULT within what the channel holds, which it keeps (R220). -/
  keep : Bool := false
  cfg : ChConfig := {}
  gen : Nat := 0
  muted : Bool := false
  echo : EchoCfg := {}
  media : MediaCfg := {}
  jb : JbCfg := {}
  /-- Units and graver held before, given back on a refusal (R216). -/
  oldUnits : Nat := 0
  oldGraver : Nat := 0
  deriving DecidableEq, Repr

/-- What a channel holds and has pending, beside its descriptor. -/
structure Chan where
  /-- Applied configuration. -/
  cfg : ChConfig := {}
  /-- Units, reservation (sub-units of 2.5 mW) and graver held; units are 0 while it holds nothing. -/
  units : Nat := 0
  res : Nat := 0
  graver : Nat := 0
  /-- The settled state that `path_change` compares with (R235). -/
  settled : Nat := 0
  req : Option ChRequest := none
  closeReq : Bool := false
  muteReq : Bool := false
  /-- The `reason` of the IDLE that a CLOSING channel is going to (R221, R196). -/
  closeReason : Nat := 1
  /-- Instant of the first ADMITTING, MODIFYING or CLOSING sample in a row (R229). -/
  agreeSince : Option Nat := none
  /-- COMPAT.prev of the plate timekeeper at its admitted open (R337). -/
  fixedBuffer : Bool := false
  /-- The admission mark of its last admitted open, and the header word of its slot in the plate store (R187). -/
  mark : Nat := 0
  header : Nat := 0
  deriving DecidableEq, Repr

/-! ### Port (11_frame_mac.md) -/

/-- A frame being received: the slot, queue, filter and channel it is classified to, whether its 16 cells were admitted,
and its timestamp (R351, R390-R393). -/
structure RxFrame where
  slot : Option Nat := none
  target : Option Nat := none
  chan : Option Nat := none
  filt : Option Nat := none
  admitted : Bool := false
  /-- Refused by R350 or steered to an unowned queue (row 8 of R390). -/
  refused : Bool := false
  ts : Nat := 0
  deriving DecidableEq, Repr

/-- A frame on the wire: its queue and its length under R369, the timestamp of its first bit. -/
structure TxFrame where
  queue : Nat := 0
  len : Nat := 0
  ts : Nat := 0
  /-- Its bytes without FCS, as they leave; when its last byte has left, in block time. -/
  bytes : List Byte := []
  endAt : Nat := 0
  /-- Its whole entry was in the transmit buffer before it started (R383). -/
  whole : Bool := false
  /-- Bytes of its entry that were in the transmit buffer when it started (R383). -/
  buffered : Nat := 0
  deriving DecidableEq, Repr

/-- A transmit timestamp record (R398, R409). -/
structure TxTs where
  ts : Nat := 0
  seqId : Nat := 0
  msgType : Nat := 0
  domain : Nat := 0
  deriving DecidableEq, Repr

/-- Activity of port Mp (R367-R409). -/
structure Port where
  /-- Link declared up (R372). -/
  up : Bool := false
  /-- Transmission waits for a hatch-cycle boundary (R371, R375, R433). -/
  waitBoundary : Bool := false
  /-- Flap grace: its start, while it runs; whether it ended with the link down (R373-R377). -/
  graceFrom : Option Nat := none
  graceEnded : Bool := false
  /-- Pause timer end, start of continuous pause, end of the pause hold (R386, R387). -/
  pauseTill : Nat := 0
  pauseFrom : Option Nat := none
  holdTill : Nat := 0
  /-- Last PAUSE frame sent since the pool was above `floor` + 256; the pool has stayed at or below the floor since (R388). -/
  pauseSentAt : Option Nat := none
  pauseOn : Bool := false
  rx : Option RxFrame := none
  tx : Option TxFrame := none
  /-- End of the interframe gap of the last frame (R420). -/
  freeAt : Nat := 0
  /-- Transmit timestamp queue, head first (R398). -/
  txts : List TxTs := []
  /-- Pins and PHY: Mn_ABS, Mn_TXFAULT, Mn_TXDIS, remote fault, SGMII speed code. -/
  abs : Bool := false
  txFault : Bool := false
  txDis : Bool := true
  remoteFault : Bool := false
  speed : Nat := 0
  /-- MAC_CFG as applied (R371, R408). -/
  rate : Nat := 1
  anEn : Bool := true
  txRef : Bool := false
  upHoldMs : Nat := 0
  /-- When a refused lane grant was last asked for (R661). -/
  laneAskedAt : Nat := 0
  /-- RUNNING was written while the plate slept: the port starts as the plate wakes (R42). -/
  wakeStart : Bool := false
  deriving DecidableEq, Repr

/-- Activity of a hatch scheduler (R412-R437). Instants are nanoseconds of timekeeper time. -/
structure Hatch where
  /-- Start of the running cycle, or of the first cycle to come; none while the scheduler runs none. -/
  cycleFrom : Option Nat := none
  /-- In a gap: no cycle runs until `cycleFrom` (R431, R435). -/
  gap : Bool := false
  /-- The gap follows a swap, so that its end counts as one (R431). -/
  gapSwap : Bool := false
  /-- Bank whose swap is pending, and the first instant of block time at which a cycle end can take it (R431). -/
  pending : Option Nat := none
  pendingFrom : Nat := 0
  /-- First instant of block time at which a cycle may begin after RUNNING was written (R418). -/
  startFrom : Nat := 0
  /-- On the plate's own clock (R436); the next cycle end realigns (R435). -/
  freeRun : Bool := false
  realign : Bool := false
  /-- The table began: HS_SPAN has been computed. -/
  spanValid : Bool := false
  /-- Seconds [47:32] of the active bank's base, taken when the bank became active (R415). -/
  baseHi : Nat := 0
  deriving DecidableEq, Repr

/-! ### TDM highways (13_tdm.md) -/

/-- The spacing of an elastic store (R450), in 10⁻¹⁵ of a highway frame, and when it was last brought up to date. -/
structure Spacing where
  frames : Int := 0
  at_ : Nat := 0
  deriving DecidableEq, Repr

/-- A kernel frame of a highway, as far as it is known: `loop` at its start and what it changed to from which highway frame on, newest
first (R457); the highway frame at which each store slipped, and whether by a deletion (R450); the highway frames in which nothing is carried,
bit by bit (R453). -/
structure TdmFrame where
  loop : Nat := 0
  loops : List (Nat × Nat) := []
  rxSlip : Option (Nat × Bool) := none
  txSlip : Option (Nat × Bool) := none
  silent : Nat := 0
  deriving DecidableEq, Repr

/-- Activity of a highway (R447-R457). -/
structure Highway where
  /-- `TH_CFG` as applied, but for `loop` (R457). -/
  rate : Nat := 0
  master : Bool := false
  law : Bool := false
  hiz : Bool := false
  idle : Nat := 0xD5
  clkEdge : Bool := false
  fsPol : Bool := false
  fsEarly : Bool := false
  /-- Spacings of the receive and the transmit store (R450). -/
  rxSpacing : Spacing := {}
  txSpacing : Spacing := {}
  /-- Samples by timeslot (R446): committed for the next kernel frame, leaving in the current one, and what left in the two
  before it. -/
  tx : Sparse (List Int) := []
  cur : Sparse (List Int) := []
  was : Sparse (List Int) := []
  was2 : Sparse (List Int) := []
  /-- Bytes received by timeslot in the last two kernel frames that ended, for the loopback (R461). -/
  rx : Sparse (List Byte) := []
  rx2 : Sparse (List Byte) := []
  /-- The kernel frame under way and the one that ended. -/
  frame : TdmFrame := {}
  ended : TdmFrame := {}
  /-- From which highway frame of the kernel frame under way on it carries nothing for want of clock or frame sync (R453); the highway frames
  that it completes once it is stopping (R455). -/
  lostAt : Option Nat := none
  lastFrames : Nat := 0
  /-- Frames with an FS error in a row, and when the last one was (R453). -/
  fsErrRun : Nat := 0
  fsErrAt : Nat := 0
  deriving DecidableEq, Repr

/-! ### Plate timekeepers (14_timebase.md) -/

/-- A plate timekeeper (R492-R495): its time minus site time, 2⁻³ ns, while it is on its own clock; at the start of the
slew while it slews back. -/
structure Timekeeper where
  /-- On its own clock (R493). -/
  own : Bool := false
  offset : Int := 0
  /-- When the own-clock episode began, block time. -/
  ownFrom : Nat := 0
  /-- Consecutive bad words; consecutive valid words since the last bad one (R493, R494). -/
  badRun : Nat := 0
  goodRun : Nat := 0
  /-- Rejoin slew under way, and when it began (R494). -/
  rejoin : Bool := false
  rejoinFrom : Nat := 0
  /-- Site time is adopted at the next word (R494). -/
  adopting : Bool := false
  /-- Own clock: its rate, 2⁻¹⁸ ppb; from when, and site time's own drift by then (R493). -/
  ratio : Int := 0
  ratioFrom : Nat := 0
  totalFrom : Int := 0
  deriving DecidableEq, Repr

/-! ### Metrology island (16_metrology.md) -/

/-- The scalar parameters of a feed (R572). -/
structure FeedParams where
  mode : Nat := 0
  iExp : Nat := 0
  iRated : Nat := 1000
  iCreep : Nat := 4
  fluxM : Nat := 4
  fluxGain : Nat := 1
  driveMv : Nat := 200
  fluxPhase : Nat := 0
  deriving DecidableEq, Repr

/-- What a checkpoint keeps of a feed, and what the feed runs on (R545, R546, R557): the exact sums of p × Δt, forward and
reverse, in 2⁻⁴⁸ W of a 4.000 MHz cycle, the wrap flags of the counters, and T_feed in Q8.24 °C. -/
structure FeedEnergy where
  fwd : Nat := 0
  rev : Nat := 0
  wrapF : Bool := false
  wrapR : Bool := false
  tFeed : Int := 0
  deriving DecidableEq, Repr

/-- One feed. -/
structure Feed where
  params : FeedParams := {}
  /-- Active and shadow words c_ij by 16m + 4i + j (R552). -/
  active : Sparse Int := []
  shadow : Sparse Int := []
  energy : FeedEnergy := {}
  /-- Validity of the feed temperature (R515, R516, R539). -/
  tValid : Bool := false
  goodRun : Nat := 0
  prevGood : Option Int := none
  fluxFault : Bool := false
  /-- No energy is accumulated before this instant (16_metrology.md, the mode of a feed changes). -/
  runFrom : Nat := 0
  /-- The 1 ms window: sum of p_k, intervals, flags (R543, R547); last interval's I, V, quadrature result. -/
  winP : Int := 0
  winN : Nat := 0
  creep : Bool := false
  overRange : Bool := false
  lastI : Int := 0
  lastV : Int := 0
  quad : Int := 0
  deriving DecidableEq, Repr

/-- A record of the audit log (R555). -/
structure AuditRec where
  index : Nat
  opS : Nat
  kind : Nat
  feed : Nat
  item : Nat
  old : Nat
  new : Nat
  sealCount : Nat
  eFwd : Nat
  deriving DecidableEq, Repr

/-- A checkpoint (R557): periodic, or written because the supply fell or ISL_POR_N went low. -/
structure Checkpoint where
  periodic : Bool
  feeds : Sparse FeedEnergy
  deriving DecidableEq, Repr

/-- A publication (R565): its number, the 16 words of each feed block, and the 16 words of the island block. -/
structure Publication where
  seq : Nat
  feeds : List (List Nat)
  island : List Nat
  deriving DecidableEq, Repr

/-- A STREAM that runs (R563): its period and when its last frame was sent. -/
structure Stream where
  period : Nat
  sentAt : Nat
  deriving DecidableEq, Repr

/-- The metrology island: it is in reset until ISL_POR_N is first released. -/
structure Island where
  inReset : Bool := true
  /-- VDD_ISL is below 3.0 V (R558). -/
  low : Bool := false
  /-- When the reset was last released; operating seconds before that (R555, R557). -/
  from_ : Nat := 0
  opS : Nat := 0
  clockFault : Bool := false
  nvmFault : Bool := false
  /-- Debounced SEAL_EN (R549). -/
  sealEn : Bool := false
  sealCount : Nat := 0
  /-- Audit log, newest first (R555). -/
  log : List AuditRec := []
  powerups : Nat := 0
  unsaved : Nat := 0
  uartBad : Nat := 0
  /-- Die reading t, Q1.23 (R512). -/
  die : Int := 0
  /-- When the die was last converted; the island's converters (R500): 3 × feed + 0 current, 1 voltage, 2 temperature; 24 the
  die sensor. -/
  dieAt : Option Nat := none
  convs : Sparse Conv := []
  feeds : Sparse Feed := []
  /-- Checkpoints, newest first, at most 64; when the last periodic one was written. -/
  ckpts : List Checkpoint := []
  ckptAt : Nat := 0
  streams : Sparse Stream := []
  /-- Test pulse (R564): enabled, feed, reverse, constant; when the pulse in progress rose; pulses queued. -/
  tpOn : Bool := false
  tpFeed : Nat := 0
  tpRev : Bool := false
  tpConst : Nat := 0
  tpAt : Option Nat := none
  tpQueue : Nat := 0
  /-- Latest publication. -/
  pub : Option Publication := none
  deriving DecidableEq, Repr

/-- The chip side's mailbox (R565, R566): the latest publication and when it came, the one that is latched. -/
structure Mailbox where
  latest : Option Publication := none
  at_ : Nat := 0
  latched : Option Publication := none
  deriving DecidableEq, Repr

/-! ### Watchdog channels (18_watchdog.md) -/

/-- A watchdog channel, beside its stored configuration and its evidence. -/
structure Wd where
  running : Bool := false
  /-- Always-on tick at which `elapsed` was 0; while debug-held `elapsed` stands at this value (R602, R617). -/
  since : Nat := 0
  heldAt : Option Nat := none
  first : Bool := false
  /-- Good services modulo 16 and the challenge (R605). -/
  n : Nat := 0
  chal : Nat := 0
  /-- Key, once written (R607). -/
  key : Option Nat := none
  /-- Period, window and server in use (R603). -/
  period : Nat := 16384
  window : Nat := 2
  kernel : Bool := false
  /-- The window of this period has been announced (R625), its wake latched (R622). -/
  announced : Bool := false
  wakeReq : Bool := false
  /-- Last good service, or the start: always-on tick and site time (R612, R619). -/
  goodTick : Nat := 0
  goodNs : Nat := 0
  deriving DecidableEq, Repr

/-! ### Pairs and stacks (21_pairs_stacks.md) -/

/-- One Epkuone lane, beside its EK_LANE and EK_DELAY registers. Instants are block time. -/
structure EkLane where
  /-- It entered its state, or made progress in it; the last frame arrived; a refused grant was last asked for. -/
  since : Nat := 0
  heard : Nat := 0
  askedAt : Nat := 0
  peerUid : Nat := 0
  /-- MARKERs sent, by `seq`, newest first; the last round trips, 2⁻³ ns (R725). -/
  sent : List (Nat × Nat) := []
  trips : List Nat := []
  /-- Last MARKER received on the lane: its `seq` and arrival. -/
  lastSeq : Nat := 0
  lastAt : Nat := 0
  deriving DecidableEq, Repr

/-- What a device keeps of a plate's pair activity (R698-R721). -/
structure PairPlate where
  /-- What the partner last reported. -/
  partner : Option RoleEntry := none
  /-- Activity stamp, site time ns, and whether the plate has been ACTIVE since its last reset (R700). -/
  stamp : Nat := 0
  wasActive : Bool := false
  /-- A takeover waits for the next frame tick: its cause (R716); a demotion waits for it (R701). -/
  takeCause : Option Nat := none
  demote : Bool := false
  /-- Number of the last proof or impression sent, of the last one acknowledged, and of those sent since (R708, R709). -/
  number : Nat := 0
  acked : Nat := 0
  unacked : Nat := 0
  /-- Number and channels of the impression under way; channels that acknowledged or unacknowledged proofs carried. -/
  impression : Option Nat := none
  carried : List (Nat × List Nat) := []
  /-- Words carried by each channel at the last acknowledged proof (R708), and in the proofs sent since. -/
  ackedWords : List (Nat × Nat) := []
  sentWords : List (Nat × List (Nat × Nat)) := []
  /-- A refused impression burst was last asked for (R706). -/
  askedAt : Nat := 0
  /-- Switchover: requested; the handover proof has been sent with this number (R719). -/
  switch : Bool := false
  handover : Option Nat := none
  /-- Standby: highest number applied, whether it holds the state of an impression, a handover frame has come. -/
  applied : Nat := 0
  hasState : Bool := false
  handoverDue : Bool := false
  /-- Proofs that came while an impression is on its way (R707). -/
  waiting : List (Nat × List MirrorChan) := []
  /-- Numbers above `applied` whose proofs did not arrive whole, and are counted (R709). -/
  broken : List Nat := []
  /-- First sample of a moving role in a row (R720). -/
  agreeSince : Option Nat := none
  deriving DecidableEq, Repr

/-- What the standby holds for a channel beside the mirrored registers and activity (R334, R711). -/
structure MirrorInfo where
  /-- Instants of P and of `next_ts`, local time in 2⁻¹⁶ ns; when the last proof that carried the channel was applied. -/
  posAt : Int := 0
  nextAt : Int := 0
  at_ : Nat := 0
  /-- Numbers of the proofs of which each echo quarter came (R267). -/
  quarters : List (Option Nat) := [none, none, none, none]
  mirroredPhase : Nat := 0
  deriving DecidableEq, Repr

/-- Device-wide pair and stack activity. -/
structure Epk where
  /-- Next `seq` of each frame type (R689). -/
  seqs : Sparse Nat := []
  /-- Last frame from each node (R695). -/
  heard : Sparse Nat := []
  /-- The pair partner, kept while its frames arrive (R696). -/
  partnerUid : Option Nat := none
  partnerHeard : Nat := 0
  /-- Device charges reported to this master (R728). -/
  reports : Sparse Nat := []
  /-- A lease is in force (R729). -/
  leased : Bool := false
  /-- When the agent was last reset: it drains for at most 20 µs (R734, R594). -/
  drainFrom : Option Nat := none
  /-- What each node's markers last said of its timebase: state and selected source (R724, R726). -/
  clocks : Sparse (Nat × Nat) := []
  /-- Source 4: phase errors of consecutive markers from the origin, and the last one's arrival (R726). -/
  errors : List Int := []
  markerAt : Nat := 0
  deriving DecidableEq, Repr

/-! ### The state -/

structure State where
  /-- Commands that wait, first in, first out. -/
  pending : List Instr
  /-- Nanoseconds the block has lived (log entry 1): the count of the reference tree, which clocks the plates (log entry 113). -/
  now : Nat
  /-- Draw counter of the free values (log entry 7); the model's own field. -/
  draws : Nat
  /-- What the block has emitted, newest first. -/
  out : List Output
  /-- Every register field that does not hold its reset value, by `fieldKey`. -/
  regs : Sparse Nat
  pf : PfCfg
  /-- VF configuration spaces by VF number. -/
  vfs : Sparse VfCfg
  /-- MSI-X tables and PBAs: key 64 × function + vector. -/
  msix : Sparse MsixEntry
  /-- Functions and the errors they logged, newest first (R115). -/
  aer : List (Nat × AerError)
  /-- AER registers by function (R84, R91, R115). -/
  aers : Sparse Aer
  /-- FLRs in progress by function (R108). -/
  flrs : Sparse Flr
  /-- HI words captured by the LO read of the register pairs of R122: HP_FROZEN, HP_NOTE, HP_FLR. -/
  pairHi : Sparse Nat
  /-- HP_NOTE by tenant bit (R122, R126). -/
  notes : Nat
  /-- Instant each held sheet lock was acquired, by sheet base (R66). -/
  lockSince : Sparse Nat
  /-- Instant of the first sample in a row of a traced sheet that agreed by R69, by sheet base: STARTING ones under the base,
  STOPPING ones under the base plus 1. -/
  agreeSince : Sparse Nat
  /-- Shadow of the 48-bit counters, by PF BAR0 address of the low word (R11). -/
  shadow48 : Sparse Nat
  /-- 48-bit counters of the counter sets, by PF BAR0 address of the low word (R11, R406). -/
  cnt48 : Sparse Nat
  /-- Masters that are frozen, ascending (R577). -/
  frozen : List Nat
  /-- Current record of each master, and the history by entry (R582). -/
  frzCur : Sparse FrzRec
  frzHist : Sparse FrzRec
  frzSeq : Nat
  /-- Captured record of FZ_REC0, and the captured history entries (R584). -/
  frzCap : FrzRec
  frzHistCap : Sparse FrzRec
  /-- Always-on tick at which the PF was frozen (R588). -/
  pfFrozenTick : Nat
  pins : Pins
  chip : Chip
  plates : Sparse PlateInt
  /-- Lines of the plate stores that hold no valid code word, by 2²¹ × plate + line: the bits of 36 data and 8 check bits that
  differ from what was written (R182). -/
  storeErrs : Sparse Nat
  /-- Gravers by 4 × plate + graver. -/
  gravers : Sparse Graver
  /-- Rings by tenant number; the slot that the plate's round robin served last, by plate (R193). -/
  dmaTens : Sparse DmaTen
  dmaLast : Sparse Nat
  fusesBlown : Fuses
  fuses : Fuses
  life : Lifecycle
  tap : Tap
  tb : Timebase
  /-- Channels by global number. -/
  chans : Sparse Chan
  /-- Vector 2 of each tenant (R236): 1 sent in this frame, 2 sent and another due at the next tick. -/
  vec2 : Sparse Nat
  /-- Requests to the power arbiter, in order of arrival (R660). -/
  arb : List GrantReq
  /-- Lane grants of the ports in units, by plate; of the Epkuone lanes, as a bit mask; impression bursts by plate
  (R654). -/
  laneGrants : Sparse Nat
  epkGrants : Nat
  imprGrants : Sparse Nat
  /-- Quiet requests of the plates: instant each reached its plate (R663, R664). -/
  quietReqs : Sparse Nat
  wakes : Sparse Wake
  quiet : Quiet
  siteIns : Sparse SiteIn
  /-- Echo activity by global channel number. -/
  echos : Sparse Echo
  /-- Instant at which a plate's channels that wait for fast entry are tried again (R248). -/
  fastRetry : Sparse Nat
  /-- Media activity by global channel number. -/
  medias : Sparse Media
  /-- Jitter activity by global channel number. -/
  jitters : Sparse Jitter
  /-- The samples of each open channel's signal path (R326, R277, R242). -/
  sigs : Sparse Sig
  /-- Queues by 1,024 × plate + queue, head first (R341, R355). -/
  queues : Sparse (List Entry)
  ports : Sparse Port
  hatches : Sparse Hatch
  /-- Hatch table words by 8,192 × plate + 4,096 × bank + entry (R413). -/
  hatchMem : Sparse Nat
  /-- Shaper levels by 8 × plate + shaper, units of 2⁻⁸ byte, and the rates that are in effect (R425, R426). -/
  shapers : Sparse Int
  shRates : Sparse Nat
  /-- TDM highways by plate. -/
  highways : Sparse Highway
  /-- Plate timekeepers by plate. -/
  tks : Sparse Timekeeper
  hold : HoldModel
  /-- Thermistor channels TH0 and TH1; when the front end's start or fault began (R520, R521). -/
  therms : Sparse Therm
  feAt : Nat
  /-- The timebase half's converters (R500): 0 TH0, 1 TH1, 2 the die sensor. -/
  convs : Sparse Conv
  /-- Captures of PT_TIME_NS by plate (R499). -/
  ptCaps : Sparse Capture
  island : Island
  mailbox : Mailbox
  /-- Watchdog channels by number. -/
  wds : Sparse Wd
  /-- Epkuone lanes, pair activity by plate, mirrored channels by global number, and the device's own. -/
  ekLanes : Sparse EkLane
  pairs : Sparse PairPlate
  mirrors : Sparse MirrorInfo
  epk : Epk
  deriving DecidableEq, Repr

/-- The machine in power-on reset, before POR_N first rises: every register field at its reset value, nothing waiting,
nothing emitted. Values no rule gives are DESIGN CHOICES of log entries 3 to 6. -/
def State.reset : State where
  pending := []
  now := 0
  draws := 0
  out := []
  regs := []
  pf := {}
  vfs := []
  msix := []
  aer := []
  aers := []
  flrs := []
  pairHi := []
  notes := 0
  lockSince := []
  agreeSince := []
  shadow48 := []
  cnt48 := []
  frozen := []
  frzCur := []
  frzHist := []
  frzSeq := 0
  frzCap := {}
  frzHistCap := []
  pfFrozenTick := 0
  pins := {}
  chip := {}
  plates := []
  storeErrs := []
  gravers := []
  dmaTens := []
  dmaLast := []
  fusesBlown := {}
  fuses := {}
  life := {}
  tap := {}
  tb := {}
  chans := []
  vec2 := []
  arb := []
  laneGrants := []
  epkGrants := 0
  imprGrants := []
  quietReqs := []
  wakes := []
  quiet := {}
  siteIns := []
  echos := []
  fastRetry := []
  medias := []
  jitters := []
  sigs := []
  queues := []
  ports := []
  hatches := []
  hatchMem := []
  shapers := []
  shRates := []
  highways := []
  tks := []
  hold := {}
  therms := []
  convs := []
  feAt := 0
  ptCaps := []
  island := {}
  mailbox := {}
  wds := []
  ekLanes := []
  pairs := []
  mirrors := []
  epk := {}

end Sys2Proof.Machine
end

