-- ==== Sys2Proof/Machine/Store.lean ====
section
/-! DEFINITION. Reading and writing the register store, drawing free values, emitting outputs, and the times derived
from the block's clock. -/

namespace Sys2Proof.Machine

/-- The stored value of a field (its reset value where the store lists nothing). -/
def State.rd (s : State) (b : Nat) (r : Row) (i : Nat := 0) : Nat := Sparse.get r.reset s.regs (fieldKey b r i)

/-- The two's-complement reading of a field. -/
def State.rdS (s : State) (b : Nat) (r : Row) (i : Nat := 0) : Int := toSigned r.width (s.rd b r i)

/-- Is a one-bit field 1? -/
def State.isSet (s : State) (b : Nat) (r : Row) (i : Nat := 0) : Bool := s.rd b r i == 1

/-- `s` with a field stored, taken modulo its width. -/
def State.wr (s : State) (b : Nat) (r : Row) (v : Nat) (i : Nat := 0) : State :=
  { s with regs := Sparse.put r.reset s.regs (fieldKey b r i) (v % 2 ^ r.width) }

/-- `s` with a two's-complement value stored in a field. -/
def State.wrS (s : State) (b : Nat) (r : Row) (v : Int) (i : Nat := 0) : State := s.wr b r (ofSigned r.width v) i

/-- `s` with a truth value stored in a one-bit field. -/
def State.wrB (s : State) (b : Nat) (r : Row) (v : Bool) (i : Nat := 0) : State := s.wr b r (b2n v) i

/-- The counters that the older rule of `COMPAT.offered` bit [5] makes wrap: HP_CNT_A to HP_CNT_C (R118),
CR_HOST_RESETS (R166), PS_CORR (R201), QM_POOL_DROP and QM_TEN_DROP (R363), by sheet and offset. -/
def olderCounter (k : SheetKind) (off : Nat) : Bool :=
  match k with
  | .hp => 0x50 ≤ off && off ≤ 0x58
  | .cr => off == 0x5C
  | .ps => off == 0x48
  | .qmgr => off == 0x48 || (0x90 ≤ off && off < 0xB0)
  | _ => false

/-- Does the counter at offset `off` of the sheet at `b` count by the older rule (R78, R80)? -/
def State.wraps (s : State) (b off : Nat) : Bool :=
  match sheetAt b with
  | some (k, _) => olderCounter k off && s.isSet b Title.compatPrev
  | none => false

/-- `s` with a counter field advanced by `n`: it saturates, or wraps under the older rule (R78 bit [5]). -/
def State.bump (s : State) (b : Nat) (r : Row) (i : Nat := 0) (n : Nat := 1) : State :=
  s.wr b r (if s.wraps b r.off then s.rd b r i + n else satAdd (2 ^ r.width - 1) (s.rd b r i) n) i

/-- `s` with a counter that always saturates advanced by `n`. -/
def State.bumpSat (s : State) (b : Nat) (r : Row) (i : Nat := 0) (n : Nat := 1) : State :=
  s.wr b r (satAdd (2 ^ r.width - 1) (s.rd b r i) n) i

/-- Is an output a TLP? -/
def Output.isTlp : Output → Bool
  | .msix _ _ | .readData _ _ | .unsupported _ | .cfgData _ _ | .cfgRetry _ | .errMsg _ _ | .dmaWrite _ _ _ _ | .dmaRead _ _ _
  | .dmaStatus _ _ _ _ | .dmaCons _ _ _ => true
  | .digest | .flash _ _ _ _ _ | .tdo _ | .frame _ _ _ | .pause _ _ | .tdm _ _ _ _ | .uart _ | .epk _ _ => false

/-- R84: a TLP goes out with an ECRC digest while the PF's ECRC Generation Enable is set. -/
def State.outBefore (s : State) (o : Output) : List Output :=
  if o.isTlp && (Sparse.get {} s.aers 0).ecrcGen then .digest :: s.out else s.out

/-- `s` with an output emitted. -/
def State.emit (s : State) (o : Output) : State := { s with out := o :: s.outBefore o }

/-- The next free number, and `s` with it drawn. -/
def State.drawNat (s : State) : Nat × State := (Config.freeNat s.draws, { s with draws := s.draws + 1 })

/-- The next free truth value, and `s` with it drawn. -/
def State.drawBool (s : State) : Bool × State := (Config.freeBool s.draws, { s with draws := s.draws + 1 })

/-- n / d, `d` positive, rounded down or up as a free value decides, where the spec gives no rounding (log entry 7). -/
def State.drawRound (s : State) (n d : Int) : Int × State :=
  if n % d = 0 then (n / d, s)
  else (n / d + (if s.drawBool.1 then 1 else 0), s.drawBool.2)

/-- Nanoseconds in a millisecond. -/
def msNs : Nat := 1000000
/-- Nanoseconds in a second. -/
def secNs : Nat := 1000000000

/-- The always-on millisecond tick count since power-on (R598, counted at its nominal length, log entry 1). -/
def State.aonTick (s : State) : Nat := (s.now - s.chip.aonFrom) / msNs

/-- The plate's internal reset and start activity. -/
def State.plate (s : State) (p : Nat) : PlateInt := Sparse.get {} s.plates p
def State.setPlate (s : State) (p : Nat) (v : PlateInt) : State := { s with plates := Sparse.put {} s.plates p v }
/-- Graver `g` of plate `p`. -/
def State.graver (s : State) (p g : Nat) : Graver := Sparse.get {} s.gravers (4 * p + g)
def State.setGraver (s : State) (p g : Nat) (v : Graver) : State :=
  { s with gravers := Sparse.put {} s.gravers (4 * p + g) v }
/-- The ring of tenant `t`. -/
def State.ring (s : State) (t : Nat) : DmaTen := Sparse.get {} s.dmaTens t
def State.setRing (s : State) (t : Nat) (v : DmaTen) : State := { s with dmaTens := Sparse.put {} s.dmaTens t v }
/-- Configuration space of VF `n`. -/
def State.vf (s : State) (n : Nat) : VfCfg := Sparse.get {} s.vfs n
/-- MSI-X entry `vec` of function `fn`. -/
def State.vector (s : State) (fn vec : Nat) : MsixEntry := Sparse.get {} s.msix (64 * fn + vec)
def State.setVector (s : State) (fn vec : Nat) (e : MsixEntry) : State :=
  { s with msix := Sparse.put {} s.msix (64 * fn + vec) e }

/-! ### What the sensed fuses give (R640) -/

/-- The plate enable mask. -/
def Fuses.platesPresent (f : Fuses) : Nat := 0xFF - f.plateDis % 256
/-- Highest VF number offered. -/
def Fuses.vfLimit (f : Fuses) : Nat := if f.vfCapLock then f.vfCap else 64
/-- Fused ceiling; 1,600 while unprogrammed. -/
def Fuses.ceiling (f : Fuses) : Nat := if f.ceilLock then f.ceil else 1600

/-- Is plate `p` enabled by fuse (R29)? -/
def State.plateEnabled (s : State) (p : Nat) : Bool := bitAt s.fuses.platesPresent p
/-- Debug halts and the disable bit are honoured in MAKER, OPEN and RETURNED (R628). -/
def State.debugState (s : State) : Bool := s.fuses.lc != 2

/-- Is VF `n` live (R92)? -/
def State.vfLive (s : State) (n : Nat) : Bool :=
  s.pf.vfEnable && n != 0 && decide (n ≤ s.pf.numVfs) && s.plateEnabled ((n - 1) / 8)

/-- Is master `m` frozen? -/
def State.isFrozen (s : State) (m : Nat) : Bool := s.frozen.contains m

/-- Is the FLR of function `fn` in progress (R108)? -/
def State.flrBusy (s : State) (fn : Nat) : Bool := (Sparse.find? s.flrs fn).isSome

/-- Does plate `p` answer accesses itself: powered and out of reset (R41), or waking from QUIET with its state retained
(R42)? -/
def State.plateOut (s : State) (p : Nat) : Bool := (s.plate p).stage == .out || (s.plate p).fromQuiet

end Sys2Proof.Machine
end

