-- ==== Sys2Proof/Machine/Aer.lean ====
section
/-! DEFINITION. Advanced error reporting (R115): which bit an error has, how it is logged in a function's AER registers and what
message it sends. Where R115 says 'per the specification' the rules are those of PCI Express (log entry 12). -/

namespace Sys2Proof.Machine

/-- Bit of an error in the Uncorrectable, or the Correctable, Error Status register. -/
def AerError.bit : AerError → Nat
  | .protocol => 4 | .poisoned => 12 | .flowControl => 13 | .completionTimeout => 14 | .unexpectedCompletion => 16
  | .overflow => 17 | .malformed => 18 | .ecrc => 19 | .unsupportedRequest => 20 | .internal => 22
  | .receiver => 0 | .badTlp => 6 | .badDllp => 7 | .replayRollover => 8 | .replayTimer => 12

/-- R115: the class column of the table. -/
def AerError.correctable : AerError → Bool
  | .receiver | .badTlp | .badDllp | .replayTimer | .replayRollover => true
  | .protocol | .poisoned | .flowControl | .completionTimeout | .unexpectedCompletion | .overflow | .malformed | .ecrc
  | .unsupportedRequest | .internal => false

/-- The Advisory Non-Fatal bit of the Correctable Error Status register. -/
def advisoryBit : Nat := 13

/-- AER registers of function `fn`. -/
def State.aerOf (s : State) (fn : Nat) : Aer := Sparse.get {} s.aers fn
def State.setAer (s : State) (fn : Nat) (a : Aer) : State := { s with aers := Sparse.put {} s.aers fn a }

/-- A field of the PF's configuration space that is only stored. -/
def State.pfWord (s : State) (off : Nat) : Nat := Sparse.get 0 s.pf.words off

/-- An error message of severity `sev` (0 correctable, 1 non-fatal, 2 fatal) leaves if the PF's Device Control enables it, or
for an uncorrectable error SERR# Enable of its Command register; an Unsupported Request needs its own enable too. -/
def State.sendErr (s : State) (fn : Nat) (e : AerError) (sev : Nat) : State :=
  let ctl := s.pfWord 0x68
  if (bitAt ctl sev && (e != .unsupportedRequest || bitAt ctl 3)) || (sev != 0 && bitAt (s.pfWord 0x04) 8) then
    s.emit (.errMsg fn sev)
  else s

/-- The uncorrectable status bit is set; the first unmasked error leaves its pointer and its TLP header, a free value. -/
def State.logUnc (s : State) (fn : Nat) (e : AerError) : State :=
  let a := s.aerOf fn
  if bitAt (s.aerOf 0).uncMask e.bit || bitAt a.unc a.first then s.setAer fn { a with unc := setBit a.unc e.bit true }
  else s.drawNat.2.setAer fn { a with unc := setBit a.unc e.bit true, first := e.bit, header := s.drawNat.1 % 2 ^ 128 }

/-- The Device Status bit of severity `sev`, and that of an Unsupported Request. -/
def State.noteDevSta (s : State) (fn : Nat) (e : AerError) (sev : Nat) : State :=
  let a := s.aerOf fn
  let d := setBit a.devSta sev true
  s.setAer fn { a with devSta := if e = .unsupportedRequest then setBit d 3 true else d }

/-- An error is logged in one function's registers. `advisory`: it is of a kind that PCI Express reports as an Advisory Non-Fatal
Error while its severity is non-fatal (R115). -/
def State.reportErr (s : State) (fn : Nat) (e : AerError) (advisory : Bool) : State :=
  let m := s.aerOf 0
  if e.correctable then
    let t := s.noteDevSta fn e 0
    let u := t.setAer fn { t.aerOf fn with cor := setBit (t.aerOf fn).cor e.bit true }
    if bitAt m.corMask e.bit then u else u.sendErr fn e 0
  else if advisory && !bitAt m.uncSev e.bit then
    let t := s.noteDevSta fn e 0
    let u := t.setAer fn { t.aerOf fn with cor := setBit (t.aerOf fn).cor advisoryBit true }
    if bitAt m.corMask advisoryBit then u else (u.logUnc fn e).sendErr fn e 0
  else
    let sev := if bitAt m.uncSev e.bit then 2 else 1
    let t := (s.noteDevSta fn e sev).logUnc fn e
    if bitAt m.uncMask e.bit then t else t.sendErr fn e sev

/-- Does the function answer configuration requests: the PF, or a VF that VF Enable and NumVFs give (R93)? -/
def State.fnExists (s : State) (fn : Nat) : Bool := fn == 0 || (s.pf.vfEnable && decide (fn ≤ s.pf.numVfs))

/-- R115: the PF logs every error; a VF that VF Enable and NumVFs give logs those addressed to it or issued for it. An Unexpected
Completion, and an Unsupported Request that is answered (`np`), are advisory. -/
def State.logAer (s : State) (fn : Nat) (e : AerError) (np : Bool := false) : State :=
  let adv := np || e == .unexpectedCompletion
  let vf := fn != 0 && s.fnExists fn
  let t := { s with aer := if vf then (fn, e) :: (0, e) :: s.aer else (0, e) :: s.aer }.reportErr 0 e adv
  if vf then t.reportErr fn e adv else t

end Sys2Proof.Machine
end

