-- ==== Sys2Proof/Machine/Flags.lean ====
section
/-! DEFINITION. Events and interrupts: the EVENT bits a sheet defines, how a bit becomes pending (R52) and how a
vector's message is sent or held back (R112-R114). -/

namespace Sys2Proof.Machine

/-- The block_events bits each sheet defines; the others are reserved. -/
def SheetKind.blockEvents : SheetKind → Nat
  | .site => 1 | .dir => 0 | .hp => 0x1FF | .cr => 0x3F | .lc => 7 | .tb => 0x1FF | .hm => 0 | .fe => 0xF | .pa => 0xF
  | .qm => 0xF | .fz => 7 | .ek => 0x1FF | .si => 0xFFFFFF | .wd => 7 | .mb => 0x1F
  | .plate => 3 | .gc => 1 | .ps => 3 | .qmgr => 7 | .dma => 7 | .mac => 0xFF | .hs => 0xF | .sh => 0 | .th => 0x3F
  | .pt => 0xF | .ten => 0xF | .cnt => 1

/-- The EVENT bits a sheet implements (R48, R50). -/
def SheetKind.eventBits (k : SheetKind) : Nat :=
  k.blockEvents + (if k.lockable then 2 ^ 30 else 0) + (if k.traced then 2 ^ 31 else 0)

/-- Position of `EVENT.lock_broken` and of `EVENT.trace_mismatch`. -/
def evLockBroken : Nat := 30
def evTraceMismatch : Nat := 31

/-- May function `fn` send messages: MSI-X Enable and Bus Master Enable 1, no FLR of it in progress, the PF not in D3hot, a VF
live (R93, R108, R111, R114)? -/
def State.msixAllowed (s : State) (fn : Nat) : Bool :=
  !s.flrBusy fn &&
  if fn = 0 then s.pf.msixEn && s.pf.bme && !s.pf.d3hot
  else s.vfLive fn && (s.vf fn).msixEn && (s.vf fn).bme

/-- Is the vector masked, by its entry or by the function? -/
def State.vecMasked (s : State) (fn vec : Nat) : Bool :=
  (s.vector fn vec).masked || (if fn = 0 then s.pf.msixMask else (s.vf fn).msixMask)

/-- R114: the message is sent, or held back in the PBA while its vector is masked. It is held back in the same way while the
function may not send at all (log entry 29), as R109 says of the message of `flr_done`; a VF that is not live asserts none (R93). -/
def State.sendMsix (s : State) (fn vec : Nat) : State :=
  if fn != 0 && !s.vfLive fn then s
  else if !s.msixAllowed fn || s.vecMasked fn vec then s.setVector fn vec { s.vector fn vec with pba := true }
  else s.emit (.msix fn vec)

/-- R52: the sheet at `b` asserts its interrupt once. -/
def State.assertIrq (s : State) (b : Nat) : State :=
  match sheetAt b with
  | some (k, i) => s.sendMsix (k.vector i).1 (k.vector i).2
  | none => s

/-- R52: `EVENT` bit `i` of the sheet at `b` is set; it asserts the interrupt if it becomes pending by that. -/
def State.raise (s : State) (b i : Nat) : State :=
  if bitAt (s.rd b Title.event) i then s
  else
    let t := s.wr b Title.event (s.rd b Title.event + 2 ^ i)
    if bitAt (s.rd b Title.eventEn) i then t.assertIrq b else t

/-- R52: each bit that is set and whose enable goes from 0 to 1 asserts the interrupt once. -/
def State.enableEvents (s : State) (b v : Nat) : State :=
  let old := s.rd b Title.eventEn
  let ev := s.rd b Title.event
  forUpTo 32 (fun i t => if bitAt v i && !bitAt old i && bitAt ev i then t.assertIrq b else t)
    (s.wr b Title.eventEn v)

/-- W1C on EVENT: each 1 clears its bit (R10). -/
def State.clearEvents (s : State) (b v : Nat) : State :=
  s.wr b Title.event (s.rd b Title.event - (s.rd b Title.event &&& v))

end Sys2Proof.Machine
end

