-- ==== Sys2Proof/Machine/Ops.lean ====
section
/-! DEFINITION. The shared operations of every block: what `STATE.op` reads (R49), sheet locks (R57-R67), violations,
freezing and records (R575-R589), and the trace check (R68-R77). -/

namespace Sys2Proof.Machine

/-! ### `STATE` as a view -/

/-- The plate's data-path state: RESET while powered down or in reset (R41, R163), otherwise the stored code (R788). -/
def State.plateOp (s : State) (p : Nat) : Nat := if s.plateOut p then s.rd (plB p) Title.stateOp else opReset

/-- Does the trace check hold the sheet at `b`? -/
def State.heldAt (s : State) (b : Nat) : Bool := s.isSet b Title.held

/-- The plate is operating, whether or not its sheet is held. -/
def State.plateRunning (s : State) (p : Nat) : Bool := s.plateOp p == opRunning

/-- Is graver `g` of plate `p` halted for debug: through DEBUG or through GC_DEBUG (R200, R649)? -/
def State.graverHalted (s : State) (p g : Nat) : Bool := (s.graver p g).haltTap || bitAt (s.rd (gcB p) Reg.gcDebugHalt) g

/-- Are the gravers of plate `p` released (R196): the plate is RUNNING or STOPPING? -/
def State.graversReleased (s : State) (p : Nat) : Bool := s.plateOp p == opRunning || s.plateOp p == opStopping

/-- Does graver `g` of plate `p` execute? -/
def State.graverRuns (s : State) (p g : Nat) : Bool :=
  s.graversReleased p && !s.isFrozen (masterGraver p g) && !s.graverHalted p g && !(s.graver p g).resume

/-- Is any graver of plate `p` frozen? -/
def State.anyGraverFrozen (s : State) (p : Nat) : Bool :=
  s.isFrozen (masterGraver p 0) || s.isFrozen (masterGraver p 1) || s.isFrozen (masterGraver p 2)
    || s.isFrozen (masterGraver p 3)

/-- The plate's data-path state as R788 has other sheets report it: what the plate sheet's own hold captured, while it is held. -/
def State.plateShown (s : State) (p : Nat) : Nat := if s.heldAt (plB p) then s.rd (plB p) Title.seenOp else s.plateOp p

/-- The data-path state of the plate DMA, ignoring freezes and holds of its own (R206): RUNNING on a plate that is RUNNING or HELD. -/
def State.dmaPathOp (s : State) (p : Nat) : Nat :=
  if s.plateOp p = opQuiet then opQuiet
  else if s.rd (dmaB p) Title.hostOp = opRunning ∧ (s.plateRunning p ∨ s.heldAt (plB p)) then opRunning else opOff

/-- R495: what the timekeeper of plate `p` reports: it runs while its plate is STARTING, RUNNING or HELD. -/
def State.tkOp (s : State) (p : Nat) : Nat :=
  let op := s.plateOp p
  if op = opQuiet then opQuiet else if op = opStarting ∨ op = opRunning ∨ s.heldAt (plB p) then opRunning else opOff

/-- R493, R495: its mode: 1 following, 2 on its own clock; the intent's while it does not run (log entry 31). -/
def State.tkMode (s : State) (p : Nat) : Nat :=
  if s.tkOp p = opRunning then (if (Sparse.get {} s.tks p).own then 2 else 1) else s.rd (ptB p) Title.hostMode

/-- What the block behind a sheet reports of its data path, before holds (R49; R788, R206, R123, R596, R651, R411). -/
def State.pathOp (s : State) (k : SheetKind) (inst b : Nat) : Nat :=
  match k with
  | .plate => s.plateOp inst
  | .gc | .ps | .qmgr | .sh => s.plateShown inst
  | .dma => s.dmaPathOp inst
  | .ten => if s.rd b Title.hostOp = opRunning ∧ s.vfLive (inst + 1) then opRunning else opOff
  | .cnt =>
    let m := macB (if inst < 0x80 then inst / 8 else inst - 0x80)
    if s.heldAt m then opHeld else s.rd m Title.stateOp
  | .fz | .lc | .pa => if s.chip.sheetsReady then opRunning else opOff
  | .qm => s.rd b Title.hostOp
  | .pt => s.tkOp inst
  | .wd => if (Sparse.get {} s.wds inst).running then opRunning else opOff
  | .mb => if s.fuses.islOff then opOff else s.rd b Title.stateOp
  | _ => s.rd b Title.stateOp

/-- The plate a window sheet belongs to. -/
def sheetPlate (k : SheetKind) (inst : Nat) : Nat :=
  match k with
  | .ten => inst / 8
  | .cnt => if inst < 0x80 then inst / 8 else inst - 0x80
  | _ => inst

/-- What `STATE.op` reads (R49): RESET, then FROZEN, then HELD, then the data path's own code, in the order the sheet's
chapter gives (R123, R206; the graver cluster puts HELD first, 05_plates.md). A counter set reads what its frame MAC reads, whether
or not its own sheet is held (R411). -/
def State.opOf (s : State) (k : SheetKind) (inst b : Nat) : Nat :=
  if k.inWindow && !s.plateOut (sheetPlate k inst) then opReset
  else match k with
    | .ten =>
      if s.flrBusy (inst + 1) then opReset
      else if s.isFrozen (0x41 + inst) then opFrozen
      else if s.heldAt b then opHeld else s.pathOp k inst b
    | .gc => if s.heldAt b then opHeld else if s.anyGraverFrozen inst then opFrozen else s.pathOp k inst b
    | .dma => if s.isFrozen (masterDma inst) then opFrozen else if s.heldAt b then opHeld else s.pathOp k inst b
    | .cnt => s.pathOp k inst b
    | _ => if s.heldAt b then opHeld else s.pathOp k inst b

/-- The plate sheet's `STATE.op` reads RUNNING or HELD (R69, R609, R699, R702). -/
def State.plateServes (s : State) (p : Nat) : Bool :=
  s.opOf .plate p (plB p) == opRunning || s.opOf .plate p (plB p) == opHeld

/-- What `STATE.mode` reads: 0x00 on the plate, cluster, DMA and tenant sheets (R123, R196, R206). -/
def State.modeOf (s : State) (k : SheetKind) (b : Nat) : Nat :=
  match k with
  | .pt => s.tkMode ((b - winB 0) / 0x400000)
  | .plate | .gc | .dma | .ten | .ps | .qmgr | .sh | .qm => 0
  | _ => s.rd b Title.stateMode

/-- R202: the plate sheet's code changes, which sets `state_change`; the site summary sees the change too (R35). While the sheet is
held its `STATE.op` reads HELD before and after. -/
def State.setPlateOp (s : State) (p op : Nat) : State :=
  if s.rd (plB p) Title.stateOp = op then s
  else if s.heldAt (plB p) then s.wr (plB p) Title.stateOp op
  else ((s.wr (plB p) Title.stateOp op).raise (plB p) 0).raise siteB 0

/-- The block's data path takes operating code `op`. -/
def State.setOp (s : State) (b op : Nat) : State := s.wr b Title.stateOp op

/-- Has boot step 4 passed, so that the tree and the PLLs run (R159)? -/
def State.clocksUp (s : State) : Bool :=
  decide (4 ≤ s.rd crB Reg.crBootStep) && s.chip.power != .por && s.chip.power != .chipReset

/-- R131: the reference tree runs on the internal oscillator, or not at all, so that the SerDes lanes of the ports and of the
Epkuone link are held in electrical idle. -/
def State.serdesIdle (s : State) : Bool := s.rd crB Reg.crRefStatusTreeSrc == 0

/-- R648: do the balls follow the scan cells, so that the ports, highways and site inputs carry no traffic? -/
def State.ballsScanned (s : State) : Bool :=
  match s.tap.instr with
  | .extest | .clamp | .highz => true
  | .idcode | .bypass | .samplePreload | .debug | .makerTest _ => false

/-! ### Locks (R57-R67) -/

/-- The holder of the sheet's lock, 0 if free. -/
def State.lockOwner (s : State) (b : Nat) : Nat := s.rd b Title.lockOwner

/-- Does master `m` hold the sheet's lock? On a sheet without a lock, RWL acts as RW (R50). -/
def State.mayWriteL (s : State) (b m : Nat) : Bool :=
  match sheetAt b with
  | some (k, _) => if k.lockable then s.lockOwner b == m else true
  | none => false

/-- The lock of `b` is given to `m`. -/
def State.acquire (s : State) (b m : Nat) : State :=
  { s.wr b Title.lockOwner m with lockSince := Sparse.ins s.lockSince b s.now }

/-- R630: the LC_REQ sequence is reset with result `sequence`. -/
def State.resetLcSequence (s : State) : State :=
  { s with life := { s.life with seq := {} } }.wr lcB Reg.lcReqStatusResult 3

/-- The lock of `b` is free; losing the life-cycle sheet's lock resets an LC_REQ sequence under way (R630). -/
def State.release (s : State) (b : Nat) : State :=
  let t := { s.wr b Title.lockOwner 0 with lockSince := Sparse.del s.lockSince b }
  if b = lcB ∧ t.life.seq.taken ≠ 0 then t.resetLcSequence else t

/-- R66: milliseconds since acquisition, saturating; 0 if free. -/
def State.heldMs (s : State) (b : Nat) : Nat :=
  if s.lockOwner b = 0 then 0 else min 0xFFFF ((s.now - Sparse.get s.now s.lockSince b) / msNs)

/-- R62: a held lock is broken, and the break recorded. -/
def State.breakLock (s : State) (b : Nat) : State :=
  if s.lockOwner b = 0 then s
  else (((s.release b).wr b Title.lastBroken (s.lockOwner b)).wr b Title.lockBroken 1).raise b evLockBroken

/-- R62: every lock that master `m` holds is broken. -/
def State.breakLocksOf (s : State) (m : Nat) : State :=
  forEach (s.lockSince.map Prod.fst) (fun b t => if t.lockOwner b = m then t.breakLock b else t) s

/-! ### Site time for records -/

/-- Site time in nanoseconds as the timebase clock counts it (R490). -/
def State.siteNs (s : State) : Nat := ((s.now : Int) + s.tb.epoch).toNat
def State.siteSec (s : State) : Nat := s.siteNs / secNs
def State.siteSubNs (s : State) : Nat := s.siteNs % secNs

/-- 2⁻¹⁸ ppb ns in a nanosecond: the unit of `Timebase.drift`. -/
def driftUnit : Int := 2 ^ 18 * 10 ^ 9

/-- The timekeeper of plate `p`. -/
def State.tk (s : State) (p : Nat) : Timekeeper := Sparse.get {} s.tks p
def State.setTk (s : State) (p : Nat) (v : Timekeeper) : State := { s with tks := Sparse.put {} s.tks p v }

/-- R493, R494: the timekeeper's time minus site time, 2⁻³ ns: on its own clock it goes on at its ratio, while site time goes its own
way; slewing back at `rejoin_ppm`, what is left of the offset. -/
def State.tkOffset (s : State) (p : Nat) : Int :=
  let k := s.tk p
  if k.rejoin then
    let gone := 8 * (s.now - k.rejoinFrom) * s.rd (ptB p) Reg.ptCtrlRejoinPpm / 1000000
    if 0 ≤ k.offset then max 0 (k.offset - gone) else min 0 (k.offset + gone)
  else if k.own then k.offset + 8 * (k.ratio * ((s.now - k.ratioFrom : Nat) : Int) - (s.tb.total - k.totalFrom)) / driftUnit
  else k.offset

/-- Plate timekeeper time, ns: site time, or the plate's own while it is on its own clock (R332, R492, R493). -/
def State.tkNs (s : State) (p : Nat) : Nat := ((s.siteNs : Int) + s.tkOffset p / 8).toNat

/-- R493: the timekeeper as it goes on from its present time, at the ratio of the plate clock to the broadcast that the last second
measured. -/
def State.tkCoasting (s : State) (p : Nat) : Timekeeper :=
  { s.tk p with offset := s.tkOffset p, ratio := s.tb.ratio, ratioFrom := s.now, totalFrom := s.tb.total, rejoin := false, adopting := false }

/-! ### Violations and freezing -/

/-- Kind codes of R575. -/
def vAccess : Nat := 1
def vSlot : Nat := 2
def vLockClaim : Nat := 3
def vLockOverrun : Nat := 4
def vWindow : Nat := 5
def vBadQueue : Nat := 6
def vWindowWrite : Nat := 7
def vDecode : Nat := 8
def vInternal : Nat := 9

/-- `m` put in its place in an ascending list. -/
def insertAsc (m : Nat) : List Nat → List Nat
  | [] => [m]
  | x :: r => if m < x then m :: x :: r else if m = x then x :: r else x :: insertAsc m r

/-- R582: the record of a new freeze, in its master's place and in the history. -/
def State.record (s : State) (m kind access : Nat) (plate : Option Nat) (lo hi : Nat) : State :=
  let q := if s.frzSeq = 0xFFFF then 1 else s.frzSeq + 1
  let r : FrzRec := { master := m, kind := kind, access := access, frozen := true, plate := plate,
                      addrLo := lo % 2 ^ 32, addrHi := hi % 2 ^ 32, ns := s.siteSubNs,
                      sec := s.siteSec % 2 ^ 32, seq := q, repeats := 0 }
  { s with frzSeq := q, frzCur := Sparse.ins s.frzCur m r, frzHist := Sparse.ins s.frzHist ((q - 1) % 16) r }

/-- The current record of a master changed in both places it is kept (R582). -/
def State.amendRecord (s : State) (m : Nat) (f : FrzRec → FrzRec) : State :=
  match Sparse.find? s.frzCur m with
  | none => s
  | some r =>
    let h := (r.seq - 1) % 16
    let hist := match Sparse.find? s.frzHist h with
      | some e => if e.seq = r.seq then Sparse.ins s.frzHist h (f e) else s.frzHist
      | none => s.frzHist
    { s with frzCur := Sparse.ins s.frzCur m (f r), frzHist := hist }

/-- R172: an address of code: in the ROM, or in the patch RAM. -/
def codeAddr (n : Nat) : Nat := if n % 2 = 0 then n / 2 % 0x100000 else 0x200000 + n / 2 % 0x40000

/-- R172: graver `v` of plate `p` stops where it is: its PC holds an address that is a free value (log entry 7). -/
def State.holdPc (s : State) (p v : Nat) : State :=
  s.drawNat.2.setGraver p v { s.drawNat.2.graver p v with pc := codeAddr s.drawNat.1 }

/-- What freezing does at once to the master itself (R579, R580): the PF's hold is timed, a VF is told by vector 3, a
graver that ran (`ran`) halts with its PC held (R172). -/
def State.stopMaster (s : State) (m : Nat) (ran : Bool) : State :=
  if m = 1 then { s with pfFrozenTick := s.aonTick }
  else if 0x41 ≤ m ∧ m ≤ 0x80 then s.sendMsix (m - 0x40) 3
  else if 0x90 ≤ m ∧ m ≤ 0xAF ∧ ran then s.holdPc ((m - 0x90) / 4) ((m - 0x90) % 4)
  else s

/-- R577, R579: a violation is recorded and freezes its master; a master that is already frozen commits none (R576). -/
def State.violate (s : State) (m kind access : Nat) (plate : Option Nat) (lo hi : Nat) : State :=
  if s.isFrozen m then s
  else
    let t := (s.record m kind access plate lo hi).breakLocksOf m
    let u := ({ t with frozen := insertAsc m t.frozen }.bumpSat fzB Reg.fzCountsFreezes).raise fzB 0
    u.stopMaster m (s.graverRuns ((m - 0x90) / 4) ((m - 0x90) % 4))

/-- R581: an access of a frozen master is counted in its record. -/
def State.countRepeat (s : State) (m : Nat) : State :=
  s.amendRecord m (fun r => { r with repeats := satAdd 255 r.repeats 1 })

/-- R587, R588: the freeze of `m` ends: record, event, and what the unfreeze does to the master. -/
def State.unfreeze (s : State) (m : Nat) : State :=
  let t := ({ s with frozen := s.frozen.filter (· != m) }.amendRecord m (fun r => { r with frozen := false })).raise fzB 1
  if 0x41 ≤ m ∧ m ≤ 0x80 then
    ((t.bumpSat (tenB (m - 0x41)) Reg.tenFreezeFreezeCount).raise (tenB (m - 0x41)) 3).sendMsix (m - 0x40) 3
  else if 0x90 ≤ m ∧ m ≤ 0xAF then
    -- the graver restarts the frame loop at the next frame tick, and its run of overruns starts again from 0 (R178)
    let g := Sparse.get {} t.gravers (m - 0x90)
    { t with gravers := Sparse.put {} t.gravers (m - 0x90) { g with overruns := 0, resume := true } }
  else t

/-- R583: the offset in its own BAR0 by which function `fn` reaches PF BAR0 address `a`. -/
def fnOffset (fn a : Nat) : Nat :=
  if fn = 0 then a
  else
    let t := fn - 1
    if tenB t ≤ a ∧ a < tenB t + 0x1000 then a - tenB t
    else if tcntB t ≤ a ∧ a < tcntB t + 0x1000 then a - tcntB t + 0x1000
    else if qcB (t / 8) ≤ a ∧ a < qcB (t / 8) + 0x1000 then a - qcB (t / 8) + 0x2000
    else a - chB (t / 8 * 256) + 0x20000

/-- R583: `addr_hi` of an MMIO record: BAR number, byte enables and length in doublewords. -/
def mmioHi (bar be dws : Nat) : Nat := bar + be * 256 + min 255 dws * 65536

/-- A violation by an aligned one-doubleword MMIO write of function `fn` to PF BAR0 address `a`. -/
def State.violateWrite (s : State) (fn kind a : Nat) : State :=
  s.violate (masterOfFn fn) kind 1 (if fn = 0 then plateOfAddr a else some ((fn - 1) / 8)) (fnOffset fn a) (mmioHi 0 0xF 1)

/-! ### Trace check (R68-R77) -/

/-- R202, R35: on a plate sheet a change into or out of HELD sets `state_change`, and the site summary sees it. -/
def State.notePlateHold (s : State) (b : Nat) : State :=
  match sheetAt b with
  | some (.plate, _) => (s.raise b 0).raise siteB 0
  | _ => s

/-- No agreement of R69 is running on the sheet at `b`. -/
def State.clearAgree (s : State) (b : Nat) : State :=
  { s with agreeSince := s.agreeSince.filter (fun e => e.1 != b && e.1 != b + 1) }

/-- R73, R74, R232: the hold ends; an agreement of R69 counts from its first sample after it. -/
def State.endHold (s : State) (b : Nat) : State :=
  let t := (((s.clearAgree b).wr b Title.mismatch 0).wr b Title.held 0).wr b Title.count 0
  if s.heldAt b then t.notePlateHold b else t

/-- R51: the operating code that a written HOST_STATE stores: OFF, RUNNING or QUIET, OFF for any other. -/
def intentOp (data : Nat) : Nat :=
  if bitsOf data 0 4 = opRunning ∨ bitsOf data 0 4 = opQuiet then bitsOf data 0 4 else opOff

/-- R73: the lock holder's write of HOST_STATE: the intent is stored, and a hold ends. An agreement of R69 goes on only if the
write stores the code that stood there. -/
def State.storeIntent (s : State) (b op mode : Nat) : State :=
  let t := if s.heldAt b ∨ s.rd b Title.hostOp ≠ op then s.endHold b else (s.wr b Title.mismatch 0).wr b Title.count 0
  (t.wr b Title.hostOp op).wr b Title.hostMode mode

/-- R69: does a STARTING or STOPPING sample agree with the intent? -/
def movingAgrees (op intent : Nat) : Bool :=
  (op == opStarting && intent == opRunning) || (op == opStopping && (intent == opOff || intent == opQuiet))

/-- R69: the first of a run of agreeing samples. -/
def State.startAgree (s : State) (key : Nat) : State := { s with agreeSince := Sparse.ins s.agreeSince key s.now }

/-- R71: a mismatching sample; the third in a row holds the block. -/
def State.traceMiss (s : State) (b op mode : Nat) : State :=
  let n := s.rd b Title.count + 1
  if n < 3 then s.wr b Title.count n
  else
    let t := ((s.wr b Title.count 3).wr b Title.mismatch 1).wr b Title.held 1
    let u := ((t.wr b Title.seenOp op).wr b Title.wantOp (s.rd b Title.hostOp)).wr b Title.seenMode mode
    (u.raise b evTraceMismatch).notePlateHold b

/-- R68-R71: one sample of a traced sheet; none is taken in the window of a QUIET plate (R667). -/
def State.traceStep (s : State) (k : SheetKind) (inst b : Nat) : State :=
  if !k.traced || s.heldAt b || (k.inWindow && s.plateOp (sheetPlate k inst) == opQuiet) then s
  else
    let op := s.opOf k inst b
    let mode := s.modeOf k b
    let key := if op = opStarting then b else b + 1
    if op = opFrozen ∨ op = opReset then (s.clearAgree b).wr b Title.count 0
    else if movingAgrees op (s.rd b Title.hostOp) then
      match Sparse.find? s.agreeSince key with
      | none => (s.clearAgree b).startAgree key |>.wr b Title.count 0
      | some since => if s.now - since ≤ secNs then s.wr b Title.count 0 else s.traceMiss b op mode
    else if op = s.rd b Title.hostOp ∧ mode = s.rd b Title.hostMode then (s.clearAgree b).wr b Title.count 0
    else (s.clearAgree b).traceMiss b op mode

end Sys2Proof.Machine
end

