-- ==== Sys2Proof/Machine/Operands.lean ====
section
/-! DEFINITION. The operand forms of a register access: which functions reach which address and what happens to the
request on its way (R29, R38, R41, R44, R45, R93, R104, R105, R116, R124, R580), how a written word is taken field by
field (R8, R10, R54, R55, R67, R123), and how the stored fields of a register make up the word that is read (R7). -/

namespace Sys2Proof.Machine

/-- What becomes of an MMIO request before its target sees it. -/
inductive Gate where
  /-- The device is in reset or its link is down: no request arrives. -/
  | unreachable
  /-- Unsupported Request (R105). -/
  | unsupported
  /-- Nothing there that takes it: unassigned (R38), disabled by fuse (R29, R93), powered down or in reset (R41), or
  the read-only queue count array (R44). -/
  | ignored
  /-- The function is frozen (R116, R580). -/
  | frozen
  /-- Dropped because the tenant's intent is OFF (R124). -/
  | dropped
  /-- A VF's write to a descriptor slot its tenant does not own (R45). -/
  | slot
  /-- It reaches PF BAR0 address `a`. -/
  | go (a : Nat)
  deriving DecidableEq, Repr

/-- Can the link carry requests: the device is out of reset and the data link is up? -/
def State.linkUp (s : State) : Bool := s.isSet hpB Reg.hpLinkUp && s.chip.power != .por && s.chip.power != .chipReset

/-- R105: does a memory request of function `fn` find its function answering? -/
def State.fnAnswers (s : State) (fn : Nat) : Bool :=
  if fn = 0 then s.pf.mse && !s.pf.d3hot && !s.flrBusy 0
  else s.pf.vfMse && !s.pf.d3hot && !s.flrBusy fn && s.pf.vfEnable && decide (fn ≤ s.pf.numVfs)

/-- R212, R45: does tenant `t` own the descriptor of global channel `g`? -/
def State.ownsChannel (s : State) (t g : Nat) : Bool :=
  g / 256 == t / 8 && s.isSet (chB g) Reg.chOwnerAssigned && s.rd (chB g) Reg.chOwnerSlot == t % 8

/-- R124, R125: is the tenant to be treated as OFF? -/
def State.tenantOff (s : State) (t : Nat) : Bool :=
  (if s.heldAt (tenB t) then s.rd (tenB t) Title.seenOp else s.rd (tenB t) Title.hostOp) != opRunning

/-- The watchdog channel sheets, which a frozen PF may still write (R580). -/
def isWatchdogAddr (a : Nat) : Bool := 0x10000 ≤ a && a < 0x19000

/-- The plate whose storage lies at `a`: its window, or the descriptors of its channels (R39). -/
def storagePlate (a : Nat) : Option Nat :=
  match regionAt a with
  | .descriptor g _ => some (g / 256)
  | _ => plateOfAddr a

/-- R713: the descriptors of a STANDBY plate, which only the Epkuone agent writes. -/
def State.standbyDescriptor (s : State) (a : Nat) : Bool :=
  match regionAt a with
  | .descriptor g _ => s.rd ekB Reg.ekPlateRole (g / 256) == 2
  | _ => false

/-- What becomes of an aligned BAR0 request of function `fn` whose offset means PF BAR0 address `a` (none: unassigned). -/
def State.gate (s : State) (fn : Nat) (a : Option Nat) (write : Bool) : Gate :=
  if !s.linkUp then .unreachable
  else if !s.fnAnswers fn then .unsupported
  else if fn != 0 && !s.plateEnabled ((fn - 1) / 8) then .ignored
  else if fn != 0 && s.isFrozen (masterOfFn fn) then .frozen
  else match a with
    | none => .ignored
    | some a =>
      if fn = 0 && write && s.isFrozen 1 && !isWatchdogAddr a then .frozen
      else match storagePlate a with
        | some p =>
          if !s.plateEnabled p || !s.plateOut p then .ignored
          else if write && s.standbyDescriptor a then .dropped
          else if fn = 0 then .go a
          else match regionAt a with
            | .descriptor g _ =>
              if s.ownsChannel (fn - 1) g then
                if write && s.tenantOff (fn - 1) then .dropped else .go a
              else if write then .slot else .ignored
            | .queueCount _ _ => if write then .ignored else .go a
            | _ =>
              if write && s.tenantOff (fn - 1) && a != tenB (fn - 1) + 0x18 then .dropped else .go a
        | none => .go a

/-- R43: does function `fn` have a view of PF BAR0 address `a`? -/
def fnReaches (fn a : Nat) : Bool := fn == 0 || vfAddr (fn - 1) (fnOffset fn a) == some a

/-- R105, R115: an Unsupported Request is logged; `completion` says whether one was sent back, which is counted. -/
def State.refuseRequest (s : State) (fn : Nat) (completion : Bool) : State :=
  let t := (s.logAer fn .unsupportedRequest completion).emit (.unsupported fn)
  if completion then t.bump hpB Reg.hpCntCUrSent else t

/-- R581: an access of a frozen function is counted in its record. -/
def State.countAccess (s : State) (fn : Nat) : State :=
  if s.isFrozen (masterOfFn fn) then s.countRepeat (masterOfFn fn) else s

/-- An aligned 32-bit write of function `fn` to the PF BAR0 address `oa` (none: unassigned), whose effect is `f` when it gets
through. -/
def State.writeAt (s : State) (fn : Nat) (oa : Option Nat) (f : State → State) : State :=
  match s.gate fn oa true with
  | .unreachable => s
  | .unsupported => s.refuseRequest fn false
  | .ignored | .dropped | .frozen => s.countAccess fn
  | .slot => match oa with
    | some a => s.violateWrite fn vSlot a
    | none => s
  | .go _ => f (s.countAccess fn)

/-- An aligned 32-bit write of function `fn` to PF BAR0 address `a`; nothing is sent where the function has no view of it. -/
def State.mmioWrite (s : State) (fn a : Nat) (f : State → State) : State :=
  if fnReaches fn a then s.writeAt fn (some a) f else s

/-! ### Taking a written word field by field -/

/-- R123, R213, R345: does the Writer column admit function `fn` for the field at `b`? The owner of a descriptor may
write it through its VF; the PF reaches every descriptor through the mirror (R94, R213). -/
def writerOk (w : Writer) (fn b : Nat) : Bool :=
  match w with
  | .any => true
  | .pf => fn == 0
  | .vf => fn != 0 && b == tenB (fn - 1)
  | .owner => true

/-- The value of one end of a range as stored (R55). -/
def State.boundVal (s : State) (b shift : Nat) : Bound → Int
  | .c n => n
  | .fld off lsb rst => Int.ofNat (Sparse.get rst s.regs ((b + off + shift) * 32 + lsb))
  | .fldSub off lsb rst k => Int.ofNat (Sparse.get rst s.regs ((b + off + shift) * 32 + lsb)) - k
  | .sfld off lsb rst w => toSigned w (Sparse.get rst s.regs ((b + off + shift) * 32 + lsb))

/-- R8: the value a field stores when `v` is written to it. -/
def State.legal (s : State) (b : Nat) (r : Row) (i : Nat) (v : Nat) : Nat :=
  match r.clamp with
  | .any => v
  | .nat lo hi => (clampInt (s.boundVal b (r.stride * i) lo) (s.boundVal b (r.stride * i) hi) v).toNat
  | .int lo hi =>
    ofSigned r.width
      (clampInt (s.boundVal b (r.stride * i) lo) (s.boundVal b (r.stride * i) hi) (toSigned r.width v))
  | .enum lo hi d => if lo ≤ v ∧ v ≤ hi then v else d
  | .zeroOr lo hi => if v < lo then 0 else min v hi
  | .zeroNear lo hi => if v < lo then (if 2 * v < lo then 0 else lo) else min v hi

/-- R10, R54: one field takes its part of a word written by function `fn`. Actions of WO, RWO and LOCK fields belong to
their own commands. -/
def State.storeField (s : State) (fn b : Nat) (r : Row) (i : Nat) (data : Nat) : State :=
  let v := bitsOf data r.lsb r.width
  match r.acc with
  | .rw => if writerOk r.writer fn b then s.wr b r (s.legal b r i v) i else s
  | .rwl =>
    if writerOk r.writer fn b && s.mayWriteL (b / 0x1000 * 0x1000) (masterOfFn fn) then s.wr b r (s.legal b r i v) i else s
  | .w1c => if writerOk r.writer fn b then s.wr b r (s.rd b r i - (s.rd b r i &&& v)) i else s
  | .ro | .wo | .woL | .rc | .rwo | .special => s

/-- R54, R55: every field of the register at offset `off` takes its part of the word, in ascending order. -/
def State.storeWord (s : State) (fn b : Nat) (rows : List Row) (off : Nat) (data : Nat) : State :=
  forEach rows (fun r t => match r.indexAt off with
    | some i => t.storeField fn b r i data
    | none => t) s

/-- The stored fields of the register at offset `off`, put together; write-only fields read 0 (R7, R10). -/
def State.assemble (s : State) (b : Nat) (rows : List Row) (off : Nat) : Nat :=
  rows.foldl (fun n r => match r.indexAt off with
    | some i => match r.acc with
      | .wo | .woL => n
      | _ => n + (s.rd b r i) <<< r.lsb
    | none => n) 0

/-- R10: the RC fields of the register at offset `off` are cleared by the read; on a sheet that counts by the older
rule they are not (R118, R166, R201). -/
def State.clearOnRead (s : State) (b : Nat) (rows : List Row) (off : Nat) : State :=
  forEach rows (fun r t => match r.indexAt off with
    | some i => match r.acc with
      | .rc => if t.wraps b r.off then t else t.wr b r 0 i
      | _ => t
    | none => t) s

end Sys2Proof.Machine
end

