-- ==== Sys2Proof/Machine/EpkLink.lean ====
section
/-! DEFINITION. The Epkuone link's shared operations (21_pairs_stacks.md): lanes, nodes, sending and relaying frames, roles,
and the release of a plate before it stops. -/

namespace Sys2Proof.Machine

def State.ekLane (s : State) (l : Nat) : EkLane := Sparse.get {} s.ekLanes l
def State.setEkLane (s : State) (l : Nat) (v : EkLane) : State := { s with ekLanes := Sparse.put {} s.ekLanes l v }
def State.pair (s : State) (p : Nat) : PairPlate := Sparse.get {} s.pairs p
def State.setPair (s : State) (p : Nat) (v : PairPlate) : State := { s with pairs := Sparse.put {} s.pairs p v }
def State.modPair (s : State) (p : Nat) (f : PairPlate → PairPlate) : State := s.setPair p (f (s.pair p))

/-- States of a lane (R693). -/
def laneOff : Nat := 0
def laneTrain : Nat := 1
def laneLock : Nat := 2
def laneHello : Nat := 3
def laneUp : Nat := 4
def laneConflict : Nat := 5

/-- Bits of the sheet's EVENT (R736). -/
def evLaneChange : Nat := 0
def evPairChange : Nat := 1
def evTakeover : Nat := 2
def evDemoted : Nat := 3
def evProtectChange : Nat := 4
def evPairHeld : Nat := 5
def evConflict : Nat := 6
def evProofGap : Nat := 7
def evMasterChange : Nat := 8

def State.laneState (s : State) (l : Nat) : Nat := s.rd ekB Reg.ekLaneState l
def State.laneIsUp (s : State) (l : Nat) : Bool := s.laneState l == laneUp

/-- Lanes that are UP; lanes 0 and 1 form the PAIR port (R686). -/
def State.upLanes (s : State) : List Nat := [0, 1, 2, 3].filter s.laneIsUp
def State.upPairLanes (s : State) : List Nat := [0, 1].filter s.laneIsUp

/-- R695: a pair is formed while at least one PAIR lane is UP. -/
def State.pairFormed (s : State) : Bool := s.laneIsUp 0 || s.laneIsUp 1

/-- This device's SID strap. -/
def State.sid (s : State) : Nat := s.rd crB Reg.crStrapsSid

/-- R695: this device's node: m is 1 for the member of a pair with the higher unique ID. A pair whose PAIR lanes have failed
keeps its numbers until its partner is lost (R696, log entry 46). -/
def State.myNode (s : State) : Nat :=
  2 * s.sid + (match s.epk.partnerUid with
    | some u => if u < Config.uid then 1 else 0
    | none => 0)

/-- Has the device a partner that is not lost (R696)? -/
def State.hasPartner (s : State) : Bool := s.epk.partnerUid.isSome

/-- The partner's node. -/
def State.partnerNode (s : State) : Nat := 2 * s.sid + (if s.myNode % 2 = 0 then 1 else 0)

/-- `EK_CTRL.loss_ms` in nanoseconds. -/
def State.lossNs (s : State) : Nat := s.rd ekB Reg.ekCtrlLossMs * msNs

/-- R695: the nodes present: this one and those heard within `loss_ms`. -/
def State.nodePresent (s : State) (n : Nat) : Bool :=
  n == s.myNode || (match Sparse.find? s.epk.heard n with
    | some a => decide (s.now ≤ a + s.lossNs)
    | none => false)

def State.nodesPresent (s : State) : List Nat := (List.range 8).filter s.nodePresent

/-- R697: the stack master: the lowest-numbered present node whose SID is 0. -/
def State.master (s : State) : Option Nat := ([0, 1].filter s.nodePresent).head?

/-- R690: type code of a frame. An impression or a proof stands for its segments and its end frame. -/
def epkCode : EpkBody → Nat
  | .hello .. => 0x01
  | .marker .. => 0x02
  | .role .. => 0x03
  | .impression .. => 0x11
  | .proof .. => 0x13
  | .ack .. => 0x14
  | .report .. => 0x20
  | .lease .. => 0x21
  | .propose .. => 0x30
  | .vote .. => 0x31
  | .commit .. => 0x32
  | .abort .. => 0x33
  | .wake .. => 0x34

/-- Destination of a frame for every node. -/
def everyNode : Fin 9 := 8

/-- R689: a frame of this node leaves on each of the lanes, with the next `seq` of its type and 7 relays allowed. -/
def State.sendEpk (s : State) (lanes : List Nat) (plate : Option Nat) (dest : Fin 9) (b : EpkBody) : State :=
  if lanes.isEmpty then s
  else
    let q := Sparse.get 0 s.epk.seqs (epkCode b)
    forEach lanes (fun l (t : State) =>
        t.emit (.epk { lane := Fin.ofNat 4 l, origin := Fin.ofNat 8 s.myNode, relayed := false, hops := 7,
                       plate := plate.map (Fin.ofNat 8), dest := dest, seq := q } b))
      { s with epk := { s.epk with seqs := Sparse.put 0 s.epk.seqs (epkCode b) ((q + 1) % 2 ^ 32) } }

/-- R731: a vote or wake frame, for every node on every lane that is UP. -/
def State.broadcast (s : State) (b : EpkBody) : State := s.sendEpk s.upLanes none everyNode b

/-! ### Roles (R698-R703) -/

def roleNone : Nat := 0
def roleActive : Nat := 1
def roleStandby : Nat := 2
def protNone : Nat := 0
def protImprinting : Nat := 1
def protProtected : Nat := 2

def State.role (s : State) (p : Nat) : Nat := s.rd ekB Reg.ekPlateRole p
def State.prot (s : State) (p : Nat) : Nat := s.rd ekB Reg.ekPlateProt p

/-- R704: protection changes. -/
def State.setProt (s : State) (p v : Nat) : State :=
  if s.prot p = v then s else (s.wr ekB Reg.ekPlateProt v p).raise ekB evProtectChange

/-- Protection falls to NONE: what was under way is forgotten, an impression burst is released (R705, R709, R733). -/
def State.dropProt (s : State) (p : Nat) : State :=
  let t := { s with imprGrants := Sparse.del s.imprGrants p, arb := s.arb.filter (· != GrantReq.impression p) }
  (t.setProt p protNone).modPair p (fun q => { q with
    impression := none, unacked := 0, carried := [], ackedWords := [], sentWords := [], handover := none, waiting := []
    broken := [], hasState := false })

/-- The entry of plate `p` in this device's ROLE frames (R690). -/
def State.roleEntry (s : State) (p : Nat) : RoleEntry :=
  { role := Fin.ofNat 3 (s.role p), prot := Fin.ofNat 3 (s.prot p), epoch := s.rd ekB Reg.ekPlateEpoch p
    stamp := (s.pair p).stamp, wasActive := (s.pair p).wasActive, running := s.plateServes p
    want := Fin.ofNat 4 (s.rd ekB Reg.ekPlateWant p), enabled := s.plateEnabled p, grant := Sparse.get 0 s.imprGrants p != 0 }

/-- R698: a ROLE frame to the partner; `plate` is named by a release or a handover. -/
def State.sendRole (s : State) (subtype : Nat) (plate : Option Nat) : State :=
  if s.hasPartner then
    s.sendEpk s.upLanes plate (Fin.ofNat 9 s.partnerNode) (.role subtype ((List.range 8).map s.roleEntry))
  else s

/-- R703: an ACTIVE plate is released before it stops. -/
def State.releasePlate (s : State) (p : Nat) : State := if s.role p = roleActive then s.sendRole 1 (some p) else s

/-- R698: is plate `p` paired: a partner that is not lost (log entry 46), the plate enabled on both, `want` 0 on neither? -/
def State.pairedPlate (s : State) (p : Nat) : Bool :=
  s.hasPartner && s.plateEnabled p && s.rd ekB Reg.ekPlateWant p != 0
    && (match (s.pair p).partner with
        | some q => q.enabled && q.want.val != 0
        | none => false)

/-- R733, R734: every paired plate of the device falls to protection NONE. -/
def State.dropAllProt (s : State) : State :=
  (forUpTo 8 (fun p t => if t.pairedPlate p then t.dropProt p else t) s).sendRole 0 none

/-- R735, R700: a plate reset ends the plate's mirror streams, protection, stamp and record of activity. -/
def State.resetPairPlate (s : State) (p : Nat) : State :=
  let t := s.dropProt p
  { t.setPair p { partner := (t.pair p).partner } with mirrors := dropKeysMirror p t.mirrors }
where
  /-- The mirrored channels of plate `p` are no longer listed. -/
  dropKeysMirror (p : Nat) (m : Sparse MirrorInfo) : Sparse MirrorInfo := m.filter (fun e => e.1 / 256 != p)

end Sys2Proof.Machine
end

