-- ==== Sys2Proof/Machine/Series.lean ====
section
/-! DEFINITION. The functions of a real number that the spec defines by name, computed from their series in fixed point: the sine of
the generators and the drive (R302, R508) and the logarithm of the aging law (R485). -/

namespace Sys2Proof.Machine

/-- sin(x) for x in 2⁻⁴⁰ from 0 to π/2, in 2⁻⁴⁰: its series up to the eleventh power, by Horner's rule. -/
def sineSeries (x : Nat) : Nat :=
  let y := x * x / 2 ^ 40
  let term := fun (k acc : Nat) => 2 ^ 40 - y * acc / (k * 2 ^ 40)
  x * term 6 (term 20 (term 42 (term 72 (term 110 (2 ^ 40))))) / 2 ^ 40

/-- sin(2π·`ph` / 2³²) in Q1.17, rounded to nearest and saturated (log entry 10). -/
def sineOf (ph : Nat) : Int :=
  let quarter := ph / 2 ^ 30 % 4
  let part := if quarter % 2 = 0 then ph % 2 ^ 30 else 2 ^ 30 - ph % 2 ^ 30
  let v : Int := (sineSeries (part * 1727108826179 / 2 ^ 30) + 2 ^ 22) / 2 ^ 23
  clampInt (-131071) 131071 (if 2 ≤ quarter then -v else v)

/-- ln of 2, in 2⁻⁴⁸. -/
def ln2 : Nat := 195103586505167

/-- ln of n / d, at least 1 and below 2, in 2⁻⁴⁸: twice the series of the inverse hyperbolic tangent of z = (n − d) / (n + d), at most
1/3, up to z²⁹. -/
def lnSeries (n d : Nat) : Nat :=
  let z := (n - d) * 2 ^ 48 / (n + d)
  let y := z * z / 2 ^ 48
  let sum := (List.range 15).foldl (fun acc i => 2 ^ 48 / (29 - 2 * i) + y * acc / 2 ^ 48) 0
  2 * (z * sum / 2 ^ 48)

/-- ln(1 + τ / τ0) in 2⁻³², rounded to nearest, for τ of `age` ms and τ0 of `tau0` hours (R485, log entry 10). -/
def ln1p (age tau0 : Nat) : Nat :=
  let d := max 1 (tau0 * 3600000)
  let k := Nat.log2 ((d + age) / d)
  (k * ln2 + lnSeries (d + age) (d * 2 ^ k) + 2 ^ 15) / 2 ^ 16

end Sys2Proof.Machine
end

