-- ==== Sys2Proof/Machine/Learning.lean ====
section
/-! DEFINITION. The arithmetic of the holdover model (14_timebase.md R485, R486, R489): the terms of M, its value, one update of
recursive least squares, and the single-precision words of the covariance. -/

namespace Sys2Proof.Machine

/-- A rational number rounded down or up to a whole one, as a free value decides (log entry 7). -/
def State.drawWhole (s : State) (q : Rat) : Int × State := s.drawRound q.num q.den

/-- A value as a 32-bit signed field holds it; the spec states none for a value beyond the field, which is free (log entry 7). -/
def State.fit32 (s : State) (v : Int) : Int × State :=
  if -(2 ^ 31) ≤ v ∧ v < 2 ^ 31 then (v, s) else (toSigned 32 s.drawNat.1, s.drawNat.2)

/-! ### IEEE 754 single precision -/

/-- The value of a single-precision word; an infinity's or a NaN's is left open. -/
def f32Value (w : Nat) : Rat :=
  let e : Nat := w / 2 ^ 23 % 256
  let m : Nat := w % 2 ^ 23
  let a : Rat := if e = 255 then (Config.f32Special w : Rat)
    else if e = 0 then (m : Rat) / (2 ^ 149 : Nat) else ((2 ^ 23 + m) * 2 ^ e : Nat) / (2 ^ 150 : Nat)
  if w / 2 ^ 31 % 2 = 1 then -a else a

/-- The exponent e with 2^e ≤ n / d < 2^(e + 1), `n` and `d` positive. -/
def ratLog (n d : Nat) : Int :=
  let e : Int := (Nat.log2 n : Int) - Nat.log2 d
  if 0 ≤ e then (if n < d * 2 ^ e.toNat then e - 1 else e) else (if n * 2 ^ (-e).toNat < d then e - 1 else e)

/-- A value as a single-precision word, rounded toward 0 or away from it as `up` says; below the normal range 0, above it
infinity. -/
def f32Word (q : Rat) (up : Bool) : Nat :=
  let n := q.num.natAbs
  if n = 0 then 0
  else
    let e := ratLog n q.den
    let k := 23 - e
    let m := if 0 ≤ k then n * 2 ^ k.toNat / q.den else n / (q.den * 2 ^ (-k).toNat)
    let m := m + (if up then 1 else 0)
    let b := e + 127 + (if m = 2 ^ 24 then 1 else 0)
    let sign := if q.num < 0 then 2 ^ 31 else 0
    sign + (if b ≤ 0 then 0 else if 255 ≤ b then 255 * 2 ^ 23 else b.toNat * 2 ^ 23 + m % 2 ^ 23)

/-! ### The model (R485) -/

/-- The terms of M: 1, θ, θ², θ³, θ′, τ and ln(1 + τ/τ0), in K, K/h and days, `age` being τ in milliseconds. -/
def modelTerms (theta rate : Rat) (age tau0 : Nat) : List Rat :=
  [1, theta, theta * theta, theta * theta * theta, rate, (age : Rat) / (86400000 : Nat),
   (ln1p age tau0 : Rat) / (2 ^ 32 : Nat)]

/-- Fraction bits of the coefficients (R498). -/
def coefBits : List Nat := [20, 20, 24, 28, 20, 20, 20]

/-- The sum of the products of two lists. -/
def dot (a b : List Rat) : Rat := (List.zipWith (· * ·) a b).foldl (· + ·) 0

/-- R489: milliseconds since the model epoch, and whole hours of them. -/
def State.ageMs (s : State) : Nat := s.rd hmB Reg.hmAgeAgeH * 3600000 + (s.aonTick - s.hold.epochTick)
def State.ageHours (s : State) : Nat := s.ageMs / 3600000

/-- The coefficients, in ppb per unit of their terms. -/
def State.coefs (s : State) : List Rat :=
  (List.range 7).map (fun k => (s.rdS hmB Reg.hmCoefCoef k : Rat) / (2 ^ coefBits.getD k 0 : Nat))

/-- M in ppb for the terms `x`. -/
def State.modelAt (s : State) (x : List Rat) : Rat := dot s.coefs x

/-- R485: the terms now, from θ (2⁻⁷ K) and θ′ (2⁻¹⁰ K/h) of the last valid reading (R487). -/
def State.termsNow (s : State) : List Rat :=
  modelTerms ((s.hold.theta : Rat) / (128 : Nat)) ((s.hold.rate : Rat) / (1024 : Nat)) s.ageMs (s.rd hmB Reg.hmCtrlTau0H)

/-- R485: M(t) in 2⁻¹⁶ ppb. -/
def State.modelY (s : State) : Int × State := s.drawWhole (s.modelAt s.termsNow * (65536 : Nat))

/-! ### Recursive least squares (R486) -/

/-- Where entry (i, j) of the covariance stands in the upper triangle, row by row (R489). -/
def covAt (i j : Nat) : Nat := let a := min i j; a * 7 - a * (a - 1) / 2 + (max i j - a)

/-- Entry (i, j) of the covariance; of a cleared one, what the update starts from, which the spec leaves open. -/
def State.cov (s : State) (i j : Nat) : Rat :=
  f32Value (if s.hold.cov.isEmpty then Config.rlsStart (covAt i j) else s.hold.cov.getD (covAt i j) 0)

/-- R486: one update with the terms `x` and the correction `y` in ppb: with P the covariance, λ = 1 − 2^−`lambda_shift` and
g = P·x, the coefficients move by g·(y − M) / (λ + x·g), and P becomes (P − g·gᵀ / (λ + x·g)) / λ. -/
def State.relearn (s : State) (x : List Rat) (y : Rat) : State :=
  let lam : Rat := 1 - 1 / (2 ^ s.rd hmB Reg.hmCtrlLambdaShift : Nat)
  let g := (List.range 7).map (fun i => dot ((List.range 7).map (s.cov i)) x)
  let den := lam + dot x g
  let e := y - s.modelAt x
  let c := forUpTo 7 (fun k (t : State) =>
    let d := t.drawWhole ((s.coefs.getD k 0 + g.getD k 0 * e / den) * (2 ^ coefBits.getD k 0 : Nat))
    let f := d.2.fit32 d.1
    f.2.wrS hmB Reg.hmCoefCoef f.1 k) s
  let p := (List.range 7).foldl (fun (a : List Nat × State) i => (List.range (7 - i)).foldl (fun (b : List Nat × State) j =>
    let d := b.2.drawBool
    (b.1 ++ [f32Word ((s.cov i (i + j) - g.getD i 0 * g.getD (i + j) 0 / den) / lam) d.1], d.2)) a) ([], c)
  { p.2 with hold := { p.2.hold with cov := p.1 } }

end Sys2Proof.Machine
end

