-- ==== Sys2Proof/Machine/TimebaseCore.lean ====
section
/-! DEFINITION. The timebase's control (14_timebase.md R462-R489): states, selection, the servo's limits, slews and steps, the
EFC code, and holdover. -/

namespace Sys2Proof.Machine

/-! ### Codes -/

def tbFree : Nat := 0
def tbAcquire : Nat := 1
def tbLocked : Nat := 2
def tbHoldover : Nat := 3
def tbRelock : Nat := 4

/-- Bits of the sheet's EVENT (R496). -/
def evTbState : Nat := 0
def evTbSwitch : Nat := 1
def evTbStepped : Nat := 2
def evTbDeferred : Nat := 3
def evPpsStuck : Nat := 4
def evPpsFast : Nat := 5
def evPtpTimeout : Nat := 6
def evEfcLimit : Nat := 7
def evExtTimeout : Nat := 8

/-- No source selected. -/
def noSource : Nat := 7

/-- Does source `n` give phase (R469): PPS_IN, PTP, Epkuone markers? -/
def phaseSource (n : Nat) : Bool := n == 0 || n == 1 || n == 4

def State.modTb (s : State) (f : Timebase → Timebase) : State := { s with tb := f s.tb }

/-- The servo mode in use (R466): 1 on-chip, 2 external. -/
def State.tbMode (s : State) : Nat := s.rd tbB Title.stateMode

/-- Does the timebase select sources: intent RUNNING and the PLL on OSC_IN (R464, R466)? -/
def State.tbRuns (s : State) : Bool := s.rd tbB Title.stateOp == opRunning

def State.tbSelected (s : State) : Nat := s.rd tbB Reg.tbRefStatSelected
def State.tbQualified (s : State) (n : Nat) : Bool := bitAt (s.rd tbB Reg.tbRefStatQualified) n

/-- `TB_PRI` of a source. -/
def State.tbPriority (s : State) (n : Nat) : Nat :=
  match n with
  | 0 => s.rd tbB Reg.tbPriPriPps
  | 1 => s.rd tbB Reg.tbPriPriPtp
  | 2 => s.rd tbB Reg.tbPriPriSynce
  | 3 => s.rd tbB Reg.tbPriPriRef
  | _ => s.rd tbB Reg.tbPriPriEpk

/-- R478: is any channel of the plates `lo` up to `hi` active: its path state neither IDLE nor REFUSED? -/
def State.activeIn (s : State) (lo hi : Nat) : Bool :=
  s.regs.any (fun e => decide (chB (256 * lo) * 32 ≤ e.1 ∧ e.1 < chB (256 * hi) * 32)
    && ((e.1 % 0x4000 == 0xC * 32 && e.2 != 0 && e.2 != 9) || (e.1 % 0x4000 == 0x18 * 32 + 2 && e.2 == 1)))

def State.channelsActive (s : State) : Bool := s.activeIn 0 8

/-- Units of a slew's remainder in a nanosecond. -/
def slewNs : Int := 65536000000

/-- Units of the servo's integral part in 2⁻¹⁶ ppb. -/
def servoUnit : Int := 2 ^ 64 * 10 ^ 15

/-! ### States and selection (R467, R469, R474) -/

/-- R491: may PPS_OUT pulse? -/
def State.ppsOutOn (s : State) : Bool :=
  s.isSet tbB Reg.tbCtrlPpsOutEn && (s.tb.state != tbFree || s.isSet tbB Reg.tbCtrlPpsFree)

/-- R491: the level of PPS_OUT: high for the width of its pulse. -/
def State.ppsOut (s : State) : Bool := decide (s.now < s.tb.ppsTill)

/-- R491: a pulse ends where PPS_OUT may not pulse any more. -/
def State.ppsOutCut (s : State) : State := if s.ppsOutOn then s else s.modTb (fun t => { t with ppsTill := 0 })

/-- R484: whole seconds since entry to holdover. -/
def State.holdSeconds (s : State) : State := s.wr tbB Reg.tbHoTimeHoS (min ((s.now - s.tb.hoFrom) / secNs) (2 ^ 32 - 1))

/-- Every change of state is announced; TB_HO_TIME keeps its last value (R484); in FREE y is held; at ACQUIRE, and where HOLDOVER ends,
the servo starts from the y there is. -/
def State.setTbState (s : State) (v : Nat) : State :=
  if s.tb.state = v then s
  else
    let a := if s.tb.state = tbHoldover then s.holdSeconds else s
    (a.modTb (fun t => { t with
      state := v, lockFrom := none, unlockRun := 0, lockedAt := if v = tbLocked then s.now else t.lockedAt
      target := if v = tbFree then t.y else t.target
      servo := if v = tbAcquire || t.state == tbHoldover then { freq := t.y * servoUnit } else t.servo })).ppsOutCut.raise
      tbB evTbState

/-- The selected source changes (R467); a source without phase makes TB_PHASE read 0x8000_0000 (R476). -/
def State.setSelected (s : State) (n : Nat) : State :=
  if s.tbSelected = n then s
  else
    let t := (((s.wr tbB Reg.tbRefStatSelected n).bumpSat tbB Reg.tbCountsSwitches).raise tbB evTbSwitch).modTb
      (fun x => { x with lockFrom := none, unlockRun := 0, filtered := none, servo := { freq := x.servo.freq } })
    if phaseSource n then t else t.wr tbB Reg.tbPhasePhase 0x80000000

/-- R474: may source `n` be selected? -/
def State.tbEligible (s : State) (n : Nat) : Bool :=
  let f := s.rd tbB Reg.tbPriForce
  s.tbQualified n && s.tbPriority n != 0 && (f == 0 || (decide (2 ≤ f) && n == f - 2))

/-- R474: the eligible source of highest priority, the lower number on a tie. -/
def State.tbBest (s : State) : Option Nat :=
  (List.range 5).foldl (fun b n =>
    if s.tbEligible n then match b with
      | none => some n
      | some m => if s.tbPriority n < s.tbPriority m then some n else some m
    else b) none

/-! ### Steps and slews (R479-R483) -/

/-- R480: a slew of `d` ns begins, or replaces what is left of the one that runs. -/
def State.startSlew (s : State) (d : Int) (deferred : Bool) : State :=
  s.modTb (fun t => { t with
    slew := { t.slew with run := d != 0 || t.slew.freq != 0, left := d * slewNs }, deferred := deferred })

/-- R479: an offset of `d` ns that site time is to move by. A step leaves nothing for a profile to remove, which returns to 0 from the
frequency it has reached (R480, R481). -/
def State.moveTime (s : State) (d : Int) (force : Bool) : State :=
  if d.natAbs ≤ s.rd tbB Reg.tbStepStepLimit then s.startSlew d false
  else if force || !s.channelsActive then (s.startSlew 0 false).modTb (fun t => { t with step := some d })
  else ((s.startSlew d true).bumpSat tbB Reg.tbCountsDeferred).raise tbB evTbDeferred

/-! ### Frequency (R481, R463) -/

/-- R481: does the ramp limit hold y now? -/
def State.yLimited (s : State) : Bool :=
  s.channelsActive || s.tb.state == tbRelock || s.tb.state == tbHoldover

/-- The largest change of y in `ns` nanoseconds under the ramp. -/
def State.rampFor (s : State) (ns : Nat) : Int := ((s.rd tbB Reg.tbSlewRampPpbs * 65536 * ns / secNs : Nat) : Int)

/-- R481: y is to be `v`: at once, or at the ramp, each millisecond. -/
def State.setY (s : State) (v : Int) : State :=
  s.modTb (fun t => { t with target := v, y := if s.yLimited then t.y else v })

/-- R481: a millisecond's movement of y, `used` being what the slew profile changed meanwhile. -/
def State.stepY (s : State) (used : Int) : State :=
  let room := max 0 (s.rampFor (s.now - s.tb.yAt) - used)
  s.modTb (fun t => { t with
    y := if s.yLimited then clampInt (t.y - room) (t.y + room) t.target else t.target, yAt := s.now })

/-- Ten minutes. -/
def tenMinNs : Nat := 600 * secNs

/-- R485: y as applied in a millisecond of the last 10 minutes of LOCKED or RELOCK is kept, by the second. -/
def State.recordY (s : State) (y : Int) : State :=
  if s.tb.state = tbLocked ∨ s.tb.state = tbRelock then
    let l := match s.tb.ys with
      | e :: r => if s.now < e.at_ + secNs then { e with sum := e.sum + y, n := e.n + 1 } :: r else { at_ := s.now, sum := y, n := 1 } :: e :: r
      | [] => [{ at_ := s.now, sum := y, n := 1 }]
    s.modTb (fun t => { t with ys := l.filter (fun e => decide (s.now ≤ e.at_ + tenMinNs)) })
  else s

/-- Code of EFC_OUT, which TB_EFC and FE_EFC both report. -/
def State.setEfc (s : State) (code : Nat) : State := (s.wr tbB Reg.tbEfcCode code).wr feB Reg.feEfcCode code

/-- R463: the code for a frequency correction, before clamping. -/
def State.efcFor (s : State) (y : Int) : Int :=
  let r := divRound (y * 262144) ((s.rd tbB Reg.tbEfcCfgEfcRangePpb * 65536 : Nat) : Int)
  131072 + (if s.isSet tbB Reg.tbEfcCfgEfcSign then -r else r)

/-- R463: the code is written; `at_limit` shows that it was clamped. -/
def State.writeEfc (s : State) (y : Int) : State :=
  let c := s.efcFor y
  let lim := decide (c < 0 ∨ 262143 < c)
  let t := (s.wrS tbB Reg.tbFreqFreq y).setEfc (clampInt 0 262143 c).toNat
  let u := t.wrB tbB Reg.tbEfcAtLimit lim
  if lim && !t.isSet tbB Reg.tbEfcAtLimit then u.raise tbB evEfcLimit else u

/-! ### Holdover (R484, R485) -/

/-- R518: is TH0 valid for the timebase: the channel and its rate? -/
def State.th0Ok (s : State) : Bool :=
  let t := Sparse.get {} s.therms 0
  t.valid && decide (t.means.length = 600)

/-- R486: is the model valid? -/
def State.modelValid (s : State) : Bool := decide (s.rd hmB Reg.hmMinMinH ≤ s.rd hmB Reg.hmStatusLearnH)

/-- Mean of a list, `dflt` for none; its last bit's rounding is a free value (log entry 7). -/
def State.meanOf (s : State) (l : List Int) (dflt : Int) : Int × State :=
  if l.isEmpty then (dflt, s) else s.drawRound (l.foldl (· + ·) 0) l.length

/-- The mean of y over some seconds, `dflt` for none. -/
def State.meanY (s : State) (l : List YSecond) (dflt : Int) : Int × State :=
  if l.isEmpty then (dflt, s)
  else s.drawRound (l.foldl (fun n e => n + e.sum) 0) (l.foldl (fun n e => n + e.n) 0 : Nat)

/-- R485: does the model give the holdover frequency? -/
def State.usesModel (s : State) : Bool := s.isSet hmB Reg.hmCtrlUseModel && s.modelValid

/-- R484, R485: entry to holdover: its frequency is reached from the last applied y, so that a slew profile ends; r̄ of no
learning sample is a free value (log entry 7), and y stands for its own mean while nothing measured it. -/
def State.enterHoldover (s : State) : State :=
  let y := if s.tb.slew.run then s.rdS tbB Reg.tbFreqFreq else s.tb.y
  let d := s.drawNat
  let r := d.2.meanOf s.tb.resids (toSigned 32 d.1)
  let n := r.2.meanY s.tb.ys y
  let m := n.2.modelY
  let t := (m.2.setTbState tbHoldover).wr tbB Reg.tbHoTimeHoS 0
  t.modTb (fun x => { x with
    hoFrom := s.now, hoModel := s.usesModel, hoBase := r.1, hoMean := n.1, hoY := if s.usesModel then m.1 + r.1 else n.1
    y := y, target := y, yAt := s.now, slew := {}, deferred := false, movedAt := if x.slew.run then s.now else x.movedAt })

/-! ### The state table (R467) -/

/-- R464, R466: to FREE: nothing selected, no slew; EFC_OUT is held, and y is the correction that its code gives, a profile's part with
it, from which it goes on (R481). -/
def State.tbGoFree (s : State) : State :=
  let y := if s.tb.slew.run then s.rdS tbB Reg.tbFreqFreq else s.tb.y
  ((s.setSelected noSource).setTbState tbFree).modTb (fun t => { t with
    y := y, target := y, slew := {}, deferred := false, step := none })

/-- Correction per R479 of the last phase error of source `n`. -/
def State.correct (s : State) (n : Nat) : State :=
  if phaseSource n then s.moveTime (-(Sparse.get 0 s.tb.errors n)) false else s

/-- R467: the servo works on source `n` from now on. An external servo sets its state itself (R477). -/
def State.tbSwitch (s : State) (n : Nat) : State :=
  let t := s.setSelected n
  if t.tbMode ≠ 1 then t
  else match t.tb.state with
    | 0 => t.setTbState tbAcquire
    | 2 =>
      if phaseSource n && decide (s.rd tbB Reg.tbServoLockNs < (Sparse.get 0 s.tb.errors n).natAbs) then
        (t.setTbState tbRelock).correct n
      else t
    | 3 => (t.setTbState tbRelock).correct n
    | _ => t

/-- R467: the selected source is lost and no other is there. -/
def State.tbLost (s : State) : State :=
  let t := s.setSelected noSource
  if t.tbMode ≠ 1 then t
  else match t.tb.state with
    | 1 => t.setTbState tbFree
    | 2 | 4 => t.enterHoldover
    | _ => t

/-- R467, R474: what a change of qualification, priority or `force` leads to. -/
def State.tbReselect (s : State) : State :=
  if !s.tbRuns then s
  else
    let n := s.tbSelected
    if n ≠ noSource ∧ s.tbEligible n then s
    else match s.tbBest with
      | some m => s.tbSwitch m
      | none => if n = noSource then s else s.tbLost

/-- R469: a source becomes qualified or is disqualified. -/
def State.setQualified (s : State) (n : Nat) (v : Bool) : State :=
  if s.tbQualified n = v then s
  else
    let t := (s.wr tbB Reg.tbRefStatQualified (setBit (s.rd tbB Reg.tbRefStatQualified) n v)).modTb (fun x => { x with
      qualSince := if v then Sparse.ins x.qualSince n s.now else Sparse.del x.qualSince n })
    (if n = 0 then t.wrB tbB Reg.tbPpsStatQualified v else t).tbReselect

/-- A frequency source is lost at once (R469). -/
def State.dropFreq (s : State) (n : Nat) : State :=
  (s.modTb (fun x => { x with inRange := Sparse.del x.inRange n })).setQualified n false

/-- R464: the timebase PLL's source is not OSC_IN, or is again. -/
def State.tbPllMoved (s : State) : State :=
  if s.rd crB Reg.crRefStatusTbSrc = 1 then
    if s.rd tbB Title.stateOp = opFault then (s.setOp tbB opRunning).tbReselect else s
  else if s.rd tbB Title.hostOp = opRunning then (s.tbGoFree).setOp tbB opFault
  else s.tbGoFree

/-- R464, R786, R487: the timebase PLL moves to source `c`; with OSC_IN back the model settles for 24 h. -/
def State.moveTbPll (s : State) (c : Nat) : State :=
  let t := s.wr crB Reg.crRefStatusTbSrc c
  (if c = 1 then t.modTb (fun x => { x with settleTill := t.now + 24 * 3600 * secNs }) else t).tbPllMoved

/-! ### Measurements (R468, R476) -/

/-- R468: nanoseconds from the first measurement within the criterion to the one that meets it. Each measurement of a source
that is measured once a second closes a second (DEDUCED, worked example of 14_timebase.md: the 60th falls 59 s after the first). -/
def State.lockSpan (s : State) (n : Nat) : Nat :=
  (s.rd tbB Reg.tbLockLockS - (if n = 0 ∨ n = 2 ∨ n = 3 then 1 else 0)) * secNs

/-- R467, R468: a measurement of the selected source, made at `at_`, which lies within the lock criterion or not; `far` says that the
phase error exceeds `unlock_ns`. -/
def State.tbEvents (s : State) (n at_ : Nat) (within far : Bool) : State :=
  if s.tbMode ≠ 1 then s
  else if s.tb.state = tbAcquire ∨ s.tb.state = tbRelock then
    if !within then s.modTb (fun t => { t with lockFrom := none })
    else match s.tb.lockFrom with
      | none => s.modTb (fun t => { t with lockFrom := some at_ })
      | some f => if f + s.lockSpan n ≤ at_ then s.setTbState tbLocked else s
  else if s.tb.state = tbLocked then
    if !far then s.modTb (fun t => { t with unlockRun := 0 })
    else if s.tb.unlockRun + 1 < 3 then s.modTb (fun t => { t with unlockRun := t.unlockRun + 1 })
    else (s.setTbState tbRelock).correct n
  else s

/-- R476: the servo is a proportional-integral loop of damping factor 1: with ω its natural frequency, the integral part moves by
−ω² · `part` over `ns`, and y is that part less 2ω times the phase. `part` is in units of a slew's remainder. -/
def State.servoY (s : State) (part : Int) (ns : Nat) : State :=
  let w := Config.servoOmega (s.rd tbB Reg.tbServoBwMhz)
  let f := s.tb.servo.freq - w ^ 2 * part * (ns : Int)
  let d := (s.modTb (fun t => { t with servo := { t.servo with freq := f } })).drawRound
    (f - 2 * w * (s.tb.servo.phase + s.tb.servo.added) * 2 ^ 32 * 10 ^ 9) servoUnit
  d.2.setY d.1

/-- R475: the frequency source that assists a phase source: the qualified one of highest priority. -/
def State.tbAssistant (s : State) : Option Nat :=
  let ok := fun n => s.tbQualified n && s.tbPriority n != 0
  if ok 2 && (!ok 3 || decide (s.tbPriority 2 ≤ s.tbPriority 3)) then some 2 else if ok 3 then some 3 else none

/-- R475: does a frequency source assist the phase source that is selected? -/
def State.tbAssisted (s : State) : Bool := s.isSet tbB Reg.tbPriAssist && phaseSource s.tbSelected && s.tbAssistant.isSome

/-- R476: the servo takes a phase error of `err` ns measured at `at_`, less what the slew profile under way is to remove; its integral
part is left to a frequency source that assists (R475). -/
def State.servoPhase (s : State) (err : Int) (at_ : Nat) : State :=
  let e := err * slewNs + s.tb.slew.left
  let ns := match s.tb.servo.at_ with | some a => at_ - a | none => 0
  (s.modTb (fun t => { t with servo := { t.servo with phase := e, at_ := some at_ } })).servoY (if s.tbAssisted then 0 else e) ns

/-- The last measured error of source `n`. -/
def State.noteError (s : State) (n : Nat) (err : Int) : State := s.modTb (fun t => { t with errors := Sparse.ins t.errors n err })

/-- A phase error of source `n`, ns, measured at `at_`: it is filtered and reported, and the servo takes it; the first one used takes the
time from the source (R483). -/
def State.tbPhase (s : State) (n : Nat) (err : Int) (at_ : Nat) : State :=
  let a := s.noteError n err
  if a.tbSelected ≠ n ∨ !a.tbRuns then a
  else
    let filtered := match a.tb.filtered with | some f => Config.phaseFilter f err | none => 8 * err
    let w := a.fit32 filtered
    let b := (w.2.wrS tbB Reg.tbPhasePhase w.1).modTb (fun t => { t with filtered := some filtered })
    let c := if !b.tb.timeSet && n != 4 then (b.moveTime (-err) false).modTb (fun t => { t with timeSet := true }) else b
    let d := if c.tbMode = 1 then c.servoPhase err at_ else c
    d.tbEvents n at_ (decide (filtered.natAbs ≤ 8 * s.rd tbB Reg.tbServoLockNs) && !d.tb.slew.run)
      (decide (s.rd tbB Reg.tbLockUnlockNs < err.natAbs))

/-- R476: the servo takes a second's frequency error, 2⁻¹⁶ ppb. -/
def State.servoFrequency (s : State) (err : Int) : State :=
  let v := s.tb.servo.added + err * 1000000
  (s.modTb (fun t => { t with servo := { t.servo with added := v } })).servoY v secNs

/-- A second's filtered frequency error of source `n`, 2⁻¹⁶ ppb (R475, R476). -/
def State.tbFrequency (s : State) (n : Nat) (err : Int) : State :=
  let a := s.noteError n err
  if !a.tbRuns || a.tbMode != 1 then a
  else if a.tbSelected = n then (a.servoFrequency err).tbEvents n s.now (decide (err.natAbs ≤ 65536)) false
  else if a.tbAssisted && a.tbAssistant == some n then a.servoFrequency err
  else a

/-! ### Starting and stopping -/

/-- R152, R462: site time starts at 0 at boot step 4. -/
def State.tbBoot (s : State) : State := { s with tb := { epoch := -(s.now : Int), driftAt := s.now, ratioAt := s.now } }

/-- R526: the timebase leaves OFF: it starts from the y of the code on EFC_OUT, and `man_en` is cleared. -/
def State.leaveOff (s : State) : State :=
  let c : Int := (s.rd tbB Reg.tbEfcCode : Int) - 131072
  let y := divRound (c * (s.rd tbB Reg.tbEfcCfgEfcRangePpb : Int) * 65536) 262144
  let v := if s.isSet tbB Reg.tbEfcCfgEfcSign then -y else y
  let t := s.modTb (fun x => { x with y := v, target := v, yAt := s.now, servo := { freq := v * servoUnit } })
  (t.wr feB Reg.feEfcManManEn 0).wr feB Reg.feEfcManual 0

/-- R467: the on-chip servo takes up the source that is selected, where it follows none. -/
def State.tbTakeUp (s : State) : State :=
  if s.tbRuns && s.tbSelected != noSource && s.tb.state != tbLocked then s.tbSwitch s.tbSelected else s

/-- R466: HOST_STATE of the timebase. -/
def State.tbIntent (s : State) (fn data : Nat) : State :=
  if !s.mayWriteL tbB (masterOfFn fn) then s
  else
    let op := intentOp data
    if op = opRunning then
      let mode := if bitsOf data 8 8 = 2 then 2 else 1
      let a := s.storeIntent tbB opRunning mode
      let b := if a.rd tbB Title.stateOp = opOff then a.leaveOff else a
      let c := (b.setOp tbB opRunning).wr tbB Title.stateMode mode
      (if s.rd tbB Title.stateOp = opOff ∨ s.tbMode ≠ mode then c.modTb (fun t => { t with extAt := s.now })
        else c).tbPllMoved.tbReselect.tbTakeUp
    else
      let a := s.storeIntent tbB op 0
      if op = opOff then ((a.tbGoFree).setOp tbB opOff).wr tbB Title.stateMode 0 else a

end Sys2Proof.Machine
end

