-- ==== Sys2Proof/Machine/Wakes.lean ====
section
/-! DEFINITION. Quiet requests, wake requests and what they do to the quiet vote (20_power_sleep.md R663, R664, R669-R678):
the operations every wake source shares. -/

namespace Sys2Proof.Machine

/-- Wake source codes (R669). -/
def wakeWatchdog : Nat := 0
def wakeSiteIn : Nat := 1
def wakePcie : Nat := 2
def wakeAdmission : Nat := 3
def wakeEpk : Nat := 4
def wakeHost : Nat := 5

/-- Bits of the quiet sheet's EVENT (R683). -/
def evCommitted : Nat := 0
def evAborted : Nat := 1
def evLapsed : Nat := 2
def evWake : Nat := 3

/-- Vote states (R683). -/
def voteIdle : Nat := 0
def voteProposed : Nat := 1
def voteVoted : Nat := 2
def voteArmed : Nat := 3
def voteAsleep : Nat := 4

/-- Is plate `p` coordinated (R663)? -/
def State.coordinated (s : State) (p : Nat) : Bool := bitAt (s.rd qmB Reg.qmCoordPlates) p

/-- Is the plate STOPPING toward QUIET (R663)? -/
def State.enteringQuiet (s : State) (p : Nat) : Bool :=
  s.plateOp p == opStopping && (Sparse.find? s.quietReqs p).isSome

/-- Is the plate QUIET, its wake not yet begun? -/
def State.plateQuiet (s : State) (p : Nat) : Bool := s.plateOp p == opQuiet

/-- R42, R672: is the plate in quiet mode, or waking from it: its blocks start with its gravers? -/
def State.plateAsleep (s : State) (p : Nat) : Bool := s.plateOp p == opQuiet || (s.plate p).fromQuiet

/-- R677: the round ends with an abort: counted and announced; `send` says whether this member sends ABORT. -/
def State.abortRound (s : State) (send : Option Nat) : State :=
  let t := match send with
    | some stamp => s.broadcast (.abort (s.rd qmB Reg.qmRoundRound) stamp)
    | none => s
  ({ t with quiet := { t.quiet with vote := voteIdle, yes := [], endedAt := t.now } }.bumpSat qmB
    Reg.qmCountsAborts).raise qmB evAborted

/-- R677, R678: a wake request or a cancellation stamped before T_c, for a coordinated plate, aborts a round under way. -/
def State.stirRound (s : State) : State :=
  let v := s.quiet.vote
  if (v = voteProposed ∨ v = voteVoted ∨ v = voteArmed) ∧ s.siteNs < s.quiet.tc then s.abortRound (some s.siteNs) else s

/-- R664, R671: the plate's quiet request is cancelled: the intent reads RUNNING and the plate is RUNNING again. -/
def State.cancelQuiet (s : State) (p : Nat) : State :=
  let t := { s with quietReqs := Sparse.del s.quietReqs p }.wr (plB p) Title.hostOp opRunning
  (t.setPlateOp p opRunning).wr qmB Reg.qmWakePendPlates (setBit (t.rd qmB Reg.qmWakePendPlates) p false)

/-- R678: has T_c of a round that will put the coordinated plates to sleep, or has, passed? -/
def State.afterCommit (s : State) : Bool :=
  (s.quiet.vote == voteArmed || s.quiet.vote == voteAsleep) && decide (s.quiet.tc ≤ s.siteNs)

/-- R670, R671, R678: what a wake request does to one plate; one stamped at or after T_c lets entry complete first. -/
def State.wakePlate (s : State) (source p : Nat) : State :=
  if !s.plateEnabled p then s
  else if s.plateOp p = opRunning ∨ s.plateOp p = opStarting then s
  else if s.enteringQuiet p && !(s.coordinated p && s.quiet.vote == voteArmed && s.afterCommit) then s.cancelQuiet p
  else
    let t := s.wr qmB Reg.qmWakePendPlates (setBit (s.rd qmB Reg.qmWakePendPlates) p true)
    let w : Wake := { source := source, at_ := s.now, late := s.coordinated p && s.afterCommit }
    let u := match Sparse.find? t.wakes p with
      | some _ => t
      | none => { t with wakes := Sparse.ins t.wakes p w }
    if u.plateQuiet p && (u.plate p).stage == .out then
      u.setPlate p { u.plate p with stage := .waitSlot, fromQuiet := true }
    else u

/-- The plates of a mask that are coordinated and quiet or entering quiet mode. -/
def State.coordinatedAsleep (s : State) (plates : Nat) : Nat :=
  forUpTo 8 (fun p n => if bitAt plates p && s.coordinated p && (s.plateQuiet p || s.enteringQuiet p) then n + 2 ^ p else n) 0

/-- WAKE_REQUEST (R669-R673): the source bit is latched, the plates named wake or have their quiet requests cancelled, a
round under way is aborted, and the linked members hear of the coordinated plates. -/
def State.requestWake (s : State) (source plates : Nat) : State :=
  let src := s.rd qmB Reg.qmWakeSrcSrc
  let a := if bitAt src source then s else (s.wr qmB Reg.qmWakeSrcSrc (setBit src source true)).raise qmB evWake
  let coord := a.coordinatedAsleep plates
  let anyCoord := decide ((plates &&& a.rd qmB Reg.qmCoordPlates) ≠ 0)
  let b := if source ≠ wakeEpk ∧ coord ≠ 0 then a.broadcast (.wake coord a.siteNs) else a
  let c := if anyCoord then b.stirRound else b
  forUpTo 8 (fun p t => if bitAt plates p then t.wakePlate source p else t) c

/-- R670, R684: the plate reaches RUNNING: its pending bit clears and QM_LAST_WAKE tells of the wake. -/
def State.wakeDone (s : State) (p : Nat) : State :=
  let t := s.wr qmB Reg.qmWakePendPlates (setBit (s.rd qmB Reg.qmWakePendPlates) p false)
  match Sparse.find? t.wakes p with
  | none => t
  | some w =>
    (((({ t with wakes := Sparse.del t.wakes p }.wr qmB Reg.qmLastWakeSource w.source).wr qmB Reg.qmLastWakePlate p).wrB qmB
      Reg.qmLastWakeAfterCommit w.late).wr qmB Reg.qmLastWakeLatencyUs (min 65535 ((t.now - w.at_) / 1000)))

/-! ### Commands -/

/-- L1_EXIT (R669, R111): the link is in L0 again; the plates of QM_PCIE_WAKE are woken. -/
def execL1Exit (s : State) : Host.Outcome State Fault Refusal :=
  .next (if s.linkUp && s.isSet hpB Reg.hpLinkInL1 then
      (s.wr hpB Reg.hpLinkInL1 0).requestWake wakePcie (s.rd qmB Reg.qmPcieWakePlates)
    else s)

/-- WAKE_REQUEST_WRITE (R669): a host wake of the plates written. -/
def execWakeRequestWrite (fn : Fin 65) (data : Word) (s : State) : Host.Outcome State Fault Refusal :=
  .next (s.mmioWrite fn (qmB + 0x5C) (fun t => t.requestWake wakeHost (bitsOf data.toNat 0 8)))

/-- QUIET_LAPSE (R664): a request older than `lapse_ms` lapses. -/
def execQuietLapse (p : Fin 8) (s : State) : Host.Outcome State Fault Refusal :=
  .next (match Sparse.find? s.quietReqs p with
    | some at_ =>
      if s.enteringQuiet p && decide (at_ + s.rd qmB Reg.qmLapseLapseMs * msNs ≤ s.now) then
        let t := if s.coordinated p then s.stirRound else s
        ((t.cancelQuiet p).bumpSat qmB Reg.qmCountsLapses).raise qmB evLapsed
      else s
    | none => s)

/-- R683: a write of the quiet sheet's HOST_STATE: QUIET stores RUNNING; `mode` stores 0; a hold ends (R73). -/
def State.quietIntent (s : State) (fn data : Nat) : State :=
  if s.mayWriteL qmB (masterOfFn fn) then s.storeIntent qmB (if intentOp data = opOff then opOff else opRunning) 0 else s

/-- QUIET_HOST_STATE_WRITE (R683). -/
def execQuietHostStateWrite (fn : Fin 65) (data : Word) (s : State) : Host.Outcome State Fault Refusal :=
  .next (s.mmioWrite fn (qmB + 0x20) (fun t => t.quietIntent fn data.toNat))

/-! ### Site inputs (R679-R681) -/

/-- R680: an event of input `i`: its EVENT bit and its count; an active event also wakes. -/
def State.siteEvent (s : State) (i : Nat) (active : Bool) : State :=
  let t := (s.raise siB (if active then i else 8 + i)).bumpSat siB Reg.siCountEvents i
  if active then t.requestWake wakeSiteIn (s.rd siB Reg.siCfgWakePlates i) else t

/-- R679, R680: one sample of SITE_IN `i` at pin level `pin`; while stuck its active events are masked (R681). -/
def State.siteSample (s : State) (i : Nat) (pin : Bool) : State :=
  let x := Sparse.get {} s.siteIns i
  let v := pin != s.isSet siB Reg.siCfgActiveLow i
  let deb := s.rd siB Reg.siCfgDebounceMs i
  let run := if x.run ≠ 0 ∧ x.last = v then x.run + 1 else 1
  let y := { x with last := v, run := min run 255 }
  let t := s.wr siB Reg.siStateRaw (setBit (s.rd siB Reg.siStateRaw) i v)
  let quiet := match x.eventAt with
    | some a => decide (s.now < a + deb * msNs)
    | none => false
  if v == x.level || decide (run < deb) || quiet then { t with siteIns := Sparse.put {} t.siteIns i y }
  else
    let z := { y with level := v, eventAt := some s.now, activeAt := if v then s.now else y.activeAt
                      stuck := y.stuck && v }
    let u := { t with siteIns := Sparse.put {} t.siteIns i z }.wr siB Reg.siStateLevel (setBit (s.rd siB Reg.siStateLevel) i v)
    let w := if v then u else u.wr siB Reg.siStateStuck (setBit (u.rd siB Reg.siStateStuck) i false)
    if v && x.stuck then w else w.siteEvent i v

/-- SITE_IN_SAMPLE (R679): the service domain samples the pin; it runs once the sheets are ready. -/
def execSiteInSample (i : Fin 8) (pin : Bool) (s : State) : Host.Outcome State Fault Refusal :=
  .next (if s.chip.sheetsReady && !s.ballsScanned then s.siteSample i pin else s)

/-- SITE_IN_STUCK (R681): an input active for 10 s. -/
def execSiteInStuck (i : Fin 8) (s : State) : Host.Outcome State Fault Refusal :=
  let x := Sparse.get {} s.siteIns i.val
  .next (if x.level && !x.stuck && decide (x.activeAt + 10 * secNs ≤ s.now) then
      (({ s with siteIns := Sparse.put {} s.siteIns i.val { x with stuck := true } }.wr siB Reg.siStateStuck
        (setBit (s.rd siB Reg.siStateStuck) i true)).raise siB (16 + i)).bumpSat siB Reg.siCountStuck i
    else s)

end Sys2Proof.Machine
end

