-- ==== Sys2Proof/Machine/WdCore.lean ====
section
/-! DEFINITION. A watchdog channel's count, window, start and start state (18_watchdog.md R598-R607, R613-R616). -/

namespace Sys2Proof.Machine

def State.wd (s : State) (c : Nat) : Wd := Sparse.get {} s.wds c
def State.setWd (s : State) (c : Nat) (w : Wd) : State := { s with wds := Sparse.put {} s.wds c w }

/-- R602, R617: ticks into the period. -/
def State.wdElapsed (s : State) (c : Nat) : Nat :=
  let w := s.wd c
  if !w.running then 0 else w.heldAt.getD (s.aonTick - w.since)

/-- R601: the open window's length. -/
def wdLength (period window : Nat) (kernel : Bool) : Nat :=
  let l := max 1 (match window with | 0 => period / 8 | 1 => period / 4 | _ => period / 2)
  if kernel then min period (max 4 l) else l

/-- R601, R602: the tick at which the window opens. -/
def Wd.openAt (w : Wd) : Nat := if w.first then 0 else w.period - wdLength w.period w.window w.kernel

/-- Is the window open? -/
def State.wdOpen (s : State) (c : Nat) : Bool :=
  (s.wd c).running && (s.wd c).heldAt.isNone && decide ((s.wd c).openAt ≤ s.wdElapsed c)

/-- R603: the stored period, window and server come into use. -/
def State.wdApply (s : State) (c : Nat) (w : Wd) : Wd :=
  { w with period := s.rd (wdB c) Reg.wdPeriodPeriodMs, window := s.rd (wdB c) Reg.wdPeriodWindow
           kernel := decide (c ≠ 0) && s.isSet (wdB c) Reg.wdCtrlSrc }

/-- R605, R614: the channel starts: `elapsed` 0, n 0, a new challenge, its first period. -/
def State.wdBegin (s : State) (c : Nat) : State :=
  let d := s.drawNat
  let w := d.2.wdApply c { d.2.wd c with
    running := true, since := s.aonTick, first := true, n := 0, chal := d.1 % 65536, announced := false, wakeReq := false
    heldAt := if s.isSet (wdB c) Reg.wdDebugHold then some 0 else none, goodTick := s.aonTick, goodNs := s.siteNs }
  (d.2.setWd c w).raise (wdB c) 2

/-- R616: can the channel run: it supervises the chip or an enabled plate? -/
def State.wdPresent (s : State) (c : Nat) : Bool := c == 0 || s.plateEnabled (c - 1)

/-- R626: the sheet's fields but the kept ones return to their reset values. -/
def State.wdClearFields (s : State) (c : Nat) : State :=
  { s with regs := s.regs.filter (fun e => !((wdB c + 0x40) * 32 ≤ e.1 && e.1 < (wdB c + 0x80) * 32)) }

/-- R613, R615: the start state: OFF, or with the `wd_hw_start` fuse RUNNING with P = 16,384 and window 1/2. -/
def State.wdStartState (s : State) (c : Nat) : State :=
  let t := (s.wdClearFields c).setWd c {}
  if s.fuses.wdHw && s.wdPresent c then t.wdBegin c else t

end Sys2Proof.Machine
end

