-- ==== Sys2Proof/Machine/Blocks.lean ====
section
/-! DEFINITION. What resets clear in each block (R150): the register ranges, and the activity of the blocks behind
them. -/

namespace Sys2Proof.Machine

/-- The register fields at addresses from `lo` up to `hi` return to their reset values, but for those `keep` names. -/
def State.clearRegs (s : State) (lo hi : Nat) (keep : Nat → Bool) : State :=
  { s with regs := s.regs.filter (fun e => !(lo * 32 ≤ e.1 && e.1 < hi * 32) || keep e.1) }

/-- Entries of a store at keys from `lo` up to `hi` return to the default. -/
def dropKeys {α : Type} (lo hi : Nat) (m : Sparse α) : Sparse α := m.filter (fun e => !(lo ≤ e.1 && e.1 < hi))

/-- Does the operation count as unfinished: its status is not written (R106)? Every operation still in the ring list is.
The cells an abandoned operation held are free again, since `used` counts only what is listed (R108). -/
def State.abandonOps (s : State) (t : Nat) : State :=
  let n := (s.ring t).ops.length
  let late := (s.ring t).late ++ (s.ring t).ops.flatMap (fun o => o.reads.map (fun e => (o.idx, e.1)))
  if n = 0 then s.setRing t { (s.ring t) with pos := none }
  else
    let u := (s.setRing t { late := late }).bump hpB Reg.hpCntBAbandoned 0 n
    ((u.bumpSat (tenB t) Reg.tenDmaStatusAbandoned 0 n).raise (tenB t) 2).raise (dmaB (t / 8)) 2

/-- R489, R637, R639: the holdover learning history is cleared. -/
def State.eraseHistory (s : State) : State :=
  { (s.clearRegs (hmB + 0x4C) (hmB + 0x6C) (fun _ => false)).wr hmB Reg.hmStatusLearnH 0 with hold := { epochTick := s.aonTick } }

/-- Boot step 2: in RETURNED the tenant key store is zero and the learning history is cleared (R639); every watchdog channel is
in the start state that its fuse gives (R159, R613). -/
def State.bootSenseActivity (s : State) : State :=
  let t := if s.fuses.lc = 3 then (s.clearRegs (lcB + 0x800) (lcB + 0xC00) (fun _ => false)).eraseHistory else s
  forUpTo 9 (fun c u => u.wdStartState c) t

/-- What a reset leaves of a port's activity: the levels at its pins. -/
def Port.cleared (v : Port) : Port := { abs := v.abs, txFault := v.txFault }

/-- R150, R198: the activity of plate `p`'s blocks is cleared. What the host port still awaits of abandoned reads stays: their
completions are discarded (R101, R106). -/
def State.clearPlateActivity (s : State) (p : Nat) : State :=
  { s with
    gravers := dropKeys (4 * p) (4 * p + 4) s.gravers
    dmaTens := forUpTo 8 (fun i m => Sparse.put {} m (8 * p + i) { late := (s.ring (8 * p + i)).late }) s.dmaTens
    dmaLast := dropKeys p (p + 1) s.dmaLast
    lockSince := dropKeys (winB p) (winB (p + 1)) s.lockSince
    agreeSince := dropKeys (winB p) (winB (p + 1)) s.agreeSince
    shadow48 := dropKeys (winB p) (winB (p + 1)) s.shadow48
    cnt48 := dropKeys (winB p) (winB (p + 1)) s.cnt48
    queues := dropKeys (1024 * p) (1024 * (p + 1)) s.queues
    ports := Sparse.put {} s.ports p (Sparse.get {} s.ports p).cleared
    hatches := Sparse.del s.hatches p
    hatchMem := dropKeys (8192 * p) (8192 * (p + 1)) s.hatchMem
    shapers := dropKeys (8 * p) (8 * p + 8) s.shapers
    shRates := dropKeys (8 * p) (8 * p + 8) s.shRates
    highways := Sparse.del s.highways p
    tks := Sparse.del s.tks p
    ptCaps := Sparse.del s.ptCaps p
    chans := dropKeys (256 * p) (256 * (p + 1)) s.chans
    vec2 := dropKeys (8 * p) (8 * p + 8) s.vec2
    echos := dropKeys (256 * p) (256 * (p + 1)) s.echos
    fastRetry := Sparse.del s.fastRetry p
    medias := dropKeys (256 * p) (256 * (p + 1)) s.medias
    sigs := dropKeys (256 * p) (256 * (p + 1)) s.sigs
    jitters := dropKeys (256 * p) (256 * (p + 1)) s.jitters }

/-- Is the request one of plate `p`? -/
def GrantReq.ofPlate (p : Nat) : GrantReq → Bool
  | .base q | .lane q _ | .impression q => q == p
  | .call g | .echo g => g / 256 == p
  | .epkLane _ => false

/-- What a plate reset does outside the plate: its grants are released and its requests withdrawn (R150), its watchdog
channel returns to its start state (R615), and its mirror streams end (R735). -/
def State.plateResetHooks (s : State) (p : Nat) : State :=
  let t := { s with
    laneGrants := Sparse.del s.laneGrants p, imprGrants := Sparse.del s.imprGrants p
    arb := s.arb.filter (fun q => !GrantReq.ofPlate p q), quietReqs := Sparse.del s.quietReqs p }
  (t.resetPairPlate p).wdStartState (p + 1)

/-- R62 has broken or the holder released the lock of the life-cycle sheet: see `State.release`. R640, R627: the fuses
are sensed; the nonce is drawn (R633); PA_CEIL takes the sensed ceiling (R653). -/
def State.bootSense (s : State) (powerOn : Bool) : State :=
  let a := { s with fuses := s.fusesBlown, draws := s.draws + 2 }
  let b := (a.wr lcB Reg.lcNonceLoNonce (Config.freeNat s.draws)).wr lcB Reg.lcNonceHiNonce (Config.freeNat (s.draws + 1))
  let c := b.wr crB Reg.crBootStep 2
  let d := if powerOn then (c.wr crB Reg.crChipCauseCause 1).bumpSat crB Reg.crChipCauseCount else c
  (d.wr paB Reg.paCeilCeiling s.fusesBlown.ceiling).bootSenseActivity

/-- A clock source is gone: REF_IN is a frequency source of the timebase (R469). -/
def State.clockSourceLost (s : State) (c : ClockSrc) : State := if c = .refIn then s.dropFreq 3 else s

/-- R159 step 4: site time starts at 0 and the timebase enters FREE. -/
def State.startTimebase (s : State) : State := s.tbBoot

/-- EVENT of the hatch scheduler for entry to its own clock (R438). -/
def evFreeRun : Nat := 2

/-- R493, R436: the timekeeper goes onto its own clock, and its plate's hatch cycles with it. -/
def State.goOwn (s : State) (p : Nat) : State :=
  let h : Hatch := Sparse.get {} s.hatches p
  let t := s.setTk p { s.tkCoasting p with own := true, ownFrom := s.now, goodRun := 0 }
  ({ t with hatches := Sparse.put {} t.hatches p { h with freeRun := true, realign := false } }).raise (hsB p) evFreeRun

/-- R495: a timekeeper that starts with its plate stays on its own clock if the host chose that before. -/
def State.tkStarts (s : State) (p : Nat) : State :=
  if s.rd (ptB p) Title.hostOp = opRunning ∧ s.rd (ptB p) Title.hostMode = 2 then s.goOwn p else s

/-- R667: at the wake the counts of the plate's trace checks that are not held are 0. -/
def State.clearTraceCounts (s : State) (p : Nat) : State :=
  let sheet := fun (k : Nat) => decide (winB p * 32 ≤ k ∧ k < winB (p + 1) * 32) && k % 0x20000 == 0x24 * 32 + 4
    && !s.heldAt (k / 32 - 0x24)
  let chan := fun (k : Nat) => decide (chB (256 * p) * 32 ≤ k ∧ k < chB (256 * (p + 1)) * 32) && k % 0x4000 == 0x18 * 32 + 4
    && !s.isSet (k / 32 - 0x18) Reg.chTraceHeld
  { s with regs := s.regs.filter (fun e => !(sheet e.1 || chan e.1)) }

/-- R672 step 3, R436, R495: a plate waking from QUIET has its clock back: its timekeeper adopts site time, so that its hatch scheduler
is not on the plate's own clock unless the host chose it; the plate is STARTING. -/
def State.wakeFromQuiet (s : State) (p : Nat) : State :=
  let h := { Sparse.get {} s.hatches p with freeRun := false }
  let t := ({ s with tks := Sparse.del s.tks p, hatches := Sparse.put {} s.hatches p h }.clearTraceCounts p).wr crB Reg.crPlateRunInReset
    (setBit (s.rd crB Reg.crPlateRunInReset) p false)
  ((t.setPlate p { t.plate p with stage := .out, burnishAt := t.now }).setPlateOp p opStarting).tkStarts p

/-- R734: has a reset of the Epkuone agent a drain that may overrun? -/
def State.agentDraining (s : State) : Bool := s.epk.drainFrom.isSome

/-- R150: the chip-service activity, and that of every plate, which a chip reset clears. -/
def State.chipClearActivity (s : State) : State :=
  { s with
    tb := {}, therms := [], convs := [], feAt := 0, ptCaps := []
    queues := [], ports := s.ports.map (fun e => (e.1, e.2.cleared)) |>.filter (fun e => e.2 != {})
    hatches := [], hatchMem := [], shapers := [], shRates := [], highways := [], tks := [], storeErrs := []
    chans := [], vec2 := [], echos := [], fastRetry := [], medias := [], jitters := [], sigs := []
    arb := [], laneGrants := [], epkGrants := 0, imprGrants := [], quietReqs := [], wakes := [], quiet := {}, siteIns := []
    ekLanes := [], pairs := [], mirrors := [], epk := {}, wds := [], mailbox := {} }

/-- R150, R151: the always-on activity that only a power-on reset clears. -/
def State.aonClearActivity (s : State) : State := { s with hold := {} }

end Sys2Proof.Machine
end

