-- ==== Sys2Proof/Machine/Reads.lean ====
section
/-! DEFINITION. How an aligned 32-bit read of a function is answered (R7, R29, R38, R41, R45, R104, R105, R116), for the reads
that have an effect of their own and for all others. -/

namespace Sys2Proof.Machine

/-- A read completion leaves. -/
def State.answer (s : State) (fn w : Nat) : State := s.emit (.readData fn (BitVec.ofNat 32 w))

/-- An aligned 32-bit read of function `fn` of the PF BAR0 address `oa` (none: unassigned); where it gets through, `f` gives
the word and what the read does. -/
def State.readAt (s : State) (fn : Nat) (oa : Option Nat) (f : State → Nat × State) : State :=
  match s.gate fn oa false with
  | .unreachable => s
  | .unsupported => s.refuseRequest fn true
  | .frozen => (s.countAccess fn).answer fn 0xFFFFFFFF
  | .ignored | .dropped | .slot => (s.countAccess fn).answer fn 0
  | .go _ => (f (s.countAccess fn)).2.answer fn (f (s.countAccess fn)).1

/-- An aligned 32-bit read of function `fn` of PF BAR0 address `a`; nothing is sent where the function has no view of it. -/
def State.mmioRead (s : State) (fn a : Nat) (f : State → Nat × State) : State :=
  if fnReaches fn a then s.readAt fn (some a) f else s

end Sys2Proof.Machine
end

