-- ==== Sys2Proof/Machine/Freeze.lean ====
section
/-! DEFINITION. The freeze unit's commands (17_masters_freeze.md): unfreezing, the end of a PF freeze, reading records,
and drains that overrun. -/

namespace Sys2Proof.Machine

/-- R586: the lock holder's write ends the freeze of a frozen master other than the PF when `seq` is that of its current
record; any other write is ignored and counted. The unfrozen
Epkuone agent leaves every paired plate unprotected (R733). -/
def State.unfreezeEffect (s : State) (fn : Nat) (data : Nat) : State :=
  let m := data % 256
  let cur := (Sparse.find? s.frzCur m).map FrzRec.seq
  if s.mayWriteL fzB (masterOfFn fn) && s.isFrozen m && m != 1 && cur == some (bitsOf data 16 16) then
    if m = masterEpk then (s.unfreeze m).dropAllProt else s.unfreeze m
  else s.bumpSat fzB Reg.fzCountsUnfreezeIgnored

/-- UNFREEZE_WRITE (R586, R587). -/
def execUnfreezeWrite (fn : Fin 65) (data : Word) (s : State) : Host.Outcome State Fault Refusal :=
  .next (s.mmioWrite fn (fzB + 0x60) (fun t => t.unfreezeEffect fn data.toNat))

/-- PF_FREEZE_EXPIRE (R588): the PF's freeze ends at the `pf_hold_ms`-th always-on tick that begins after it. -/
def execPfFreezeExpire (s : State) : Host.Outcome State Fault Refusal :=
  .next (if s.isFrozen 1 && decide (s.rd fzB Reg.fzPfHoldPfHoldMs ≤ s.aonTick - s.pfFrozenTick) then s.unfreeze 1 else s)

/-- The six words of a record as the registers lay them out (R597). -/
def FrzRec.words (r : FrzRec) : List Nat :=
  [r.master + r.kind * 2 ^ 8 + r.access * 2 ^ 12 + b2n r.frozen * 2 ^ 15 + (r.plate.getD 0) * 2 ^ 16
     + b2n r.plate.isSome * 2 ^ 19,
   r.addrLo, r.addrHi, r.ns, r.sec, r.seq + r.repeats * 2 ^ 16]

/-- R584: the read captures all six words of the selected master's record, or of a history entry, and answers the first. -/
def State.recordReadEffect (s : State) (sel : Option (Fin 16)) : Nat × State :=
  match sel with
  | none =>
    let r := Sparse.get {} s.frzCur (s.rd fzB Reg.fzSelMaster)
    (r.words.headD 0, { s with frzCap := r })
  | some h =>
    let r := Sparse.get {} s.frzHist h.val
    (r.words.headD 0, { s with frzHistCap := Sparse.put {} s.frzHistCap h.val r })

/-- Where FZ_REC0 or word 0 of a history entry lies (R597). -/
def recordAddr (sel : Option (Fin 16)) : Nat :=
  match sel with
  | none => fzB + 0x44
  | some h => fzB + 0x100 + 0x20 * h

/-- FREEZE_RECORD_READ (R584): a read of FZ_REC0 or of word 0 of history entry `sel`; the PF's reads complete normally even
while it is frozen (R580). -/
def execFreezeRecordRead (fn : Fin 65) (sel : Option (Fin 16)) (s : State) : Host.Outcome State Fault Refusal :=
  .next (s.mmioRead fn (recordAddr sel) (fun t => t.recordReadEffect sel))

end Sys2Proof.Machine
end

