-- ==== Sys2Proof/Machine/HostPort.lean ====
section
/-! DEFINITION. The host port (03_host_port.md): intents of the host port and tenant sheets, SR-IOV, FLR, power states,
errors, link and MSI-X, notes. -/

namespace Sys2Proof.Machine

/-- R119: width and speed codes that name a combination the port has; any other mode stores 0x00. -/
def linkMode (m : Nat) : Nat :=
  let w := m % 16
  let sp := m / 16
  if (w = 1 ∨ w = 2 ∨ w = 4) ∧ (sp = 1 ∨ sp = 2 ∨ sp = 3) then m else 0

/-- R73, R119: the lock holder's write records the intended width and speed and ends a hold; the link does not change. -/
def State.hostPortIntent (s : State) (fn data : Nat) : State :=
  if s.mayWriteL hpB (masterOfFn fn) then s.storeIntent hpB (intentOp data) (linkMode (bitsOf data 8 8)) else s

/-- HOST_PORT_HOST_STATE_WRITE (R119). -/
def execHostPortHostStateWrite (fn : Fin 65) (data : Word) (s : State) : Host.Outcome State Fault Refusal :=
  .next (s.mmioWrite fn (hpB + 0x20) (fun t => t.hostPortIntent fn data.toNat))

/-- R123: the PF as lock holder sets the tenant's intent to OFF or RUNNING, mode 0x00, and ends a hold. -/
def State.tenantIntent (s : State) (fn t data : Nat) : State :=
  if fn = 0 && s.mayWriteL (tenB t) (masterOfFn fn) then
    s.storeIntent (tenB t) (if data % 16 = opRunning then opRunning else opOff) 0
  else s

/-- TENANT_HOST_STATE_WRITE (R123). -/
def execTenantHostStateWrite (fn : Fin 65) (t : Fin 64) (data : Word) (s : State) : Host.Outcome State Fault Refusal :=
  .next (s.mmioWrite fn (tenB t + 0x20) (fun u => u.tenantIntent fn t data.toNat))

/-! ### Function level reset (R106-R110) -/

/-- Step 1 of R108: requests get Unsupported Request, HP_FLR shows it, locks break. -/
def State.flrBegin (s : State) (fn : Nat) : State :=
  { s with flrs := Sparse.ins s.flrs fn { start := s.now } }.breakLocksOf (masterOfFn fn)

/-- Step 3 of R108 for one VF: its unfinished operations are abandoned and their cells returned. -/
def State.flrDrain (s : State) (fn : Nat) : State :=
  let t := match Sparse.find? s.flrs fn with
    | some f => { s with flrs := Sparse.ins s.flrs fn { f with drained := true } }
    | none => s
  if fn = 0 then t else t.abandonOps (fn - 1)

/-- R107, R126: the fields whose Writer is VF return to their reset values. -/
def State.clearVfFields (s : State) (t : Nat) : State :=
  ((s.wr (tenB t) Reg.tenDmaCtrlDmaEn 0).wr (tenB t) Reg.tenDmaCtrlRoEn 0).wr (tenB t) Reg.tenVfNoteNote 0

/-- R107: MSI-X table and PBA of a function return to reset. -/
def State.clearMsix (s : State) (fn : Nat) : State := { s with msix := dropKeys (64 * fn) (64 * fn + 64) s.msix }

/-- Step 4 of R108: VF-written fields, MSI-X and configuration space are reset, or the PF's (R109); HP_FLR clears. -/
def State.flrEnd (s : State) (fn : Nat) : State :=
  let t := { s with flrs := Sparse.del s.flrs fn, aers := Sparse.del s.aers fn }.clearMsix fn
  if fn = 0 then { t with pf := {} } else { t with vfs := Sparse.del t.vfs fn }.clearVfFields (fn - 1)

/-- R106, R107: the effects of an FLR on a VF that stops being live, taken together. An FLR of the VF that is in progress ends
with them, and raises no `flr_done` (log entry 30). -/
def State.vfStops (s : State) (n : Nat) : State := ((s.flrBegin n).flrDrain n).flrEnd n

/-- A VF of a plate that is disabled by fuse stops existing: its configuration space and MSI-X state are as new (R93). -/
def State.vfGone (s : State) (n : Nat) : State :=
  { s with vfs := Sparse.del s.vfs n, aers := Sparse.del s.aers n, flrs := Sparse.del s.flrs n }.clearMsix n

/-- R110: every VF that was live before and is not live now undergoes the FLR effects. -/
def State.stopVfs (before s : State) : State :=
  forUpTo 64 (fun t u =>
    if before.vfLive (t + 1) && !s.vfLive (t + 1) then u.vfStops (t + 1)
    else if before.fnExists (t + 1) && !s.fnExists (t + 1) then u.vfGone (t + 1) else u) s

/-- R90, R110: NumVFs stores at most TotalVFs. -/
def State.numVfsEffect (s : State) (n : Nat) : State :=
  s.stopVfs { s with pf := { s.pf with numVfs := min n s.fuses.vfLimit } }

/-- Does the configuration space answer: boot step 8 has ended and the link is up (R160)? -/
def State.cfgAnswers (s : State) : Bool := s.chip.sheetsReady && s.linkUp

/-- A configuration request of function `fn` whose effect is `f`: until boot step 8 ends it gets Configuration Request Retry
Status (R160); a function that does not exist, or whose FLR is in progress, gets Unsupported Request (R93, R105). -/
def State.cfgRequest (s : State) (fn : Nat) (f : State → State) : State :=
  if !s.linkUp then s
  else if !s.chip.sheetsReady then s.emit (.cfgRetry fn)
  else if !s.fnExists fn || s.flrBusy fn then s.refuseRequest fn true
  else f s

/-- NUMVFS_WRITE (R90). -/
def execNumvfsWrite (n : Nat) (s : State) : Host.Outcome State Fault Refusal :=
  .next (s.cfgRequest 0 (fun t => t.numVfsEffect (n % 2 ^ 16)))

/-- R110, R121: VF Enable goes to 0. -/
def State.vfEnableOff (s : State) : State :=
  if s.pf.vfEnable then (s.stopVfs { s with pf := { s.pf with vfEnable := false } }).raise hpB 6 else s

/-- VF_ENABLE_CLEAR (R110). -/
def execVfEnableClear (s : State) : Host.Outcome State Fault Refusal :=
  .next (s.cfgRequest 0 State.vfEnableOff)

/-- R92, R121: VF Enable goes to 1. -/
def State.vfEnableOn (s : State) : State :=
  if s.pf.vfEnable then s else { s with pf := { s.pf with vfEnable := true } }.raise hpB 6

/-- VF_ENABLE_SET (R92). -/
def execVfEnableSet (s : State) : Host.Outcome State Fault Refusal :=
  .next (s.cfgRequest 0 State.vfEnableOn)

/-- VF_FLR (R106): Initiate FLR written in VF t + 1's configuration space. A VF answers configuration requests while VF
Enable is 1 and its number is at most NumVFs, whether or not its plate is enabled (R93). -/
def execVfFlr (t : Fin 64) (s : State) : Host.Outcome State Fault Refusal :=
  .next (s.cfgRequest (t + 1) (fun u => u.flrBegin (t + 1)))

/-- R110: the PF's reset takes VF Enable to 0, which raises `vf_enable_change` (log entry 20). -/
def State.clearVfEnable (s : State) : State :=
  if s.pf.vfEnable then State.raise { s with pf := { s.pf with vfEnable := false } } hpB 6 else s

/-- R109, R121, step 1: the PF's FLR begins, and with it the FLR of every VF that is live; VF Enable is cleared, which is a
change of it. -/
def State.pfFlrBegin (s : State) : State :=
  (forUpTo 64 (fun v u => if s.vfLive (v + 1) && !u.flrBusy (v + 1) then
      let w := u.flrBegin (v + 1)
      { w with flrs := Sparse.ins w.flrs (v + 1) { start := w.now, withPf := true } }
    else u) (s.flrBegin 0)).clearVfEnable

/-- PF_FLR (R109). -/
def execPfFlr (s : State) : Host.Outcome State Fault Refusal :=
  .next (s.cfgRequest 0 State.pfFlrBegin)

/-- The FLRs that an FLR of function `fn` takes with it: its own, and for the PF those begun with it (R109). -/
def State.flrGroup (s : State) (fn : Nat) : List Nat :=
  (s.flrs.filter (fun e => e.1 == fn || (fn == 0 && e.2.withPf))).map Prod.fst

/-- FLR_DRAIN_COMPLETE (R108 step 3, R109). -/
def execFlrDrainComplete (fn : Fin 65) (s : State) : Host.Outcome State Fault Refusal :=
  .next (match Sparse.find? s.flrs fn with
    | some f => if f.drained || f.withPf then s else forEach (s.flrGroup fn) (fun n t => t.flrDrain n) s
    | none => s)

/-- FLR_COMPLETE (R108 step 4, R109, R121): a drained FLR completes and `flr_done` is set, once. -/
def execFlrComplete (fn : Fin 65) (s : State) : Host.Outcome State Fault Refusal :=
  .next (match Sparse.find? s.flrs fn with
    | some f =>
      if f.drained && !f.withPf then (forEach (s.flrGroup fn) (fun n t => t.flrEnd n) s).raise hpB 8 else s
    | none => s)

/-! ### Power states of the PF (R111) -/

/-- Vectors of a function. -/
def vectorsOf (fn : Nat) : Nat := if fn = 0 then 64 else 4

/-- R114: messages that a mask held back are sent where nothing holds them back any more. -/
def State.sendPending (s : State) (fn : Nat) : State :=
  forUpTo (vectorsOf fn) (fun v t =>
    if (t.vector fn v).pba && !t.vecMasked fn v && t.msixAllowed fn then
      (t.setVector fn v { t.vector fn v with pba := false }).emit (.msix fn v)
    else t) s

/-- R111: the PF enters D3hot. -/
def State.toD3hot (s : State) : State := { s with pf := { s.pf with d3hot := true } }

/-- R111: the PF returns to D0: device state is intact; a message that only D3hot held back is sent. -/
def State.toD0 (s : State) : State := { s with pf := { s.pf with d3hot := false } }.sendPending 0

/-- D3HOT_ENTRY (R111). -/
def execD3hotEntry (s : State) : Host.Outcome State Fault Refusal := .next (s.cfgRequest 0 State.toD3hot)

/-- D0_RETURN (R111). -/
def execD0Return (s : State) : Host.Outcome State Fault Refusal := .next (s.cfgRequest 0 State.toD0)

/-! ### Errors (R101, R115) -/

/-- R194: operation `id` of the ring ends with a status; it waits for its turn to be written. -/
def State.endOp (s : State) (t id status doneLen : Nat) : State :=
  let r := s.ring t
  let mine := fun (o : DmaOp) => o.id == id && (o.phase == .inFlight || o.phase == .pending)
  s.setRing t { r with
    ops := r.ops.map (fun o => if mine o then
      { o with phase := .ended, status := status, doneLen := doneLen, cells := if o.toHost then o.cells else 0,
               reads := [], got := [], data := [] } else o)
    late := r.late ++ (r.ops.filter mine).flatMap (fun o => o.reads.map (fun e => (o.idx, e.1))) }

/-- The operation that the host's completion for ring slot `idx` of tenant `t` reaches: the oldest in flight from that slot that has
had a read outstanding for `ns` nanoseconds. -/
def State.waitingOp (s : State) (t idx ns : Nat) : Option DmaOp :=
  (s.ring t).ops.find? (fun o => o.idx == idx && o.phase == .inFlight && o.reads.any (fun e => decide (e.2.2 + ns ≤ s.now)))

/-- R101: the range of the completion timeout, ns, that Completion Timeout Value selects: the default range, or one of the ranges
A and B, as PCI Express lays them out (log entry 12). -/
def ctoRange (code : Nat) : Nat × Nat :=
  match code with
  | 1 => (50000, 100000)
  | 2 => (1000000, 10000000)
  | 5 => (16000000, 55000000)
  | 6 => (65000000, 210000000)
  | _ => (50000, 50000000)

/-- R101, R115: a read of tenant `t` has timed out: counted, announced and logged. -/
def State.noteTimeout (s : State) (t : Nat) : State :=
  ((s.bump hpB Reg.hpCntACplTimeout).raise hpB 4).logAer (t + 1) .completionTimeout

/-- R115: a poisoned TLP addressed to function `fn` is counted and logged. -/
def State.notePoisoned (s : State) (fn : Nat) : State := (s.bump hpB Reg.hpCntBPoisonedRx).logAer fn .poisoned

/-- R101: unless timeouts are disabled, an operation that has had a read outstanding for `ns` nanoseconds times out. -/
def State.timeOutAfter (s : State) (t idx ns : Nat) : State :=
  if s.pf.ctoDisable then s
  else match s.waitingOp t idx ns with
    | some o => (s.endOp t o.id 5 0).noteTimeout t
    | none => s

/-- R101: a read in flight may time out from the low end of the range on. -/
def State.completionTimeoutEffect (s : State) (t idx : Nat) : State := s.timeOutAfter t idx (ctoRange s.pf.ctoValue).1

/-- R101: past the high end of the range it has timed out, whatever arrives. -/
def State.overdueTimeout (s : State) (t idx : Nat) : State := s.timeOutAfter t idx ((ctoRange s.pf.ctoValue).2 + 1)

/-- COMPLETION_TIMEOUT (R101). -/
def execCompletionTimeout (t : Fin 64) (idx : Nat) (s : State) : Host.Outcome State Fault Refusal :=
  .next (s.completionTimeoutEffect t idx)

/-- POISONED_TLP_RECEIVED (R115): an MMIO write is dropped without a violation; a DMA read ends `poisoned`. -/
def execPoisonedTlpReceived (tlp : RxTlp) (s : State) : Host.Outcome State Fault Refusal :=
  .next (if !s.linkUp then s else match tlp with
    | .mmioWrite fn => s.notePoisoned fn
    | .completion t idx =>
      let u := s.notePoisoned (t + 1)
      match u.waitingOp t idx 0 with
      | some o => u.endOp t o.id 6 0
      | none => u)

/-- ECRC_ERROR (R84, R115): while the host has enabled the check, the TLP is dropped, logged, and handled as if lost, so a lost
completion leaves its read waiting; otherwise nobody sees the error (log entry 92). -/
def execEcrcError (tlp : RxTlp) (s : State) : Host.Outcome State Fault Refusal :=
  .next (if !s.linkUp || !(s.aerOf 0).ecrcCheck then s else match tlp with
    | .mmioWrite fn => s.logAer fn .ecrc
    | .completion t _ => s.logAer (t + 1) .ecrc)

/-- What a link-layer error is logged as. -/
def linkAer : LinkError → AerError
  | .receiver => .receiver | .badTlp => .badTlp | .badDllp => .badDllp | .replayTimer => .replayTimer
  | .replayRollover => .replayRollover | .dataLink => .protocol | .flowControl => .flowControl

/-- LINK_PROTOCOL_ERROR (R115, R119): a fatal one is logged and the link retrains, so the port reports STARTING; from a correctable
one, logged too, the link layer recovers (log entry 32). -/
def execLinkProtocolError (error : LinkError) (s : State) : Host.Outcome State Fault Refusal :=
  .next (if s.linkUp then
      let t := s.logAer 0 (linkAer error)
      if (linkAer error).correctable then t else t.setOp hpB opStarting
    else s)

/-- MALFORMED_TLP (R115): a malformed TLP or a receiver overflow is logged as fatal and dropped. -/
def execMalformedTlp (overflow : Bool) (s : State) : Host.Outcome State Fault Refusal :=
  .next (if s.linkUp then s.logAer 0 (if overflow then .overflow else .malformed) else s)

/-! ### Link (R119, R121) -/

/-- May the host port train: REFCLK present, PERST_N high, boot step 4 passed (R132, R160)? -/
def State.mayTrain (s : State) : Bool :=
  s.chip.refclk.present && s.pins.perstN && s.chip.power != .por && s.chip.power != .chipReset
    && decide (4 ≤ s.rd crB Reg.crBootStep)

/-- LINK_TRAINED (R119, R121): the link reaches L0 with a width and a speed the port has. -/
def execLinkTrained (width speed : BitVec 4) (s : State) : Host.Outcome State Fault Refusal :=
  let m := linkMode (width.toNat + 16 * speed.toNat)
  if m = 0 ∨ !s.mayTrain then .next s
  else
    let wasUp := s.isSet hpB Reg.hpLinkUp
    let changed := s.rd hpB Reg.hpLinkWidth != width.toNat || s.rd hpB Reg.hpLinkSpeed != speed.toNat
    let t := ((((s.wr hpB Reg.hpLinkWidth width.toNat).wr hpB Reg.hpLinkSpeed speed.toNat).wr hpB Reg.hpLinkUp 1).setOp
      hpB opRunning).wr hpB Title.stateMode m
    let u := { t with pins := { t.pins with pcieTxIdle := false } }
    .next (if wasUp then (if changed then u.raise hpB 2 else u) else u.raise hpB 1)

/-- ASPM_L1_ENTRY (R84, R119): where Link Control enables ASPM L1 (bit 1, log entry 12), the link enters it; the host port stays
RUNNING. -/
def execAspmL1Entry (s : State) : Host.Outcome State Fault Refusal :=
  .next (if s.linkUp && bitAt (s.pfWord 0x70) 1 then s.wr hpB Reg.hpLinkInL1 1 else s)

/-! ### MSI-X (R114) -/

/-- MSIX_UNMASK (R114): a pending message is sent when its vector is unmasked. -/
def State.msixUnmaskEffect (s : State) (fn vec : Nat) : State :=
  let e := s.vector fn vec
  let t := s.setVector fn vec { e with masked := false }
  if e.pba && !t.vecMasked fn vec && t.msixAllowed fn then
    (t.setVector fn vec { e with masked := false, pba := false }).emit (.msix fn vec)
  else t

/-- MSIX_UNMASK (R114): the write reaches the table in the function's BAR2; a frozen function's write does not. -/
def execMsixUnmask (fn : Fin 65) (vec : Nat) (s : State) : Host.Outcome State Fault Refusal :=
  .next (if !s.linkUp then s
    else if !s.fnAnswers fn then s.refuseRequest fn false
    else if fn.val != 0 && !s.plateEnabled ((fn.val - 1) / 8) then s
    else if s.isFrozen (masterOfFn fn) then s.countRepeat (masterOfFn fn)
    else if vec < (if fn.val = 0 then 64 else 4) then s.msixUnmaskEffect fn vec else s)

/-! ### Notes and paired registers (R122, R126) -/

/-- R126, R121: the VF's message is stored, its HP_NOTE bit sets and `vf_note` is set. -/
def State.vfNoteEffect (s : State) (t : Nat) (note : Nat) : State :=
  let u := s.wr (tenB t) Reg.tenVfNoteNote note
  { u with notes := setBit u.notes t true }.raise hpB 7

/-- VF_NOTE_WRITE (R126). -/
def execVfNoteWrite (t : Fin 64) (note : Word) (s : State) : Host.Outcome State Fault Refusal :=
  .next (s.mmioWrite (t + 1) (tenB t + 0x5C) (fun u => u.vfNoteEffect t note.toNat))

/-- R126, R127: the PF's message is stored and `pf_note` is set. -/
def State.pfNoteEffect (s : State) (t : Nat) (note : Nat) : State :=
  (s.wr (tenB t) Reg.tenPfNoteNote note).raise (tenB t) 0

/-- PF_NOTE_WRITE (R126). -/
def execPfNoteWrite (t : Fin 64) (note : Word) (s : State) : Host.Outcome State Fault Refusal :=
  .next (s.mmioWrite 0 (tenB t + 0x58) (fun u => u.pfNoteEffect t note.toNat))

/-- The 64 bits of a pair: VFs frozen, notes, FLRs in progress (R120). -/
def State.pairValue (s : State) : Pair → Nat
  | .frozen => forUpTo 64 (fun t n => if s.isFrozen (0x41 + t) then n + 2 ^ t else n) 0
  | .note => s.notes
  | .flr => forUpTo 64 (fun t n => if s.flrBusy (t + 1) then n + 2 ^ t else n) 0

/-- Offset of a pair's LO word and its place among the captures. -/
def pairOff : Pair → Nat
  | .frozen => 0x5C
  | .note => 0x64
  | .flr => 0x6C

/-- R122: the read of the LO word returns it and captures the HI word. -/
def State.pairLoEffect (s : State) (p : Pair) : Nat × State :=
  let v := s.pairValue p
  (v % 2 ^ 32, { s with pairHi := Sparse.put 0 s.pairHi (pairOff p) (v / 2 ^ 32) })

/-- HP_PAIR_LO_READ (R122). -/
def execHpPairLoRead (fn : Fin 65) (pair : Pair) (s : State) : Host.Outcome State Fault Refusal :=
  .next (s.mmioRead fn (hpB + pairOff pair) (fun t => t.pairLoEffect pair))

end Sys2Proof.Machine
end

