-- ==== Sys2Proof/Machine/Resets.lean ====
section
/-! DEFINITION. The resets (04_clocks_resets_startup.md R142-R158): power-on, chip, host port and plate reset, what each
records, clears and keeps (R150), and the outputs they drive (R153). -/

namespace Sys2Proof.Machine

/-! ### Plate reset (R155, R198) -/

/-- Causes of CR_PLATE_CAUSE (R167). -/
def causePlatePf : Nat := 1
def causePlateWatchdog : Nat := 2
def causePlateFabric : Nat := 3
def causePlateFault : Nat := 4
def causePlateClock : Nat := 5

/-- R64, R126, R202: the fields of a plate window that a plate reset keeps: the lock-break record of every sheet,
`PL_FAULT`, and each tenant's `freeze_count`. Of the descriptors it keeps CH_OWNER (R237). -/
def keptByPlateReset (p key : Nat) : Bool :=
  let a := key / 32
  let o := a % 0x1000
  (match sheetAt (a / 0x1000 * 0x1000) with
    | some (k, _) => k.lockable && ((o == 0x18 && key % 32 == 8) || (o == 0x1C && key % 32 == 8))
    | none => false)
  || a == plB p + 0x48
  || ((List.range 8).any (fun i => a == tenB (p * 8 + i) + 0x60) && key % 32 == 8)

/-- The sheet bases of plate `p`'s window whose lock is held. -/
def State.lockedInPlate (s : State) (p : Nat) : List Nat :=
  (s.lockSince.map Prod.fst).filter (fun b => winB p ≤ b && b < winB (p + 1))

/-- R64: EVENT of the window's sheets keeps only `lock_broken`. -/
def State.keepLockBroken (s : State) (p : Nat) (before : State) : State :=
  forEach (before.regs.filter (fun e => winB p ≤ e.1 / 32 && e.1 / 32 < winB (p + 1) && e.1 / 32 % 0x1000 == 0x10
      && bitAt e.2 evLockBroken && (sheetAt (e.1 / 32 - 0x10)).isSome))
    (fun e t => t.wr (e.1 / 32 - 0x10) Title.event (2 ^ evLockBroken)) s

/-- R585: the freezes of the plate's gravers and DMA end, and `EVENT.unfreeze` is set if there was one. -/
def State.endPlateFreezes (s : State) (p : Nat) : State :=
  let mine := s.frozen.filter (fun m => m == masterDma p || (masterGraver p 0 ≤ m && m ≤ masterGraver p 3))
  if mine.isEmpty then s
  else
    (forEach mine (fun m (t : State) => t.amendRecord m (fun r => { r with frozen := false }))
      { s with frozen := s.frozen.filter (fun m => !mine.contains m) }).raise fzB 1

/-- R155 steps 2 and 3, R198: everything of plate `p` is drained and cleared. -/
def State.clearPlate (s : State) (p : Nat) : State :=
  let a := forUpTo 8 (fun i t => t.abandonOps (8 * p + i)) s
  let b := forEach (a.lockedInPlate p) (fun x t => t.breakLock x) a
  let c := ((b.clearRegs (winB p) (winB (p + 1)) (keptByPlateReset p)).clearRegs (chB (256 * p)) (chB (256 * (p + 1)))
    (fun k => k / 32 % 0x200 == 0)).keepLockBroken p b
  (c.endPlateFreezes p).clearPlateActivity p

/-- R157: is a plate reset request taken: the plate is out of reset, or waking from QUIET? -/
def State.takesPlateReset (s : State) (p : Nat) : Bool :=
  s.plateEnabled p && ((s.plate p).stage == .out || (s.plate p).fromQuiet) && s.chip.power != .por
    && s.chip.power != .chipReset

/-- R167: cause, count and tick of a plate reset. -/
def State.recordPlateCause (s : State) (p cause : Nat) : State :=
  ((s.wr crB Reg.crPlateCauseCause cause p).bumpSat crB Reg.crPlateCauseCount p).wr crB Reg.crPlateCauseTick s.aonTick p

/-- R153, R155: a plate reset with the given cause, through step 3; it then waits for its wake slot. Its port recovers no clock, so
that a SyncE source on it is lost (R167, R469). The plate stays powered, its PLL locked, until the wake slot (log entry 97). -/
def State.plateReset (s : State) (p cause : Nat) : State :=
  if !s.takesPlateReset p then s
  else
    let a := (((s.recordPlateCause p cause).releasePlate p).clearPlate p).plateResetHooks p
    let r := if a.rd tbB Reg.tbPriSyncePort = p then a.dropFreq 2 else a
    let b := (((r.setPlate p { stage := .waitSlot, faultReset := cause = causePlateFault, ticks := (s.plate p).ticks }).wr crB
      Reg.crPlateRunInReset (setBit (s.rd crB Reg.crPlateRunInReset) p true)).wr crB Reg.crClkMonMacRx
      (setBit (s.rd crB Reg.crClkMonMacRx) p false)).raise (plB p) 0
    ({ b with pins := { b.pins with
      macTxIdle := setBit b.pins.macTxIdle p true
      tdmHiZ := setBit b.pins.tdmHiZ p true
      tdmSyncHiZ := setBit b.pins.tdmSyncHiZ p true } }).raise siteB 0

/-- R186: a plate fault: PL_FAULT keeps its detail through the plate reset. -/
def State.plateFault (s : State) (p cause graver line : Nat) : State :=
  if !s.takesPlateReset p then s
  else (((s.wr (plB p) Reg.plFaultCause cause).wr (plB p) Reg.plFaultGraver graver).wr (plB p) Reg.plFaultLine line).plateReset
    p causePlateFault

/-! ### Chip and power-on reset (R142, R154, R785) -/

/-- Fields that a chip reset keeps: the straps (R146), the cause records (R167), the always-on contents (R151): watchdog
evidence and the lock-break record of the always-on sheets (R63), latched wake sources, the learning history and the EFC
code (R152). -/
def keptByChipReset (key : Nat) : Bool :=
  let a := key / 32
  (a == crB + 0x40) || (a == crB + 0x58) || (crB + 0x60 ≤ a && a < crB + 0x80)
  || (0x10000 ≤ a && a < 0x19000 &&
      ((0x80 ≤ a % 0x1000 && a % 0x1000 < 0xB0) || (a % 0x1000 == 0x18 && key % 32 == 8)
        || (a % 0x1000 == 0x1C && key % 32 == 8)))
  || (a == qmB + 0x60)
  || (a == hmB + 0x44 && key % 32 == 16) || a == hmB + 0x4C || (hmB + 0x50 ≤ a && a < hmB + 0x6C)
  || (a == tbB + 0xB8 && key % 32 == 0) || (a == feB + 0x70 && key % 32 == 0)

/-- R62, R63: on the always-on sheets a held lock breaks, and the break record stays; `EVENT` keeps `lock_broken` only. -/
def State.breakAonLocks (s : State) : State := forUpTo 9 (fun c t => t.breakLock (wdB c)) s

/-- Causes of CR_CHIP_CAUSE (R167). -/
def causeChipPor : Nat := 1
def causeChipPf : Nat := 2
def causeChipWatchdog : Nat := 3
def causeChipPerst : Nat := 4
def causeChipSupply : Nat := 5

/-- R167: cause, count and tick of a chip-level reset. -/
def State.recordChipCause (s : State) (cause : Nat) : State :=
  ((s.wr crB Reg.crChipCauseCause cause).bumpSat crB Reg.crChipCauseCount).wr crB Reg.crChipCauseTick s.aonTick

/-- R150, R154: everything outside the always-on domain and the island goes to its reset state. -/
def State.chipClear (s : State) : State :=
  let b := s.breakAonLocks
  let lb := (List.range 9).filter (fun c => bitAt (b.rd (wdB c) Title.event) evLockBroken)
  let c := forEach lb (fun i t => t.wr (wdB i) Title.event (2 ^ evLockBroken)) (b.clearRegs 0 0x4000000 keptByChipReset)
  { c with
    pf := {}, vfs := [], msix := [], aer := [], aers := [], flrs := [], pairHi := [], notes := 0,
    lockSince := [], agreeSince := [], shadow48 := [], cnt48 := [],
    frozen := [], frzCur := [], frzHist := [], frzSeq := 0, frzCap := {}, frzHistCap := [],
    plates := [], gravers := [], dmaTens := [], dmaLast := [],
    life := {},
    chip := { c.chip with sheetsReady := false, lastWake := none, patch := none },
    pins := { c.pins with almN := false, clkOut := c.chip.oscIn.present, pcieTxIdle := true, epkTxIdle := true,
                          macTxIdle := 0xFF, tdmHiZ := 0xFF, tdmSyncHiZ := 0xFF, flCsN := true, flClk := false } }.chipClearActivity

/-- R154: a source of chip reset; a further source before the release starts the sequence again (R785); one during a
power-on reset is ignored. -/
def State.chipReset (s : State) (cause : Nat) : State :=
  if s.chip.power = .por then s
  else
    let again := s.chip.power == .chipReset
    let t := (forUpTo 8 (fun p u => u.releasePlate p) (s.recordChipCause cause)).chipClear
    { t with chip := { t.chip with power := .chipReset, rstAt := s.now,
                                   rstSupply := (again && s.chip.rstSupply) || cause == causeChipSupply,
                                   rstPerst := (again && s.chip.rstPerst) || cause == causeChipPerst } }

/-- R142, R150: a power-on reset: the chip is cleared with the always-on contents too; EFC_OUT goes to mid-scale. -/
def State.powerOnReset (s : State) : State :=
  let t := s.chipClear
  { { t with regs := [] }.aonClearActivity with
    chip := { t.chip with power := .por, rstSupply := false, rstPerst := false },
    pins := { t.pins with clkOut := false } }

/-! ### Host port reset (R149) -/

/-- R149, R119: the link is back at its reset state; it trains again where it may. -/
def State.linkReset (s : State) : State :=
  let w := ((((s.wr hpB Reg.hpLinkWidth 0).wr hpB Reg.hpLinkSpeed 0).wr hpB Reg.hpLinkUp 0).wr hpB Reg.hpLinkInL1 0).wr hpB
    Title.stateMode 0
  { w.setOp hpB (if w.mayTrain then opStarting else opOff) with pins := { w.pins with pcieTxIdle := true } }

/-- R149: the effects of a PF FLR, taken together, every FLR in progress ending with it, the configuration space and MSI-X state
of every VF as new, and the link back at its reset state; `flr_done` says so once (R109). -/
def State.hostPortReset (s : State) : State :=
  let t := s.pfFlrBegin
  let u := forEach (t.flrs.map Prod.fst) (fun n v => (v.flrDrain n).flrEnd n) t
  { u with vfs := [], msix := [], aers := [] }.linkReset.raise hpB 8

/-- The data link goes down: every operation of every function is abandoned and the event counted (R108, R121). -/
def State.linkGoesDown (s : State) : State :=
  if !s.isSet hpB Reg.hpLinkUp then s
  else ((forUpTo 64 (fun t u => u.abandonOps t) s).bump hpB Reg.hpCntCLinkDown).raise hpB 0

end Sys2Proof.Machine
end

