-- ==== Sys2Proof/Machine/ChanOps.lean ====
section
/-! DEFINITION. What every channel family uses (06_channels.md): costs, the path state as a view (R227), channel events
and vector 2 (R235, R236), and what the plate's channels hold (R175, R654-R658). -/

namespace Sys2Proof.Machine

/-- Has the request been served at its tick, its result not yet posted? -/
def ChRequest.served (r : ChRequest) : Bool := r.asked || r.noPower


/-- Channel with global number `g`. -/
def State.chan (s : State) (g : Nat) : Chan := Sparse.get {} s.chans g
def State.modChan (s : State) (g : Nat) (f : Chan → Chan) : State :=
  { s with chans := Sparse.put {} s.chans g (f (Sparse.get {} s.chans g)) }
def State.setChan (s : State) (g : Nat) (c : Chan) : State := { s with chans := Sparse.put {} s.chans g c }

/-! ### Path state codes (R227) -/

def pathIdle : Nat := 0
def pathAdmitting : Nat := 1
def pathActive : Nat := 2
def pathHeld : Nat := 3
def pathMuted : Nat := 4
def pathClosing : Nat := 5
def pathFrozen : Nat := 6
def pathFault : Nat := 7
def pathModifying : Nat := 8
def pathRefused : Nat := 9

def wantClosed : Nat := 0
def wantActive : Nat := 1
def wantMuted : Nat := 2

/-- Channel units of each codec (R26, 01_site_and_chip.md), 128 ms tail. -/
def codecUnits (codec : Nat) : Nat :=
  match codec with
  | 0 | 1 => 1
  | 2 | 3 => 2
  | 4 => 3
  | 5 => 4
  | 6 => 5
  | _ => 8

/-! ### Codec properties (R272, R273, R278, R314) -/

/-- Codec frame, ms. -/
def codecMs (codec : Nat) : Nat := if codec < 5 then 10 else 20
/-- Limit of `fpp`, highest mode. -/
def codecFpp (codec : Nat) : Nat := if codec < 5 then 6 else 3
def codecTop (codec : Nat) : Nat := match codec with | 5 => 7 | 6 => 8 | 7 => 15 | _ => 0
/-- RTP clock in units per millisecond. -/
def codecTsMs (codec : Nat) : Nat := if codec = 6 ∨ codec = 7 then 16 else 8
/-- Encoder lookahead in whole kernel frames. -/
def codecLook (codec : Nat) : Nat := match codec with | 2 => 2 | 4 | 5 | 6 => 5 | 7 => 12 | _ => 0
/-- Is the audio wideband (R313): 16 samples in a kernel frame? -/
def codecWide (codec : Nat) (evsNb : Bool) : Bool := codec == 2 || codec == 6 || (codec == 7 && !evsNb)

/-- Cost of a configuration: the codec's units plus 1 for a 256 ms tail (R217). -/
def ChConfig.cost (c : ChConfig) : Nat := codecUnits c.codec + c.tail

/-- The row of PA_RES for a configuration (R655). -/
def ChConfig.resRow (c : ChConfig) : Nat := c.codec + 8 * c.tail

/-- The path state a channel has but for freezes and holds. -/
def State.path (s : State) (g : Nat) : Nat := s.rd (chB g) Reg.chPathState

/-- Is the channel held by its trace check? -/
def State.chHeld (s : State) (g : Nat) : Bool := s.isSet (chB g) Reg.chTraceHeld

/-- Is the channel's graver frozen while it holds one, or not yet resumed (R199, R580)? -/
def State.chFrozen (s : State) (g : Nat) : Bool :=
  decide (0 < (s.chan g).units) && (s.isFrozen (masterGraver (g / 256) (s.chan g).graver)
    || (s.graver (g / 256) (s.chan g).graver).resume)

/-- R227: what `CH_PATH.state` reads: FROZEN, HELD, or the state the channel otherwise has. -/
def State.pathView (s : State) (g : Nat) : Nat :=
  if s.chFrozen g then pathFrozen else if s.chHeld g then pathHeld else s.path g

/-- R222, R216: the path state that governs the channel's media: a modify that waits leaves the state before it in force. -/
def State.mediaPath (s : State) (g : Nat) : Nat :=
  if s.pathView g = pathModifying then (match (s.chan g).req with | some r => r.prior | none => pathActive) else s.pathView g

/-- Does the channel carry media in both directions: ACTIVE and neither frozen nor held (R72, R227)? -/
def State.chRuns (s : State) (g : Nat) : Bool := s.pathView g == pathActive

/-- Is the channel open in the sense of holding resources? -/
def State.chOpen (s : State) (g : Nat) : Bool := decide (0 < (s.chan g).units)

/-- The local channels of plate `p` that hold something, ascending. -/
def State.openChans (s : State) (p : Nat) : List Nat :=
  (s.chans.filter (fun e => e.1 / 256 == p && decide (0 < e.2.units))).map Prod.fst

/-- R175: units in use on plate `p`; and on graver `i` of it. -/
def State.unitsUsed (s : State) (p : Nat) : Nat :=
  s.chans.foldl (fun n e => if e.1 / 256 = p then n + e.2.units else n) 0
def State.graverUnits (s : State) (p i : Nat) : Nat :=
  s.chans.foldl (fun n e => if e.1 / 256 = p ∧ e.2.graver = i then n + e.2.units else n) 0

/-- R173: the graver with the most free units, the lowest number on a tie. -/
def State.pickGraver (s : State) (p : Nat) : Nat :=
  [1, 2, 3].foldl (fun b i => if s.graverUnits p i < s.graverUnits p b then i else b) 0

/-! ### Channel events (R235, R236) -/

/-- The tenant that owns the channel, if any (R210). -/
def State.chTenant (s : State) (g : Nat) : Option Nat :=
  if s.isSet (chB g) Reg.chOwnerAssigned then some (g / 256 * 8 + s.rd (chB g) Reg.chOwnerSlot) else none

/-- R236: vector 2 of tenant `t`, at most once per frame tick; what comes after it waits for the next. -/
def State.vector2 (s : State) (t : Nat) : State :=
  match Sparse.get 0 s.vec2 t with
  | 0 => State.sendMsix { s with vec2 := Sparse.put 0 s.vec2 t 1 } (t + 1) 2
  | _ => { s with vec2 := Sparse.put 0 s.vec2 t 2 }

/-- At a frame tick a vector 2 that is due is sent (R236). -/
def State.vec2Tick (s : State) (p : Nat) : State :=
  forUpTo 8 (fun i u =>
    let t := 8 * p + i
    match Sparse.get 0 u.vec2 t with
    | 2 => State.sendMsix { u with vec2 := Sparse.put 0 u.vec2 t 1 } (t + 1) 2
    | _ => { u with vec2 := Sparse.put 0 u.vec2 t 0 }) s

/-- R236: an enabled bit that becomes pending asks for vector 2 of the owner. -/
def State.chAssert (s : State) (g : Nat) : State :=
  match s.chTenant g with
  | some t => s.vector2 t
  | none => s

/-- R52, R236: `CH_EVENT` bit `i` is set. -/
def State.chEvent (s : State) (g i : Nat) : State :=
  if bitAt (s.rd (chB g) Reg.chEventEvents) i then s
  else
    let t := s.wr (chB g) Reg.chEventEvents (s.rd (chB g) Reg.chEventEvents + 2 ^ i)
    if bitAt (s.rd (chB g) Reg.chEventEnEnables) i then t.chAssert g else t

/-- Bits of CH_EVENT (R235). -/
def evDone : Nat := 0
def evRefused : Nat := 1
def evPathChange : Nat := 2
def evHeld : Nat := 3
def evFault : Nat := 4
def evPeerLost : Nat := 5

/-- R236, R52: a write of CH_EVENT_EN announces set bits that it newly enables. -/
def State.chEnable (s : State) (g v : Nat) : State :=
  let old := s.rd (chB g) Reg.chEventEnEnables
  let ev := s.rd (chB g) Reg.chEventEvents
  forUpTo 16 (fun i t => if bitAt v i && !bitAt old i && bitAt ev i then t.chAssert g else t)
    (s.wr (chB g) Reg.chEventEnEnables v)

/-- R187, R183: the header word of the slot of channel `g` as an admitted open writes it: the local number in bits [7:0], the mark
above. -/
def slotHeader (g mark : Nat) : Nat := g % 256 + 256 * (mark % 1024)

/-- R187: an admitted open draws an admission mark and writes the slot's header word. -/
def State.writeHeader (s : State) (g : Nat) : State :=
  s.drawNat.2.modChan g (fun c => { c with mark := s.drawNat.1 % 1024, header := slotHeader g s.drawNat.1 })

/-- R187: does the header word hold the local number and the mark? -/
def State.headerGood (s : State) (g : Nat) : Bool := (s.chan g).header == slotHeader g (s.chan g).mark

/-- R235: `path_change` when the settled state differs from the one before; ADMITTING, MODIFYING and CLOSING count as the
state that preceded them. -/
def State.noteSettled (s : State) (g : Nat) : State :=
  let d := s.pathView g
  if d = pathAdmitting ∨ d = pathModifying ∨ d = pathClosing ∨ d = (s.chan g).settled then s
  else (s.setChan g { s.chan g with settled := d }).chEvent g evPathChange

/-- R227, R233: the path takes the state `next`. -/
def State.setPath (s : State) (g next : Nat) : State :=
  (if s.path g = pathFault ∧ next ≠ pathFault then s.wr (chB g) Reg.chTraceFaultOk 0 else s).wr (chB g) Reg.chPathState next

/-- R227, R235: the path takes a state and settles. -/
def State.settle (s : State) (g next : Nat) : State := (s.setPath g next).noteSettled g

/-- R235, R580: the channels on graver `i` of plate `p` settle, as it freezes or resumes. -/
def State.settleGraver (s : State) (p i : Nat) : State :=
  forEach ((s.openChans p).filter (fun g => (s.chan g).graver == i)) (fun g t => t.noteSettled g) s

/-! ### Peers (R225, R226) -/

/-- Global number of the peer a channel's applied configuration names. -/
def State.peerOf (s : State) (g : Nat) : Nat := g / 256 * 256 + (s.chan g).cfg.peer

/-- Does the channel's applied configuration name `h` as peer? -/
def State.names (s : State) (g h : Nat) : Bool := s.chOpen g && (s.chan g).cfg.bridge == 2 && s.peerOf g == h

/-- R226: joined: each is ACTIVE, MUTED or HELD, and each names the other; a freeze does not part them. -/
def State.joined (s : State) (g h : Nat) : Bool :=
  let up := fun x => s.path x == pathActive || s.path x == pathMuted || s.chHeld x
  s.names g h && s.names h g && up g && up h && g != h

/-- The configuration a channel has taken: that of a request served and not yet posted, else the applied one (R216). -/
def State.takenCfg (s : State) (g : Nat) : ChConfig :=
  match (s.chan g).req with
  | some r => if r.served then r.cfg else (s.chan g).cfg
  | none => (s.chan g).cfg

/-- R216, R226: is channel `h` joined to another than `g`, a request served before being counted as admitted? -/
def State.takenPeer (s : State) (g h : Nat) : Bool :=
  let k := h / 256 * 256 + (s.takenCfg h).peer
  let names := fun (a b : Nat) =>
    s.chOpen a && (s.takenCfg a).bridge == 2 && a / 256 * 256 + (s.takenCfg a).peer == b
  let up := fun (a : Nat) => s.path a == pathActive || s.path a == pathMuted || s.chHeld a
    || (match (s.chan a).req with | some r => r.served | none => false)
  k != g && h != k && names h k && names k h && up h && up k

/-- R225: is `h` a valid peer for channel `g`? -/
def State.peerValid (s : State) (g h : Nat) : Bool :=
  h != g && s.chTenant h == s.chTenant g && !s.takenPeer g h

/-- R226: when a channel leaves for IDLE, the one joined to it loses its peer. -/
def State.leavePeer (s : State) (g : Nat) : State :=
  let h := s.peerOf g
  if s.names g h && s.names h g then (s.wr (chB h) Reg.chPathPeerLost 1).chEvent h evPeerLost else s

/-! ### Grants (R654-R658) -/

/-- R655: call charge of plate `p`. -/
def State.callCharge (s : State) (p : Nat) : Nat :=
  (s.chans.foldl (fun n e => if e.1 / 256 = p then n + e.2.res else n) 0 + 9) / 10

/-- R655, R656: default units and reservation of row `k` of PA_RES. -/
def resUnits (k : Nat) : Nat := codecUnits (k % 8) + k / 8

/-- R655: the stored reservation of row `k`, 4 sub-units per channel unit until written. -/
def State.resOf (s : State) (k : Nat) : Nat :=
  match Sparse.find? s.regs (fieldKey paB Reg.paResRes k) with
  | some v => v
  | none => 4 * resUnits k

/-- R657: ρ, the largest `res` per channel unit over all rows, rounded up. -/
def State.rho (s : State) : Nat :=
  (List.range 16).foldl (fun m k => max m ((s.resOf k + resUnits k - 1) / resUnits k)) 0

/-- Number of ones among the low 8 bits. -/
def popCount8 (n : Nat) : Nat := (List.range 8).foldl (fun c i => if bitAt n i then c + 1 else c) 0

/-- R654: the committed grants. -/
def State.committed (s : State) : Nat :=
  (if s.chip.sheetsReady then 144 else 0)
  + (List.range 8).foldl (fun n p => n + (if (s.plate p).baseGrant then 40 else 0) + Sparse.get 0 s.laneGrants p
      + s.callCharge p) 0
  + 12 * popCount8 s.epkGrants

/-- Is a request of this kind still pending? -/
def State.asking (s : State) (q : GrantReq) : Bool := s.arb.contains q

/-- A request reaches the arbiter. -/
def State.ask (s : State) (q : GrantReq) : State := if s.arb.contains q then s else { s with arb := s.arb ++ [q] }

/-- A pending request is withdrawn. -/
def State.withdraw (s : State) (q : GrantReq) : State := { s with arb := s.arb.filter (· != q) }

end Sys2Proof.Machine
end

