-- ==== Sys2Proof/Machine/Power.lean ====
section
/-! DEFINITION. The power arbiter's arithmetic (20_power_sleep.md R653-R661) and the stack lease (21_pairs_stacks.md
R728-R730): reserve, the order in which pending requests are served, and whether one is granted. -/

namespace Sys2Proof.Machine

/-- R654: burst grants held. -/
def State.bursts (s : State) : Nat :=
  s.echos.foldl (fun n e => n + e.2.burst) 0 + s.imprGrants.foldl (fun n e => n + e.2) 0

/-- Units of a port lane at the applied rate (R654, R408): 10GBASE-R, 2500BASE-X, 1000BASE-X, SGMII. -/
def laneUnits (rate : Nat) : Nat := match rate with | 0 => 14 | 1 => 14 | 2 => 8 | _ => 6

/-- R657: the reserve. -/
def State.reserve (s : State) : Nat :=
  (List.range 8).foldl (fun n p =>
    if s.plateEnabled p then
      n + ((256 - s.unitsUsed p) * s.rho + 9) / 10 + (if (s.plate p).baseGrant then 0 else 40)
        + (if Sparse.get 0 s.laneGrants p = 0 then 14 else 0)
    else n) 0
  + 12 * (4 - popCount8 s.epkGrants)

/-- R682: `PA_FREE.free`. -/
def State.budgetFree (s : State) : Nat := s.rd paB Reg.paCeilCeiling - (s.committed + s.bursts)

/-- Sum of the reservations on plate `p`. -/
def State.resSum (s : State) (p : Nat) : Nat :=
  s.chans.foldl (fun n e => if e.1 / 256 = p then n + e.2.res else n) 0

/-- R655, R658: by how much the call charge of plate `p` rises when a reservation of `old` becomes `new`. -/
def State.callIncrease (s : State) (p old new : Nat) : Nat :=
  (s.resSum p - old + new + 9) / 10 - s.callCharge p

/-- R728: the device's active charge: the call charges of its plates that are not STANDBY. -/
def State.activeCharge (s : State) : Nat :=
  (List.range 8).foldl (fun n p => if s.role p = roleStandby then n else n + s.callCharge p) 0

/-- R729: does the lease, while one is in force, allow the increase? -/
def State.leaseAllows (s : State) (inc : Nat) : Bool :=
  !s.epk.leased || decide (s.activeCharge + inc ≤ s.rd ekB Reg.ekStkLeaseLease)

/-- The reservation a channel's pending request asks for: that of the request, or of the mirrored configuration (R714). -/
def State.askedRes (s : State) (g : Nat) : Nat :=
  match (s.chan g).req with
  | some r => s.resOf r.cfg.resRow
  | none => s.resOf (s.chan g).cfg.resRow

/-- R658: is the request granted against the grants there are now? -/
def State.grantFits (s : State) (q : GrantReq) : Bool :=
  let used := s.committed + s.bursts
  let ceil := s.rd paB Reg.paCeilCeiling
  match q with
  | .base _ => decide (used + 40 ≤ ceil)
  | .lane _ u => decide (used + u ≤ ceil)
  | .epkLane _ => decide (used + 12 ≤ ceil)
  | .call g =>
    let inc := s.callIncrease (g / 256) (s.chan g).res (s.askedRes g)
    decide (used + inc ≤ ceil) && (s.role (g / 256) == roleStandby || s.leaseAllows inc)
  | .echo _ => decide (used + s.reserve + s.rd paB Reg.paBurstEcho ≤ ceil)
  | .impression _ => decide (used + s.reserve + s.rd paB Reg.paBurstImpression ≤ ceil)

/-- R660: the class and plate of a request, in the order served. -/
def grantKey : GrantReq → Nat
  | .base p => p
  | .lane p _ => 10 + p
  | .epkLane l => 20 + l
  | .call g => 30 + g / 256
  | .echo g => 40 + g / 256
  | .impression p => 40 + p

/-- The pending request that is served next: the lowest key, the earliest arrival on a tie. -/
def nextGrant : List GrantReq → Option GrantReq
  | [] => none
  | q :: l => match nextGrant l with
    | some r => if grantKey r < grantKey q then some r else some q
    | none => some q

/-- R659: `over_ceiling` is set while committed + bursts exceeds the ceiling. -/
def State.noteCeiling (s : State) : State :=
  if s.rd paB Reg.paCeilCeiling < s.committed + s.bursts then s.raise paB 2 else s

/-- R653, R682: a written ceiling is held within 1 and the fused ceiling. -/
def State.ceilingEffect (s : State) (fn data : Nat) : State :=
  if s.mayWriteL paB (masterOfFn fn) then
    (s.wr paB Reg.paCeilCeiling (clampNat 1 (min 1600 s.fuses.ceiling) (bitsOf data 0 12))).noteCeiling
  else s

end Sys2Proof.Machine
end

