-- ==== Sys2Proof/Machine/G711.lean ====
section
/-! DEFINITION. The G.711 codes of a highway's bytes (13_tdm.md R443): expansion to and compression from 16-bit samples, as
ITU-T G.711 gives them (log entry 28). -/

namespace Sys2Proof.Machine

/-- A-law: the 16-bit sample of a code as it appears on the line, with its even bits inverted. -/
def alawExpand (c : Nat) : Int :=
  let a := c ^^^ 0x55
  let t := a % 16 * 16
  let seg := a / 16 % 8
  let v : Nat := if seg = 0 then t + 8 else (t + 0x108) * 2 ^ (seg - 1)
  if 128 ≤ a then v else -(v : Int)

/-- A-law: the code of a 16-bit sample. -/
def alawCompress (x : Int) : Nat :=
  let i := (if 0 ≤ x then x else -x - 1).toNat / 16
  let e := Nat.log2 i - 3
  let c := if i < 16 then i else i / 2 ^ (e - 1) - 16 + 16 * e
  (if 0 ≤ x then c + 128 else c) ^^^ 0x55

/-- µ-law: the 16-bit sample of a code. -/
def ulawExpand (c : Nat) : Int :=
  let u := 255 - c
  let v : Nat := (u % 16 * 8 + 0x84) * 2 ^ (u / 16 % 8) - 0x84
  if 128 ≤ u then -(v : Int) else v

/-- µ-law: the code of a 16-bit sample. -/
def ulawCompress (x : Int) : Nat :=
  let a := min 0x1FFF ((if 0 ≤ x then x else -x - 1).toNat / 4 + 33)
  let seg := Nat.log2 a - 4
  (8 - seg) * 16 + (15 - a / 2 ^ seg % 16) + (if 0 ≤ x then 128 else 0)

/-- R443, R13: the 18-bit sample of a received byte; `mu` names the law. -/
def lawExpand (mu : Bool) (b : Byte) : Int := 4 * (if mu then ulawExpand b.toNat else alawExpand b.toNat)

/-- R443, R170: the byte of a transmitted 18-bit sample: shifted right by 2, rounded and saturated, then compressed. -/
def lawCompress (mu : Bool) (v : Int) : Byte :=
  let x := clampInt (-32767) 32767 (shrRound v 2)
  BitVec.ofNat 8 (if mu then ulawCompress x else alawCompress x)

end Sys2Proof.Machine
end

