-- ==== Sys2Proof/Machine/Signal.lean ====
section
/-! DEFINITION. The arithmetic of a channel's samples: levels (R244), gains (R306), the filter pair of R242, the resampler (R326),
comfort noise (R254) and tones (R302). -/

namespace Sys2Proof.Machine

/-! ### Accumulators, saturation (R12, R169, R170) -/

/-- R169: the accumulator's sum, saturating at 48 bits. -/
def acc48 (a x : Int) : Int := clampInt (-(2 ^ 47)) (2 ^ 47 - 1) (a + x)

/-- R12, R170: saturation to ±131,071. -/
def sat18 (x : Int) : Int := clampInt (-131071) 131071 x

/-- Σ w[i]·x[i] from accumulator `a`, missing elements being 0. -/
def dotAcc : List Int → List Int → Int → Int
  | w :: ws, x :: xs, a => dotAcc ws xs (acc48 a (w * x))
  | _, _, a => a

/-- Element `i` of a list of samples, 0 beyond its end. -/
def tapAt (l : List Int) (i : Nat) : Int := (l[i]?).getD 0

/-- The first `n` elements, 0 where the list ends. -/
def firstOf (n : Nat) (l : List Int) : List Int := (List.range n).map (tapAt l)

/-- Sample by sample, with saturation (R303). -/
def addSat (a b : List Int) : List Int := (List.range (max a.length b.length)).map (fun i => sat18 (tapAt a i + tapAt b i))

/-- Sum of squares. -/
def sumSq (l : List Int) : Nat := l.foldl (fun a v => a + v.natAbs * v.natAbs) 0

/-! ### Levels (R244) -/

/-- n to the power 1,000. -/
def pow1000 (n : Nat) : Nat := ((n ^ 10) ^ 10) ^ 10

/-- Is a / b at least 10^(x/1000), `x` in hundredths of a decibel of power? -/
def geDb (a b : Nat) (x : Int) : Bool :=
  if a = 0 then decide (b = 0)
  else if b = 0 then true
  else if 0 ≤ x then decide (pow1000 b * 10 ^ x.toNat ≤ pow1000 a) else decide (pow1000 b ≤ pow1000 a * 10 ^ (-x).toNat)

/-- Is the mean power of `n` samples whose squares add up to `sq` at least `x` hundredths of a dBm0? A full-scale sine, mean
square 131071² / 2, is +15.18 dBm0 (R244). -/
def levelAtLeast (sq n : Nat) (x : Int) : Bool := geDb (2 * sq) (131071 ^ 2 * n) (x - 1518)

/-- Is a sine of peak amplitude `amp` at `x` hundredths of a dBm0 or above? -/
def toneAtLeast (amp : Nat) (x : Int) : Bool := geDb (amp ^ 2) (131071 ^ 2) (x - 1518)

/-- The greatest `k` among `lo`, `lo` + 1, …, `lo` + `n` with `p k`, for a `p` that holds up to some point; `lo` if none. -/
def searchUp (p : Int → Bool) (lo : Int) : Nat → Int
  | 0 => lo
  | n + 1 => let m := lo + (n + 1 : Nat); if p m then m else searchUp p lo n

/-- Tenths of a decibel of a / b plus `off` hundredths, rounded down, within ±150 dB. -/
def dbTenths (a b : Nat) (off : Int) : Int := searchUp (fun k => geDb a b (10 * k - off)) (-1500) 3000

/-- The greatest number below 2^`n` with `p`, found bit by bit, for a `p` that holds up to some point. -/
def searchBits (p : Nat → Bool) : Nat → Nat → Nat
  | 0, acc => acc
  | n + 1, acc => if p (acc + 2 ^ n) then searchBits p n (acc + 2 ^ n) else searchBits p n acc

/-- 10^(h/2000) × 2³², rounded down: the factor of a gain of `h` hundredths of a decibel (log entry 38). -/
def dbFactor (h : Int) : Nat :=
  searchBits (fun k =>
    if 0 ≤ h then decide (k ^ 2000 ≤ 10 ^ h.toNat * 2 ^ 64000) else decide (k ^ 2000 * 10 ^ (-h).toNat ≤ 2 ^ 64000)) 36 0

/-- A sample under a gain of `h` hundredths of a decibel, rounded and saturated as R170 states (log entry 38). -/
def gained (h : Int) (x : Int) : Int := if h = 0 then sat18 x else sat18 (shrRound (x * dbFactor h) 32)

/-- Peak amplitude of a sine of `x` hundredths of a dBm0. -/
def ampOf (x : Int) : Nat := (131071 * dbFactor (x - 1518) + 2 ^ 31) / 2 ^ 32

/-! ### The filter pair (R242, R305) -/

/-- Coefficient `i` of the pair's lower filter; those of the upper one alternate in sign. -/
def qmfTap (upper : Bool) (i : Nat) : Int := if upper && i % 2 == 1 then -(sat18 (Config.qmf i)) else sat18 (Config.qmf i)

/-- The 32 taps of one filter of the pair. -/
def qmfTaps (upper : Bool) : List Int := (List.range 32).map (qmfTap upper)

/-- One band of a 16 kHz signal at 8 kHz: the filter's output at the first sample of each pair, so that splitting and merging delay by
31 samples together; `h` is the history, newest first. -/
def splitBand (upper : Bool) : List Int → List Int → List Int
  | h, a :: b :: r =>
    sat18 (shrRound (dotAcc (qmfTaps upper) ((a :: h).take 32) 0) 17) :: splitBand upper ((b :: a :: h).take 32) r
  | _, _ => []

/-- The history of a filter after some samples, newest first. -/
def histAfter (n : Nat) (h x : List Int) : List Int := (x.reverse ++ h).take n

/-- One output pair of the merge: even and odd taps act on the bands' samples, newest first, each doubled for the zeros between
them. -/
def mergePair (l u : List Int) : List Int :=
  let part := fun (upper : Bool) (odd : Nat) => (List.range 16).map (fun i => (if upper then -1 else 1) * qmfTap upper (2 * i + odd))
  let out := fun (odd : Nat) => sat18 (shrRound (dotAcc (part true odd) u (dotAcc (part false odd) l 0)) 16)
  [out 0, out 1]

/-- R242, R305: two bands merged to 16 kHz; `hl` and `hu` are their histories, newest first. -/
def mergeBands : List Int → List Int → List Int → List Int → List Int
  | hl, hu, a :: r, b :: t =>
    let l := (a :: hl).take 16
    let u := (b :: hu).take 16
    mergePair l u ++ mergeBands l u r t
  | _, _, _, _ => []

/-! ### The resampler (R326, R327) -/

/-- I₀(2√y) = Σ y^k / (k!)² for y = a/b, by Horner's rule from term `m` down, as numerator and denominator. -/
def besselSum (a b : Nat) : Nat → Nat × Nat → Nat × Nat
  | 0, acc => acc
  | m + 1, acc =>
    besselSum a b m (b * (m + 1) ^ 2 * acc.2 + a * acc.1, b * (m + 1) ^ 2 * acc.2)

/-- The Kaiser window of β = 8 at prototype tap `n`, the centre being tap 3,072: I₀(8·√(1 − t²)), 64 terms, in 2⁻⁶⁴. -/
def kaiser (n : Nat) : Nat :=
  let d := if n ≤ 3072 then 3072 - n else n - 3072
  let v := besselSum (16 * (3072 ^ 2 - d ^ 2)) (3072 ^ 2) 64 (1, 1)
  v.1 * 2 ^ 64 / v.2

/-- Tap `k` of branch `b` before its normalisation: the sine of the sinc is the same for all taps of a branch but for its sign, so
that normalising to unit gain leaves ± window / distance. -/
def protoTap (b k : Nat) : Int :=
  let n := 256 * k + b
  let d : Int := (n : Int) - 3072
  let v : Int := (kaiser n * 2 ^ 64 : Nat) / d
  if k % 2 = 0 then v else -v

/-- R326: the 24 taps of branch `b` in Q1.17; branch 0 is a unit impulse, and branch 256 is branch 0 one sample on. -/
def branchTaps (b : Nat) : List Int :=
  if b % 256 = 0 then (List.range 24).map (fun k => if k + b / 256 = 12 then 131072 else 0)
  else
    let l := (List.range 24).map (protoTap b)
    let sum := l.foldl (· + ·) 0
    if 0 < sum then l.map (fun v => divRound (v * 131072) sum) else l.map (fun v => divRound (-v * 131072) (-sum))

/-- R326: the resampler's output for the samples that have entered, newest first, at a fraction in 2⁻³²: two branches, weighted
linearly before the one rounding of R170 (log entry 39). -/
def resampleAt (hist : List Int) (frac : Nat) : Int :=
  let b := frac / 2 ^ 24
  let w : Int := (frac / 2 ^ 8 % 2 ^ 16 : Nat)
  let x := dotAcc (branchTaps b) hist 0
  if w = 0 then sat18 (shrRound x 17)
  else sat18 (shrRound (x * (2 ^ 16 - w) + dotAcc (branchTaps (b + 1)) hist 0 * w) 33)

/-! ### Free samples and comfort noise (R254, R255) -/

/-- `n` free samples. -/
def State.freeSamples (s : State) (n : Nat) : List Int × State :=
  forUpTo n (fun _ (a : List Int × State) =>
    let d := a.2.drawNat
    ((((d.1 % 262143 : Nat) : Int) - 131071) :: a.1, d.2)) ([], s)

/-- R254: white noise `x` through the linear-prediction filter, its memory newest first. -/
def shapeNoise (e : NoiseEst) : List Int → List Int → List Int × List Int
  | m, x :: r =>
    let y := sat18 (shrRound (dotAcc e.a m (131072 * x)) 17)
    let rest := shapeNoise e ((y :: m).take 6) r
    (y :: rest.1, rest.2)
  | m, [] => ([], m)

/-- Samples scaled to the mean power of a sine of peak amplitude `amp`, each rounded toward zero so that the power is not exceeded
(log entry 40). -/
def scaledTo (amp : Nat) (l : List Int) : List Int :=
  let den := 2 * sumSq l
  l.map (fun v =>
    let m : Int := searchBits (fun k => decide (k * k * den ≤ v.natAbs * v.natAbs * l.length * amp * amp)) 17 0
    if v < 0 then -m else m)

/-- R254, R255: `n` samples of comfort noise at a level in 0.1 dBm0: white noise, which is free, shaped by the estimate and brought to the
level; without an estimate −70 dBm0, flat (log entry 40). -/
def State.comfortNoise (s : State) (e : NoiseEst) (level : Int) (n : Nat) : List Int × NoiseEst × State :=
  let d := s.freeSamples n
  let x := d.1.map (fun v => if v = 0 then 1 else v)
  let q := if e.valid then shapeNoise e e.mem x else (x, [])
  (scaledTo (ampOf (10 * (if e.valid then level else -700))) (if sumSq q.1 = 0 then x else q.1), { e with mem := q.2 }, d.2)

/-! ### Tones (R296, R302) -/

/-- `n` samples of a sine of peak amplitude `amp` that begins at phase `ph`, advancing `step` (2⁻³² of a cycle) a sample. -/
def sineRun (amp step : Nat) : Nat → Nat → List Int
  | 0, _ => []
  | n + 1, ph => sat18 (shrRound ((amp : Int) * sineOf ph) 17) :: sineRun amp step n ((ph + step) % 2 ^ 32)

/-- Phase step of a frequency in 0.1 Hz at `rate` samples a millisecond. -/
def phaseStep (f10 rate : Nat) : Nat := (f10 * 2 ^ 32 + rate * 5000) / (rate * 10000)

/-- A pair of tones over `n` samples at `n` samples a millisecond; frequency 0 plays nothing. -/
def tonePair (amp f1 f2 n ph1 ph2 : Nat) : List Int :=
  addSat (if f1 = 0 then List.replicate n 0 else sineRun amp (phaseStep f1 n) n ph1)
    (if f2 = 0 then List.replicate n 0 else sineRun amp (phaseStep f2 n) n ph2)

end Sys2Proof.Machine
end

