-- ==== Sys2Proof/Machine/Conceal.lean ====
section
/-! DEFINITION. The concealment of ITU-T G.711 Appendix I (R277), at 8 kHz: a lost frame repeats one to three pitch periods of what was
decoded before, joined by overlaps, and fades from 10 ms on until it is silent at 60 ms. The document is named by R277 and not restated (log
entry 109). Histories are newest first. -/

namespace Sys2Proof.Machine

/-- Longest pitch period, span of the correlation and history, in samples: 15 ms, 20 ms and 48.75 ms. -/
def plcPitchMax : Nat := 120
def plcCorr : Nat := 160
def plcHistory : Nat := 390

/-- Correlation of the newest 160 samples of `h` with those `lag` earlier, at every `by_`-th sample from the oldest, and the energy of the
latter, at least 250. -/
def plcMatch (h : List Int) (by_ lag : Nat) : Int × Int :=
  let t := (List.range (plcCorr / by_)).foldl (fun (a : Int × Int) i =>
    let k := plcCorr - 1 - by_ * i
    let y := tapAt h (k + lag)
    (a.1 + y * tapAt h k, a.2 + y * y)) (0, 0)
  (t.1, max 250 t.2)

/-- Is the correlation `a`, normalised by the root of its energy, at least `b`? -/
def plcAtLeast (a b : Int × Int) : Bool := decide (b.1 * b.1.natAbs * a.2 ≤ a.1 * a.1.natAbs * b.2)

/-- The best of some lags, tried in order: a later one wins if it is better, or as good with `ties`. -/
def plcBest (h : List Int) (by_ : Nat) (ties : Bool) (first : Nat) (lags : List Nat) : Nat :=
  (lags.foldl (fun (b : Nat × Int × Int) lag =>
    let m := plcMatch h by_ lag
    if plcAtLeast m b.2 && (ties || !plcAtLeast b.2 m) then (lag, m) else b) (first, plcMatch h by_ first)).1

/-- The pitch period of what was decoded last: between 5 and 15 ms, at every second sample first and then around the best. -/
def plcPitch (h : List Int) : Nat :=
  let coarse := plcBest h 2 true plcPitchMax ((List.range 40).map (fun i => plcPitchMax - 2 - 2 * i))
  let top := min plcPitchMax (coarse + 1)
  plcBest h 1 false top ((List.range 2).map (fun i => top - 1 - i) |>.filter (fun k => 40 ≤ k ∧ coarse ≤ k + 1))

/-- Samples of the overlap: a quarter of the pitch period. -/
def plcOverlap (pitch : Nat) : Nat := pitch / 4

/-- `a` fading out and `b` fading in, at sample `i` of `n`. -/
def plcFade (n i : Nat) (a b : Int) : Int := divRound (a * ((n : Int) - i - 1) + b * (i + 1)) n

/-- Sample `j` of the buffer of the last `m` pitch periods: its last quarter period runs into the samples before its start, so that it
can be repeated. -/
def plcBuffer (h : List Int) (pitch m j : Nat) : Int :=
  let ov := plcOverlap pitch
  let len := m * pitch
  let x := tapAt h (len - 1 - j)
  if j + ov < len then x else plcFade ov (j + ov - len) x (tapAt h (2 * len - 1 - j))

/-- Where the buffer of two, and of three, periods is entered as the loss reaches 10 ms and 20 ms. -/
def plcEntry (pitch m : Nat) : Nat :=
  match m with
  | 1 => 0
  | 2 => 80 % pitch
  | _ =>
    let o := (80 % pitch + 80) % (2 * pitch)
    if pitch < o then o - pitch else o

/-- Sample `k` of a loss from the buffer of `m` periods, without the fade. -/
def plcFrom (h : List Int) (pitch m k : Nat) : Int :=
  plcBuffer h pitch m ((plcEntry pitch m + k - 80 * (m - 1)) % (m * pitch))

/-- The samples of a loss before they fade: one period repeats for 10 ms, two for the next, then three, each joined to the one before. -/
def plcShape (h : List Int) (pitch k : Nat) : Int :=
  let m := min 3 (k / 80 + 1)
  let i := k - 80 * (m - 1)
  if 1 < m ∧ i < plcOverlap pitch then plcFade (plcOverlap pitch) i (plcFrom h pitch (m - 1) k) (plcFrom h pitch m k)
  else plcFrom h pitch m k

/-- Sample `k` of a loss, which fades by a fifth in each 10 ms after the first. -/
def plcSample (h : List Int) (pitch k : Nat) : Int := divRound (plcShape h pitch k * (480 - max 80 k : Nat)) 400

/-- The first samples after a loss of `k` samples: what the loss would go on with, at the gain it has reached, runs into them over the
overlap and 4 ms more for each 10 ms lost after the first, at most 10 ms. -/
def plcRecover (h : List Int) (pitch k : Nat) (l : List Int) : List Int :=
  let n := min (min 80 l.length) (plcOverlap pitch + 32 * ((k + 79) / 80 - 1))
  let m := min 3 ((k + 79) / 80)
  (List.range l.length).map (fun i =>
    if i < n then plcFade n i (divRound (plcFrom h pitch m (k + i) * (480 - max 80 k : Nat)) 400) (tapAt l i) else tapAt l i)

/-- The newest samples of a history as the decoder plays them once a loss begins: its last quarter period runs into the repetition. -/
def plcTail (h : List Int) (pitch : Nat) : List Int :=
  ((List.range (plcOverlap pitch)).map (fun i => plcBuffer h pitch 1 (pitch - 1 - i))) ++ h.drop (plcOverlap pitch)

end Sys2Proof.Machine
end

