-- ==== Sys2Proof/Machine/Queues.lean ====
section
/-! DEFINITION. The cell pool and the queues (10_cells_queues.md): entries, charges, allocation checks, counts, and the
commands of the queue manager. -/

namespace Sys2Proof.Machine

/-! ### Queues and their owners (R343, R344) -/

/-- Queue `q` of plate `p`, head first. -/
def State.queue (s : State) (p q : Nat) : List Entry := Sparse.get [] s.queues (1024 * p + q)
def State.setQueue (s : State) (p q : Nat) (l : List Entry) : State :=
  { s with queues := Sparse.put [] s.queues (1024 * p + q) l }

/-- Kinds of queue (R366): 0 transmit, 1 steering, 2 ingress, 3 general. -/
def queueKind (q : Nat) : Nat := if q < 8 then 0 else if q < 40 then 1 else if q < 296 then 2 else 3

/-- The `limit_cells` field of a queue, with the reset value of its kind (R366). -/
def qdLimitRow (q : Nat) : Row :=
  { off := 0x4, lsb := 16, width := 14, acc := .rw, clamp := .nat (.c 0) (.c 16383)
    reset := match queueKind q with | 0 => 1024 | 1 => 256 | 2 => 64 | _ => 0 }

/-- R344: the slot that owns queue `q`, if any. -/
def State.queueOwner (s : State) (p q : Nat) : Option Nat :=
  match queueKind q with
  | 0 => none
  | 2 => (s.chTenant (256 * p + (q - 40))).map (· % 8)
  | _ => if s.isSet (qdB p q) Reg.qdOwnerOwned then some (s.rd (qdB p q) Reg.qdOwnerSlot) else none

/-! ### Cells (R341, R347, R350) -/

/-- R341: cells of an entry of `n` bytes. -/
def cellsOf (n : Nat) : Nat := (n + 127) / 128
def Entry.cells (e : Entry) : Nat := cellsOf e.bytes.length

/-- Cells of the entries in a queue. -/
def cellSum (l : List Entry) : Nat := l.foldl (fun n e => n + e.cells) 0
def State.queueCells (s : State) (p q : Nat) : Nat := cellSum (s.queue p q)

/-- Port Mp. -/
def State.port (s : State) (p : Nat) : Port := Sparse.get {} s.ports p
def State.setPort (s : State) (p : Nat) (v : Port) : State := { s with ports := Sparse.put {} s.ports p v }

/-- Cells that a frame in reception holds for slot `k` (R351). -/
def State.rxCells (s : State) (p k : Nat) : Nat :=
  match (s.port p).rx with
  | some f => if f.admitted ∧ f.slot = some k then 16 else 0
  | none => 0

/-- Cells that the plate's DMA operations hold, charged to slot `k` (R347, R352, R356). -/
def State.dmaCells (s : State) (p k : Nat) : Nat :=
  (List.range 8).foldl (fun n j => (s.ring (8 * p + j)).ops.foldl (fun m o => if o.slot = k then m + o.cells else m) n) 0

/-- Cells of the packets that jitter buffers hold, charged to slot `k` (R349). -/
def State.heldCells (s : State) (p k : Nat) : Nat :=
  s.jitters.foldl (fun n e => if e.1 / 256 = p then
    e.2.held.foldl (fun m h => if h.slot = k then m + h.cells else m) n else n) 0

/-- R347: cells charged to slot `k` of plate `p`. -/
def State.usedBy (s : State) (p k : Nat) : Nat :=
  s.queues.foldl (fun n e => if e.1 / 1024 = p then n + cellSum (e.2.filter (fun x => x.slot == k)) else n) 0
  + s.heldCells p k + s.rxCells p k + s.dmaCells p k

/-- R350: free cells of plate `p`. -/
def State.poolFree (s : State) (p : Nat) : Nat :=
  16383 - (List.range 8).foldl (fun n k => n + s.usedBy p k) 0

/-- R341, R350: the first cells of the entries that hold cells of plate `p`. -/
def State.firstCells (s : State) (p : Nat) : List Nat :=
  s.queues.flatMap (fun e => if e.1 / 1024 = p then e.2.map Entry.cell else [])
    ++ (List.range 8).flatMap (fun j => (s.ring (8 * p + j)).ops.map DmaOp.cell)
    ++ s.jitters.flatMap (fun e => if e.1 / 256 = p then e.2.held.map JPacket.cell else [])

/-- R340: the first cell at or after `d`, cyclically, that is not among those held. -/
def freeCell (held : List Nat) : Nat → Nat → Nat
  | 0, d => 1 + d % 16383
  | n + 1, d => if held.contains (1 + d % 16383) then freeCell held n (d + 1) else 1 + d % 16383

/-- R341, R366: the first cell of a new entry: a free value among the cells that no entry holds (log entry 7). -/
def State.drawCell (s : State) (p : Nat) : Nat × State :=
  (freeCell (s.firstCells p) (s.firstCells p).length s.drawNat.1, s.drawNat.2)

/-- R364, R365: after cells were taken, the low-water mark and the peaks move and the level events are raised; `before` is
the number of free cells there were. -/
def State.notePool (s : State) (p k before : Nat) : State :=
  let b := qgB p
  let free := s.poolFree p
  let used := s.usedBy p k
  let a := if free < s.rd b Reg.qmPoolLowWater then s.wr b Reg.qmPoolLowWater free else s
  let c := if a.rd b Reg.qmUsedPeak k < used then a.wr b Reg.qmUsedPeak used k else a
  let floor := c.rd b Reg.qmFloorFloor
  let d := if free ≤ floor ∧ floor < before then c.raise b 0 else c
  if free = 0 ∧ before ≠ 0 then d.raise b 1 else d

/-- R366: the queue's peak follows its cells. -/
def State.noteQueuePeak (s : State) (p q : Nat) : State :=
  let n := s.queueCells p q
  if s.rd (qdB p q) Reg.qdStatsPeakCells < n then s.wr (qdB p q) Reg.qdStatsPeakCells n else s

/-- R350, R363: a refusal is counted for the queue: it wraps under the older rule of the queue manager sheet. -/
def State.queueDrop (s : State) (p q : Nat) : State :=
  let b := qdB p q
  let n := s.rd b Reg.qdStatsDrops
  s.wr b Reg.qdStatsDrops (if s.isSet (qgB p) Title.compatPrev then n + 1 else satAdd 0xFFFF n 1)

/-- R350: the first check that refuses an allocation of `n` cells for queue `q` charged to slot `k`; 0 if none does. -/
def State.allocRefusal (s : State) (p q k n : Nat) (voice : Bool) : Nat :=
  let lim := s.rd (qdB p q) (qdLimitRow q)
  let free := s.poolFree p
  if lim ≠ 0 ∧ lim < s.queueCells p q + n then 1
  else if voice then (if free < n then 4 else 0)
  else if s.rd (qgB p) Reg.qmQuotaQuota k < s.usedBy p k + n then 2
  else if free < s.rd (qgB p) Reg.qmFloorFloor + n then 3
  else 0

/-- R350: a refusal by check `c` is counted and announced. -/
def State.countRefusal (s : State) (p q k c : Nat) : State :=
  let t := s.queueDrop p q
  match c with
  | 2 => (t.bump (qgB p) Reg.qmTenDropQuota k).raise (qgB p) 2
  | 3 => t.bump (qgB p) Reg.qmTenDropFloor k
  | 4 => t.bump (qgB p) Reg.qmPoolDropVoice
  | _ => t

/-- An entry joins the tail of a queue whose allocation was admitted; its first cell is a free value (R355, R366). -/
def State.enqueue (s : State) (p q : Nat) (e : Entry) : State :=
  let before := s.poolFree p
  let d := s.drawCell p
  ((d.2.setQueue p q (d.2.queue p q ++ [{ e with cell := d.1 }])).notePool p e.slot before).noteQueuePeak p q

/-- The allocation checks of R350 and, when they pass, the entry at the tail (R347, R350, R355); whether it was taken. -/
def State.commitEntry (s : State) (p q : Nat) (e : Entry) : Bool × State :=
  match s.allocRefusal p q e.slot e.cells e.voice with
  | 0 => (true, s.enqueue p q e)
  | c => (false, s.countRefusal p q e.slot c)

/-! ### Counter sets (R401-R405, R411) -/

/-- Indices of the counters (R403). -/
def cRxFrames : Nat := 0
def cRxOctets : Nat := 1
def cRxAlign : Nat := 2
def cRxRunt : Nat := 3
def cRxOversize : Nat := 4
def cRxFcs : Nat := 5
def cRxPause : Nat := 6
def cRxCtrlOther : Nat := 7
def cRxUnknownTag : Nat := 8
def cRxNoMatch : Nat := 9
def cRxRefused : Nat := 10
def cTxFrames : Nat := 11
def cTxOctets : Nat := 12
def cTxExpired : Nat := 13
def cTxFlushed : Nat := 14
def cTxUnderrun : Nat := 15
def cTxOversize : Nat := 16
def cTxBadTag : Nat := 17
def cTxPause : Nat := 18
def cPauseIgnored : Nat := 19
def cLinkDown : Nat := 20
def cPauseGuard : Nat := 21

/-- R402, R405, R411: counter `k` of the set at `b` counts `n`: it saturates, or wraps under the set's older rule. -/
def State.countIn (s : State) (b k n : Nat) : State :=
  let a := b + 0x40 + 8 * k
  let old := Sparse.get 0 s.cnt48 a
  let new := if s.isSet b Title.compatPrev then (old + n) % 2 ^ 48 else satAdd (2 ^ 48 - 1) old n
  let t := { s with cnt48 := Sparse.put 0 s.cnt48 a new }
  if old < 2 ^ 47 ∧ 2 ^ 47 ≤ new then t.raise b 0 else t

/-- R401: an event of plate `p` counts in the PF set, and in its slot's set where the tables say both. -/
def State.count48 (s : State) (p : Nat) (slot : Option Nat) (k : Nat) (n : Nat := 1) : State :=
  let t := s.countIn (pcntB p) k n
  match slot with
  | some i => t.countIn (tcntB (8 * p + i)) k n
  | none => t

/-- R379: the plate's time in nanoseconds of its frame ticks. -/
def State.tickNs (s : State) (p : Nat) : Nat := (s.plate p).ticks * msNs + min (msNs - 1) (s.now - (s.plate p).tickAt)

/-- R378: has the entry's deadline passed? -/
def State.expired (s : State) (p : Nat) (e : Entry) : Bool :=
  match e.expires with
  | some x => decide (x < s.tickNs p)
  | none => false

/-- R347, R376, R378: an entry for a transmit queue: refused, enqueued with its deadline, or freed on arrival while flap
grace has ended with the link down; whether its allocation was admitted. -/
def State.commitTx (s : State) (p tq : Nat) (e : Entry) : Bool × State :=
  let r := s.commitEntry p tq e
  if r.1 && (s.port p).graceEnded then
    (true, (r.2.setQueue p tq ((r.2.queue p tq).dropLast)).count48 p (some e.slot) cTxFlushed)
  else r

/-! ### Relays (R346) -/

/-- Where steering queue `q` relays to, if its relay works. -/
def State.relayTarget (s : State) (p q : Nat) : Option Nat :=
  let r := s.rd (qdB p q) Reg.qdCtrlRelay
  if queueKind q = 1 ∧ r ≠ 0 ∧ (s.queueOwner p q).isSome ∧ s.queueOwner p r = s.queueOwner p q then some r else none

/-- R346: the head entry moves to the tail of the general queue if that queue's limit takes it. -/
def State.relayOne (s : State) (p q : Nat) : State :=
  match s.relayTarget p q, s.queue p q with
  | some r, e :: rest =>
    let lim := s.rd (qdB p r) (qdLimitRow r)
    if lim = 0 ∨ s.queueCells p r + e.cells ≤ lim then
      ((s.setQueue p q rest).setQueue p r (s.queue p r ++ [e])).noteQueuePeak p r
    else s
  | _, _ => s

/-- STEERING_RELAY (R346): entries move, in order, as long as the head fits. -/
def execSteeringRelay (p : Fin 8) (q : Fin 32) (s : State) : Host.Outcome State Fault Refusal :=
  .next (forUpTo (s.queue p (8 + q)).length (fun _ t => t.relayOne p (8 + q)) s)

/-! ### Flush and ownership (R345, R359) -/

/-- R359: every entry of the queue is freed but one the port is sending. -/
def State.flushQueue (s : State) (p q : Nat) : State :=
  match (s.port p).tx with
  | some f => if f.queue = q then s.setQueue p q ((s.queue p q).take 1) else s.setQueue p q []
  | none => s.setQueue p q []


/-- R345, R106: does an operation in flight name the queue: one that has started or failed, its status not yet written? -/
def State.dmaNames (s : State) (p q : Nat) : Bool :=
  (List.range 8).any (fun k => (s.ring (8 * p + k)).ops.any (fun o => o.queue == q && o.phase != .pending))

/-- R344, R345, R366: a write of QD_OWNER: `limit_cells` of transmit and ingress queues at any time; the fields of a
steering or general queue only while it is empty and no operation names it. -/
def State.queueOwnerEffect (s : State) (p q data : Nat) : State :=
  let b := qdB p q
  match queueKind q with
  | 0 | 2 => s.wr b (qdLimitRow q) (bitsOf data 16 14)
  | _ =>
    if (s.queue p q).isEmpty && !s.dmaNames p q then
      ((s.wr b Reg.qdOwnerSlot (bitsOf data 0 3)).wr b Reg.qdOwnerOwned (bitsOf data 3 1)).wr b (qdLimitRow q)
        (bitsOf data 16 14)
    else s

/-- QUEUE_OWNER_WRITE (R345). -/
def execQueueOwnerWrite (fn : Fin 65) (p : Fin 8) (q : Fin 1024) (data : Word) (s : State) :
    Host.Outcome State Fault Refusal :=
  .next (s.mmioWrite fn (qdB p q + 4) (fun t => t.queueOwnerEffect p q data.toNat))

/-- R366: a write of QD_CTRL: `relay` of steering queues, values 1 to 295 storing 0; `flush`. -/
def State.queueCtrlEffect (s : State) (p q data : Nat) : State :=
  let r := bitsOf data 0 10
  let t := if queueKind q = 1 then s.wr (qdB p q) Reg.qdCtrlRelay (if r < 296 then 0 else r) else s
  if bitAt data 31 then t.flushQueue p q else t

end Sys2Proof.Machine
end

