-- ==== Sys2Proof/Machine/Tones.lean ====
section
/-! DEFINITION. Tone detection (08_coding_tones.md R297-R301, 07_echo.md R257): what each detector makes of the tones of a
signal, frame by frame. Where a tone lies between what a detector must find and what it must not, its verdict is free. -/

namespace Sys2Proof.Machine

/-- Must the detector find it, must it not, or is it free to? -/
inductive Verdict where
  | yes | no | open_
  deriving DecidableEq, Repr

/-- All of several conditions. -/
def Verdict.and : Verdict → Verdict → Verdict
  | .no, _ => .no
  | _, .no => .no
  | .yes, .yes => .yes
  | _, _ => .open_

/-- Inside `must` it is found, outside `may` it is not. -/
def verdict (must may : Bool) : Verdict := if must then .yes else if may then .open_ else .no

/-- What the detector says: a free value where the limits leave it open. -/
def State.decideV (s : State) : Verdict → Bool × State
  | .yes => (true, s)
  | .no => (false, s)
  | .open_ => s.drawBool

/-- |f − n| at most `tol` thousandths of n, frequencies in 0.1 Hz. -/
def nearBy (f n tol : Nat) : Bool := decide ((f - n + (n - f)) * 1000 ≤ tol * n)

/-- |f − n| at most `hz10` tenths of a hertz. -/
def within (f n hz10 : Nat) : Bool := decide (f - n + (n - f) ≤ hz10)

/-- R297: a frequency is found within ±1.5 % and never beyond ±3.5 %. -/
def dtmfFreq (f n : Nat) : Verdict := verdict (nearBy f n 15) (nearBy f n 35)

/-- R297: a tone is found from −26 to −3 dBm0 and never below −35 dBm0. -/
def dtmfLevel (amp : Nat) : Verdict :=
  verdict (toneAtLeast amp (-2600) && !toneAtLeast (amp - 1) (-300)) (toneAtLeast amp (-3500))

/-- R297: the high group at most 4 dB above and 8 dB below the low group; beyond that nothing is said. -/
def dtmfTwist (low high : Nat) : Verdict :=
  verdict (geDb (low ^ 2) (high ^ 2) (-400) && geDb (high ^ 2) (low ^ 2) (-800)) true

/-- The two groups of DTMF frequencies in 0.1 Hz, and the event code of each pair (ITU-T Q.23, RFC 4733). -/
def dtmfLow : List Nat := [6970, 7700, 8520, 9410]
def dtmfHigh : List Nat := [12090, 13360, 14770, 16330]
def dtmfCodes : List Nat := [1, 2, 3, 12, 4, 5, 6, 13, 7, 8, 9, 14, 10, 0, 11, 15]

/-- The frequencies of a DTMF event code. -/
def dtmfPair (code : Nat) : Nat × Nat :=
  let k := dtmfCodes.findIdx (· == code)
  ((dtmfLow[k / 4]?).getD 0, (dtmfHigh[k % 4]?).getD 0)

/-- What two tones are as a pair of row `r` and column `c`. -/
def pairVerdict (a b : Tone) (r c : Nat) : Verdict :=
  ((dtmfFreq a.freq r).and (dtmfFreq b.freq c)).and (((dtmfLevel a.amp).and (dtmfLevel b.amp)).and (dtmfTwist a.amp b.amp))

/-- The pairs that a frame's tones may be: verdict, code, sum of the squared amplitudes. -/
def dtmfPairs (h : Heard) : List (Verdict × Nat × Nat) :=
  h.tones.flatMap (fun a => h.tones.flatMap (fun b =>
    (List.range 16).filterMap (fun k =>
      match pairVerdict a b ((dtmfLow[k / 4]?).getD 0) ((dtmfHigh[k % 4]?).getD 0) with
      | .no => none
      | v => some (v, (dtmfCodes[k]?).getD 0, a.amp ^ 2 + b.amp ^ 2))))

/-- The digit that a frame holds, if any: one that must be found, else one that may be. -/
def State.dtmfFrame (s : State) (h : Heard) : Option (Nat × Nat) × State :=
  let l := dtmfPairs h
  match l.find? (fun x => x.1 == .yes) with
  | some x => (some x.2, s)
  | none => match l.head? with
    | some x => let d := s.drawBool; (if d.1 then some x.2 else none, d.2)
    | none => (none, s)

/-- A detection's report (R301): the code; whether it ends; its power as the sum of its squared amplitudes; its duration in ms. -/
structure ToneEvent where
  code : Nat
  ended : Bool
  power : Nat
  dur : Nat
  deriving DecidableEq, Repr

/-- R297: the pause once a burst has ended and `gap` milliseconds have passed: a digit, or a burst as long as one, begins it again; a
shorter burst that is no digit is part of it. -/
def DtmfDet.pauseAfter (d : DtmfDet) (gap : Nat) : Nat :=
  if d.reported ∨ 40 ≤ d.on then gap else min 1000 (d.pause + d.on + gap)

/-- R297: the tone has been absent for a frame: interruptions up to 10 ms are bridged; then the digit has ended. -/
def DtmfDet.absent (d : DtmfDet) : DtmfDet × List ToneEvent :=
  if d.on = 0 then ({ d with pause := min 1000 (d.pause + 1) }, [])
  else if d.gap < 10 then ({ d with gap := d.gap + 1 }, [])
  else ({ pause := d.pauseAfter (d.gap + 1) }, if d.reported then [⟨d.code, true, d.power, d.on⟩] else [])

/-- R297: the pair of `code` has been there for a frame; another digit's end comes first. -/
def DtmfDet.present (d : DtmfDet) (code power : Nat) : DtmfDet × List ToneEvent :=
  if d.on ≠ 0 ∧ d.code = code then ({ d with on := d.on + d.gap + 1, gap := 0, power := power }, [])
  else
    let pause := if d.on = 0 then d.pause else d.pauseAfter d.gap
    ({ code := code, on := 1, pause := pause, ok := decide (40 ≤ pause), power := power },
     if d.on ≠ 0 ∧ d.reported then [⟨d.code, true, d.power, d.on⟩] else [])

/-- R297, R301: one frame of a DTMF detector: a digit of 40 ms is reported, one below 23 ms never; a pause of 40 ms comes before
it. -/
def State.dtmfStep (s : State) (d : DtmfDet) (h : Heard) : DtmfDet × List ToneEvent × State :=
  let f := s.dtmfFrame h
  let r := match f.1 with
    | some x => d.present x.1 x.2
    | none => d.absent
  let e := r.1
  if e.on = 0 ∨ e.gap ≠ 0 ∨ e.reported ∨ !e.ok then (e, r.2, f.2)
  else
    let v := f.2.decideV (verdict (decide (40 ≤ e.on)) (decide (23 ≤ e.on)))
    if v.1 then ({ e with reported := true }, r.2 ++ [⟨e.code, false, e.power, e.on⟩], v.2) else (e, r.2, v.2)

/-! ### Call progress (R299) -/

/-- R299: a tone of `f` (4 Hz units): found within ±3 %, never beyond ±6 %, from `min_db` below 0 dBm0 up to 0 dBm0. -/
def cptTone (minDb f : Nat) (t : Tone) : Verdict :=
  (verdict (nearBy t.freq (40 * f) 30) (nearBy t.freq (40 * f) 60)).and
    (verdict (toneAtLeast t.amp (-(100 * (minDb : Int))) && !toneAtLeast (t.amp - 1) 0) true)

/-- Is detector `c` hearing its tones in this frame: verdict and power? A twist of up to 10 dB is taken. -/
def cptHears (minDb : Nat) (c : CptCfg) (h : Heard) : Verdict × Nat :=
  let one := h.tones.map (fun t => (cptTone minDb c.f1 t, t.amp ^ 2))
  let two := h.tones.flatMap (fun a => h.tones.map (fun b =>
    (((cptTone minDb c.f1 a).and (cptTone minDb c.f2 b)).and
      (verdict (geDb (a.amp ^ 2) (b.amp ^ 2) (-1000) && geDb (b.amp ^ 2) (a.amp ^ 2) (-1000)) true), a.amp ^ 2 + b.amp ^ 2)))
  let l := if c.f1 = 0 then [] else if c.f2 = 0 then one else two
  match l.find? (fun x => x.1 == .yes) with
  | some x => x
  | none => (l.find? (fun x => x.1 == .open_)).getD (.no, 0)

/-- R299, R301: a frame without the tone: the detection ends when it is absent for longer than `off_min`, or for 10 s when that is
0. -/
def CptDet.absent (d : CptDet) (n : Nat) (c : CptCfg) : CptDet × List ToneEvent :=
  if d.run = 0 then (d, [])
  else
    let e := { d with off := d.off + 1 }
    let isOver := if c.offMin = 0 then decide (10000 ≤ e.off) else decide (20 * c.offMin < e.off)
    let r : List ToneEvent := if e.reported && isOver then [⟨n, true, e.power, e.since⟩] else []
    (if 10000 < e.off then {} else { e with reported := e.reported && !isOver }, r)

/-- R299: a frame with the tone: a new on period, or the same one goes on. With `off_min` 0 a tone of `on_min` is reported, else
the start of the second on period after an off period of at least `off_min` and at most 10 s. -/
def CptDet.present (d : CptDet) (n power : Nat) (c : CptCfg) : CptDet × List ToneEvent :=
  let cadence := decide (d.off ≠ 0 ∧ c.offMin ≠ 0 ∧ 20 * c.onMin ≤ d.run ∧ 20 * c.offMin ≤ d.off ∧ d.off ≤ 10000)
  let e : CptDet := { d with
    run := if d.off = 0 then d.run + 1 else 1, off := 0, power := power
    since := if d.off = 0 ∨ d.reported ∨ cadence then d.since + d.off + 1 else 1 }
  let hit := !e.reported && (if c.offMin = 0 then decide (20 * c.onMin ≤ e.run) else cadence)
  ({ e with reported := e.reported || hit }, if hit then [⟨n, false, power, e.since⟩] else [])

/-- R299: one frame of call-progress detector `n`. -/
def State.cptStep (s : State) (d : CptDet) (n minDb : Nat) (c : CptCfg) (h : Heard) : CptDet × List ToneEvent × State :=
  let q := cptHears minDb c h
  let v := s.decideV q.1
  let r := if v.1 then d.present n q.2 c else d.absent n c
  (r.1, r.2, v.2)

/-! ### Fax and modem (R300) -/

/-- R300: from −43 to 0 dBm0; outside that nothing is said. -/
def faxLevel (amp : Nat) : Verdict := verdict (toneAtLeast amp (-4300) && !toneAtLeast (amp - 1) 0) (decide (amp ≠ 0))

/-- R300: is a tone ANS (2100 ± 21 Hz, not modulated), or ANSam (modulated at 15 ± 0.1 Hz, 20 ± 2 %)? Another modulation is neither
for certain. -/
def ansVerdict (am : Bool) (t : Tone) : Verdict :=
  let ansam := within t.amFreq 1500 10 && within t.amDepth 200 20
  (verdict (within t.freq 21000 210) false).and ((faxLevel t.amp).and
    (if am then verdict ansam false else verdict (t.amDepth == 0) (!ansam)))

/-- R300: CNG, 1100 ± 38 Hz. -/
def cngVerdict (t : Tone) : Verdict := (verdict (within t.freq 11000 380) false).and (faxLevel t.amp)

/-- R257, R300: is a step of the phase a reversal of 180 ± 25°? No step is none; of others nothing is said. -/
def turnVerdict (deg : Nat) : Verdict := verdict (decide (155 ≤ deg % 360 ∧ deg % 360 ≤ 205)) (deg % 360 != 0)

/-- The tone of a frame that best fits a condition: its verdict and the tone. -/
def bestTone (p : Tone → Verdict) (h : Heard) : Verdict × Tone :=
  let l := h.tones.map (fun t => (p t, t))
  match l.find? (fun x => x.1 == .yes) with
  | some x => x
  | none => (l.find? (fun x => x.1 == .open_)).getD (.no, ⟨0, 0, 0, 0, 0⟩)

/-- One frame of a fax or modem tone: the count of its milliseconds, the report at 400 ms, and the report of a reversal of a tone
that has been detected. -/
def State.faxTone (s : State) (p : Tone → Verdict) (ms code turn : Nat) (h : Heard) : Nat × List ToneEvent × State :=
  let b := bestTone p h
  let v := s.decideV b.1
  if !v.1 then (0, [], v.2)
  else
    let a : List ToneEvent := if ms + 1 = 400 then [⟨code, false, b.2.amp ^ 2, 400⟩] else []
    let t := if turn ≠ 0 ∧ 400 ≤ ms then v.2.decideV (turnVerdict b.2.turn) else (false, v.2)
    (min 100000 (ms + 1), a ++ (if t.1 then [⟨turn, false, b.2.amp ^ 2, ms + 1⟩] else []), t.2)

/-- R300, R301: one frame of the fax and modem detectors of one side; only CNG has an end. -/
def State.faxStep (s : State) (d : FaxDet) (h : Heard) : FaxDet × List ToneEvent × State :=
  let c := s.faxTone cngVerdict d.cng 0 0 h
  let a := c.2.2.faxTone (ansVerdict false) d.ans 1 2 h
  let m := a.2.2.faxTone (ansVerdict true) d.ansam 3 4 h
  let f := m.2.2.decideV (faxLevel h.flags)
  let flags := if f.1 then min 100000 (d.flags + 1) else 0
  ({ cng := c.1, power := if c.1 = 0 then d.power else (bestTone cngVerdict h).2.amp ^ 2, ans := a.1, ansam := m.1, flags := flags },
   (if c.1 = 0 ∧ 400 ≤ d.cng then [(⟨0, true, d.power, d.cng⟩ : ToneEvent)] else []) ++ c.2.1 ++ a.2.1 ++ m.2.1
     ++ (if flags = 200 then [(⟨5, false, h.flags ^ 2, 200⟩ : ToneEvent)] else []), f.2)

/-! ### The tone disabler's detector (R257) -/

/-- R257: 2100 Hz: found within ±21 Hz from −31 to 0 dBm0, never beyond ±45 Hz or below −36 dBm0. -/
def disablerTone (t : Tone) : Verdict :=
  (verdict (within t.freq 21000 210) (within t.freq 21000 450)).and
    (verdict (toneAtLeast t.amp (-3100) && !toneAtLeast (t.amp - 1) 0) (toneAtLeast t.amp (-3600)))

/-- Sums over the samples y of a frame but its first and last, z being the sum of a sample's two neighbours: Σ y², Σ yz and Σ z². A sine
of f Hz has z = 2·cos(2πf/8000)·y throughout. -/
def toneSums : List Int → Int × Int × Int
  | a :: y :: b :: r =>
    let t := toneSums (y :: b :: r)
    (t.1 + y * y, t.2.1 + y * (a + b), t.2.2 + (a + b) * (a + b))
  | _ => (0, 0, 0)

/-- R257: what the samples of a frame at 8 kHz say by themselves (log entry 107): none below −36 dBm0, which a frame of a 2100 Hz tone may
exceed by 0.32 dB, none where most of the frame is not near 2100 Hz, and of a pure tone, one that leaves 30 dB less than itself, its frequency
decides: 2079 to 2121 Hz is found, below 2055 and above 2145 Hz never. What lies between is open, as is a frame that holds a step of the
phase. -/
def sampleVerdict (turned : Bool) (l : List Int) : Verdict :=
  let q := toneSums l
  let pure := decide (1000 * (q.2.2 * q.1 - q.2.1 * q.2.1) ≤ q.1 * q.1)
  let mil := 1000000 * q.2.1
  -- 2·cos at 2055, 2079, 2121 and 2145 Hz, and at 2100 Hz, in 10⁻⁶
  let far := decide (-86360 * q.1 < mil ∨ mil < -227280 * q.1)
  let near := decide (-189797 * q.1 ≤ mil ∧ mil ≤ -124006 * q.1)
  let rest := 1000000 * q.2.2 + 2 * 156918 * q.2.1 + 24623 * q.1
  if !levelAtLeast (sumSq l) l.length (-3568) then .no
  else if turned then .open_
  else if (pure && far) || decide (500000 * q.1 ≤ rest) then .no
  else if pure && near && levelAtLeast (sumSq l) l.length (-3132) && !levelAtLeast (sumSq l) l.length 33 then .yes
  else .open_

/-- R257: the 2100 Hz detector in one direction: is the tone there, and does its phase reverse? Where the samples leave it open, the tones
that the frame is said to hold decide. -/
def State.disablerHears (s : State) (h : Heard) (l : List Int) : (Bool × Bool) × State :=
  let b := bestTone disablerTone h
  let v := s.decideV (match sampleVerdict (b.2.turn % 360 != 0) l with
    | .open_ => b.1
    | x => x)
  if !v.1 then ((false, false), v.2)
  else
    let r := v.2.decideV (turnVerdict b.2.turn)
    ((true, r.1), r.2)

/-- A signal that is silent holds no tone. -/
def unlessSilent (h : Heard) (l : List Int) : Heard := if l.all (· == 0) then {} else h

end Sys2Proof.Machine
end

