-- ==== Sys2Proof/Machine/Echo.lean ====
section
/-! DEFINITION. Echo cancelling (07_echo.md): the canceller's arithmetic, its phases, fast entry and burst grants, double
talk, the non-linear processor, the tone disabler and the commands of EC_CMD. -/

namespace Sys2Proof.Machine

def State.echo (s : State) (g : Nat) : Echo := Sparse.get {} s.echos g
def State.setEcho (s : State) (g : Nat) (e : Echo) : State := { s with echos := Sparse.put {} s.echos g e }
def State.modEcho (s : State) (g : Nat) (f : Echo → Echo) : State := s.setEcho g (f (s.echo g))

/-! ### Levels (R244) -/

/-- A level in 0.1 dB as a register reports it, `offset` in hundredths: the exact value rounded down or up as a free value decides,
since the spec gives no rounding; a free value where the power is 0, whose logarithm the spec does not state (log entry 7). -/
def State.reportDb (s : State) (b : Nat) (r : Row) (num den : Nat) (offset : Int) : State :=
  if num = 0 ∨ den = 0 then let d := s.drawNat; d.2.wr b r d.1
  else
    let d := s.drawBool
    d.2.wrS b r (dbTenths num den offset + (if d.1 then 1 else 0))

/-! ### Registers of a channel -/

def State.ecPhase (s : State) (g : Nat) : Nat := s.rd (chB g) Reg.ecStatusPhase
def phaseOff : Nat := 0
def phaseWait : Nat := 1
def phaseFast : Nat := 2
def phaseNormal : Nat := 3
def phaseConverged : Nat := 4

/-- CH_EVENT bits of this chapter (R271). -/
def evEcConverged : Nat := 8
def evEcTone : Nat := 9
def evEcDiverged : Nat := 10

/-- R264: the echo words as they stand at apply. -/
def State.echoWords (s : State) (g : Nat) : EchoCfg :=
  let b := chB g
  { enable := s.isSet b Reg.ecCtrlEnable, nlpMode := s.rd b Reg.ecCtrlNlpMode, tdMode := s.rd b Reg.ecCtrlTdMode
    fastEn := s.isSet b Reg.ecCtrlFastEn, bulkMs := s.rd b Reg.ecCtrlBulkMs, muShift := s.rd b Reg.ecCtrlMuShift
    dtDb := s.rd b Reg.ecDtDtDb, dtHangMs := s.rd b Reg.ecDtDtHangMs, convDb := s.rd b Reg.ecDtConvDb
    attenDb := s.rd b Reg.ecNlpAttenDb, marginDb := s.rd b Reg.ecNlpNlpMarginDb, cnMax := s.rdS b Reg.ecNlpCnMax
    releaseDbm0 := s.rdS b Reg.ecTdReleaseDbm0, releaseMs := s.rd b Reg.ecTdReleaseMs }

/-- R241: taps of a channel's canceller. -/
def State.taps (s : State) (g : Nat) : Nat := if (s.chan g).cfg.tail = 1 then 2048 else 1024

/-! ### Burst grants (R247, R248) -/

/-- R248: a freed FAST place or grant makes the plate retry. -/
def State.fastFreed (s : State) (p : Nat) : State := { s with fastRetry := Sparse.ins s.fastRetry p s.now }

/-- The channel's burst grant is released, or its request withdrawn (R247); a FAST place that it leaves is free (R248, R268). -/
def State.releaseBurst (s : State) (g : Nat) : State :=
  let e := s.echo g
  let t := (s.setEcho g { e with burst := 0, waiting := false, refused := false }).withdraw (.echo g)
  let u := if e.burst = 0 then t else t.wr (chB g) Reg.ecStatusBurst 0
  if e.burst ≠ 0 ∨ s.ecPhase g = phaseFast then u.fastFreed (g / 256) else u

/-- Other channels than `me` of graver `i` that are in FAST or are about to enter it with a grant held or asked for (R247). -/
def State.fastOnGraver (s : State) (p i me : Nat) : Nat :=
  (s.openChans p).foldl (fun n g =>
    if (s.chan g).graver = i ∧ g ≠ me ∧ (s.ecPhase g = phaseFast ∨ (s.echo g).burst ≠ 0 ∨ s.asking (.echo g)) then n + 1 else n) 0

/-- R248: the waiting channels are tried again at the latest in 100 ms. -/
def State.retryWithin (s : State) (p : Nat) : State :=
  match Sparse.find? s.fastRetry p with
  | some _ => s
  | none => { s with fastRetry := Sparse.ins s.fastRetry p (s.now + 100 * msNs) }

/-- R247, R248: fast entry is asked for if it is enabled and the graver has a place, or the channel waits for one. -/
def State.askFast (s : State) (g : Nat) : State :=
  let e := s.echo g
  if !e.cfg.fastEn then s
  else if e.burst ≠ 0 ∨ s.asking (.echo g) then s
  else if s.fastOnGraver (g / 256) (s.chan g).graver g < 4 then (s.setEcho g { e with waiting := true }).ask (.echo g)
  else (s.setEcho g { e with waiting := true }).retryWithin (g / 256)

/-- R247: the arbiter grants the burst to a channel that still waits for it in NORMAL, or in the FAST of its mirror (R268);
another gives it back at once. -/
def State.burstGranted (s : State) (g units : Nat) : State :=
  let e := s.echo g
  if e.waiting ∧ (s.ecPhase g = phaseNormal ∨ s.ecPhase g = phaseFast) then (s.setEcho g { e with burst := units }).wr (chB g) Reg.ecStatusBurst 1
  else s.fastFreed (g / 256)

/-- R248: the arbiter refuses the burst: counted; the channel waits for the next retry, in NORMAL: one that resumed in FAST (R268) leaves it
at the next tick at which its phase may move. -/
def State.burstRefused (s : State) (g : Nat) : State :=
  ((s.modEcho g (fun e => { e with refused := s.ecPhase g == phaseFast })).bumpSat (chB g) Reg.ecCountsBurstRefused).retryWithin (g / 256)

/-- EC_FAST_RETRY (R248): when a place or grant has been released, or 100 ms after the last try, the waiting channels of the
plate ask again in ascending order. -/
def execEcFastRetry (p : Fin 8) (s : State) : Host.Outcome State Fault Refusal :=
  match Sparse.find? s.fastRetry p with
  | some due =>
    if due ≤ s.now then
      let waiting := (s.openChans p).filter (fun g => (s.echo g).waiting)
      let t := { s with fastRetry := if waiting.isEmpty then Sparse.del s.fastRetry p
                                     else Sparse.ins s.fastRetry p (s.now + 100 * msNs) }
      .next (forEach waiting (fun g u => u.askFast g) t)
    else .next s
  | none => .next s

/-! ### Phases (R245) -/

/-- The canceller enters a phase. -/
def State.setPhase (s : State) (g ph : Nat) : State := s.wr (chB g) Reg.ecStatusPhase ph

/-- w = 0; the windows that ERLE is judged over start again. -/
def State.zeroTaps (s : State) (g : Nat) : State := s.modEcho g (fun e => { e with w := [], frames := [], adapted := [] })

/-- R245: fast entry is requested and the canceller adapts in NORMAL until it is granted. -/
def State.enterAdapting (s : State) (g : Nat) : State := (s.askFast g).setPhase g phaseNormal

/-- R245: the canceller stops: the burst grant is released, w is kept. -/
def State.echoStop (s : State) (g : Nat) : State :=
  if s.ecPhase g = phaseOff then s else ((s.releaseBurst g).setPhase g phaseOff).wr (chB g) Reg.ecStatusNlpOn 0

/-- Does the configuration let the canceller run (R239)? -/
def State.echoWanted (s : State) (g : Nat) : Bool := (s.chan g).cfg.bridge != 0 && (s.echo g).cfg.enable

/-- R256, R72: the path states that suspend the canceller. -/
def State.echoSuspended (s : State) (g : Nat) : Bool :=
  let v := s.mediaPath g
  v == pathHeld || v == pathMuted || v == pathFrozen || v == pathFault

/-- ERLE over the adapting frames of a list: the sums of Sin² and e². -/
def erleSums (l : List EchoFrame) : Nat × Nat :=
  l.foldl (fun a f => if f.adapted then (a.1 + f.sin, a.2 + f.e) else a) (0, 0)

/-- R245: ERLE of at least `x` decibels over the last 100 ms. Where both levels are 0, or no frame adapted, there is no ERLE. -/
def Echo.erleAtLeast (e : Echo) (x : Nat) : Bool :=
  let t := erleSums e.frames
  e.frames.length == 100 && decide (0 < t.1) && geDb t.1 t.2 (100 * x)

/-- R245: ERLE of at most −3 dB over 200 ms of adapting frames. -/
def Echo.diverges (e : Echo) : Bool :=
  let t := erleSums (e.adapted.take 200)
  decide (200 ≤ e.adapted.length ∧ 0 < t.2) && geDb t.2 t.1 300

/-- R245: the first rows of the table: the canceller starts, Rin becomes active. -/
def State.echoStarts (s : State) (g : Nat) (active : Bool) : State :=
  let a := if s.ecPhase g = phaseOff ∧ s.echoWanted g ∧ s.mediaPath g = pathActive then (s.zeroTaps g).setPhase g phaseWait else s
  if a.ecPhase g = phaseWait ∧ active then a.enterAdapting g else a

/-- R245: ERLE has reached `conv_db` in phase `ph`: CONVERGED. -/
def State.echoConverges (s : State) (g ph : Nat) : State :=
  if s.ecPhase g = ph ∧ (s.echo g).erleAtLeast (s.echo g).cfg.convDb then
    ((s.releaseBurst g).chEvent g evEcConverged).setPhase g phaseConverged
  else s

/-- R248, R268: the request of a channel that resumed in FAST was refused: its place is free and it goes on in NORMAL. -/
def State.echoRefused (s : State) (g : Nat) : State :=
  if !(s.echo g).refused then s
  else
    let t := s.modEcho g (fun x => { x with refused := false })
    if t.ecPhase g = phaseFast then (t.setPhase g phaseNormal).fastFreed (g / 256) else t

/-- R245, R247: fast entry has been granted: from NORMAL to FAST. -/
def State.echoFast (s : State) (g : Nat) : State :=
  if s.ecPhase g = phaseNormal ∧ (s.echo g).burst ≠ 0 then
    (s.modEcho g (fun x => { x with fastAt := s.now, waiting := false })).setPhase g phaseFast
  else s

/-- R245: ERLE has fallen to −3 dB: w = 0, and fast entry is requested. -/
def State.echoDiverges (s : State) (g : Nat) : State :=
  if (s.ecPhase g = phaseNormal ∨ s.ecPhase g = phaseConverged) ∧ (s.echo g).diverges then
    (((s.zeroTaps g).bumpSat (chB g) Reg.ecCountsDiverged).chEvent g evEcDiverged).enterAdapting g
  else s

/-- R245, R264: EC_CMD.reset_coef acts. -/
def State.echoReset (s : State) (g : Nat) (active : Bool) : State :=
  if (s.echo g).cmdReset then
    let z := (s.zeroTaps g).modEcho g (fun x => { x with cmdReset := false })
    if z.ecPhase g = phaseOff then z
    else if active then (if z.ecPhase g = phaseFast then z else z.enterAdapting g)
    else (z.releaseBurst g).setPhase g phaseWait
  else s

/-- R245: the events of a frame tick, in the order of the table; `active` says that Rin is at −40 dBm0 or above. The row of
2 s in FAST is EC_FAST_TIMEOUT. While the canceller is suspended the phase is unchanged but for the command (R256, R264). -/
def State.echoEvents (s : State) (g : Nat) (active : Bool) : State :=
  if s.echoSuspended g then s.echoReset g active
  else
    let r := (s.echoRefused g).echoStarts g active
    let t := ((((r.echoConverges g phaseFast).echoConverges g phaseNormal).echoFast g).echoDiverges g).echoReset g active
    if !t.echoWanted g then t.echoStop g else t

/-- EC_FAST_TIMEOUT (R245): 2 s spent in FAST: the burst grant is released and the canceller goes on in NORMAL; not while the phase is
kept (R256). -/
def execEcFastTimeout (g : Fin 2048) (s : State) : Host.Outcome State Fault Refusal :=
  .next (if s.ecPhase g = phaseFast ∧ !s.echoSuspended g ∧ (s.echo g).fastAt + 2 * secNs ≤ s.now then
      (s.releaseBurst g).setPhase g phaseNormal else s)

/-! ### One sample (R243) -/

/-- The reciprocal of `p` to 18 significant bits: mantissa and exponent `k` of m / 2^k (R243). -/
def recip18 (p : Nat) : Nat × Nat :=
  let k := Nat.log2 p + 18
  let m := (2 * 2 ^ k + p) / (2 * p)
  if 2 ^ 18 ≤ m then ((m + 1) / 2, k - 1) else (m, k)

/-- Greatest magnitude in a list. -/
def maxAbs (l : List Int) : Nat := l.foldl (fun m x => max m x.natAbs) 0

/-- R243: a step of adaptation: w[i] + µ·g[i]·e·x[i]/p for the first `n` taps, rounded once under R170. In FAST µ is 0.5 and
the gains are proportionate to h[i] = max(|w[i]|, 0.01·max|w|, 2⁻¹⁷), here 100 times as large. -/
def adaptTaps (n mu : Nat) (fast : Bool) (w x : List Int) (e : Int) : List Int :=
  let p := (x.take n).foldl (fun a v => a + v.natAbs * v.natAbs) 0 + n * 2 ^ 10
  let r := recip18 p
  let top := maxAbs (w.take n)
  let h := fun (i : Nat) => max (100 * (tapAt w i).natAbs) (max top 100)
  let sum := (List.range n).foldl (fun a i => a + h i) 0
  (List.range n).map (fun i =>
    let num := e * tapAt x i * (r.1 : Int) * 2 ^ 17
    let top : Int := if fast then num * (n * h i : Nat) else num
    let den : Int := if fast then (2 * 2 ^ r.2 * sum : Nat) else (2 ^ mu * 2 ^ r.2 : Nat)
    sat18 (divRound (tapAt w i * den + top) den))

/-- What one frame's samples have done so far. -/
structure EchoRun where
  w : List Int
  /-- The samples of e so far, newest first. -/
  es : List Int := []
  hist : List Int
  dtTill : Nat
  refill : Nat
  sum : EchoFrame := {}
  dt : Bool := false
  anyDt : Bool := false
  deriving DecidableEq, Repr

/-- R243, R244, R251: one sample; `ok` says that nothing but double talk stops adaptation, `at_` is its instant. -/
def echoSample (c : EchoCfg) (n : Nat) (fast ok : Bool) (rin sin : Int) (at_ : Nat) (r : EchoRun) : EchoRun :=
  let hist := (rin :: r.hist).take (8 * c.bulkMs + n)
  let x := hist.drop (8 * c.bulkMs)
  let e := sat18 (sin - sat18 (shrRound (dotAcc r.w x 0) 17))
  let m := maxAbs (x.take n)
  let talk := decide (m ^ 20 ≤ sin.natAbs ^ 20 * 10 ^ c.dtDb)
  let till := if talk then at_ + c.dtHangMs * msNs else r.dtTill
  let dt := talk || decide (at_ < till)
  let adapt := ok && !dt && r.refill == 0
  { w := if adapt then adaptTaps n c.muShift fast r.w x e else r.w
    es := e :: r.es, hist := hist, dtTill := till, refill := r.refill - 1, dt := dt, anyDt := r.anyDt || dt
    sum := { rin := r.sum.rin + rin.natAbs ^ 2, sin := r.sum.sin + sin.natAbs ^ 2, e := r.sum.e + e.natAbs ^ 2
             adapted := r.sum.adapted || adapt } }

/-- R270: the slips at sample `i` shift the reference history: a deleted frame makes the echo come one sample sooner. -/
def slipHist (slips : List (Nat × Bool)) (i : Nat) (h : List Int) : List Int :=
  slips.foldl (fun l x => if x.1 ≠ i then l else if x.2 then 0 :: l else l.tail) h

/-- The eight samples of a frame, at most; a sample is 125 µs. -/
def echoSamples (c : EchoCfg) (n : Nat) (fast ok : Bool) (at_ : Nat) (slips : List (Nat × Bool)) :
    List Int → List Int → Nat → EchoRun → EchoRun
  | _, _, 0, r => r
  | rin, sin, k + 1, r =>
    echoSamples c n fast ok (at_ + 125000) slips rin.tail sin.tail k
      (echoSample c n fast ok (rin.headD 0) (sin.headD 0) at_ { r with hist := slipHist slips (7 - k) r.hist })

/-! ### Tone disabler (R257-R262) -/

/-- R262: bypass or NLP disable changes: `ec_tone` is set when either does. -/
def State.setTd (s : State) (g : Nat) (bypass nlpOff forced : Bool) : State :=
  let b := chB g
  let was := (s.isSet b Reg.ecStatusBypass, s.isSet b Reg.ecStatusNlpOffTd)
  let t := ((s.wrB b Reg.ecStatusBypass bypass).wrB b Reg.ecStatusNlpOffTd nlpOff).wrB b Reg.ecStatusForced forced
  let u := if bypass && !was.1 then t.bumpSat b Reg.ecCountsTdEvents else t
  if was = (bypass, nlpOff) then u else u.chEvent g evEcTone

/-- R258-R261, R264: what takes effect at this tick: a detected tone, the commands of EC_CMD, a release. -/
def State.tdTick (s : State) (g : Nat) : State :=
  let b := chB g
  let e := s.echo g
  let s0 := s.setEcho g { e with tdDue := 0, tdEnd := false, cmdForce := false, cmdRelease := false }
  let s1 := match e.tdDue with
    | 1 => s0.setTd g true (s0.isSet b Reg.ecStatusNlpOffTd) (s0.isSet b Reg.ecStatusForced)
    | 2 => s0.setTd g (s0.isSet b Reg.ecStatusBypass) true (s0.isSet b Reg.ecStatusForced)
    | _ => s0
  let s2 := if e.tdEnd then s1.setTd g (s1.isSet b Reg.ecStatusForced) false (s1.isSet b Reg.ecStatusForced) else s1
  let s3 := if e.cmdForce then s2.setTd g true (s2.isSet b Reg.ecStatusNlpOffTd) true else s2
  if e.cmdRelease then s3.setTd g false (s3.isSet b Reg.ecStatusNlpOffTd) false else s3

/-- R258: what a tone of 400 ms and a reversal that follows it do in each mode: 0 nothing, 1 bypass, 2 NLP off. -/
def tdAction (mode : Nat) (reversal : Bool) : Nat :=
  match mode with
  | 0 => 0
  | 1 => if reversal then 1 else 0
  | 2 => 1
  | _ => if reversal then 1 else 2

/-- R258: one frame of the 2100 Hz detector in one direction: milliseconds of tone, and the action: a tone of 400 ms, or a reversal
that follows one. -/
def disablerStep (mode ms : Nat) (heard : Bool × Bool) : Nat × Nat :=
  let next := if heard.1 then min 100000 (ms + 1) else 0
  (next, if heard.1 && heard.2 && decide (400 ≤ ms) then tdAction mode true else if next = 400 then tdAction mode false else 0)

/-- R257-R260: the disabler watches one frame of Rin and Sin. -/
def State.tdWatch (s : State) (g : Nat) (rin sin : List Int) (rinTones sinTones : Heard) : State :=
  let a := s.disablerHears rinTones rin
  let b := a.2.disablerHears sinTones sin
  b.2.modEcho g (fun e =>
    let x := disablerStep e.cfg.tdMode e.toneRin a.1
    let y := disablerStep e.cfg.tdMode e.toneSin b.1
    let act := if x.2 = 1 ∨ y.2 = 1 then 1 else max x.2 y.2
    let low := fun (l : List Int) => !levelAtLeast (sumSq l) 8 (10 * e.cfg.releaseDbm0)
    { e with toneRin := x.1, toneSin := y.1, tdDue := if act ≠ 0 then act else e.tdDue
             quietMs := if low rin && low sin then e.quietMs + 1 else 0 })

/-- TONE_DISABLER_RELEASE (R260): after `release_ms` of quiet the release takes effect at the next tick. -/
def execToneDisablerRelease (g : Fin 2048) (s : State) : Host.Outcome State Fault Refusal :=
  let e := s.echo g
  .next (if e.cfg.releaseMs ≤ e.quietMs ∧ s.ecPhase g ≠ phaseOff ∧
      (s.isSet (chB g) Reg.ecStatusBypass || s.isSet (chB g) Reg.ecStatusNlpOffTd) then
      s.setEcho g { e with tdEnd := true } else s)

/-! ### One frame -/

/-- Put one frame at the head of a window of `n` frames. -/
def windowPush (n : Nat) (f : EchoFrame) (l : List EchoFrame) : List EchoFrame := (f :: l).take n

/-- Sum over a window. -/
def windowSum (l : List EchoFrame) (f : EchoFrame → Nat) : Nat := l.foldl (fun a x => a + f x) 0

/-- A new comfort-noise estimate: the filter is the estimator's, and free (log entry 40). -/
def State.freeEstimate (s : State) (old : NoiseEst) : NoiseEst × State :=
  let d := s.freeSamples 6
  ({ valid := true, a := d.1, mem := old.mem }, d.2)

/-- A level estimate in 0.1 dBm0 from −150.0 dBm0 up to `top`, which is free (log entry 40). -/
def State.freeLevel (s : State) (top : Int) : Int × State :=
  (((s.drawNat.1 % (top + 1501).toNat : Nat) : Int) - 1500, s.drawNat.2)

/-- R254, R255: a frame whose Rin is below −40 dBm0, without double talk, feeds both background estimates; that of Rin comes from such
frames only and is no higher, that of Sin no higher than 18-bit samples can be. -/
def State.noiseFrame (s : State) (g : Nat) (quiet : Bool) : State :=
  if !quiet then s
  else
    let r := s.freeLevel (-400)
    let t := r.2.freeLevel 151
    let a := t.2.freeEstimate (s.echo g).rinEst
    let b := a.2.freeEstimate (s.echo g).sinEst
    (((b.2.modEcho g (fun e => { e with rinEst := a.1, sinEst := b.1 })).wrS (chB g) Reg.ecNoiseRinNoise r.1).wrS (chB g)
      Reg.ecNoiseSinNoise t.1)

/-- R244, R271: a frame enters the levels over the last 100 ms, in which there was no signal before the channel opened. -/
def State.levelReports (s : State) (g : Nat) (rin sin : List Int) : State :=
  let b := chB g
  let l := windowPush 100 { rin := sumSq rin, sin := sumSq sin } (s.echo g).levels
  let den := 131071 ^ 2 * 8 * 100
  ((s.modEcho g (fun e => { e with levels := l })).reportDb b Reg.ecLevelsRin (2 * windowSum l EchoFrame.rin) den 1518).reportDb b
    Reg.ecLevelsSin (2 * windowSum l EchoFrame.sin) den 1518

/-- R246, R271: ERL and ERLE over the last second of adapting frames, from the first such second on. -/
def State.erlReports (s : State) (g : Nat) : State :=
  let b := chB g
  let l := (s.echo g).erls
  if l.length < 1000 then s else
    ((s.reportDb b Reg.ecErlErl (windowSum l EchoFrame.rin) (windowSum l EchoFrame.sin) 0).reportDb b Reg.ecErlErle
      (windowSum l EchoFrame.sin) (windowSum l EchoFrame.e) 0).wr b Reg.ecStatusErlValid 1

/-- Index of the largest tap, in samples, the lowest on a tie. -/
def largestTap (w : List Int) : Nat :=
  ((List.range w.length).foldl (fun (b : Nat × Nat) i =>
    if b.2 < (tapAt w i).natAbs then (i, (tapAt w i).natAbs) else b) (0, 0)).1

/-- What a frame's samples add to the canceller's windows. -/
def Echo.take (e : Echo) (r : EchoRun) : Echo :=
  { e with
    w := r.w, hist := r.hist, dtTill := r.dtTill, refill := r.refill, slips := []
    frames := windowPush 100 r.sum e.frames
    erls := if r.sum.adapted then windowPush 1000 r.sum e.erls else e.erls
    adapted := if r.sum.adapted then windowPush 200 r.sum e.adapted else e.adapted }

/-- R252: does the non-linear processor act on a frame with these samples? -/
def State.nlpActs (s : State) (g : Nat) (r : EchoRun) (active : Bool) : Bool :=
  let b := chB g
  s.ecPhase g == phaseConverged && !r.anyDt && !s.isSet b Reg.ecStatusBypass && !s.isSet b Reg.ecStatusNlpOffTd && active
    && geDb r.sum.rin r.sum.e (100 * (s.echo g).cfg.marginDb)

/-- R253: what the processor puts in place of a band's samples: themselves, attenuated, or comfort noise from the Sin estimate at
no more than `cn_max` (R254). -/
def State.nlpBand (s : State) (g : Nat) (x : List Int) : List Int × State :=
  let e := s.echo g
  match e.cfg.nlpMode with
  | 0 => (x, s)
  | 1 => (x.map (gained (-(100 * (e.cfg.attenDb : Int)))), s)
  | _ =>
    let d := s.comfortNoise e.sinEst (min (s.rdS (chB g) Reg.ecNoiseSinNoise) e.cfg.cnMax) x.length
    (d.1, d.2.2.modEcho g (fun y => { y with sinEst := d.2.1 }))

/-- R253: a linear cross-fade over a frame, from `a` to `b`. -/
def crossFade (a b : List Int) : List Int :=
  (List.range a.length).map (fun k =>
    sat18 (divRound (tapAt a k * ((a.length : Int) - k - 1) + tapAt b k * (k + 1)) a.length))

/-- R253: one band after the processor, which acted in the frame before as `was` says and acts now as `on` does. -/
def State.nlpApply (s : State) (g : Nat) (was on : Bool) (x : List Int) : List Int × State :=
  if !was && !on then (x, s)
  else
    let d := s.nlpBand g x
    (if was && on then d.1 else if on then crossFade x d.1 else crossFade d.1 x, d.2)

/-- What the canceller makes of a frame: e before the non-linear processor, and the bands of Sout. -/
structure EchoOut where
  e : List Int
  low : List Int
  high : List Int
  deriving DecidableEq, Repr

/-- R243-R256: the canceller's work on one frame of a channel that is not OFF. In bypass Sout equals Sin (R259). -/
def State.echoProcess (s : State) (g : Nat) (rin sin high : List Int) (active : Bool) : EchoOut × State :=
  let b := chB g
  let e := s.echo g
  let ph := s.ecPhase g
  let susp := s.echoSuspended g
  let bypass := s.isSet b Reg.ecStatusBypass
  let ok := decide (phaseFast ≤ ph) && !bypass && !susp && active
  let r := echoSamples e.cfg (s.taps g) (ph == phaseFast) ok s.now e.slips rin sin 8
    { w := e.w, hist := e.hist, dtTill := e.dtTill, refill := e.refill }
  let on := s.nlpActs g r active
  let was := s.isSet b Reg.ecStatusNlpOn
  let t := (((s.setEcho g (e.take r)).wrB b Reg.ecStatusDt r.dt).wrB b Reg.ecStatusNlpOn on).wr b Reg.ecStatusPathDelay
    (largestTap r.w + 8 * e.cfg.bulkMs)
  let u := if susp then t else t.noiseFrame g (!active && !r.anyDt)
  let v := if r.sum.adapted then u.erlReports g else u
  if bypass then ({ e := sin, low := sin, high := high }, v)
  else
    let lo := v.nlpApply g was on r.es.reverse
    let hi := lo.2.nlpApply g was on high
    ({ e := r.es.reverse, low := lo.1, high := hi.1 }, hi.2)

/-- One kernel frame of the channel's canceller: what takes effect at the tick, the events of R245, then the samples. A canceller
that is OFF passes Sin unchanged (R239) and keeps the Rin estimate (R255). `rin` and `sin` are at 8 kHz; `high` is the upper band
of Sin on a wideband channel. -/
def State.echoFrame (s : State) (g : Nat) (rin sin high : List Int) (rinTones sinTones : Heard) : EchoOut × State :=
  let active := levelAtLeast (sumSq rin) 8 (-4000)
  let a := ((s.tdTick g).echoEvents g active).levelReports g rin sin
  if a.ecPhase g = phaseOff then
    let b := a.modEcho g (fun e => { e with slips := [] })
    ({ e := sin, low := sin, high := high }, if b.echoSuspended g then b else b.noiseFrame g (!active))
  else (a.tdWatch g rin sin (unlessSilent rinTones rin) (unlessSilent sinTones sin)).echoProcess g rin sin high active

/-- DOUBLE_TALK_HANG_END (R251). -/
def execDoubleTalkHangEnd (g : Fin 2048) (s : State) : Host.Outcome State Fault Refusal :=
  .next (if (s.echo g).dtTill ≤ s.now then s.wr (chB g) Reg.ecStatusDt 0 else s)

/-! ### Open, modify, close (R263-R265) -/

/-- R245, R264: at an admitted open the words are applied; the canceller starts from OFF at the next tick. -/
def State.echoOpen (s : State) (g : Nat) (c : EchoCfg) : State :=
  let t := s.echoStop g
  (t.setEcho g { cfg := c }).setTd g false false false

/-- R265, R239: what a modify does to the canceller; `old` and `new` are the applied configurations. -/
def State.echoModify (s : State) (g : Nat) (c : EchoCfg) (old new : ChConfig) : State :=
  let e := s.echo g
  let t := s.setEcho g { e with cfg := c }
  let moved := old.bridge ≠ new.bridge ∨ old.timeslot ≠ new.timeslot ∨ old.peer ≠ new.peer
  let u := if old.tail = 1 ∧ new.tail = 0 then t.modEcho g (fun x => { x with w := x.w.take 1024 }) else t
  let v := if moved then (u.setTd g false false false).modEcho g (fun x => { x with toneRin := 0, toneSin := 0, tdDue := 0, quietMs := 0 })
    else u
  if !v.echoWanted g then v.echoStop g
  else if (moved ∨ e.cfg.bulkMs ≠ c.bulkMs) ∧ v.ecPhase g ≠ phaseOff then
    ((v.zeroTaps g).releaseBurst g).setPhase g phaseWait
  else v

/-- R360, R239: the channel is gone: the canceller stops. -/
def State.echoClose (s : State) (g : Nat) : State := s.echoStop g

/-- R264: EC_CMD acts at the next tick while the path is ACTIVE or MUTED. -/
def State.ecCommand (s : State) (g data : Nat) : State :=
  if s.pathView g ≠ pathActive ∧ s.pathView g ≠ pathMuted then s
  else s.modEcho g (fun e => { e with
    cmdReset := e.cmdReset || bitAt data 0, cmdForce := e.cmdForce || bitAt data 1, cmdRelease := e.cmdRelease || bitAt data 2 })

/-- EC_RESET_COEF (R245, R264). -/
def execEcResetCoef (fn : Fin 65) (g : Fin 2048) (s : State) : Host.Outcome State Fault Refusal :=
  .next (s.mmioWrite fn (chB g + 0x110) (fun t => t.ecCommand g 1))

/-- EC_TD_FORCE (R261, R264). -/
def execEcTdForce (fn : Fin 65) (g : Fin 2048) (s : State) : Host.Outcome State Fault Refusal :=
  .next (s.mmioWrite fn (chB g + 0x110) (fun t => t.ecCommand g 2))

/-- EC_TD_RELEASE (R261, R264). -/
def execEcTdRelease (fn : Fin 65) (g : Fin 2048) (s : State) : Host.Outcome State Fault Refusal :=
  .next (s.mmioWrite fn (chB g + 0x110) (fun t => t.ecCommand g 4))

/-- R270, R451: a controlled slip at highway frame `i` of the kernel frame under way: the canceller shifts its reference history at that
sample. -/
def State.echoSlip (s : State) (g i : Nat) (deleted : Bool) : State :=
  s.modEcho g (fun e => { e with slips := e.slips ++ [(i, deleted)] })

end Sys2Proof.Machine
end

