-- ==== Sys2Proof/Machine/Speech.lean ====
section
/-! DEFINITION. Voice payloads (08_coding_tones.md R272, R274, R289): how many bits a codec frame has, how frames are packed, and
what a received payload holds. The layouts are those of RFC 3551, RFC 4867 and 3GPP TS 26.445 Annex A, which R274 names (log
entry 43); the speech bits of all codecs but G.711 are free. -/

namespace Sys2Proof.Machine

/-- A string of bits: how many, and their value, the first bit being the most significant. -/
structure Bits where
  n : Nat := 0
  v : Nat := 0
  deriving DecidableEq, Repr

def Bits.app (a b : Bits) : Bits := { n := a.n + b.n, v := a.v * 2 ^ b.n + b.v % 2 ^ b.n }

/-- Filled with zeros to whole bytes. -/
def Bits.toBytes (a : Bits) : List Byte :=
  let k := (a.n + 7) / 8
  beBytes k (a.v * 2 ^ (8 * k - a.n))

/-- Bits `i` to `i` + `n` of a byte list. -/
def bitsAt (l : List Byte) (i n : Nat) : Nat := beVal l / 2 ^ (8 * l.length - i - n) % 2 ^ n

/-- R272: bits of a 20 ms frame at each mode's rate; SID frames after them. -/
def amrBits : List Nat := [95, 103, 118, 134, 148, 159, 204, 244, 39]
def awbBits : List Nat := [132, 177, 253, 285, 317, 365, 397, 461, 477, 40]
/-- EVS primary frames by rate code: 2.8 (of the 5.9 kb/s VBR mode), 7.2, 8.0, 9.6, 13.2, 16.4, 24.4 kb/s, the rates above
24.4 kb/s, and SID. -/
def evsBits : List Nat := [56, 144, 160, 192, 264, 328, 488, 640, 960, 1280, 1920, 2560, 48]

/-- A frame type's bits, 0 where it has none. -/
def bitsOfType (tbl : List Nat) (ft : Nat) : Nat := (tbl[ft]?).getD 0

/-! ### Sending (R274, R275, R276) -/

/-- What the encoder made of a codec frame. -/
inductive TxFrameKind where
  | speech | sid | nothing
  deriving DecidableEq, Repr

/-- `n` free bits. -/
def State.freeBits (s : State) (n : Nat) : Bits × State :=
  let d := s.drawNat
  ({ n := n, v := d.1 % 2 ^ n }, d.2)

/-- Frame type of an AMR-NB or AMR-WB frame in mode `mode`. -/
def amrType (wb : Bool) (mode : Nat) : TxFrameKind → Nat
  | .speech => mode
  | .sid => if wb then 9 else 8
  | .nothing => 15

/-- RFC 4867: the CMR, the table of contents and the frames, each of its mode, bandwidth-efficient or octet-aligned. -/
def State.amrPayload (s : State) (wb oa : Bool) (cmr : Nat) (kinds : List (TxFrameKind × Nat)) : List Byte × State :=
  let tbl := if wb then awbBits else amrBits
  let fts := kinds.map (fun k => amrType wb k.2 k.1)
  let toc := fts.zipIdx.map (fun x =>
    let more := b2n (x.2 + 1 != fts.length)
    if oa then ({ n := 8, v := more * 128 + x.1 * 8 + 4 } : Bits) else { n := 6, v := more * 32 + x.1 * 2 + 1 })
  let head : Bits := toc.foldl Bits.app (if oa then { n := 8, v := cmr % 16 * 16 } else { n := 4, v := cmr })
  let r := fts.foldl (fun (a : Bits × State) ft =>
    let d := a.2.freeBits (bitsOfType tbl ft)
    let x := a.1.app d.1
    (if oa then { n := (x.n + 7) / 8 * 8, v := x.v * 2 ^ ((x.n + 7) / 8 * 8 - x.n) } else x, d.2)) (head, s)
  (r.1.toBytes, r.2)

/-- The rate code of an EVS frame: primary or AMR-WB-interoperable; the 5.9 kb/s mode is source-controlled between 2.8, 7.2 and
8.0 kb/s. -/
def State.evsType (s : State) (mode : Nat) : TxFrameKind → Nat × State
  | .speech => if mode = 0 then (s.drawNat.1 % 3, s.drawNat.2) else (if mode < 7 then mode else mode - 7, s)
  | .sid => (if mode < 7 then 12 else 9, s)
  | .nothing => (15, s)

/-- The CMR byte of the header-full format. -/
def evsCmr (nb : Bool) (cmr : Nat) : Nat :=
  if cmr = 15 then 0xFF else if cmr < 7 then (if nb then 0x80 else 0xA0) + cmr else 0x90 + (cmr - 7)

/-- The 3-bit CMR of the compact format: the AMR-WB modes 0, 1, 2, 4, 5, 6, 8 at or below the one asked for. -/
def evsIoCmr (cmr : Nat) : Nat :=
  if cmr < 7 ∨ cmr = 15 then 7 else ((([0, 1, 2, 4, 5, 6, 8] : List Nat).filter (fun m => decide (m ≤ cmr - 7))).length) - 1

/-- The payload sizes, in bytes, that mark the compact format: all but the AMR-WB-interoperable SID's. -/
def evsPrimarySizes : List Nat := evsBits.map (· / 8)
def evsIoSizes : List Nat := (awbBits.take 9).map (fun b => (b + 3 + 7) / 8)

/-- An EVS frame as encoded: is it AMR-WB-interoperable, its rate code, its free bits. The first bit of a primary frame of 2.8 kb/s is 0
(TS 26.445 Annex A). -/
def State.evsFrame (s : State) (k : TxFrameKind × Nat) : (Bool × Nat × Bits) × State :=
  let io := decide (7 ≤ k.2)
  let t := s.evsType k.2 k.1
  let d := t.2.freeBits (bitsOfType (if io then awbBits else evsBits) t.1)
  ((io, t.1, if !io && t.1 == 0 then { d.1 with v := d.1.v % 2 ^ 55 } else d.1), d.2)

/-- TS 26.445 Annex A: compact for one frame unless header-full is asked for or it is an AMR-WB-interoperable SID, which that format lacks;
else header-full, with zero bytes where its size would be taken for a compact one. A lone AMR-WB-interoperable SID has seven bytes and is
told by its first bit. -/
def State.evsPayload (s : State) (nb hf : Bool) (cmr : Nat) (kinds : List (TxFrameKind × Nat)) : List Byte × State :=
  let r := kinds.foldl (fun (a : List (Bool × Nat × Bits) × State) k => let d := a.2.evsFrame k; (a.1 ++ [d.1], d.2)) ([], s)
  let lone := (r.1.head?).getD (false, 15, {})
  let sid := lone.1 && lone.2.1 == 9
  if !hf && r.1.length == 1 && !sid then
    ((if lone.1 then ({ n := 3, v := evsIoCmr cmr } : Bits).app lone.2.2 else lone.2.2).toBytes, r.2)
  else
    let toc := r.1.zipIdx.map (fun x =>
      BitVec.ofNat 8 (b2n (x.2 + 1 != r.1.length) * 64 + (if x.1.1 then 48 else 0) + x.1.2.1))
    let f := r.1.foldl (fun (a : List Byte) x => a ++ x.2.2.toBytes) (BitVec.ofNat 8 (evsCmr nb cmr) :: toc)
    let pad := if r.1.length = 1 ∧ sid then 0
      else ((List.range 9).find? (fun k => !(evsPrimarySizes ++ evsIoSizes).contains (f.length + k))).getD 0
    (f ++ List.replicate pad 0, r.2)

/-- R274: the two 4-bit codes of each byte exchanged: the packing "G726-32" of RFC 3551 has the first code in the low bits, that of ITU-T
I.366.2 in the high bits. -/
def swapCodes (l : List Byte) : List Byte := l.map (fun b => BitVec.ofNat 8 (b.toNat % 16 * 16 + b.toNat / 16))

/-- R274, R276: the payload of codec frames, each with its mode; `fmt` holds the format options of CO_CODEC. G.711 comes from its codes; the
other codecs' bits are free. -/
def State.voicePayload (s : State) (codec fmt cmr : Nat) (kinds : List (TxFrameKind × Nat)) : List Byte × State :=
  let bytes := fun (n : Nat) => let d := s.freeBits (8 * n); (d.1.toBytes, d.2)
  match codec with
  | 0 | 1 | 2 => bytes (80 * kinds.length)
  | 3 => let d := bytes (40 * kinds.length); (if bitAt fmt 3 then d.1 else swapCodes d.1, d.2)
  | 4 => bytes ((kinds.map (fun k => match k.1 with | .speech => 10 | .sid => 2 | .nothing => 0)).sum)
  | 5 => s.amrPayload false (bitAt fmt 0) cmr kinds
  | 6 => s.amrPayload true (bitAt fmt 0) cmr kinds
  | _ => s.evsPayload (bitAt fmt 2) (bitAt fmt 1) cmr kinds

/-! ### Receiving (R289) -/

/-- A codec frame of a received payload: its length in timestamp units; whether it is a SID or DTX frame; whether it is there to be
played; its bytes, of G.711 and, the first code of each byte in its high bits, of G.726. -/
structure VFrame where
  len : Nat
  sid : Bool := false
  lost : Bool := false
  data : List Byte := []
  deriving DecidableEq, Repr

/-- Kinds of a frame in a parsed payload. -/
inductive RxKind where
  | speech | sid | nothing | lost | tooFast
  deriving DecidableEq, Repr

/-- What frame type `ft` of AMR-NB or AMR-WB is; none where it is not defined. -/
def amrKind (wb : Bool) (ft : Nat) : Option RxKind :=
  let top := if wb then 8 else 7
  if ft ≤ top then some .speech
  else if ft = top + 1 then some .sid
  else if ft = 15 then some .nothing
  else if wb && ft == 14 then some .lost
  else none

/-- The frame types of a table of contents at bit `i`, `w` bits an entry. -/
def amrToc (l : List Byte) (w : Nat) : Nat → Nat → Option (List Nat)
  | 0, _ => none
  | n + 1, i =>
    if 8 * l.length < i + w then none
    else
      let ft := bitsAt l (i + 1) 4
      if bitsAt l i 1 = 0 then some [ft] else (amrToc l w n (i + w)).map (ft :: ·)

/-- R289: an AMR payload: its CMR and the kinds of its frames. -/
def parseAmr (wb oa : Bool) (l : List Byte) : Option (Nat × List RxKind) :=
  let tbl := if wb then awbBits else amrBits
  match amrToc l (if oa then 8 else 6) 4 (if oa then 8 else 4) with
  | none => none
  | some fts =>
    let kinds := fts.filterMap (amrKind wb)
    let need := if oa then 8 * (1 + fts.length + (fts.map (fun ft => (bitsOfType tbl ft + 7) / 8)).sum)
      else 4 + 6 * fts.length + (fts.map (bitsOfType tbl)).sum
    if kinds.length ≠ fts.length ∨ l.length ≠ (need + 7) / 8 then none else some (bitsAt l 0 4, kinds)

/-- What a rate code of EVS is, primary or AMR-WB-interoperable. -/
def evsKind (io : Bool) (ft : Nat) : Option RxKind :=
  if ft = 15 then some .nothing
  else if ft = 14 then some .lost
  else if io then (if ft ≤ 8 then some .speech else if ft = 9 then some .sid else none)
  else if ft ≤ 6 then some .speech
  else if ft ≤ 11 then some .tooFast
  else if ft = 12 then some .sid
  else none

/-- The header-full table of contents: kinds and byte lengths of the frames. -/
def evsToc (l : List Byte) : Nat → Nat → Option (List (RxKind × Nat))
  | 0, _ => none
  | n + 1, i =>
    if l.length ≤ i ∨ bitAt (beAt' l i) 7 then none
    else
      let b := beAt' l i
      let io := bitAt b 5
      match evsKind io (b % 16) with
      | none => none
      | some k =>
        let len := (bitsOfType (if io then awbBits else evsBits) (b % 16) + 7) / 8
        if bitAt b 6 then (evsToc l n (i + 1)).map ((k, len) :: ·) else some [(k, len)]
where
  beAt' (l : List Byte) (i : Nat) : Nat := ((l[i]?).getD 0).toNat

/-- The CMR that a CMR byte asks for, as a mode of R272; none for one that R272 does not know. -/
def evsCmrOf (b : Nat) : Option Nat :=
  let t := b / 16 % 8
  let d := b % 16
  if b = 0xFF then some 15
  else if (t = 0 ∨ t = 2) ∧ d ≤ 6 then some d
  else if t = 1 ∧ d ≤ 8 then some (7 + d)
  else none

/-- R289: an EVS payload. Of seven bytes, the first bit tells a compact frame of 2.8 kb/s from a header-full AMR-WB-interoperable SID. -/
def parseEvs (hf : Bool) (l : List Byte) : Option (Option Nat × List RxKind) :=
  let n := l.length
  if !hf && evsPrimarySizes.contains n && !(n == 7 && bitsAt l 0 1 == 1) then
    (evsKind false (evsPrimarySizes.findIdx (· == n))).map (fun k => (none, [k]))
  else if !hf && evsIoSizes.contains n then
    let c := bitsAt l 0 3
    (evsKind true (evsIoSizes.findIdx (· == n))).map (fun k =>
      (some (if c = 7 then 15 else 7 + (([0, 1, 2, 4, 5, 6, 8] : List Nat)[c]?).getD 0), [k]))
  else
    let b0 := ((l[0]?).getD 0).toNat
    let h := b2n (bitAt b0 7)
    match evsToc l 4 h with
    | none => none
    | some fs =>
      let need := h + fs.length + (fs.map Prod.snd).sum
      if n < need ∨ (l.drop need).any (· != 0) then none
      else some (if h = 1 then evsCmrOf b0 else none, fs.map Prod.fst)

/-- G.711, G.722 and G.726 payloads divide into frames of 10 ms and a rest. -/
def evenFrames (per lim : Nat) (l : List Byte) : Option (List VFrame) :=
  let ms := l.length / per
  if l.isEmpty ∨ l.length % per ≠ 0 ∨ lim < l.length then none
  else some ((List.range ((ms + 9) / 10)).map (fun i =>
    { len := 8 * min 10 (ms - 10 * i), data := (l.drop (10 * i * per)).take (10 * per) }))

/-- R289: the codec frames of a well-formed payload, the CMR it carries, and how many EVS frames are of a rate above 24.4 kb/s,
which are treated as lost; none where it is not well formed. -/
def parsePayload (codec fmt : Nat) (l : List Byte) : Option (List VFrame × Option Nat × Nat) :=
  let n := l.length
  let frames := fun (len : Nat) (cmr : Option Nat) (kinds : List RxKind) =>
    if kinds.isEmpty ∨ 3 < kinds.length then none
    else some (kinds.map (fun k => ({ len := len, sid := k == .sid || k == .nothing, lost := k == .lost || k == .tooFast } : VFrame)),
      cmr, (kinds.filter (· == .tooFast)).length)
  match codec with
  | 0 | 1 | 2 => (evenFrames 8 480 l).map (fun x => (x, none, 0))
  | 3 => (evenFrames 4 240 (if bitAt fmt 3 then l else swapCodes l)).map (fun x => (x, none, 0))
  | 4 =>
    if n = 0 ∨ 62 < n ∨ (n % 10 ≠ 0 ∧ n % 10 ≠ 2) then none
    else some (List.replicate (n / 10) { len := 80 } ++ (if n % 10 = 2 then [{ len := 80, sid := true }] else []), none, 0)
  | 5 => match parseAmr false (bitAt fmt 0) l with
    | some x => frames 160 (some x.1) x.2
    | none => none
  | 6 => match parseAmr true (bitAt fmt 0) l with
    | some x => frames 320 (some x.1) x.2
    | none => none
  | _ => match parseEvs (bitAt fmt 1) l with
    | some x => frames 320 x.1 x.2
    | none => none

end Sys2Proof.Machine
end

