-- ==== Sys2Proof/Machine/Jitter.lean ====
section
/-! DEFINITION. Jitter buffers and drift following (09_jitter_drift.md). Local time is in units of 2⁻¹⁶ ns, as the MAC's
receive timestamps are. -/

namespace Sys2Proof.Machine

def State.jitter (s : State) (g : Nat) : Jitter := Sparse.get {} s.jitters g
def State.setJitter (s : State) (g : Nat) (j : Jitter) : State := { s with jitters := Sparse.put {} s.jitters g j }
def State.modJitter (s : State) (g : Nat) (f : Jitter → Jitter) : State := s.setJitter g (f (s.jitter g))

/-- A nanosecond and a millisecond in local time units. -/
def nsU : Int := 65536
def msU : Int := 65536000000
/-- Local time of the channel's plate now. -/
def State.localU (s : State) (g : Nat) : Int := (s.tkNs (g / 256) : Int) * nsU

/-- CH_EVENT bits of this chapter (R339). -/
def evJbResync : Nat := 14
def evDfEdge : Nat := 15

/-- R338: the jitter words as they stand at apply; `nom_ms` is clamped again against the applied bounds. -/
def State.jbWords (s : State) (g : Nat) : JbCfg :=
  let b := chB g
  let lo := s.rd b Reg.jbDelayMinMs
  let hi := s.rd b Reg.jbDelayMaxMs
  { fixed := s.isSet b Reg.jbCtrlMode, slip := s.isSet b Reg.jbCtrlDfMode, skip := s.rd b Reg.jbCtrlJbSkip
    silDb := s.rd b Reg.jbCtrlSilDb, minMs := lo, maxMs := hi, nomMs := clampNat lo hi (s.rd b Reg.jbNomNomMs)
    marginMs := s.rd b Reg.jbNomMarginMs, winS := s.rd b Reg.jbNomWinS, dfWin := s.rd b Reg.jbDfDfWinS
    dfSlew := s.rd b Reg.jbDfDfSlew }

/-- R337: does the older fixed-rate behaviour apply to the channel? -/
def State.fixedRate (s : State) (g : Nat) : Bool := (s.chan g).fixedBuffer
/-- Slip mode, and fixed mode, as used (R325, R320, R337). -/
def State.slipMode (s : State) (g : Nat) : Bool := (s.jitter g).cfg.slip || s.fixedRate g
def State.fixedDelay (s : State) (g : Nat) : Bool := (s.jitter g).cfg.fixed || s.fixedRate g

def State.media (s : State) (g : Nat) : Media := Sparse.get {} s.medias g
def State.setMedia (s : State) (g : Nat) (m : Media) : State := { s with medias := Sparse.put {} s.medias g m }
def State.modMedia (s : State) (g : Nat) (f : Media → Media) : State := s.setMedia g (f (s.media g))

/-- Is the channel's audio wideband? -/
def State.chWide (s : State) (g : Nat) : Bool := codecWide (s.chan g).cfg.codec (bitAt (s.media g).cfg.fmt 2)
/-- Timestamp units per millisecond of the channel's codec. -/
def State.chTsMs (s : State) (g : Nat) : Nat := codecTsMs (s.chan g).cfg.codec

def State.sig (s : State) (g : Nat) : Sig := Sparse.get {} s.sigs g
def State.setSig (s : State) (g : Nat) (v : Sig) : State := { s with sigs := Sparse.put {} s.sigs g v }
def State.modSig (s : State) (g : Nat) (f : Sig → Sig) : State := s.setSig g (f (s.sig g))

/-- R313: samples in a kernel frame at the stream rate. -/
def State.kernelLen (s : State) (g : Nat) : Nat := if s.chWide g then 16 else 8

/-- R314: what P advances by in one kernel frame, in units of 2⁻³²: r × the timestamp units of a millisecond. -/
def State.frameAdvance (s : State) (g : Nat) : Int := (s.chTsMs g : Int) * (2 ^ 32 + (s.jitter g).ratio)

/-- P in units of 2⁻³². -/
def Jitter.posFix (j : Jitter) : Int := j.pos * 2 ^ 32 + j.frac
def Jitter.withPos (j : Jitter) (p : Int) : Jitter := { j with pos := p / 2 ^ 32, frac := (p % 2 ^ 32).toNat }

/-- R314: P in samples at the stream rate, in units of 2⁻³²: P / q. -/
def State.sampleFix (s : State) (g : Nat) (p : Int) : Int := p * s.kernelLen g / s.chTsMs g

/-- R315: the slack of timestamp `t` received at `a`: S(t) − a, S projected from P and r at this tick. -/
def State.slack (s : State) (g : Nat) (t a : Int) : Int :=
  s.localU g + (t * 2 ^ 32 - (s.jitter g).posFix) * msU / s.frameAdvance g - a

/-! ### Restarts (R323, R330, R331) -/

/-- R329: `df_edge` is 1 while the estimate is clamped; a change of it is announced. -/
def State.dfEdge (s : State) (g : Nat) (edge : Bool) : State :=
  if edge = s.isSet (chB g) Reg.jsStateDfEdge then s else (s.wrB (chB g) Reg.jsStateDfEdge edge).chEvent g evDfEdge

/-- R330: the buffer restarts: emptied, its points cleared, D_t at `nom_ms`, r at 1 + the estimate that is kept. -/
def State.jbRestart (s : State) (g : Nat) (keepEst announce : Bool) : State :=
  let j := s.jitter g
  let est := if keepEst then j.est else 0
  let t := s.setJitter g { j with
    running := false, playing := .zero, held := [], points := [], target := j.cfg.nomMs, est := est
    hasEst := keepEst && j.hasEst, ratio := if s.slipMode g then 0 else est, aim := if s.slipMode g then 0 else est
    second := [], spreads := [], spread := 0
    deleted := false, insertLeft := 0, earlyRun := 0, lateRun := 0, cmdResync := false, afterTakeover := false, holdLeft := 0 }
  let v := t.modSig g (fun x => { x with ahead := [], hist := [], fifo := [], last := [], lostMs := 0 })
  let u := if keepEst then v else v.dfEdge g false
  if announce then (u.bumpSat (chB g) Reg.jsAdjResyncs).chEvent g evJbResync else u

/-- R331: the estimate goes to 0 and the points are cleared. -/
def State.dfReset (s : State) (g : Nat) : State :=
  (s.modJitter g (fun j => { j with est := 0, hasEst := false, points := [], cmdDfReset := false })).dfEdge g false

/-- R323: P is set so that the first packet's first sample enters at the first frame tick at or after A + `nom_ms`; D and D_t
start at its slack, D_t at `nom_ms` in fixed mode (R320). -/
def State.jbStart (s : State) (g : Nat) (t a : Int) : State :=
  let j := s.jitter g
  let wait := a + j.cfg.nomMs * msU - s.localU g
  let ticks := if wait ≤ 0 then 0 else (wait + msU - 1) / msU
  let u := s.setJitter g ({ j with running := true, next := t, playing := .zero }.withPos
    (t * 2 ^ 32 - ticks * s.frameAdvance g))
  let d := u.slack g t a
  u.modJitter g (fun x => { x with delay := d, target := if u.fixedDelay g then x.cfg.nomMs else (divRound d msU).toNat })

/-! ### Filling (R316, R336) -/

/-- R314: a 32-bit timestamp unwrapped to the value nearest to P. -/
def Jitter.unwrap (j : Jitter) (t : Nat) : Int :=
  if j.running then j.pos + toSigned 32 (ofSigned 32 ((t : Int) - j.pos)) else (t : Int)

/-- What R316 makes of a codec frame: 0 held, 1 duplicate, 2 late, 3 early. One that has been played, or concealed and counted lost (R317), is
late also while P is held before its end (R321). -/
def State.placeFrame (s : State) (g : Nat) (f : JFrame) : Nat :=
  let j := s.jitter g
  if j.held.any (fun p => p.frames.any (fun x => x.t == f.t)) then 1
  else if f.t * 2 ^ 32 < j.posFix ∨ (j.playing ≠ .zero ∧ f.t < j.next) then 2
  else if j.posFix + ((j.cfg.maxMs + 80) * s.chTsMs g : Nat) * 2 ^ 32 < (f.t + f.len - 1) * 2 ^ 32 then 3
  else 0

/-- R336: after a takeover a first packet that is late may hold P, by at most 20 kernel frames; one that is not late finds P where it is, and
what is missing before it is lost. -/
def State.holdForLate (s : State) (g : Nat) (t : Int) : State :=
  let j := s.jitter g
  if j.holdLeft = 0 ∨ !j.running then s
  else
    let adv := s.frameAdvance g
    let n := ((j.posFix - t * 2 ^ 32 + adv - 1) / adv).toNat
    if n = 0 ∨ j.holdLeft < n then s.setJitter g { j with holdLeft := 0 }
    else
      ((s.modSig g (fun x => { x with ahead := [] })).setJitter g
        { j.withPos (j.posFix - n * adv) with holdLeft := 0, next := t, delay := j.delay + n * msU }).bumpSat (chB g)
          Reg.jsAdjInserted 0 n

/-- R316: before the first frame enters, one that comes out of order and lies before it takes its own place. -/
def Jitter.fillsFirst (j : Jitter) (fs : List JFrame) : Jitter :=
  if j.playing = .zero then { j with next := fs.foldl (fun n f => min n f.t) j.next } else j

/-- R316, R319, R330: an accepted voice packet `e` with first timestamp `ts` and the given codec frames in its cells. -/
def State.jbAccept (s : State) (g ts : Nat) (e : Entry) (lens : List VFrame) : State :=
  let a : Int := e.rxTs
  let t1 := (s.jitter g).unwrap ts
  let u := if (s.jitter g).running then s.holdForLate g t1 else s.jbStart g t1 a
  let fs := (lens.foldl (fun (r : List JFrame × Int) l =>
    (if l.lost then r.1 else { t := r.2, len := l.len, sid := l.sid, data := l.data } :: r.1, r.2 + l.len)) ([], t1)).1.reverse
  let marks := fs.map (fun f => (f, u.placeFrame g f))
  let kept := (marks.filter (fun m => m.2 == 0)).map Prod.fst
  let count := fun (k : Nat) => (marks.filter (fun m => m.2 == k)).length
  let far := decide (((u.jitter g).cfg.maxMs * u.chTsMs g : Nat) * 2 ^ 32 < (u.jitter g).posFix - t1 * 2 ^ 32)
  let b := chB g
  let v := ((u.bumpSat b Reg.jsDropDup 0 (count 1)).bumpSat b Reg.jsLossLate 0 (count 2)).bumpSat b Reg.jsDropEarly 0 (count 3)
  let w := v.modJitter g (fun j => { j.fillsFirst kept with
    second := (v.slack g t1 a, a, t1) :: j.second
    held := if kept.isEmpty then j.held else j.held ++ [{ slot := e.slot, cells := e.cells, cell := e.cell, frames := kept }]
    earlyRun := if count 3 = marks.length ∧ marks ≠ [] then j.earlyRun + 1 else 0
    lateRun := if count 2 = marks.length ∧ marks ≠ [] ∧ far = true then j.lateRun + 1 else 0 })
  if 8 ≤ (w.jitter g).earlyRun ∨ 8 ≤ (w.jitter g).lateRun then w.jbRestart g true true else w

/-! ### Playing one kernel frame (R317, R318, R321, R322, R325) -/

/-- The frames that start before `t` leave the buffer; a packet without frames leaves its cells. -/
def dropBefore (t : Int) (l : List JPacket) : List JPacket :=
  (l.map (fun p => { p with frames := p.frames.filter (fun f => t ≤ f.t) })).filter (fun p => !p.frames.isEmpty)

/-- The held frame with the smallest timestamp. -/
def earliest (l : List JPacket) : Option JFrame :=
  (l.flatMap JPacket.frames).foldl (fun b f => match b with
    | none => some f
    | some x => if f.t < x.t then some f else b) none

/-- Samples at the stream rate in `len` timestamp units. -/
def State.samplesIn (s : State) (g : Nat) (len : Nat) : Nat := len * s.kernelLen g / s.chTsMs g

/-- R277: a loss of a G.711 channel begins: the pitch period of what was decoded is found, and the samples in the decoder's delay run into
its repetition. -/
def Sig.lossBegins (x : Sig) : Sig :=
  let h := firstOf plcHistory x.last
  let pitch := plcPitch h
  let tail := plcTail h pitch
  { x with lossHist := h, lossPitch := pitch, last := tail, fifo := (firstOf 30 tail).reverse }

/-- R277: the decoder's output for `n` samples of a lost frame: G.711 by Appendix I; G.722 and G.726 repeat a pitch period, which is free, of
what was decoded before, attenuated by 6 dB for each 10 ms after the first 10 ms; the concealment of the other codecs is free. -/
def State.conceal (s : State) (g n : Nat) : List Int × State :=
  let codec := (s.chan g).cfg.codec
  let rate := s.kernelLen g
  let x := if codec < 2 ∧ (s.sig g).lostMs = 0 then (s.sig g).lossBegins else s.sig g
  let r : List Int × State :=
    if codec < 2 then ((List.range n).map (fun i => plcSample x.lossHist x.lossPitch (8 * x.lostMs + i)), s)
    else if codec = 2 ∨ codec = 3 then
      let lag := 1 + s.drawNat.1 % (20 * rate)
      ((List.range n).map (fun i => gained (-(60 * (x.lostMs + i / rate - 10 : Nat) : Int)) (tapAt x.last (lag - 1 - i % lag))), s.drawNat.2)
    else s.freeSamples n
  (r.1, r.2.setSig g { x with lostMs := x.lostMs + n / rate, last := if codec < 2 then histAfter plcHistory x.last r.1 else x.last })

/-- The decoder's output for a frame (R272, R277): the codes of G.711 expanded (R306), after a loss joined to its concealment; what the other
codecs decode to is free (log entry 9), as is the comfort noise of a SID or DTX frame. -/
def State.decode (s : State) (g : Nat) (f : JFrame) : List Int × State :=
  let n := s.samplesIn g f.len
  let codec := (s.chan g).cfg.codec
  let x := s.sig g
  let r : List Int × State := if codec < 2 ∧ !f.sid then
      let l := (f.data.take n).map (lawExpand (codec == 1))
      (if x.lostMs = 0 then l else plcRecover x.lossHist x.lossPitch (8 * x.lostMs) l, s)
    else s.freeSamples n
  (r.1, r.2.modSig g (fun y => { y with last := histAfter plcHistory y.last r.1, lostMs := 0 }))

/-- R277, R326: decoded samples wait for the resampler, those of G.711 behind its delay of 3.75 ms (30 samples); `at_` is the index
of the first where none waits. -/
def State.pushDecoded (s : State) (g : Nat) (at_ : Int) (l : List Int) : State :=
  s.modSig g (fun x =>
    let q := if (s.chan g).cfg.codec < 2 then firstOf 30 x.fifo ++ l else l
    let out := q.take l.length
    { x with idx := if x.ahead.isEmpty then at_ else x.idx, ahead := x.ahead ++ out, fifo := q.drop l.length })

/-- The index at the stream rate of the sample with timestamp `t`. -/
def State.sampleIdx (s : State) (g : Nat) (t : Int) : Int := s.sampleFix g t

/-- R317, R318: a frame of `len` units from `t` that is not there: DTX noise goes on, or it is concealed and counted lost. -/
def State.missFrame (s : State) (g : Nat) (t : Int) (len : Nat) : State :=
  if (s.jitter g).playing = .noise then
    let d := s.freeSamples (s.samplesIn g len)
    d.2.pushDecoded g (s.sampleIdx g t) d.1
  else
    let d := s.conceal g (s.samplesIn g len)
    ((d.2.pushDecoded g (s.sampleIdx g t) d.1).modJitter g (fun j => { j with playing := .conceal })).bumpSat (chB g) Reg.jsLossLost

/-- R317, R318: the codec frames that would enter before P reaches `until_` are taken, or concealed and counted lost. -/
def State.enterFrames (s : State) (g : Nat) (until_ : Int) : Nat → State
  | 0 => s
  | n + 1 =>
    let j := s.jitter g
    if until_ ≤ j.next * 2 ^ 32 then s
    else
      let held := dropBefore j.next j.held
      let flen : Int := (codecMs (s.chan g).cfg.codec * s.chTsMs g : Nat)
      let lost := fun (nx : Int) => (s.setJitter g { j with held := held, next := nx }).missFrame g j.next (nx - j.next).toNat
      let t := match earliest held with
        | some f =>
          if f.t = j.next then
            let d := s.decode g f
            (d.2.setJitter g { j with held := dropBefore (j.next + 1) held, next := j.next + f.len
                                      playing := if f.sid then .noise else .voice }).pushDecoded g (s.sampleIdx g j.next) d.1
          else if f.t < j.next + flen then lost f.t else lost (j.next + flen)
        | none => lost (j.next + flen)
      t.enterFrames g until_ n

/-- R326, R327: output sample number `k` of a frame that begins at P = `p0`: the samples up to P enter, then the interpolator, or
in slip mode the delay line of 12 samples. -/
def resampleStep (slip : Bool) (at_ : Int) (x : Sig) : Int × Sig :=
  let m := (at_ / 2 ^ 32 + 1 - x.idx).toNat
  let y := { x with hist := histAfter 25 x.hist (firstOf m x.ahead), ahead := x.ahead.drop m, idx := x.idx + m }
  (if slip then tapAt y.hist 12 else resampleAt y.hist (at_ % 2 ^ 32).toNat, y)

/-- R313, R314: one kernel frame of `n` samples, P's position in samples being `x0` and advancing by `step` (2⁻³²). -/
def resampleRun (slip : Bool) (step : Int) : Nat → Int → Sig → List Int × Sig
  | 0, _, x => ([], x)
  | n + 1, at_, x =>
    let r := resampleStep slip at_ x
    let rest := resampleRun slip step n (at_ + step) r.2
    (r.1 :: rest.1, rest.2)

/-- R325, R335: r moves toward its target by at most `df_slew` / 1,000 ppm; in slip mode it is exactly 1; after a takeover it is held. -/
def State.slewRatio (s : State) (g : Nat) : State :=
  let j := s.jitter g
  if s.slipMode g then s.setJitter g { j with ratio := 0, aim := 0 }
  else if j.afterTakeover ∧ j.points.length < 4 then s
  else
    let step : Int := (j.cfg.dfSlew * 2 ^ 32 / 10 ^ 9 : Nat)
    s.setJitter g { j with ratio := clampInt (j.ratio - step) (j.ratio + step) j.est, aim := j.est, afterTakeover := false }

/-- R321, R322: the adjustment made in a frame, `eligible` or not: kernel frames to insert, and whether one is deleted. -/
def State.adjustment (s : State) (g : Nat) (eligible : Bool) : Nat × Bool × Bool :=
  let j := s.jitter g
  let d := (j.target : Int) * msU - j.delay
  if j.insertLeft ≠ 0 then (0, false, false)
  else if eligible && !s.fixedRate g then
    if msU ≤ d then ((d / msU).toNat, false, false)
    else if d ≤ -msU ∧ !j.deleted then (0, true, false) else (0, false, false)
  else if 8 * msU ≤ d then (1, false, true)
  else if d ≤ -(8 * msU) then (0, true, true)
  else (0, false, false)

/-- R321: is the decoded level of the kernel frame that enters below −`sil_db` dBm0? -/
def State.decodedQuiet (s : State) (g : Nat) : Bool :=
  !levelAtLeast (sumSq (firstOf (s.kernelLen g) (s.sig g).ahead)) (s.kernelLen g) (-(100 * ((s.jitter g).cfg.silDb : Nat) : Int))

/-- R321: a deletion: P has gone on by a kernel frame whose samples give no output. -/
def State.skipSamples (s : State) (g : Nat) : State :=
  s.modSig g (fun x => { x with ahead := x.ahead.drop (s.kernelLen g), idx := x.idx + s.kernelLen g })

/-- R321: a kernel frame is inserted, P held: the decoder conceals it. -/
def State.insertedFrame (s : State) (g : Nat) : List Int × State :=
  let n := s.kernelLen g
  let d := s.conceal g n
  let x := d.2.sig g
  let at_ := s.sampleFix g (s.jitter g).posFix
  let r := resampleRun (s.slipMode g) (2 ^ 32) n at_ { x with ahead := d.1 ++ x.ahead, idx := at_ / 2 ^ 32 }
  (r.1, d.2.setSig g { r.2 with idx := x.idx })

/-- One kernel frame of a running buffer: what enters, the adjustment, what is delivered. -/
def State.jbPlay (s : State) (g : Nat) : List Int × State :=
  let b := chB g
  let adv := s.frameAdvance g
  let a := if (s.jitter g).insertLeft = 0 then s.enterFrames g ((s.jitter g).posFix + adv) 4 else s
  let j := a.jitter g
  let eligible := j.playing == .conceal || j.playing == .noise || a.decodedQuiet g
  let r := a.adjustment g eligible
  let left := j.insertLeft + r.1
  let del := r.2.1
  let c := ((a.bumpSat b Reg.jsAdjInserted 0 r.1).bumpSat b Reg.jsAdjDeleted 0 (b2n del)).bumpSat b Reg.jsAdjForced 0 (b2n r.2.2)
  let start := if del then j.posFix + adv else j.posFix
  let pos := if left ≠ 0 then j.posFix else start + adv
  let v := { j.withPos pos with
    insertLeft := left - 1, delay := j.delay + r.1 * msU - (if del then msU else 0)
    deleted := if eligible then del else j.deleted }
  let d := c.setJitter g v
  let e := if del then (d.enterFrames g pos 4).skipSamples g else d
  let out : List Int × State := if left ≠ 0 then c.insertedFrame g
    else
      let x := resampleRun (s.slipMode g) (s.sampleFix g (s.frameAdvance g) / s.kernelLen g) (s.kernelLen g) (s.sampleFix g start) (e.sig g)
      (x.1, e.setSig g x.2)
  let f := if left ≠ 0 then out.2.setJitter g v else out.2
  let conceal := left ≠ 0 ∨ j.playing = .conceal
  (out.1, f.wr b Reg.jsConcealMs (f.rd b Reg.jsConcealMs + (if conceal then 1 else 0)))

/-- R329, R339: the follower's state: 0 OFF, 1 ACQUIRE, 2 SLEW, 3 TRACK. -/
def State.dfState (s : State) (g : Nat) : Nat :=
  let j := s.jitter g
  if s.slipMode g || (!j.hasEst && !j.afterTakeover) then 0
  else if j.points.length < 4 then 1
  else if 429 < (j.aim - j.ratio).natAbs then 2 else 3

/-- R339: the reported words after a frame. -/
def State.jbReports (s : State) (g : Nat) : State :=
  let b := chB g
  let j := s.jitter g
  let rate : Int := if s.chWide g then 16 else 8
  let delayFix : Int := 12 * 2 ^ 32 + (if s.slipMode g then 0 else (j.frac : Int))
  let d := s.drawRound (delayFix * 1000) (rate * 2 ^ 32)
  let e := d.2.drawRound (10 * j.spread) msU
  let t := (e.2.wr b Reg.jsDelayDelayX10 (divRound (10 * j.delay) msU).toNat).wr b Reg.jsDelayTargetMs j.target
  let u := (t.wr b Reg.jsJitterSpreadX10 e.1.toNat).wr b Reg.jsJitterResampUs d.1.toNat
  let v := ((u.wrS b Reg.jsRatioRatio j.ratio).wrS b Reg.jsEstEst j.est).wr b Reg.jsPosPos (ofSigned 32 j.pos)
  let st := if !j.running then 0 else if j.playing = .noise then 2 else 1
  ((v.wr b Reg.jsStateJbState st).wr b Reg.jsStateDfState (v.dfState g)).wr b Reg.jsStatePoints j.points.length

/-- R338: at a tick at which the path is not ACTIVE, MUTED or HELD the commands that wait are ignored. -/
def State.jbCommands (s : State) (g : Nat) : State :=
  let v := s.pathView g
  if v = pathActive ∨ v = pathMuted ∨ v = pathHeld then s
  else s.modJitter g (fun j => { j with cmdResync := false, cmdDfReset := false })

/-- One kernel frame of the buffer and follower (R313, R321-R325, R330, R331): the samples it delivers, zeros until the first voice
packet (R323). -/
def State.jbFrame (s : State) (g : Nat) : List Int × State :=
  let b := s.jbCommands g
  let a := if (b.jitter g).cmdResync then b.jbRestart g true true else b
  let c := if (a.jitter g).cmdDfReset then a.dfReset g else a
  let d := c.slewRatio g
  let e := if (d.jitter g).running then d.jbPlay g else (List.replicate (d.kernelLen g) 0, d)
  (e.1, (e.2.wr (chB g) Reg.jsPlayedMs (e.2.rd (chB g) Reg.jsPlayedMs + 1)).jbReports g)

/-! ### Each second (R319, R320, R324) -/

/-- A value put in its place in an ascending list. -/
def insertInt (v : Int) : List Int → List Int
  | [] => [v]
  | x :: r => if v ≤ x then v :: x :: r else x :: insertInt v r

/-- The (`k` + 1)-th smallest of a list, or the smallest when it has no more than `k` elements. -/
def kthSmallest (k : Nat) (l : List Int) : Int :=
  let sorted := l.foldr insertInt []
  match sorted[k]? with
  | some v => v
  | none => sorted.headD 0

/-- R320: D_t after a second. -/
def State.newTarget (s : State) (g : Nat) (spread : Int) : Nat :=
  let j := s.jitter g
  if s.fixedDelay g then j.cfg.nomMs
  else
    let want := clampNat j.cfg.minMs j.cfg.maxMs (((2 * (spread + j.cfg.marginMs * msU) + msU) / (2 * msU)).toNat)
    if j.target ≤ want then want else max want (j.target - 4)

/-- R324: the estimate from the points, oldest last: the least-squares slope over f, less 1, as (numerator, denominator). -/
def slopeOff (tsMs : Nat) (pts : List (Int × Int)) : Int × Int :=
  let n : Int := pts.length
  let a0 := ((pts.head?).map Prod.fst).getD 0
  let t0 := ((pts.head?).map Prod.snd).getD 0
  let p := pts.map (fun x => (x.1 - a0, x.2 - t0))
  let sa := p.foldl (fun s x => s + x.1) 0
  let st := p.foldl (fun s x => s + x.2) 0
  let sat := p.foldl (fun s x => s + x.1 * x.2) 0
  let saa := p.foldl (fun s x => s + x.1 * x.1) 0
  let den := (n * saa - sa * sa) * tsMs
  ((n * sat - sa * st) * msU - den, den)

/-- ±500 ppm in units of 2⁻³², rounded down: r never exceeds it (R328). -/
def ppm500 : Int := 2147483

/-- R324, R329: the estimate is recomputed once at least 4 points span at least 3 s. -/
def State.reestimate (s : State) (g : Nat) : State :=
  let j := s.jitter g
  let first := ((j.points.getLast?).map Prod.fst).getD 0
  let last := ((j.points.head?).map Prod.fst).getD 0
  if j.points.length < 4 ∨ last - first < 3000 * msU then s
  else
    let q := slopeOff (s.chTsMs g) j.points
    if q.2 ≤ 0 then s
    else
      let d := s.drawRound (q.1 * 2 ^ 32) q.2
      let edge := decide (q.2 ≤ 2000 * q.1 ∨ 2000 * q.1 ≤ -q.2)
      (d.2.setJitter g { j with est := clampInt (-ppm500) ppm500 d.1, hasEst := true }).dfEdge g edge

/-- R319, R320, R324: the update of a second that had voice packets, and of one that had none. -/
def State.jbSecond (s : State) (g : Nat) : State :=
  let j := s.jitter g
  let sec := s.tkNs (g / 256) / secNs
  let t := match j.second with
    | [] => s
    | first :: rest =>
      let slacks : List Int := (first :: rest).map Prod.fst
      let h := slacks.foldl max first.1
      let l := kthSmallest j.cfg.skip slacks
      let spreads := ((h - l) :: j.spreads).take j.cfg.winS
      let spread : Int := spreads.foldl max 0
      let transit := fun (x : Int × Int × Int) => x.2.1 * s.chTsMs g - x.2.2 * msU
      let best : Int × Int × Int := rest.foldl (fun b x => if transit x < transit b then x else b) first
      s.setJitter g { j with
        delay := h, spread := spread, spreads := spreads, target := s.newTarget g spread
        points := (best.2 :: j.points).take j.cfg.dfWin }
  let had := !j.second.isEmpty
  let u := if had then t.reestimate g else t
  u.modJitter g (fun x => { x with second := [], secondDone := sec })

/-- JITTER_SECOND_UPDATE (R319, R320, R324): a whole second of local time has passed since the last update. The follower stops in FROZEN and
FAULT (R333); on a STANDBY plate D, D_t and J are those of the mirror (R334), and the second passes. -/
def execJitterSecondUpdate (g : Fin 2048) (s : State) : Host.Outcome State Fault Refusal :=
  let sec := s.tkNs (g / 256) / secNs
  let v := s.pathView g
  .next (if !s.chOpen g || v == pathFrozen || s.path g == pathFault || decide (sec ≤ (s.jitter g).secondDone) then s
    else if s.role (g / 256) = roleStandby then s.modJitter g (fun j => { j with second := [], secondDone := sec })
    else s.jbSecond g)

/-! ### Commands, open, modify, close (R330, R333, R338, R339) -/

/-- R338: JB_CMD waits for the next tick, which decides by its path. -/
def State.jbCommand (s : State) (g data : Nat) : State :=
  if !s.chOpen g then s
  else s.modJitter g (fun j => { j with
    cmdResync := j.cmdResync || bitAt data 0, cmdDfReset := j.cmdDfReset || bitAt data 1 })

/-- JB_RESYNC_COMMAND (R330, R338). -/
def execJbResyncCommand (fn : Fin 65) (g : Fin 2048) (s : State) : Host.Outcome State Fault Refusal :=
  .next (s.mmioWrite fn (chB g + 0x150) (fun t => t.jbCommand g 1))

/-- DF_RESET_COMMAND (R331, R338). -/
def execDfResetCommand (fn : Fin 65) (g : Fin 2048) (s : State) : Host.Outcome State Fault Refusal :=
  .next (s.mmioWrite fn (chB g + 0x150) (fun t => t.jbCommand g 2))

/-- R330, R337, R339: an admitted open: the words are applied, the statistics are 0, the buffer starts. -/
def State.jbOpen (s : State) (g : Nat) (c : JbCfg) : State :=
  let t := s.clearRegs (chB g + 0x1B0) (chB g + 0x1E0) (fun _ => false)
  let sec := s.tkNs (g / 256) / secNs
  (t.setJitter g { cfg := c, secondDone := sec }).jbRestart g false false

/-- R307, R320, R330: a modify: the words are applied, D_t of fixed mode with them; a change of codec or of RTP_RX restarts the
buffer, the estimate kept. -/
def State.jbModify (s : State) (g : Nat) (c : JbCfg) (restart : Bool) : State :=
  let t := s.modJitter g (fun j => { j with cfg := c, target := if c.fixed || s.fixedRate g then c.nomMs else j.target })
  if restart then t.jbRestart g true false else t

/-- R333, R360: in CLOSING held frames are discarded and their cells released. -/
def State.jbClose (s : State) (g : Nat) : State := { s with jitters := Sparse.del s.jitters g }

/-- R333: the state of a channel in FAULT is lost, with the frames it held; an open from FAULT restarts the buffer. -/
def State.jbLost (s : State) (g : Nat) : State := s.modJitter g (fun j => { cfg := j.cfg, secondDone := j.secondDone })

/-- R332: a step of local time by `ns`, just made, moves the receive times of held values and of the packets that wait for the channel with
it; the seconds of the updates move as well, none being made or left out for the step. -/
def State.jbShift (s : State) (g : Nat) (ns : Int) : State :=
  let p := g / 256
  let now : Int := s.tkNs p
  let sec := now / secNs - (now - ns) / secNs
  let t := s.modJitter g (fun j => { j with
    points := j.points.map (fun x => (x.1 + ns * nsU, x.2))
    second := j.second.map (fun x => (x.1, x.2.1 + ns * nsU, x.2.2))
    secondDone := ((j.secondDone : Int) + sec).toNat })
  t.setQueue p (40 + g % 256) ((t.queue p (40 + g % 256)).map (fun e => { e with rxTs := ((e.rxTs : Int) + ns * nsU).toNat }))

end Sys2Proof.Machine
end

