-- ==== Sys2Proof/Machine/Packets.lean ====
section
/-! DEFINITION. Ethernet, IP, UDP, RTP and RTCP packets as bytes: the header fields that the device fills in (R282-R285)
and the fields it reads (R286, R390-R394, RFC 3550 and the IP standards as the spec names them). -/

namespace Sys2Proof.Machine

/-- Big-endian value of `n` bytes at byte `i`. -/
def beAt (l : List Byte) (i n : Nat) : Nat := beVal (bytesAt l i n)

/-- `l` with the bytes `v` in place from byte `i`. -/
def patchAt (l : List Byte) (i : Nat) (v : List Byte) : List Byte := l.take i ++ v ++ l.drop (i + v.length)

/-- Sum of the 16-bit words of a byte list, the last byte padded with zero. -/
def wordSum : List Byte → Nat
  | [] => 0
  | [a] => a.toNat * 256
  | a :: b :: r => a.toNat * 256 + b.toNat + wordSum r

/-- One's complement of the one's-complement sum of 16 bits. -/
def onesCheck (n : Nat) : Nat :=
  let a := n % 65536 + n / 65536
  let b := a % 65536 + a / 65536
  let c := b % 65536 + b / 65536
  65535 - c

/-- R283: length of the IP header of a template. -/
def tmplIpLen (tmpl : List Byte) (ipv6 : Bool) : Nat :=
  if ipv6 then 40
  else
    let ihl := beAt tmpl 14 1 % 16
    4 * (if ihl < 5 ∨ 10 < ihl then 5 else ihl)

/-- Sum of the UDP pseudo-header: the addresses, the protocol and the length. -/
def pseudoSum (ip : List Byte) (ipv6 : Bool) (len : Nat) : Nat :=
  (if ipv6 then wordSum (bytesAt ip 8 32) else wordSum (bytesAt ip 12 8)) + 17 + len

/-- R284: the IP header filled in for a UDP length of `len`. -/
def fillIp (ip : List Byte) (ipv6 : Bool) (ipId len : Nat) : List Byte :=
  if ipv6 then patchAt ip 4 (beBytes 2 len)
  else
    let a := patchAt (patchAt (patchAt ip 2 (beBytes 2 (ip.length + len))) 4 (beBytes 2 ipId)) 10 (beBytes 2 0)
    patchAt a 10 (beBytes 2 (onesCheck (wordSum a)))

/-- R282-R284: the frame that carries an RTP or RTCP packet behind the egress header template. -/
def buildFrame (tmpl : List Byte) (ipv6 udpCsum : Bool) (ipId : Nat) (portUp : Bool) (payload : List Byte) : List Byte :=
  let n := tmplIpLen tmpl ipv6
  let len := 8 + payload.length
  let ip := fillIp (bytesAt tmpl 14 n) ipv6 ipId len
  let up := fun (i : Nat) => beBytes 2 ((beAt tmpl (14 + n + i) 2 + b2n portUp) % 65536)
  let udp := up 0 ++ up 2 ++ beBytes 2 len ++ beBytes 2 0
  let c := onesCheck (pseudoSum ip ipv6 len + wordSum (udp ++ payload))
  let sum := if ipv6 || udpCsum then (if c = 0 then 65535 else c) else 0
  tmpl.take 14 ++ ip ++ patchAt udp 6 (beBytes 2 sum) ++ payload

/-- An RTP packet (R285). -/
def rtpPacket (marker : Bool) (pt seq ts ssrc : Nat) (payload : List Byte) : List Byte :=
  [0x80, BitVec.ofNat 8 (b2n marker * 128 + pt)] ++ beBytes 2 seq ++ beBytes 4 ts ++ beBytes 4 ssrc ++ payload

/-- The payload of a telephone event packet (RFC 4733): code, end bit and volume, duration (R293, R295). -/
def eventPayload (code volume : Nat) (last : Bool) (dur : Nat) : List Byte :=
  [BitVec.ofNat 8 code, BitVec.ofNat 8 (b2n last * 128 + volume % 64)] ++ beBytes 2 (min 65535 dur)

/-! ### Received frames -/

/-- What classification reads of a frame behind its Ethernet header (R392, R394): the EtherType after any tag, the
destination address, and of an IP packet its version, protocol, destination, fragment state, destination port and UDP
payload. -/
structure Parsed where
  etype : Nat := 0
  dmac : Nat := 0
  ipv4 : Bool := false
  ipv6 : Bool := false
  proto : Nat := 0
  dst : List Byte := []
  fragment : Bool := false
  dport : Nat := 0
  payload : List Byte := []
  deriving DecidableEq, Repr

/-- A frame without FCS taken apart; a tag 0x8100 at byte 12 is skipped. -/
def parseFrame (f : List Byte) : Parsed :=
  let off := if beAt f 12 2 = 0x8100 then 18 else 14
  let et := beAt f (off - 2) 2
  let base : Parsed := { etype := et, dmac := beAt f 0 6 }
  if et = 0x0800 then
    let ihl := 4 * (beAt f off 1 % 16)
    let l4 := f.drop (off + ihl)
    { base with
      ipv4 := true, proto := beAt f (off + 9) 1, dst := bytesAt f (off + 16) 4
      fragment := beAt f (off + 6) 2 % 0x4000 != 0, dport := beAt l4 2 2
      payload := (l4.drop 8).take (beAt l4 4 2 - 8) }
  else if et = 0x86DD then
    let l4 := f.drop (off + 40)
    { base with
      ipv6 := true, proto := beAt f (off + 6) 1, dst := bytesAt f (off + 24) 16, dport := beAt l4 2 2
      payload := (l4.drop 8).take (beAt l4 4 2 - 8) }
  else base

/-- An RTP packet's payload without its CSRC list, header extension and padding; none where the packet fails row 1 of R286. A CSRC
list longer than the packet fails no row: it leaves an empty payload. -/
def rtpPayload (l : List Byte) : Option (List Byte) :=
  let b0 := beAt l 0 1
  if l.length < 12 ∨ b0 / 64 ≠ 2 then none
  else
    let h := 12 + 4 * (b0 % 16)
    let ext := if bitAt b0 4 then 4 + 4 * beAt l (h + 2) 2 else 0
    let pad := if bitAt b0 5 then beAt l (l.length - 1) 1 else 0
    let room := if bitAt b0 4 || bitAt b0 5 then l.length else max l.length h
    if room < h + (if bitAt b0 4 then 4 else 0) ∨ room < h + ext + pad then none
    else some (bytesAt l (h + ext) (l.length - h - ext - pad))

end Sys2Proof.Machine
end

