-- ==== Sys2Proof/Machine/Media.lean ====
section
/-! DEFINITION. Coding, packetising and tones (08_coding_tones.md): what a channel applies, the packets it sends, what it
makes of received packets, RTCP, telephone events, tone reports and generators. What the codecs but G.711 make of a signal is free
(log entry 9). -/

namespace Sys2Proof.Machine

/-- CH_EVENT bits of this chapter (R311). -/
def evTone : Nat := 11
def evRxPtBad : Nat := 12
def evSsrcChange : Nat := 13

/-! ### Apply (R273, R307) -/

/-- Bytes of a run of `n` words (R282). -/
def State.wordBytes (s : State) (b : Nat) (r : Row) (n : Nat) : List Byte :=
  (List.range n).flatMap (fun i => leBytes 4 (s.rd b r i))

/-- R273, R307: the words as they stand at apply, for the codec being applied. -/
def State.mediaWords (s : State) (g codec : Nat) : MediaCfg :=
  let b := chB g
  let fpp := s.rd b Reg.coCodecFpp
  { tmpl := s.wordBytes b Reg.pkTmplBytes 16, ipv6 := s.rd b Reg.pkTmplCtrlIp == 2
    pt := s.rd b Reg.rtpTxPt, evPt := s.rd b Reg.rtpTxEvPt, rtcpEn := s.isSet b Reg.rtpTxRtcpEn
    rtcpMux := s.isSet b Reg.rtpTxRtcpMux, udpCsum := s.isSet b Reg.rtpTxUdpCsum
    rxPt := s.rd b Reg.rtpRxRxPt, rxEvPt := s.rd b Reg.rtpRxRxEvPt, ssrcFixed := s.isSet b Reg.rtpRxSsrcFixed
    ssrcRx := s.rd b Reg.rtpSsrcRxSsrc, intervalMs := s.rd b Reg.rtcpCtrlIntervalMs
    cname := (s.wordBytes b Reg.rtcpCnameBytes 4).take (s.rd b Reg.rtcpCtrlCnameLen)
    ssrcAuto := s.isSet b Reg.rtpTxSsrcAuto, seqAuto := s.isSet b Reg.rtpTxSeqAuto, tsAuto := s.isSet b Reg.rtpTxTsAuto
    ssrcTx := s.rd b Reg.rtpSsrcTxSsrc, seqInit := s.rd b Reg.rtpSeqInitSeq, tsInit := s.rd b Reg.rtpTsInitTs
    mode := min (codecTop codec) (s.rd b Reg.coCodecMode), fpp := clampNat 1 (codecFpp codec) fpp
    vad := s.isSet b Reg.coCodecVad
    fmt := s.rd b Reg.coCodecAmrOa + 2 * s.rd b Reg.coCodecEvsHf + 4 * s.rd b Reg.coCodecEvsNb + 8 * s.rd b Reg.coCodecG726Aal2
    cmrFollow := s.isSet b Reg.coCodecCmrFollow, cmrTx := s.rd b Reg.coCodecCmrTx
    dtmfMode := s.rd b Reg.tdCtrlDtmfMode, dtmfPkt := s.isSet b Reg.tdCtrlDtmfPkt, cptEn := s.rd b Reg.tdCtrlCptEn
    cptDir := s.isSet b Reg.tdCtrlCptDir, faxEn := s.isSet b Reg.tdCtrlFaxEn
    txGain := s.rdS b Reg.coGainTxGain, rxGain := s.rdS b Reg.coGainRxGain, cptMinDb := s.rd b Reg.tdCtrlCptMinDb
    cpt := (List.range 4).map (fun k => { f1 := s.rd b Reg.tdCptF1 k, f2 := s.rd b Reg.tdCptF2 k
                                          onMin := s.rd b Reg.tdCptOnMin k, offMin := s.rd b Reg.tdCptOffMin k })
    prof := (List.range 8).map (fun k => { f1 := s.rd b Reg.tgProfF1 k, f2 := s.rd b Reg.tgProfF2 k, on := s.rd b Reg.tgProfOn k
                                           off := s.rd b Reg.tgProfOff k, unit := s.rd b Reg.tgProfUnit k }) }

/-- R276: does a received CMR name a mode of the other EVS family? -/
def State.foreignCmr (s : State) (g r : Nat) : Bool :=
  (s.chan g).cfg.codec == 7 && r != 15 && (decide (r < 7) != decide ((s.media g).cfg.mode < 7))

/-- R276: the encoder mode for a codec frame that begins: a CMR lowers the configured mode while it is followed and names a mode of its
family. -/
def State.txMode (s : State) (g : Nat) : Nat :=
  let m := s.media g
  let codec := (s.chan g).cfg.codec
  match m.cmr with
  | some r =>
    if !m.cfg.cmrFollow ∨ codec < 5 ∨ r = 15 ∨ s.foreignCmr g r then m.cfg.mode else min r m.cfg.mode
  | none => m.cfg.mode

/-- ST_CODEC (R273, R311). -/
def State.codecReport (s : State) (g : Nat) : State :=
  (s.wr (chB g) Reg.stCodecTxMode (s.txMode g)).wr (chB g) Reg.stCodecFppUsed (s.media g).cfg.fpp

/-! ### Sending (R278-R285) -/

/-- Does the channel send RTP (R72, R222): ACTIVE, or a modify waiting in ACTIVE? -/
def State.sendsRtp (s : State) (g : Nat) : Bool := s.mediaPath g == pathActive

/-- R284, R347, R352, R378: a packet of the channel is committed to its TQ as a voice entry; the identification advances;
whether it was taken. When within its millisecond the graver commits is a free value (log entry 7). A channel without owner commits
nothing. -/
def State.commitPacket (s : State) (g : Nat) (portUp : Bool) (payload : List Byte) : Bool × State :=
  let m := s.media g
  let p := g / 256
  match s.chTenant g with
  | none => (false, s)
  | some t =>
    let f := buildFrame m.cfg.tmpl m.cfg.ipv6 m.cfg.udpCsum m.ipId portUp payload
    let d := s.drawNat
    let e : Entry := { slot := t % 8, voice := true, bytes := f, chan := some (g % 256)
                       expires := some (((s.plate p).ticks + s.rd (macB p) Reg.macTxCfgVoiceLifeMs) * msNs + d.1 % msNs) }
    (d.2.setMedia g { m with ipId := (m.ipId + 1) % 65536 }).commitTx p (s.chan g).cfg.tq e

/-- `n` drawn uniformly from `lo` to `hi` by the device's random source: a free value within the bounds (R290). -/
def State.drawBetween (s : State) (lo hi : Nat) : Nat × State :=
  let d := s.drawNat
  (lo + d.1 % (hi - lo + 1), d.2)

/-- R290: the first RTP packet sent or received sets the time of the first RTCP packet. -/
def State.firstRtp (s : State) (g : Nat) : State :=
  let m := s.media g
  if m.rtcpAt.isSome then s
  else
    let d := s.drawBetween (m.cfg.intervalMs * msNs / 4) (m.cfg.intervalMs * msNs * 3 / 4)
    d.2.setMedia g { m with rtcpAt := some (s.now + d.1) }

/-- R279, R285, R311, R352: an RTP packet is sent: the sequence number advances whether or not its allocation is refused. -/
def State.sendRtp (s : State) (g : Nat) (marker : Bool) (pt ts : Nat) (payload : List Byte) : State :=
  let m := s.media g
  let r := s.commitPacket g false (rtpPacket marker pt m.seq ts m.ssrc payload)
  let t := r.2.modMedia g (fun x => { x with seq := (x.seq + 1) % 65536, sentAt := if r.1 then some s.now else x.sentAt })
  let u := t.firstRtp g
  if r.1 then
    let b := chB g
    (u.wr b Reg.stTxPktsPkts (u.rd b Reg.stTxPktsPkts + 1)).wr b Reg.stTxOctetsOctets
      (u.rd b Reg.stTxOctetsOctets + payload.length)
  else u

/-- a − b in 32-bit timestamps, as a signed number. -/
def tsDiff (a b : Nat) : Int := toSigned 32 (ofSigned 32 ((a : Int) - b))

/-- Timestamp of an event's last sample plus one, where its duration is known (R294). -/
def EvOut.endTs (e : EvOut) (tsMs : Nat) : Option Nat := e.durMs.map (fun d => (e.ts + d * tsMs) % 2 ^ 32)

/-- R294: does an event hold back a voice packet whose first sample is `ts`? -/
def EvOut.blocks (e : EvOut) (tsMs ts : Nat) : Bool :=
  decide (0 ≤ tsDiff ts e.ts) && (match e.endTs tsMs with
    | some x => decide (tsDiff ts x < 0)
    | none => true)

/-- R280, R294: does voice resume after the event with a packet whose first sample is `ts`? -/
def EvOut.resumesAt (e : EvOut) (tsMs ts : Nat) : Bool :=
  !e.resumed && (match e.endTs tsMs with
    | some x => decide (0 ≤ tsDiff ts x)
    | none => false)

/-- The outgoing events whose end or whose voice is still to come, oldest first. -/
def Media.events (m : Media) : List EvOut := m.evPast ++ m.evOut.toList

/-- R278: at kernel frame number `n` of the encoder, is a packet due, and over how many milliseconds of lookahead and audio? -/
def packetDue (codec fpp n : Nat) : Bool :=
  let l := codecMs codec * fpp
  let look := codecLook codec
  decide (l + look ≤ n) && (n - look) % l == 0

/-- R275: what the encoder makes of one codec frame: with `vad` a pause, which the codec decides, has a SID frame first and then one
every 8 frames (in G.729 one when its Annex B asks for it). `run` counts the frames without speech. -/
def State.frameKind (s : State) (codec run : Nat) (vad : Bool) : TxFrameKind × Nat × State :=
  if !vad ∨ codec < 4 then (.speech, 0, s)
  else
    let q := s.drawBool
    if !q.1 then (.speech, 0, q.2)
    else if codec = 4 then
      let d := q.2.drawBool
      (if run = 0 ∨ d.1 then .sid else .nothing, run + 1, d.2)
    else (if run % 8 = 0 then .sid else .nothing, run + 1, q.2)

/-- R275: the codec frames of one packet. A G.729 packet holds the speech frames up to a pause, and one SID frame (RFC 3551). -/
def State.frameKinds (s : State) (codec : Nat) (vad : Bool) : Nat → Nat → List TxFrameKind × Nat × State
  | 0, run => ([], run, s)
  | n + 1, run =>
    let k := s.frameKind codec run vad
    if codec = 4 ∧ k.1 ≠ .speech then
      ([k.1], k.2.1 + n, k.2.2)
    else
      let r := k.2.2.frameKinds codec vad n k.2.1
      (k.1 :: r.1, r.2.1, r.2.2)

/-- R278-R280, R294: a packet of `kinds` falls due, its first sample having timestamp `first`; `payload` is what they were encoded to. -/
def State.voicePacket (s : State) (g first : Nat) (kinds : List TxFrameKind) (payload : List Byte) : State :=
  let m := s.media g
  let tsMs := s.chTsMs g
  let speech := kinds.contains .speech
  if !speech && !kinds.contains .sid then s.modMedia g (fun x => { x with dtxPause := true })
  else if !s.sendsRtp g || m.events.any (fun e => e.blocks tsMs first) then s
  else
    let after := m.events.any (fun e => e.resumesAt tsMs first)
    let done := fun (e : EvOut) => { e with resumed := e.resumed || e.resumesAt tsMs first }
    let gone := fun (e : EvOut) => e.resumed && decide (3 ≤ e.ends)
    let u := s.modMedia g (fun x => { x with
      marker := x.marker && !speech, dtxPause := if speech then false else true
      evPast := (x.evPast.map done).filter (fun e => !gone e), evOut := (x.evOut.map done).filter (fun e => !gone e) })
    u.sendRtp g (speech && (m.marker || m.dtxPause || after)) m.cfg.pt first payload

/-- R278-R280, R294: the encoder's part of one kernel frame, `x` being its input at the stream rate. -/
def State.encodeFrame (s : State) (g : Nat) (x : List Int) : State :=
  let m := s.media g
  let codec := (s.chan g).cfg.codec
  let tsMs := s.chTsMs g
  let tsEnd := (m.ts + tsMs) % 2 ^ 32
  if m.encWait ≠ 0 then s.setMedia g { m with ts := tsEnd, encWait := m.encWait - 1, encN := 0, code := [] }
  else
    let n := m.encN + 1
    let code := if codec < 2 then m.code ++ x.map (lawCompress (codec == 1)) else []
    let begins := m.encN % codecMs codec == 0
    let a := s.setMedia g { m with
      ts := tsEnd, encN := n, code := code, modes := if begins then m.modes ++ [s.txMode g] else m.modes }
    let t := if begins then a.codecReport g else a
    if !packetDue codec m.cfg.fpp n then t
    else
      let first := ofSigned 32 ((tsEnd : Int) - (codecLook codec + codecMs codec * m.cfg.fpp) * tsMs)
      let k := t.frameKinds codec m.cfg.vad m.cfg.fpp m.dtxRun
      let d : List Byte × State := if codec < 2 then (code, k.2.2)
        else k.2.2.voicePayload codec m.cfg.fmt m.cfg.cmrTx (k.1.zip (t.media g).modes)
      (d.2.modMedia g (fun y => { y with code := [], modes := y.modes.drop m.cfg.fpp, dtxRun := k.2.1 })).voicePacket g first k.1 d.1

/-! ### Outgoing telephone events (R293-R295) -/

/-- R293: an event's duration in timestamp units, up to now or to its end. -/
def State.eventUnits (s : State) (g : Nat) (e : EvOut) : Nat :=
  let ms := (s.now - e.startedAt) / msNs
  (match e.durMs with
    | some d => min d ms
    | none => ms) * s.chTsMs g

/-- R293: an event packet; none while the applied `ev_pt` is 0. -/
def State.sendEvent (s : State) (g : Nat) (e : EvOut) (marker last : Bool) : State :=
  if !s.sendsRtp g || (s.media g).cfg.evPt == 0 then s
  else s.sendRtp g marker (s.media g).cfg.evPt ((e.ts + e.seg) % 2 ^ 32)
    (eventPayload e.code e.volume last (s.eventUnits g e - e.seg))

/-- R293, RFC 4733: an event longer than 65,535 timestamp units goes on in a new segment; the one that fills is completed by a packet of its
own, unless it is the last. -/
def State.segmentEvent (s : State) (g : Nat) (e : EvOut) : EvOut × State :=
  let x := { e with seg := (s.eventUnits g e - 1) / 65535 * 65535 }
  (x, if e.seg < x.seg then s.sendEvent g e false false else s)

/-- May another event begin: none is in progress, or it has sent its first end packet (R295)? -/
def Media.eventFree (m : Media) : Bool := match m.evOut with
  | none => true
  | some e => decide (1 ≤ e.ends)

/-- R293: an event begins: its first packet, marked. -/
def State.beginEvent (s : State) (g : Nat) (e : EvOut) : State :=
  (s.modMedia g (fun x => { x with evOut := some { e with lastSent := s.now }, evPast := x.evPast ++ x.evOut.toList })).sendEvent g e
    true false

/-- R295, R298: at a tick an event that waits begins once the one in progress has sent its first end packet, a relayed digit before one
of EV_SEND; the first sample of the latter is the one at this tick. Without `ev_pt` none is sent. -/
def State.startEvent (s : State) (g : Nat) : State :=
  let m := s.media g
  if m.cfg.evPt = 0 then s.setMedia g { m with evWait := none, relayWait := [] }
  else if !m.eventFree then s
  else match m.relayWait with
    | e :: l => (s.setMedia g { m with relayWait := l }).beginEvent g e
    | [] => match m.evWait with
      | some (code, dur) => (s.setMedia g { m with evWait := none }).beginEvent g
          { code := code, ts := (m.ts + s.chTsMs g) % 2 ^ 32, startedAt := s.now, durMs := some dur }
      | none => s

/-- R298, R293: a relayed digit: at once if no event is in progress, else when it may begin; its first sample lies `on` ms back. -/
def State.relayDigit (s : State) (g code volume on : Nat) : State :=
  let m := s.media g
  let e : EvOut := { code := code % 16, volume := volume, relay := true, startedAt := s.now - on * msNs
                     ts := ofSigned 32 ((m.ts : Int) + s.chTsMs g - on * s.chTsMs g) }
  if m.cfg.evPt = 0 then s
  else if m.eventFree && m.relayWait.isEmpty then s.beginEvent g e
  else s.setMedia g { m with relayWait := m.relayWait ++ [e] }

/-- R298: the relayed digit ends, `on` ms long. -/
def State.relayEnds (s : State) (g on : Nat) : State :=
  let f := fun (e : EvOut) => if e.relay && e.durMs.isNone then { e with durMs := some on } else e
  s.modMedia g (fun x => { x with evOut := x.evOut.map f, relayWait := x.relayWait.map f })

/-- R295: EV_SEND: the event waits for the next tick; a second one replaces it; ignored unless the path is ACTIVE. -/
def State.evSendEffect (s : State) (g data : Nat) : State :=
  if bitAt data 31 ∧ s.pathView g = pathActive then
    s.modMedia g (fun m => { m with evWait := some (min 15 (bitsOf data 0 8), clampNat 40 65535 (bitsOf data 8 16)) })
  else s

/-- EVENT_SEND_WRITE (R295). -/
def execEventSendWrite (fn : Fin 65) (g : Fin 2048) (data : Word) (s : State) : Host.Outcome State Fault Refusal :=
  .next (s.mmioWrite fn (chB g + 0xB0) (fun t => t.evSendEffect g data.toNat))

/-- Has the event reached its end? -/
def State.eventOver (s : State) (e : EvOut) : Bool :=
  match e.durMs with
  | some d => decide (e.startedAt + d * msNs ≤ s.now)
  | none => false

/-- R293: the next of the three end packets, when it is due: at the end tick and 10 ms and 20 ms after it. -/
def State.endEvent (s : State) (g : Nat) (e : EvOut) : EvOut × State :=
  if e.ends = 0 then
    if s.eventOver e then
      let d := s.segmentEvent g e
      ({ d.1 with ends := 1, endAt := s.now }, d.2.sendEvent g d.1 false true)
    else (e, s)
  else if e.ends < 3 ∧ e.endAt + 10 * e.ends * msNs ≤ s.now then ({ e with ends := e.ends + 1 }, s.sendEvent g e false true)
  else (e, s)

/-! ### RTCP (R290-R292) -/

/-- R465: NTP time now: seconds and fraction. -/
def State.ntp (s : State) : Nat × Nat :=
  ((s.siteSec + 2208988800 - s.rd tbB Reg.tbUtcUtcOffset) % 2 ^ 32, s.siteSubNs * 2 ^ 32 / secNs)

/-- The middle 32 bits of an NTP time. -/
def ntpMid (n : Nat × Nat) : Nat := n.1 % 65536 * 65536 + n.2 / 65536

/-- R290, R291: the report block on the adopted SSRC, and the statistics after it (RFC 3550). -/
def State.reportBlock (s : State) (ssrc : Nat) (r : RtcpStat) : List Byte × RtcpStat :=
  let ext := r.cycles * 65536 + r.maxSeq
  let expected := ext + 1 - r.baseSeq
  let lost := clampInt (-(2 ^ 23)) (2 ^ 23 - 1) ((expected : Int) - r.received)
  let de : Int := (expected : Int) - r.expectedPrior
  let dl : Int := de - ((r.received : Int) - r.receivedPrior)
  let frac : Nat := if de ≤ 0 ∨ dl ≤ 0 then 0 else min 255 (dl * 256 / de).toNat
  let dlsr : Nat := if r.lsr = 0 then 0 else (s.now - r.lsrAt) * 65536 / secNs
  (beBytes 4 ssrc ++ beBytes 1 frac ++ beBytes 3 (ofSigned 24 lost) ++ beBytes 4 (ext % 2 ^ 32) ++ beBytes 4 (r.jitter / 16)
    ++ beBytes 4 r.lsr ++ beBytes 4 dlsr,
   { r with expectedPrior := expected, receivedPrior := r.received })

/-- SDES with a CNAME item, padded to words (RFC 3550). -/
def sdesPacket (ssrc : Nat) (cname : List Byte) : List Byte :=
  let items := [1, BitVec.ofNat 8 cname.length] ++ cname ++ [0]
  let body := items ++ List.replicate ((4 - items.length % 4) % 4) 0
  [0x81, 202] ++ beBytes 2 (1 + body.length / 4) ++ beBytes 4 ssrc ++ body

/-- R290, R291, R308: the compound: SR or RR, SDES, and BYE at the close. -/
def State.rtcpCompound (s : State) (g : Nat) (bye : Bool) : List Byte × RtcpStat :=
  let m := s.media g
  let b := chB g
  let sr := match m.sentAt with
    | some a => decide (s.now ≤ a + 2 * m.cfg.intervalMs * msNs)
    | none => false
  let rb := match m.rxSsrc with
    | some x => let q := s.reportBlock x m.rtcp; (1, q.1, q.2)
    | none => (0, [], m.rtcp)
  let n := s.ntp
  let info := if sr then beBytes 4 n.1 ++ beBytes 4 n.2 ++ beBytes 4 m.ts ++ beBytes 4 (s.rd b Reg.stTxPktsPkts)
      ++ beBytes 4 (s.rd b Reg.stTxOctetsOctets) else []
  let first := [BitVec.ofNat 8 (128 + rb.1), if sr then 200 else 201] ++ beBytes 2 (1 + info.length / 4 + 6 * rb.1)
    ++ beBytes 4 m.ssrc ++ info ++ rb.2.1
  (first ++ sdesPacket m.ssrc m.cfg.cname ++ (if bye then [0x81, 203] ++ beBytes 2 1 ++ beBytes 4 m.ssrc else []), rb.2.2)

/-- R290, R311: the compound is sent and the next one's time drawn. -/
def State.sendRtcp (s : State) (g : Nat) (bye : Bool) : State :=
  let c := s.rtcpCompound g bye
  let m := s.media g
  let r := (s.setMedia g { m with rtcp := c.2 }).commitPacket g (!m.cfg.rtcpMux) c.1
  let t := if r.1 then r.2.bumpSat (chB g) Reg.stRtcpTx else r.2
  let d := t.drawBetween (m.cfg.intervalMs * msNs / 2) (m.cfg.intervalMs * msNs * 3 / 2)
  d.2.modMedia g (fun x => { x with rtcpAt := some (s.now + d.1) })

/-- R291, R580: the path states in which RTCP is sent, as long as the channel's graver runs; for a frozen one another graver of the plate
sends it, as 05_plates.md and R580 say (log entry 108). -/
def State.sendsRtcp (s : State) (g : Nat) : Bool :=
  let v := s.path g
  s.chOpen g && (s.media g).cfg.rtcpEn && v != pathIdle && v != pathRefused && v != pathAdmitting
    && (s.graverRuns (g / 256) (s.chan g).graver || (s.chFrozen g && (List.range 4).any (s.graverRuns (g / 256))))

/-- The items of an SDES chunk from byte `i`: where the next chunk begins, on the word after the item of type 0. -/
def sdesChunk (l : List Byte) : Nat → Nat → Option Nat
  | 0, _ => none
  | n + 1, i =>
    if l.length ≤ i then none
    else if beAt l i 1 = 0 then some ((i + 4) / 4 * 4)
    else if l.length < i + 2 then none
    else sdesChunk l n (i + 2 + beAt l (i + 1) 1)

/-- Do `n` SDES chunks fill a packet from byte `i`? -/
def sdesFits (l : List Byte) : Nat → Nat → Bool
  | 0, i => decide (i ≤ l.length)
  | n + 1, i => match sdesChunk l 64 (i + 4) with
    | some k => sdesFits l n k
    | none => false

/-- Does a packet of type `pt` with a count of `rc` have room for what it counts (RFC 3550)? -/
def rtcpFits (pt rc : Nat) (l : List Byte) : Bool :=
  match pt with
  | 200 => decide (28 + 24 * rc ≤ l.length)
  | 201 => decide (8 + 24 * rc ≤ l.length)
  | 202 => sdesFits l rc 4
  | 203 => decide (4 + 4 * rc ≤ l.length)
  | _ => true

/-- The packets of a compound: type, count and body of each; none where it does not parse under RFC 3550 (R292): only the last packet may
be padded, and not where it is the first. -/
def rtcpParts : Bool → Nat → List Byte → Option (List (Nat × Nat × List Byte))
  | _, 0, _ => none
  | isFirst, n + 1, l =>
    if l.isEmpty then some []
    else
      let b0 := beAt l 0 1
      let len := 4 * (beAt l 2 2 + 1)
      let padded := bitAt b0 5
      let pad := if padded then beAt l (len - 1) 1 else 0
      let body := bytesAt l 0 (len - pad)
      if b0 / 64 ≠ 2 ∨ l.length < len ∨ (padded ∧ (isFirst ∨ len < l.length ∨ pad = 0 ∨ len < 4 + pad)) then none
      else if !rtcpFits (beAt l 1 1) (b0 % 32) body then none
      else (rtcpParts false n (l.drop len)).map (fun r => (beAt l 1 1, b0 % 32, body) :: r)

/-- R292: a report block that names the channel's SSRC measures the round trip, where an SR of this device is named. -/
def State.takeReport (s : State) (g : Nat) (b : List Byte) : State :=
  let lsr := beAt b 16 4
  if beAt b 0 4 ≠ (s.media g).ssrc ∨ lsr = 0 then s
  else
    let rtt := toSigned 32 (ofSigned 32 ((ntpMid s.ntp : Int) - lsr - (beAt b 20 4 : Int)))
    let d := s.drawRound ((max 0 rtt) * 1000) 65536
    (d.2.wr (chB g) Reg.stRttRttMs (min 65535 d.1.toNat)).wr (chB g) Reg.stRttValid 1

/-- R292: one packet of a compound. -/
def State.takeRtcpPart (s : State) (g : Nat) (x : Nat × Nat × List Byte) : State :=
  let b := x.2.2
  let blocks := fun (off : Nat) (t : State) =>
    forUpTo x.2.1 (fun i u => u.takeReport g (bytesAt b (off + 24 * i) 24)) t
  match x.1 with
  | 200 =>
    blocks 28 (s.modMedia g (fun m => { m with rtcp := { m.rtcp with lsr := ntpMid (beAt b 8 4, beAt b 12 4), lsrAt := s.now } }))
  | 201 => blocks 8 s
  | 203 => if (List.range x.2.1).any (fun i => some (beAt b (4 + 4 * i) 4) == (s.media g).rxSsrc) then
      s.bumpSat (chB g) Reg.stRtcpByeRx else s
  | _ => s

/-- R292: a received compound: it begins with an SR or RR and its packets fill it. -/
def State.takeRtcp (s : State) (g : Nat) (l : List Byte) : State :=
  match rtcpParts true 400 l with
  | some (p :: rest) =>
    if p.1 = 200 ∨ p.1 = 201 then
      forEach (p :: rest) (fun x t => t.takeRtcpPart g x) (s.bumpSat (chB g) Reg.stRtcpRx)
    else s.bumpSat (chB g) Reg.stRtcpRxBad
  | _ => s.bumpSat (chB g) Reg.stRtcpRxBad

/-! ### Receiving (R286-R289, R296) -/

/-- R288: does the SSRC check pass; with what is then adopted, and the run of the candidate. -/
def ssrcCheck (m : Media) (ssrc : Nat) : Bool × Option Nat × Nat × Nat :=
  if m.cfg.ssrcFixed then (ssrc == m.cfg.ssrcRx, if ssrc = m.cfg.ssrcRx then some ssrc else m.rxSsrc, 0, 0)
  else match m.rxSsrc with
    | none => (true, some ssrc, 0, 0)
    | some a =>
      if a = ssrc then (true, some a, 0, 0)
      else
        let run := if m.candRun ≠ 0 ∧ m.candSsrc = ssrc then m.candRun + 1 else 1
        if 3 ≤ run then (true, some ssrc, 0, 0) else (false, some a, ssrc, run)

/-- RFC 3550 A.1, A.8: an accepted packet updates the reception statistics; `a` is its arrival in timestamp units. -/
def RtcpStat.receive (r : RtcpStat) (seq ts : Nat) (a : Int) : RtcpStat :=
  let transit := a - ts
  if r.received = 0 then { r with baseSeq := seq, maxSeq := seq, received := 1, transit := transit }
  else
    let ahead := (seq + 65536 - r.maxSeq) % 65536
    let d := (toSigned 32 (ofSigned 32 (transit - r.transit))).natAbs
    let j := r.jitter + d - (r.jitter + 8) / 16
    let q := { r with received := r.received + 1, transit := transit, jitter := j }
    if ahead < 32768 ∧ ahead ≠ 0 then { q with maxSeq := seq, cycles := if seq < r.maxSeq then r.cycles + 1 else r.cycles } else q

/-- R296: a received event packet: events of codes 16 and above are counted, once each; packets of an event that has ended, or given way to a
later one, are ignored; others are played from the next tick until their end. -/
def State.takeEvent (s : State) (g ts : Nat) (l : List Byte) : State :=
  let code := beAt l 0 1
  let fin := bitAt (beAt l 1 1) 7
  let m := s.media g
  let durMs := beAt l 2 2 / s.chTsMs g
  let fresh : EvIn := { ts := ts, code := code, volume := clampNat 3 36 (beAt l 1 1 % 64), durMs := durMs
                        startedAt := s.now, lastAt := s.now, playing := !fin }
  if l.length < 4 then s
  else if 16 ≤ code then
    if m.evSkip.contains ts then s else (s.setMedia g { m with evSkip := ts :: m.evSkip }).bumpSat (chB g) Reg.tdCountsEvRx
  else match m.evIn with
    | some e =>
      if e.ts = ts then
        if e.playing then s.setMedia g { m with evIn := some { e with durMs := durMs, lastAt := s.now, playing := !fin } } else s
      else if m.evDone.contains ts then s
      else s.setMedia g { m with evIn := some fresh, evDone := e.ts :: m.evDone }
    | none => s.setMedia g { m with evIn := some fresh }

/-- EVENT_PLAY_TIMEOUT (R296): 150 ms beyond the reported duration without another packet of the event. -/
def execEventPlayTimeout (g : Fin 2048) (s : State) : Host.Outcome State Fault Refusal :=
  let m := s.media g
  .next (match m.evIn with
    | some e =>
      if e.playing ∧ max e.lastAt (e.startedAt + e.durMs * msNs) + 150 * msNs ≤ s.now then
        s.setMedia g { m with evIn := some { e with playing := false } }
      else s
    | none => s)

/-- R287: `rx_pt_bad`, unless another packet was dropped under row 5 within 1 s. -/
def State.badPt (s : State) (g : Nat) : State :=
  let t := (s.bumpSat (chB g) Reg.stRxErrBadPt).modMedia g (fun m => { m with badPtAt := some s.now })
  match (s.media g).badPtAt with
  | some a => if s.now ≤ a + secNs then t else t.chEvent g evRxPtBad
  | none => t.chEvent g evRxPtBad

/-- R288, R330: an SSRC is adopted; a change restarts the buffer and is announced. -/
def State.adoptSsrc (s : State) (g : Nat) (old new : Option Nat) : State :=
  if old = new then s
  else
    let t := s.wr (chB g) Reg.stRxSsrcSsrc (new.getD 0)
    if old.isNone then t
    else ((t.modMedia g (fun m => { m with rtcp := {}, evDone := [], evSkip := [] })).chEvent g evSsrcChange).jbRestart g false true

/-- R286 rows 6 to 8: a voice or event packet; `parsed` is its payload's codec frames where it is voice. -/
def State.takeMedia (s : State) (g : Nat) (e : Entry) (rtp payload : List Byte) (voice : Bool) : State :=
  let m := s.media g
  let b := chB g
  let ssrc := beAt rtp 8 4
  let parsed := if voice then parsePayload (s.chan g).cfg.codec m.cfg.fmt payload else some ([], none, 0)
  let chk := ssrcCheck m ssrc
  match parsed with
  | none =>
    -- a packet that is not acceptable in itself does not help its SSRC (R288), and row 6 comes before row 7
    let bad := match m.rxSsrc with
      | some a => if m.cfg.ssrcFixed then ssrc != m.cfg.ssrcRx else a != ssrc
      | none => m.cfg.ssrcFixed && ssrc != m.cfg.ssrcRx
    if bad then s.bumpSat b Reg.stRxErrBadSsrc else s.bumpSat b Reg.stRxErrBadFrame
  | some (frames, cmr, tooFast) =>
    if !chk.1 then
      (s.setMedia g { m with candSsrc := chk.2.2.1, candRun := chk.2.2.2 }).bumpSat b Reg.stRxErrBadSsrc
    else
      let t := (s.setMedia g { m with rxSsrc := chk.2.1, candRun := 0, cmr := match cmr with
          | some c => if s.foreignCmr g c then m.cmr else some c
          | none => m.cmr }).adoptSsrc g m.rxSsrc chk.2.1
      let a : Int := (e.rxTs : Int) * s.chTsMs g / msU
      let u := (t.modMedia g (fun x => { x with rtcp := x.rtcp.receive (beAt rtp 2 2) (beAt rtp 4 4) a })).firstRtp g
      let v := (u.wr b Reg.stRxPktsPkts (u.rd b Reg.stRxPktsPkts + 1)).bumpSat b Reg.stRxErrBadFrame 0 tooFast
      let w := match cmr with
        | some c => v.wr b Reg.stCodecRxCmr c
        | none => v
      if voice then w.jbAccept g (beAt rtp 4 4) e frames
      else w.takeEvent g (beAt rtp 4 4) payload

/-- R286: one packet of Q40 + c is checked and classified. -/
def State.classify (s : State) (g : Nat) (e : Entry) : State :=
  let m := s.media g
  let l := (parseFrame e.bytes).payload
  match rtpPayload l with
  | none => s.bumpSat (chB g) Reg.stRxErrBadHdr
  | some payload =>
    let pt := beAt l 1 1 % 128
    if 72 ≤ pt ∧ pt ≤ 76 then s.takeRtcp g l
    else if pt = m.cfg.rxPt then s.takeMedia g e l payload true
    else if m.cfg.rxEvPt ≠ 0 ∧ pt = m.cfg.rxEvPt then s.takeMedia g e l payload false
    else s.badPt g

/-- Step 1 of R177: the packets that wait in the channel's ingress queue leave it and are classified; a channel in FAULT has
lost its state and drops them. -/
def State.ingress (s : State) (g : Nat) : State :=
  let p := g / 256
  let q := 40 + g % 256
  let l := s.queue p q
  let t := s.setQueue p q []
  if s.path g = pathFault then t else forEach l (fun e u => u.classify g e) t

/-! ### Tone reports (R298-R301) -/

/-- R301: a level in −dBm0 of a power given as the sum of squared amplitudes, 0 to 63; the spec gives no rounding, which is free (log
entry 7). -/
def State.minusDbm (s : State) (power : Nat) : Nat × State :=
  let k := dbTenths power (131071 ^ 2) 1518
  let d := s.drawBool
  (clampNat 0 63 ((if d.1 then (-k + 9) / 10 else -k / 10).toNat), d.2)

/-- R301: TD_LAST, TD_COUNTS and `tone`: class 1 DTMF, 2 call progress, 3 fax or modem; `level` in −dBm0. -/
def State.toneReport (s : State) (g cls : Nat) (pkt : Bool) (level : Nat) (e : ToneEvent) : State :=
  let b := chB g
  let t := ((((((s.wr b Reg.tdLastCode e.code).wr b Reg.tdLastClass cls).wrB b Reg.tdLastDir pkt).wrB b Reg.tdLastEnd
    e.ended).wr b Reg.tdLastLevel level).wr b Reg.tdLastDur (min 8191 e.dur)).chEvent g evTone
  if e.ended then t else match cls with
    | 1 => t.bumpSat b Reg.tdCountsDtmf
    | 2 => t.bumpSat b Reg.tdCountsCpt
    | _ => t.bumpSat b Reg.tdCountsFax

/-- R298: what a bridge-side digit does in relay besides its report. -/
def State.relayTone (s : State) (g level : Nat) (e : ToneEvent) : State :=
  if e.ended then s.relayEnds g e.dur else s.relayDigit g e.code level e.dur

/-- The reports of one detector. -/
def State.toneReports (s : State) (g cls : Nat) (pkt relay : Bool) (l : List ToneEvent) : State :=
  forEach l (fun e t =>
    let d := t.minusDbm e.power
    let u := d.2.toneReport g cls pkt d.1 e
    if relay then u.relayTone g d.1 e else u) s

/-- R297, R298: the DTMF detectors: the bridge side unless `dtmf_mode` is 0, the packet side while `dtmf_pkt` is 1. -/
def State.dtmfTick (s : State) (g : Nat) (bridge pkt : Heard) : State :=
  let m := s.media g
  let a := if m.cfg.dtmfMode = 0 then s.setMedia g { m with dtmfBridge := {} }
    else
      let d := s.dtmfStep m.dtmfBridge bridge
      (d.2.2.modMedia g (fun x => { x with dtmfBridge := d.1 })).toneReports g 1 false (m.cfg.dtmfMode == 2) d.2.1
  if !m.cfg.dtmfPkt then a.modMedia g (fun x => { x with dtmfPkt := {} })
  else
    let d := a.dtmfStep m.dtmfPkt pkt
    (d.2.2.modMedia g (fun x => { x with dtmfPkt := d.1 })).toneReports g 1 true false d.2.1

/-- R299: the enabled call-progress detectors, in the direction `cpt_dir` selects. -/
def State.cptTick (s : State) (g : Nat) (bridge pkt : Heard) : State :=
  forUpTo 4 (fun n t =>
    let m := t.media g
    let put := fun (d : CptDet) (u : State) => u.modMedia g (fun x => { x with
      cpt := (List.range 4).map (fun i => if i = n then d else (x.cpt[i]?).getD {}) })
    if !bitAt m.cfg.cptEn n then put {} t
    else
      let r := t.cptStep ((m.cpt[n]?).getD {}) n m.cfg.cptMinDb ((m.cfg.cpt[n]?).getD {}) (if m.cfg.cptDir then pkt else bridge)
      (put r.1 r.2.2).toneReports g 2 m.cfg.cptDir false r.2.1) s

/-- R300: the fax and modem detectors of both sides. -/
def State.faxTick (s : State) (g : Nat) (bridge pkt : Heard) : State :=
  let m := s.media g
  if !m.cfg.faxEn then s.setMedia g { m with faxBridge := {}, faxPkt := {} }
  else
    let a := s.faxStep m.faxBridge bridge
    let b := a.2.2.faxStep m.faxPkt pkt
    ((b.2.2.modMedia g (fun x => { x with faxBridge := a.1, faxPkt := b.1 })).toneReports g 3 false false a.2.1).toneReports g 3 true
      false b.2.1

/-- R297-R301: one frame of all the detectors of a channel. -/
def State.toneTick (s : State) (g : Nat) (bridge pkt : Heard) : State :=
  ((s.dtmfTick g bridge pkt).cptTick g bridge pkt).faxTick g bridge pkt

/-- R298: is a bridge-side digit being relayed in this frame, from its detection to its end? -/
def State.relaying (s : State) (g : Nat) : Bool := (s.media g).cfg.dtmfMode == 2 && (s.media g).dtmfBridge.reported

/-! ### Tone generators (R302-R304) -/

/-- R303, R304: TG_CMD is stored; in IDLE, REFUSED and ADMITTING that is all. -/
def State.tgEffect (s : State) (fn g data : Nat) : State :=
  let t := s.storeWord fn (chB g) Reg.mediaRows 0xFC data
  let v := s.path g
  if v = pathIdle ∨ v = pathRefused ∨ v = pathAdmitting then t else t.modMedia g (fun m => { m with tgDue := true })

/-- TONE_GEN_COMMAND (R303). -/
def execToneGenCommand (fn : Fin 65) (g : Fin 2048) (data : Word) (s : State) : Host.Outcome State Fault Refusal :=
  .next (s.mmioWrite fn (chB g + 0xFC) (fun t => t.tgEffect fn g data.toNat))

/-- R302: the samples of a generator's frame: the pair of the profile while its cadence is on; `n` samples a millisecond. -/
def State.generated (s : State) (g n : Nat) (pr : TgProf) (ms : Nat) : List Int × State :=
  let x := s.sig g
  let on := decide (pr.off = 0 ∨ ms < pr.on * (if pr.unit = 0 then 50 else 250))
  if !on ∨ pr.f1 = 0 then (List.replicate n 0, s)
  else
    let amp := ampOf (-(100 * (s.rd (chB g) Reg.tgCmdLevelDb : Int)))
    (tonePair amp (40 * pr.f1) (40 * pr.f2) n x.tg1 x.tg2, s.setSig g { x with
      tg1 := (x.tg1 + n * phaseStep (40 * pr.f1) n) % 2 ^ 32, tg2 := (x.tg2 + n * phaseStep (40 * pr.f2) n) % 2 ^ 32 })

/-- R302, R303: one kernel frame of the generator: a command due takes effect; a cycle of the cadence is on + off; after
`repeat` cycles it stops by itself and `run` reads 0. A profile without any duration never ends a cycle. What it plays, if
anything (R304), and whether it plays. -/
def State.toneGen (s : State) (g n : Nat) : (List Int × Bool) × State :=
  let b := chB g
  let m := s.media g
  let a := if m.tgDue then
      (s.setMedia g { m with tgDue := false, tgRun := s.isSet b Reg.tgCmdRun, tgMs := 0, tgCycles := 0 }).modSig g (fun x =>
        { x with tg1 := 0, tg2 := 0 })
    else s
  let x := a.media g
  if !x.tgRun then ((List.replicate n 0, false), a.wr b Reg.stCodecTgRun 0)
  else
    let pr := (x.cfg.prof[s.rd b Reg.tgCmdProfile]?).getD {}
    let cycle := (pr.on + pr.off) * (if pr.unit = 0 then 50 else 250)
    let wraps := decide (cycle ≠ 0 ∧ cycle ≤ x.tgMs + 1)
    let cycles := if wraps then x.tgCycles + 1 else x.tgCycles
    let rep := s.rd b Reg.tgCmdRepeat
    let stop := decide (rep ≠ 0 ∧ rep ≤ cycles)
    let out := s.sendsRtp g
    let d := a.generated g n pr x.tgMs
    let t := d.2.modMedia g (fun y => { y with tgMs := if wraps then 0 else x.tgMs + 1, tgCycles := cycles, tgRun := !stop })
    let u := if stop then t.wr b Reg.tgCmdRun 0 else t
    ((d.1, out), u.wrB b Reg.stCodecTgRun (!stop && out))

/-- R304: a frame in which the channel is not processed, frozen or in FAULT: the cadence goes on counting without output. -/
def State.toneCadence (s : State) (g : Nat) : State := (s.toneGen g (s.kernelLen g)).2

/-- R303: a signal with the generator's output in place of it, or added to it. -/
def State.withTone (s : State) (g : Nat) (toward : List Nat) (tone : List Int × Bool) (l : List Int) : List Int :=
  if !tone.2 || !toward.contains (s.rd (chB g) Reg.tgCmdDir) then l
  else if s.rd (chB g) Reg.tgCmdMix = 1 then addSat l tone.1 else tone.1

/-- R296: the DTMF pair of a received event, in place of the decoded voice while it is played: each tone at −(v + 3) dBm0. -/
def State.eventPlayed (s : State) (g : Nat) (l : List Int) : List Int × State :=
  match (s.media g).evIn with
  | some e =>
    if !e.playing then (l, s)
    else
      let x := s.sig g
      let n := l.length
      let f := dtmfPair e.code
      (tonePair (ampOf (-(100 * (e.volume + 3 : Int)))) f.1 f.2 n x.ev1 x.ev2, s.setSig g { x with
        ev1 := (x.ev1 + n * phaseStep f.1 n) % 2 ^ 32, ev2 := (x.ev2 + n * phaseStep f.2 n) % 2 ^ 32 })
  | none => (l, s)

/-! ### Open, modify, close (R281, R307, R308, R311) -/

/-- R281: an initial value: the word applied, or one drawn and written to the word. -/
def State.initWord (s : State) (g : Nat) (auto : Bool) (v : Nat) (r : Row) : Nat × State :=
  if auto then
    let d := s.drawNat
    (d.1 % 2 ^ r.width, d.2.wr (chB g) r d.1)
  else (v, s)

/-- R280, R281, R311: an admitted open, with the words of its snapshot. -/
def State.mediaOpen (s : State) (g : Nat) (c : MediaCfg) : State :=
  let z := s.clearRegs (chB g + 0x180) (chB g + 0x1B0) (fun _ => false)
  let a := z.initWord g c.ssrcAuto c.ssrcTx Reg.rtpSsrcTxSsrc
  let b := a.2.initWord g c.seqAuto c.seqInit Reg.rtpSeqInitSeq
  let d := b.2.initWord g c.tsAuto c.tsInit Reg.rtpTsInitTs
  ((d.2.setSig g {}).setMedia g { cfg := c, ssrc := a.1, seq := b.1, ts := d.1, ipId := beAt c.tmpl 18 2, marker := true }).codecReport g

/-- R274, R307: the format options that codec `codec` uses. -/
def fmtInUse (codec fmt : Nat) : Nat :=
  match codec with
  | 3 => bitsOf fmt 3 1
  | 5 | 6 => bitsOf fmt 0 1
  | 7 => bitsOf fmt 1 2
  | _ => 0

/-- R307: the decoder restarts; what it has decoded of the codec frame under way plays on. -/
def State.decoderRestart (s : State) (g : Nat) : State := s.modSig g (fun x => { x with fifo := [], last := [], lostMs := 0 })

/-- R280, R307: a modify: the words are applied; a change of codec, or of the mode, fpp or format options in use, restarts encoder and decoder
at the next codec frame boundary; a change of RTP_RX restarts the SSRC learning. A digit that is being relayed ends with relay (R298). Answers
whether the jitter buffer restarts (R330). -/
def State.mediaModify (s : State) (g : Nat) (c : MediaCfg) (old new : ChConfig) : Bool × State :=
  let r := if s.relaying g && c.dtmfMode != 2 then s.relayEnds g (s.media g).dtmfBridge.on else s
  let m := r.media g
  let enc := old.codec != new.codec || m.cfg.mode != c.mode || m.cfg.fpp != c.fpp
    || fmtInUse new.codec m.cfg.fmt != fmtInUse new.codec c.fmt
  let rx := m.cfg.rxPt != c.rxPt || m.cfg.rxEvPt != c.rxEvPt || m.cfg.ssrcFixed != c.ssrcFixed
  let part := m.encN % codecMs old.codec
  let t := r.setMedia g { m with
    cfg := c, marker := true
    encN := if enc && part == 0 then 0 else m.encN, code := if enc then [] else m.code, modes := if enc then [] else m.modes
    encWait := if enc && part != 0 then codecMs old.codec - part else m.encWait
    rxSsrc := if rx then none else m.rxSsrc, candRun := if rx then 0 else m.candRun }
  (old.codec != new.codec || rx, (if enc then t.decoderRestart g else t).codecReport g)

/-- R308: the codec frames encoded since the last packet leave as a shorter one. -/
def State.lastPacket (s : State) (g : Nat) : State :=
  let m := s.media g
  let codec := (s.chan g).cfg.codec
  let l := codecMs codec * m.cfg.fpp
  let look := codecLook codec
  let part := (m.encN - look) % l
  let whole := part / codecMs codec
  let first := ofSigned 32 ((m.ts : Int) - ((part + look) * s.chTsMs g : Nat))
  if whole = 0 ∨ m.encWait ≠ 0 then s
  else
    let k := s.frameKinds codec m.cfg.vad whole m.dtxRun
    let d : List Byte × State := if codec < 2 then (m.code.take (whole * 80), k.2.2)
      else k.2.2.voicePayload codec m.cfg.fmt m.cfg.cmrTx (k.1.zip m.modes)
    d.2.voicePacket g first k.1 d.1

/-- R308: the end packets that an event still owes, all in this frame. -/
def State.lastEnds (s : State) (g : Nat) (e : EvOut) : State :=
  let d := s.segmentEvent g { e with durMs := some (e.durMs.getD ((s.now - e.startedAt) / msNs)) }
  forUpTo (3 - e.ends) (fun _ u => u.sendEvent g d.1 false true) d.2

/-- R308: the final frame: the codec frames encoded since the last packet, the end packets of an outgoing event, RTCP with
BYE; generator and event playback stop. The path still carries media. -/
def State.mediaClosing (s : State) (g : Nat) : State :=
  let a := s.lastPacket g
  let c := forEach (a.media g).events (fun e t => t.lastEnds g e) a
  let d := if (s.media g).cfg.rtcpEn then c.sendRtcp g true else c
  (d.modMedia g (fun x => { x with
    evOut := none, evPast := [], evWait := none, relayWait := [], evIn := none, tgRun := false, tgDue := false })).wr
    (chB g) Reg.stCodecTgRun 0

/-- The channel is IDLE: its media activity and its samples are gone; the words stay (R309-R311). -/
def State.mediaClose (s : State) (g : Nat) : State := { s with medias := Sparse.del s.medias g, sigs := Sparse.del s.sigs g }

end Sys2Proof.Machine
end

