-- ==== Sys2Proof/Machine/Tdm.lean ====
section
/-! DEFINITION. TDM highways (13_tdm.md): start and stop, clocking, the elastic stores and their slips, loss of clock and
of frame sync, the channels beyond the highway, and the samples that pass to and from its timeslots. -/

namespace Sys2Proof.Machine

def State.highway (s : State) (p : Nat) : Highway := Sparse.get {} s.highways p
def State.setHighway (s : State) (p : Nat) (v : Highway) : State := { s with highways := Sparse.put {} s.highways p v }

/-- Bits of the sheet's EVENT (R460). -/
def evThSlip : Nat := 0
def evThClkLost : Nat := 1
def evThClkBack : Nat := 2
def evThRealign : Nat := 3
def evThClkRange : Nat := 4
def evThBeyond : Nat := 5

/-- The highway's path state, whether or not it is held. -/
def State.thOp (s : State) (p : Nat) : Nat := s.rd (thB p) Title.stateOp

/-- `STATE.detail` bits kept by the highway: 0 clock present, 1 frame sync locked, 2 clock out of range (R460). -/
def State.thDetail (s : State) (p i : Nat) : Bool := bitAt (s.rd (thB p) Title.stateDetail) i
def State.setThDetail (s : State) (p i : Nat) (v : Bool) : State :=
  s.wr (thB p) Title.stateDetail (setBit (s.rd (thB p) Title.stateDetail) i v)

/-- R722: a shared highway of a STANDBY plate leaves its outputs in high impedance. -/
def State.thShared (s : State) (p : Nat) : Bool := s.isSet ekB Reg.ekPlateTdmShared p && s.role p == roleStandby

/-- Tp_DX is driven while the highway runs or completes its last frame, and with it Tp_CLK and Tp_FS by a master (R447, R455, R722, R153). -/
def State.driveHighway (s : State) (p : Nat) : State :=
  let drives := (s.thOp p == opRunning || s.thOp p == opStopping) && !s.thShared p
  { s with pins := { s.pins with
      tdmHiZ := setBit s.pins.tdmHiZ p (!drives), tdmSyncHiZ := setBit s.pins.tdmSyncHiZ p (!(drives && (s.highway p).master)) } }

/-- Timeslots of a rate (R441). -/
def slotsOf (rate : Nat) : Nat := match rate with | 0 => 32 | 1 => 64 | _ => 128

/-- R456, R458: is channel `g`, bridged to the highway, joined to it: the highway runs, and the channel is not beyond it? -/
def State.thCarries (s : State) (g : Nat) : Bool :=
  let p := g / 256
  s.thOp p == opRunning && decide ((s.chan g).cfg.timeslot < s.rd (thB p) Reg.thStatusSlots)

/-- The highway frame of the kernel frame under way, 0 to 7. -/
def State.thFrameNow (s : State) (p : Nat) : Nat := min 7 ((s.now - (s.plate p).tickAt) / 125000)

/-- R453: does the highway have clock and frame sync? -/
def State.thLocked (s : State) (p : Nat) : Bool := s.thDetail p 0 && s.thDetail p 1

/-- Highway frames `i` to `j` of a kernel frame, bit by bit. -/
def frameSpan (i j : Nat) : Nat := 2 ^ (j + 1) - 2 ^ i


/-- R453: clock or frame sync has been lost, or found again: what is carried in the frame under way follows. -/
def State.noteCarried (s : State) (p : Nat) : State :=
  let h := s.highway p
  match h.lostAt, s.thLocked p with
  | none, false => s.setHighway p { h with lostAt := some (s.thFrameNow p) }
  | some i, true =>
    s.setHighway p { h with lostAt := none, frame := { h.frame with silent := h.frame.silent ||| frameSpan i (s.thFrameNow p) } }
  | _, _ => s

/-- R458: channels beyond the highway are counted anew; `beyond` is set when the count rises from 0. -/
def State.noteBeyond (s : State) (p : Nat) : State :=
  let n := ((s.openChans p).filter (fun g => (s.chan g).cfg.bridge == 1
    && decide (s.rd (thB p) Reg.thStatusSlots ≤ (s.chan g).cfg.timeslot))).length
  let old := s.rd (thB p) Reg.thStatusBeyond
  let t := s.wr (thB p) Reg.thStatusBeyond (min 255 n)
  if old = 0 ∧ n ≠ 0 then t.raise (thB p) evThBeyond else t

/-- R450: a store's spacing becomes `v` 10⁻¹⁵ of a frame. -/
def State.setSpacing (s : State) (p : Nat) (rx : Bool) (v : Int) : State :=
  let h := s.highway p
  let x : Spacing := { frames := v, at_ := s.now }
  s.setHighway p (if rx then { h with rxSpacing := x } else { h with txSpacing := x })

/-- R450: a store's spacing now, with a clock `ppb` fast since it was known: such a clock fills the receive store and drains the transmit
store, 8 · 10⁻¹⁵ frame each ppb and nanosecond. -/
def State.spacingAt (s : State) (p : Nat) (rx : Bool) (ppb : Int) : Int :=
  let x := if rx then (s.highway p).rxSpacing else (s.highway p).txSpacing
  let d := ppb * 8 * ((s.now - x.at_ : Nat) : Int)
  if rx then x.frames + d else x.frames - d

/-- R450, R461: a store's spacing now, as far as the last measured offset tells. -/
def State.spacing (s : State) (p : Nat) (rx : Bool) : Int := s.spacingAt p rx (s.rdS (thB p) Reg.thFreqOffsetPpb)

/-- R461: the spacing as `rx_fill` and `tx_fill` tell it: eighths of a frame, rounded down. -/
def State.fill (s : State) (p : Nat) (rx : Bool) : Nat := (clampInt 2 14 (s.spacing p rx * 8 / 10 ^ 15)).toNat

/-- R450: the stores have drifted by a clock `ppb` fast. -/
def State.driftSpacings (s : State) (p : Nat) (ppb : Int) : State :=
  (s.setSpacing p true (s.spacingAt p true ppb)).setSpacing p false (s.spacingAt p false ppb)

/-- R450: both spacings are 1.0 frame. -/
def State.alignStores (s : State) (p : Nat) : State := (s.setSpacing p true (10 ^ 15)).setSpacing p false (10 ^ 15)

/-! ### Signals (R442) -/

/-- Is Tp_FS active in bit period `n` of a frame: that of bit 0, or the one before it with `fs_early`? -/
def Highway.fsActive (h : Highway) (n : Nat) : Bool := n == if h.fsEarly then 8 * slotsOf h.rate - 1 else 0

/-- The level of Tp_FS in bit period `n`. -/
def Highway.fsLevel (h : Highway) (n : Nat) : Bool := h.fsActive n != h.fsPol

/-- Does the device drive Tp_DX on the rising edge of Tp_CLK, and sample Tp_DR on the falling one? -/
def Highway.drivesRising (h : Highway) : Bool := !h.clkEdge

/-- Bits 0 to 7 of a timeslot's byte as they are sent: the most significant first. -/
def byteBits (b : Byte) : List Bool := (List.range 8).map (fun i => b.getLsbD (7 - i))

/-- The bits of highway frame `j` of a kernel frame, from the bytes of its timeslots, frame by frame; none is high impedance. -/
def frameBits (slots : List (List (Option Byte))) (j : Nat) : List (Option Bool) :=
  slots.flatMap (fun x => match x.getD j none with
    | some b => (byteBits b).map some
    | none => List.replicate 8 none)

/-- Tp_FS over the bit periods of a frame. -/
def Highway.syncLevels (h : Highway) : List Bool := (List.range (8 * slotsOf h.rate)).map h.fsLevel

/-- R460: clock, frame sync and clock range are not judged any more, or from the start; a change of the range is announced. -/
def State.clearThDetail (s : State) (p : Nat) (clock : Bool) : State :=
  let t := s.wr (thB p) Title.stateDetail (b2n clock)
  if s.thDetail p 2 then t.raise (thB p) evThClkRange else t

/-- R455, R457: TH_CFG is applied and the highway starts; a slave's clock is present until it is declared lost (R453); a former master's
offset from the grid returns to 0 (R448). -/
def State.startHighway (s : State) (p : Nat) : State :=
  let b := thB p
  let rate := s.rd b Reg.thCfgRate
  let t := s.setHighway p { rate := rate, master := s.isSet b Reg.thCfgMaster, law := s.isSet b Reg.thCfgLaw,
                              hiz := s.isSet b Reg.thCfgUnusedHiz, idle := s.rd b Reg.thCfgIdleByte,
                              clkEdge := s.isSet b Reg.thCfgClkEdge, fsPol := s.isSet b Reg.thCfgFsPol,
                              fsEarly := s.isSet b Reg.thCfgFsEarly, frame := { loop := s.rd b Reg.thCfgLoop } }
  let u := ((t.wr b Reg.thStatusSlots (slotsOf rate)).noteBeyond p).clearThDetail p (!s.isSet b Reg.thCfgMaster)
  (((u.wr b Reg.thPhasePhaseNs 0).wr b Reg.thFreqOffsetPpb 0).setOp b opStarting).driveHighway p

/-- STARTING ends with the highway RUNNING (R455): the highway frames of the kernel frame that are past carried nothing. -/
def State.runHighway (s : State) (p : Nat) : State :=
  let t := s.alignStores p
  let h := t.highway p
  ((t.setHighway p { h with lostAt := none, frame := { loop := s.rd (thB p) Reg.thCfgLoop, silent := frameSpan 0 (s.thFrameNow p) } }).setOp
    (thB p) opRunning).driveHighway p

/-- R455, R460: the highway is OFF. -/
def State.offHighway (s : State) (p : Nat) : State := ((s.clearThDetail p false).setOp (thB p) opOff).driveHighway p

/-- R457: `loop` has been written: it changes at the next frame boundary. -/
def State.noteLoop (s : State) (p : Nat) : State :=
  let h := s.highway p
  if s.thOp p ≠ opRunning then s
  else s.setHighway p { h with frame := { h.frame with loops := (s.thFrameNow p + 1, s.rd (thB p) Reg.thCfgLoop) :: h.frame.loops } }

/-- R455: HOST_STATE of the highway: `mode` stores 0; the table gives a written QUIET no action; a hold ends (R73). -/
def State.thIntent (s : State) (fn p data : Nat) : State :=
  let b := thB p
  let op := intentOp data
  if !s.mayWriteL b (masterOfFn fn) then s
  else
    let t := s.storeIntent b op 0
    match t.thOp p with
    | 0 => if op = opRunning ∧ !s.plateAsleep p then t.startHighway p else t
    | 1 => if op = opOff then t.offHighway p else t
    | 2 => if op = opOff then
        ((t.setHighway p { t.highway p with lastFrames := t.thFrameNow p + 1 }).setOp b opStopping).driveHighway p else t
    | _ => t

/-- TDM_HOST_STATE_WRITE (R455). -/
def execTdmHostStateWrite (fn : Fin 65) (p : Fin 8) (data : Word) (s : State) : Host.Outcome State Fault Refusal :=
  .next (s.mmioWrite fn (thB p + 0x20) (fun t => t.thIntent fn p data.toNat))

/-- Are the plate's highway clocks enabled (R196)? -/
def State.thClocked (s : State) (p : Nat) : Bool := s.graversReleased p

/-- MASTER_FS_START (R447, R455): the first Tp_FS falls on a multiple of 125,000 ns of the plate's time, so its phase is 0. -/
def execMasterFsStart (p : Fin 8) (s : State) : Host.Outcome State Fault Refusal :=
  .next (if s.thClocked p && s.thOp p == opStarting && (s.highway p).master && s.tkNs p % 125000 == 0 then
      ((s.setThDetail p 0 true).setThDetail p 1 true).runHighway p
    else s)

/-- Does a slave highway watch its clock: it is STARTING, RUNNING or STOPPING? -/
def State.thSlave (s : State) (p : Nat) : Bool :=
  s.thClocked p && !(s.highway p).master && (s.thOp p == opStarting || s.thOp p == opRunning || s.thOp p == opStopping)

/-- HIGHWAY_FREQ_UPDATE (R449, R450): the last second's average offset, ppb, by which the spacings have drifted. -/
def execHighwayFreqUpdate (p : Fin 8) (ppb : Int) (s : State) : Host.Outcome State Fault Refusal :=
  .next (if s.thSlave p then
      let t := (s.driftSpacings p ppb).wrS (thB p) Reg.thFreqOffsetPpb (clampInt (-(2 ^ 31)) (2 ^ 31 - 1) ppb)
      let out := decide (ppb < -200000 ∨ 200000 < ppb)
      if out = t.thDetail p 2 then t else (t.setThDetail p 2 out).raise (thB p) evThClkRange
    else s)

/-- The channels on the highway, ascending (R451). -/
def State.thChannels (s : State) (p : Nat) : List Nat :=
  (s.openChans p).filter (fun g => (s.chan g).cfg.bridge == 1
    && decide ((s.chan g).cfg.timeslot < s.rd (thB p) Reg.thStatusSlots))

/-- R450, R452: has the spacing of a running highway come to where a frame is deleted, or repeated, at a frame boundary? A slave's boundaries
are the framer's (log entry 111); a master's lie `phase_ns` after each multiple of 125,000 ns. -/
def State.slipDue (s : State) (p : Nat) (rx deleted : Bool) : Bool :=
  s.thOp p == opRunning && s.thLocked p
    && (if deleted then decide (175 * 10 ^ 13 ≤ s.spacing p rx) else decide (s.spacing p rx ≤ 25 * 10 ^ 13))
    && (!(s.highway p).master || s.tkNs p % 125000 == s.rd (thB p) Reg.thPhasePhaseNs)

/-- R450: the frame under way slips at its highway frame `i`. -/
def TdmFrame.slips (f : TdmFrame) (rx deleted : Bool) (i : Nat) : TdmFrame :=
  if rx then { f with rxSlip := some (i, deleted) } else { f with txSlip := some (i, deleted) }

/-- ELASTIC_SLIP (R450, R451, R270): a frame is deleted when the spacing has reached 1.75, or repeated when it has fallen to 0.25; the
spacing is then one frame less or more, and every channel of the highway is told of one sample. -/
def execElasticSlip (p : Fin 8) (rx deleted : Bool) (s : State) : Host.Outcome State Fault Refusal :=
  let b := thB p
  .next (if !s.slipDue p rx deleted then s
    else
      let i := s.thFrameNow p
      let h := s.highway p
      let t := (s.setHighway p { h with frame := h.frame.slips rx deleted i }).bumpSat b (match rx, deleted with
        | true, true => Reg.thSlipsRxDel
        | true, false => Reg.thSlipsRxRep
        | false, true => Reg.thSlipsTxDel
        | false, false => Reg.thSlipsTxRep)
      let u := (t.setSpacing p rx (s.spacing p rx + (if deleted then -(10 ^ 15) else 10 ^ 15))).raise b evThSlip
      forEach (u.thChannels p) (fun g v => v.echoSlip g i deleted) u)

/-- TDM_CLOCK_LOST (R453). -/
def execTdmClockLost (p : Fin 8) (s : State) : Host.Outcome State Fault Refusal :=
  .next (if s.thSlave p && s.thDetail p 0 then
      (((s.setThDetail p 0 false).noteCarried p).bumpSat (thB p) Reg.thErrsClkLost).raise (thB p) evThClkLost
    else s)

/-- TDM_CLOCK_BACK (R453): the stores are realigned. -/
def execTdmClockBack (p : Fin 8) (s : State) : Host.Outcome State Fault Refusal :=
  .next (if s.thSlave p && !s.thDetail p 0 then
      ((((s.setThDetail p 0 true).noteCarried p).alignStores p).raise (thB p) evThClkBack)
    else s)

/-- R453: frames with an FS error in a row, with one now: the last one was in the frame before, less than one and a half frames
ago. -/
def Highway.fsRun (h : Highway) (now : Nat) : Nat := if h.fsErrRun ≠ 0 ∧ now ≤ h.fsErrAt + 187500 then h.fsErrRun + 1 else 1

/-- TDM_FS_ERROR (R453): a frame whose Tp_FS is not at its expected bit; the third in a row unlocks. -/
def execTdmFsError (p : Fin 8) (s : State) : Host.Outcome State Fault Refusal :=
  .next (if s.thSlave p && s.thDetail p 1 then
      let n := (s.highway p).fsRun s.now
      let t := (s.setHighway p { s.highway p with fsErrRun := n, fsErrAt := s.now }).bumpSat (thB p) Reg.thErrsFsErr
      if n < 3 then t else (t.setThDetail p 1 false).noteCarried p
    else s)

/-- TDM_REALIGN (R453, R455): two FS pulses one frame apart lock the frame sync; a starting slave highway becomes RUNNING. -/
def execTdmRealign (p : Fin 8) (s : State) : Host.Outcome State Fault Refusal :=
  .next (if s.thSlave p && !s.thDetail p 1 then
      let t := ((s.setThDetail p 1 true).setHighway p { s.highway p with fsErrRun := 0 }).noteCarried p
      let u := ((t.alignStores p).bumpSat (thB p) Reg.thErrsRealign).raise (thB p) evThRealign
      if u.thOp p = opStarting then u.runHighway p else u
    else s)

/-- A time within a frame as the nearest displacement: between half a frame back and half a frame on. -/
def withinFrame (ns : Int) : Int := (ns + 62499) % 125000 - 62499

/-- R448, R452: a step of timekeeper time moves the grid under a master highway, whose frames go on without a break. The frame ticks are
realigned: they come earlier by what of the step is within a frame, so that writes lead reads by so much less in the receive store and by so
much more in the transmit store (log entry 111). -/
def State.highwayStep (s : State) (p : Nat) (ns : Int) : State :=
  if (s.highway p).master && s.thOp p == opRunning then
    let d := withinFrame ns * (8 * 10 ^ 9)
    let t := (s.setSpacing p true (s.spacing p true - d)).setSpacing p false (s.spacing p false + d)
    t.wr (thB p) Reg.thPhasePhaseNs (((s.rd (thB p) Reg.thPhasePhaseNs : Int) + ns) % 125000).toNat
  else s

/-- At a frame tick a stopping highway has completed its frame (R455); if RUNNING was written meanwhile it starts (R73). -/
def State.highwayTick (s : State) (p : Nat) : State :=
  if s.thOp p = opStopping then
    let t := s.offHighway p
    if t.rd (thB p) Title.hostOp = opRunning then t.startHighway p else t
  else s

/-! ### Samples (R443-R446, R454) -/

/-- The signals of a channel that its tick's operand does not name: no byte received, no tone. -/
def silence (c : Nat) : FrameIn := { ch := Fin.ofNat 256 c, line := [], rin := {}, sin := {}, e := {} }

/-- What the tick's operand says of local channel `c`. -/
def frameOf (media : List FrameIn) (c : Nat) : FrameIn :=
  match media.find? (fun f => f.ch.val == c) with
  | some f => f
  | none => silence c

/-- R450: a store's frames after a slip at frame `i`: that frame is deleted, or comes twice. -/
def slipped {α : Type} (x : Option (Nat × Bool)) (l : List α) : List α :=
  match x with
  | none => l
  | some (i, true) => l.eraseIdx i
  | some (i, false) => l.take (i + 1) ++ l.drop i

/-- `loop` in highway frame `j` of a kernel frame (R457). -/
def TdmFrame.loopAt (f : TdmFrame) (j : Nat) : Nat :=
  match f.loops.find? (fun x => decide (x.1 ≤ j)) with
  | some x => x.2
  | none => f.loop

/-- R453: does the highway carry anything in highway frame `j`? -/
def TdmFrame.carries (f : TdmFrame) (j : Nat) : Bool := !bitAt f.silent (min 7 j)

/-- How many highway frames the transmit side had in a kernel frame. -/
def TdmFrame.count (f : TdmFrame) : Nat := (slipped f.txSlip (List.range 8)).length

/-- The bytes that a timeslot carries for the samples of its channel, none where it carried none (R443, R445, R453). -/
def Highway.bytesOf (h : Highway) (f : TdmFrame) (l : Option (List Int)) : List (Option Byte) :=
  let x := match l with
    | some x => slipped f.txSlip x
    | none => []
  (List.range f.count).map (fun j => if f.carries j then (x[j]?).map (lawCompress h.law) else none)

/-- The frames of a kernel frame one highway frame later: the last of the kernel frame before, then all but the last of this one. -/
def oneFrameLater {α : Type} (before now : List α) : List α := before.drop (before.length - 1) ++ now.take (now.length - 1)

/-- `n` free bytes: what the framer sent in a timeslot that no channel holds. -/
def State.freeBytes (s : State) (n : Nat) : List Byte × State :=
  forUpTo n (fun _ (a : List Byte × State) =>
    let d := a.2.drawNat
    (BitVec.ofNat 8 d.1 :: a.1, d.2)) ([], s)

/-- With `loop` = 2: the bytes received in timeslot `k`, one frame later. -/
def State.remoteBytes (s : State) (p k : Nat) : List Byte × State :=
  let h := s.highway p
  match Sparse.find? h.rx2 k, Sparse.find? h.rx k with
  | some a, some b => (oneFrameLater a b, s)
  | _, _ => s.freeBytes h.ended.count

/-- R445: what Tp_DX carries where a timeslot has no output. -/
def Highway.unused (h : Highway) : Option Byte := if h.hiz then none else some (BitVec.ofNat 8 h.idle)

/-- What timeslot `k` carried in the kernel frame that ended, highway frame by highway frame (R445, R457). -/
def State.slotLine (s : State) (p k : Nat) : List (Option Byte) × State :=
  let h := s.highway p
  let f := h.ended
  let remote := (List.range f.count).any (fun j => f.loopAt j == 2)
  let r : List Byte × State := if remote then s.remoteBytes p k else ([], s)
  let own := h.bytesOf f (Sparse.find? h.was k)
  ((List.range f.count).map (fun j =>
    if f.loopAt j = 2 then r.1[j]? else match own.getD j none with
      | some b => some b
      | none => h.unused), r.2)

/-- The highway in the first `n` highway frames of the kernel frame that ended, all timeslots (R442). -/
def State.emitLine (s : State) (p n : Nat) : State :=
  let h := s.highway p
  let r := (List.range (slotsOf h.rate)).foldl (fun (a : List (List (Option Byte)) × State) k =>
    let d := a.2.slotLine p k
    (a.1 ++ [d.1], d.2)) ([], s)
  r.2.emit (.tdm p h.drivesRising (if h.master then some h.syncLevels else none) ((List.range (min n h.ended.count)).map (frameBits r.1)))

/-- The kernel frame under way has ended: what it carried is known, and the next one begins. -/
def State.endTdmFrame (s : State) (p : Nat) : State :=
  let h := s.highway p
  let f := h.frame
  let silent := match h.lostAt with
    | some i => f.silent ||| frameSpan i 7
    | none => f.silent
  s.setHighway p { h with
    ended := { f with silent := silent }, frame := { loop := f.loopAt 8 }, lostAt := h.lostAt.map (fun _ => 0)
    tx := [], cur := h.tx, was := h.cur, was2 := h.was }

/-- R446, R455: at a frame tick of a running highway the samples committed before begin to leave, and what the timeslots carried in
the frame that ended is known, unless the balls follow the scan cells (R648); a highway that is stopping has completed the frame in which it
was stopped (log entry 112). -/
def State.highwayLine (s : State) (p : Nat) (media : List FrameIn) : State :=
  if s.thOp p ≠ opRunning ∧ s.thOp p ≠ opStopping then
    s.setHighway p { s.highway p with tx := [], cur := [], was := [], was2 := [], rx := [], rx2 := [] }
  else
    let rx := (s.thChannels p).foldl (fun (m : Sparse (List Byte)) g =>
      Sparse.ins m (s.chan g).cfg.timeslot (frameOf media (g % 256)).line) []
    let t := s.endTdmFrame p
    let u := t.setHighway p { t.highway p with rx := rx, rx2 := (s.highway p).rx }
    if bitAt s.pins.tdmHiZ p || s.ballsScanned then u
    else u.emitLine p (if s.thOp p = opStopping then (s.highway p).lastFrames else 9)

/-- R443, R450, R453, R456, R457, R458: what a channel hears from its timeslot, `line` being the bytes received: nothing on a highway that it
is not joined to, nor in a frame that carries nothing; its own bytes one frame later with `loop` = 1; a slip deletes or repeats a frame. -/
def State.heardSlot (s : State) (g : Nat) (line : List Byte) : List Int :=
  let h := s.highway (g / 256)
  let f := h.ended
  let k := (s.chan g).cfg.timeslot
  let own := oneFrameLater (h.bytesOf f (Sparse.find? h.was2 k)) (h.bytesOf f (Sparse.find? h.was k))
  let heard := fun (j : Nat) =>
    if f.loopAt j = 1 then some (((own[j]?).getD none).getD (BitVec.ofNat 8 h.idle)) else (line)[j]?
  let at_ := fun (j : Nat) => if f.carries j then ((heard j).map (lawExpand h.law)).getD 0 else 0
  if !s.thCarries g then List.replicate 8 0
  else firstOf 8 (slipped f.rxSlip ((List.range (max 8 line.length)).map at_))

/-- R255, R72: `n` samples of the comfort noise that a held, muted, frozen or faulted channel sends toward its bridge, at `rin_noise`
(log entry 104). -/
def State.bridgeNoise (s : State) (g n : Nat) : List Int × State :=
  let d := s.comfortNoise (s.echo g).rinEst (s.rdS (chB g) Reg.ecNoiseRinNoise) n
  (d.1, d.2.2.modEcho g (fun e => { e with rinEst := d.2.1 }))

/-- R446, R454, R72: what channel `g` commits for its timeslot: the lower band of its signal toward the bridge, or comfort noise while it
is held, muted, faulted or its graver frozen; nothing when all four gravers are frozen. -/
def State.highwayOut (s : State) (g : Nat) : Option (List Int) × State :=
  let p := g / 256
  if s.sendsRtp g then (if s.graverRuns p (s.chan g).graver then some (firstOf 8 (s.sig g).out8) else none, s)
  else if s.echoSuspended g ∧ !((List.range 4).all (fun i => s.isFrozen (masterGraver p i))) then
    let d := s.bridgeNoise g 8
    (some d.1, d.2)
  else (none, s)

/-- Step 3 of R177 for the highway: the samples of the channels joined to it; a plate that is handing over no longer processes them
(R719). -/
def State.commitHighway (s : State) (p : Nat) : State :=
  if (Sparse.get {} s.pairs p).handover.isSome then s
  else forEach ((s.thChannels p).filter s.thCarries) (fun g t =>
    let r := t.highwayOut g
    match r.1 with
    | some l => r.2.setHighway p { r.2.highway p with tx := Sparse.ins (r.2.highway p).tx (t.chan g).cfg.timeslot l }
    | none => r.2) s

/-- The magnitude 6 dB below `x`, rounded down: the greatest k with k · 10^(6/20) at most `x`. -/
def minus6dB (x : Nat) : Nat :=
  let k := x * 501187 / 1000000
  if (k + 1) ^ 10 * 1000 ≤ x ^ 10 then k + 1 else k

/-- Samples attenuated by 6 dB; the spec gives no rounding, which is free (log entry 7). -/
def State.attenuated (s : State) (l : List Int) : List Int × State :=
  l.foldl (fun (a : List Int × State) x =>
    let d := a.2.drawBool
    let k : Nat := if x = 0 then 0 else minus6dB x.natAbs + (if d.1 then 1 else 0)
    (a.1 ++ [if x < 0 then -(k : Int) else k], d.2)) ([], s)

/-- R178: a channel whose graver overran repeats its previous frame to the highway, attenuated by 6 dB. -/
def State.repeatFrame (s : State) (g : Nat) : State :=
  let p := g / 256
  let k := (s.chan g).cfg.timeslot
  if (s.chan g).cfg.bridge ≠ 1 ∨ !s.thCarries g then s
  else match Sparse.find? (s.highway p).cur k with
    | some l =>
      let d := s.attenuated l
      d.2.setHighway p { d.2.highway p with tx := Sparse.ins (d.2.highway p).tx k d.1 }
    | none => s

/-- R455: the plate enters QUIET, and wakes from it; an OFF written meanwhile takes effect then (R42). -/
def State.quietHighway (s : State) (p : Nat) : State :=
  if s.thOp p = opStarting ∨ s.thOp p = opRunning ∨ s.thOp p = opStopping then
    ((s.clearThDetail p false).setOp (thB p) (if s.thOp p = opStopping then opOff else opQuiet)).driveHighway p
  else s
def State.wakeHighway (s : State) (p : Nat) : State :=
  if s.thOp p = opOff ∧ s.rd (thB p) Title.hostOp = opRunning then s.startHighway p
  else if s.thOp p ≠ opQuiet then s
  else if s.rd (thB p) Title.hostOp = opOff then s.setOp (thB p) opOff else s.startHighway p

end Sys2Proof.Machine
end

