-- ==== Sys2Proof/Machine/Voice.lean ====
section
/-! DEFINITION. The signal path of a channel in one kernel frame (R177 steps 2 and 3, R305): from the jitter buffer to the bridge,
and from the bridge through the canceller to the encoder. -/

namespace Sys2Proof.Machine

/-- R242, R305: the 8 kHz signal that the canceller and a narrowband side see: the lower band on a wideband channel. -/
def State.lowerBand (s : State) (g : Nat) (l : List Int) : List Int × State :=
  if s.chWide g then
    let h := (s.sig g).qOut
    (splitBand false h l, s.modSig g (fun x => { x with qOut := histAfter 32 h l }))
  else (l, s)

/-- R225, R226, R72: what channel `g` hears from its peer: what the peer delivered in its last frame as `was` holds it, at the common rate,
or comfort noise from the peer's estimate while it has no media or is lost. -/
def State.heardPeer (s was : State) (g : Nat) : List Int × State :=
  let h := s.peerOf g
  let both := s.chWide g && s.chWide h
  if s.names g h && s.names h g && s.sendsRtp h && s.graverRuns (h / 256) (s.chan h).graver then
    (if both then firstOf 16 (was.sig h).out else firstOf 8 (was.sig h).out8, s)
  else s.bridgeNoise h (if both then 16 else 8)

/-- R242, R305: the two bands of Sin, each at 8 kHz; a narrowband channel has no upper one, and a narrowband side gives none. -/
def State.heardBands (s was : State) (g : Nat) (line : List Byte) : (List Int × List Int) × State :=
  let none8 := if s.chWide g then List.replicate 8 0 else []
  match (s.chan g).cfg.bridge with
  | 0 => ((List.replicate 8 0, none8), s)
  | 1 => ((s.heardSlot g line, none8), s)
  | _ =>
    let d := s.heardPeer was g
    if d.1.length = 16 then
      let h := (d.2.sig g).qSin
      ((splitBand false h d.1, splitBand true h d.1), d.2.modSig g (fun x => { x with qSin := histAfter 32 h d.1 }))
    else ((d.1, none8), d.2)

/-- R242, R305, R306: the encoder's input: the bands of Sout merged on a wideband channel, under `tx_gain`. -/
def State.encoderInput (s : State) (g : Nat) (low high : List Int) : List Int × State :=
  let gain := (s.media g).cfg.txGain * 50
  if s.chWide g then
    let x := s.sig g
    ((mergeBands x.qLow x.qHigh low high).map (gained gain),
     s.setSig g { x with qLow := histAfter 16 x.qLow low, qHigh := histAfter 16 x.qHigh high })
  else (low.map (gained gain), s)

/-- R298: while a digit is relayed, comfort noise from the Sin estimate takes the place of the encoder's input. -/
def State.relayNoise (s : State) (g : Nat) (l : List Int) : List Int × State :=
  if s.relaying g then
    let d := s.comfortNoise (s.echo g).sinEst (s.rdS (chB g) Reg.ecNoiseSinNoise) l.length
    (d.1, d.2.2.modEcho g (fun e => { e with sinEst := d.2.1 }))
  else (l, s)

/-- The direction toward the bridge: the decoded signal under `rx_gain`, a received event in its place, the generator (R296, R303,
R306). -/
def State.towardBridge (s : State) (g : Nat) : (List Int × (List Int × Bool)) × State :=
  let d := s.jbFrame g
  let v := d.2.eventPlayed g (d.1.map (gained ((s.media g).cfg.rxGain * 50)))
  let t := v.2.toneGen g (s.kernelLen g)
  ((t.2.withTone g [0, 2] t.1 v.1, t.1), t.2)

/-- The tones of the bridge side, which the detectors take in e: those of Sin where the canceller leaves it as it is. -/
def bridgeTones (f : FrameIn) (sin e : List Int) : Heard := unlessSilent (if e == sin then f.sin else f.e) e

/-- Steps 2 and 3 of R177 for one channel: playout, echo cancelling, tones, encoding; `was` is the plate before the frame. -/
def State.channelFrame (s was : State) (g : Nat) (f : FrameIn) : State :=
  let a := (s.startEvent g).towardBridge g
  let rin := a.2.lowerBand g a.1.1
  let b := rin.2.heardBands was g f.line
  let c := b.2.echoFrame g rin.1 b.1.1 b.1.2 f.rin f.sin
  let t := c.2.toneTick g (bridgeTones f b.1.1 c.1.e) (unlessSilent f.rin rin.1)
  let x := t.encoderInput g c.1.low c.1.high
  let y := x.2.relayNoise g x.1
  let z := y.2.encodeFrame g (y.2.withTone g [1, 2] a.1.2 y.1)
  z.modSig g (fun v => { v with out := a.1.1, out8 := rin.1 })

end Sys2Proof.Machine
end

