-- ==== Sys2Proof/Machine/Channels.lean ====
section
/-! DEFINITION. Channels (06_channels.md R210-R236): requests, admission at the frame tick, results, close, ownership, and
the channel trace check. -/

namespace Sys2Proof.Machine

/-- Refusal codes (R217). -/
def refPlateOff : Nat := 1
def refPlateHeld : Nat := 2
def refNotAssigned : Nat := 3
def refBadConfig : Nat := 4
def refTsBusy : Nat := 5
def refBadPeer : Nat := 6
def refOverCap : Nat := 7
def refNoUnits : Nat := 8
def refNoPower : Nat := 9
def refNoGraver : Nat := 10
def refWakeTimeout : Nat := 11

/-- Reasons of R228. -/
def reasonHost : Nat := 1
def reasonPlateOff : Nat := 2
def reasonStoreError : Nat := 3

/-! ### Requests (R214) -/

def State.chWant (s : State) (g : Nat) : Nat := s.rd (chB g) Reg.chIntentWant
def State.chGen (s : State) (g : Nat) : Nat := s.rd (chB g) Reg.chIntentGen
def State.chLastGen (s : State) (g : Nat) : Nat := s.rd (chB g) Reg.chPathLastGen

/-- The path state that a `want` of ACTIVE or MUTED stands for. -/
def wantPath (w : Nat) : Nat := if w = wantMuted then pathMuted else pathActive

/-- Does the channel have a request whose result is not posted? -/
def State.chServed (s : State) (g : Nat) : Bool := match (s.chan g).req with | some r => r.served | none => false

/-- A request that has not been served is forgotten: the path is what it was before it (06_channels.md, a request is written
twice). -/
def State.dropRequest (s : State) (g : Nat) : State :=
  let u := s.modChan g (fun c => { c with closeReq := false, muteReq := false })
  match (s.chan g).req with
  | some r => if r.served then u else (u.modChan g (fun c => { c with req := none })).setPath g r.prior
  | none => u

/-- A new open or modify: the path shows it (06_channels.md, step 2 of an open). -/
def State.addRequest (s : State) (g : Nat) (isOpen : Bool) : State :=
  let r : ChRequest := { isOpen := isOpen, at_ := s.now, prior := s.path g }
  (s.modChan g (fun c => { c with req := some r })).setPath g (if isOpen then pathAdmitting else pathModifying)

/-- R214: which request the stored intent makes against `CH_PATH`. A request that has been served stands: until its result is posted the
path is ADMITTING or MODIFYING, and only a close adds to it (log entry 44). A FROZEN path takes a close alone, and a write then drops a
request that waited (log entry 102). -/
def State.classifyReq (s : State) (g : Nat) : State :=
  let t := s.dropRequest g
  let path := if t.chFrozen g then pathFrozen else t.path g
  let w := t.chWant g
  if w = wantClosed then
    if path = pathIdle ∨ path = pathRefused ∨ path = pathClosing then t
    else t.modChan g (fun c => { c with closeReq := true })
  else if t.chServed g then t
  else if t.chGen g ≠ t.chLastGen g then
    if path = pathIdle ∨ path = pathRefused ∨ path = pathFault then t.addRequest g true
    else if path = pathActive ∨ path = pathMuted then t.addRequest g false
    else t
  else if (path = pathActive ∨ path = pathMuted) ∧ path ≠ wantPath w then t.modChan g (fun c => { c with muteReq := true })
  else t

/-- R231: the channel's hold ends; its path shows the state stored for it now, which may have moved while it was held (log entry
101). -/
def State.endChHold (s : State) (g : Nat) : State :=
  if s.chHeld g then
    ((((s.wr (chB g) Reg.chTraceMismatch 0).wr (chB g) Reg.chTraceHeld 0).wr (chB g) Reg.chTraceCount 0).wr (chB g)
      Reg.chPathHeldFrom 0).noteSettled g
  else s

/-- R223: an open or modify on a QUIET plate wakes it. -/
def State.wakeForRequest (s : State) (g : Nat) : State :=
  if s.plateQuiet (g / 256) && (s.chan g).req.isSome && !s.chServed g then s.requestWake wakeAdmission (2 ^ (g / 256)) else s

/-- R214, R231: a write of CH_INTENT. -/
def State.chIntentEffect (s : State) (fn g data : Nat) : State :=
  (((s.storeWord fn (chB g) Reg.chRows 0x4 data).endChHold g).classifyReq g).wakeForRequest g

/-- CH_INTENT_WRITE (R214), through any view that reaches the descriptor (R39). -/
def execChIntentWrite (fn : Fin 65) (g : Fin 2048) (data : Word) (s : State) : Host.Outcome State Fault Refusal :=
  .next (s.mmioWrite fn (chB g + 0x4) (fun t => t.chIntentEffect fn g data.toNat))

/-- R211: CH_OWNER takes effect only while the path is IDLE or REFUSED and `want` is CLOSED. -/
def State.chOwnerEffect (s : State) (fn g data : Nat) : State :=
  let v := s.pathView g
  if (v = pathIdle ∨ v = pathRefused) ∧ s.chWant g = wantClosed then s.storeWord fn (chB g) Reg.chRows 0x0 data else s

/-- CH_OWNER_WRITE (R211). -/
def execChOwnerWrite (fn : Fin 65) (g : Fin 2048) (data : Word) (s : State) : Host.Outcome State Fault Refusal :=
  .next (s.mmioWrite fn (chB g) (fun t => t.chOwnerEffect fn g data.toNat))

/-! ### Admission (R215-R218) -/

/-- CH_CONFIG as staged. -/
def State.staged (s : State) (g : Nat) : ChConfig :=
  let b := chB g
  { codec := s.rd b Reg.chConfigCodec, tail := s.rd b Reg.chConfigTail, bridge := s.rd b Reg.chConfigBridge
    tq := s.rd b Reg.chConfigTq, timeslot := s.rd b Reg.chConfigTimeslot, peer := s.rd b Reg.chConfigPeer }

/-- Does the channel hold timeslot `ts`: by its applied configuration, or taken at its tick (R216)? -/
def Chan.holdsSlot (c : Chan) (ts : Nat) : Bool :=
  c.units != 0 && ((c.cfg.bridge == 1 && c.cfg.timeslot == ts)
    || (match c.req with | some r => r.served && r.cfg.bridge == 1 && r.cfg.timeslot == ts | none => false))

/-- Check 5 of R217: another channel of the plate holds the timeslot. -/
def State.slotBusy (s : State) (g ts : Nat) : Bool :=
  s.chans.any (fun e => e.1 / 256 == g / 256 && e.1 != g && e.2.holdsSlot ts)

/-- R215: the snapshot at the tick. -/
def State.snapshot (s : State) (g : Nat) (r : ChRequest) : ChRequest :=
  let c := s.staged g
  { r with cfg := c, gen := s.chGen g, muted := s.chWant g == wantMuted, echo := s.echoWords g, media := s.mediaWords g c.codec
           jb := s.jbWords g, oldUnits := (s.chan g).units, oldGraver := (s.chan g).graver
           keep := r.isOpen && r.prior == pathFault && decide (c.cost ≤ (s.chan g).units) }

/-- R217: the first of checks 1 to 9 that fails; 0 if none does. R218, R220: a modify that lowers cost and an open from FAULT
within what the channel holds skip checks 7 to 10. -/
def State.admitCheck (s : State) (g : Nat) (r : ChRequest) : Nat :=
  let p := g / 256
  let c := r.cfg
  let old := if r.isOpen then 0 else r.oldUnits
  if r.isOpen ∧ s.heldAt (plB p) then refPlateHeld
  else if s.plateOp p ≠ opRunning ∧ !s.heldAt (plB p) then refPlateOff
  else if !s.isSet (chB g) Reg.chOwnerAssigned then refNotAssigned
  else if c.bridge = 1 ∧ s.rd (thB p) Reg.thStatusSlots ≤ c.timeslot then refBadConfig
  else if c.bridge = 1 ∧ s.slotBusy g c.timeslot then refTsBusy
  else if c.bridge = 2 ∧ !s.peerValid g (p * 256 + c.peer) then refBadPeer
  else if r.keep ∨ c.cost < old then 0
  else if s.rd (chB g) Reg.chOwnerUnitCap < c.cost then refOverCap
  else if 256 < s.unitsUsed p + (c.cost - old) then refNoUnits
  else if !r.isOpen ∧ old < c.cost ∧ 70 < s.graverUnits p r.oldGraver + (c.cost - old) then refNoGraver
  else 0

/-! ### Results (R219, R220, R224, R226) -/

/-- Everything the channel holds is released (R219, R221): its canceller, media and buffer are gone, its requests to the
arbiter are withdrawn. -/
def State.releaseHeld (s : State) (g : Nat) : State :=
  let a := (((s.leavePeer g).echoClose g).jbClose g).mediaClose g
  let b := (a.withdraw (.call g)).withdraw (.echo g)
  let c := b.setChan g { settled := (b.chan g).settled }
  ({ c with echos := Sparse.del c.echos g }.noteBeyond (g / 256))

/-- R221, R360: a channel that goes to IDLE: its ingress queue is flushed as well. -/
def State.releaseChannel (s : State) (g : Nat) : State := (s.releaseHeld g).flushQueue (g / 256) (40 + g % 256)

/-- R219: a refused request: an open leaves REFUSED with nothing held, a modify the channel as it was. -/
def State.postRefused (s : State) (g : Nat) (r : ChRequest) (code : Nat) : State :=
  let b := chB g
  let a := if r.isOpen then (s.releaseHeld g).setPath g pathRefused
    else (s.modChan g (fun c => { c with req := none, units := r.oldUnits, graver := r.oldGraver })).wr b Reg.chPathState r.prior
  let d := ((a.wr b Reg.chPathResult code).wr b Reg.chPathLastGen r.gen).bumpSat b Reg.chRefusalsCount
  (((d.chEvent g evDone).chEvent g evRefused).noteSettled g).noteBeyond (g / 256)

/-- R225, R226: `peer_lost` after an admission: 1 when the peer named is IDLE or REFUSED; cleared on both when they are
joined. -/
def State.meetPeer (s : State) (g : Nat) : State :=
  let b := chB g
  let h := s.peerOf g
  if (s.chan g).cfg.bridge ≠ 2 then s.wr b Reg.chPathPeerLost 0
  else if s.joined g h then (s.wr b Reg.chPathPeerLost 0).wr (chB h) Reg.chPathPeerLost 0
  else s.wr b Reg.chPathPeerLost (if s.chOpen h then 0 else 1)

/-- R218, R220, R224: the result of an admitted open or modify is posted: the snapshot is applied. -/
def State.postAdmitted (s : State) (g : Nat) (r : ChRequest) : State :=
  let p := g / 256
  let b := chB g
  let old := (s.chan g).cfg
  let h := if r.isOpen then s.writeHeader g else s
  let a := h.modChan g (fun c => { c with
    cfg := r.cfg, req := none, res := if r.keep then c.res else s.resOf r.cfg.resRow
    fixedBuffer := if r.isOpen then s.isSet (ptB p) Title.compatPrev else c.fixedBuffer })
  let d := if r.isOpen then
      (((a.clearRegs (b + 0x1E0) (b + 0x200) (fun _ => false)).echoOpen g r.echo).mediaOpen g r.media).jbOpen g r.jb
    else
      let m := a.mediaModify g r.media old r.cfg
      (m.2.echoModify g r.echo old r.cfg).jbModify g r.jb m.1
  let muted := if d.chWant g = wantClosed then r.muted else d.chWant g == wantMuted
  let e := (d.setPath g (if muted then pathMuted else pathActive)).meetPeer g
  let f := (e.wr b Reg.chPathResult 0).wr b Reg.chPathLastGen r.gen
  ((f.chEvent g evDone).noteSettled g).noteBeyond p

/-! ### Serving at the tick (R216) -/

/-- R216-R218: an open or modify is served: refused, taken and posted after the frame, or taken and put to the arbiter. -/
def State.serveRequest (s : State) (g : Nat) (r0 : ChRequest) : State :=
  let p := g / 256
  let r := s.snapshot g r0
  let code := s.admitCheck g r
  if code ≠ 0 then s.postRefused g r code
  else if r.keep then s.modChan g (fun c => { c with req := some { r with noPower := true } })
  else
    let bare := s.modChan g (fun c => { c with units := 0 })
    let v := if r.isOpen then bare.pickGraver p else r.oldGraver
    let power := !(!r.isOpen && decide (r.cfg.cost < r.oldUnits)) && decide ((s.chan g).res < s.resOf r.cfg.resRow)
    let t := s.modChan g (fun c => { c with
      units := r.cfg.cost, graver := v, req := some { r with asked := power, noPower := !power } })
    if power then t.ask (.call g) else t

/-- R221, R308, R333: the channel goes to CLOSING; its final outputs are emitted. -/
def State.toClosing (s : State) (g reason : Nat) : State :=
  let a := s.dropRequest g
  let b := (a.mediaClosing g).jbClose g
  (b.modChan g (fun c => { c with closeReason := reason })).setPath g pathClosing

/-- R221, R228, R360: the channel reaches IDLE. -/
def State.toIdle (s : State) (g : Nat) : State :=
  let reason := (s.chan g).closeReason
  let a := ((s.releaseChannel g).setPath g pathIdle).wr (chB g) Reg.chPathReason reason
  (a.chEvent g evDone).noteSettled g

/-- The channels of plate `p` that the state lists, ascending. -/
def State.plateChans (s : State) (p : Nat) : List Nat := (s.chans.filter (fun e => e.1 / 256 == p)).map Prod.fst

/-- R216, R221, R222: one channel's pending requests; `n` opens and modifies have been served in this tick. -/
def State.serveChannel (s : State) (g n : Nat) : Nat × State :=
  let c := s.chan g
  if s.chHeld g then (n, s)
  else if c.closeReq then
    if s.path g = pathActive ∨ s.path g = pathMuted ∨ s.path g = pathFault then (n, s.toClosing g reasonHost)
    else (n, s)
  else if c.muteReq then
    (n, (s.modChan g (fun x => { x with muteReq := false })).settle g (wantPath (s.chWant g)))
  else match c.req with
    | some r => if r.served || decide (32 ≤ n) then (n, s) else (n + 1, s.serveRequest g r)
    | none => (n, s)

/-- R216: every pending request of the plate, in ascending local channel number. -/
def State.serveTick (s : State) (p : Nat) : State :=
  (forEach (s.plateChans p) (fun g (a : Nat × State) => a.2.serveChannel g a.1) (0, s)).2

/-- R221: channels that have been CLOSING for a frame are IDLE. -/
def State.idleTick (s : State) (p : Nat) : State :=
  forEach ((s.plateChans p).filter (fun g => s.path g == pathClosing)) (fun g t => t.toIdle g) s

/-- R196: the plate is STOPPING toward OFF: every channel goes to CLOSING; a request that waits for the arbiter is refused
`plate_off`. -/
def State.stopChannel (s : State) (g : Nat) : State :=
  let a := match (s.chan g).req with
    | some r => if r.asked then (s.withdraw (.call g)).postRefused g r refPlateOff else s
    | none => s
  if a.path g = pathActive ∨ a.path g = pathMuted ∨ a.path g = pathFault then
    a.toClosing g reasonPlateOff
  else a

/-- R218, R220, R224: what was admitted without the arbiter is posted after the frame. -/
def State.postTick (s : State) (p : Nat) : State :=
  forEach (s.plateChans p) (fun g t => match (t.chan g).req with
    | some r => if r.noPower then t.postAdmitted g r else t
    | none => t) s

/-- WAKE_TIMEOUT (R223): an open or modify on a QUIET plate that has not reached RUNNING within 100 ms. -/
def execWakeTimeout (g : Fin 2048) (s : State) : Host.Outcome State Fault Refusal :=
  .next (match (s.chan g).req with
    | some r =>
      let p := g.val / 256
      if !r.served && (s.plateQuiet p || (s.plate p).fromQuiet) && decide (r.at_ + 100 * msNs ≤ s.now) then
        s.postRefused g (s.snapshot g r) refWakeTimeout
      else s
    | none => s)

/-- R185, R228, R235: the channel's state in the plate store is lost: the path enters FAULT; the canceller's phase stands (R256). A
request that waits becomes an open from FAULT (R214); a mute or unmute that waits is forgotten (log entry 44). -/
def State.chFault (s : State) (g : Nat) : State :=
  if s.path g = pathFault then s
  else
    let a := match (s.chan g).req with
      | some r => if r.asked then
          (s.withdraw (.call g)).modChan g (fun c => { c with units := r.oldUnits, graver := r.oldGraver, req := none })
        else s.modChan g (fun c => { c with req := none })
      | none => s
    let m := a.modChan g (fun c => { c with muteReq := false })
    let b := ((((m.jbLost g).setPath g pathFault).wr (chB g) Reg.chPathReason reasonStoreError).chEvent g evFault).noteSettled g
    match (s.chan g).req with
    | some r => if r.served then b else b.classifyReq g
    | none => b

/-! ### Trace check (R229-R233) -/

/-- R229: does path state `v` agree with the intent? -/
def State.chAgrees (s : State) (g v : Nat) : Bool :=
  let w := s.chWant g
  (v == pathFault && s.isSet (chB g) Reg.chTraceFaultOk)
    || (if w = wantClosed then v == pathIdle || v == pathRefused
        else v == wantPath w || (v == pathRefused && s.chLastGen g == s.chGen g))

/-- R229: states that agree for at most 1 s. -/
def chMoving (w v : Nat) : Bool :=
  if w = wantClosed then v == pathClosing else v == pathAdmitting || v == pathModifying

/-- R71, R229: a mismatching sample. -/
def State.chMiss (s : State) (g v : Nat) : State :=
  let b := chB g
  let n := s.rd b Reg.chTraceCount + 1
  if n < 3 then s.wr b Reg.chTraceCount n
  else
    let t := ((s.wr b Reg.chTraceCount 3).wr b Reg.chTraceMismatch 1).wr b Reg.chTraceHeld 1
    let u := ((t.wr b Reg.chTraceSeenState v).wr b Reg.chTraceSeenWant (s.chWant g)).wr b Reg.chPathHeldFrom v
    (u.chEvent g evHeld).noteSettled g

/-- R229: one sample of a channel. -/
def State.chSample (s : State) (g : Nat) : State :=
  let b := chB g
  let v := s.pathView g
  let clear := s.modChan g (fun c => { c with agreeSince := none })
  if s.chHeld g then s
  else if v = pathFrozen then clear.wr b Reg.chTraceCount 0
  else if chMoving (s.chWant g) v then
    match (s.chan g).agreeSince with
    | none => (s.modChan g (fun c => { c with agreeSince := some s.now })).wr b Reg.chTraceCount 0
    | some a => if s.now - a ≤ secNs then s.wr b Reg.chTraceCount 0 else s.chMiss g v
  else if s.chAgrees g v then clear.wr b Reg.chTraceCount 0
  else clear.chMiss g v

/-- CHANNEL_TRACE_SAMPLE (R229): the plate's `STATE.op` reads RUNNING or HELD; mirrors of a STANDBY plate are not sampled (R713). -/
def execChannelTraceSample (g : Fin 2048) (s : State) : Host.Outcome State Fault Refusal :=
  let p := g.val / 256
  let op := s.opOf .plate p (plB p)
  .next (if (op == opRunning || op == opHeld) && s.role p != roleStandby then s.chSample g else s)

/-- R232: the `want` that a captured path state stands for. -/
def adoptedWant (seen old : Nat) : Nat :=
  if seen = pathIdle ∨ seen = pathRefused ∨ seen = pathClosing then wantClosed
  else if seen = pathActive ∨ seen = pathAdmitting ∨ seen = pathModifying then wantActive
  else if seen = pathMuted then wantMuted
  else old

/-- R232: while held, `accept_path` takes the captured state as intent and ends the hold. -/
def State.chAccept (s : State) (g : Nat) : State :=
  if !s.chHeld g then s
  else
    let b := chB g
    let seen := s.rd b Reg.chTraceSeenState
    let t := s.wr b Reg.chIntentWant (adoptedWant seen (s.chWant g))
    (if seen = pathFault then t.wr b Reg.chTraceFaultOk 1 else t).endChHold g

/-- CHANNEL_ACCEPT_PATH (R232): a write of 1 to CH_TRACE.accept_path. -/
def execChannelAcceptPath (fn : Fin 65) (g : Fin 2048) (s : State) : Host.Outcome State Fault Refusal :=
  .next (s.mmioWrite fn (chB g + 0x18) (fun t => t.chAccept g))

end Sys2Proof.Machine
end

