-- ==== Sys2Proof/Machine/Crc.lean ====
section
/-! DEFINITION. The two cyclic redundancy checks the spec names: CRC-32 of IEEE 802.3 and CRC-16/CCITT-FALSE. -/

namespace Sys2Proof.Machine

/-- One byte into a reflected CRC-32 register. -/
def crc32Byte (c : Nat) (b : Byte) : Nat :=
  forUpTo 8 (fun _ x => if x % 2 = 1 then x / 2 ^^^ 0xEDB88320 else x / 2) (c ^^^ b.toNat)

/-- CRC-32 of IEEE 802.3. -/
def crc32 (l : List Byte) : Nat := l.foldl crc32Byte 0xFFFFFFFF ^^^ 0xFFFFFFFF

/-- One byte into a CRC-16/CCITT-FALSE register. -/
def crc16Byte (c : Nat) (b : Byte) : Nat :=
  forUpTo 8 (fun _ x => (if 0x8000 ≤ x then 2 * x ^^^ 0x11021 else 2 * x)) (c ^^^ (b.toNat * 256))

/-- CRC-16/CCITT-FALSE. -/
def crc16 (l : List Byte) : Nat := l.foldl crc16Byte 0xFFFF

/-- The bytes of 32-bit words, each little-endian. -/
def wordBytes (l : List Nat) : List Byte := l.flatMap (leBytes 4)

end Sys2Proof.Machine
end

