-- ==== Sys2Proof/Machine/Hatch.lean ====
section
/-! DEFINITION. The hatch scheduler and the shapers (12_hatches_shapers.md R412-R440): tables, the grid, gates, fit, swaps,
realignment and free running. Instants are nanoseconds of plate timekeeper time. -/

namespace Sys2Proof.Machine

def State.hatch (s : State) (p : Nat) : Hatch := Sparse.get {} s.hatches p
def State.setHatch (s : State) (p : Nat) (h : Hatch) : State := { s with hatches := Sparse.put {} s.hatches p h }

/-- Bits of the sheet's EVENT (R438). -/
def evSwapped : Nat := 0
def evRealigned : Nat := 1
def evNoWindow : Nat := 3

def State.hsOp (s : State) (p : Nat) : Nat := s.rd (hsB p) Title.stateOp
def State.activeBank (s : State) (p : Nat) : Nat := s.rd (hsB p) Reg.hsStatusActiveBank

/-! ### Tables (R413, R414, R417) -/

/-- Word of entry `i` of bank `b`. -/
def State.hatchWord (s : State) (p b i : Nat) : Nat := Sparse.get 0xFFFFFFFF s.hatchMem (8192 * p + 4096 * b + i)

/-- R417: may bank `b` be written? DEDUCED: while the scheduler is OFF no bank drives the gates, so the active one may be written
(the worked example of 12_hatches_shapers.md fills bank 0 before the start). -/
def State.bankFree (s : State) (p b : Nat) : Bool :=
  (s.hsOp p == opOff || b != s.activeBank p) && (s.hatch p).pending != some b

/-- R413: a write of a table word: a duration of 0 stores 1. -/
def State.hatchWrite (s : State) (p i data : Nat) : State :=
  if s.bankFree p (i / 4096) then
    let w := (if data / 256 % 2 ^ 24 = 0 then 256 else 0) + data % 2 ^ 32
    { s with hatchMem := Sparse.put 0xFFFFFFFF s.hatchMem (8192 * p + i) w }
  else s

/-- Cycle of bank `b`, 8 ns units. -/
def State.cycle8 (s : State) (p b : Nat) : Nat := s.rd (hsB p) Reg.hbCycleCycle8ns b

/-- R414: the stretches of the cycle from entry `i` on, with `n` entries left, beginning at `at_`: mask, start, end in 8 ns
units; the last one lasts until the cycle ends. -/
def State.stretches (s : State) (p b cyc : Nat) : Nat → Nat → Nat → List (Nat × Nat × Nat)
  | 0, _, _ => []
  | n + 1, i, at_ =>
    let w := s.hatchWord p b i
    let e := at_ + w / 256
    if cyc ≤ at_ then []
    else if n = 0 ∨ cyc ≤ e then [(w % 256, at_, cyc)]
    else (w % 256, at_, e) :: s.stretches p b cyc n (i + 1) e

def State.table (s : State) (p b : Nat) : List (Nat × Nat × Nat) :=
  s.stretches p b (s.cycle8 p b) (s.rd (hsB p) Reg.hbLenLen b) 0 0

/-- Longest run and the current run of open stretches of gate `n`. -/
def longestRun (n : Nat) (l : List (Nat × Nat × Nat)) : Nat × Nat :=
  l.foldl (fun (a : Nat × Nat) x =>
    if bitAt x.1 n then (max a.1 (a.2 + (x.2.2 - x.2.1)), a.2 + (x.2.2 - x.2.1)) else (a.1, 0)) (0, 0)

/-- R424: `HS_SPAN[n]` of a table, with the wraparound from its end to its start. -/
def spanOf (n : Nat) (l : List (Nat × Nat × Nat)) : Nat :=
  if l.all (fun x => bitAt x.1 n) then 0x7FFFFFF else (longestRun n (l ++ l)).1

/-- R424: the spans of the table that becomes active. -/
def State.noteSpans (s : State) (p : Nat) : State :=
  let l := s.table p (s.activeBank p)
  (forUpTo 8 (fun n (t : State) => t.wr (hsB p) Reg.hsSpanSpan8ns (spanOf n l) n) s).setHatch p
    { s.hatch p with spanValid := true }

/-! ### The grid (R415) -/

/-- R415: the base's upper seconds are those of timekeeper time now. -/
def State.noteBase (s : State) (p : Nat) : State :=
  s.setHatch p { s.hatch p with baseHi := s.tkNs p / secNs / 2 ^ 32 }

/-- Base of bank `b`'s grid. -/
def State.gridBase (s : State) (p b : Nat) : Nat :=
  ((s.hatch p).baseHi * 2 ^ 32 + s.rd (hsB p) Reg.hbBaseSecSec b) * secNs + s.rd (hsB p) Reg.hbBaseNsNs b

/-- First grid instant of bank `b` at or after `t`. -/
def State.gridAt (s : State) (p b t : Nat) : Nat :=
  let base := s.gridBase p b
  let c := 8 * s.cycle8 p b
  if t ≤ base then base else base + (t - base + c - 1) / c * c

/-- No cycle runs or is placed; a pending swap stays pending (R432), and the plate's own clock stays what it is (R436). -/
def State.hatchRest (s : State) (p : Nat) : State :=
  let h := s.hatch p
  s.setHatch p { pending := h.pending, pendingFrom := h.pendingFrom, freeRun := h.freeRun, baseHi := h.baseHi }

/-- R418: the active bank's grid is placed: the first cycle begins at least 2 µs from now. -/
def State.placeGrid (s : State) (p : Nat) : State :=
  let t := (s.hatchRest p).setOp (hsB p) opStarting
  t.setHatch p { t.hatch p with
    cycleFrom := some (s.gridAt p (s.activeBank p) (s.tkNs p + 2000)), startFrom := s.now + 2000 }

/-! ### Gates (R414, R419, R422, R431) -/

/-- Instant at which the running cycle ends. -/
def State.cycleEnd (s : State) (p : Nat) : Nat := ((s.hatch p).cycleFrom.getD 0) + 8 * s.cycle8 p (s.activeBank p)

/-- R431, R437: the cycle end at which the pending swap is to act: the first one of the running table, or of the table about to
begin, at least 2 µs after the write; none while the sheet is held or the table stops. -/
def State.swapEnd (s : State) (p : Nat) : Option Nat :=
  let h := s.hatch p
  let cyc := 8 * s.cycle8 p (s.activeBank p)
  let due := h.pendingFrom + s.tkNs p - s.now
  if h.pending.isNone || s.heldAt (hsB p) || !(s.hsOp p == opRunning || s.hsOp p == opStarting) then none
  else h.cycleFrom.map (fun c => c + max 1 ((due - c + cyc - 1) / cyc) * cyc)

/-- R431, R437: does the pending swap act at the end of the running cycle? -/
def State.swapActs (s : State) (p : Nat) : Bool :=
  (s.hatch p).pending.isSome && !s.heldAt (hsB p) && decide ((s.hatch p).pendingFrom + s.tkNs p ≤ s.cycleEnd p + s.now)

/-- Does a table run: is a cycle under way? -/
def State.cycleRuns (s : State) (p : Nat) : Bool :=
  (s.hsOp p == opRunning || s.hsOp p == opStopping) && !(s.hatch p).gap && (s.hatch p).cycleFrom.isSome

/-- First instant of a table's cycle, 8 ns units from `off` on, at which gate `n` is closed. -/
def firstClosed (n off : Nat) (l : List (Nat × Nat × Nat)) : Option Nat :=
  (l.find? (fun x => decide (off < x.2.2) && !bitAt x.1 n)).map (fun x => max off x.2.1)

/-- The instant at which the running table closes gate `n`, open at `t`; none where it never does. A realignment ends what is open
(R422). -/
def State.tableCloses (s : State) (p n t : Nat) : Option Nat :=
  let h := s.hatch p
  let tbl := s.table p (s.activeBank p)
  let next := fun from_ => (firstClosed n 0 tbl).map (fun o => from_ + 8 * o)
  if s.hsOp p = opStarting then h.cycleFrom.bind next
  else if s.cycleRuns p then
    let from_ := h.cycleFrom.getD 0
    match firstClosed n ((t - from_) / 8) tbl with
    | some o => some (from_ + 8 * o)
    | none =>
      if s.hsOp p = opStopping then none
      else if h.realign then some (s.cycleEnd p) else next (s.cycleEnd p)
  else if s.hsOp p = opRunning then h.cycleFrom.bind next
  else none

/-- R422: the instant at which gate `n`, open at `t`, closes; none where it never does. What is open does not continue into another
bank's table. -/
def State.closesAt (s : State) (p n t : Nat) : Option Nat :=
  match s.swapEnd p, s.tableCloses p n t with
  | some e, some c => some (min e c)
  | some e, none => some e
  | none, c => c

/-- Gates open at instant `t` (R414, R419, R431). -/
def State.gates (s : State) (p t : Nat) : Nat :=
  let h := s.hatch p
  if s.cycleRuns p then
    let o := (t - h.cycleFrom.getD 0) / 8
    match (s.table p (s.activeBank p)).find? (fun x => decide (x.2.1 ≤ o ∧ o < x.2.2)) with
    | some x => x.1
    | none => 0
  else if s.hsOp p = opRunning then s.rd (hsB p) Reg.hsCtrlGapMask
  else 0xFF

/-- R422: does a frame that takes `ps` picoseconds fit gate `n` at `t`? -/
def State.fits (s : State) (p n t ps : Nat) : Bool :=
  match s.closesAt p n t with
  | none => true
  | some c => decide (t * 1000 + ps < c * 1000)

/-! ### Wire time and the head entries (R369, R380-R382, R422, R424) -/

/-- Picoseconds of a bit at the port's data rate (R367). -/
def Port.bitPs (v : Port) : Nat :=
  match v.rate with
  | 1 => 100
  | 2 => 400
  | 3 => 1000
  | _ => if !v.anEn then 1000 else match v.speed with | 0 => 100000 | 1 => 10000 | _ => 1000

/-- R422: W of a frame of length `len`, ps. -/
def State.wirePs (s : State) (p len : Nat) : Nat := (len + 20) * 8 * (s.port p).bitPs

/-- Is a tag inserted into entries of slot `k` (R381)? -/
def State.tags (s : State) (p k : Nat) : Bool := s.isSet (macB p) Reg.macTenTagTagged k

/-- R380-R382: length of an entry's frame. -/
def State.frameLen (s : State) (p : Nat) (e : Entry) : Nat :=
  max 60 e.bytes.length + (if s.tags p e.slot then 4 else 0) + 4

/-- A head entry is freed and counted. -/
def State.dropHead (s : State) (p q k : Nat) : State :=
  match s.queue p q with
  | e :: rest => (s.setQueue p q rest).count48 p (some e.slot) k
  | [] => s

/-- Is `e`, at the head of TQ `n`, longer than the longest span of its gate (R424)? -/
def State.noWindow (s : State) (p n : Nat) (e : Entry) : Bool :=
  let span := s.rd (hsB p) Reg.hsSpanSpan8ns n
  s.hsOp p == opRunning && !(s.hatch p).gap && (s.hatch p).spanValid && span != 0
    && decide (span * 8000 < s.wirePs p (s.frameLen p e))

/-- R378, R381, R382, R424: heads of TQ `n` that are not to be sent are freed; at most `k` of them. -/
def State.clearHeads (s : State) (p n : Nat) : Nat → State
  | 0 => s
  | k + 1 =>
    match s.queue p n with
    | [] => s
    | e :: rest =>
      if s.expired p e then (s.dropHead p n cTxExpired).clearHeads p n k
      else if s.tags p e.slot ∧ bytesAt e.bytes 12 2 = [0x81, 0x00] then (s.dropHead p n cTxBadTag).clearHeads p n k
      else if 2048 < s.frameLen p e then (s.dropHead p n cTxOversize).clearHeads p n k
      else if s.noWindow p n e then
        (((s.setQueue p n rest).bumpSat (hsB p) Reg.hsNowinCount n).raise (hsB p) evNoWindow).clearHeads p n k
      else s

/-- The entry being sent stays at its head. -/
def State.sending (s : State) (p n : Nat) : Bool :=
  match (s.port p).tx with
  | some f => f.queue == n
  | none => false

/-- Heads of every TQ of plate `p`. -/
def State.clearAllHeads (s : State) (p : Nat) : State :=
  forUpTo 8 (fun n t => if t.sending p n then t else t.clearHeads p n (t.queue p n).length) s

/-! ### Cycle boundaries (R418, R431, R433, R435, R436) -/

/-- A cycle of the active table begins at `t` (R433: a hatch-cycle boundary). -/
def State.beginCycle (s : State) (p t : Nat) : State :=
  let a := (s.setHatch p { s.hatch p with cycleFrom := some t, gap := false }).wr (hsB p) Reg.hsCyclesCycles
    (s.rd (hsB p) Reg.hsCyclesCycles + 1)
  a.setPort p { a.port p with waitBoundary := false }

/-- R431: the swapped-in table begins at `t`. -/
def State.swapBegins (s : State) (p t : Nat) : State :=
  let a := ((s.wr (hsB p) Reg.hsLastNsNs (t % secNs)).wr (hsB p) Reg.hsLastSecSec (t / secNs)).bumpSat (hsB p) Reg.hsCountsSwaps
  let b := (a.raise (hsB p) evSwapped).noteSpans p
  (b.setHatch p { b.hatch p with gapSwap := false }).beginCycle p t

/-- The cycle that ends at `e` is followed by a cycle of bank `b`'s grid, after a gap where that comes later. -/
def State.followGrid (s : State) (p b e : Nat) (swap : Bool) : State :=
  let t := if (s.hatch p).freeRun then e else s.gridAt p b e
  if t ≤ s.tkNs p ∨ t = e then (if swap then s.swapBegins p t else s.beginCycle p t)
  else s.setHatch p { s.hatch p with cycleFrom := some t, gap := true, gapSwap := swap }

/-- R435: a realignment takes effect: it is counted and announced. -/
def State.noteRealign (s : State) (p : Nat) : State :=
  ((s.setHatch p { s.hatch p with realign := false }).bumpSat (hsB p) Reg.hsCountsRealign).raise (hsB p) evRealigned

/-- HATCH_CYCLE_BOUNDARY's effect at the instant the scheduler waits for. -/
def State.boundary (s : State) (p : Nat) : State :=
  let h := s.hatch p
  let now := s.tkNs p
  match h.cycleFrom with
  | none => s
  | some c =>
    if s.hsOp p = opStarting then
      if c ≤ now then ((s.setOp (hsB p) opRunning).noteSpans p).beginCycle p c else s
    else if s.hsOp p ≠ opRunning ∧ s.hsOp p ≠ opStopping then s
    else if h.gap then
      if now < c then s else if h.gapSwap then s.swapBegins p c else s.beginCycle p c
    else if now < s.cycleEnd p then s
    else
      let e := s.cycleEnd p
      if s.hsOp p = opStopping then
        if s.rd (hsB p) Title.hostOp = opRunning then s.placeGrid p else (s.hatchRest p).setOp (hsB p) opOff
      else if s.swapActs p then
        let b := h.pending.getD 0
        let r := if h.realign then s.noteRealign p else s
        let a := (r.setHatch p { r.hatch p with pending := none }).wr (hsB p) Reg.hsStatusActiveBank b
        ((a.wr (hsB p) Reg.hsStatusPending 0).noteBase p).followGrid p b e true
      else if h.realign then (s.noteRealign p).followGrid p (s.activeBank p) e false
      else s.beginCycle p e

/-- HATCH_CYCLE_BOUNDARY (R414, R415, R431, R435). -/
def execHatchCycleBoundary (p : Fin 8) (s : State) : Host.Outcome State Fault Refusal :=
  .next ((s.boundary p).clearAllHeads p)

/-- R418: HOST_STATE of the hatch scheduler. On a plate that sleeps, a RUNNING waits for the wake (R42). -/
def State.hsIntent (s : State) (fn p data : Nat) : State :=
  let b := hsB p
  if !s.mayWriteL b (masterOfFn fn) then s
  else
    let t := s.storeIntent b (intentOp data) 0
    if intentOp data = opRunning then
      if s.hsOp p = opOff ∧ !s.plateAsleep p then t.placeGrid p
      else t
    else if intentOp data = opOff then
      if s.hsOp p = opStarting then (t.hatchRest p).setOp b opOff
      else if s.hsOp p = opRunning then
        if (s.hatch p).gap then (t.hatchRest p).setOp b opOff
        else t.setOp b opStopping
      else t
    else t

/-- HATCH_HOST_STATE_WRITE (R418). -/
def execHatchHostStateWrite (fn : Fin 65) (p : Fin 8) (data : Word) (s : State) : Host.Outcome State Fault Refusal :=
  .next (s.mmioWrite fn (hsB p + 0x20) (fun t => t.hsIntent fn p data.toNat))

/-- R431, R432: a swap is asked for or cancelled. -/
def State.swapGo (s : State) (p bank : Nat) : State :=
  if bank = s.activeBank p ∨ (s.hatch p).pending.isSome then s
  else if s.hsOp p = opOff then ((s.wr (hsB p) Reg.hsStatusActiveBank bank).noteBase p).noteSpans p
  else (s.setHatch p { s.hatch p with pending := some bank, pendingFrom := s.now + 2000 }).wr (hsB p) Reg.hsStatusPending 1
def State.swapCancel (s : State) (p : Nat) : State :=
  let acts := match s.swapEnd p with
    | some e => decide (e < s.tkNs p + 2000)
    | none => false
  if (s.hatch p).pending.isNone || acts then s
  else (s.setHatch p { s.hatch p with pending := none }).wr (hsB p) Reg.hsStatusPending 0

/-- A write of HS_SWAP by the lock holder; `go` and `cancel` in one word act in that order. -/
def State.swapEffect (s : State) (fn p data : Nat) : State :=
  if !s.mayWriteL (hsB p) (masterOfFn fn) then s
  else
    let t := if bitAt data 1 then s.swapGo p (data % 2) else s
    if bitAt data 2 then t.swapCancel p else t

/-- HATCH_SWAP_GO (R431, R432). -/
def execHatchSwapGo (fn : Fin 65) (p : Fin 8) (bank : Fin 2) (s : State) : Host.Outcome State Fault Refusal :=
  .next (s.mmioWrite fn (hsB p + 0x70) (fun t => t.swapEffect fn p (2 + bank)))

/-- HATCH_SWAP_CANCEL (R432). -/
def execHatchSwapCancel (fn : Fin 65) (p : Fin 8) (s : State) : Host.Outcome State Fault Refusal :=
  .next (s.mmioWrite fn (hsB p + 0x70) (fun t => t.swapEffect fn p 4))

/-- R435: timekeeper time has just moved by `d` ns: the running cycle keeps its own length in elapsed time, a gap or a start
waits for the grid on the new time. -/
def State.hatchMoved (s : State) (p : Nat) (d : Int) : State :=
  let h := s.hatch p
  if s.hsOp p = opStarting ∨ (s.hsOp p = opRunning ∧ h.gap) then
    s.setHatch p { h with cycleFrom := some (s.gridAt p (s.activeBank p) (s.tkNs p + (h.startFrom - s.now))) }
  else if s.cycleRuns p then
    s.setHatch p { h with cycleFrom := some (((h.cycleFrom.getD 0 : Nat) : Int) + d).toNat, realign := true }
  else s

/-- R436: the plate returns from its own clock to the broadcast with a time step of `d`. -/
def State.hatchRejoin (s : State) (p : Nat) (d : Int) : State :=
  (s.setHatch p { s.hatch p with freeRun := false }).hatchMoved p d

/-- R418: the plate enters QUIET, and wakes; an OFF written meanwhile takes effect now (R42). -/
def State.quietHatch (s : State) (p : Nat) : State :=
  if s.hsOp p = opStarting ∨ s.hsOp p = opRunning then (s.hatchRest p).setOp (hsB p) opQuiet
  else if s.hsOp p = opStopping then (s.hatchRest p).setOp (hsB p) opOff else s
def State.wakeHatch (s : State) (p : Nat) : State :=
  if s.hsOp p = opOff ∧ s.rd (hsB p) Title.hostOp = opRunning then s.placeGrid p
  else if s.hsOp p ≠ opQuiet then s
  else if s.rd (hsB p) Title.hostOp = opOff then s.setOp (hsB p) opOff else s.placeGrid p

/-! ### Shapers (R425-R430) -/

def State.shLevel (s : State) (p n : Nat) : Int := Sparse.get 0 s.shapers (8 * p + n)
def State.setShLevel (s : State) (p n : Nat) (v : Int) : State := { s with shapers := Sparse.put 0 s.shapers (8 * p + n) v }
def State.shEnabled (s : State) (p n : Nat) : Bool := s.isSet (shB p) Reg.shCfgEnable n
/-- R426: the rate in effect: what SH_CFG held at the last refill tick. -/
def State.shRate (s : State) (p n : Nat) : Nat := Sparse.get 0 s.shRates (8 * p + n)

/-- R425, R427: may TQn start a frame? -/
def State.shaperAllows (s : State) (p n : Nat) : Bool :=
  !s.shEnabled p n || (s.shRate p n != 0 && decide (0 ≤ s.shLevel p n))

/-- R425: a frame of `len` bytes is charged at its start. -/
def State.shaperCharge (s : State) (p n len : Nat) : State :=
  if s.shEnabled p n && s.shRate p n != 0 then s.setShLevel p n (s.shLevel p n - 256 * len) else s

/-- R425-R427, R429: shaper `n` at a refill tick: the stored rate takes effect and fills the level. -/
def State.refill (s : State) (p n : Nat) : State :=
  let t := { s with shRates := Sparse.put 0 s.shRates (8 * p + n) (s.rd (shB p) Reg.shCfgRate n) }
  if t.shEnabled p n && t.shRate p n != 0 then
    t.setShLevel p n (min (256 * t.rd (shB p) Reg.shBurstBurst n : Nat) (t.shLevel p n + t.shRate p n))
  else t

/-- R428: the levels named are 0. -/
def State.shaperReset (s : State) (fn p data : Nat) : State :=
  if !s.mayWriteL (shB p) (masterOfFn fn) then s
  else forUpTo 8 (fun n (t : State) => if bitAt data n then t.setShLevel p n 0 else t) s

/-- SHAPER_RESET (R428). -/
def execShaperReset (fn : Fin 65) (p : Fin 8) (data : Word) (s : State) : Host.Outcome State Fault Refusal :=
  .next (s.mmioWrite fn (shB p + 0xA0) (fun t => t.shaperReset fn p data.toNat))

end Sys2Proof.Machine
end

