-- ==== Sys2Proof/Machine/Mac.lean ====
section
/-! DEFINITION. The frame MAC (11_frame_mac.md R367-R411): port states, link loss and flap grace, PAUSE, receive checks and
classification, transmission and timestamps. -/

namespace Sys2Proof.Machine

/-- Bits of the sheet's EVENT (R407). -/
def evLinkDown : Nat := 0
def evLinkUp : Nat := 1
def evGraceExpired : Nat := 2
def evTxUnderrun : Nat := 3
def evPauseGuard : Nat := 4
def evMacFault : Nat := 5
def evTxtsReady : Nat := 6
def evTxtsLost : Nat := 7

def State.macOp (s : State) (p : Nat) : Nat := s.rd (macB p) Title.stateOp
def State.modPort (s : State) (p : Nat) (f : Port → Port) : State := s.setPort p (f (s.port p))

/-! ### Port states (R370, R371) -/

/-- Mn_TXDIS and electrical idle of port Mp's transmitter. -/
def State.setTxIdle (s : State) (p : Nat) (idle : Bool) : State :=
  let t := s.modPort p (fun v => { v with txDis := idle })
  { t with pins := { t.pins with macTxIdle := setBit t.pins.macTxIdle p (idle || t.serdesIdle) } }

/-- R469: the port is no longer a source of frequency for the timebase. -/
def State.syncELost (s : State) (p : Nat) : State := if s.rd tbB Reg.tbPriSyncePort = p then s.dropFreq 2 else s

/-- Every entry of TQ `q` but one on the wire is freed and counted in `tx_flushed`. -/
def State.flushTq (s : State) (p q : Nat) : State :=
  let keep := if s.sending p q then 1 else 0
  forEach ((s.queue p q).drop keep) (fun e (t : State) => t.count48 p (some e.slot) cTxFlushed)
    (s.setQueue p q ((s.queue p q).take keep))
def State.flushTqs (s : State) (p : Nat) : State := forUpTo 8 (fun q t => t.flushTq p q) s

/-- R373: the link is declared down. -/
def State.linkDown (s : State) (p : Nat) : State :=
  if !(s.port p).up then s
  else
    let a := match (s.port p).tx with
      | some f => (s.modPort p (fun v => { v with tx := none })).dropHead p f.queue cTxFlushed
      | none => s
    let b := match (a.port p).rx with
      | some _ => (a.modPort p (fun v => { v with rx := none })).count48 p none cRxAlign
      | none => a
    let c := b.modPort p (fun v => { v with
      up := false, waitBoundary := false, graceFrom := some s.now, graceEnded := false, pauseTill := 0, pauseFrom := none })
    ((c.count48 p none cLinkDown).raise (macB p) evLinkDown).clearAllHeads p

/-- R400: the port's receive clock is recovered, or lost: a SyncE source on it is lost with it (R469). -/
def State.setRxClock (s : State) (p : Nat) (on : Bool) : State :=
  let t := s.wr crB Reg.crClkMonMacRx (setBit (s.rd crB Reg.crClkMonMacRx) p on)
  if on then t else t.syncELost p

/-- R661: the lane grant for the applied rate is asked for, unless it is held already. -/
def State.askLane (s : State) (p : Nat) : State :=
  let u := laneUnits (s.port p).rate
  if Sparse.get 0 s.laneGrants p = u then s
  else ({ s with laneGrants := Sparse.del s.laneGrants p }).ask (.lane p u)

/-- The port's lane grant, held or asked for, is given up (R654). -/
def State.dropLane (s : State) (p : Nat) : State :=
  { s with laneGrants := Sparse.del s.laneGrants p
           arb := s.arb.filter (fun q => match q with | .lane x _ => x != p | _ => true) }

/-- R371, R408: `MAC_CFG` is applied and the port starts. -/
def State.startPort (s : State) (p : Nat) : State :=
  let b := macB p
  let a := s.modPort p (fun v => { v with
    rate := s.rd b Reg.macCfgRate, anEn := s.isSet b Reg.macCfgAnEn, txRef := s.isSet b Reg.macCfgTxRef
    upHoldMs := s.rd b Reg.macCfgUpHoldMs, up := false, remoteFault := false
    speed := if s.rd b Reg.macCfgRate = 4 ∧ !s.isSet b Reg.macCfgAnEn then 2 else 0 })
  ((a.setTxIdle p false).setOp b opStarting).askLane p

/-- The port is OFF. -/
def State.portOff (s : State) (p : Nat) : State := ((s.setTxIdle p true).setOp (macB p) opOff).dropLane p

/-- A stopping port whose frame has left is OFF, or starts again if RUNNING was written meanwhile (R73, R371). -/
def State.portStopped (s : State) (p : Nat) : State :=
  if s.macOp p = opStopping ∧ (s.port p).tx.isNone then
    let t := s.portOff p
    if t.rd (macB p) Title.hostOp = opRunning then t.startPort p else t
  else s

/-- R371: a port stops: TQ entries are freed, the receiver stops. Flap grace that has ended stays so until the link is up (R376). -/
def State.stopPort (s : State) (p : Nat) : State :=
  let a := (s.flushTqs p).modPort p (fun v => { v with
    rx := none, up := false, graceFrom := none, waitBoundary := false, pauseTill := 0, pauseFrom := none })
  ((a.setRxClock p false).setOp (macB p) opStopping).portStopped p

/-- R668, R371: the port goes to QUIET: the link is down for R373. -/
def State.quietPort (s : State) (p : Nat) : State :=
  (((s.linkDown p).setRxClock p false).setTxIdle p true).setOp (macB p) opQuiet

/-- R371: HOST_STATE of the frame MAC. On a plate that sleeps, a RUNNING waits for the wake (R42). -/
def State.macIntent (s : State) (fn p data : Nat) : State :=
  let b := macB p
  if !s.mayWriteL b (masterOfFn fn) then s
  else
    let op := intentOp data
    let now := s.macOp p
    let starts := op = opRunning ∧ (now = opOff ∨ now = opFault ∨ now = opQuiet)
    let t := (s.storeIntent b op 0).modPort p (fun v => { v with wakeStart := decide starts && s.plateAsleep p })
    if op = opRunning then
      if starts ∧ !s.plateAsleep p then t.startPort p else t
    else if op = opOff then
      if now = opStarting ∨ now = opRunning ∨ now = opFault then t.stopPort p else t
    else if now = opStarting ∨ now = opRunning then t.quietPort p else t

/-- MAC_HOST_STATE_WRITE (R371, R668). -/
def execMacHostStateWrite (fn : Fin 65) (p : Fin 8) (data : Word) (s : State) : Host.Outcome State Fault Refusal :=
  .next (s.mmioWrite fn (macB p + 0x20) (fun t => t.macIntent fn p data.toNat))

/-- R666, R371: the plate enters QUIET, and wakes; an OFF written meanwhile takes effect now (R42). -/
def State.plateQuietPort (s : State) (p : Nat) : State :=
  if s.macOp p = opStarting ∨ s.macOp p = opRunning then s.quietPort p
  else if s.macOp p = opStopping then (s.modPort p (fun v => { v with tx := none })).portOff p else s
def State.wakePort (s : State) (p : Nat) : State :=
  let t := s.modPort p (fun v => { v with wakeStart := false })
  if s.macOp p = opQuiet then (if s.rd (macB p) Title.hostOp = opOff then t.stopPort p else t.startPort p)
  else if (s.port p).wakeStart then t.startPort p else t

/-- R370: a port whose `STATE.op` reads STARTING or RUNNING, so that it is not held, goes to FAULT. -/
def State.faultPort (s : State) (p : Nat) : State :=
  if (s.macOp p = opStarting ∨ s.macOp p = opRunning) ∧ !s.heldAt (macB p) then
    ((((s.linkDown p).setTxIdle p true).setOp (macB p) opFault).raise (macB p) evMacFault).syncELost p
  else s

/-- MODULE_ABSENT (R370): Mn_ABS changes; without a module no clock is recovered (R400). -/
def execModuleAbsent (p : Fin 8) (high : Bool) (s : State) : Host.Outcome State Fault Refusal :=
  .next (
    let t := s.modPort p (fun v => { v with abs := high })
    if high && s.plateOut p then (t.setRxClock p false).faultPort p else t)

/-- MODULE_TX_FAULT (R370, R406): Mn_TXFAULT is at a level, where it has been for `ns` nanoseconds. -/
def execModuleTxFault (p : Fin 8) (high : Bool) (ns : Nat) (s : State) : Host.Outcome State Fault Refusal :=
  .next (
    let t := s.modPort p (fun v => { v with txFault := high })
    if high && decide (100000 ≤ ns) && s.plateOut p then t.faultPort p else t)

/-! ### Link (R372-R377) -/

/-- R369: symmetric PAUSE as port Mp advertises it in Clause 37, while it autonegotiates at 1000BASE-X. -/
def State.advertisesPause (s : State) (p : Nat) : Bool :=
  let v := s.port p
  v.rate == 3 && v.anEn && (s.isSet (macB p) Reg.macPauseRxEn || s.isSet (macB p) Reg.macPauseTxEn)

/-- R196, R372: can the PCS of port Mp report anything: the port is STARTING or RUNNING, the MAC clocks of its plate are enabled (log
entry 105), it holds its lane grant (R661), and the SerDes is not held in electrical idle (R131)? -/
def State.pcsWorks (s : State) (p : Nat) : Bool :=
  (s.macOp p == opStarting || s.macOp p == opRunning) && s.graversReleased p && Sparse.get 0 s.laneGrants p != 0 && !s.serdesIdle

/-- R371, R375, R433: the link is declared up. -/
def State.linkUpNow (s : State) (p speed : Nat) : State :=
  let a := s.modPort p (fun v => { v with
    up := true, waitBoundary := s.hsOp p == opRunning, graceFrom := none, graceEnded := false, remoteFault := false,
    speed := if v.rate != 4 then 0 else if v.anEn then speed else 2 })
  (a.setOp (macB p) opRunning).raise (macB p) evLinkUp

/-- LINK_UP_DECLARE (R372, R375, R400, R433): the PCS reports link, and so recovers a clock; how long it has done so without a break,
and the speed of an SGMII PHY's control word. The link is declared up once that has lasted for the `up_hold_ms` applied at
STARTING. -/
def execLinkUpDeclare (p : Fin 8) (speed : Fin 3) (heldNs : Nat) (s : State) : Host.Outcome State Fault Refusal :=
  .next (
    if !s.pcsWorks p then s
    else
      let t := s.setRxClock p true
      if (!(s.port p).up ∨ s.macOp p = opStarting) ∧ (s.port p).upHoldMs * msNs ≤ heldNs then t.linkUpNow p speed.val else t)

/-- LINK_DOWN_DECLARE (R372, R373, R406): a condition of the link has failed for longer than 10 µs; `remote` says that it is a remote
fault that is received, which leaves the recovered clock as it is (R400, log entry 106). -/
def execLinkDownDeclare (p : Fin 8) (remote : Bool) (s : State) : Host.Outcome State Fault Refusal :=
  .next (
    if !s.pcsWorks p then s
    else
      let t := (s.linkDown p).modPort p (fun v => { v with remoteFault := remote && v.rate == 1 })
      if remote && (s.port p).rate == 1 then t else t.setRxClock p false)

/-- R376, R377: has flap grace ended? -/
def State.graceOver (s : State) (p : Nat) : Bool :=
  match (s.port p).graceFrom with
  | some f => !(s.port p).up && decide (f + s.rd (macB p) Reg.macFlapFlapGrace * msNs ≤ s.now)
  | none => false

/-- R376: every TQ entry is freed. -/
def State.graceEnd (s : State) (p : Nat) : State :=
  if s.graceOver p then
    ((s.flushTqs p).modPort p (fun v => { v with graceFrom := none, graceEnded := true })).raise (macB p) evGraceExpired
  else s

/-- FLAP_GRACE_EXPIRE (R376). -/
def execFlapGraceExpire (p : Fin 8) (s : State) : Host.Outcome State Fault Refusal := .next (s.graceEnd p)

/-! ### PAUSE (R385-R389) -/

/-- Nanoseconds of a number of pause quanta. -/
def State.quantaNs (s : State) (p n : Nat) : Nat := (n * 512 * (s.port p).bitPs + 999) / 1000

/-- R386, R387: a PAUSE frame. -/
def State.pauseIn (s : State) (p quanta : Nat) : State :=
  let t := s.count48 p none cRxPause
  let v := t.port p
  if !t.isSet (macB p) Reg.macPauseRxEn then t
  else if t.now < v.holdTill then t.count48 p none cPauseIgnored
  else if quanta = 0 then t.setPort p { v with pauseTill := 0, pauseFrom := none }
  else t.setPort p { v with
    pauseTill := t.now + t.quantaNs p quanta
    pauseFrom := if t.now < v.pauseTill then v.pauseFrom else some t.now }

/-- Does port `p` receive: the link is up, the port RUNNING or held, its MAC clocked, and its balls its own (R371, R72, R196,
R648)? -/
def State.receives (s : State) (p : Nat) : Bool :=
  s.macOp p == opRunning && (s.port p).up && s.graversReleased p && !s.ballsScanned

/-- PAUSE_FRAME_RECEIVED (R386). -/
def execPauseFrameReceived (p : Fin 8) (quanta : BitVec 16) (s : State) : Host.Outcome State Fault Refusal :=
  .next (if s.receives p then s.pauseIn p quanta.toNat else s)

/-- PAUSE_TIMER_EXPIRE (R386). -/
def execPauseTimerExpire (p : Fin 8) (s : State) : Host.Outcome State Fault Refusal :=
  .next (if (s.port p).pauseFrom.isSome ∧ (s.port p).pauseTill ≤ s.now then
      s.modPort p (fun v => { v with pauseTill := 0, pauseFrom := none })
    else s)

/-- PAUSE_GUARD_EXPIRE (R387): continuous pause beyond `pause_guard`. -/
def execPauseGuardExpire (p : Fin 8) (s : State) : Host.Outcome State Fault Refusal :=
  .next (match (s.port p).pauseFrom with
    | some f =>
      let limit := f + s.rd (macB p) Reg.macPauseGuardPauseGuard * msNs
      if limit ≤ s.now ∧ limit < (s.port p).pauseTill then
        let t := s.modPort p (fun v => { v with
          pauseTill := 0, pauseFrom := none, holdTill := s.now + s.rd (macB p) Reg.macPauseGuardPauseHold * msNs })
        (t.count48 p none cPauseGuard).raise (macB p) evPauseGuard
      else s
    | none => s)

/-- PAUSE_HOLD_END (R387). -/
def execPauseHoldEnd (p : Fin 8) (s : State) : Host.Outcome State Fault Refusal :=
  .next (if (s.port p).holdTill ≤ s.now then s.modPort p (fun v => { v with holdTill := 0 }) else s)

/-- May the port send frames of its own: link up, RUNNING, not held (R72, R371)? -/
def State.transmits (s : State) (p : Nat) : Bool := s.receives p && !s.heldAt (macB p)

/-- The FCS of a frame, as it leaves. -/
def fcs (f : List Byte) : List Byte := leBytes 4 (crc32 f)

/-- R385, R388: the PAUSE frame of port Mp, from the port's own address, with its FCS. -/
def State.pauseFrame (s : State) (p quanta : Nat) : List Byte :=
  let f := beBytes 6 0x0180C2000001 ++ beBytes 2 (s.rd (macB p) Reg.macAddrHiAddrHi) ++ beBytes 4 (s.rd (macB p) Reg.macAddrLoAddrLo)
    ++ beBytes 2 0x8808 ++ beBytes 2 1 ++ beBytes 2 quanta ++ List.replicate 42 0
  f ++ fcs f

/-- R388: a PAUSE frame leaves in the next interframe gap. -/
def State.pauseOut (s : State) (p quanta : Nat) : State :=
  ((s.modPort p (fun v => { v with freeAt := max s.now v.freeAt + (84 * 8 * v.bitPs + 999) / 1000 })).count48 p none
    cTxPause).emit (.pause p (s.pauseFrame p quanta))

/-- R388: a PAUSE frame with `tx_quanta` leaves; the condition lasts. -/
def State.pauseNow (s : State) (p : Nat) : State :=
  (s.pauseOut p (s.rd (macB p) Reg.macPauseTxQuanta)).modPort p (fun v => { v with pauseSentAt := some s.now, pauseOn := true })

/-- R388: the pool has come to the floor, or risen above it, or above `floor` + 256. -/
def State.pauseCheck (s : State) (p : Nat) : State :=
  let free := s.poolFree p
  let floor := s.rd (qgB p) Reg.qmFloorFloor
  if !s.isSet (macB p) Reg.macPauseTxEn || !s.transmits p then s
  else if free ≤ floor then (if (s.port p).pauseOn then s else s.pauseNow p)
  else if (s.port p).pauseSentAt.isSome ∧ floor + 256 < free then
    (s.pauseOut p 0).modPort p (fun v => { v with pauseSentAt := none, pauseOn := false })
  else if (s.port p).pauseOn then s.modPort p (fun v => { v with pauseOn := false })
  else s

/-- R388: is a PAUSE frame to be repeated: half of the pause time has passed since the last, and the condition lasts? -/
def State.pauseDue (s : State) (p : Nat) : Bool :=
  s.transmits p && s.isSet (macB p) Reg.macPauseTxEn && decide (s.poolFree p ≤ s.rd (qgB p) Reg.qmFloorFloor)
    && (match (s.port p).pauseSentAt with
      | some a => (s.port p).pauseOn && decide (a + s.quantaNs p (s.rd (macB p) Reg.macPauseTxQuanta) / 2 ≤ s.now)
      | none => false)

/-- PAUSE_TX_REPEAT (R388). -/
def execPauseTxRepeat (p : Fin 8) (s : State) : Host.Outcome State Fault Refusal :=
  .next (if s.pauseDue p then s.pauseNow p else s.pauseCheck p)

/-- QUEUE_FLUSH (R359, R388): the PF writes 1 to QD_CTRL.flush. -/
def execQueueFlush (fn : Fin 65) (p : Fin 8) (q : Fin 1024) (s : State) : Host.Outcome State Fault Refusal :=
  .next (s.mmioWrite fn (qdB p q + 8) (fun t => (t.flushQueue p q).pauseCheck p))

/-- TX_ENTRY_EXPIRE (R378, R388): the head of a TQ and those behind it whose deadlines have passed. -/
def execTxEntryExpire (p q : Fin 8) (s : State) : Host.Outcome State Fault Refusal :=
  .next (if s.sending p q then s
    else (forUpTo (s.queue p q).length (fun _ (t : State) => match t.queue p q with
      | e :: _ => if t.expired p e then t.dropHead p q cTxExpired else t
      | [] => t) s).pauseCheck p)

/-! ### Classification (R391-R394) -/

/-- R391: the slot a frame belongs to. -/
def State.rxSlot (s : State) (p : Nat) (f : List Byte) : Option Nat :=
  let vid := beAt f 14 2 % 4096
  let b := macB p
  if beAt f 12 2 = 0x8100 ∧ vid ≠ 0 then
    (List.range 8).find? (fun k => s.isSet b Reg.macTenTagTagged k && s.rd b Reg.macTenTagVid k == vid)
  else if s.isSet b Reg.macRxCfgUntaggedEn then some (s.rd b Reg.macRxCfgUntaggedSlot) else none

/-- R392: does the frame match the key of channel `g`, whose template is `m`? -/
def keyMatches (m : MediaCfg) (x : Parsed) : Bool :=
  let sport := beAt m.tmpl (14 + tmplIpLen m.tmpl m.ipv6) 2
  x.proto == 17
    && (if m.ipv6 then x.ipv6 && x.dst == bytesAt m.tmpl 22 16
        else x.ipv4 && !x.fragment && x.dst == bytesAt m.tmpl 26 4)
    && (x.dport == sport || (!m.rtcpMux && x.dport == (sport + 1) % 65536))

/-- R392: the lowest channel of slot `k` whose key matches. -/
def State.steerChannel (s : State) (p k : Nat) (x : Parsed) : Option Nat :=
  (s.openChans p).find? (fun g => s.chTenant g == some (8 * p + k) && (Sparse.find? s.medias g).isSome
    && keyMatches (s.media g).cfg x)

/-- R394: do filter `n`'s criteria match? -/
def State.filterMatches (s : State) (p n : Nat) (x : Parsed) : Bool :=
  let b := macB p
  (!s.isSet b Reg.filtEtypeEn n || s.rd b Reg.filtEtype n == x.etype)
    && (!s.isSet b Reg.filtDmacEn n || s.rd b Reg.filtDmacHi n * 2 ^ 32 + s.rd b Reg.filtDmacLo n == x.dmac)
    && (!s.isSet b Reg.filtProtoEn n || ((x.ipv4 || x.ipv6) && s.rd b Reg.filtProto n == x.proto))
    && (!s.isSet b Reg.filtPortEn n || ((x.ipv4 || x.ipv6) && !x.fragment && (x.proto == 6 || x.proto == 17)
        && decide (s.rd b Reg.filtPortLo n ≤ x.dport ∧ x.dport ≤ s.rd b Reg.filtPortHi n)))

/-- R393: the filter that steers a frame of slot `k`. -/
def State.steerFilter (s : State) (p k : Nat) (x : Parsed) : Option Nat :=
  (List.range 32).find? (fun n =>
    let o := s.queueOwner p (8 + n)
    s.isSet (macB p) Reg.filtEnable n && (o == some k || o.isNone) && s.filterMatches p n x)

/-- R391-R393: where a frame whose first bytes are `f` goes. -/
def State.steer (s : State) (p : Nat) (f : List Byte) : RxFrame :=
  match s.rxSlot p f with
  | none => {}
  | some k =>
    let x := parseFrame f
    match s.steerChannel p k x with
    | some g => { slot := some k, target := some (40 + g % 256), chan := some (g % 256) }
    | none => match s.steerFilter p k x with
      | some n => { slot := some k, target := some (8 + n), filt := some n }
      | none =>
        let d := s.rd (macB p) Reg.macRxCfgDefaultFilter
        if !s.isSet (macB p) Reg.macRxCfgDefaultDrop && s.queueOwner p (8 + d) == some k then
          { slot := some k, target := some (8 + d) }
        else { slot := some k }

/-! ### Timestamps (R397) -/

/-- Timekeeper time of plate `p` in 125 ps. -/
def State.tk125 (s : State) (p : Nat) : Nat := ((s.siteNs : Int) * 8 + s.tkOffset p).toNat

/-! ### Receive (R351, R390, R396) -/

/-- FRAME_FIRST_BYTE (R351, R350): the frame is classified from its first 64 bytes; its 16 cells are taken or refused. MAC
control frames take none. -/
def execFrameFirstByte (p : Fin 8) (head : List Byte) (s : State) : Host.Outcome State Fault Refusal :=
  .next (
    if !s.receives p then s
    else
      let ts := 8192 * (s.tk125 p - s.rd (macB p) Reg.macPtpDelayRxDelay)
      let f := { (if beAt head 12 2 = 0x8808 then {} else s.steer p (head.take 64)) with ts := ts }
      match f.slot, f.target with
      | some k, some q =>
        let before := s.poolFree p
        if s.queueOwner p q ≠ some k then (s.queueDrop p q).modPort p (fun v => { v with rx := some { f with refused := true } })
        else match s.allocRefusal p q k 16 f.chan.isSome with
          | 0 => (((s.modPort p (fun v => { v with rx := some { f with admitted := true } })).notePool p k before).pauseCheck p)
          | c => (s.countRefusal p q k c).modPort p (fun v => { v with rx := some { f with refused := true } })
      | _, _ => s.modPort p (fun v => { v with rx := some f }))

/-- R385: the quanta of a PAUSE frame, if the frame without FCS is one. -/
def State.pauseQuanta (s : State) (p : Nat) (f : List Byte) : Option Nat :=
  let own := s.rd (macB p) Reg.macAddrHiAddrHi * 2 ^ 32 + s.rd (macB p) Reg.macAddrLoAddrLo
  if beAt f 12 2 = 0x8808 ∧ f.length = 60 ∧ (beAt f 0 6 = 0x0180C2000001 ∨ beAt f 0 6 = own) ∧ beAt f 14 2 = 1 then
    some (beAt f 16 2)
  else none

/-- R396: the bytes a stored entry holds. -/
def State.storedBytes (s : State) (p : Nat) (f : RxFrame) (bytes : List Byte) : List Byte :=
  let strip := beAt bytes 12 2 = 0x8100 ∧ (f.chan.isSome ∨ s.isSet (macB p) Reg.macTenTagStrip (f.slot.getD 0))
  let a := if strip then bytes.take 12 ++ bytes.drop 16 else bytes
  match f.filt with
  | some n =>
    if s.isSet (macB p) Reg.filtTsTrailer n then
      let ns := f.ts / 65536
      a ++ beBytes 4 (ns % secNs + ns / secNs % 4 * 2 ^ 30)
    else a
  | none => a

/-- R390: a frame of `bytes` without FCS is decided when its last byte has arrived. -/
def State.decideFrame (s : State) (p : Nat) (f : RxFrame) (bytes : List Byte) (align fcsOk : Bool) : State :=
  let t := s.modPort p (fun v => { v with rx := none })
  let len := bytes.length + 4
  if align then t.count48 p none cRxAlign
  else if len < 64 then t.count48 p none cRxRunt
  else if 2048 < len then t.count48 p none cRxOversize
  else if !fcsOk then t.count48 p none cRxFcs
  else if beAt bytes 12 2 = 0x8808 then match t.pauseQuanta p bytes with
    | some q => t.pauseIn p q
    | none => t.count48 p none cRxCtrlOther
  else match f.slot, f.target with
    | none, _ => t.count48 p none cRxUnknownTag
    | some k, none => t.count48 p (some k) cRxNoMatch
    | some k, some q =>
      if !f.admitted then t.count48 p (some k) cRxRefused
      else
        let e : Entry := { slot := k, voice := f.chan.isSome, bytes := t.storedBytes p f bytes, rxTs := f.ts, chan := f.chan
                           filt := f.filt }
        let d := t.drawCell p
        let a := (d.2.setQueue p q (d.2.queue p q ++ [{ e with cell := d.1 }])).noteQueuePeak p q
        (a.count48 p (some k) cRxFrames).count48 p (some k) cRxOctets len

/-- FRAME_RECEIVED (R390, R396): the frame without its FCS, whether row 1 applies to it, and whether its FCS is good. -/
def execFrameReceived (p : Fin 8) (bytes : List Byte) (align fcsOk : Bool) (s : State) : Host.Outcome State Fault Refusal :=
  .next (match (s.port p).rx with
    | some f => if s.receives p then (s.decideFrame p f bytes align fcsOk).pauseCheck p else s
    | none => s)

/-! ### Transmit (R380-R384, R398, R399, R421) -/

/-- R380, R381: an entry's frame without FCS. -/
def State.txBytes (s : State) (p : Nat) (e : Entry) : List Byte :=
  let b := macB p
  let a := e.bytes ++ List.replicate (60 - e.bytes.length) 0
  if s.tags p e.slot then
    let pcp := if e.voice then s.rd b Reg.macTenTagPcpVoice e.slot else s.rd b Reg.macTenTagPcpData e.slot
    a.take 12 ++ [0x81, 0x00] ++ beBytes 2 (pcp * 2 ^ 13 + s.rd b Reg.macTenTagVid e.slot) ++ a.drop 12
  else a

/-- R398: where the PTP event message of a frame begins, if it carries one. Only a first fragment has a UDP header. -/
def ptpAt (f : List Byte) : Option Nat :=
  let x := parseFrame f
  let off := if beAt f 12 2 = 0x8100 then 18 else 14
  let at_ := if x.etype = 0x88F7 then some off
    else if x.proto = 17 ∧ x.dport = 319 then
      if x.ipv4 ∧ beAt f (off + 6) 2 % 0x2000 = 0 then some (off + 4 * (beAt f off 1 % 16) + 8)
      else if x.ipv6 then some (off + 48) else none
    else none
  match at_ with
  | some m => if m < f.length ∧ beAt f m 1 % 16 ≤ 3 then some m else none
  | none => none

/-- R399: is the message at `m` a Sync with twoStepFlag 0, whose fields the frame holds? -/
def oneStepSync (f : List Byte) (m : Nat) : Bool :=
  beAt f m 1 % 16 == 0 && !bitAt (beAt f (m + 6) 1) 1 && decide (m + 44 ≤ f.length)

/-- RFC 1624: the checksum `c` after the words `a` have become `b`. -/
def updateSum (c : Nat) (a b : List Byte) : Nat := onesCheck ((65535 - c) + (a.length / 2 * 65535 - wordSum a) + wordSum b)

/-- R399: the frame with the correctionField of the Sync at `m` advanced, and its UDP checksum after it. -/
def oneStep (f : List Byte) (m ts : Nat) : List Byte :=
  let origin := (beAt f (m + 34) 6 * secNs + beAt f (m + 40) 4) * 65536
  let old := bytesAt f (m + 8) 8
  let new := beBytes 8 (ofSigned 64 ((beVal old : Int) + ts - origin))
  let a := patchAt f (m + 8) new
  let x := parseFrame f
  if x.etype = 0x88F7 then a
  else
    let c := beAt f (m - 2) 2
    if x.ipv4 ∧ c = 0 then a else patchAt a (m - 2) (beBytes 2 (updateSum c old new))

/-- R398: a record for the transmit timestamp queue. -/
def State.txRecord (s : State) (p : Nat) (r : TxTs) : State :=
  let v := s.port p
  if 16 ≤ v.txts.length then (s.bumpSat (macB p) Reg.macTxtsStatLost).raise (macB p) evTxtsLost
  else
    let t := s.setPort p { v with txts := v.txts ++ [r] }
    if v.txts.isEmpty then t.raise (macB p) evTxtsReady else t

/-- The frame of entry `e` of TQ `n` starts on the wire. -/
def State.startFrame (s : State) (p n : Nat) (e : Entry) : State :=
  let b := macB p
  let len := s.frameLen p e
  let bit := (s.port p).bitPs
  let f := s.txBytes p e
  let ts := 8192 * (s.tk125 p + 64 * bit / 125 + s.rd b Reg.macPtpDelayTxDelay)
  let at_ := ptpAt f
  let step := match at_ with | some m => s.isSet b Reg.macPtpOneStepEn && oneStepSync f m | none => false
  let g := if step then oneStep f (at_.getD 0) ts else f
  let endAt := s.now + ((len + 8) * 8 * bit + 999) / 1000
  let a := s.modPort p (fun v => { v with
    tx := some { queue := n, len := len, ts := ts, bytes := g, endAt := endAt
                 whole := decide (e.bytes.length ≤ s.rd b Reg.macTxCfgTxstart)
                 buffered := min e.bytes.length (s.rd b Reg.macTxCfgTxstart) }, freeAt := endAt + (96 * bit + 999) / 1000 })
  let c := a.shaperCharge p n len
  match at_ with
  | some m =>
    if s.isSet b Reg.macPtpTxTsEn && !step then
      c.txRecord p { ts := ts, seqId := beAt f (m + 30) 2, msgType := beAt f m 1 % 16, domain := beAt f (m + 4) 1 }
    else c
  | none => c

/-- R420, R423, R433: may a choice be made? -/
def State.mayChoose (s : State) (p : Nat) : Bool :=
  let v := s.port p
  s.transmits p && v.tx.isNone && !(v.waitBoundary && s.hsOp p == opRunning) && decide (v.freeAt ≤ s.now ∧ v.pauseTill ≤ s.now)

/-- R421: does TQ `n` send now? -/
def State.tqSends (s : State) (p n : Nat) : Bool :=
  match s.queue p n with
  | [] => false
  | e :: _ =>
    let t := s.tkNs p
    bitAt (s.gates p t) n && s.fits p n t (s.wirePs p (s.frameLen p e)) && s.shaperAllows p n

/-- R421: the choice: TQ7 first. -/
def State.choose (s : State) (p : Nat) : State :=
  if !s.mayChoose p then s
  else
    let t := s.clearAllHeads p
    match [7, 6, 5, 4, 3, 2, 1, 0].find? (fun n => t.tqSends p n) with
    | some n => match t.queue p n with
      | e :: _ => t.startFrame p n e
      | [] => t
    | none => t

/-- TRANSMIT_CHOICE (R420, R421). -/
def execTransmitChoice (p : Fin 8) (s : State) : Host.Outcome State Fault Refusal := .next (s.choose p)

/-- GATE_EDGE (R416, R420): the gates follow time; the choice is repeated. -/
def execGateEdge (p : Fin 8) (s : State) : Host.Outcome State Fault Refusal := .next (s.choose p)

/-- REFILL_TICK (R420, R425-R427, R429): a tick of the plate timekeeper; the choice is repeated. -/
def execRefillTick (p : Fin 8) (s : State) : Host.Outcome State Fault Refusal :=
  .next (if s.plateOut p && !s.plateQuiet p then (forUpTo 8 (fun n t => t.refill p n) s).choose p else s)

/-- TRANSMIT_END (R380, R403, R388): the last byte has left. -/
def execTransmitEnd (p : Fin 8) (s : State) : Host.Outcome State Fault Refusal :=
  .next (match (s.port p).tx with
    | some f =>
      if f.endAt ≤ s.now then
        let slot := (s.queue p f.queue).head?.map Entry.slot
        let a := (s.modPort p (fun v => { v with tx := none })).setQueue p f.queue ((s.queue p f.queue).drop 1)
        let b := (a.count48 p slot cTxFrames).count48 p slot cTxOctets f.len
        (((b.emit (.frame p (f.bytes ++ fcs f.bytes) true)).pauseCheck p).clearAllHeads p).portStopped p
      else s
    | none => s)

/-- TX_UNDERRUN (R384, R404): the transmit buffer empties after `sent` bytes, which it cannot before the bytes that were in it at
the start have left, nor where the whole entry was in it (R383). -/
def execTxUnderrun (p : Fin 8) (sent : Nat) (s : State) : Host.Outcome State Fault Refusal :=
  .next (match (s.port p).tx with
    | some f =>
      let start := s.rd (macB p) Reg.macTxCfgTxstart
      if !f.whole && decide (f.buffered ≤ sent ∧ sent < f.bytes.length) then
        let a := (s.modPort p (fun v => { v with tx := none, freeAt := s.now + 96 * v.bitPs / 1000 })).dropHead p f.queue
          cTxUnderrun
        let out := f.bytes.take sent
        let b := (a.emit (.frame p (out ++ (fcs out).map (fun x => ~~~x)) false)).raise (macB p) evTxUnderrun
        let c := if b.isSet (macB p) Title.compatPrev then b else b.wr (macB p) Reg.macTxCfgTxstart (min 2048 (start + 256))
        ((c.pauseCheck p).clearAllHeads p).portStopped p
      else s
    | none => s)

/-- R409: the four words of the head record; 0 while the queue is empty. -/
def State.txtsWords (s : State) (p : Nat) : List Nat :=
  match (s.port p).txts with
  | [] => [0, 0, 0, 0]
  | r :: _ =>
    let ns := r.ts / 65536
    [ns % secNs, ns / secNs % 2 ^ 32, ns / secNs / 2 ^ 32 % 65536 + r.seqId * 65536,
     r.ts % 65536 + r.msgType % 16 * 65536 + r.domain % 256 * 2 ^ 20 + 2 ^ 31]

/-- R409: a read of MAC_TXTS_POP gives the head record's last word and removes the record. -/
def State.txtsPopEffect (s : State) (p : Nat) : Nat × State :=
  ((s.txtsWords p).getD 3 0, s.modPort p (fun v => { v with txts := v.txts.drop 1 }))

/-- TXTS_POP_READ (R409). -/
def execTxtsPopRead (fn : Fin 65) (p : Fin 8) (s : State) : Host.Outcome State Fault Refusal :=
  .next (s.mmioRead fn (macB p + 0x7C) (fun t => t.txtsPopEffect p))

end Sys2Proof.Machine
end

