-- ==== Sys2Proof/Machine/Dma.lean ====
section
/-! DEFINITION. The plate DMA (05_plates.md R188-R194, R206, R207, R787; 03_host_port.md R85, R95-R101, R116): rings,
descriptors, operations, and what the device writes back. -/

namespace Sys2Proof.Machine

/-- Status codes of R190. -/
def stOk : Nat := 1
def stOutOfWindow : Nat := 3
def stNotEnabled : Nat := 4
def stCplTimeout : Nat := 5
def stPoisoned : Nat := 6
def stQueueEmpty : Nat := 7
def stBadQueue : Nat := 8
def stNoCells : Nat := 9
def stTooLong : Nat := 10

/-- R188: the index after `i`. -/
def nextIdx (i : Nat) : Nat := if 127 ≤ i then 1 else i + 1

/-! ### The tenant's window (R96, R787) -/

/-- R126, R127: where tenant `t`'s window starts and how many bytes it spans, up to 2⁶⁴. -/
def State.winBase (s : State) (t : Nat) : Nat :=
  s.rd (tenB t) Reg.tenWinBaseHiBaseHi * 2 ^ 32 + s.rd (tenB t) Reg.tenWinBaseLoBaseLo * 4096
def State.winSpan (s : State) (t : Nat) : Nat := min (s.rd (tenB t) Reg.tenWinSizePages * 4096) (2 ^ 64 - s.winBase t)

/-- R96, R190: do `len` bytes at `a` lie within the window and outside its first page? -/
def State.inWindow (s : State) (t a len : Nat) : Bool :=
  decide (s.winBase t + 4096 ≤ a ∧ a + len ≤ s.winBase t + s.winSpan t)

/-! ### When the DMA acts -/

/-- R580, R665: does the plate DMA of plate `p` act at all? -/
def State.dmaActs (s : State) (p : Nat) : Bool :=
  s.plateOut p && s.plateOp p != opQuiet && !s.isFrozen (masterDma p)

/-- May TLPs be issued for tenant `t` (R96, R105): its VF is live, a bus master and in no FLR, and the link is up? -/
def State.mayMaster (s : State) (t : Nat) : Bool :=
  s.linkUp && s.vfLive (t + 1) && !s.flrBusy (t + 1) && !s.flrBusy 0 && (s.vf (t + 1)).bme

/-- R116: does the DMA act for tenant `t`? -/
def State.tenantActs (s : State) (t : Nat) : Bool :=
  s.dmaActs (t / 8) && s.mayMaster t && !s.isFrozen (0x41 + t)

/-- R191: is the ring of tenant `t` read? -/
def State.ringActs (s : State) (t : Nat) : Bool :=
  s.tenantActs t && s.isSet (tenB t) Reg.tenDmaCtrlDmaEn && decide (2 ≤ s.rd (tenB t) Reg.tenWinSizePages)

/-- R206: does the plate DMA serve operations: RUNNING, or held from RUNNING? -/
def State.dmaServes (s : State) (p : Nat) : Bool :=
  if s.heldAt (dmaB p) then s.rd (dmaB p) Title.seenOp == opRunning else s.dmaPathOp p == opRunning

/-- R126, R193: operations of tenant `t` in flight: started or failed, and their status not yet written. -/
def State.tenInFlight (s : State) (t : Nat) : Nat := ((s.ring t).ops.filter (fun o => o.phase != .pending)).length
def State.plateInFlight (s : State) (p : Nat) : Nat :=
  (List.range 8).foldl (fun n k => n + s.tenInFlight (8 * p + k)) 0

/-! ### Ends of operations -/

/-- Change operation `id` of a ring. -/
def State.modOp (s : State) (t id : Nat) (f : DmaOp → DmaOp) : State :=
  s.setRing t { s.ring t with ops := (s.ring t).ops.map (fun o => if o.id = id ∧ o.phase ≠ .ended then f o else o) }

/-- R207: an operation ends with a status, which is counted; `ok` is counted once it is written, since until then the operation
may still be abandoned (R106). A failed check 5 or 6 of R787 counts here, also where the operation is abandoned afterwards
(log entry 100). -/
def State.dmaEnd (s : State) (t id status doneLen : Nat) : State :=
  let b := dmaB (t / 8)
  let a := s.endOp t id status doneLen
  if status = stTooLong then a.bumpSat b Reg.dmaCntErrTooLong
  else if status = stNoCells then a.bumpSat b Reg.dmaCntErrNoCells
  else a

/-- R97, R98: an operation is refused: counted and announced on both sheets. -/
def State.dmaRefuse (s : State) (t id status doneLen : Nat) : State :=
  (((s.dmaEnd t id status doneLen).bumpSat (tenB t) Reg.tenDmaStatusRefused).raise (tenB t) 1).raise (dmaB (t / 8)) 1

/-- R574, R583: the tenant's VF commits a violation by an operation: its record names the host address given. -/
def State.dmaViolate (s : State) (t id kind access addr : Nat) : State :=
  (s.setRing t { s.ring t with ops := (s.ring t).ops.map (fun o => if o.id = id then { o with viol := true } else o) }).violate
    (0x41 + t) kind access (some (t / 8)) (addr % 2 ^ 32) (addr / 2 ^ 32)

/-- R97, R189: the window check fails; a device-to-host operation has moved the bytes of the TLPs it issued. -/
def State.dmaOutOfWindow (s : State) (t : Nat) (o : DmaOp) : State :=
  (s.dmaRefuse t o.id stOutOfWindow (if o.toHost then o.issued else 0)).dmaViolate t o.id vWindow (if o.toHost then 3 else 2) o.addr

/-! ### The checks of R787 -/

/-- Check 2 of R787: `queue` is within its Range and the tenant may use it (R189, R343). -/
def State.queueAllowed (s : State) (t : Nat) (o : DmaOp) : Bool :=
  let p := t / 8
  let k := t % 8
  if 296 ≤ o.queue then s.queueOwner p o.queue == some k
  else !o.toHost && decide (o.queue < 8) && bitAt (s.rd (qgB p) Reg.qmQuotaTqAllow k) o.queue

/-- Check 1 of R787, R96: the VF is live and a bus master, `dma_en` is 1, the tenant's intent is RUNNING, and the plate DMA
serves (R206). -/
def State.dmaEnabled (s : State) (t : Nat) : Bool :=
  s.vfLive (t + 1) && (s.vf (t + 1)).bme && s.isSet (tenB t) Reg.tenDmaCtrlDmaEn && !s.tenantOff t && s.dmaServes (t / 8)

/-- R787: the checks in order; the state in which the operation has ended, if one fails. -/
def State.dmaCheck (s : State) (t : Nat) (o : DmaOp) : Option State :=
  let p := t / 8
  if !s.dmaEnabled t then some (s.dmaRefuse t o.id stNotEnabled 0)
  else if !s.queueAllowed t o then some ((s.dmaEnd t o.id stBadQueue 0).dmaViolate t o.id vBadQueue 7 o.desc)
  else if !s.inWindow t o.addr o.length then some (s.dmaOutOfWindow t o)
  else if o.toHost then
    match s.queue p o.queue with
    | [] => some (s.dmaEnd t o.id stQueueEmpty 0)
    | e :: _ => if o.length < e.bytes.length then some (s.dmaEnd t o.id stTooLong e.bytes.length) else none
  else
    match s.allocRefusal p o.queue (t % 8) (cellsOf o.length) false with
    | 0 => none
    | c => some ((s.countRefusal p o.queue (t % 8) c).dmaEnd t o.id stNoCells 0)

/-! ### TLPs (R99, R100) -/

/-- Bytes of a payload write (R99) and of a read request. A reserved Max_Read_Request_Size code counts as 4,096 bytes
(log entry 41). -/
def State.mpsBytes (s : State) : Nat := 128 * 2 ^ min 2 s.pf.mps
def State.mrrsBytes (s : State) : Nat := 128 * 2 ^ min 5 s.pf.mrrs

/-- R100: read tags of a plate. -/
def State.plateTags (s : State) : Nat := if s.pf.extTag then 8 else 4
def State.tagsUsed (s : State) (p : Nat) : Nat :=
  (List.range 8).foldl (fun n k => (s.ring (8 * p + k)).ops.foldl (fun m o => m + o.reads.length) n) 0

/-- R99: the next TLP at `a` with `left` bytes to go, at most `most` bytes and within its 4 KiB. -/
def tlpLen (a left most : Nat) : Nat := min left (min most (4096 - a % 4096))

/-- R100: has plate `p` a tag for another read? -/
def State.tagFree (s : State) (p : Nat) : Bool := decide (s.tagsUsed p < s.plateTags)

/-- R85, R99: the next write of an operation that has started, if it has one to issue; each TLP is checked against the window
stored when it is issued (03_host_port.md, the window is moved). With the last one the operation has ended `ok`. -/
def State.writeOne (s : State) (t id : Nat) : State :=
  match (s.ring t).ops.find? (fun o => o.id == id && o.phase == .inFlight && o.toHost) with
  | none => s
  | some o =>
    if !s.tenantActs t then s
    else
      let a := o.addr + o.issued
      let n := tlpLen a (o.data.length - o.issued) s.mpsBytes
      if !s.inWindow t a n then s.dmaOutOfWindow t o
      else
        let ro := s.pf.roEn && s.isSet (tenB t) Reg.tenDmaCtrlRoEn
        let u := (s.modOp t id (fun x => { x with issued := x.issued + n })).emit
          (.dmaWrite t a ((o.data.drop o.issued).take n) ro)
        if o.data.length ≤ o.issued + n then u.dmaEnd t id stOk o.data.length else u

/-- R99, R100: the next read of an operation, if it has one to issue and a tag is free; each TLP is checked against the
window stored when it is issued (03_host_port.md, the window is moved). -/
def State.pumpOne (s : State) (t id : Nat) : State :=
  match (s.ring t).ops.find? (fun o => o.id == id && o.phase == .inFlight && !o.toHost) with
  | none => s
  | some o =>
    if !s.tenantActs t || decide (o.length ≤ o.issued) || !s.tagFree (t / 8) then s
    else
      let a := o.addr + o.issued
      let n := tlpLen a (o.length - o.issued) s.mrrsBytes
      if !s.inWindow t a n then s.dmaOutOfWindow t o
      else (s.modOp t id (fun x => { x with issued := x.issued + n, reads := Sparse.ins x.reads o.issued (n, s.now) })).emit
        (.dmaRead t a n)

/-- As many reads as there are tags. -/
def State.pump (s : State) (t id : Nat) : State := forUpTo 8 (fun _ u => u.pumpOne t id) s

/-- R116, R587: every operation of the plate in flight goes on: reads as tags allow, and one write each. -/
def State.pumpAll (s : State) (p : Nat) : State :=
  forUpTo 8 (fun k u => forEach ((u.ring (8 * p + k)).ops.map DmaOp.id)
    (fun i v => (v.pump (8 * p + k) i).writeOne (8 * p + k) i) u) s

/-! ### Commands -/

/-- R206, R73: the lock holder sets the DMA sheet's intent; its mode is always 0x00. -/
def State.dmaIntent (s : State) (fn p data : Nat) : State :=
  if s.mayWriteL (dmaB p) (masterOfFn fn) then s.storeIntent (dmaB p) (intentOp data) 0 else s

/-- DMA_HOST_STATE_WRITE (R206). -/
def execDmaHostStateWrite (fn : Fin 65) (p : Fin 8) (data : Word) (s : State) : Host.Outcome State Fault Refusal :=
  .next (s.mmioWrite fn (dmaB p + 0x20) (fun t => t.dmaIntent fn p data.toNat))

/-- R192: when `dma_en` changes, the ring position is to be taken anew; operations that have not started are not
started. -/
def State.dmaEnableEffect (s : State) (fn t data : Nat) : State :=
  let u := s.storeWord fn (tenB t) Reg.tenRows 0x50 data
  if s.isSet (tenB t) Reg.tenDmaCtrlDmaEn = u.isSet (tenB t) Reg.tenDmaCtrlDmaEn then u
  else
    let ops := (u.ring t).ops.filter (fun o => o.phase != .pending)
    u.setRing t { ops := ops, late := (u.ring t).late, taken := (u.ring t).taken }

/-- DMA_ENABLE_WRITE (R192). -/
def execDmaEnableWrite (fn : Fin 65) (t : Fin 64) (data : Word) (s : State) : Host.Outcome State Fault Refusal :=
  .next (s.mmioWrite fn (tenB t + 0x50) (fun u => u.dmaEnableEffect fn t data.toNat))

/-- R191, R192: a header that was read: `prod` and `cons` are bits [6:0] of its first two double words (R188). -/
def State.takeHeader (s : State) (t dw0 dw1 : Nat) : State :=
  let b := dmaB (t / 8)
  let r := s.ring t
  let prod := bitsOf dw0 0 7
  let cons := bitsOf dw1 0 7
  let pos := match r.pos with | some i => some i | none => if cons = 0 then none else some cons
  if prod = 0 ∨ pos = none then ((s.setRing t { r with pos := pos }).bumpSat b Reg.dmaCntErrBadIndex).raise b 0
  else s.setRing t { r with pos := pos, prod := prod }

/-- R191: is a poll of tenant `t`'s ring due: `poll_us` after the last, the first at once; with a tag free (R100)? -/
def State.pollDue (s : State) (t : Nat) : Bool :=
  s.ringActs t && s.tagFree (t / 8) &&
  match (s.ring t).pollAt with
  | none => true
  | some x => decide (x + s.rd (dmaB (t / 8)) Reg.dmaCfgPollUs * 1000 ≤ s.now)

/-- A poll that ended `cpl_timeout` or `poisoned` (05_plates.md, the ring header is unreadable). -/
def State.pollFails (s : State) (t : Nat) : State := s.bumpSat (dmaB (t / 8)) Reg.dmaCntErrPollFail

/-- DMA_RING_POLL (R191): the header is read at TEN_WIN_BASE; how the read ends is the operand. While timeouts are disabled none
ends by one (R101). -/
def execDmaRingPoll (t : Fin 64) (header : HeaderRead) (s : State) : Host.Outcome State Fault Refusal :=
  .next (
    if !s.pollDue t || (header == .timeout && s.pf.ctoDisable) then s
    else
      let u := (s.setRing t { s.ring t with pollAt := some s.now }).emit (.dmaRead t (s.winBase t) 32)
      match header with
      | .data dw0 dw1 => u.takeHeader t dw0.toNat dw1.toNat
      | .timeout => (u.noteTimeout t).pollFails t
      | .poisoned => (u.notePoisoned (t + 1)).pollFails t)

/-- R189, R190: the operation that a descriptor spells; `length` is clamped to its Range. -/
def descriptorOp (idx desc dw0 dw1 addr cookie : Nat) : DmaOp :=
  { idx := idx, toHost := bitAt dw0 0, irq := bitAt dw0 1, queue := bitsOf dw0 16 10
    length := clampNat 1 65536 (bitsOf dw1 0 17), addr := addr, cookie := cookie, desc := desc }

/-- R191: the ring position moves past slot `i`, whose operation `o` joins the ring's list. -/
def State.takeDescriptor (s : State) (t : Nat) (o : DmaOp) : State :=
  (s.setRing t { s.ring t with pos := some (nextIdx o.idx), ops := (s.ring t).ops ++ [o], taken := o.id + 1 }).emit
    (.dmaRead t o.desc 32)

/-- R101, R191, R787: the descriptor at ring position `i` is read and checked. One that could not be read ends its operation with
`cpl_timeout` or `poisoned`, without a message (log entry 33). -/
def State.readDescriptor (s : State) (t i : Nat) (desc : DescRead) : State :=
  let at_ := s.winBase t + 32 * i
  let n := (s.ring t).taken
  match desc with
  | .data dw0 dw1 addr cookie =>
    let o := { descriptorOp i at_ dw0.toNat dw1.toNat addr.toNat cookie.toNat with id := n }
    let u := s.takeDescriptor t o
    (u.dmaCheck t o).getD u
  | .timeout => ((s.takeDescriptor t { descriptorOp i at_ 0 0 0 0 with id := n }).dmaEnd t n stCplTimeout 0).noteTimeout t
  | .poisoned => ((s.takeDescriptor t { descriptorOp i at_ 0 0 0 0 with id := n }).dmaEnd t n stPoisoned 0).notePoisoned (t + 1)

/-- R193: is there room for another operation of tenant `t` in flight? -/
def State.roomInFlight (s : State) (t : Nat) : Bool :=
  decide (s.tenInFlight t < s.rd (dmaB (t / 8)) Reg.dmaTenCfgLimit (t % 8))
    && decide (s.plateInFlight (t / 8) < s.rd (dmaB (t / 8)) Reg.dmaCfgMaxInflight)

/-- R191, R193: is the next descriptor of tenant `t`'s ring read: the ring is not empty, the operation before has started (log
entry 42), the operation may be in flight, and a tag is free (R100)? -/
def State.descriptorDue (s : State) (t i : Nat) : Bool :=
  s.ringActs t && s.tagFree (t / 8) && (s.ring t).prod != 0 && i != (s.ring t).prod
    && !(s.ring t).ops.any (fun o => o.phase == .pending) && s.roomInFlight t

/-- DMA_DESCRIPTOR_READ (R787): how the read of the next descriptor of tenant `t`'s ring ends is the operand. -/
def execDmaDescriptorRead (t : Fin 64) (desc : DescRead) (s : State) : Host.Outcome State Fault Refusal :=
  .next (match (s.ring t).pos with
    | none => s
    | some i => if s.descriptorDue t i && !(desc == .timeout && s.pf.ctoDisable) then s.readDescriptor t i desc else s)

/-- The operation of tenant `t` that would start next. -/
def State.nextOp (s : State) (t : Nat) : Option DmaOp := (s.ring t).ops.find? (fun o => o.phase == .pending)

/-- R116, R193: may an operation of tenant `t` start, or be refused at its start (R98)? -/
def State.mayStart (s : State) (t : Nat) : Bool :=
  s.dmaActs (t / 8) && s.linkUp && !s.flrBusy (t + 1) && !s.flrBusy 0 && !s.isFrozen (0x41 + t) && (s.nextOp t).isSome
    && s.roomInFlight t

/-- R352, R355: the operation's cells are taken. -/
def State.startRead (s : State) (t : Nat) (o : DmaOp) : State :=
  let p := t / 8
  let before := s.poolFree p
  let a := s.modOp t o.id (fun x => { x with phase := .inFlight, cells := cellsOf o.length, slot := t % 8 })
  ((a.notePool p (t % 8) before).pump t o.id).pauseCheck p

/-- R347, R356: the head entry is unlinked and its first TLP written to the host; its cells stay charged as they were. -/
def State.startWrite (s : State) (t : Nat) (o : DmaOp) : State :=
  let p := t / 8
  match s.queue p o.queue with
  | [] => s
  | e :: rest =>
    let a := s.modOp t o.id (fun x => { x with
      phase := .inFlight, cells := e.cells, slot := e.slot, cell := e.cell, data := e.bytes })
    (a.setQueue p o.queue rest).writeOne t o.id

/-- R193, R352, R356: the operation is checked again and starts. -/
def State.startOp (s : State) (t : Nat) : State :=
  match s.nextOp t with
  | none => s
  | some o =>
    let u := { s with dmaLast := Sparse.put 7 s.dmaLast (t / 8) (t % 8) }
    match u.dmaCheck t o with
    | some v => v
    | none => if o.toHost then u.startWrite t o else u.startRead t o

/-- DMA_OPERATION_START (R193): operations in flight go on as tags and freezes let them, a device-to-host one by one TLP (log entry
34), and the next pending one of the plate starts: tenants round-robin in ascending slot order. -/
def execDmaOperationStart (p : Fin 8) (s : State) : Host.Outcome State Fault Refusal :=
  .next (
    let a := s.pumpAll p
    let first := Sparse.get 7 a.dmaLast p + 1
    match (List.range 8).find? (fun k => a.mayStart (8 * p.val + (first + k) % 8)) with
    | some k => a.startOp (8 * p.val + (first + k) % 8)
    | none => a)

/-- R355, R376, R420: the payload of an operation joins its queue; one that joins a TQ repeats the choice. -/
def State.deliver (s : State) (p q k : Nat) (bytes : List Byte) : State :=
  let d := s.drawCell p
  let e : Entry := { cell := d.1, slot := k, bytes := bytes }
  if queueKind q = 0 ∧ (s.port p).graceEnded then d.2.count48 p (some k) cTxFlushed
  else
    let t := (d.2.setQueue p q (d.2.queue p q ++ [e])).noteQueuePeak p q
    if queueKind q = 0 then t.choose p else t

/-- R101: an operation whose reads have all come back has its payload in its queue. -/
def State.readDone (s : State) (t : Nat) (o : DmaOp) (got : Sparse (List Byte)) : State :=
  ((s.dmaEnd t o.id stOk o.length).deliver (t / 8) o.queue (t % 8) (got.flatMap Prod.snd)).pauseCheck (t / 8)

/-- R101, R115: a completion that no read in flight waits for: late for a read that has ended, it is discarded; else it is an
Unexpected Completion. -/
def State.strayCompletion (s : State) (t idx off : Nat) : State :=
  let r := s.ring t
  if r.late.contains (idx, off) then s.setRing t { r with late := r.late.erase (idx, off) }
  else s.logAer (t + 1) .unexpectedCompletion

/-- The oldest operation in flight from ring slot `idx` of tenant `t` that waits for data at offset `off`. -/
def State.readingOp (s : State) (t idx off : Nat) : Option DmaOp :=
  (s.ring t).ops.find? (fun o => o.idx == idx && o.phase == .inFlight && !o.toHost && (Sparse.find? o.reads off).isSome)

/-- R101, R106: data arrives for the read at offset `off` of an operation, all of it or its first bytes. -/
def State.readArrives (s : State) (t idx off : Nat) (data : List Byte) : State :=
  match s.readingOp t idx off with
  | none => s.strayCompletion t idx off
  | some o =>
    let r := Sparse.get (0, 0) o.reads off
    if data.length = 0 ∨ r.1 < data.length then s.strayCompletion t idx off
    else
      let got := Sparse.ins o.got off data
      let left := Sparse.del o.reads off
      let reads := if data.length = r.1 then left else Sparse.ins left (off + data.length) (r.1 - data.length, r.2)
      let a := s.modOp t o.id (fun x => { x with reads := reads, got := got })
      if reads.isEmpty ∧ o.length ≤ o.issued then a.readDone t o got else a.pump t o.id

/-- DMA_READ_COMPLETION (R101): what arrives past the end of the timeout's range finds its read ended. -/
def execDmaReadCompletion (t : Fin 64) (idx off : Nat) (data : List Byte) (s : State) : Host.Outcome State Fault Refusal :=
  .next (if s.linkUp then (s.overdueTimeout t idx).readArrives t idx off data else s)

/-- R116, R577, R580: may the status of an ended operation be written? -/
def State.mayWriteStatus (s : State) (t : Nat) (o : DmaOp) : Bool :=
  o.phase == .ended && s.dmaActs (t / 8) && s.mayMaster t && (o.viol || !s.isFrozen (0x41 + t))

/-- R189: double word 5 of a descriptor whose operation has ended: `status`, and `done`. -/
def statusWord (o : DmaOp) : Word := BitVec.ofNat 32 (o.status % 16 + 2 ^ 31)

/-- R191, R194: status, then `cons`, then vector 1; the operation's cells are free and it is retired. The addresses follow the
window base as it is stored now. -/
def State.writeStatus (s : State) (t : Nat) (o : DmaOp) (rest : List DmaOp) : State :=
  let base := s.winBase t
  let a := (s.setRing t { s.ring t with ops := rest }).emit
    (.dmaStatus t (base + 32 * o.idx + 20) (statusWord o) (BitVec.ofNat 32 (o.doneLen % 2 ^ 17)))
  let b := a.emit (.dmaCons t (base + 4) (nextIdx o.idx))
  let c := if o.status = stOk then b.bumpSat (dmaB (t / 8)) Reg.dmaCntOpsOps else b
  (if o.irq then c.sendMsix (t + 1) 1 else c).pauseCheck (t / 8)

/-- DMA_STATUS_WRITE (R194): the oldest operation of tenant `t`'s ring, once it has ended. -/
def execDmaStatusWrite (t : Fin 64) (s : State) : Host.Outcome State Fault Refusal :=
  .next (match (s.ring t).ops with
    | [] => s
    | o :: rest => if s.mayWriteStatus t o then s.writeStatus t o rest else s)

end Sys2Proof.Machine
end

