-- ==== Sys2Proof/Machine/Poly.lean ====
section
/-! DEFINITION. The linearisation polynomial of both front-end instances (15_front_end.md R510, R511). -/

namespace Sys2Proof.Machine

/-- Saturation to 32 bits, two's complement (R511). -/
def sat32 (v : Int) : Int := clampInt (-(2 ^ 31)) (2 ^ 31 - 1) v

/-- R511: the product of a Q8.24 and a Q1.23 value. -/
def mulQ (a x : Int) : Int := sat32 (shrRound (a * x) 23)

/-- The word of a coefficient list, 0 where none is loaded. -/
def coefAt (c : List Int) (k : Nat) : Int := c.getD k 0

/-- Row i of the polynomial, by Horner's rule in s. -/
def polyRow (c : List Int) (i : Nat) (x : Int) : Int :=
  let a := sat32 (mulQ (coefAt c (4 * i + 3)) x + coefAt c (4 * i + 2))
  let b := sat32 (mulQ a x + coefAt c (4 * i + 1))
  sat32 (mulQ b x + coefAt c (4 * i))

/-- R510: y = Σ c_ij · tⁱ · sʲ in Q8.24, from the 16 words c_ij at 4i + j. -/
def polyEval (c : List Int) (x t : Int) : Int :=
  let a := sat32 (mulQ (polyRow c 3 x) t + polyRow c 2 x)
  let b := sat32 (mulQ a t + polyRow c 1 x)
  sat32 (mulQ b t + polyRow c 0 x)

/-- A reading as a Q1.23 value of 24 bits. -/
def reading24 (v : Int) : Int := clampInt (-(2 ^ 23)) (2 ^ 23 - 1) v

/-- R515: |s| ≤ 0.96. -/
def readingIn (x : Int) : Bool := decide (x.natAbs * 100 ≤ 96 * 2 ^ 23)

end Sys2Proof.Machine
end

