-- ==== Sys2Proof/Machine/Converter.lean ====
section
/-! DEFINITION. The converter chain of the front-end design (15_front_end.md R502-R506, R508, R509): the modulator, the
chopper, the sinc³ first stage, the mean of the second stage, the half-bridge and the sine drive. -/

namespace Sys2Proof.Machine

/-- What a converter converts (R502, R503, R509): the signal and the reference in one unit, by modulator cycle; chopped or
plain; the first stage's length; the factors the stream is multiplied by after chopping, in phase and in quadrature, of
`bits` fraction bits; `id` names the amplifier. -/
structure Converted where
  id : Nat
  signal : Nat → Int
  reference : Int
  chop : Bool
  len : Nat
  inPhase : Nat → Int
  quadrature : Nat → Int
  bits : Nat

/-- R503: the ±1 sequence that reverses every 64 modulator cycles. -/
def chopSign (k : Nat) : Int := if k / 64 % 2 = 0 then 1 else -1

/-- R503: the same sequence, later by the fixed path delay. -/
def chopLate (k : Nat) : Int := if k < Config.chopDelay then 1 else chopSign (k - Config.chopDelay)

/-- What the modulator sees at cycle `k`, in 2⁻²³ of the reference's unit: the signal, reversed by the chopper ahead of the
amplifier, plus the amplifier's offset, within ±1 times the reference (R502, R503). -/
def Converted.input (x : Converted) (k : Nat) : Int :=
  let r := x.reference * 2 ^ 23
  clampInt (-r) r ((if x.chop then chopSign k else 1) * x.signal k * 2 ^ 23 + Config.ampOffset x.id * x.reference)

/-- R504: one value of the signed stream goes into the integrators. -/
def Sinc.push (f : Sinc) (v : Int) : Sinc :=
  { f with i1 := f.i1 + v, i2 := f.i2 + (f.i1 + v), i3 := f.i3 + (f.i2 + (f.i1 + v)) }

/-- R504: every `n` values, a word: the differences of sinc³, divided by n³, to Q1.23. -/
def Sinc.take (f : Sinc) (n bits : Nat) : Int × Sinc :=
  let d1 := f.i3 - f.c1
  let d2 := d1 - f.c2
  let d3 := d2 - f.c3
  (reading24 (divRound (d3 * 2 ^ 23) (n ^ 3 * 2 ^ bits : Nat)), { f with c1 := f.i3, c2 := d1, c3 := d2 })

/-- R502: the modulator's decision b_k. -/
def Conv.bit (c : Conv) : Int := if 0 ≤ c.x2 then 1 else -1

/-- R502, R503, R509: one modulator cycle: the decision, the two integrators of the loop, and the stream, chopped back and
multiplied, into both first stages. -/
def Conv.cycleStep (x : Converted) (c : Conv) : Conv :=
  let b := c.bit
  let e := x.input c.cycle - b * x.reference * 2 ^ 23
  let x1 := c.x1 + Config.loopGain 0 * e
  let v := if x.chop then b * chopLate c.cycle else b
  { cycle := c.cycle + 1, x1 := x1, x2 := c.x2 + Config.loopGain 1 * x1 + Config.loopGain 2 * e
    i := c.i.push (v * x.inPhase c.cycle), q := c.q.push (v * x.quadrature c.cycle) }

/-- R504: one first-stage word in phase, one in quadrature. -/
def Conv.word (x : Converted) (c : Conv) : (Int × Int) × Conv :=
  let d := forUpTo x.len (fun _ a => Conv.cycleStep x a) c
  let i := d.i.take x.len x.bits
  let q := d.q.take x.len x.bits
  ((i.1, q.1), { d with i := i.2, q := q.2 })

/-- `n` first-stage words, oldest first. -/
def Conv.words (x : Converted) (n : Nat) (c : Conv) : List (Int × Int) × Conv :=
  forUpTo n (fun _ a => (a.1 ++ [(Conv.word x a.2).1], (Conv.word x a.2).2)) ([], c)

/-- R505: the mean of 3,125 consecutive first-stage words, in Q1.23. -/
def Conv.reading (x : Converted) (c : Conv) : Int × Conv :=
  let w := Conv.words x 3125 c
  (divRound ((w.1.map (·.1)).foldl (· + ·) 0) 3125, w.2)

/-- A chopped input with first-stage length 128 (R503): the stream itself is filtered. -/
def chopped (id : Nat) (signal : Nat → Int) (reference : Int) : Converted :=
  { id := id, signal := signal, reference := reference, chop := true, len := 128, inPhase := fun _ => 1
    quadrature := fun _ => 0, bits := 0 }

/-- A die sensor's signal, in 2⁻²³ of its reference. -/
def dieInput (id : Nat) (v : Int) : Converted := chopped id (fun _ => v) (2 ^ 23)

/-! ### Half-bridge (R506) -/

/-- R506: VX in µV: 1.20 V, less where the current limit of 1.0 mA through both resistances, in mΩ, is reached; 0 when not
driven. -/
def excitationUv (driven : Bool) (th : Bridge) : Nat := if driven then min 1200000 (th.thermistor + th.reference) else 0

/-- R506: V(THn_IN) − ½·V(THn_EXC) against ½·V(THn_EXC), both times twice the bridge's resistance: the ratio is
(R_T − R_REF) / (R_T + R_REF). -/
def bridgeInput (id : Nat) (driven : Bool) (th : Bridge) : Converted :=
  let v : Int := (excitationUv driven th : Nat)
  chopped id (fun _ => v * ((th.thermistor : Int) - th.reference)) (v * ((th.thermistor : Int) + th.reference))

/-! ### Signals and the sine drive (R508, R509) -/

/-- A signal given as samples in nV that divide a span of `n` cycles evenly. -/
def heldSample (l : List Int) (n k : Nat) : Int := l.getD (k * l.length / n) 0

/-- R508: entry `k` of the drive's 64-point table of 12-bit amplitude. -/
def driveTable (k : Nat) : Int := shrRound (sineOf (k % 64 * 2 ^ 26) * 2047) 17

/-- R509: the sine reference `phase`/256 of a period after the drive's, at cycle `k` of a period of `n`, in 2⁻¹⁷. -/
def driveReference (n phase k : Nat) : Int := sineOf ((k % n * 2 ^ 32 / n + phase * 2 ^ 24) % 2 ^ 32)

/-- R508, R509, R537: the sine-drive input: sense signal in nV with gain `gain` against 1.2 V, in 2⁰ nV; the first stage is
one drive period of 128·`m` cycles; the quadrature reference leads by a quarter period. -/
def sineDriven (id : Nat) (l : List Int) (gain m phase : Nat) : Converted :=
  { id := id, signal := fun k => heldSample l (128 * m) (k % (128 * m)) * gain, reference := 1200000000, chop := false
    len := 128 * m, inPhase := driveReference (128 * m) phase, quadrature := driveReference (128 * m) (phase + 64), bits := 17 }

/-- A chopped voltage in nV against 1.2 V after `gain` (R536, R538), over a span of `n` cycles that began at cycle `from_`. -/
def choppedSignal (id : Nat) (l : List Int) (gain n from_ : Nat) : Converted :=
  chopped id (fun k => heldSample l n (k - from_) * gain) 1200000000

end Sys2Proof.Machine
end

