-- ==== Sys2Proof/Machine/FrontEnd.lean ====
section
/-! DEFINITION. The front end, timebase half (15_front_end.md R500-R531): start, readings, validity, rate, coefficients,
excitation faults, EFC_REF and the manual EFC code. -/

namespace Sys2Proof.Machine

/-- Bits of the sheet's EVENT beyond those of TH0 and TH1 (R530). -/
def evExcFault : Nat := 2
def evEfcRefLow : Nat := 3

def State.therm (s : State) (n : Nat) : Therm := Sparse.get {} s.therms n
def State.setTherm (s : State) (n : Nat) (t : Therm) : State := { s with therms := Sparse.put {} s.therms n t }

def State.feOp (s : State) : Nat := s.rd feB Title.stateOp

/-- R516, R519: the channel is invalid, and its run, means and rate start again. -/
def State.thInvalid (s : State) (n : Nat) : State :=
  let t := s.therm n
  let u := s.setTherm n { coefs := t.coefs }
  if t.valid then u.raise feB n else u

/-- R517: the rate from the sums of 600 seconds, newest first: least-squares slope in 2⁻¹⁰ K/h, exact numerator and
denominator. -/
def rateNum (means : List Int) : Int :=
  (means.foldl (fun (a : Int × Int) m => (a.1 - 2, a.2 + a.1 * m)) (599, 0)).2 * 3600 * 1024
def rateDen : Int := 2 * 17999950 * 10 * 2 ^ 24

/-- The rate as `HM_RATE` holds it; the spec states no value for a rate beyond the field (log entry 7). -/
def State.rateWord (s : State) (v : Int) : Int × State :=
  if -(2 ^ 15) ≤ v ∧ v < 2 ^ 15 then (v, s) else (s.drawNat.1, s.drawNat.2)

/-- R518: `HM_TEMP`, and θ for the timebase, at a reading y of a valid channel. -/
def State.reportTemp (s : State) (n : Nat) (y : Int) : State :=
  let v := shrRound y 17
  let a := s.wrS hmB (if n = 0 then Reg.hmTempTh0 else Reg.hmTempTh1) v
  if n = 0 && a.th0Ok then
    let r := a.rdS hmB Reg.hmRateTh0Rate
    { a with hold := { a.hold with theta := v - 3200, rate := r } }.modTb (fun t => { t with
      thetaSum := t.thetaSum + (v - 3200), rateSum := t.rateSum + r, thetaN := t.thetaN + 1 })
  else a

/-- R515: is the reading good? -/
def State.thGood (s : State) (n : Nat) (x y : Int) : Bool :=
  let lim := fun r => s.rdS feB r n * 2 ^ 17
  bitAt (s.rd feB Reg.feThCfgLoaded) n && readingIn x && decide (lim Reg.feThLimTMin ≤ y ∧ y ≤ lim Reg.feThLimTMax)
    && (match (s.therm n).prevGood with
      | none => true
      | some v => decide ((y - v).natAbs * 100 ≤ s.rd feB Reg.feCtrlStepMax * 2 ^ 24))

/-- R514-R518: one reading of channel `n`. -/
def State.thReading (s : State) (n : Nat) (x t : Int) : State :=
  if !bitAt (s.rd feB Reg.feCtrlThEn) n then s
  else
    let y := polyEval (s.therm n).coefs x t
    let a := (s.wrS feB Reg.feRawS x n).wrS feB Reg.feTempTemp y n
    if a.thGood n x y then
      let h := a.therm n
      let valid := h.valid || decide (10 ≤ h.goodRun + 1)
      let b := a.setTherm n { h with valid := valid, goodRun := min 10 (h.goodRun + 1), prevGood := some y
                                     acc := if h.valid then y :: h.acc else [] }
      let c := if valid && !h.valid then b.raise feB n else b
      if valid then c.reportTemp n y else c
    else
      let b := a.bumpSat feB (if n = 0 then Reg.feCountsBad0 else Reg.feCountsBad1)
      if (b.therm n).valid then b.thInvalid n else b.setTherm n { b.therm n with goodRun := 0 }

/-- R506, R528: THn_EXC is driven while the channel is enabled and the sheet is STARTING or RUNNING. -/
def State.thDriven (s : State) (n : Nat) : Bool :=
  bitAt (s.rd feB Reg.feCtrlThEn) n && decide (s.feOp = opStarting ∨ s.feOp = opRunning)

/-- R506: the voltage of THn_EXC above THn_RET, in µV. -/
def State.thExcitation (s : State) (n : Nat) (th : Bridge) : Nat := excitationUv (s.thDriven n) th

/-- R502-R505: converter `n` of the timebase half converts for 100 ms. -/
def State.convert (s : State) (n : Nat) (x : Converted) : Int × State :=
  let r := Conv.reading x (Sparse.get {} s.convs n)
  (r.1, { s with convs := Sparse.put {} s.convs n r.2 })

/-- R506, R514: an enabled thermistor channel converts its bridge. -/
def State.thConvert (s : State) (n : Nat) (th : Bridge) : Int × State :=
  if bitAt (s.rd feB Reg.feCtrlThEn) n then s.convert n (bridgeInput n (s.thDriven n) th) else (0, s)

/-- R512, R514: the readings of both channels and of the die sensor, and what follows from each. -/
def State.feReadings (s : State) (th0 th1 : Bridge) (die : Int) : State :=
  let a := s.thConvert 0 th0
  let b := a.2.thConvert 1 th1
  let c := b.2.convert 2 (dieInput 2 die)
  let d := c.2.drawRound c.1 512
  let v := (d.2.wrS feB Reg.feRawS c.1 2).wrS feB Reg.feDieDie (3200 + d.1)
  (v.thReading 0 a.1 c.1).thReading 1 b.1 c.1

/-- FRONT_END_READING (R506, R512, R514, R520): every 100 ms; the first, 110 ms after the start, makes the front end RUNNING.
Its operands are the bridges' resistances and the die sensor's signal. -/
def execFrontEndReading (th0 th1 : Bridge) (die : Int) (s : State) : Host.Outcome State Fault Refusal :=
  .next (
    let ready := s.feOp == opStarting && decide (s.feAt + 110 * msNs ≤ s.now)
    if s.feOp = opRunning ∨ ready then
      (if ready then s.setOp feB opRunning else s).feReadings th0 th1 die
    else s)

/-- FRONT_END_RATE_SECOND (R517): the mean of 10 readings; the slope over 600 means. -/
def execFrontEndRateSecond (n : Fin 2) (s : State) : Host.Outcome State Fault Refusal :=
  .next (
    let h := s.therm n
    if h.valid ∧ 10 ≤ h.acc.length ∧ s.feOp = opRunning then
      let keep := h.acc.length - 10
      let m := (h.acc.drop keep).foldl (· + ·) 0
      let means := (m :: h.means).take 600
      let a := s.setTherm n { h with acc := h.acc.take keep, means := means }
      if means.length < 600 then a
      else
        let d := a.drawRound (rateNum means) rateDen
        let e := d.2.rateWord d.1
        let b := e.2.wrS hmB (if n = 0 then Reg.hmRateTh0Rate else Reg.hmRateTh1Rate) e.1
        if n = 0 then
          { b with hold := { theta := b.rdS hmB Reg.hmTempTh0 - 3200, rate := b.rdS hmB Reg.hmRateTh0Rate
                             cov := b.hold.cov, samples := b.hold.samples, epochTick := b.hold.epochTick } }
        else b
    else s)

/-- R513, R516, R519: FE_TH_CFG: a 1 copies the coefficients and restarts the channel, a 0 makes it invalid. -/
def State.feLoadEffect (s : State) (fn data : Nat) : State :=
  if !s.mayWriteL feB (masterOfFn fn) then s
  else
    let old := s.rd feB Reg.feThCfgLoaded
    forUpTo 2 (fun n t =>
        if bitAt data n then
          (t.thInvalid n).setTherm n { (t.thInvalid n).therm n with
            coefs := (List.range 16).map (fun k => t.rdS feB Reg.feCoefC (16 * n + k)) }
        else if bitAt old n then t.thInvalid n else t)
      (s.wr feB Reg.feThCfgLoaded data)

/-- COEF_LOAD_WRITE (R513). -/
def execCoefLoadWrite (fn : Fin 65) (data : Word) (s : State) : Host.Outcome State Fault Refusal :=
  .next (s.mmioWrite fn (feB + 0x44) (fun u => u.feLoadEffect fn data.toNat))

/-- R519: FE_CTRL: a change of `th_en` restarts the channel. -/
def State.feCtrlEffect (s : State) (fn data : Nat) : State :=
  let t := s.storeWord fn feB Reg.feRows 0x40 data
  forUpTo 2 (fun n u =>
    if bitAt (s.rd feB Reg.feCtrlThEn) n = bitAt (t.rd feB Reg.feCtrlThEn) n then u
    else let v := u.thInvalid n; { v with convs := Sparse.del v.convs n }) t

/-- R516: both channels are invalid: the front end has left RUNNING; its converters stop. -/
def State.feStop (s : State) : State := { (s.thInvalid 0).thInvalid 1 with convs := [] }

/-- R520 step 1: the front end is STARTING; its modulators and filters start anew at step 2. -/
def State.feStart (s : State) : State := { s.setOp feB opStarting with feAt := s.now, convs := [] }

/-- R528: HOST_STATE of the front end; QUIET stores RUNNING, the mode is always 0. -/
def State.feIntent (s : State) (fn data : Nat) : State :=
  if !s.mayWriteL feB (masterOfFn fn) then s
  else if intentOp data = opOff then ((s.storeIntent feB opOff 0).setOp feB opOff).feStop
  else
    let t := s.storeIntent feB opRunning 0
    if t.feOp = opOff then t.feStart else t

/-- FRONT_END_HOST_STATE_WRITE (R520, R528). -/
def execFrontEndHostStateWrite (fn : Fin 65) (data : Word) (s : State) : Host.Outcome State Fault Refusal :=
  .next (s.mmioWrite fn (feB + 0x20) (fun u => u.feIntent fn data.toNat))

/-- EXCITATION_FAULT (R521). -/
def execExcitationFault (s : State) : Host.Outcome State Fault Refusal :=
  .next (
    if (s.feOp = opStarting ∨ s.feOp = opRunning) ∧ s.rd feB Reg.feCtrlThEn ≠ 0 then
      let t := ((s.setOp feB opFault).bumpSat feB Reg.feCountsExcFault).raise feB evExcFault
      { t with feAt := t.now }.feStop
    else s)

/-- EXCITATION_RETRY (R521): after 1 s. -/
def execExcitationRetry (s : State) : Host.Outcome State Fault Refusal :=
  .next (
    if s.feOp = opFault ∧ s.feAt + secNs ≤ s.now ∧ s.rd feB Title.hostOp = opRunning then
      s.feStart
    else s)

/-- EFC_REF_MEASURE (R525). -/
def execEfcRefMeasure (mv : Nat) (s : State) : Host.Outcome State Fault Refusal :=
  .next (
    let low := decide (mv < 900)
    let t := (s.wr feB Reg.feEfcRefRefMv (min mv 8191)).wrB feB Reg.feEfcRefLow low
    if low && !s.isSet feB Reg.feEfcRefLow then t.raise feB evEfcRefLow else t)

/-- R523, R524: the voltage of EFC_OUT in 1/262,144 of a µV, whatever the sheet's state, V(EFC_REF) being `refUv` µV. -/
def State.efcOut (s : State) (refUv : Nat) : Nat := refUv * s.rd feB Reg.feEfcCode

/-- R526: FE_EFC_MAN: `man_en` stores 0 unless the timebase is OFF. -/
def State.efcManualEffect (s : State) (fn data : Nat) : State :=
  if !s.mayWriteL feB (masterOfFn fn) then s
  else
    let en := bitAt data 31 && s.opOf .tb 0 tbB == opOff
    let t := ((s.wr feB Reg.feEfcManCode data).wrB feB Reg.feEfcManManEn en).wrB feB Reg.feEfcManual en
    if en then t.setEfc (data % 2 ^ 18) else t

/-- EFC_MANUAL_WRITE (R526). -/
def execEfcManualWrite (fn : Fin 65) (data : Word) (s : State) : Host.Outcome State Fault Refusal :=
  .next (s.mmioWrite fn (feB + 0x78) (fun u => u.efcManualEffect fn data.toNat))

end Sys2Proof.Machine
end

