-- ==== Sys2Proof/Machine/Timebase.lean ====
section
/-! DEFINITION. The timebase's commands and events, the holdover model, and the plate timekeepers (14_timebase.md). -/

namespace Sys2Proof.Machine

/-- TIMEBASE_HOST_STATE_WRITE (R466). -/
def execTimebaseHostStateWrite (fn : Fin 65) (data : Word) (s : State) : Host.Outcome State Fault Refusal :=
  .next (s.mmioWrite fn (tbB + 0x20) (fun t => t.tbIntent fn data.toNat))

/-! ### PPS_IN (R470, R471) -/

/-- A disqualification of PPS_IN sets `good_run` to 0. -/
def State.ppsDrop (s : State) : State := (s.setQualified 0 false).wr tbB Reg.tbPpsStatGoodRun 0

/-- R470: fast toggling. -/
def State.ppsFast (s : State) : State :=
  let a := s.bumpSat tbB Reg.tbPpsStatFast
  let say := match s.tb.fastAt with | some f => decide (f + secNs ≤ s.now) | none => true
  (if say then (a.raise tbB evPpsFast).modTb (fun t => { t with fastAt := some s.now }) else a).ppsDrop

/-- R470: a period fault: no edge by 1.001 s after the last accepted one. -/
def State.ppsFault (s : State) : State :=
  match s.tb.ppsAt with
  | some a =>
    if !s.tb.ppsLate ∧ a + 1001 * msNs ≤ s.now then
      ((s.bumpSat tbB Reg.tbPpsStatPeriodErr).ppsDrop).modTb (fun t => { t with ppsLate := true })
    else s
  | none => s

/-- R471: phase error of an edge now, ns. -/
def State.ppsError (s : State) : Int :=
  let site : Int := s.siteNs
  let label : Int := match s.tb.armed with
    | some x => (x * secNs : Nat)
    | none => ((s.siteNs + secNs / 2) / secNs * secNs : Nat)
  site - s.rdS tbB Reg.tbPpsCfgPpsDelayNs - label

/-- R470, R471: an accepted edge. -/
def State.ppsAccept (s : State) : State :=
  let good := match s.tb.ppsAt with
    | some x => decide (x + 999 * msNs ≤ s.now ∧ s.now ≤ x + 1001 * msNs) && !s.tb.ppsLate
    | none => false
  let a := if good then s else s.ppsFault
  let run := if good then min 15 (a.rd tbB Reg.tbPpsStatGoodRun + 1) else 0
  let err := a.ppsError
  let b := (((a.wr tbB Reg.tbPpsStatStuck 0).wr tbB Reg.tbPpsStatGoodRun run).modTb (fun t => { t with
    ppsAt := some a.now, ppsLate := false, armed := none })).noteError 0 err
  (if 3 ≤ run then b.setQualified 0 true else b).tbPhase 0 err s.now

/-- PPS_EDGE (R470, R471): a rising or falling edge of PPS_IN, whose level then stands for `width` ns; a pulse begins at the edge that
`pps_edge` selects. -/
def execPpsEdge (falling : Bool) (width : Nat) (s : State) : Host.Outcome State Fault Refusal :=
  .next (
    let early := match s.tb.ppsAt with | some a => decide (s.now < a + 999 * msNs) | none => false
    let t := s.modTb (fun x => { x with pulseFrom := s.now, pulseTill := s.now + width })
    if falling != s.isSet tbB Reg.tbPpsCfgPpsEdge then t
    else if width < 100 ∨ 500 * msNs < width ∨ early = true then t.ppsFast else t.ppsAccept)

/-- PPS_PERIOD_FAULT (R470). -/
def execPpsPeriodFault (s : State) : Host.Outcome State Fault Refusal := .next s.ppsFault

/-- PPS_STUCK (R470): one level, that of the last pulse or the one after it, for more than 1.2 s. -/
def execPpsStuck (s : State) : Host.Outcome State Fault Refusal :=
  .next (
    let since := if s.now < s.tb.pulseTill then s.tb.pulseFrom else s.tb.pulseTill
    if decide (since + 1200 * msNs < s.now) && !s.isSet tbB Reg.tbPpsStatStuck then ((s.wr tbB Reg.tbPpsStatStuck 1).raise tbB evPpsStuck).ppsDrop else s)

/-- TOD_NEXT_ARM (R471). -/
def State.todArm (s : State) (fn data : Nat) : State :=
  if s.mayWriteL tbB (masterOfFn fn) then
    (s.wr tbB Reg.tbTodNextLoSecLo data).modTb (fun t => { t with
      armed := some (s.rd tbB Reg.tbTodNextHiSecHi * 2 ^ 32 + data % 2 ^ 32) })
  else s
def execTodNextArm (fn : Fin 65) (data : Word) (s : State) : Host.Outcome State Fault Refusal :=
  .next (s.mmioWrite fn (tbB + 0x94) (fun t => t.todArm fn data.toNat))

/-! ### PTP (R469, R472) -/

/-- R469: have 8 measurements been accepted within the timeout while `ptp_ok` is 1? -/
def State.ptpReady (s : State) : Bool :=
  s.isSet tbB Reg.tbPtpCfgPtpOk && decide (8 ≤ s.tb.ptp.length)
    && s.tb.ptp.all (fun a => decide (s.now ≤ a + s.rd tbB Reg.tbPtpCfgPtpTimeoutMs * msNs))

/-- R472: the latest instant up to `till` whose site-time nanoseconds were `ns`, with the epoch in force then and, back in time, the steps
before: an instant that a step passed over is not found. -/
def placedAt (ns : Nat) : List (Nat × Int) → Nat → Int → Option Nat
  | [], till, epoch =>
    let back := (((till : Int) + epoch - ns) % secNs).toNat
    if back ≤ till then some (till - back) else none
  | (since, before) :: older, till, epoch =>
    let back := (((till : Int) + epoch - ns) % secNs).toNat
    if since + back ≤ till then some (till - back) else placedAt ns older (since - 1) before

/-- R472: a submitted measurement, placed at the instant that `t_ns` names; that is more than 1 s ago only where a step of site time passed
over those nanoseconds. -/
def State.ptpSubmit (s : State) : State :=
  let ofs := s.rdS tbB Reg.tbPtpOfsOfsNs
  let gate := s.rd tbB Reg.tbPtpCfgPtpGateUs
  match (placedAt (s.rd tbB Reg.tbPtpSubmitTNs) s.tb.epochs s.now s.tb.epoch).filter (fun a => decide (s.now ≤ a + secNs)) with
  | none => s.bumpSat tbB Reg.tbCountsPtpRej
  | some at_ =>
    if s.tb.state = tbLocked ∧ s.tbSelected = 1 ∧ gate ≠ 0 ∧ gate * 1000 < ofs.natAbs then s.bumpSat tbB Reg.tbCountsPtpRej
    else
      let a := (s.modTb (fun t => { t with ptp := (s.now :: t.ptp).take 8 })).noteError 1 ofs
      (if a.ptpReady then a.setQualified 1 true else a).tbPhase 1 ofs at_

/-- R472: a write of TB_PTP_SUBMIT. -/
def State.ptpWrite (s : State) (data : Nat) : State := (s.wr tbB Reg.tbPtpSubmitTNs (min (data % 2 ^ 30) 999999999)).ptpSubmit

/-- PTP_SUBMIT (R472). -/
def execPtpSubmit (fn : Fin 65) (data : Word) (s : State) : Host.Outcome State Fault Refusal :=
  .next (s.mmioWrite fn (tbB + 0x68) (fun t => t.ptpWrite data.toNat))

/-- PTP_SOURCE_TIMEOUT (R469). -/
def execPtpSourceTimeout (s : State) : Host.Outcome State Fault Refusal :=
  .next (
    let old := match s.tb.ptp with
      | a :: _ => decide (a + s.rd tbB Reg.tbPtpCfgPtpTimeoutMs * msNs ≤ s.now)
      | [] => true
    if s.tbQualified 1 && old then (s.setQualified 1 false).raise tbB evPtpTimeout else s)

/-! ### Frequency sources (R469, R473-R476) -/

/-- R469: may the frequency source be qualified as far as its clock goes? -/
def State.freqUsable (s : State) (n : Nat) : Bool :=
  if n = 2 then
    let p := s.rd tbB Reg.tbPriSyncePort
    s.isSet tbB Reg.tbFreqCfgSynceOk && s.plateOut p && s.macOp p == opRunning && bitAt (s.rd crB Reg.crClkMonMacRx) p
  else s.isSet crB Reg.crRefStatusRefInOk

/-- R473: the gains of the loop for a millisecond: 2ζω in 2⁻³² and ω² in 2⁻⁶⁴, with ζ its damping factor and ω its natural frequency. Such
a loop's gain is 3 dB down at ω·√(1 + 2ζ² + √((1 + 2ζ²)² + 1)), which is to be 1 Hz: (2π/1000)² a millisecond is 728248265982611 in 2⁻⁶⁴.
With ζ of at least 5 it peaks by less than 0.1 dB. -/
def loopGains : Nat × Nat :=
  let z := 1280 + Config.loopDamping
  let a := 2 ^ 16 + 2 * z * z
  let w := 728248265982611 * 2 ^ 16 / (a + Nat.sqrt (a * a + 2 ^ 32))
  (2 * z * Nat.sqrt w / 2 ^ 8, w)

/-- R473: a millisecond of the second-order loop, with a frequency error of `x`: `first` is its output and `second` its integral part,
2⁻⁴⁸ ppb. -/
def FreqLoop.step (l : FreqLoop) (x : Int) : FreqLoop :=
  let e := x * 2 ^ 32 - l.first
  let i := l.second + e * loopGains.2 / 2 ^ 64
  { first := l.first + e * loopGains.1 / 2 ^ 32 + i, second := i }

/-- The loop's output, 2⁻¹⁶ ppb. -/
def FreqLoop.out (l : FreqLoop) : Int := divRound l.first (2 ^ 32)

/-- R469: at `at_` the frequency of source `n` is within the range, or not: since when it has been so. -/
def Timebase.noteRange (t : Timebase) (n at_ : Nat) (inside : Bool) : Timebase :=
  let since := fun (m : Sparse Nat) => if (Sparse.find? m n).isSome then m else Sparse.ins m n at_
  if inside then { t with inRange := since t.inRange, outSince := Sparse.del t.outSince n }
  else { t with inRange := Sparse.del t.inRange n, outSince := since t.outSince }

/-- R469, R473: the millisecond of source `n` that ends at `at_`, with the frequency error `x`: filtered, it is within the range or
not; out of it for 1 s, the source is lost. -/
def State.freqMs (s : State) (n at_ : Nat) (x : Int) : State :=
  let l := (Sparse.get {} s.tb.loops n).step x
  let inside := decide (l.out.natAbs ≤ s.rd tbB Reg.tbFreqCfgRangePpb * 65536)
  let t := s.modTb (fun t => { t with loops := Sparse.put {} t.loops n l }.noteRange n (at_ - msNs) inside)
  match Sparse.find? t.tb.outSince n with
  | some a => if a + secNs ≤ at_ then t.dropFreq n else t
  | none => t

/-- R469, R473: the frequency errors of source `n` over the time that ends now, one a millisecond. -/
def State.freqSpan (s : State) (n : Nat) (l : List Int) : State :=
  forEach l.zipIdx (fun x t => t.freqMs n (s.now - (l.length - 1 - x.2) * msNs) x.1) s

/-- FREQ_SOURCE_SECOND (R469, R473, R476): the frequency errors of SyncE or REF_IN over a second, one a millisecond, 2⁻¹⁶ ppb. -/
def execFreqSourceSecond (refIn : Bool) (samples : List Int) (s : State) : Host.Outcome State Fault Refusal :=
  .next (
    let n := if refIn then 3 else 2
    if !s.freqUsable n then (s.dropFreq n).modTb (fun t => { t with loops := Sparse.del t.loops n, outSince := Sparse.del t.outSince n })
    else
      let t := s.freqSpan n samples
      t.tbFrequency n (Sparse.get {} t.tb.loops n).out)

/-- SOURCE_QUALIFY_TIMER (R469): in range for 10 s. -/
def execSourceQualifyTimer (refIn : Bool) (s : State) : Host.Outcome State Fault Refusal :=
  .next (
    let n := if refIn then 3 else 2
    match Sparse.find? s.tb.inRange n with
    | some a => if s.freqUsable n ∧ a + 10 * secNs ≤ s.now then s.setQualified n true else s
    | none => s)

/-- R474: does source `m` replace the working source `n` now? -/
def State.wtrReady (s : State) (n m : Nat) : Bool :=
  s.tbEligible m && decide (s.tbPriority m < s.tbPriority n)
    && decide (Sparse.get s.now s.tb.qualSince m + s.rd tbB Reg.tbCtrlWtrS * secNs ≤ s.now)

/-- WTR_EXPIRE (R474): the best source that has waited long enough. -/
def execWtrExpire (s : State) : Host.Outcome State Fault Refusal :=
  .next (
    let n := s.tbSelected
    let best := ((List.range 5).filter (s.wtrReady n)).foldl (fun (b : Option Nat) m => match b with
      | none => some m
      | some x => if s.tbPriority m < s.tbPriority x then some m else some x) none
    if s.tbRuns && s.isSet tbB Reg.tbCtrlRevert && n != noSource then match best with
      | some m => s.tbSwitch m
      | none => s
    else s)

/-! ### EFC, slews and steps (R463, R479-R483) -/

/-- What is removed while a slew brakes from `v` to 0 at `a` a millisecond. -/
def brake (v a : Nat) : Nat := (v / a + 1) * v - a * (v / a * (v / a + 1) / 2)

/-- R480: the frequency of the next millisecond, from `f` with `left` to remove, ramp `a` and limit `m`: no further from `f` than the ramp
allows (R481), and no more than can still be braked. -/
def slewStep (left f a m : Nat) : Nat :=
  if left ≤ a ∧ f ≤ left + a then left
  else
    let up := if f ≤ m then min (f + a) m else max (f - a) m
    if brake up a ≤ left then up else if f ≤ m ∧ brake f a ≤ left then max f a else f - a

/-- R480: one millisecond of the profile: it brakes first when it moves away from its offset, or has none. -/
def State.slewMs (s : State) : State :=
  let w := s.tb.slew
  if !w.run then s
  else
    let a := s.rd tbB Reg.tbSlewRampPpbs * 65536
    let m := s.rd tbB Reg.tbSlewSlewPpb * 65536000
    let f := if 0 ≤ w.left ∧ w.freq < 0 ∨ w.left ≤ 0 ∧ 0 < w.freq then
        (if w.freq < 0 then min 0 (w.freq + a) else max 0 (w.freq - a))
      else (if w.left < 0 then -1 else 1) * (slewStep w.left.natAbs w.freq.natAbs a m : Int)
    s.modTb (fun t => { t with slew := { w with left := w.left - f, freq := f } })

/-- R462, R463: the frequency that the EFC_OUT code gives the oscillator, 2⁻¹⁸ ppb; a source other than OSC_IN is not steered. -/
def State.efcFreq (s : State) : Int :=
  if s.rd crB Reg.crRefStatusTbSrc ≠ 1 then 0
  else
    let v : Int := ((s.rd tbB Reg.tbEfcCode : Int) - 131072) * (s.rd tbB Reg.tbEfcCfgEfcRangePpb : Int)
    if s.isSet tbB Reg.tbEfcCfgEfcSign then -v else v

/-- R493: at the end of a second the ratio over it is known. -/
def State.noteRatio (s : State) : State :=
  if s.now < s.tb.ratioAt + secNs then s
  else s.modTb (fun t => { t with
    ratio := (t.total - t.ratioTotal) / ((s.now - t.ratioAt : Nat) : Int), ratioAt := s.now, ratioTotal := t.total })

/-- R462: site time has run at the frequency of the timebase PLL's source, `osc` in 2⁻¹⁶ ppb at mid-scale, as EFC_OUT steers it. -/
def State.driftTime (s : State) (osc : Int) : State :=
  let d := (4 * osc + s.efcFreq) * ((s.now - s.tb.driftAt : Nat) : Int)
  let a := s.tb.drift + d
  (s.modTb (fun t => { t with
    epoch := t.epoch + a / driftUnit, drift := a % driftUnit, driftAt := s.now, total := t.total + d })).noteRatio

/-- R463, R480, R481, R484: the y of the next millisecond, and the code for it. -/
def State.steer1ms (s : State) : State :=
  let a := if s.tb.state = tbHoldover then s.modTb (fun t => { t with target := t.hoY }) else s
  let b := a.slewMs
  let c := b.stepY (((b.tb.slew.freq - a.tb.slew.freq).natAbs + 999) / 1000 : Nat)
  let d := c.drawRound c.tb.slew.freq 1000
  (d.2.recordY (c.tb.y + d.1)).writeEfc (c.tb.y + d.1)

/-- EFC_UPDATE (R462-R464, R466, R480, R481, R484): each millisecond; the code follows y while the timebase is RUNNING, and is held
otherwise. `osc` is the frequency error of the timebase PLL's source, with OSC_IN at mid-scale, 2⁻¹⁶ ppb. -/
def execEfcUpdate (osc : Int) (s : State) : Host.Outcome State Fault Refusal :=
  .next (if s.chip.power = .up then (let t := s.driftTime osc; if t.tbRuns then t.steer1ms else t) else s)

/-- SLEW_PROFILE_END (R480): the offset is removed and the frequency back at 0. -/
def execSlewProfileEnd (s : State) : Host.Outcome State Fault Refusal :=
  .next (if s.tb.slew.run ∧ s.tb.slew.left = 0 ∧ s.tb.slew.freq = 0 then
      s.modTb (fun t => { t with slew := {}, deferred := false, movedAt := s.now })
    else s)

/-- R482: a write of TB_SET_CTRL with `go`. -/
def State.timeSet (s : State) (fn data : Nat) : State :=
  let phase := (s.tb.state == tbAcquire || s.tb.state == tbLocked || s.tb.state == tbRelock) && phaseSource s.tbSelected
  if !s.mayWriteL tbB (masterOfFn fn) || !bitAt data 0 || phase then s
  else
    let hi := s.rd tbB Reg.tbSetSecHiSecHi
    let sec := hi * 2 ^ 32 + s.rd tbB Reg.tbSetSecLoSecLo
    let ns : Int := s.rd tbB Reg.tbSetNsNs
    let d := if bitAt data 1 then toSigned 48 sec * secNs + ns else (sec : Int) * secNs + ns - s.siteNs
    s.moveTime d (bitAt data 2)

/-- TIME_SET_GO (R479, R482). -/
def execTimeSetGo (fn : Fin 65) (data : Word) (s : State) : Host.Outcome State Fault Refusal :=
  .next (s.mmioWrite fn (tbB + 0x8C) (fun t => t.timeSet fn data.toNat))

/-! ### Holdover and the model (R484-R489) -/

/-- HOLDOVER_EVAL (R484, R485): each second. -/
def execHoldoverEval (s : State) : Host.Outcome State Fault Refusal :=
  .next (
    if s.tb.state = tbHoldover then
      let m := s.holdSeconds.modelY
      m.2.modTb (fun t => { t with
        hoModel := s.usesModel, hoY := if s.usesModel then m.1 + t.hoBase else t.hoMean })
    else s)

/-- R481: y from an external servo. -/
def State.extFreq (s : State) (data : Nat) : State :=
  let t := s.wr tbB Reg.tbExtFreqFreq data
  if t.tbRuns && t.tbMode == 2 then (t.setY (toSigned 32 data)).modTb (fun x => { x with extAt := t.now }) else t

/-- EXT_FREQ_WRITE (R477). -/
def execExtFreqWrite (fn : Fin 65) (data : Word) (s : State) : Host.Outcome State Fault Refusal :=
  .next (s.mmioWrite fn (tbB + 0x74) (fun t => t.extFreq data.toNat))

/-- R477: the external servo's state. -/
def State.extState (s : State) (fn data : Nat) : State :=
  let t := s.storeWord fn tbB Reg.tbRows 0x78 data
  if !t.tbRuns || t.tbMode != 2 then t
  else
    let v := t.rd tbB Reg.tbExtCtrlExtState
    let timed := fun (x : Nat) => x == tbLocked || x == tbRelock
    if v = tbHoldover then (if t.tb.state = tbHoldover then t else t.enterHoldover)
    else (if timed v && !timed t.tb.state then t.modTb (fun x => { x with extAt := t.now }) else t).setTbState v

/-- EXT_STATE_WRITE (R477). -/
def execExtStateWrite (fn : Fin 65) (data : Word) (s : State) : Host.Outcome State Fault Refusal :=
  .next (s.mmioWrite fn (tbB + 0x78) (fun t => t.extState fn data.toNat))

/-- EXT_TIMEOUT (R477). -/
def execExtTimeout (s : State) : Host.Outcome State Fault Refusal :=
  .next (
    if s.tbRuns ∧ s.tbMode = 2 ∧ (s.tb.state = tbLocked ∨ s.tb.state = tbRelock)
        ∧ s.tb.extAt + s.rd tbB Reg.tbExtCtrlExtTimeoutMs * msNs ≤ s.now then
      s.enterHoldover.raise tbB evExtTimeout
    else s)

/-- R486, R487: the conditions of a learning sample. -/
def State.learns (s : State) : Bool :=
  s.isSet hmB Reg.hmCtrlLearnEn && s.tbRuns && s.tb.state == tbLocked && decide (s.tb.lockedAt + tenMinNs ≤ s.now)
    && !s.tb.slew.run && s.tb.step.isNone && decide (s.tb.movedAt + tenMinNs ≤ s.now ∨ s.tb.movedAt = 0) && s.th0Ok
    && !s.isSet tbB Reg.tbEfcAtLimit && decide (s.tb.settleTill ≤ s.now)

/-- RMS of a list of residuals, 2⁻¹⁶ ppb, as 0.001 ppb. -/
def rmsPpt (l : List Int) : Nat :=
  Nat.sqrt (l.foldl (fun n r => n + r.natAbs * r.natAbs) 0 * 1000000 / max 1 l.length) / 65536

/-- R486: the terms of M over the last 60 s: the means of θ, θ′ and τ. -/
def State.sampleTerms (s : State) : List Rat :=
  let n := max 1 s.tb.thetaN
  let mean := fun (sum last : Int) (unit : Nat) => if s.tb.thetaN = 0 then (last : Rat) / unit else (sum : Rat) / (unit * n : Nat)
  modelTerms (mean s.tb.thetaSum s.hold.theta 128) (mean s.tb.rateSum s.hold.rate 1024) (s.ageMs - 30000) (s.rd hmB Reg.hmCtrlTau0H)

/-- R486, R498: a learning sample. -/
def State.learn (s : State) : State :=
  let x := s.sampleTerms
  let m := s.drawWhole (s.modelAt x * (65536 : Nat))
  let n := m.2.meanY (s.tb.ys.filter (fun e => decide (s.now ≤ e.at_ + 60 * secNs))) s.tb.y
  let r := n.1 - m.1
  let a := n.2.modTb (fun t => { t with
    resids := (r :: t.resids).take 10
    resid24 := ((s.now, r) :: t.resid24).filter (fun e => decide (s.now ≤ e.1 + 86400 * secNs)) })
  let d := a.drawBool
  let b := d.2.wr hmB Reg.hmResidRmsPpt (min 65535 (rmsPpt (a.tb.resid24.map Prod.snd) + (if d.1 then 1 else 0)))
  let c := b.relearn x ((n.1 : Rat) / (65536 : Nat))
  if c.hold.samples + 1 < 60 then { c with hold := { c.hold with samples := c.hold.samples + 1 } }
  else { c with hold := { c.hold with samples := 0 } }.bumpSat hmB Reg.hmStatusLearnH

/-- LEARN_SAMPLE (R486): every 60 s. -/
def execLearnSample (s : State) : Host.Outcome State Fault Refusal :=
  .next ((if s.learns then s.learn else s).modTb (fun t => { t with thetaSum := 0, rateSum := 0, thetaN := 0 }))

/-- R489: `reset`: the history is cleared and a new epoch starts. -/
def State.modelReset (s : State) : State :=
  let t := forUpTo 7 (fun k (u : State) => u.wr hmB Reg.hmCoefCoef 0 k) ((s.wr hmB Reg.hmStatusLearnH 0).wr hmB Reg.hmAgeAgeH 0)
  { t with hold := { t.hold with cov := [], samples := 0, epochTick := t.aonTick } }

/-- R489: words 0 to 62 of the image. -/
def State.modelWords (s : State) : List Nat :=
  [0x484D0001] ++ (List.range 7).map (fun k => s.rd hmB Reg.hmCoefCoef k) ++ (List.range 28).map (fun k => s.hold.cov.getD k 0)
    ++ [s.rd hmB Reg.hmStatusLearnH, s.ageHours % 2 ^ 32,
        s.rd hmB Reg.hmCtrlTau0H + s.rd hmB Reg.hmCtrlLambdaShift * 65536] ++ List.replicate 24 0

/-- R489: `export`. -/
def State.modelExport (s : State) : State :=
  let w := s.modelWords
  let image := w ++ [crc32 (Machine.wordBytes w)]
  (forUpTo 64 (fun i (t : State) => t.wr hmB Reg.hmImageWord (image.getD i 0) i) s).wr hmB Reg.hmXferResult 1

/-- R489: `import`: why the image is refused, or the model taken from it. -/
def State.modelImport (s : State) : State :=
  let w := fun i => s.rd hmB Reg.hmImageWord i
  let result := fun r => s.wr hmB Reg.hmXferResult r
  if w 0 ≠ 0x484D0001 then result 4
  else if w 63 ≠ crc32 (Machine.wordBytes ((List.range 63).map w)) then result 3
  else if s.tb.state = tbHoldover then result 5
  else
    let a := forUpTo 7 (fun k (t : State) => t.wr hmB Reg.hmCoefCoef (w (1 + k)) k) (result 2)
    let b := ((a.wr hmB Reg.hmStatusLearnH (w 36)).wr hmB Reg.hmAgeAgeH (w 37)).wr hmB Reg.hmCtrlTau0H
      (clampNat 1 1000 (bitsOf (w 38) 0 16))
    let c := b.wr hmB Reg.hmCtrlLambdaShift (clampNat 10 20 (bitsOf (w 38) 16 5))
    { c with hold := { c.hold with cov := (List.range 28).map (fun k => w (8 + k)), samples := 0, epochTick := c.aonTick } }

/-- R489: a write of HM_CMD by the lock holder; several bits act in ascending order. -/
def State.modelCmd (s : State) (fn data : Nat) : State :=
  if !s.mayWriteL hmB (masterOfFn fn) then s
  else
    let a := if bitAt data 0 then s.modelReset else s
    let b := if bitAt data 1 then a.modelExport else a
    if bitAt data 2 then b.modelImport else b

/-- MODEL_RESET (R489). -/
def execModelReset (fn : Fin 65) (s : State) : Host.Outcome State Fault Refusal :=
  .next (s.mmioWrite fn (hmB + 0x78) (fun t => t.modelCmd fn 1))

/-- MODEL_EXPORT (R489). -/
def execModelExport (fn : Fin 65) (s : State) : Host.Outcome State Fault Refusal :=
  .next (s.mmioWrite fn (hmB + 0x78) (fun t => t.modelCmd fn 2))

/-- MODEL_IMPORT (R489). -/
def execModelImport (fn : Fin 65) (s : State) : Host.Outcome State Fault Refusal :=
  .next (s.mmioWrite fn (hmB + 0x78) (fun t => t.modelCmd fn 4))

/-! ### Reading the time, PPS_OUT (R490, R491, R499) -/

/-- A time in nanoseconds as a capture, with its fraction in 2⁻¹⁶ ns. -/
def captureOf (ns frac : Nat) : Capture := { sec := ns / secNs % 2 ^ 48, ns := ns % secNs, frac := frac }

/-- R490, R462: a read of TB_TIME_NS captures site time, with the 125 ps step that the oscillator's frequency has brought it to. -/
def State.siteCapture (s : State) : Nat × State :=
  (s.siteNs % secNs, s.modTb (fun x => { x with capture := captureOf s.siteNs ((x.drift * 8 / driftUnit).toNat % 8 * 8192) }))

/-- R499: a read of PT_TIME_NS captures plate time. -/
def State.plateCapture (s : State) (p : Nat) : Nat × State :=
  (s.tkNs p % secNs, { s with ptCaps := Sparse.put {} s.ptCaps p (captureOf (s.tkNs p) 0) })

/-- TIME_CAPTURE_READ (R490, R499): TB_TIME_NS, or PT_TIME_NS of a plate. -/
def execTimeCaptureRead (fn : Fin 65) (plate : Option (Fin 8)) (s : State) : Host.Outcome State Fault Refusal :=
  .next (match plate with
    | none => s.mmioRead fn (tbB + 0xA0) (fun t => t.siteCapture)
    | some p => s.mmioRead fn (ptB p + 0x50) (fun t => t.plateCapture p))

/-- PPS_OUT_PULSE (R491): PPS_OUT rises within 2 ns of a whole second, for `pps_w_ms`. -/
def execPpsOutPulse (s : State) : Host.Outcome State Fault Refusal :=
  .next (if s.ppsOutOn ∧ s.chip.power = .up ∧ (s.siteSubNs ≤ 2 ∨ secNs ≤ s.siteSubNs + 2) then
      s.modTb (fun t => { t with ppsTill := s.now + s.rd tbB Reg.tbCtrlPpsWMs * msNs })
    else s)

/-! ### Broadcast and plate timekeepers (R492-R495) -/

/-- Bits of the plate timekeeper's EVENT (R499). -/
def evBcLost : Nat := 0
def evBcBack : Nat := 1
def evPtStepped : Nat := 2
def evRejoined : Nat := 3

def State.tkRuns (s : State) (p : Nat) : Bool := s.tkOp p == opRunning

/-- R332, R335: the local instants that a mirror holds move with the plate's time. -/
def State.shiftMirrors (s : State) (p : Nat) (d : Int) : State :=
  { s with mirrors := s.mirrors.map (fun e =>
      if e.1 / 256 = p then (e.1, { e.2 with posAt := e.2.posAt + d * nsU, nextAt := e.2.nextAt + d * nsU }) else e) }

/-- R332, R435, R448: the plate's time has moved by `d` ns. -/
def State.plateTimeMoved (s : State) (p : Nat) (d : Int) : State :=
  ((forEach (s.openChans p) (fun g (t : State) => t.jbShift g d) s).shiftMirrors p d).highwayStep p d

/-- R483, R492: plate `p` takes a step of `d` ns with the broadcast word, unless it is on its own clock or misses the word; a timekeeper
that does not run tells nothing of it (R495). -/
def State.stepPlate (s : State) (p : Nat) (d : Int) (bad : Bool) : State :=
  let k := s.tk p
  if k.rejoin then s.setTk p { k with offset := s.tkOffset p - 8 * d, rejoinFrom := s.now }
  else if k.own || (s.tkRuns p && (bad || k.offset != 0)) then s.setTk p { k with offset := k.offset - 8 * d }
  else
    let t := (s.plateTimeMoved p d).hatchMoved p d
    if s.tkRuns p then (t.bumpSat (ptB p) Reg.ptStatSteps).raise (ptB p) evPtStepped else t

/-- R483: a pending step is applied at the broadcast word. -/
def State.applyStep (s : State) (bad : Nat) : State :=
  match s.tb.step with
  | none => s
  | some d =>
    let a := s.modTb (fun t => { t with
      epoch := t.epoch + d, step := none, timeSet := true, movedAt := s.now
      epochs := (s.now, t.epoch) :: t.epochs.filter (fun e => decide (s.now ≤ e.1 + secNs)) })
    forUpTo 8 (fun p (t : State) => t.stepPlate p d (bitAt bad p)) ((a.bumpSat tbB Reg.tbCountsSteps).raise tbB evTbStepped)


/-- BROADCAST_LOSS (R493): `bc_miss` bad words in a row. -/
def execBroadcastLoss (p : Fin 8) (s : State) : Host.Outcome State Fault Refusal :=
  .next (
    if s.tkRuns p && !(s.tk p).own && decide (s.rd (ptB p) Reg.ptCtrlBcMiss ≤ (s.tk p).badRun) then
      ((s.goOwn p).bumpSat (ptB p) Reg.ptStatLosses).raise (ptB p) evBcLost
    else s)

/-- R494: the timekeeper adopts site time. -/
def State.adopt (s : State) (p : Nat) : State :=
  let d := -(s.tkOffset p) / 8
  let own := min ((s.now - (s.tk p).ownFrom) / msNs) (2 ^ 32 - 1)
  let t := s.setTk p { goodRun := (s.tk p).goodRun }
  let a := if (s.tk p).own then t.wr (ptB p) Reg.ptOwnOwnMs own else t
  ((a.plateTimeMoved p d).hatchRejoin p d).raise (ptB p) evRejoined

/-- R493, R494: plate `p` receives the word, which is bad: missing, failing its check, or more than 100 ns from its time; a valid one
brings site time to a timekeeper that waits for it. -/
def State.takeWord (s : State) (p : Nat) (bad : Bool) : State :=
  let k := s.tk p
  if !s.tkRuns p then s
  else if bad || (!k.own && decide (800 < k.offset.natAbs)) then
    (s.setTk p { k with badRun := min 15 (k.badRun + 1), goodRun := 0 }).bumpSat (ptB p) Reg.ptStatBadWords
  else
    let t := s.setTk p { k with badRun := 0, goodRun := min 1000 (k.goodRun + 1) }
    if k.adopting then t.adopt p else t

/-- BROADCAST_WORD (R492, R493, R483): `bad` has the bit of each plate whose word is missing or fails its check. -/
def execBroadcastWord (bad : BitVec 8) (s : State) : Host.Outcome State Fault Refusal :=
  .next (
    if s.isSet crB Reg.crRefStatusTbPllLock then
      forUpTo 8 (fun p t => t.takeWord p (bitAt bad.toNat p)) (s.applyStep bad.toNat)
    else s)

/-- R495: does the host hold the timekeeper on its own clock? -/
def State.tkHostOwn (s : State) (p : Nat) : Bool := s.rd (ptB p) Title.hostOp == opRunning && s.rd (ptB p) Title.hostMode == 2

/-- BROADCAST_BACK (R494): after 1 ms of valid words the offset is recorded: site time is adopted at the next word, or slewed to. -/
def execBroadcastBack (p : Fin 8) (s : State) : Host.Outcome State Fault Refusal :=
  .next (
    let k := s.tk p
    if s.tkRuns p && k.own && !k.rejoin && !k.adopting && decide (1000 ≤ k.goodRun) && !s.tkHostOwn p then
      let off := s.tkOffset p
      let a := (s.wrS (ptB p) Reg.ptOffsetOffset off).raise (ptB p) evBcBack
      if off.natAbs ≤ 8 * s.rd tbB Reg.tbStepStepLimit ∨ !a.activeIn p (p + 1) then a.setTk p { k with adopting := true }
      else a.setTk p { k with offset := off, rejoin := true, rejoinFrom := a.now }
    else s)

/-- REJOIN_ADOPT (R494): the slew is within 8 ns. -/
def execRejoinAdopt (p : Fin 8) (s : State) : Host.Outcome State Fault Refusal :=
  .next (if s.tkRuns p && (s.tk p).rejoin && decide ((s.tkOffset p).natAbs ≤ 64) then s.adopt p else s)

/-- R495, R499: HOST_STATE of the timekeeper. -/
def State.tkIntent (s : State) (fn p data : Nat) : State :=
  if !s.mayWriteL (ptB p) (masterOfFn fn) then s
  else
    let mode := if bitsOf data 8 8 = 2 then 2 else 1
    let t := s.storeIntent (ptB p) (intentOp data) mode
    let k := t.tk p
    if intentOp data = opRunning ∧ mode = 2 ∧ t.tkRuns p then
      if !k.own then t.goOwn p else if k.rejoin then t.setTk p (t.tkCoasting p) else t.setTk p { k with adopting := false }
    else t

/-- TIMEKEEPER_HOST_STATE_WRITE (R495). -/
def execTimekeeperHostStateWrite (fn : Fin 65) (p : Fin 8) (data : Word) (s : State) : Host.Outcome State Fault Refusal :=
  .next (s.mmioWrite fn (ptB p + 0x20) (fun t => t.tkIntent fn p data.toNat))

end Sys2Proof.Machine
end

