-- ==== Sys2Proof/Machine/Sleep.lean ====
section
/-! DEFINITION. Quiet mode (20_power_sleep.md R663-R667, R674-R678): when a plate is ready, what entering quiet mode does, and
the quiet vote. -/

namespace Sys2Proof.Machine

/-- R663, R671: is the plate ready to enter quiet mode? -/
def State.quietReady (s : State) (p : Nat) : Bool :=
  s.enteringQuiet p && !s.activeIn p (p + 1) && s.plateInFlight p == 0 && !bitAt (s.rd qmB Reg.qmWakePendPlates) p

/-- R172: the gravers of a plate stop; where each stands is a free value (log entry 7). -/
def State.haltGravers (s : State) (p : Nat) : State :=
  forUpTo 4 (fun v t =>
    let u := if t.graverRuns p v then t.holdPc p v else t
    u.setGraver p v { u.graver p v with late := false }) s

/-- R665, R666: the plate enters quiet mode. A wake that came at or after T_c then takes its slot (R670, R678). -/
def State.enterQuiet (s : State) (p : Nat) : State :=
  let a := (((s.haltGravers p).plateQuietPort p).quietHatch p).quietHighway p
  let b := { a with quietReqs := Sparse.del a.quietReqs p }
  let c := b.wr crB Reg.crClkMonPlatePll (setBit (b.rd crB Reg.crClkMonPlatePll) p false)
  let d := (c.wr crB Reg.crPlateRunPowered (setBit (c.rd crB Reg.crPlateRunPowered) p false)).setPlateOp p opQuiet
  if bitAt (d.rd qmB Reg.qmWakePendPlates) p then d.setPlate p { d.plate p with stage := .waitSlot, fromQuiet := true } else d

/-! ### The vote (R674-R677) -/

/-- The coordinated plates that this device has. -/
def State.coordPlates (s : State) : List Nat := (List.range 8).filter (fun p => s.coordinated p && s.plateEnabled p)

/-- R677: the vote state; ASLEEP ends when no coordinated plate is QUIET. -/
def State.voteNow (s : State) : Nat :=
  if s.quiet.vote = voteAsleep ∧ !(s.coordPlates.any s.plateQuiet) then voteIdle else s.quiet.vote

/-- R674: the linked members, and whether this device coordinates them: the lowest SID, then the lower unique ID, which is the
order of the node numbers (R695). -/
def State.members (s : State) : List Nat := s.nodesPresent.filter (· != s.myNode)
def State.coordinates (s : State) : Bool := s.nodesPresent.head? == some s.myNode

/-- R675: is every linked member reachable: none that was heard has fallen silent? -/
def State.membersReachable (s : State) : Bool := s.epk.heard.all (fun e => s.nodePresent e.1)

/-- R675: would this member vote yes? -/
def State.votesYes (s : State) : Bool :=
  s.rd qmB Title.hostOp == opRunning && s.membersReachable && s.coordPlates.all s.quietReady

/-- A round begins or is joined: its number and T_c are stored (R684). -/
def State.takeRound (s : State) (round tc vote : Nat) : State :=
  let a := s.wr qmB Reg.qmRoundRound round
  let b := (a.wr qmB Reg.qmCommitNsNs (tc % secNs)).wr qmB Reg.qmCommitSecSec (tc / secNs)
  { b with quiet := { b.quiet with vote := vote, tc := tc, proposedAt := b.now, yes := [] } }

/-- Does a frame's round number name the round under way? -/
def State.sameRound (s : State) (round : Nat) : Bool := s.rd qmB Reg.qmRoundRound == round % 256

/-- R677: with every member's yes in time the coordinator commits. -/
def State.tryCommit (s : State) : State :=
  if s.quiet.vote = voteProposed ∧ s.members.all (fun n => s.quiet.yes.contains n)
      ∧ s.now ≤ s.quiet.proposedAt + s.rd qmB Reg.qmVoteCfgVoteMs * msNs ∧ s.siteNs + 2 * msNs ≤ s.quiet.tc then
    { s.broadcast (.commit (s.rd qmB Reg.qmRoundRound)) with quiet := { s.quiet with vote := voteArmed } }
  else s

/-- R676: the coordinator proposes a round. -/
def State.propose (s : State) : State :=
  let lead := s.rd qmB Reg.qmVoteCfgCommitLeadMs * msNs
  let tc := (s.siteNs + lead + msNs - 1) / msNs * msNs
  let round := (s.rd qmB Reg.qmRoundRound + 1) % 256
  ((s.takeRound round tc voteProposed).broadcast (.propose round tc)).tryCommit

/-- VOTE_PROPOSE (R676). -/
def execVotePropose (s : State) : Host.Outcome State Fault Refusal :=
  .next (if s.chip.sheetsReady && s.voteNow == voteIdle && s.coordinates && s.votesYes
      && decide (s.quiet.endedAt + s.rd qmB Reg.qmVoteCfgRetryMs * msNs ≤ s.now) then s.propose
    else s)

/-- VOTE_WINDOW_TIMEOUT (R677): a vote is missing at the end of the window. -/
def execVoteWindowTimeout (s : State) : Host.Outcome State Fault Refusal :=
  .next (if s.quiet.vote == voteProposed
      && (decide (s.quiet.proposedAt + s.rd qmB Reg.qmVoteCfgVoteMs * msNs ≤ s.now) || decide (s.quiet.tc ≤ s.siteNs + 2 * msNs))
    then s.abortRound (some s.siteNs) else s)

/-- COMMIT_WAIT_TIMEOUT (R677): no COMMIT by T_c − 1 ms. -/
def execCommitWaitTimeout (s : State) : Host.Outcome State Fault Refusal :=
  .next (if s.quiet.vote == voteVoted && decide (s.quiet.tc ≤ s.siteNs + msNs) then s.abortRound (some s.siteNs) else s)

/-- R677: entry for every coordinated plate that waits. -/
def State.commitQuiet (s : State) : State :=
  let t := forEach (s.coordPlates.filter s.enteringQuiet) (fun p u => u.enterQuiet p) s
  ({ t with quiet := { t.quiet with vote := voteAsleep, yes := [], endedAt := t.now } }.bumpSat qmB Reg.qmCountsCommits).raise
    qmB evCommitted

/-- COMMIT_INSTANT (R677): T_c + 50 µs. -/
def execCommitInstant (s : State) : Host.Outcome State Fault Refusal :=
  .next (if s.quiet.vote == voteArmed && decide (s.quiet.tc + 50000 ≤ s.siteNs) then s.commitQuiet else s)

end Sys2Proof.Machine
end

