-- ==== Sys2Proof/Machine/Stack.lean ====
section
/-! DEFINITION. The Epkuone lanes and the stack (21_pairs_stacks.md R686-R697, R724-R731): lane bring-up, frames received and
relayed, time markers, shared admission, and the vote and wake frames (20_power_sleep.md R673-R678). -/

namespace Sys2Proof.Machine

/-! ### Lanes (R688, R693) -/

/-- Is lane `l` enabled: its bit of `lane_en`, the intent, and for a PAIR lane the PAIR_EN strap? -/
def State.laneEnabled (s : State) (l : Nat) : Bool :=
  s.chip.sheetsReady && s.rd ekB Title.hostOp == opRunning && bitAt (s.rd ekB Reg.ekCtrlLaneEn) l
    && (decide (2 ≤ l) || s.isSet crB Reg.crStrapsPairEn)

/-- A lane takes a state at this instant. -/
def State.setLane (s : State) (l v : Nat) : State :=
  (s.wr ekB Reg.ekLaneState v l).setEkLane l { s.ekLane l with since := s.now }

/-- R736: `pair_change` when the pair is formed or no longer is, against what it was in `before`. -/
def State.notePair (s before : State) : State :=
  if s.pairFormed = before.pairFormed then s else s.raise ekB evPairChange

/-- The grant of one lane: asked for while the lane is enabled, released when it is not (R654, R688). -/
def State.laneGrant (s : State) (l : Nat) : State :=
  if s.laneEnabled l then
    if bitAt s.epkGrants l || s.asking (.epkLane l) then s else s.ask (.epkLane l)
  else { s.withdraw (.epkLane l) with epkGrants := setBit s.epkGrants l false }

/-- R736: the sheet's operating code: STARTING while an enabled lane lacks its grant. -/
def State.epkOp (s : State) : Nat :=
  if s.rd ekB Title.hostOp ≠ opRunning ∨ !s.chip.sheetsReady then opOff
  else if [0, 1, 2, 3].all (fun l => !s.laneEnabled l || bitAt s.epkGrants l) then opRunning
  else opStarting

/-- R688, R693: one lane starts when R688 is met and goes to OFF when it is not. -/
def State.laneFollow (s : State) (l : Nat) : State :=
  if s.laneEnabled l && s.epkOp == opRunning then (if s.laneState l = laneOff then s.setLane l laneTrain else s)
  else if s.laneState l = laneOff then s
  else s.setLane l laneOff

/-- R688, R736: what an intent, an enable or a grant does to the lanes. -/
def State.refreshLanes (s : State) : State :=
  let a := forUpTo 4 (fun l t => t.laneGrant l) s
  let b := forUpTo 4 (fun l t => t.laneFollow l) (a.setOp ekB a.epkOp)
  let c := b.notePair s
  { c with pins := { c.pins with epkTxIdle := c.serdesIdle || [0, 1, 2, 3].all (fun l => c.laneState l == laneOff) } }

/-- R736: HOST_STATE of the Epkuone sheet: OFF releases every ACTIVE plate before the lanes stop. -/
def State.epkIntent (s : State) (fn data : Nat) : State :=
  if !s.mayWriteL ekB (masterOfFn fn) then s
  else
    let op := if intentOp data = opOff then opOff else opRunning
    let a := if op = opOff then forUpTo 8 (fun p t => t.releasePlate p) s else s
    (a.storeIntent ekB op 0).refreshLanes

/-- EPK_HOST_STATE_WRITE (R736). -/
def execEpkHostStateWrite (fn : Fin 65) (data : Word) (s : State) : Host.Outcome State Fault Refusal :=
  .next (s.mmioWrite fn (ekB + 0x20) (fun t => t.epkIntent fn data.toNat))

/-- LANE_BLOCK_LOCK (R693, R131): block lock has been held for 1 ms. -/
def execLaneBlockLock (l : Fin 4) (s : State) : Host.Outcome State Fault Refusal :=
  .next (if s.laneState l = laneTrain ∧ !s.serdesIdle then s.setLane l laneLock else s)

/-- HELLO_SEND (R693): until the lane is UP. -/
def execHelloSend (l : Fin 4) (s : State) : Host.Outcome State Fault Refusal :=
  .next (
    let st := s.laneState l
    if st = laneLock ∨ st = laneHello then
      let t := s.sendEpk [l.val] none everyNode
        (.hello Config.uid 0x2048 s.sid (s.isSet crB Reg.crStrapsPairEn) l s.myNode)
      if st = laneLock then t.setLane l laneHello else t
    else s)

/-- LANE_TRAIN_TIMEOUT (R693): no progress for 100 ms. -/
def execLaneTrainTimeout (l : Fin 4) (s : State) : Host.Outcome State Fault Refusal :=
  .next (
    let st := s.laneState l
    if (st = laneTrain ∨ st = laneLock ∨ st = laneHello) ∧ (s.ekLane l).since + 100 * msNs ≤ s.now then s.setLane l laneTrain
    else s)

/-- R677: a link down in PROPOSED ends the round. -/
def State.voteLinkDown (s : State) : State := if s.quiet.vote = voteProposed then s.abortRound (some s.siteNs) else s

/-- LANE_LOSS (R693): an UP or CONFLICT lane loses block lock for 10 µs, or hears no frame for `loss_ms`. -/
def execLaneLoss (l : Fin 4) (blockLock : Bool) (s : State) : Host.Outcome State Fault Refusal :=
  .next (
    let st := s.laneState l
    if (st = laneUp ∨ st = laneConflict) ∧ (blockLock ∨ (s.ekLane l).heard + s.lossNs ≤ s.now) then
      let t := (((s.setLane l laneTrain).bumpSat ekB Reg.ekLaneDowns l).raise ekB evLaneChange).notePair s
      if st = laneUp then t.voteLinkDown else t
    else s)

/-- EPK_BAD_FRAME (R691). -/
def execEpkBadFrame (l : Fin 4) (s : State) : Host.Outcome State Fault Refusal :=
  .next (if s.laneState l = laneOff then s else s.bumpSat ekB Reg.ekLaneCrcErr l)

/-! ### Presence and the master (R695, R697) -/

/-- The master among the nodes that have not been declared absent. -/
def State.listedMaster (s : State) : Option Nat :=
  ([0, 1].filter (fun n => n == s.myNode || (Sparse.find? s.epk.heard n).isSome)).head?

/-- R697, R729: the master changes; a device that joins a stack holds a lease equal to its active charge. -/
def State.noteMaster (s before : State) : State :=
  if s.listedMaster = before.listedMaster then s
  else
    let t := s.raise ekB evMasterChange
    if t.epk.leased || t.listedMaster.isNone || t.listedMaster == some t.myNode then t
    else { t.wr ekB Reg.ekStkLeaseLease (min 16383 t.activeCharge) with epk := { t.epk with leased := true } }

/-- R695, R696: a frame of node `n` has arrived on lane `l`. -/
def State.heardOn (s : State) (l n : Nat) : State :=
  let a := s.setEkLane l { s.ekLane l with heard := s.now }
  if n = s.myNode then a
  else
    let e := a.epk
    let b := { a with epk := { e with
      heard := Sparse.ins e.heard n a.now
      partnerHeard := if a.hasPartner && n == a.partnerNode then a.now else e.partnerHeard } }
    b.noteMaster s

/-! ### HELLO (R694) -/

/-- R694: is the peer that a HELLO on lane `l` names refused? -/
def State.helloRefused (s : State) (l peer device sid : Nat) (pairEn : Bool) (node : Nat) : Bool :=
  device != 0x2048
    || (decide (l < 2) && (!pairEn || sid != s.sid || peer == Config.uid
        || (s.laneIsUp (1 - l) && (s.ekLane (1 - l)).peerUid != peer)))
    || (decide (2 ≤ l) && ((sid == s.sid && s.epk.partnerUid != some peer)
        || (s.laneIsUp (5 - l) && s.rd ekB Reg.ekLanePeerNode (5 - l) == node)))

/-- A PAIR lane names the partner: a new partner starts with nothing known of it. -/
def State.takePartner (s : State) (peer : Nat) : State :=
  let a := if s.epk.partnerUid = some peer then s
    else forUpTo 8 (fun p t => t.modPair p (fun q => { q with partner := none })) s
  ({ a with epk := { a.epk with partnerUid := some peer, partnerHeard := a.now } }.wr ekB Reg.ekPartnerLoUid peer).wr ekB
    Reg.ekPartnerHiUid (peer / 2 ^ 32)

/-- R693, R695: the lane comes UP. -/
def State.laneComesUp (s : State) (l peer node : Nat) : State :=
  let a := (s.wr ekB Reg.ekLaneState laneUp l).wr ekB Reg.ekLanePeerNode node l
  let b := a.setEkLane l { since := a.now, heard := a.now, peerUid := peer }
  let c := if l < 2 then b.takePartner peer else b
  (c.notePair s).noteMaster s

/-- HELLO_RECEIVED (R693, R694). -/
def execHelloReceived (l : Fin 4) (peer : BitVec 64) (device : BitVec 16) (sid : Fin 4) (pairEn : Bool) (lane : Fin 4)
    (node : Fin 8) (s : State) : Host.Outcome State Fault Refusal :=
  .next (
    let st := s.laneState l
    let _ := lane
    if st = laneHello then
      if s.helloRefused l peer.toNat device.toNat sid pairEn node then
        let t := (s.setLane l laneConflict).raise ekB evConflict
        t.setEkLane l { t.ekLane l with heard := t.now }
      else s.laneComesUp l peer.toNat node
    else if st = laneUp ∨ st = laneConflict then s.setEkLane l { s.ekLane l with heard := s.now }
    else s)

/-! ### Frames received (R692) -/

/-- R724: a relay adds the time a marker stays in it, at most 2.5 µs and otherwise open, and describes its own lane. -/
def State.relayBody (s : State) (l : Nat) : EpkBody → EpkBody × State
  | .marker time corr st src _ _ =>
    let d := s.drawBetween 0 (2500 * 65536)
    (.marker time (corr + d.1) st src (s.ekLane l).lastSeq (8 * (s.now - (s.ekLane l).lastAt)), d.2)
  | b => (b, s)

/-- R692: a stack frame that is not for this node alone leaves on the other stack lane. -/
def State.relay (s : State) (h : EpkHdr) (b : EpkBody) : State :=
  let other := 5 - h.lane.val
  if h.lane.val < 2 ∨ h.dest.val = s.myNode ∨ h.hops.val = 0 ∨ h.origin.val = s.myNode ∨ !s.laneIsUp other then s
  else
    let r := s.relayBody other b
    r.2.emit (.epk { h with lane := Fin.ofNat 4 other, relayed := true, hops := Fin.ofNat 8 (h.hops.val - 1) } r.1)

/-- R692, R695: a frame arrives on a lane that is UP: it is relayed, and `f` uses it when it is for this node and not its
own. Mirror frames travel on the PAIR lanes only. -/
def State.epkIn (s : State) (h : EpkHdr) (b : EpkBody) (f : State → State) : State :=
  let mirror := match b with | .impression .. | .proof .. | .ack .. => true | _ => false
  if !s.laneIsUp h.lane || (mirror && decide (2 ≤ h.lane.val)) then s
  else
    let t := s.heardOn h.lane h.origin
    let u := if mirror then t else t.relay h b
    if h.origin.val ≠ u.myNode ∧ (h.dest = everyNode ∨ h.dest.val = u.myNode) then f u else u

/-! ### Time markers (R724-R727) -/

/-- MARKER_SEND (R696, R724): a marker leaves on each lane that is UP. -/
def execMarkerSend (s : State) : Host.Outcome State Fault Refusal :=
  .next (forEach s.upLanes (fun l t =>
    let x := t.ekLane l
    let q := Sparse.get 0 t.epk.seqs 0x02
    let u := t.sendEpk [l] none everyNode (.marker ((t.siteNs : Int) * 65536) 0 t.tb.state t.tbSelected x.lastSeq
      (8 * (t.now - x.lastAt)))
    u.setEkLane l { x with sent := ((q, t.now) :: x.sent).take 64 }) s)

/-- R726: the origin of source 4, if there is one. -/
def State.markerOrigin (s : State) : Option Nat :=
  (List.range 8).find? (fun n => n != s.myNode && s.nodePresent n
    && (match Sparse.find? s.epk.clocks n with
        | some c => (c.1 == tbLocked || c.1 == tbHoldover) && c.2 != 4
        | none => false))

/-- Source 4 is not qualified and starts to be judged anew. -/
def State.dropMarkers (s : State) : State :=
  ({ s with epk := { s.epk with errors := [] } }.wr ekB Reg.ekTimeQualified 0).setQualified 4 false

/-- R726: EK_TIME names the origin; a change of origin disqualifies source 4. -/
def State.noteOrigin (s : State) : State :=
  let now := s.markerOrigin
  let was := if s.isSet ekB Reg.ekTimeOriginOk then some (s.rd ekB Reg.ekTimeOrigin) else none
  if now = was then s
  else ((s.wr ekB Reg.ekTimeOrigin (now.getD 0)).wrB ekB Reg.ekTimeOriginOk now.isSome).dropMarkers

/-- R725: the lane's delay, half the mean of the last 64 round trips. -/
def State.markerDelay (s : State) (l lastSeq held : Nat) : State :=
  let x := s.ekLane l
  match x.sent.find? (fun e => e.1 == lastSeq) with
  | none => s
  | some e =>
    let trips := ((8 * (s.now - e.2) - held) :: x.trips).take 64
    let d := s.drawRound (trips.foldl (· + ·) 0 : Nat) (2 * trips.length : Nat)
    (d.2.setEkLane l { x with trips := trips }).wr ekB Reg.ekDelayDelay d.1.toNat l

/-- The span of a list of errors. -/
def errorSpan (l : List Int) : Int := l.foldl max (l.headD 0) - l.foldl min (l.headD 0)

/-- R726: the phase error of a marker from the origin, in 2⁻¹⁶ ns. -/
def State.markerError (s : State) (l : Nat) (time correction : Int) : State :=
  let e : Int := (s.siteNs : Int) * 65536 - (time + correction + 8192 * (s.rd ekB Reg.ekDelayDelay l : Nat))
  let errors := (e :: s.epk.errors).take 8
  let ns := divRound e 65536
  let a := { s with epk := { s.epk with errors := errors, markerAt := s.now } }.noteError 4 ns
  let b := if errors.length = 8 ∧ errorSpan errors ≤ 100 * 65536 then (a.wr ekB Reg.ekTimeQualified 1).setQualified 4 true else a
  b.tbPhase 4 ns s.now

/-- R725, R726: what a marker is used for. -/
def State.useMarker (s : State) (h : EpkHdr) (time correction : Int) (tbState source lastSeq held : Nat) : State :=
  let l := h.lane.val
  let a := s.markerDelay l lastSeq held
  let b := if h.relayed then a else a.setEkLane l { a.ekLane l with lastSeq := h.seq, lastAt := a.now }
  let c := { b with epk := { b.epk with clocks := Sparse.ins b.epk.clocks h.origin.val (tbState, source) } }.noteOrigin
  if c.markerOrigin = some h.origin.val then c.markerError l time correction else c

/-- MARKER_RECEIVED (R724-R726). -/
def execMarkerReceived (h : EpkHdr) (time correction : Int) (tbState source lastSeq held : Nat) (s : State) :
    Host.Outcome State Fault Refusal :=
  .next (s.epkIn h (.marker time correction tbState source lastSeq held) (fun t =>
    t.useMarker h time correction tbState source lastSeq held))

/-- EPK_TIME_SOURCE_LOSS (R726): 3 ms without a marker from the origin. -/
def execEpkTimeSourceLoss (s : State) : Host.Outcome State Fault Refusal :=
  .next (if s.tbQualified 4 && decide (s.epk.markerAt + 3 * msNs ≤ s.now) then s.dropMarkers else s)

/-! ### Shared admission (R728, R729) -/

/-- The charge of node `n` as its last report gives it; this device's own. -/
def State.reported (s : State) (n : Nat) : Nat := if n = s.myNode then s.activeCharge else Sparse.get 0 s.epk.reports n

/-- R728: the leases of the eight nodes. -/
def State.leases (s : State) : List Nat :=
  let ceil := s.rd ekB Reg.ekStkCeilCeiling
  let sum := s.nodesPresent.foldl (fun k n => k + s.reported n) 0
  let share := if ceil ≤ sum then 0 else (ceil - sum) / s.nodesPresent.length
  (List.range 8).map (fun n =>
    if !s.nodePresent n then 0 else if ceil = 0 then 16383 else min 16383 (s.reported n + share))

/-- A lease is in force from now on (R729). -/
def State.takeLease (s : State) (v : Nat) : State :=
  { s.wr ekB Reg.ekStkLeaseLease v with epk := { s.epk with leased := true } }

/-- R728: the master forms the leases, takes its own and sends the others'. -/
def State.grantLeases (s : State) : State :=
  let l := s.leases
  (s.takeLease ((l[s.myNode]?).getD 0)).broadcast (.lease l)

/-- STK_REPORT_SEND (R728): the charge goes to the master; the master's own reaches it at once. -/
def execStkReportSend (s : State) : Host.Outcome State Fault Refusal :=
  .next (
    let a := s.wr ekB Reg.ekStkLeaseCharge (min 16383 s.activeCharge)
    if s.rd ekB Title.hostOp ≠ opRunning ∨ !s.chip.sheetsReady then s
    else match a.master with
      | none => a
      | some m => if m = a.myNode then a.grantLeases else a.sendEpk a.upLanes none (Fin.ofNat 9 m) (.report a.activeCharge))

/-- STK_REPORT_RECEIVED (R728). -/
def execStkReportReceived (h : EpkHdr) (charge : Nat) (s : State) : Host.Outcome State Fault Refusal :=
  .next (s.epkIn h (.report charge) (fun t =>
    if t.master = some t.myNode then
      { t with epk := { t.epk with reports := Sparse.put 0 t.epk.reports h.origin.val charge } }.grantLeases
    else t))

/-- STK_LEASE_RECEIVED (R729): the master's leases. -/
def execStkLeaseReceived (h : EpkHdr) (leases : List Nat) (s : State) : Host.Outcome State Fault Refusal :=
  .next (s.epkIn h (.lease leases) (fun t =>
    if t.master = some h.origin.val then t.takeLease (min 16383 ((leases[t.myNode]?).getD 0)) else t))

/-! ### Votes and wakes (R673-R678, R731) -/

/-- PROPOSE_RECEIVED (R677): a member that votes no stays IDLE. -/
def execProposeReceived (h : EpkHdr) (round : BitVec 8) (tc : Nat) (s : State) : Host.Outcome State Fault Refusal :=
  .next (s.epkIn h (.propose round.toNat tc) (fun t =>
    if t.voteNow ≠ voteIdle then t
    else if t.votesYes then (t.takeRound round.toNat tc voteVoted).broadcast (.vote round.toNat true)
    else t.broadcast (.vote round.toNat false)))

/-- VOTE_RECEIVED (R677). -/
def execVoteReceived (h : EpkHdr) (round : BitVec 8) (yes : Bool) (s : State) : Host.Outcome State Fault Refusal :=
  .next (s.epkIn h (.vote round.toNat yes) (fun t =>
    if t.quiet.vote = voteProposed && t.sameRound round.toNat then
      if yes then { t with quiet := { t.quiet with yes := insertAsc h.origin t.quiet.yes } }.tryCommit
      else t.abortRound (some t.siteNs)
    else t))

/-- COMMIT_RECEIVED (R677). -/
def execCommitReceived (h : EpkHdr) (round : BitVec 8) (s : State) : Host.Outcome State Fault Refusal :=
  .next (s.epkIn h (.commit round.toNat) (fun t =>
    if t.quiet.vote = voteVoted && t.sameRound round.toNat then { t with quiet := { t.quiet with vote := voteArmed } } else t))

/-- R677: is a round under way, and in ARMED does a stamp from before T_c arrive before T_c + 50 µs? -/
def State.abortable (s : State) (stamp : Nat) : Bool :=
  s.quiet.vote == voteVoted || s.quiet.vote == voteProposed
    || (s.quiet.vote == voteArmed && decide (stamp < s.quiet.tc) && decide (s.siteNs < s.quiet.tc + 50000))

/-- ABORT_RECEIVED (R677). -/
def execAbortReceived (h : EpkHdr) (round : BitVec 8) (stamp : Nat) (s : State) : Host.Outcome State Fault Refusal :=
  .next (s.epkIn h (.abort round.toNat stamp) (fun t =>
    if t.sameRound round.toNat && t.abortable stamp then t.abortRound none else t))

/-- WAKE_FRAME_RECEIVED (R673, R677): the plates named that are coordinated and QUIET or entering quiet mode wake, with source
code 4; an armed round whose T_c lies after the stamp ends. -/
def execWakeFrameReceived (h : EpkHdr) (plates : BitVec 8) (stamp : Nat) (s : State) : Host.Outcome State Fault Refusal :=
  .next (s.epkIn h (.wake plates.toNat stamp) (fun t =>
    let a := if t.quiet.vote == voteArmed && t.abortable stamp then t.abortRound none else t
    let m := a.coordinatedAsleep plates.toNat
    if m = 0 then a else a.requestWake wakeEpk m))

/-- NODE_ABSENT (R695): no frame of node `n` for `loss_ms`; the master, the leases, the origin and the vote may change. -/
def execNodeAbsent (n : Fin 8) (s : State) : Host.Outcome State Fault Refusal :=
  .next (if (Sparse.find? s.epk.heard n).isSome && !s.nodePresent n then
      let e := s.epk
      let a := { s with epk := { e with heard := Sparse.del e.heard n, reports := Sparse.del e.reports n
                                        clocks := Sparse.del e.clocks n } }
      ((a.noteMaster s).noteOrigin).voteLinkDown
    else s)

end Sys2Proof.Machine
end

