-- ==== Sys2Proof/Machine/Pairs.lean ====
section
/-! DEFINITION. Pairs (21_pairs_stacks.md R698-R723, R732-R738): the roles of a plate, impressions and proofs, the standby's
mirror, takeover and switchover, the trace check of pair activity, and the Epkuone agent. -/

namespace Sys2Proof.Machine

/-! ### Roles (R698-R703) -/

/-- A plate takes a role; a shared highway follows it (R722). -/
def State.setRole (s : State) (p r : Nat) : State := (s.wr ekB Reg.ekPlateRole r p).driveHighway p

/-- R702: entry to ACTIVE: the epoch rises, the stamp is taken, protection is NONE, and the partner hears of it (R698). -/
def State.goActive (s : State) (p : Nat) : State :=
  let e := match (s.pair p).partner with
    | some q => max q.epoch (s.rd ekB Reg.ekPlateEpoch p)
    | none => s.rd ekB Reg.ekPlateEpoch p
  let a := ((s.dropProt p).setRole p roleActive).wr ekB Reg.ekPlateEpoch ((e + 1) % 256) p
  (a.modPair p (fun q => { q with stamp := a.siteNs, wasActive := true, takeCause := none, handoverDue := false })).sendRole 0 none

/-- R699, R701: the plate becomes STANDBY; its channels stop at the next frame tick; a plate that had been ACTIVE is demoted. -/
def State.goStandby (s : State) (p : Nat) : State :=
  let a := (s.dropProt p).setRole p roleStandby
  let b := a.modPair p (fun q => { q with demote := true, applied := 0, askedAt := 0, switch := false })
  let c := if (s.pair p).wasActive then (b.bumpSat ekB Reg.ekCountsDemotions).raise ekB evDemoted else b
  c.sendRole 0 none

/-- A mirrored or stopped channel is gone: nothing is held and the path is IDLE, for none of the reasons of R228 (log entry 110); its
intent is CLOSED, since no word of it is carried any more (R710). -/
def State.dropMirror (s : State) (g : Nat) : State :=
  let a := (((s.releaseChannel g).setPath g pathIdle).wr (chB g) Reg.chPathReason 0).wr (chB g) Reg.chIntentWant wantClosed
  { a with mirrors := Sparse.del a.mirrors g }.modChan g (fun c => { c with settled := pathIdle })

/-- The mirrored channels of plate `p`, ascending. -/
def State.mirrorChans (s : State) (p : Nat) : List Nat := (s.mirrors.filter (fun e => e.1 / 256 == p)).map Prod.fst

/-- R702: the plate is no longer paired: its role is NONE; a STANDBY plate gives up its mirrors without takeover. -/
def State.unpair (s : State) (p : Nat) : State :=
  let a := if s.role p = roleStandby then forEach (s.mirrorChans p) (fun g t => t.dropMirror g) s else s
  let b := (a.dropProt p).setRole p roleNone
  (b.modPair p (fun q => { q with takeCause := none, demote := false, switch := false, handoverDue := false })).sendRole 0 none

/-- R699: does the plate that `m` describes, on node `mine`, win against `q` on node `other`? -/
def roleWins (m q : RoleEntry) (mine other : Nat) : Bool :=
  if m.running ≠ q.running then m.running
  else if (m.want = 1) ≠ (q.want = 1) then m.want == 1
  else if m.want = 3 ∧ q.want = 2 then true
  else if m.want = 2 ∧ q.want = 3 then false
  else if m.wasActive ≠ q.wasActive then m.wasActive
  else if m.stamp + msNs ≤ q.stamp then true
  else if q.stamp + msNs ≤ m.stamp then false
  else decide (mine < other)

/-- R699: the roles are not settled: one of them is NONE, or both are alike. -/
def rolesOpen (mine other : Nat) : Bool := mine == roleNone || other == roleNone || mine == other

/-- R699, R702: the role of one plate after something that may settle it. -/
def State.settleRole (s : State) (p : Nat) : State :=
  match (s.pair p).partner with
  | none => s
  | some q =>
    let r := s.role p
    let a :=
      if !s.pairedPlate p then (if r = roleNone then s else s.unpair p)
      else if !rolesOpen r q.role then s
      else if roleWins (s.roleEntry p) q s.myNode s.partnerNode then
        if r = roleActive then s
        else if r = roleStandby && s.plateServes p then s.modPair p (fun x => { x with takeCause := some (x.takeCause.getD 4) })
        else s.goActive p
      else if r = roleStandby then s else s.goStandby p
    if a.role p = roleStandby ∧ q.role.val = roleActive then
      let b := (a.wr ekB Reg.ekPlateEpoch (q.epoch % 256) p).setProt p q.prot
      if q.prot.val = protNone then b.modPair p (fun x => { x with hasState := false, waiting := [], broken := [] }) else b
    else a

/-- ROLE_SEND (R698). -/
def execRoleSend (s : State) : Host.Outcome State Fault Refusal := .next (s.sendRole 0 none)

/-! ### Switchover (R719) -/

/-- R699: does `other` as the partner's `want` give the plate to the partner against `mine`? -/
def wantYields (mine other : Nat) : Bool :=
  (other == 1 && (mine == 2 || mine == 3)) || (other == 3 && mine == 2)

def State.pairHeld (s : State) (p : Nat) : Bool := s.isSet ekB Reg.ekPtraceHeld p

/-- R719, R721: an ACTIVE plate is asked to hand over. -/
def State.askSwitch (s : State) (p other : Nat) : State :=
  if s.role p = roleActive ∧ wantYields (s.rd ekB Reg.ekPlateWant p) other ∧ !s.pairHeld p then
    s.modPair p (fun q => { q with switch := true })
  else s

/-- What the partner reports of one plate is taken. -/
def State.takeEntry (s : State) (p : Nat) (e : RoleEntry) : State :=
  let old := match (s.pair p).partner with | some q => q.want.val | none => 3
  let a := s.modPair p (fun q => { q with partner := some e })
  (if e.want.val = 1 ∧ old ≠ 1 then a.askSwitch p 1 else a).settleRole p

/-- Entries of a ROLE frame, plate by plate. -/
def State.takeEntries (s : State) (p : Nat) : List RoleEntry → State
  | [] => s
  | e :: l => if p < 8 then (s.takeEntry p e).takeEntries (p + 1) l else s

/-- R702: a release, or the announcement of a handover proof, for a STANDBY plate. -/
def State.takeNotice (s : State) (p subtype : Nat) : State :=
  if s.role p ≠ roleStandby then s
  else if subtype = 2 then s.modPair p (fun q => { q with handoverDue := true })
  else if s.plateServes p then s.modPair p (fun q => { q with takeCause := some 1 }) else s.goActive p

/-- ROLE_RECEIVED (R699-R702). -/
def execRoleReceived (h : EpkHdr) (subtype : Fin 3) (plates : List RoleEntry) (s : State) : Host.Outcome State Fault Refusal :=
  .next (s.epkIn h (.role subtype plates) (fun t =>
    if !t.hasPartner || h.origin.val != t.partnerNode then t
    else
      let a := match h.plate with
        | some p => if subtype.val = 0 then t else t.takeNotice p subtype
        | none => t
      a.takeEntries 0 plates))

/-- PARTNER_LOSS (R696, R702): a STANDBY plate that runs takes over; one that does not is NONE; an ACTIVE plate goes on
unprotected. -/
def execPartnerLoss (s : State) : Host.Outcome State Fault Refusal :=
  .next (if s.hasPartner && decide (s.epk.partnerHeard + s.lossNs ≤ s.now) then
      let a := forUpTo 8 (fun p t =>
        let u := if t.role p = roleStandby then
            if t.plateServes p then t.modPair p (fun q => { q with takeCause := some 2 }) else t.unpair p
          else if t.role p = roleActive then t.dropProt p else t
        u.modPair p (fun q => { q with partner := none, switch := false })) s
      let b := { a with epk := { a.epk with partnerUid := none } }
      ((b.wr ekB Reg.ekPartnerLoUid 0).wr ekB Reg.ekPartnerHiUid 0).noteMaster s
    else s)

/-! ### What is mirrored (R710, R711, R266, R334) -/

/-- The descriptor words that are mirrored. -/
def mirrorOffsets : List Nat := [0x0, 0x4, 0x8, 0xC, 0x18] ++ (List.range 80).map (fun i => 0x40 + 4 * i)

/-- The rows of those words. -/
def mirrorRows : List Row := Reg.chRows ++ Reg.mediaRows ++ Reg.ecRows ++ Reg.jbRows

/-- A word of a descriptor as the mirror carries it: CH_PATH with graver and units. -/
def State.mirrorWord (s : State) (g off : Nat) : Nat :=
  let w := s.assemble (chB g) mirrorRows off
  if off = 0xC then w + (s.chan g).graver <<< 24 + (s.chan g).units <<< 26 else w

/-- Frames of the voice packet under way at the next tick (R278). -/
def Media.partMs (m : Media) (codec : Nat) : Nat :=
  let look := codecLook codec
  if m.encN < look then m.encN else (m.encN - look) % (codecMs codec * m.cfg.fpp) + look

/-- R710, R711: channel `g` as proof or impression number `n` carries it, `words` being those it holds. -/
def State.mirrorOf (s : State) (g n : Nat) (all : Bool) (words : List (Nat × Nat)) : MirrorChan :=
  let b := chB g
  let c := s.chan g
  let e := s.echo g
  let m := s.media g
  let j := s.jitter g
  let tsMs : Int := s.chTsMs g
  let ahead : Int := if m.encWait ≠ 0 then m.encWait else -(m.partMs c.cfg.codec : Int)
  let w := (List.range (s.taps g)).map (fun i => (e.w[i]?).getD 0)
  { ch := Fin.ofNat 256 g, words := words, applied := { ch := c.cfg, echo := e.cfg, media := m.cfg, jb := j.cfg }
    phase := s.ecPhase g, bypass := s.isSet b Reg.ecStatusBypass, nlpOffTd := s.isSet b Reg.ecStatusNlpOffTd
    forced := s.isSet b Reg.ecStatusForced, toneRin := e.toneRin, toneSin := e.toneSin, quietMs := e.quietMs
    erl := s.rd b Reg.ecErlErl, erle := s.rd b Reg.ecErlErle
    rinNoise := s.rd b Reg.ecNoiseRinNoise, sinNoise := s.rd b Reg.ecNoiseSinNoise, rinEst := e.rinEst, sinEst := e.sinEst
    taps := if all then w else (w.zipIdx.filter (fun x => x.2 % 4 == n % 4)).map Prod.fst
    posOk := j.running, pos := j.pos, posFrac := j.frac, posAt := s.localU g + msU
    ratio := j.ratio, aim := j.aim, est := j.est, hasEst := j.hasEst, dfState := s.rd b Reg.jsStateDfState, fixedBuffer := c.fixedBuffer
    delay := j.delay, target := j.target, spread := j.spread
    rxSsrc := m.rxSsrc, maxSeq := m.rtcp.maxSeq
    ssrc := m.ssrc, ipId := m.ipId, nextSeq := m.seq
    nextTs := ofSigned 32 ((m.ts : Int) + ahead * tsMs), nextAt := s.localU g + msU + ahead * msU
    txPkts := s.rd b Reg.stTxPktsPkts, txOctets := s.rd b Reg.stTxOctetsOctets, stRxSsrc := s.rd b Reg.stRxSsrcSsrc }

/-- The key of word `off` of local channel `c` in the record of what the standby has. -/
def wordKey (c off : Nat) : Nat := c * 512 + off

/-- The words of channel `g` that have changed against `acked` (R708). -/
def State.changedWords (s : State) (g : Nat) (acked : List (Nat × Nat)) : List (Nat × Nat) :=
  (mirrorOffsets.map (fun o => (o, s.mirrorWord g o))).filter (fun x =>
    (acked.find? (fun e => e.1 == wordKey (g % 256) x.1)).map Prod.snd != some x.2)

/-- The channels of plate `p` that proofs carry: neither IDLE nor REFUSED (R710). -/
def State.carriedChans (s : State) (p : Nat) : List Nat :=
  (s.plateChans p).filter (fun g => s.path g != pathIdle && s.path g != pathRefused)

/-! ### Impressions and proofs, active side (R704-R709) -/

/-- R733, R734: is the Epkuone agent at work: neither frozen nor draining? -/
def State.agentActs (s : State) : Bool :=
  !s.isFrozen masterEpk && (match s.epk.drainFrom with | some a => decide (a + 20000 ≤ s.now) | none => true)

/-- R705, R706: does plate `p` want an impression, to send or to receive it? -/
def State.wantsImpression (s : State) (p : Nat) : Bool :=
  s.pairedPlate p && ((s.role p == roleActive && s.prot p == protNone)
    || (s.role p == roleStandby && !(s.pair p).hasState && (match (s.pair p).partner with
        | some q => q.role.val == roleActive && q.prot.val == protNone
        | none => false)))

/-- R706: the impression burst is asked for, one plate at a time in ascending number. -/
def State.askImpression (s : State) (p : Nat) : State :=
  let busy := !s.imprGrants.isEmpty || s.arb.any (fun q => match q with | .impression _ => true | _ => false)
  if s.isSet ekB Reg.ekCtrlImprintEn && s.wantsImpression p && !busy && !((List.range p).any s.wantsImpression) then
    s.ask (.impression p)
  else s

/-- IMPRESSION_GRANT_RETRY (R706): a refused burst is asked for again after 100 ms. -/
def execImpressionGrantRetry (p : Fin 8) (s : State) : Host.Outcome State Fault Refusal :=
  .next (if (s.pair p).askedAt ≠ 0 ∧ (s.pair p).askedAt + 100 * msNs ≤ s.now then s.askImpression p else s)

/-- R705, R708: a proof or an impression leaves on a PAIR lane, with the next number of the plate. -/
def State.sendMirror (s : State) (p : Nat) (impr : Bool) : State :=
  let x := s.pair p
  let n := (x.number + 1) % 2 ^ 32
  let l := (s.carriedChans p).map (fun g =>
    let w := s.changedWords g x.ackedWords
    (g, w, s.mirrorOf g n impr w))
  let chans := l.map (fun e => e.2.2)
  let a := s.sendEpk (s.upPairLanes.take 1) (some p) (Fin.ofNat 9 s.partnerNode) (if impr then .impression n chans else .proof n chans)
  let b := forEach l (fun e t =>
    let d := chB e.1
    ((t.wr d Reg.pmProofSeq n).wr d Reg.pmRtpNextSeq e.2.2.nextSeq).wr d Reg.pmTsNextTs e.2.2.nextTs) a
  (b.modPair p (fun q => { q with
    number := n
    unacked := if impr then q.unacked else q.unacked + 1
    impression := if impr then some n else q.impression
    carried := q.carried ++ [(n, l.map Prod.fst)]
    sentWords := q.sentWords ++ [(n, l.flatMap (fun e => e.2.1.map (fun w => (wordKey (e.1 % 256) w.1, w.2))))] })).wr
      ekB Reg.ekProofTxSeq n

/-- R704, R705: the snapshot of an impression. -/
def State.sendImpression (s : State) (p : Nat) : State :=
  let a := forEach (s.carriedChans p) (fun g t => t.wr (chB g) Reg.pmStatusMirrored 0) s
  ((a.sendMirror p true).setProt p protImprinting).sendRole 0 none

/-- R708, R719: a proof; when a switchover is due it is the handover proof, which a ROLE frame announces. -/
def State.sendProof (s : State) (p : Nat) : State :=
  let go := (s.pair p).switch && s.prot p == protProtected && !s.pairHeld p
  let a := (if go then s.sendRole 2 (some p) else s).sendMirror p false
  if go then a.modPair p (fun q => { q with handover := some q.number, switch := false }) else a

/-- The proof snapshot of plate `p` (R177 step 4, R705-R709), in the frames whose site-time millisecond ends in 9. -/
def State.proofTick (s : State) (p : Nat) : State :=
  let x := s.pair p
  let mine := Sparse.get 0 s.imprGrants p != 0
  if s.siteNs / msNs % 10 ≠ 9 ∨ !s.agentActs ∨ !s.pairedPlate p then s
  else if s.role p = roleStandby then (if !mine && x.askedAt == 0 then s.askImpression p else s)
  else if s.role p ≠ roleActive ∨ x.handover.isSome then s
  else if s.prot p = protNone then
    if !mine then (if x.askedAt = 0 then s.askImpression p else s)
    else if s.isSet ekB Reg.ekCtrlImprintEn && (x.partner.map RoleEntry.grant).getD false && !s.upPairLanes.isEmpty then
      s.sendImpression p
    else s
  else if 3 ≤ x.unacked then (s.dropProt p).sendRole 0 none
  else s.sendProof p

/-- The entries of a list numbered up to `n`, and the others. -/
def upTo {α : Type} (n : Nat) (l : List (Nat × α)) : List (Nat × α) × List (Nat × α) :=
  (l.filter (fun e => decide (e.1 ≤ n)), l.filter (fun e => decide (n < e.1)))

/-- `l` with the words of `new` in place of those it holds. -/
def mergeWords (l new : List (Nat × Nat)) : List (Nat × Nat) :=
  new ++ l.filter (fun e => !(new.any (fun x => x.1 == e.1)))

/-- R702, R719: the handover proof has been acknowledged: the plate is STANDBY and what it holds is a mirror. -/
def State.handedOver (s : State) (p : Nat) : State :=
  let a := forEach (s.carriedChans p) (fun g t =>
    let m := t.mirrorOf g 0 true []
    let i : MirrorInfo := { posAt := m.posAt, nextAt := m.nextAt, at_ := t.now, mirroredPhase := m.phase }
    let u := t.echoStop g
    { u with mirrors := Sparse.ins u.mirrors g i }) s
  let b := (a.dropProt p).setRole p roleStandby
  (b.modPair p (fun q => { q with applied := 0, askedAt := 0 })).sendRole 0 none

/-- R704, R708, R715: the standby has applied everything up to number `n`. -/
def State.takeAck (s : State) (p n : Nat) : State :=
  let x := s.pair p
  let c := upTo n x.carried
  let w := upTo n x.sentWords
  let a := forEach c.1 (fun e t => forEach e.2 (fun g u => u.wr (chB g) Reg.pmStatusMirrored 1) t) s
  let b := a.modPair p (fun q => { q with
    acked := max q.acked n, unacked := (c.2.filter (fun e => some e.1 != q.impression)).length
    carried := c.2, sentWords := w.2, ackedWords := w.1.foldl (fun l e => mergeWords l e.2) q.ackedWords })
  let d := match x.impression with
    | some k => if k ≤ n ∧ b.prot p = protImprinting then
        ({ b with imprGrants := Sparse.del b.imprGrants p }.setProt p protProtected).sendRole 0 none else b
    | none => b
  match x.handover with
  | some k => if k ≤ n then d.handedOver p else d
  | none => d

/-- ACK_RECEIVED (R704, R709). -/
def execAckReceived (h : EpkHdr) (number : BitVec 32) (s : State) : Host.Outcome State Fault Refusal :=
  .next (s.epkIn h (.ack number.toNat) (fun t => match h.plate with
    | some p => if t.agentActs && t.role p == roleActive && t.prot p != protNone then t.takeAck p number.toNat else t
    | none => t))

/-! ### The standby's mirror (R707-R714) -/

/-- A mirrored word takes its place; the graver and the units stand in what the channel holds. -/
def State.pokeWord (s : State) (g off v : Nat) : State :=
  let a := forEach mirrorRows (fun r t => match r.indexAt off with
    | some i =>
      if (off = 0xC ∧ (r.lsb = 24 ∨ r.lsb = 26)) ∨ r.acc = .wo ∨ r.acc = .woL then t
      else t.wr (chB g) r (bitsOf v r.lsb r.width) i
    | none => t) s
  if off = 0xC then a.modChan g (fun c => { c with graver := bitsOf v 24 2, units := bitsOf v 26 4 }) else a

/-- R714, R656: the reservation of a mirrored channel is asked for as it is created or changed. -/
def State.chargeMirror (s : State) (g : Nat) (changed : Bool) : State :=
  let r := s.resOf (s.chan g).cfg.resRow
  if !changed then s
  else if (s.chan g).res < r then s.ask (.call g)
  else ((s.withdraw (.call g)).modChan g (fun c => { c with res := r })).wr (chB g) Reg.pmStatusUnprot 0

/-- R266: the coefficients after proof or impression `n`. -/
def mirrorTaps (old new : List Int) (len n : Nat) (all : Bool) : List Int :=
  if all then new
  else (List.range len).map (fun i => if i % 4 = n % 4 then (new[i / 4]?).getD 0 else (old[i]?).getD 0)

/-- The snapshot instant of the last proof, block time: the site-time millisecond ends in 9.95. -/
def State.snapshotAt (s : State) : Nat := s.now - (s.siteNs + 50000) % 10000000

/-- R710: one channel of an impression or a proof numbered `n` is applied. -/
def State.setMirror (s : State) (p n : Nat) (all : Bool) (m : MirrorChan) : State :=
  let g := 256 * p + m.ch
  let b := chB g
  let fresh := (Sparse.find? s.mirrors g).isNone
  let a := forEach m.words (fun w t => if mirrorOffsets.contains w.1 then t.pokeWord g w.1 w.2 else t) s
  let l := if fresh then a.writeHeader g else a
  let c := ((l.modChan g (fun x => { x with cfg := m.applied.ch, fixedBuffer := m.fixedBuffer })).chargeMirror g
    (fresh || !m.words.isEmpty)).noteBeyond p
  let e := c.echo g
  let d := (c.setEcho g { e with
    cfg := m.applied.echo, w := mirrorTaps e.w m.taps (c.taps g) n all, toneRin := m.toneRin, toneSin := m.toneSin
    quietMs := m.quietMs, rinEst := m.rinEst, sinEst := m.sinEst }).setTd g
      m.bypass m.nlpOffTd m.forced
  let f := ((((d.setPhase g m.phase).wr b Reg.ecErlErl m.erl).wr b Reg.ecErlErle m.erle).wr b Reg.ecNoiseRinNoise
    m.rinNoise).wr b Reg.ecNoiseSinNoise m.sinNoise
  let h := f.modJitter g (fun j => { j with
    cfg := m.applied.jb, running := m.posOk, pos := m.pos, frac := m.posFrac, next := m.pos, ratio := m.ratio, aim := m.aim, est := m.est
    hasEst := m.hasEst, delay := m.delay, target := m.target, spread := m.spread, points := []
    held := dropBefore m.pos j.held })
  let k := h.modMedia g (fun x => { x with
    cfg := m.applied.media, rxSsrc := m.rxSsrc, rtcp := { x.rtcp with maxSeq := m.maxSeq }
    ssrc := m.ssrc, ipId := m.ipId, seq := m.nextSeq, ts := m.nextTs })
  let r := (((k.wr b Reg.stTxPktsPkts m.txPkts).wr b Reg.stTxOctetsOctets m.txOctets).wr b Reg.stRxSsrcSsrc m.stRxSsrc).wr b
    Reg.jsStateDfState m.dfState
  let u := ((r.wr b Reg.pmProofSeq n).wr b Reg.pmRtpNextSeq m.nextSeq).wr b Reg.pmTsNextTs m.nextTs
  let old := Sparse.get {} u.mirrors g
  let quarters := (List.range 4).map (fun i => if all ∨ i = n % 4 then some n else ((old.quarters[i]?).getD none))
  let i : MirrorInfo :=
    { posAt := m.posAt, nextAt := m.nextAt, at_ := u.snapshotAt, quarters := quarters, mirroredPhase := m.phase }
  { u with mirrors := Sparse.ins u.mirrors g i }

/-- R707, R709: an impression or a proof is applied: its channels are mirrored, those it does not carry are gone (R710). -/
def State.applyMirror (s : State) (p n : Nat) (all : Bool) (chans : List MirrorChan) : State :=
  let keep := chans.map (fun m => 256 * p + m.ch.val)
  let a := forEach ((s.mirrorChans p).filter (fun g => !keep.contains g)) (fun g t => t.dropMirror g) s
  let b := forEach chans (fun m t => t.setMirror p n all m) a
  (b.modPair p (fun q => { q with applied := n, hasState := true, broken := q.broken.filter (n < ·) })).wr ekB Reg.ekProofRxSeq n

/-- R707, R709: the plate's ACK, with the highest number applied. -/
def State.sendAck (s : State) (p : Nat) : State :=
  s.sendEpk (s.upPairLanes.take 1) (some p) (Fin.ofNat 9 s.partnerNode) (.ack (s.pair p).applied)

/-- A proof is applied and acknowledged; the announced handover proof leads to a takeover (R702, R719). -/
def State.applyProof (s : State) (p n : Nat) (chans : List MirrorChan) : State :=
  let a := (s.applyMirror p n false chans).sendAck p
  if (a.pair p).handoverDue then a.modPair p (fun q => { q with takeCause := some 3, handoverDue := false }) else a

/-- Does the standby take mirror frames of plate `p`? -/
def State.mirrors? (s : State) (p : Nat) : Bool := s.agentActs && s.role p == roleStandby && s.pairedPlate p

/-- R709: a proof was lost. -/
def State.proofLost (s : State) (n : Nat) : State := (s.bumpSat ekB Reg.ekCountsProofsLost 0 n).raise ekB evProofGap

/-- R709: proof `n` did not arrive whole: counted here, and not again as a gap behind the next. -/
def State.proofBroken (s : State) (p n : Nat) : State := (s.modPair p (fun q => { q with broken := n :: q.broken })).proofLost 1

/-- R707: the proofs that wait for an impression stand in the order of their numbers. -/
def insertProof (e : Nat × List MirrorChan) : List (Nat × List MirrorChan) → List (Nat × List MirrorChan)
  | [] => [e]
  | f :: l => if e.1 < f.1 then e :: f :: l else f :: insertProof e l

/-- R707, R709: a whole proof: it waits for an impression under way, fills its place, or leaves a gap behind it, in which the proofs
that came but not whole are counted already. -/
def State.takeProof (s : State) (p n : Nat) (chans : List MirrorChan) : State :=
  let x := s.pair p
  let missing := n - x.applied - 1 - (x.broken.filter (fun k => x.applied < k ∧ k < n)).length
  if !x.hasState then s.modPair p (fun q => { q with waiting := insertProof (n, chans) q.waiting })
  else if n ≤ x.applied then s.proofLost 1
  else (if missing = 0 then s else s.proofLost missing).applyProof p n chans

/-- IMPRESSION_END_RECEIVED (R706, R707). -/
def execImpressionEndReceived (h : EpkHdr) (number : BitVec 32) (chans : List MirrorChan) (crcOk : Bool) (s : State) :
    Host.Outcome State Fault Refusal :=
  .next (s.epkIn h (.impression number.toNat chans) (fun t => match h.plate with
    | none => t
    | some p =>
      if !t.mirrors? p || !crcOk || Sparse.get 0 t.imprGrants p == 0 then t
      else
        let later := ((t.pair p).waiting.filter (fun e => decide (number.toNat < e.1)))
        let a := (t.applyMirror p number.toNat true chans).bumpSat ekB Reg.ekCountsImpressions
        let b := { a with imprGrants := Sparse.del a.imprGrants p }.modPair p (fun q => { q with waiting := [] })
        forEach later (fun e u => u.takeProof p e.1 e.2) (b.sendAck p)))


/-- PROOF_END_RECEIVED (R709). -/
def execProofEndReceived (h : EpkHdr) (number : BitVec 32) (whole : Bool) (chans : List MirrorChan) (s : State) :
    Host.Outcome State Fault Refusal :=
  .next (s.epkIn h (.proof number.toNat chans) (fun t => match h.plate with
    | none => t
    | some p =>
      if !t.mirrors? p then t
      else if whole then t.takeProof p number.toNat chans else t.proofBroken p number.toNat))

/-! ### Takeover (R716-R718, R267-R269, R335, R336) -/

/-- R267: does the channel meet the conditions to resume in CONVERGED? The impression of a quarter counts as a proof of its state (log
entry 103). -/
def mirrorConverged (m : MirrorInfo) (last : Nat) : Bool :=
  m.mirroredPhase == phaseConverged && (List.range 4).all (fun i => match (m.quarters[i]?).getD none with
    | some k => k % 4 == i && decide (k ≤ last) && decide (last ≤ k + 3)
    | none => false)

/-- R267-R269: the canceller resumes; one that was OFF has no fast entry to ask for. -/
def State.resumeEcho (s : State) (g : Nat) (m : MirrorInfo) (last : Nat) : State :=
  let b := chB g
  let e := s.echo g
  let held := m.quarters.filterMap id
  let old := held.foldl min last
  let mask := (List.range 4).foldl (fun n i => if ((m.quarters[i]?).getD none).isSome then n + 2 ^ i else n) 0
  let off := m.mirroredPhase == phaseOff
  let a := ((((((s.setEcho g { e with
    hist := [], refill := if off then 0 else 8 * (e.cfg.bulkMs + s.taps g / 8), fastAt := s.now, levels := [], erls := []
    frames := [], adapted := [] }).wr b Reg.ecStatusFromMirror 1).wr b Reg.ecMirrorSpanMs (min 255 (10 * (last - old)))).wr b
      Reg.ecMirrorQuarters mask).wr b Reg.ecStatusBurst 0).wr b Reg.ecStatusDt 0).wr b Reg.ecStatusNlpOn 0
  if mirrorConverged m last then (a.wr b Reg.ecStatusMirrorOk 1).setPhase g phaseConverged
  else
    let ph := if m.mirroredPhase = phaseConverged then phaseNormal else m.mirroredPhase
    let t := (a.wr b Reg.ecStatusMirrorOk 0).setPhase g ph
    if off then t else t.askFast g

/-- R335, R336: the playout resumes at the mirrored P, advanced to this tick; an estimate at its limit is reported so (R329). -/
def State.resumeJitter (s : State) (g : Nat) (m : MirrorInfo) : State :=
  let j := s.jitter g
  let p := j.posFix + s.frameAdvance g * (s.localU g - m.posAt) / msU
  let v := j.withPos p
  ((s.setSig g {}).setJitter g { v with
    points := [], afterTakeover := true, holdLeft := 20, next := v.pos, playing := .conceal, deleted := false, insertLeft := 0 }).dfEdge g
      (j.hasEst && decide (j.est.natAbs = ppm500.natAbs))

/-- R717: the first voice packet is the first whose first sample lies at or after T; k packet intervals lie between. -/
def State.resumeRtp (s : State) (g : Nat) (m : MirrorInfo) : State :=
  let x := s.media g
  let c := (s.chan g).cfg.codec
  let l := codecMs c * x.cfg.fpp
  let late := s.localU g - m.nextAt
  let k : Nat := if late ≤ 0 then 0 else ((late + l * msU - 1) / (l * msU)).toNat
  let wait : Nat := ((m.nextAt + k * l * msU - s.localU g + msU - 1) / msU).toNat
  let first : Int := x.ts + k * l * (s.chTsMs g : Int)
  (s.setMedia g { x with
    seq := (x.seq + k) % 65536, ts := ofSigned 32 (first - wait * (s.chTsMs g : Int)), encN := 0, encWait := wait
    marker := true }).wr (chB g) Reg.pmStatusSeqSkip (min 255 k)

/-- R714, R717, R718: one mirrored channel resumes; one whose reservation was refused does not. -/
def State.resumeChannel (s : State) (last g : Nat) : State :=
  let b := chB g
  let m := Sparse.get {} s.mirrors g
  if s.rd b Reg.pmStatusUnprot ≠ 0 ∨ s.asking (.call g) then s.dropMirror g
  else
    let a := (((s.resumeEcho g m last).resumeJitter g m).resumeRtp g m)
    let d := ((a.wr b Reg.pmStatusTookOver 1).wr b Reg.pmStatusMirrored 0).wr b Reg.pmAgeAgeUs
      (min (2 ^ 24 - 1) ((a.now - m.at_) / 1000))
    let e := { d with mirrors := Sparse.del d.mirrors g }
    ((e.modChan g (fun c => { c with settled := e.pathView g })).noteBeyond (g / 256)).classifyReq g

/-- R716: the takeover of plate `p` at the frame tick. -/
def State.takeOver (s : State) (p cause : Nat) : State :=
  let last := (s.pair p).applied
  let chans := s.mirrorChans p
  let a := s.goActive p
  let b := ((a.wr ekB Reg.ekLastTakePlate p).wr ekB Reg.ekLastTakeCause cause).wr ekB Reg.ekLastTakeGapUs
    (min 65535 ((a.now - a.epk.partnerHeard) / 1000))
  let c := (b.bumpSat ekB Reg.ekCountsTakeovers).raise ekB evTakeover
  forEach chans (fun g t => t.resumeChannel last g) c

/-- TAKEOVER (R716). -/
def execTakeover (p : Fin 8) (s : State) : Host.Outcome State Fault Refusal :=
  .next (match (s.pair p).takeCause with
    | some c => if s.plateServes p && s.role p == roleStandby then s.takeOver p c else s
    | none => s)

/-- R701: the channels of a demoted plate stop at the frame tick. -/
def State.demoteTick (s : State) (p : Nat) : State :=
  if (s.pair p).demote then
    (forEach (s.plateChans p) (fun g t => t.dropMirror g) s).modPair p (fun q => { q with demote := false })
  else s

/-! ### EK_PLATE and the trace check of pair activity (R719-R721) -/

/-- R721: the hold of the plate's pair activity ends, and what is allowed for 1 s is counted anew (R720, as R69). -/
def State.endPairHold (s : State) (p : Nat) : State :=
  let a := s.modPair p (fun q => { q with agreeSince := none })
  ((a.wr ekB Reg.ekPtraceMismatch 0 p).wr ekB Reg.ekPtraceHeld 0 p).wr ekB Reg.ekPtraceCount 0 p

/-- R698, R719, R722: `want` or `tdm_shared` has been stored. -/
def State.wantStored (s : State) (p : Nat) : State :=
  let a := (s.driveHighway p).settleRole p
  let b := match (a.pair p).partner with
    | some q => if a.rd ekB Reg.ekPlateWant p = 2 then a.askSwitch p q.want else a
    | none => a
  b.sendRole 0 none

/-- R721, R719: a write of EK_PLATE[p]. -/
def State.ekPlateEffect (s : State) (fn p data : Nat) : State :=
  if !s.mayWriteL ekB (masterOfFn fn) then s
  else ((s.storeWord fn ekB Reg.ekRows (0x80 + 8 * p) data).endPairHold p).wantStored p

/-- SWITCHOVER_REQUEST (R719). -/
def execSwitchoverRequest (fn : Fin 65) (p : Fin 8) (data : Word) (s : State) : Host.Outcome State Fault Refusal :=
  .next (s.mmioWrite fn (ekB + 0x80 + 8 * p.val) (fun t => t.ekPlateEffect fn p data.toNat))

/-- R720: does role `r` agree with `want`, for at most 1 s where the second part is true? -/
def State.pairAgrees (s : State) (p : Nat) : Bool × Bool :=
  let w := s.rd ekB Reg.ekPlateWant p
  let r := s.role p
  let apart := match (s.pair p).partner with
    | some q => !(s.hasPartner && s.plateEnabled p && q.enabled)
    | none => true
  if r = roleNone then (w == 0 || apart, false)
  else if w = 3 then (true, false)
  else if w = 0 then (false, false)
  else (true, r != w)

/-- R71, R720: a mismatching sample of pair activity; the third in a row holds it. -/
def State.pairMiss (s : State) (p : Nat) : State :=
  let n := s.rd ekB Reg.ekPtraceCount p + 1
  if n < 3 then s.wr ekB Reg.ekPtraceCount n p
  else
    let a := ((s.wr ekB Reg.ekPtraceCount 3 p).wr ekB Reg.ekPtraceMismatch 1 p).wr ekB Reg.ekPtraceHeld 1 p
    ((a.wr ekB Reg.ekPtraceSeenRole (s.role p) p).wr ekB Reg.ekPtraceSeenWant (s.rd ekB Reg.ekPlateWant p) p).raise ekB
      evPairHeld

/-- R720: one sample. -/
def State.pairSample (s : State) (p : Nat) : State :=
  let a := s.pairAgrees p
  let clear := s.modPair p (fun q => { q with agreeSince := none })
  if s.pairHeld p then s
  else if !a.1 then clear.pairMiss p
  else if !a.2 then clear.wr ekB Reg.ekPtraceCount 0 p
  else match (s.pair p).agreeSince with
    | none => (s.modPair p (fun q => { q with agreeSince := some s.now })).wr ekB Reg.ekPtraceCount 0 p
    | some t => if s.now - t ≤ secNs then s.wr ekB Reg.ekPtraceCount 0 p else s.pairMiss p

/-- PAIR_TRACE_SAMPLE (R720). -/
def execPairTraceSample (p : Fin 8) (s : State) : Host.Outcome State Fault Refusal :=
  .next (if s.chip.sheetsReady then s.pairSample p else s)

/-- R721: while held, `accept_path` takes the seen role as intent and ends the hold. -/
def State.pairAccept (s : State) (fn p : Nat) : State :=
  if !s.mayWriteL ekB (masterOfFn fn) || !s.pairHeld p then s
  else ((s.wr ekB Reg.ekPlateWant (s.rd ekB Reg.ekPtraceSeenRole p) p).endPairHold p).wantStored p

/-- PAIR_ACCEPT_PATH (R721): a write of 1 to EK_PTRACE[p].accept_path. -/
def execPairAcceptPath (fn : Fin 65) (p : Fin 8) (s : State) : Host.Outcome State Fault Refusal :=
  .next (s.mmioWrite fn (ekB + 0x84 + 8 * p.val) (fun t => t.pairAccept fn p))

/-! ### The agent (R733, R734) -/

/-- R734: a write of EK_CMD by the lock holder. -/
def State.agentReset (s : State) (fn data : Nat) : State :=
  if s.mayWriteL ekB (masterOfFn fn) && bitAt data 0 then
    { s with epk := { s.epk with drainFrom := some s.now } }.dropAllProt
  else s

/-- AGENT_RESET (R734). -/
def execAgentReset (fn : Fin 65) (data : Word) (s : State) : Host.Outcome State Fault Refusal :=
  .next (s.mmioWrite fn (ekB + 0xD8) (fun t => t.agentReset fn data.toNat))

end Sys2Proof.Machine
end

