-- ==== Sys2Proof/Machine/Arbiter.lean ====
section
/-! DEFINITION. The power arbiter's answers (20_power_sleep.md R654-R661) and the requests that are repeated. -/

namespace Sys2Proof.Machine

/-- Bits of the power arbiter's EVENT (R682). -/
def evCallRefused : Nat := 0
def evBurstRefused : Nat := 1
def evBaseRefused : Nat := 3

/-- R661: a call request is refused: counted and announced. -/
def State.countCall (s : State) : State := (s.bumpSat paB Reg.paCountsCalls).raise paB evCallRefused
/-- R661: a burst request is refused. -/
def State.countBurst (s : State) : State := (s.bumpSat paB Reg.paCountsBursts).raise paB evBurstRefused

/-- R654, R655, R218, R714: a call is granted: the reservation is held and the result posted, or a mirror is charged. -/
def State.callGranted (s : State) (g : Nat) : State :=
  match (s.chan g).req with
  | some r => s.postAdmitted g r
  | none => (s.modChan g (fun c => { c with res := s.resOf c.cfg.resRow })).wr (chB g) Reg.pmStatusUnprot 0

/-- R217, R661, R714: a call is refused: `no_power`, or a mirror that stays unprotected with cause 1. -/
def State.callRefused (s : State) (g : Nat) : State :=
  match (s.chan g).req with
  | some r => s.countCall.postRefused g r refNoPower
  | none => s.countCall.wr (chB g) Reg.pmStatusUnprot 1

/-- The grant takes effect (R654). -/
def State.grantTaken (s : State) : GrantReq → State
  | .base p => s.setPlate p { s.plate p with baseGrant := true }
  | .lane p u => { s with laneGrants := Sparse.put 0 s.laneGrants p u }
  | .epkLane l => { s with epkGrants := setBit s.epkGrants l true }.refreshLanes
  | .call g => s.callGranted g
  | .echo g => s.burstGranted g (s.rd paB Reg.paBurstEcho)
  | .impression p =>
    ({ s with imprGrants := Sparse.put 0 s.imprGrants p (s.rd paB Reg.paBurstImpression) }.modPair p (fun q =>
      { q with askedAt := 0 })).sendRole 0 none

/-- R661: what a refusal does: base, lane and impression requests are repeated later. -/
def State.grantRefused (s : State) : GrantReq → State
  | .base p => (s.setPlate p { s.plate p with baseAskedAt := s.now }).raise paB evBaseRefused
  | .lane p _ => s.modPort p (fun v => { v with laneAskedAt := s.now })
  | .epkLane l => s.setEkLane l { s.ekLane l with askedAt := s.now }
  | .call g => s.callRefused g
  | .echo g => s.countBurst.burstRefused g
  | .impression p => s.countBurst.modPair p (fun q => { q with askedAt := s.now })

/-- ARBITER_ANSWER (R658-R661): the next pending request is granted or refused against the grants there are. -/
def execArbiterAnswer (s : State) : Host.Outcome State Fault Refusal :=
  .next (match nextGrant s.arb with
    | none => s
    | some q =>
      let t := s.withdraw q
      ((if s.grantFits q then t.grantTaken q else t.grantRefused q)).noteCeiling)

/-- R196: does a starting plate lack its base grant? -/
def State.wantsBase (s : State) (p : Nat) : Bool :=
  s.plateOp p == opStarting && !(s.plate p).baseGrant && !s.asking (.base p)

/-- BASE_GRANT_RETRY (R196): a refused base grant is asked for again after 10 ms. -/
def execBaseGrantRetry (p : Fin 8) (s : State) : Host.Outcome State Fault Refusal :=
  .next (if s.wantsBase p && decide ((s.plate p).baseAskedAt + 10 * msNs ≤ s.now) then s.ask (.base p) else s)

/-- Does a starting port lack its lane grant (R661)? -/
def State.wantsLane (s : State) (p : Nat) : Bool :=
  s.macOp p == opStarting && Sparse.get 0 s.laneGrants p == 0
    && !(s.arb.any (fun q => match q with | .lane x _ => x == p | _ => false))

/-- LANE_GRANT_RETRY (R661): a refused lane grant of a port, or of an Epkuone lane (the spec gives that no time; log entry 50),
is asked for again after 10 ms. -/
def execLaneGrantRetry (epk : Bool) (i : Fin 8) (s : State) : Host.Outcome State Fault Refusal :=
  .next (
    if epk then
      if i.val < 4 ∧ s.laneEnabled i ∧ !bitAt s.epkGrants i ∧ !s.asking (.epkLane i)
          ∧ (s.ekLane i).askedAt + 10 * msNs ≤ s.now then s.ask (.epkLane i) else s
    else if s.wantsLane i && decide ((s.port i).laneAskedAt + 10 * msNs ≤ s.now) then s.askLane i else s)

end Sys2Proof.Machine
end

