-- ==== Sys2Proof/Machine/Clocks.lean ====
section
/-! DEFINITION. The clock and reset commands (04_clocks_resets_startup.md): reference sources (R129-R133, R786), supplies
and reset pins (R142-R149), the boot (R159-R162) and the plate wake (R155, R164), and drains that overrun (R594). -/

namespace Sys2Proof.Machine

/-! ### Reference sources -/

/-- A source as the clock monitor sees it; the internal oscillator always runs, the tree is always there to the PLL. -/
def State.source (s : State) : ClockSrc → Source
  | .oscIn => s.chip.oscIn
  | .refIn => s.chip.refIn
  | .refclk => s.chip.refclk
  | .internal | .tree => { present := true }

def State.setSource (s : State) (c : ClockSrc) (v : Source) : State :=
  match c with
  | .oscIn => { s with
      chip := { s.chip with oscIn := v }
      pins := { s.pins with clkOut := if s.chip.power == Power.chipReset then v.present else s.pins.clkOut } }.wrB crB
        Reg.crRefStatusOscInOk v.present
  | .refIn => { s with chip := { s.chip with refIn := v } }.wrB crB Reg.crRefStatusRefInOk v.present
    |>.wrB crB Reg.crRefStatusRefIn25 v.at25
  | .refclk => { s with chip := { s.chip with refclk := v } }.wrB crB Reg.crRefStatusRefclkOk v.present
  | .internal | .tree => s

/-- `CR_REF_STATUS.tree_src` codes (R167). -/
def treeCode : ClockSrc → Nat
  | .oscIn => 1 | .refIn => 2 | .refclk => 3 | .internal | .tree => 0
/-- `CR_REF_STATUS.tb_src` codes (R167). -/
def tbCode : ClockSrc → Nat
  | .oscIn => 1 | .refIn => 2 | .tree => 3 | .internal | .refclk => 0

/-- R129: the highest-priority source present: OSC_IN, REF_IN, REFCLK, internal. -/
def State.autoTree (s : State) : Nat :=
  if s.chip.oscIn.present then 1 else if s.chip.refIn.present then 2 else if s.chip.refclk.present then 3 else 0

/-- Is the source with tree code `c` present? -/
def State.treePresent (s : State) (c : Nat) : Bool :=
  (c == 1 && s.chip.oscIn.present) || (c == 2 && s.chip.refIn.present) || (c == 3 && s.chip.refclk.present)

/-- R131: the transmitters of the ports that are started, and of the Epkuone lanes, carry traffic once the tree has left the
internal oscillator. -/
def State.lanesLeaveIdle (s : State) : State :=
  let on := fun (p : Nat) => let op := s.rd (macB p) Title.stateOp; op == opStarting || op == opRunning || op == opStopping
  { s with pins := { s.pins with
      macTxIdle := forUpTo 8 (fun p n => if on p then setBit n p false else n) s.pins.macTxIdle
      epkTxIdle := [0, 1, 2, 3].all (fun l => s.laneState l == laneOff) } }

/-- R130: the tree moves to source code `c`: counted and announced. -/
def State.moveTree (s : State) (c : Nat) : State :=
  if s.rd crB Reg.crRefStatusTreeSrc = c then s
  else
    let t := ((s.wr crB Reg.crRefStatusTreeSrc c).bumpSat crB Reg.crRefStatusSwitches).raise crB 0
    if s.serdesIdle then t.lanesLeaveIdle else t

/-- R786: the timebase PLL's choice: OSC_IN, REF_IN, the reference tree. -/
def State.autoTb (s : State) : Nat :=
  if s.chip.oscIn.present then 1 else if s.chip.refIn.present then 2 else 3

/-- R129, R130: where the tree goes when its source is lost: to the preferred source if it is present, else in the order of R129.
With none present it holds its frequency and stays as it is, since the internal oscillator is used only at boot (R131). -/
def State.treeRefuge (s : State) : Nat :=
  if s.treePresent (s.rd crB Reg.crTreeSrcPrefer) then s.rd crB Reg.crTreeSrcPrefer
  else if s.autoTree = 0 then s.rd crB Reg.crRefStatusTreeSrc else s.autoTree

/-- R130: a tree whose source is gone moves to the next present one. -/
def State.treeFollows (s : State) : State :=
  if s.rd crB Reg.crRefStatusTreeSrc = 0 ∨ s.treePresent (s.rd crB Reg.crRefStatusTreeSrc) then s else s.moveTree s.treeRefuge

/-- R786, R464: the same for the timebase PLL. -/
def State.tbPllFollows (s : State) : State :=
  let c := s.rd crB Reg.crRefStatusTbSrc
  if (c = 1 ∧ !s.chip.oscIn.present) ∨ (c = 2 ∧ !s.chip.refIn.present) then s.moveTbPll s.autoTb else s

/-- R129: a write of `prefer` moves the tree to a present preferred source at once, or back to the automatic order: to a
source of higher priority only once it has been present for 1 s (R130). -/
def State.treePreferEffect (s : State) (fn prefer : Nat) : State :=
  if !s.mayWriteL crB (masterOfFn fn) then s
  else
    let t := s.wr crB Reg.crTreeSrcPrefer prefer
    if !t.clocksUp then t
    else if t.treePresent prefer then t.moveTree prefer
    else if prefer = 0 then
      let c := t.autoTree
      let since := (if c = 1 then t.chip.oscIn else if c = 2 then t.chip.refIn else t.chip.refclk).since
      if c ≠ 0 ∧ t.now - since ≥ secNs then t.moveTree c else t
    else t

/-- TREE_PREFER_WRITE (R129). -/
def execTreePreferWrite (fn : Fin 65) (prefer : BitVec 2) (s : State) : Host.Outcome State Fault Refusal :=
  .next (s.mmioWrite fn (crB + 0x50) (fun t => t.treePreferEffect fn prefer.toNat))

/-- R132: REFCLK goes absent: with the link up, idle transmitters, link down, link-down reset; a port that trains stops. -/
def State.refclkGone (s : State) : State :=
  if s.isSet hpB Reg.hpLinkUp then
    (s.linkGoesDown.bump crB Reg.crHostResetsLinkDown).hostPortReset
  else if s.rd hpB Title.stateOp = opStarting then s.setOp hpB opOff
  else s

/-- A source stops being present: `ref_lost` (R168), the matching timebase source loses qualification (R469), and with
REFCLK the link goes (R132). -/
def State.sourceGone (s : State) (c : ClockSrc) : State :=
  let t := ((s.setSource c { s.source c with present := false, since := s.now }).raise crB 1).clockSourceLost c
  if c = .refclk then t.refclkGone else t

/-- The source with tree code `c` stops being present, if it was. -/
def State.treeSourceGone (s : State) (c : Nat) : State :=
  if !s.treePresent c then s
  else if c = 1 then s.sourceGone .oscIn else if c = 2 then s.sourceGone .refIn else s.sourceGone .refclk

/-- TREE_SOURCE_LOSS (R130): the tree's source is lost; the PLL holds and moves to the next present source. -/
def execTreeSourceLoss (s : State) : Host.Outcome State Fault Refusal :=
  .next (if s.clocksUp then (s.treeSourceGone (s.rd crB Reg.crRefStatusTreeSrc)).treeFollows else s)

/-- R129, R130: does `c` win over the source in use, by preference or by priority? -/
def State.treeBetter (s : State) (c : Nat) : Bool :=
  let cur := s.rd crB Reg.crRefStatusTreeSrc
  let pr := s.rd crB Reg.crTreeSrcPrefer
  s.treePresent c && c != cur &&
    (if s.treePresent pr then c == pr else cur == 0 || decide (c < cur))

/-- TREE_SOURCE_RETURN (R130): a better source has been present continuously for 1 s. -/
def execTreeSourceReturn (src : ClockSrc) (s : State) : Host.Outcome State Fault Refusal :=
  .next (if s.clocksUp && s.treeBetter (treeCode src) && decide (secNs ≤ s.now - (s.source src).since) then
      s.moveTree (treeCode src) else s)

/-- TIMEBASE_PLL_SOURCE_LOSS (R786): the PLL moves on; no step of site time, no `tb_pll_unlock`. -/
def execTimebasePllSourceLoss (s : State) : Host.Outcome State Fault Refusal :=
  .next (if s.clocksUp then
      (if s.rd crB Reg.crRefStatusTbSrc = 3 then s else s.treeSourceGone (s.rd crB Reg.crRefStatusTbSrc)).tbPllFollows
    else s)

/-- TIMEBASE_PLL_SOURCE_RETURN (R786). -/
def execTimebasePllSourceReturn (src : ClockSrc) (s : State) : Host.Outcome State Fault Refusal :=
  let c := tbCode src
  .next (if s.clocksUp && c != 0 && (s.source src).present && decide (c < s.rd crB Reg.crRefStatusTbSrc)
        && decide (secNs ≤ s.now - (s.source src).since) then
      s.moveTbPll c
    else s)

/-- TIMEBASE_PLL_UNLOCK (R168): the PLL actually loses lock; BOOT_PLL_LOCK says when it locks again (log entry 35). -/
def execTimebasePllUnlock (s : State) : Host.Outcome State Fault Refusal :=
  .next (if s.clocksUp && s.isSet crB Reg.crRefStatusTbPllLock then (s.wr crB Reg.crRefStatusTbPllLock 0).raise crB 2 else s)

/-- REFERENCE_PRESENT (R129, R132): a source has been counted within ±2 % over 100 µs; a tree that has none takes it at once
(R130); with REFCLK the port trains again. -/
def execReferencePresent (src : ClockSrc) (at25 : Bool) (s : State) : Host.Outcome State Fault Refusal :=
  .next (if (s.source src).present then s
    else
      let t := s.setSource src { present := true, since := s.now, at25 := at25 && src = .refIn }
      let u := if t.clocksUp then t.treeFollows else t
      if src = .refclk ∧ u.mayTrain then u.setOp hpB opStarting else u)

/-- REFERENCE_ABSENT (R168): a source that neither the tree nor the timebase PLL uses stops being present, also while a reset is held
(log entry 98). -/
def execReferenceAbsent (src : ClockSrc) (s : State) : Host.Outcome State Fault Refusal :=
  .next (if src = .internal ∨ src = .tree ∨ !(s.source src).present
        ∨ (s.clocksUp ∧ (s.rd crB Reg.crRefStatusTreeSrc = treeCode src
            ∨ (tbCode src ≠ 0 ∧ s.rd crB Reg.crRefStatusTbSrc = tbCode src))) then s
    else s.sourceGone src)

/-- REFCLK_LOSS (R132, R149): REFCLK goes while the link is up. When the tree runs on it, the tree moves too (R130). -/
def execRefclkLoss (s : State) : Host.Outcome State Fault Refusal :=
  .next (if !s.isSet hpB Reg.hpLinkUp || !s.chip.refclk.present then s
    else
      let t := s.sourceGone .refclk
      if t.clocksUp then t.treeFollows else t)

/-- R168: is the PLL of plate `p` locked, and not being stopped by a reset, a quiet entry or a power-down? -/
def State.platePllRuns (s : State) (p : Nat) : Bool :=
  bitAt (s.rd crB Reg.crClkMonPlatePll) p &&
    ((s.plate p).stage == .out || (s.plate p).stage == .storeInit || (s.plate p).stage == .kernelInit)

/-- PLATE_PLL_UNLOCK (R133, R168): a powered plate's PLL loses lock for `ns` nanoseconds; beyond 10 µs the plate is reset. -/
def execPlatePllUnlock (p : Fin 8) (ns : Nat) (s : State) : Host.Outcome State Fault Refusal :=
  .next (if !s.platePllRuns p then s
    else
      let t := s.raise crB 3
      if 10000 < ns then t.plateReset p causePlateClock else t)

/-! ### Reset pins and supplies -/

/-- The straps are sampled, the always-on domain starts, and the boot begins at step 1 (R145, R159). -/
def State.startBoot (s : State) (st : Straps) : State :=
  let t := (((s.wr crB Reg.crStrapsSid st.sid).wrB crB Reg.crStrapsPairEn st.pairEn).wrB crB Reg.crStrapsPerstMode
    st.perstMode).wrB crB Reg.crStrapsFlQuad st.flQuad
  ({ t with chip := { t.chip with power := .booting, bootFrom := s.now, aonFrom := s.now } }.wr crB Reg.crBootStep 0).bootSense true

/-- POR_N_ASSERT (R147). -/
def execPorNAssert (s : State) : Host.Outcome State Fault Refusal :=
  .next { s.powerOnReset with pins := { s.powerOnReset.pins with porN := false } }

/-- POR_N_RELEASE (R142, R145, R159): POR_N rises; the power-on reset ends unless VDD_AON still holds it. -/
def execPorNRelease (straps : Straps) (s : State) : Host.Outcome State Fault Refusal :=
  if s.chip.power = .por ∧ !s.pins.porN then
    let t := { s with pins := { s.pins with porN := true } }
    .next (if s.pins.aonLow then t else t.startBoot straps)
  else .next s

/-- VDD_AON_LOW (R142): a power-on reset begins whatever POR_N holds. -/
def execVddAonLow (s : State) : Host.Outcome State Fault Refusal :=
  .next { s.powerOnReset with pins := { s.powerOnReset.pins with aonLow := true } }

/-- VDD_AON_RECOVERED (R142): the supply has been good for 10 ms; with POR_N high the power-on reset ends. -/
def execVddAonRecovered (straps : Straps) (s : State) : Host.Outcome State Fault Refusal :=
  if s.chip.power = .por ∧ s.pins.aonLow then
    let t := { s with pins := { s.pins with aonLow := false } }
    .next (if s.pins.porN then t.startBoot straps else t)
  else .next s

/-- SUPPLY_DIP (R142). -/
def execSupplyDip (s : State) : Host.Outcome State Fault Refusal := .next (s.chipReset causeChipSupply)

/-- R148: does a word written to CR_RESET_REQ by function `fn` act? -/
def State.resetReqActs (s : State) (fn data : Nat) : Bool :=
  fn == 0 && s.mayWriteL crB 1 && bitsOf data 24 8 == 0xA5

/-- R148: chip, or else the plates of the mask in ascending order. -/
def State.resetRequestEffect (s : State) (fn data : Nat) : State :=
  if !s.resetReqActs fn data then s
  else if bitAt data 8 then s.chipReset causeChipPf
  else forUpTo 8 (fun p t => if bitAt data p then t.plateReset p causePlatePf else t) s

/-- CHIP_RESET_REQUEST (R148). -/
def execChipResetRequest (fn : Fin 65) (data : Word) (s : State) : Host.Outcome State Fault Refusal :=
  .next (s.mmioWrite fn (crB + 0x54) (fun t => t.resetRequestEffect fn data.toNat))

/-- PLATE_RESET_REQUEST (R148). -/
def execPlateResetRequest (fn : Fin 65) (data : Word) (s : State) : Host.Outcome State Fault Refusal :=
  .next (s.mmioWrite fn (crB + 0x54) (fun t => t.resetRequestEffect fn data.toNat))

/-- CHIP_RESET_RELEASE (R785, R154): 50 µs after the latest source, with supplies and PERST_N as the sources need. -/
def execChipResetRelease (suppliesOk : Bool) (s : State) : Host.Outcome State Fault Refusal :=
  if s.chip.power = .chipReset ∧ s.chip.rstAt + 50000 ≤ s.now ∧ (!s.chip.rstSupply ∨ suppliesOk)
      ∧ (!s.chip.rstPerst ∨ s.pins.perstN) then
    .next (({ s with chip := { s.chip with power := .booting, bootFrom := s.chip.rstAt } }.wr crB Reg.crBootStep 1).bootSense
      false)
  else .next s

/-- PERST_N_ASSERT (R147, R149): a host port reset, or with PERST_MODE 1 a chip reset. -/
def execPerstNAssert (s : State) : Host.Outcome State Fault Refusal :=
  if !s.pins.perstN then .next s
  else
    let t := { s with pins := { s.pins with perstN := false } }
    .next (if t.chip.power = .por then t
      else if t.isSet crB Reg.crStrapsPerstMode then t.chipReset causeChipPerst
      else if t.chip.power = .chipReset then t
      else (t.linkGoesDown.bump crB Reg.crHostResetsPerst).hostPortReset)

/-- PERST_N_RELEASE (R160): the host port may enter Detect; training then shows as STARTING (R119). -/
def execPerstNRelease (s : State) : Host.Outcome State Fault Refusal :=
  if s.pins.perstN then .next s
  else
    let t := { s with pins := { s.pins with perstN := true } }
    .next (if t.mayTrain then t.setOp hpB opStarting else t)

/-- HOT_RESET_RECEIVED (R149, R167). -/
def execHotResetReceived (s : State) : Host.Outcome State Fault Refusal :=
  .next (if s.linkUp then (s.linkGoesDown.bump crB Reg.crHostResetsHot).hostPortReset else s)

/-- LINK_DOWN_RESET (R149, R167): the data link goes down: every DMA operation ends `abandoned`. -/
def execLinkDownReset (s : State) : Host.Outcome State Fault Refusal :=
  .next (if s.linkUp then (s.linkGoesDown.bump crB Reg.crHostResetsLinkDown).hostPortReset else s)

/-! ### Boot and wake -/

/-- Boot step 3: the presence of the references is measured (R159, R129). -/
def State.measureSources (s : State) : State :=
  ((s.setSource .oscIn s.chip.oscIn).setSource .refIn s.chip.refIn).setSource .refclk s.chip.refclk

/-- R161: boot step 5 begins to read the flash from address 0, with the command that FL_QUAD selects. -/
def State.flashRead (s : State) : State :=
  State.emit { s with pins := { s.pins with flCsN := false } }
    (if s.isSet crB Reg.crStrapsFlQuad then .flash 0x6B 0 8 4 50 else .flash 0x03 0 0 1 25)

/-- BOOT_PLL_LOCK (R159 step 4, R129, R786): the PLLs lock; site time starts at 0 in FREE; the port may train (R160); the flash is
read (R161). After the boot it says that the timebase PLL has locked again (log entry 35). -/
def execBootPllLock (s : State) : Host.Outcome State Fault Refusal :=
  if s.chip.power = .booting ∧ s.rd crB Reg.crBootStep < 4 then
    let a := (s.measureSources.wr crB Reg.crBootStep 4).wr crB Reg.crRefStatusTreeSrc s.autoTree
    let b := (a.wr crB Reg.crRefStatusTbSrc a.autoTb).wr crB Reg.crRefStatusTbPllLock 1
    let c := (b.wr crB Reg.crClkMonEpkPll 1).startTimebase.flashRead
    .next (if c.mayTrain then c.setOp hpB opStarting else c)
  else .next (if s.clocksUp then s.wr crB Reg.crRefStatusTbPllLock 1 else s)

/-- R164: may a wake begin now: `gap_us` has passed since the last, and no lower-numbered plate waits? -/
def State.wakeSlotFree (s : State) (p : Nat) : Bool :=
  (match s.chip.lastWake with
    | none => true
    | some w => decide (w + s.rd crB Reg.crWakeGapGapUs * 1000 ≤ s.now))
  && !((List.range p).any (fun q => (s.plate q).stage == .waitSlot))

/-- PLATE_WAKE_SLOT (R164, R155 step 4, R159 step 9, R167): the plate's PLL restarts and it is waking. -/
def execPlateWakeSlot (p : Fin 8) (s : State) : Host.Outcome State Fault Refusal :=
  .next (if (s.plate p).stage == .waitSlot && s.wakeSlotFree p && s.chip.sheetsReady then
      let w := if (s.plate p).fromQuiet then s.wr (plB p) Title.hostOp opRunning else s
      let a := w.setPlate p { s.plate p with stage := .pllStart }
      let b := a.wr crB Reg.crClkMonPlatePll (setBit (a.rd crB Reg.crClkMonPlatePll) p false)
      let t := (b.wr crB Reg.crPlateRunPowered (setBit (b.rd crB Reg.crPlateRunPowered) p false)).wr crB Reg.crPlateRunInReset
        (setBit (b.rd crB Reg.crPlateRunInReset) p true)
      { t with chip := { t.chip with lastWake := some s.now } }
    else s)

/-- PLATE_PLL_LOCK (R155 step 5). A plate waking from QUIET keeps its store and goes to STARTING (R672). -/
def execPlatePllLock (p : Fin 8) (s : State) : Host.Outcome State Fault Refusal :=
  .next (if (s.plate p).stage == .pllStart then
      let t := s.wr crB Reg.crClkMonPlatePll (setBit (s.rd crB Reg.crClkMonPlatePll) p true)
      let u := t.wr crB Reg.crPlateRunPowered (setBit (t.rd crB Reg.crPlateRunPowered) p true)
      if (s.plate p).fromQuiet then u.wakeFromQuiet p
      else u.setPlate p { u.plate p with stage := .storeInit }
    else s)

/-- R198: every line of plate `p`'s store is zero with valid check bits. -/
def State.storeZero (s : State) (p : Nat) : State := { s with storeErrs := dropKeys (2 ^ 21 * p) (2 ^ 21 * (p + 1)) s.storeErrs }

/-- PLATE_STORE_INIT_DONE (R155 step 6, R198). -/
def execPlateStoreInitDone (p : Fin 8) (s : State) : Host.Outcome State Fault Refusal :=
  .next (if (s.plate p).stage == .storeInit then
      (s.storeZero p).setPlate p { s.plate p with stage := .kernelInit }
    else s)

/-- R415: the bank that is active out of reset has become active: its base's upper seconds are those of the time. -/
def State.hatchReady (s : State) (p : Nat) : State :=
  { s with hatches := Sparse.put {} s.hatches p { baseHi := s.siteNs / secNs / 2 ^ 32 } }

/-- R155 step 7, R181, R196, R202: patch RAM copied; the plate reaches OFF and says so. Burnishing starts (R184). -/
def State.kernelReady (s : State) (p : Nat) : State :=
  let i := s.plate p
  let t := (s.hatchReady p).setPlate p { stage := .out, patchRam := s.chip.patch, ticks := i.ticks, burnishAt := s.now }
  let u := (t.wr (gcB p) Reg.gcKernelPatchId ((s.chip.patch.map Patch.id).getD 0)).wr crB Reg.crPlateRunInReset
    (setBit (s.rd crB Reg.crPlateRunInReset) p false)
  let v := ((u.setOp (plB p) opOff).raise (plB p) 0).raise siteB 0
  (if i.faultReset then v.raise (plB p) 1 else v).raise crB 4

/-- PLATE_KERNEL_INIT_DONE (R155 step 7): then each graver checks its ROM, once (R187), and an error of the patch RAM shows
(R181). -/
def execPlateKernelInitDone (p : Fin 8) (fault : Option InitFault) (s : State) : Host.Outcome State Fault Refusal :=
  .next (if (s.plate p).stage == .kernelInit then
      match fault with
      | none => s.kernelReady p
      | some (.rom v) => (s.kernelReady p).plateFault p 4 v 0
      | some .patchRam => (s.kernelReady p).plateFault p 2 0 0
    else s)

/-- Every enabled plate has left reset. -/
def State.allPlatesOut (s : State) : Bool := (List.range 8).all (fun p => !s.plateEnabled p || s.plateOut p)

/-- BOOT_DONE (R159 step 10, R167). -/
def execBootDone (s : State) : Host.Outcome State Fault Refusal :=
  if s.chip.power = .booting ∧ s.chip.sheetsReady ∧ s.allPlatesOut then
    let t := ((s.wr crB Reg.crBootStep 9).wr crB Reg.crBootDone 1).wr crB Reg.crBootTimeBootMs
      (min 0xFFFF ((s.now - s.chip.bootFrom) / msNs))
    .next ({ t with chip := { t.chip with power := .up }, pins := { t.pins with almN := true } }.raise crB 5)
  else .next s

/-! ### Drains that overrun (R594) -/

/-- R594: the overrun is recorded, counted and announced. -/
def State.recordOverrun (s : State) (m p us : Nat) : State :=
  ((((s.wr fzB Reg.fzFabricMaster m).wr fzB Reg.fzFabricPlate p).wr fzB Reg.fzFabricValid 1).wr fzB Reg.fzFabricDrainUs
    (min 255 us)).bumpSat fzB Reg.fzCountsDrainOverrun |>.raise fzB 2

/-- R108: a VF's overrun is also recorded in HP_FAULT and logged. -/
def State.recordHpFault (s : State) (p us : Nat) : State :=
  ((((s.wr hpB Reg.hpFaultPlate p).wr hpB Reg.hpFaultValid 1).wr hpB Reg.hpFaultDrainUs (min 255 us)).raise hpB 5).logAer 0
    .internal

/-- The function a master ID belongs to, if it is a function. -/
def fnOfMaster (m : Nat) : Option Nat :=
  if m = 1 then some 0 else if 0x41 ≤ m ∧ m ≤ 0x80 then some (m - 0x40) else none

/-- The VFs of plate `p` whose drain belongs to an FLR of function `fn` and is not complete (R594): the VF itself, or those of the
PF's reset (R109). -/
def State.undrained (s : State) (fn p : Nat) : List Nat :=
  (s.flrs.filter (fun e => e.1 != 0 && (e.1 - 1) / 8 == p && !e.2.drained && (e.1 == fn || (fn == 0 && e.2.withPf)))).map Prod.fst

/-- R108, R109, R594: the drains of an FLR of `fn` overrun on plate `p`: recorded, and ended by that plate's reset. -/
def State.flrOverrun (s : State) (m fn p us : Nat) : State :=
  let t := ((s.recordOverrun m p us).recordHpFault p us).plateReset p causePlateFabric
  let u := forEach (s.undrained fn p) (fun n v => v.flrDrain n) t
  if fn = 0 ∧ (List.range 8).all (fun q => (u.undrained 0 q).isEmpty) then u.flrDrain 0 else u

/-- DRAIN_OVERRUN (R594, R108): a drain of `us` microseconds for a function's FLR or the agent's reset resets the plate that holds
the undrained target; within a plate reset it is only recorded. -/
def execDrainOverrun (master : BitVec 8) (plate : Fin 8) (us : Nat) (s : State) : Host.Outcome State Fault Refusal :=
  let m := master.toNat
  if us ≤ 20 then .next s
  else match fnOfMaster m with
    | some fn => .next (if (s.undrained fn plate).isEmpty then s else s.flrOverrun m fn plate us)
    | none =>
      if m = masterEpk then
        .next (if s.agentDraining then
            ({ s with epk := { s.epk with drainFrom := none } }.recordOverrun m plate us).plateReset plate causePlateFabric
          else s)
      else if plateOfMaster m = some plate.val ∧ (s.plate plate).stage = .waitSlot then .next (s.recordOverrun m plate us)
      else .next s

end Sys2Proof.Machine
end

