-- ==== Sys2Proof/Machine/LifeCycle.lean ====
section
/-! DEFINITION. Life cycle, fuses, the patch bundle and the TAP (19_life_cycle.md). -/

namespace Sys2Proof.Machine

/-! ### Transitions (R629-R639) -/

/-- R637 steps 1 and 2: the key store shut and erased, the return-to-maker request disarmed, the learning history and
the patch area erased. -/
def State.acceptReturn (s : State) : State :=
  let a := { s with life := { s.life with keysShut := true }, chip := { s.chip with patch := none } }
  let b := a.wr lcB Reg.lcStateRtmArmed 0
  let c := b.clearRegs (lcB + 0x800) (lcB + 0xC00) (fun _ => false)
  c.eraseHistory.wr lcB Reg.lcStateErased 1

/-- R631: a completed sequence is judged; what applies at once is reported, an accepted one starts the fuse programmer. -/
def State.judgeRequest (s : State) (target : Nat) : State :=
  let answer := fun (r : Nat) => (s.wr lcB Reg.lcReqStatusResult r).raise lcB 2
  if s.life.job ≠ .idle then answer 6
  else if s.isSet lcB Reg.lcStatePending ∨ target ≠ s.fuses.lc + 1 ∨ 3 < target then answer 2
  else if target = 3 ∧ !s.isSet lcB Reg.lcStateRtmArmed then answer 4
  else
    let t := { s with life := { s.life with job := .transition target } }
    if target = 3 then t.acceptReturn else t

/-- R630: has a sequence under way gone past 1 ms? -/
def State.reqLate (s : State) : Bool := s.life.seq.taken != 0 && decide (s.life.seq.start + msNs < s.now)

/-- R630: one word of the sequence, written by function `fn`. -/
def State.reqWordEffect (s : State) (fn w : Nat) : State :=
  let t := if s.reqLate then s.resetLcSequence else s
  let q := t.life.seq
  if fn ≠ 0 ∨ !t.mayWriteL lcB (masterOfFn fn) then t.resetLcSequence
  else if q.taken = 0 ∧ 0x4C430000 ≤ w ∧ w ≤ 0x4C430003 then
    { t with life := { t.life with seq := { taken := 1, target := w - 0x4C430000, start := t.now } } }
  else if q.taken = 1 ∧ w = 0xA55A then { t with life := { t.life with seq := { q with taken := 2 } } }
  else if q.taken = 2 ∧ w = 0xFFFFFFFF - (0x4C430000 + q.target) then
    { t with life := { t.life with seq := {} } }.judgeRequest q.target
  else t.resetLcSequence

/-- LIFECYCLE_REQUEST_WORD (R630, R631). -/
def execLifecycleRequestWord (fn : Fin 65) (word : Word) (s : State) : Host.Outcome State Fault Refusal :=
  .next (s.mmioWrite fn (lcB + 0x54) (fun t => t.reqWordEffect fn word.toNat))

/-- LIFECYCLE_REQUEST_TIMEOUT (R630). -/
def execLifecycleRequestTimeout (s : State) : Host.Outcome State Fault Refusal :=
  .next (if s.reqLate then s.resetLcSequence else s)

/-- TRANSITION_FUSE_DONE (R631, R632): the fuse verifies (`ok`) and the state is pending, or the result is `fuse_fail`;
whether a fuse that does not verify senses as blown is a free value. -/
def execTransitionFuseDone (ok : Bool) (s : State) : Host.Outcome State Fault Refusal :=
  match s.life.job with
  | .transition target =>
    let t := { s with life := { s.life with job := .idle } }
    if ok then
      let u := { t with fusesBlown := { t.fusesBlown with lc := target } }
      .next ((((u.wr lcB Reg.lcStatePendState target).wr lcB Reg.lcStatePending 1).wr lcB Reg.lcReqStatusResult 1).raise lcB 2)
    else
      let d := t.drawBool
      let u := if d.1 then { d.2 with fusesBlown := { d.2.fusesBlown with lc := target } } else d.2
      .next ((u.wr lcB Reg.lcReqStatusResult 5).raise lcB 2)
  | _ => .next s

/-! ### Return to maker (R633-R636) -/

/-- R636: the lock holder's write stores a word of the image; any write clears `rtm_armed`. -/
def State.rtmImageEffect (s : State) (fn w data : Nat) : State :=
  (s.storeField fn lcB Reg.lcRtmImgWord w data).wr lcB Reg.lcStateRtmArmed 0

/-- RTM_IMAGE_WRITE (R636). -/
def execRtmImageWrite (fn : Fin 65) (w : Fin 32) (data : Word) (s : State) : Host.Outcome State Fault Refusal :=
  .next (s.mmioWrite fn (lcB + 0x100 + 4 * w) (fun t => t.rtmImageEffect fn w data.toNat))

/-- R634: the 128 bytes of the image as its words hold them. -/
def State.rtmImage (s : State) : List Byte :=
  (List.range 32).flatMap (fun w => leBytes 4 (s.rd lcB Reg.lcRtmImgWord w))

/-- Are all bytes of a list zero? -/
def zeroBytes (l : List Byte) : Bool := l.all (· == 0)

/-- R635: the result of the checks, in order. -/
def State.rtmResult (s : State) : Nat :=
  let m := s.rtmImage
  let key := leVal (bytesAt m 0x18 4)
  if s.fuses.lc ≠ 2 then 2
  else if leVal (bytesAt m 0 4) ≠ 0x52544D31 ∨ !zeroBytes (bytesAt m 4 4) ∨ !zeroBytes (bytesAt m 0x1C 0x24) then 3
  else if leVal (bytesAt m 8 8) ≠ Config.uid % 2 ^ 64 then 4
  else if leVal (bytesAt m 0x10 8) ≠ s.rd lcB Reg.lcNonceLoNonce + s.rd lcB Reg.lcNonceHiNonce * 2 ^ 32 then 5
  else if 3 < key ∨ bitAt s.fuses.keyRev key then 6
  else if !Config.ecdsaOk key (Config.sha256 (m.take 0x40)) (bytesAt m 0x40 32) (bytesAt m 0x60 32) then 7
  else 1

/-- R635: the lock holder's `go` starts the check. -/
def State.rtmGoEffect (s : State) (fn : Nat) : State :=
  if s.mayWriteL lcB (masterOfFn fn) then s.wr lcB Reg.lcRtmStatusBusy 1 else s

/-- RTM_VERIFY_GO (R635). -/
def execRtmVerifyGo (fn : Fin 65) (s : State) : Host.Outcome State Fault Refusal :=
  .next (s.mmioWrite fn (lcB + 0x84) (fun t => t.rtmGoEffect fn))

/-- RTM_VERIFY_DONE (R635): the check ends. -/
def execRtmVerifyDone (s : State) : Host.Outcome State Fault Refusal :=
  if s.isSet lcB Reg.lcRtmStatusBusy then
    let r := s.rtmResult
    let t := (s.wr lcB Reg.lcRtmStatusBusy 0).wr lcB Reg.lcRtmStatusResult r
    .next ((if r = 1 then t.wr lcB Reg.lcStateRtmArmed 1 else t).raise lcB 1)
  else .next s

/-! ### Option fuses (R640-R643) -/

/-- R641: the command of the PF that holds the lock: `busy` while the programmer works, else programming starts. -/
def State.fuseCmdEffect (s : State) (fn data : Nat) : State :=
  if !s.mayWriteL lcB (masterOfFn fn) ∨ bitsOf data 24 8 ≠ 0x5A then s
  else
    let g := min 7 (bitsOf data 0 4)
    let t := s.wr lcB Reg.lcFuseStatusGroup g
    if s.life.job ≠ .idle then (t.wr lcB Reg.lcFuseStatusResult 6).raise lcB 0
    else { t with life := { t.life with job := .option g (s.rd lcB Reg.lcFuseDataValue) } }.wr lcB Reg.lcFuseStatusBusy 1

/-- FUSE_PROGRAM_CMD (R641). -/
def execFuseProgramCmd (fn : Fin 65) (data : Word) (s : State) : Host.Outcome State Fault Refusal :=
  .next (s.mmioWrite fn (lcB + 0x60) (fun t => t.fuseCmdEffect fn data.toNat))

/-- R640: may group `g` be programmed in sensed state `lc`? -/
def fuseStateOk (g lc : Nat) : Bool :=
  match g with
  | 0 => false
  | 1 => lc == 0
  | 3 | 4 => lc != 3
  | _ => true

/-- R640, R642: the fuses of group `g` once the legal part of `v` is blown. -/
def Fuses.blow (f : Fuses) (g v : Nat) : Fuses :=
  match g with
  | 1 => { f with islOff := true }
  | 2 => { f with plateDis := f.plateDis ||| v % 256 }
  | 3 => { f with ceil := f.ceil ||| clampNat 1 1600 v, ceilLock := true }
  | 4 => { f with vfCap := f.vfCap ||| min 64 v, vfCapLock := true }
  | 5 => { f with wdHw := true }
  | 6 => { f with keyRev := f.keyRev ||| v % 16 }
  | 7 => { f with secVer := max f.secVer (clampNat 1 32 v) }
  | _ => f

/-- Fuses after a programming that did not verify: which of the bits under way are blown is a free value (log entry 7). -/
def Fuses.blowPart (f : Fuses) (g v n : Nat) : Fuses :=
  let w := f.blow g v
  { w with
    islOff := f.islOff || (w.islOff && bitAt n 0)
    plateDis := f.plateDis ||| (w.plateDis &&& n)
    ceil := f.ceil ||| (w.ceil &&& n), ceilLock := f.ceilLock || (w.ceilLock && bitAt n 11)
    vfCap := f.vfCap ||| (w.vfCap &&& n), vfCapLock := f.vfCapLock || (w.vfCapLock && bitAt n 11)
    wdHw := f.wdHw || (w.wdHw && bitAt n 0)
    keyRev := f.keyRev ||| (w.keyRev &&& n)
    secVer := f.secVer + n % (w.secVer - f.secVer + 1) }

/-- R641, R642: the result of programming group `g` with value `v`, when the fuses verify (`ok`). -/
def State.fuseResult (s : State) (g v : Nat) (ok : Bool) : Nat :=
  if !fuseStateOk g s.fuses.lc then 2
  else if (g = 3 ∧ s.fusesBlown.ceilLock) ∨ (g = 4 ∧ s.fusesBlown.vfCapLock) then 3
  else if g = 6 ∧ s.fusesBlown.keyRev ||| v % 16 = 15 then 4
  else if g = 7 ∧ clampNat 1 32 v ≤ s.fusesBlown.secVer then 1
  else if ok then 1 else 5

/-- FUSE_PROGRAM_DONE (R641-R643). -/
def execFuseProgramDone (ok : Bool) (s : State) : Host.Outcome State Fault Refusal :=
  match s.life.job with
  | .option g v =>
    let r := s.fuseResult g v ok
    let t := { s with life := { s.life with job := .idle } }
    let u := if r = 1 then { t with fusesBlown := t.fusesBlown.blow g v }
      else if r = 5 then
        let d := t.drawNat
        { d.2 with fusesBlown := d.2.fusesBlown.blowPart g v d.1 }
      else t
    .next (((u.wr lcB Reg.lcFuseStatusBusy 0).wr lcB Reg.lcFuseStatusResult r).raise lcB 0)
  | _ => .next s

/-! ### Patch bundle (R644, R645) -/

/-- ROM version of the Adenath kernel (R204). -/
def romVer : Nat := 0x0100

/-- R645: `reason` and `patch_status` of a bundle with the given header and payload. -/
def State.judgeBundle (s : State) (readOk : Bool) (h payload : List Byte) : Nat × Nat :=
  let f := fun (i n : Nat) => leVal (bytesAt h i n)
  let kind := f 4 1
  let key := f 5 1
  let len := f 0xC 4
  if !readOk then (2, 6)
  else if f 0 4 = 0xFFFFFFFF ∨ f 0 4 = 0 then (0, 0)
  else if f 0 4 ≠ 0x50415431 then (3, 5)
  else if 2 < kind ∨ len % 4 ≠ 0 ∨ len < 4 ∨ 1048576 < len ∨ f 8 2 ≠ romVer ∨ f 0xB 1 ≠ 0
      ∨ !zeroBytes (bytesAt h 0x30 0x10) then (4, 5)
  else if kind = 1 ∧ s.fuses.lc = 2 then (5, 4)
  else if kind = 2 ∧ s.fuses.lc ≠ 0 then (6, 3)
  else if kind = 0 ∧ (3 < key ∨ bitAt s.fuses.keyRev key) then (7, 3)
  else if kind ≠ 2 ∧ !Config.ecdsaOk (if kind = 0 then key else 4) (Config.sha256 (h.take 0x40)) (bytesAt h 0x40 32)
      (bytesAt h 0x60 32) then (8, 3)
  else if Config.sha256 (payload.take len) ≠ bytesAt h 0x10 32 then (9, 3)
  else if kind = 0 ∧ f 0xA 1 < s.fuses.secVer then (10, 3)
  else (1, if kind = 0 then 1 else 2)

/-- R180, R644, R645: boot step 7: the outcome is recorded and an accepted payload fills the patch area. -/
def State.takeBundle (s : State) (readOk : Bool) (h payload : List Byte) : State :=
  let j := s.judgeBundle readOk h payload
  let f := fun (i n : Nat) => leVal (bytesAt h i n)
  let len := f 0xC 4
  let known := decide (readOk ∧ j.1 ≠ 0)
  let a := (s.wr lcB Reg.lcPatchReason j.1).wr crB Reg.crBootPatchStatus j.2
  let b := ((a.wr lcB Reg.lcPatchKind (if known then f 4 1 else 0)).wr lcB Reg.lcPatchKey (if known then f 5 1 else 0)).wr lcB
    Reg.lcPatchSecVer (if known then f 0xA 1 else 0)
  if j.1 = 1 then
    { b with chip := { b.chip with patch := some { id := f 6 2, payload := payload.take len } } }.wr crB Reg.crBootPatchKib
      ((len + 1023) / 1024)
  else { b with chip := { b.chip with patch := none } }.wr crB Reg.crBootPatchKib 0

/-- R159 step 8, step 9: the sheets are ready, evidence that a reset left is announced (R621), and every enabled plate waits for
its wake slot. -/
def State.sheetsBecomeReady (s : State) : State :=
  let t := { s with chip := { s.chip with sheetsReady := true }, mailbox := { s.mailbox with at_ := s.now } }.wr crB
    Reg.crBootStep 8
  let e := forUpTo 9 (fun c u => if u.isSet (wdB c) Reg.wdEvCauseValid then u.raise (wdB c) 1 else u) t
  forUpTo 8 (fun p u =>
    if u.plateEnabled p then
      (u.setPlate p { u.plate p with stage := .waitSlot }).wr crB Reg.crPlateRunInReset
        (setBit (u.rd crB Reg.crPlateRunInReset) p true)
    else u) e

/-- BOOT_BUNDLE_READ_DONE (R159 steps 5 to 8, R162, R645): the read of the flash ends, with `readOk` false if it failed. -/
def execBootBundleReadDone (readOk : Bool) (header payload : List Byte) (s : State) : Host.Outcome State Fault Refusal :=
  .next (if s.chip.power = .booting ∧ s.clocksUp ∧ !s.chip.sheetsReady then
      let t := { s with pins := { s.pins with flCsN := true } }
      (t.takeBundle (readOk && header.length == 128) header payload).sheetsBecomeReady
    else s)

/-! ### Boundary scan (R646-R649) -/

/-- R646: does the sensed state allow the TAP instruction? -/
def tapAllowed (lc : Nat) : TapInstr → Bool
  | .debug => lc != 2
  | .makerTest _ => lc == 0 || lc == 3
  | _ => true

/-- R646: the TAP takes an instruction, or BYPASS where the state does not allow it; TRST_N is high by then. -/
def State.tapSelect (s : State) (i : TapInstr) : State :=
  { s with tap := { s.tap with instr := if tapAllowed s.fuses.lc i then i else .bypass, trstN := true } }

/-- The scanned bits as one number, cell 0 lowest. -/
def bitsVal : List Bool → Nat
  | [] => 0
  | b :: r => b2n b + 2 * bitsVal r

/-- TRST_N_ASSERT (R646). -/
def execTrstNAssert (s : State) : Host.Outcome State Fault Refusal :=
  .next { s with tap := { s.tap with instr := .idcode, trstN := false } }

/-- EXTEST (R646, R648): the balls follow the cells, which take what is shifted in. -/
def execExtest (cells : List Bool) (s : State) : Host.Outcome State Fault Refusal :=
  .next (let t := s.tapSelect .extest; { t with tap := { t.tap with cells := cells } })

/-- The identification register (R647). -/
def tapIdcode : Nat := 0x12048D6F

/-- IDCODE (R647): the register shifts out. -/
def execIdcode (s : State) : Host.Outcome State Fault Refusal :=
  .next ((s.tapSelect .idcode).emit (.tdo tapIdcode))

/-- SAMPLE_PRELOAD (R646): the balls' levels shift out and the cells take what is shifted in. -/
def execSamplePreload (balls cells : List Bool) (s : State) : Host.Outcome State Fault Refusal :=
  .next (let t := (s.tapSelect .samplePreload).emit (.tdo (bitsVal balls)); { t with tap := { t.tap with cells := cells } })

/-- CLAMP (R646, R648). -/
def execClamp (s : State) : Host.Outcome State Fault Refusal := .next (s.tapSelect .clamp)

/-- HIGHZ (R646, R648). -/
def execHighz (s : State) : Host.Outcome State Fault Refusal := .next (s.tapSelect .highz)

/-- BYPASS (R646). -/
def execBypass (s : State) : Host.Outcome State Fault Refusal := .next (s.tapSelect .bypass)

/-- DEBUG (R649). -/
def execDebug (s : State) : Host.Outcome State Fault Refusal := .next (s.tapSelect .debug)

/-- MAKER_TEST (R646): the instruction with opcode 0x20 + `code` is selected; what a maker test does beyond that the spec
does not say. -/
def execMakerTest (code : Fin 32) (s : State) : Host.Outcome State Fault Refusal := .next (s.tapSelect (.makerTest code))

/-- Is the TAP connected to the gravers' debug ports (R649), in a state that allows it (R628)? -/
def State.tapDebug (s : State) (p : Nat) : Bool := s.tap.instr == .debug && s.debugState && s.plateEnabled p && s.plateOut p

/-- DEBUG_HALT (R649, R200): the graver holds the address of its next instruction, a free value (log entry 7). -/
def execDebugHalt (p : Fin 8) (g : Fin 4) (s : State) : Host.Outcome State Fault Refusal :=
  if s.tapDebug p && !(s.graver p g).haltTap then
    let d := if s.graverRuns p g then s.drawNat else ((s.graver p g).pc, s)
    .next (d.2.setGraver p g { d.2.graver p g with haltTap := true, pc := if s.graverRuns p g then codeAddr d.1 else d.1 })
  else .next s

/-- DEBUG_RESUME (R649). -/
def execDebugResume (p : Fin 8) (g : Fin 4) (s : State) : Host.Outcome State Fault Refusal :=
  .next (if s.tapDebug p then s.setGraver p g { s.graver p g with haltTap := false } else s)

/-- DEBUG_SINGLE_STEP (R649): a halted, unfrozen graver executes one instruction; where its PC then stands is a free value. -/
def execDebugSingleStep (p : Fin 8) (g : Fin 4) (s : State) : Host.Outcome State Fault Refusal :=
  if s.tapDebug p && s.graverHalted p g && !s.isFrozen (masterGraver p g) && s.graversReleased p then
    let d := s.drawNat
    .next (d.2.setGraver p g { d.2.graver p g with pc := codeAddr d.1 })
  else .next s

/-- R171, R649: an access through graver `g`: refused while it is frozen, a violation where nothing takes it, otherwise
carried out; what memory and registers of the kernel hold is a free value. -/
def State.debugAccess (s : State) (p g : Nat) (target : DebugTarget) (write : Bool) : State :=
  let m := masterGraver p g
  let bad := fun (a : Nat) => (s.violate m vDecode (if write then 5 else 4) (some p) a 0).settleGraver p g
  let answer := if write then s else let d := s.drawNat; d.2.emit (.tdo d.1)
  if s.isFrozen m then s.countRepeat m
  else match target with
    | .unmapped a => bad a
    | .rom a | .patchRam a => if write then bad a else answer
    | .pc => if write then s else if s.graverRuns p g then answer else s.emit (.tdo (s.graver p g).pc)
    | .register | .mapped _ => answer

/-- DEBUG_ACCESS (R649, R171). -/
def execDebugAccess (p : Fin 8) (g : Fin 4) (target : DebugTarget) (write : Bool) (s : State) :
    Host.Outcome State Fault Refusal :=
  .next (if s.tapDebug p then s.debugAccess p g target write else s)

end Sys2Proof.Machine
end

