-- ==== Sys2Proof/Machine/MediaSend.lean ====
section
/-! DEFINITION. The commands that send a channel's packets at instants of their own: events (R293) and RTCP (R290). What
they commit repeats the choice of the port (R420). -/

namespace Sys2Proof.Machine

/-- EVENT_UPDATE_SEND (R293): every 50 ms while the event lasts. -/
def execEventUpdateSend (g : Fin 2048) (s : State) : Host.Outcome State Fault Refusal :=
  .next (match (s.media g).evOut with
    | some e =>
      if e.ends = 0 ∧ e.lastSent + 50 * msNs ≤ s.now ∧ !s.eventOver e then
        let d := s.segmentEvent g { e with lastSent := s.now }
        ((d.2.sendEvent g d.1 false false).modMedia g (fun y => { y with evOut := some d.1 })).choose (g / 256)
      else s
    | none => s)

/-- EVENT_END_SEND (R293, R295): of the events before, if they still have end packets, and of the latest one. -/
def execEventEndSend (g : Fin 2048) (s : State) : Host.Outcome State Fault Refusal :=
  let past := (s.media g).evPast.foldl (fun (a : List EvOut × State) e => let d := a.2.endEvent g e; (a.1 ++ [d.1], d.2)) ([], s)
  let t := past.2.modMedia g (fun m => { m with evPast := past.1 })
  .next (State.choose (match (t.media g).evOut with
    | some e => let d := t.endEvent g e; d.2.modMedia g (fun m => { m with evOut := some d.1 })
    | none => t) (g / 256))

/-- RTCP_SEND (R290, R291). -/
def execRtcpSend (g : Fin 2048) (s : State) : Host.Outcome State Fault Refusal :=
  .next (match (s.media g).rtcpAt with
    | some a => if a ≤ s.now ∧ s.sendsRtcp g then (s.sendRtcp g false).choose (g / 256) else s
    | none => s)

end Sys2Proof.Machine
end

