-- ==== Sys2Proof/Machine/Island.lean ====
section
/-! DEFINITION. The metrology island's data (16_metrology.md): feeds, energy, audit log, parameters, and the blocks it
publishes. -/

namespace Sys2Proof.Machine

def State.modIsland (s : State) (f : Island → Island) : State := { s with island := f s.island }
def Island.feed (d : Island) (k : Nat) : Feed := Sparse.get {} d.feeds k
def Island.setFeed (d : Island) (k : Nat) (f : Feed) : Island := { d with feeds := Sparse.put {} d.feeds k f }
def State.feed (s : State) (k : Nat) : Feed := s.island.feed k
def State.setFeed (s : State) (k : Nat) (f : Feed) : State := s.modIsland (fun d => d.setFeed k f)

/-- R3: the device has an island that is not in reset. -/
def State.islandOn (s : State) : Bool := !s.fusesBlown.islOff && !s.island.inReset

/-- R548, R558, R560: does the island measure? -/
def State.islandMeasures (s : State) : Bool :=
  s.islandOn && !s.island.low && !s.island.clockFault && decide (s.island.from_ + msNs ≤ s.now)

/-- Operating seconds (R555). -/
def State.islandOpS (s : State) : Nat := s.island.opS + (if s.island.inReset then 0 else (s.now - s.island.from_) / secNs)

/-! ### Energy (R544-R546) -/

/-- The accumulator's unit in 2⁻¹⁶ J. -/
def energyUnit : Nat := 2 ^ 32 * 4000000

/-- R545: E of an exact sum. -/
def energyE (acc : Nat) : Nat := acc / energyUnit

/-- R546: counts of 0.1 mWh, before wrapping. -/
def energyCount (acc : Nat) : Nat := 25 * energyE acc / 589824

/-- R546: the wrap flag of a counter that moves from `old` to `new` counts. -/
def wrapFlag (w : Bool) (old new : Nat) : Bool :=
  if old / 2 ^ 48 < new / 2 ^ 48 then true else if new % 2 ^ 48 < 2 ^ 47 then w else false

/-- R545: an interval's energy, `p` × `cycles`, in its accumulator. -/
def FeedEnergy.add (e : FeedEnergy) (p : Int) (cycles : Nat) : FeedEnergy :=
  let q := p.natAbs * cycles
  if 0 < p then { e with fwd := e.fwd + q, wrapF := wrapFlag e.wrapF (energyCount e.fwd) (energyCount (e.fwd + q)) }
  else if p < 0 then { e with rev := e.rev + q, wrapR := wrapFlag e.wrapR (energyCount e.rev) (energyCount (e.rev + q)) }
  else e

/-! ### Coefficient sets (R552) -/

/-- The 16 words of set `m` as signed values. -/
def setWords (c : Sparse Int) (m : Nat) : List Int := (List.range 16).map (fun k => Sparse.get 0 c (16 * m + k))

/-- R552: CRC-32 of a set. -/
def setCrc (c : Sparse Int) (m : Nat) : Nat := crc32 (Machine.wordBytes ((setWords c m).map (ofSigned 32)))

/-- R552: set `m` of the shadow copied to the active sets. -/
def Feed.commitSet (f : Feed) (m : Nat) : Feed :=
  { f with active := forUpTo 16 (fun k a => Sparse.put 0 a (16 * m + k) (Sparse.get 0 f.shadow (16 * m + k))) f.active }

/-- R552: the shadow sets are reloaded. -/
def Island.reloadShadow (d : Island) : Island :=
  { d with feeds := d.feeds.map (fun e => (e.1, { e.2 with shadow := e.2.active })) |>.filter (fun e => e.2 != {}) }

/-! ### Audit log (R549-R556) -/

def Island.logFull (d : Island) : Bool := decide (4096 ≤ d.log.length)

/-- R555: the 32 bytes of a record. -/
def AuditRec.bytes (r : AuditRec) : List Byte :=
  let b := leBytes 4 r.index ++ leBytes 4 r.opS ++ leBytes 1 r.kind ++ leBytes 1 r.feed ++ leBytes 2 r.item ++ leBytes 4 r.old
    ++ leBytes 4 r.new ++ leBytes 4 r.sealCount ++ leBytes 6 r.eFwd
  b ++ leBytes 2 (crc16 b)

/-- A record is written; `feed` 255 stands for no feed. -/
def State.audit (s : State) (kind feed item old new : Nat) : State :=
  let e := if feed < 8 then energyCount (s.feed feed).energy.fwd % 2 ^ 48 else 0
  s.modIsland (fun d => { d with log :=
    { index := d.log.length, opS := s.islandOpS % 2 ^ 32, kind := kind, feed := feed, item := item, old := old, new := new
      sealCount := d.sealCount, eFwd := e } :: d.log })

/-- R551-R553: a change: the seal event counter rises and its record is written. -/
def State.sealEvent (s : State) (kind feed item old new : Nat) : State :=
  (s.modIsland (fun d => { d with sealCount := satAdd 0xFFFFFFFF d.sealCount 1 })).audit kind feed item old new

/-! ### Parameters (R572) -/

/-- A scalar parameter's value, by index; none for an index that names none. -/
def FeedParams.get (p : FeedParams) : Nat → Option Nat
  | 1 => some p.mode | 2 => some p.iExp | 3 => some p.iRated | 4 => some p.iCreep | 5 => some p.fluxM | 6 => some p.fluxGain
  | 7 => some p.driveMv | 8 => some p.fluxPhase | _ => none

/-- R572, R8: the value stored. -/
def paramLegal (i v : Nat) : Nat :=
  match i with
  | 1 => if v ≤ 2 then v else 0
  | 2 => min v 7
  | 3 => clampNat 1 65535 v
  | 4 => min v 50
  | 5 => clampNat 2 8 v
  | 6 => if v = 4 ∨ v = 16 then v else 1
  | 7 => clampNat 50 500 v
  | _ => min v 255

def FeedParams.set (p : FeedParams) (i v : Nat) : FeedParams :=
  match i with
  | 1 => { p with mode := v }
  | 2 => { p with iExp := v }
  | 3 => { p with iRated := v }
  | 4 => { p with iCreep := v }
  | 5 => { p with fluxM := v }
  | 6 => { p with fluxGain := v }
  | 7 => { p with driveMv := v }
  | 8 => { p with fluxPhase := v }
  | _ => p

/-- The filters and the window of a feed start again. -/
def Feed.restart (f : Feed) (now : Nat) : Feed :=
  { f with tValid := false, goodRun := 0, prevGood := none, fluxFault := false, runFrom := now + msNs, winP := 0, winN := 0
           creep := false, overRange := false, lastI := 0, lastV := 0, quad := 0 }

/-! ### Blocks (R570, R571) -/

/-- R570: `MBF_STATUS`. -/
def Feed.status (f : Feed) (clockFault : Bool) : Nat :=
  f.params.mode + 4 * b2n (!f.tValid && f.params.mode != 0) + 8 * b2n f.creep + 16 * b2n f.overRange + 32 * b2n f.fluxFault
    + 64 * b2n f.tValid + 128 * b2n f.energy.wrapF + 256 * b2n f.energy.wrapR + 512 * b2n clockFault

/-- R570: the 16 words of a feed block, from its mean power and its T_feed as words. -/
def Feed.block (f : Feed) (clockFault : Bool) (power temp : Nat) : List Nat :=
  let ef := energyCount f.energy.fwd
  let er := energyCount f.energy.rev
  let xf := energyE f.energy.fwd
  let xr := energyE f.energy.rev
  [f.status clockFault, power, ofSigned 32 (shrRound f.lastV 8), ofSigned 32 (shrRound f.lastI 8), temp, ofSigned 24 f.quad,
   bitsOf ef 0 32, bitsOf ef 32 16, bitsOf er 0 32, bitsOf er 32 16, bitsOf xf 0 32, bitsOf xf 32 32, bitsOf xr 0 32,
   bitsOf xr 32 32, setCrc f.active 0 ^^^ setCrc f.active 1 ^^^ setCrc f.active 2, 0]

/-- R547: mean power of the window in 2⁻⁸ W, and T_feed in 2⁻⁷ °C, whose rounding the spec does not give. -/
def State.blockOf (s : State) (k : Nat) : List Nat × State :=
  let f := s.feed k
  let p := if f.winN = 0 then (0, s) else s.drawRound f.winP (2 ^ 40 * f.winN)
  let t := p.2.drawRound f.energy.tFeed (2 ^ 17)
  (f.block s.island.clockFault (ofSigned 32 p.1) (ofSigned 16 t.1), t.2)

/-- The eight feed blocks. -/
def State.blocks (s : State) : List (List Nat) × State :=
  (List.range 8).foldl (fun (a : List (List Nat) × State) k => (a.1 ++ [(a.2.blockOf k).1], (a.2.blockOf k).2)) ([], s)

/-- R571: the first 15 words of the island block. -/
def State.islandWords (s : State) (die : Int) : List Nat :=
  let d := s.island
  [b2n d.sealEn + 2 * b2n d.logFull + 4 * b2n d.nvmFault + 8 * b2n d.clockFault, d.sealCount, d.log.length,
   s.islandOpS % 2 ^ 32, min 0xFFFF d.powerups + min 0xFFFF d.unsaved * 65536,
   Config.islandVersion % 65536 + min 0xFFFF d.uartBad * 65536, Config.islandRomCrc % 2 ^ 32,
   Config.islandSerial % 2 ^ 32, Config.islandSerial / 2 ^ 32 % 2 ^ 32, ofSigned 16 die, 0, 0, 0, 0, 0]

/-- R565, R567: the publication of a window. -/
def State.publication (s : State) : Publication × State :=
  let b := s.blocks
  let t := b.2.drawRound s.island.die 512
  let w := t.2.islandWords (3200 + t.1)
  let crc := crc32 (Machine.wordBytes (b.1.flatMap id ++ w))
  ({ seq := (match s.island.pub with | some p => (p.seq + 1) % 2 ^ 32 | none => 1), feeds := b.1, island := w ++ [crc] }, t.2)

end Sys2Proof.Machine
end

