-- ==== Sys2Proof/Machine/Metrology.lean ====
section
/-! DEFINITION. The metrology island's events, its UART commands, and the chip side's mailbox (16_metrology.md). -/

namespace Sys2Proof.Machine

/-! ### Test pulse (R564) -/

/-- The pulse energy of a constant code, 2⁻¹⁶ J. -/
def pulseUnit (c : Nat) : Nat := match c with | 0 => 235929600 | 1 => 23592960 | _ => 2359296

/-- ISL_TP's level. -/
def State.islTp (s : State) : Bool :=
  s.islandOn && s.island.tpOn && (match s.island.tpAt with | some a => decide (s.now < a + 2 * msNs) | none => false)

/-- A queued pulse starts when none is in progress. -/
def State.tpStart (s : State) : State :=
  if s.island.tpAt.isNone && decide (0 < s.island.tpQueue) then
    s.modIsland (fun d => { d with tpAt := some s.now, tpQueue := d.tpQueue - 1 })
  else s

/-- R564: the selected accumulator of feed `k` moves from `old` to `new`; the pulse that starts at once needs no place in the
queue of 255. -/
def State.tpCross (s : State) (k : Nat) (old new : FeedEnergy) : State :=
  let d := s.island
  if d.tpOn ∧ d.tpFeed = k then
    let e := fun (x : FeedEnergy) => energyE (if d.tpRev then x.rev else x.fwd) / pulseUnit d.tpConst
    let n := e new - e old
    let t := (s.modIsland (fun i => { i with tpQueue := min (if i.tpAt.isNone then 256 else 255) (i.tpQueue + n) })).tpStart
    t
  else s

/-- TEST_PULSE_END (R564): 2 ms high and 2 ms low are over. -/
def execTestPulseEnd (s : State) : Host.Outcome State Fault Refusal :=
  .next (match s.island.tpAt with
    | some a => if a + 4 * msNs ≤ s.now then (s.modIsland (fun d => { d with tpAt := none })).tpStart else s
    | none => s)

/-! ### Measurement -/

/-- Voltage words of an interval: 1 in SHUNT, `flux_m` in FLUX (R540). -/
def FeedParams.words (p : FeedParams) : Nat := if p.mode = 2 then p.fluxM else 1

/-- R543: is |I| below the creep limit? -/
def FeedParams.creeps (p : FeedParams) (y : Int) : Bool :=
  decide (y.natAbs * 2 ^ p.iExp * 10000 < p.iCreep * p.iRated * 2 ^ 24)

/-- |s| ≥ 0.98. -/
def overRange (x : Int) : Bool := decide (98 * 2 ^ 23 ≤ x.natAbs * 100)

/-- R541-R545: one interval of feed `k`. -/
def State.interval (s : State) (k : Nat) (si : Int) (sv : List Int) (quad : Int) : State :=
  let f := s.feed k
  let m := s.drawRound (sv.foldl (· + ·) 0) (max 1 sv.length : Nat)
  let x := m.2.drawRound (f.energy.tFeed - 25 * 2 ^ 24) 256
  let t := reading24 x.1
  let yi := if f.fluxFault then 0 else polyEval (setWords f.active 0) si t
  let creep := f.params.creeps yi
  let i := if creep then 0 else yi * 2 ^ f.params.iExp
  let v := polyEval (setWords f.active 1) m.1 t
  let p := v * i
  let e := if f.fluxFault then f.energy else f.energy.add p (128 * f.params.words)
  let g := { f with
    energy := e, winP := f.winP + p, winN := f.winN + 1, creep := f.creep || creep
    overRange := f.overRange || overRange si || overRange m.1, lastI := i, lastV := v
    quad := if f.params.mode = 2 then quad else 0 }
  (x.2.setFeed k g).tpCross k f.energy e

/-- R502-R504: converter `n` of the island produces `count` first-stage words. -/
def State.islandWordsOf (s : State) (n : Nat) (x : Converted) (count : Nat) : List (Int × Int) × State :=
  let r := Conv.words x count (Sparse.get {} s.island.convs n)
  (r.1, s.modIsland (fun d => { d with convs := Sparse.put {} d.convs n r.2 }))

/-- R505: converter `n` of the island converts for 100 ms. -/
def State.islandConvert (s : State) (n : Nat) (x : Converted) : Int × State :=
  let r := Conv.reading x (Sparse.get {} s.island.convs n)
  (r.1, s.modIsland (fun d => { d with convs := Sparse.put {} d.convs n r.2 }))

/-- R536, R537: what feed `k`'s current converter converts, from V(Fk_IP − Fk_IN). -/
def State.currentInput (s : State) (k : Nat) (l : List Int) : Converted :=
  let p := (s.feed k).params
  if p.mode = 2 then sineDriven (16 + 3 * k) l p.fluxGain p.fluxM p.fluxPhase
  else choppedSignal (16 + 3 * k) l 24 128 (Sparse.get {} s.island.convs (3 * k)).cycle

/-- R538: what feed `k`'s voltage converter converts over the interval, from V(Fk_VP − Fk_VN). -/
def State.voltageInput (s : State) (k : Nat) (l : List Int) : Converted :=
  choppedSignal (17 + 3 * k) l 1 (128 * (s.feed k).params.words) (Sparse.get {} s.island.convs (3 * k + 1)).cycle

/-- R508, R537: the level of Fk_DRV above the island's mid-rail at cycle `c` of the drive, in units of 1/2,047 mV. -/
def State.fluxDrive (s : State) (k c : Nat) : Int :=
  let p := (s.feed k).params
  if s.islandMeasures && p.mode == 2 then p.driveMv * driveTable (c * 64 / (128 * p.fluxM)) else 0

/-- R540: an interval's conversions: the current word with its quadrature, and the voltage words. -/
def State.intervalOf (s : State) (k : Nat) (current volts : List Int) : State :=
  let i := s.islandWordsOf (3 * k) (s.currentInput k current) 1
  let v := i.2.islandWordsOf (3 * k + 1) (i.2.voltageInput k volts) (i.2.feed k).params.words
  let w := i.1.getD 0 (0, 0)
  v.2.interval k w.1 (v.1.map (·.1)) w.2

/-- ISLAND_INTERVAL (R540-R545): the signals between Fk_IP and Fk_IN and between Fk_VP and Fk_VN over the interval, in nV. -/
def execIslandInterval (k : Fin 8) (current volts : List Int) (s : State) : Host.Outcome State Fault Refusal :=
  .next (
    let f := s.feed k
    if s.islandMeasures && f.params.mode != 0 && decide (f.runFrom ≤ s.now) then s.intervalOf k current volts else s)

/-- R512: the island's die sensor converts once in a 100 ms span, whichever feed's reading comes first. -/
def State.dieConvert (s : State) (die : Int) : State :=
  if s.island.dieAt = some s.now then s
  else
    let r := s.islandConvert 24 (dieInput 40 die)
    r.2.modIsland (fun d => { d with die := r.1, dieAt := some s.now })

/-- R506, R535: Fk_TEXC is driven while the feed is not off and the island measures. -/
def State.feedDriven (s : State) (k : Nat) : Bool := s.islandMeasures && (s.feed k).params.mode != 0

/-- R510, R515, R516, R539: one reading `x` of feed `k`'s temperature. -/
def State.feedTemp (s : State) (k : Nat) (x : Int) : State :=
  let f := s.feed k
  let y := polyEval (setWords f.active 2) x s.island.die
  let near := match f.prevGood with
    | none => true
    | some v => decide ((y - v).natAbs * 2 ≤ 2 ^ 24)
  if readingIn x && decide (-40 * 2 ^ 24 ≤ y ∧ y ≤ 125 * 2 ^ 24) && near then
    let valid := f.tValid || decide (10 ≤ f.goodRun + 1)
    s.setFeed k { f with
      tValid := valid, goodRun := min 10 (f.goodRun + 1), prevGood := some y
      energy := if valid then { f.energy with tFeed := y } else f.energy }
  else s.setFeed k { f with tValid := false, goodRun := 0, prevGood := if f.tValid then none else f.prevGood }

/-- ISLAND_TEMP_READING (R505, R506, R539): the feed's bridge and the island's die sensor over 100 ms. -/
def execIslandTempReading (k : Fin 8) (th : Bridge) (die : Int) (s : State) : Host.Outcome State Fault Refusal :=
  .next (
    if s.islandMeasures then
      let a := s.dieConvert die
      if (a.feed k).params.mode = 0 then a
      else
        let r := a.islandConvert (3 * k + 2) (bridgeInput (18 + 3 * k) (a.feedDriven k) th)
        r.2.feedTemp k r.1
    else s)

/-- FLUX_DRIVE_LIMIT (R537): Fk_DRV is at its current limit for 1 ms, or the limit clears. -/
def execFluxDriveLimit (k : Fin 8) (limited : Bool) (s : State) : Host.Outcome State Fault Refusal :=
  .next (if s.islandOn && (s.feed k).params.mode == 2 then s.setFeed k { s.feed k with fluxFault := limited } else s)

/-- The window starts again. -/
def Feed.newWindow (f : Feed) : Feed := { f with winP := 0, winN := 0, creep := false, overRange := false }

/-- R566, R569: the chip side takes a publication. -/
def State.receivePub (s : State) (p : Publication) : State :=
  let lost := match s.mailbox.latest with
    | some q => (p.seq + 2 ^ 32 - q.seq - 1) % 2 ^ 32
    | none => 0
  let word := fun (x : Publication) i => x.island.getD i 0
  let differs := fun (f : Publication → Nat) => match s.mailbox.latest with
    | some q => decide (f q ≠ f p)
    | none => false
  let a := { s.bumpSat mbB Reg.mbStatLost 0 lost with mailbox := { s.mailbox with latest := some p, at_ := s.now } }
  let b := if s.rd mbB Title.stateOp = opFault then a.raise mbB 1 else a
  let c := if differs (word · 1) then b.raise mbB 2 else b
  let d := if differs (fun x => bitsOf (word x 0) 0 1) then c.raise mbB 3 else c
  let e := if differs (fun x => bitsOf (word x 0) 1 1) then d.raise mbB 4 else d
  e.setOp mbB opRunning

/-- ISLAND_WINDOW_PUBLISH (R547, R565-R569); `arrives` is false for a publication that does not reach the chip side. -/
def execIslandWindowPublish (arrives : Bool) (s : State) : Host.Outcome State Fault Refusal :=
  .next (
    if s.islandOn then
      let p := s.publication
      let t := p.2.modIsland (fun d => { d with
        pub := some p.1, feeds := d.feeds.map (fun e => (e.1, e.2.newWindow)) |>.filter (fun e => e.2 != {}) })
      if arrives && t.chip.sheetsReady then t.receivePub p.1 else t
    else s)

/-- ISLAND_LOST (R569): 10 ms without a publication. -/
def execIslandLost (s : State) : Host.Outcome State Fault Refusal :=
  .next (
    if !s.fusesBlown.islOff && s.chip.sheetsReady && s.rd mbB Title.stateOp != opFault
        && decide (s.mailbox.at_ + 10 * msNs ≤ s.now) then
      (s.setOp mbB opFault).raise mbB 0
    else s)

/-- R566: a read of MB_SEQ latches the latest publication and gives its number. -/
def State.mbSeqEffect (s : State) : Nat × State :=
  match s.mailbox.latest with
  | some p => (p.seq, ({ s with mailbox := { s.mailbox with latched := some p } }).wr mbB Reg.mbSeqSeq p.seq)
  | none => (0, s)

/-- MB_SEQ_READ (R566). -/
def execMbSeqRead (fn : Fin 65) (s : State) : Host.Outcome State Fault Refusal :=
  .next (s.mmioRead fn (mbB + 0x40) (fun t => t.mbSeqEffect))

/-! ### Seal, supply, resets (R549, R557-R561) -/

/-- SEAL_EN_CHANGE (R549, R552, R556): the debounced level changes. -/
def execSealEnChange (level : Bool) (s : State) : Host.Outcome State Fault Refusal :=
  .next (
    if s.islandOn && s.island.sealEn != level then
      let a := s.modIsland (fun d => { d with sealEn := level })
      let b := if a.island.logFull then a else a.audit (if level then 1 else 2) 255 0 0 0
      if level then b else b.modIsland Island.reloadShadow
    else s)

/-- R557: a checkpoint of the feeds goes into the ring. -/
def State.checkpoint (s : State) (periodic : Bool) : State :=
  s.modIsland (fun d => { d with
    ckpts := ({ periodic := periodic, feeds := (d.feeds.map (fun e => (e.1, e.2.energy))).filter (fun e => e.2 != {}) }
      :: d.ckpts).take 64 })

/-- ISLAND_CHECKPOINT (R557): every 60 s. -/
def execIslandCheckpoint (s : State) : Host.Outcome State Fault Refusal :=
  .next (
    if s.islandOn && !s.island.low && decide (s.island.ckptAt + 60 * secNs ≤ s.now) then
      (s.checkpoint true).modIsland (fun d => { d with ckptAt := s.now })
    else s)

/-- The island is in reset: what it runs on stops. -/
def State.islandReset (s : State) : State :=
  let ops := s.islandOpS
  s.modIsland (fun d => { d with
    inReset := true, opS := ops, streams := [], tpOn := false, tpFeed := 0, tpRev := false, tpConst := 0, tpAt := none
    tpQueue := 0, sealEn := false, convs := [], dieAt := none })

/-- VDD_ISL_LOW (R558): below 3.0 V measuring stops and a checkpoint is written, unless the board's hold-up fails; at 2.8 V
the island resets. -/
def execVddIslLow (reset holdUp : Bool) (s : State) : Host.Outcome State Fault Refusal :=
  .next (
    if s.islandOn then
      let a := if s.island.low || !holdUp then s else s.checkpoint false
      let b := a.modIsland (fun d => { d with low := true })
      if reset then b.islandReset else b
    else s)

/-- ISL_POR_N_ASSERT (R559). -/
def execIslPorNAssert (s : State) : Host.Outcome State Fault Refusal :=
  .next (if s.islandOn then (if s.island.low then s else s.checkpoint false).islandReset else s)

/-- R560: the state a feed has after a reset, from its checkpoint. -/
def Feed.restore (f : Feed) (e : FeedEnergy) : Feed :=
  { params := f.params, active := f.active, shadow := f.active, energy := e }

/-- ISLAND_RESET_RELEASE (R560, R561). -/
def execIslandResetRelease (s : State) : Host.Outcome State Fault Refusal :=
  .next (
    if !s.fusesBlown.islOff && s.island.inReset then
      s.modIsland (fun d =>
        let c := d.ckpts.head?.getD { periodic := false, feeds := [] }
        let e := forUpTo 8 (fun k (x : Island) => x.setFeed k ((x.feed k).restore (Sparse.get {} c.feeds k))) d
        { e with inReset := false, low := false, from_ := s.now, ckptAt := s.now, clockFault := false, powerups := d.powerups + 1
                 unsaved := if c.periodic then d.unsaved + 1 else d.unsaved })
    else s)

/-- CRYSTAL_FAIL (16_metrology.md, the crystal fails). -/
def execCrystalFail (s : State) : Host.Outcome State Fault Refusal :=
  .next (if s.islandOn then s.modIsland (fun d => { d with clockFault := true }) else s)

/-- CRYSTAL_RESUME: the crystal has run for 1 s. -/
def execCrystalResume (s : State) : Host.Outcome State Fault Refusal :=
  .next (if s.islandOn then s.modIsland (fun d => { d with clockFault := false }) else s)

/-! ### UART (R562, R563) -/

/-- R562: a frame of the island. -/
def uartFrame (cmd : Nat) (payload : List Byte) : List Byte :=
  let b := leBytes 1 payload.length ++ leBytes 1 cmd ++ payload
  leBytes 1 0xA5 ++ b ++ leBytes 2 (crc16 b)

/-- R563: the answer to command `cmd`. -/
def State.uartAnswer (s : State) (cmd status : Nat) (payload : List Byte) : State :=
  s.emit (.uart (uartFrame (cmd + 0x80) (leBytes 1 status ++ payload)))

/-- UART_IDENT (R533, R563). -/
def execUartIdent (s : State) : Host.Outcome State Fault Refusal :=
  .next (
    if s.islandOn then
      s.uartAnswer 1 0 (leBytes 2 Config.islandVersion ++ leBytes 4 Config.islandRomCrc ++ leBytes 8 Config.islandSerial
        ++ leBytes 4 s.island.sealCount ++ leBytes 4 s.island.log.length)
    else s)

/-- R572: what READ_PARAM returns for an item; none where the item names nothing that is read. -/
def State.paramValue (s : State) (item : Nat) : Option Nat :=
  let k := item / 256
  let i := item % 256
  if 8 ≤ k then none
  else if 0x40 ≤ i ∧ i < 0x70 then some (ofSigned 32 (Sparse.get 0 (s.feed k).shadow (i - 0x40)))
  else (s.feed k).params.get i

/-- UART_READ_PARAM (R563). -/
def execUartReadParam (item : BitVec 16) (s : State) : Host.Outcome State Fault Refusal :=
  .next (
    if s.islandOn then match s.paramValue item.toNat with
      | some v => s.uartAnswer 2 0 (leBytes 4 v)
      | none => s.uartAnswer 2 3 []
    else s)

/-- A feed whose mode changes starts its converters anew. -/
def State.dropConvs (s : State) (k : Nat) : State :=
  s.modIsland (fun d => { d with convs := [3 * k, 3 * k + 1, 3 * k + 2].foldl Sparse.del d.convs })

/-- R551, R553, R556: WRITE_PARAM under SEAL_EN: the status and the state. -/
def State.writeParam (s : State) (item v : Nat) (nvmOk : Bool) : Nat × State :=
  let k := item / 256
  let i := item % 256
  let f := s.feed k
  if 0x40 ≤ i ∧ i < 0x70 then
    (0, s.setFeed k { f with shadow := Sparse.put 0 f.shadow (i - 0x40) (toSigned 32 v) })
  else
    let new := paramLegal i v
    let old := (f.params.get i).getD 0
    if new = old then (0, s)
    else if s.island.logFull then (2, s)
    else if !nvmOk then (4, s.modIsland (fun d => { d with nvmFault := true }))
    else
      let t := s.sealEvent 3 k item old new
      let g := { t.feed k with params := f.params.set i new }
      (0, if i = 1 then (t.setFeed k (g.restart t.now)).dropConvs k else t.setFeed k g)

/-- UART_WRITE_PARAM (R550, R551); `nvmOk` is false when the store into island NVM fails. -/
def execUartWriteParam (item : BitVec 16) (value : Word) (nvmOk : Bool) (s : State) : Host.Outcome State Fault Refusal :=
  .next (
    if !s.islandOn then s
    else if !s.island.sealEn then s.uartAnswer 3 1 []
    else if (s.paramValue item.toNat).isNone then s.uartAnswer 3 3 []
    else
      let r := s.writeParam item.toNat value.toNat nvmOk
      if r.1 = 0 then r.2.uartAnswer 3 0 (leBytes 4 ((r.2.paramValue item.toNat).getD 0)) else r.2.uartAnswer 3 r.1 [])

/-- R552, R556: one set of feed `k`; the first refusal stands as the status. -/
def State.commitOne (nvmOk : Bool) (k m : Nat) (a : Nat × State) : Nat × State :=
  let f := a.2.feed k
  let old := setCrc f.active m
  let new := setCrc f.shadow m
  if a.1 ≠ 0 then a
  else if old = new then (0, a.2.setFeed k (f.commitSet m))
  else if a.2.island.logFull then (2, a.2)
  else if !nvmOk then (4, a.2.modIsland (fun d => { d with nvmFault := true }))
  else
    let t := a.2.sealEvent 4 k (256 * k + 0x10 + m) old new
    (0, t.setFeed k ((t.feed k).commitSet m))

/-- UART_COMMIT (R552). -/
def execUartCommit (feed : BitVec 8) (mask : BitVec 8) (nvmOk : Bool) (s : State) : Host.Outcome State Fault Refusal :=
  .next (
    if !s.islandOn then s
    else if !s.island.sealEn then s.uartAnswer 4 1 []
    else if 8 ≤ feed.toNat then s.uartAnswer 4 3 []
    else
      let r := [0, 1, 2].foldl (fun a m => if bitAt mask.toNat m then State.commitOne nvmOk feed.toNat m a else a) (0, s)
      if r.1 = 0 then r.2.uartAnswer 4 0 (leBytes 4 r.2.island.sealCount) else r.2.uartAnswer 4 r.1 [])

/-- Record `i` of the audit log. -/
def Island.record? (d : Island) (i : Nat) : Option AuditRec := if i < d.log.length then d.log[d.log.length - 1 - i]? else none

/-- UART_READ_LOG (R563). -/
def execUartReadLog (index : Word) (s : State) : Host.Outcome State Fault Refusal :=
  .next (
    if s.islandOn then match s.island.record? index.toNat with
      | some r => s.uartAnswer 5 0 r.bytes
      | none => s.uartAnswer 5 3 []
    else s)

/-- UART_STREAM (R563). -/
def execUartStream (feed : BitVec 8) (period : BitVec 16) (s : State) : Host.Outcome State Fault Refusal :=
  .next (
    if !s.islandOn then s
    else if 8 ≤ feed.toNat then s.uartAnswer 6 3 []
    else
      let k := feed.toNat
      let m := s.island.streams
      let r := if period = 0 then Sparse.del m k else Sparse.ins m k { period := period.toNat, sentAt := s.now }
      (s.modIsland (fun d => { d with streams := r })).uartAnswer 6 0 [])

/-- The 64 bytes of the latest published feed block (R570). -/
def State.feedBytes (s : State) (k : Nat) : List Byte :=
  match s.island.pub with
  | some p => Machine.wordBytes (p.feeds.getD k [])
  | none => Machine.wordBytes (List.replicate 16 0)

/-- STREAM_FEED_SEND (R563): the unsolicited frame of a period. -/
def execStreamFeedSend (k : Fin 8) (s : State) : Host.Outcome State Fault Refusal :=
  .next (
    match Sparse.find? s.island.streams k with
    | some r =>
      if s.islandOn ∧ r.sentAt + r.period * msNs ≤ s.now then
        (s.modIsland (fun d => { d with streams := Sparse.ins d.streams k { r with sentAt := s.now } })).emit
          (.uart (uartFrame 0x86 (s.feedBytes k)))
      else s
    | none => s)

/-- UART_TP_SET (R563, R564). -/
def execUartTpSet (feed : BitVec 8) (direction constant enable : BitVec 8) (s : State) : Host.Outcome State Fault Refusal :=
  .next (
    if !s.islandOn then s
    else if 8 ≤ feed.toNat ∨ 2 ≤ direction.toNat ∨ 3 ≤ constant.toNat then s.uartAnswer 7 3 []
    else
      (s.modIsland (fun d => { d with
        tpOn := enable != 0, tpFeed := feed.toNat, tpRev := direction == 1, tpConst := constant.toNat,
        tpAt := none, tpQueue := 0 })).uartAnswer 7 0 [])

/-- UART_READ_FEED (R563). -/
def execUartReadFeed (feed : BitVec 8) (s : State) : Host.Outcome State Fault Refusal :=
  .next (
    if !s.islandOn then s
    else if 8 ≤ feed.toNat then s.uartAnswer 8 3 []
    else s.uartAnswer 8 0 (s.feedBytes feed.toNat))

/-- Length of the request payload of a command, none for an unknown command (R563). -/
def uartRequest : Nat → Option Nat
  | 1 => some 0 | 2 => some 2 | 3 => some 6 | 4 => some 2 | 5 => some 4 | 6 => some 3 | 7 => some 4 | 8 => some 1 | _ => none

/-- R562: is the byte sequence a frame whose CRC and length are good? -/
def uartGood (l : List Byte) : Bool :=
  match l with
  | a :: n :: c :: r =>
    let b := bytesAt r 0 n.toNat
    a == 0xA5 && decide (n.toNat ≤ 250) && r.length == n.toNat + 2 && (match uartRequest c.toNat with
      | some k => k == n.toNat
      | none => true) && leVal (r.drop n.toNat) == crc16 (n :: c :: b)
  | _ => false

/-- UART_BAD_FRAME (R562, R563): bytes that came, with a gap of more than 10 ms between them or not. A bad frame is counted; a
good one with a command the table lacks is answered with status 3. -/
def execUartBadFrame (bytes : List Byte) (gap : Bool) (s : State) : Host.Outcome State Fault Refusal :=
  .next (
    if !s.islandOn then s
    else if gap || !uartGood bytes then s.modIsland (fun d => { d with uartBad := satAdd 0xFFFF d.uartBad 1 })
    else
      let c := (bytes.getD 2 0).toNat
      if (uartRequest c).isNone then s.uartAnswer c 3 [] else s)

end Sys2Proof.Machine
end

