-- ==== Sys2Proof/Machine/Watchdog.lean ====
section
/-! DEFINITION. The watchdog's commands: services, failures and their evidence, keys, starts and debug holds
(18_watchdog.md). -/

namespace Sys2Proof.Machine

/-- The plate whose gravers a channel samples (R619): its own, plate 0 for W0. -/
def wdPlate (c : Nat) : Nat := c - 1

/-- `GC_PC` of a graver: held while it is stopped, a free value while it executes (R172). -/
def State.graverPc (s : State) (p g : Nat) : Nat × State :=
  if s.graverRuns p g then (codeAddr s.drawNat.1, s.drawNat.2) else ((s.graver p g).pc, s)

/-- R619: the evidence of a failure. -/
def State.wdEvidence (s : State) (c cause : Nat) : State :=
  let b := wdB c
  let w := s.wd c
  let p := wdPlate c
  let ok := s.plateOut p && s.plateEnabled p && bitAt (s.rd crB Reg.crPlateRunPowered) p
  let a := (s.wrB b Reg.wdEvCauseOverwritten (s.isSet b Reg.wdEvCauseOverwritten || s.isSet b Reg.wdEvCauseValid)).wr b
    Reg.wdEvCauseValid 1
  let d := ((a.wr b Reg.wdEvCauseCause cause).wrB b Reg.wdEvCausePcOk ok).wr b Reg.wdEvCauseN w.n
  let e := ((d.wr b Reg.wdEvCountElapsed (min (s.wdElapsed c) w.period)).wr b Reg.wdEvCountPeriod w.period).wr b
    Reg.wdEvFailTickTick s.aonTick
  let f := ((e.wr b Reg.wdEvGoodTickTick w.goodTick).wr b Reg.wdEvGoodNsNs (w.goodNs % secNs)).wr b Reg.wdEvGoodSecSec
    (w.goodNs / secNs)
  let g := forUpTo 4 (fun i (t : State) =>
    let x := if ok then t.graverPc p i else (0, t)
    x.2.wr b Reg.wdEvPcPc x.1 i) f
  g.raise b 1

/-- R618, R623: the channel fails: evidence, the latched wake, the start state, and the reset it asks for. -/
def State.wdFail (s : State) (c cause : Nat) : State :=
  let t := ((s.wdEvidence c cause).requestWake wakeWatchdog (if c = 0 then 0 else 2 ^ (c - 1))).wdStartState c
  if c = 0 then t.chipReset causeChipWatchdog else t.plateReset (c - 1) causePlateWatchdog

/-- R611: has `elapsed` reached the period? -/
def State.wdDue (s : State) (c : Nat) : Bool :=
  (s.wd c).running && (s.wd c).heldAt.isNone && decide ((s.wd c).period ≤ s.wdElapsed c)

/-- WATCHDOG_EXPIRY (R611). -/
def execWatchdogExpiry (c : Fin 9) (s : State) : Host.Outcome State Fault Refusal :=
  .next (if s.wdDue c then s.wdFail c 3 else s)

/-- R612: a good service. -/
def State.wdGood (s : State) (c : Nat) : State :=
  let d := s.drawNat
  let w := d.2.wdApply c { d.2.wd c with
    n := ((d.2.wd c).n + 1) % 16, chal := d.1 % 65536, since := s.aonTick, first := false, announced := false
    wakeReq := false, goodTick := s.aonTick, goodNs := s.siteNs }
  (d.2.setWd c w).bumpSat (wdB c) Reg.wdCountsServices

/-- R606: rotate left by `n` within 16 bits. -/
def rotl16 (x n : Nat) : Nat := (x * 2 ^ (n % 16) + x / 2 ^ (16 - n % 16)) % 65536

/-- R606, R624: the token expected: with the older behaviour the key itself. -/
def State.wdToken (s : State) (c : Nat) : Nat :=
  let k := (s.wd c).key.getD 0
  if s.isSet (wdB c) Title.compatPrev then k else (rotl16 ((s.wd c).chal ^^^ k) (s.wd c).n + 0x2B1D) % 65536

/-- A write that the channel ignores is counted (R607, R608, R610). -/
def State.wdIgnored (s : State) (c : Nat) : State := s.bumpSat (wdB c) Reg.wdCountsIgnored

/-- R610, R611: the PF's service; a channel whose period is over expires first. -/
def State.wdService (s : State) (c token : Nat) : State :=
  let t := if s.wdDue c then s.wdFail c 3 else s
  let w := t.wd c
  if !w.running || w.heldAt.isSome || w.kernel then t.wdIgnored c
  else if !t.wdOpen c then t.wdFail c 1
  else if token ≠ t.wdToken c then t.wdFail c 2
  else t.wdGood c

/-- WATCHDOG_SERVICE (R610). -/
def execWatchdogService (fn : Fin 65) (c : Fin 9) (data : Word) (s : State) : Host.Outcome State Fault Refusal :=
  .next (s.mmioWrite fn (wdB c + 0x50) (fun t => t.wdService c (data.toNat % 65536)))

/-- R609: the kernel of plate `p`, whose `STATE.op` reads RUNNING or HELD, serves its channel in a frame whose previous outputs were all
committed in time. -/
def State.wdKernel (s : State) (p : Nat) : State :=
  let c := p + 1
  let fit := (List.range 4).all (fun g => !s.isFrozen (masterGraver p g) && !s.graverHalted p g
    && (s.graver p g).overruns == 0)
  if (s.wd c).kernel && s.wdOpen c && !s.wdDue c && s.plateServes p && fit then s.wdGood c else s

/-! ### Configuration, key, start -/

/-- R604, R54: a write of the fields marked RWO: taken while the channel is OFF, debug-held or in its open window, else
dropped, which is the violation `window_write`. WD_CTRL of W0 has none: its `src` is reserved. -/
def State.wdConfigEffect (s : State) (fn c off data : Nat) : State :=
  let w := s.wd c
  if c = 0 ∧ off = 0x40 then s
  else if !w.running || w.heldAt.isSome || s.wdOpen c then
    forEach Reg.wdRows (fun r (t : State) => match r.indexAt off, r.acc with
      | some i, .rwo => t.wr (wdB c) r (t.legal (wdB c) r i (bitsOf data r.lsb r.width)) i
      | _, _ => t) s
  else s.violateWrite fn vWindowWrite (wdB c + off)

/-- R614: `start` by the lock holder starts an OFF channel. -/
def State.wdStart (s : State) (fn c data : Nat) : State :=
  if bitAt data 0 && s.mayWriteL (wdB c) (masterOfFn fn) && !(s.wd c).running && s.wdPresent c then s.wdBegin c else s

/-- R604, R614: a write of WD_CTRL: the stored server, then `start`. -/
def State.wdCtrlEffect (s : State) (fn c data : Nat) : State := (s.wdConfigEffect fn c 0x40 data).wdStart fn c data

/-- WATCHDOG_START (R614). -/
def execWatchdogStart (fn : Fin 65) (c : Fin 9) (data : Word) (s : State) : Host.Outcome State Fault Refusal :=
  .next (s.mmioWrite fn (wdB c + 0x40) (fun t => t.wdCtrlEffect fn c data.toNat))

/-- R607: the first write sets the key; later ones are dropped and counted. -/
def State.wdKeyEffect (s : State) (c key : Nat) : State :=
  let w := s.wd c
  if w.key.isNone then s.setWd c { w with key := some (key % 65536) } else s.wdIgnored c

/-- WATCHDOG_KEY_WRITE (R607). -/
def execWatchdogKeyWrite (fn : Fin 65) (c : Fin 9) (data : Word) (s : State) : Host.Outcome State Fault Refusal :=
  .next (s.mmioWrite fn (wdB c + 0x48) (fun t => t.wdKeyEffect c data.toNat))

/-- R617: WD_DEBUG.hold: 0 is stored on W0, in FIELD, and for the channel of a disabled plate (R616). -/
def State.wdHoldEffect (s : State) (fn c : Nat) (hold : Bool) : State :=
  if !s.mayWriteL (wdB c) (masterOfFn fn) then s
  else
    let h := hold && c != 0 && s.debugState && s.wdPresent c
    let t := s.wrB (wdB c) Reg.wdDebugHold h
    let w := t.wd c
    match w.heldAt with
    | none => if h && w.running then t.setWd c { w with heldAt := some (s.wdElapsed c) } else t
    | some _ =>
      if h then t
      else t.setWd c (t.wdApply c { w with heldAt := none, since := s.aonTick, first := false, announced := false, wakeReq := false })

/-- WATCHDOG_DEBUG_HOLD (R617). -/
def execWatchdogDebugHold (fn : Fin 65) (c : Fin 9) (s : State) : Host.Outcome State Fault Refusal :=
  .next (s.mmioWrite fn (wdB c + 0x5C) (fun t => t.wdHoldEffect fn c true))

/-- WATCHDOG_DEBUG_RELEASE (R617). -/
def execWatchdogDebugRelease (fn : Fin 65) (c : Fin 9) (s : State) : Host.Outcome State Fault Refusal :=
  .next (s.mmioWrite fn (wdB c + 0x5C) (fun t => t.wdHoldEffect fn c false))

/-- WATCHDOG_WINDOW_OPEN (R625): announced once in a period. -/
def execWatchdogWindowOpen (c : Fin 9) (s : State) : Host.Outcome State Fault Refusal :=
  .next (if s.wdOpen c && !(s.wd c).announced then
      (s.setWd c { s.wd c with announced := true }).raise (wdB c) 0
    else s)

/-- R622: the latch point of a kernel-served channel. -/
def Wd.latchAt (w : Wd) : Nat := w.period - wdLength w.period w.window w.kernel - 10

/-- WATCHDOG_WAKE_LATCH (R622): once in a period, while the plate is QUIET. -/
def execWatchdogWakeLatch (c : Fin 9) (s : State) : Host.Outcome State Fault Refusal :=
  let w := s.wd c
  .next (if c.val ≠ 0 ∧ w.running ∧ w.heldAt.isNone ∧ w.kernel ∧ !w.wakeReq ∧ s.plateQuiet (c.val - 1)
      ∧ w.latchAt ≤ s.wdElapsed c then
      (s.setWd c { w with wakeReq := true }).requestWake wakeWatchdog (2 ^ (c.val - 1))
    else s)

/-- R620: every evidence field is cleared. -/
def State.wdClearEvidence (s : State) (c : Nat) : State := s.clearRegs (wdB c + 0x80) (wdB c + 0xB0) (fun _ => false)

/-- EVIDENCE_CLEAR (R620). -/
def execEvidenceClear (fn : Fin 65) (c : Fin 9) (s : State) : Host.Outcome State Fault Refusal :=
  .next (s.mmioWrite fn (wdB c + 0x80) (fun t => t.wdClearEvidence c))

/-- TICK_MEASURE (R600): the measured tick length, on every channel's sheet, while the timebase PLL is locked. -/
def execTickMeasure (ns : Nat) (s : State) : Host.Outcome State Fault Refusal :=
  .next (if s.isSet crB Reg.crRefStatusTbPllLock then
      forUpTo 9 (fun c t => (t.wr (wdB c) Reg.wdTickNsTickNs (min (2 ^ 21 - 1) ns)).wr (wdB c) Reg.wdTickNsValid 1) s
    else s)

end Sys2Proof.Machine
end

