-- ==== Sys2Proof/Machine/Plates.lean ====
section
/-! DEFINITION. Plates and gravers (05_plates.md): the plate's states (R196), the frame tick (R177), overruns (R178, R179), the
plate store (R182-R187), debug halts (R200) and the graver cluster (R203). -/

namespace Sys2Proof.Machine

/-! ### States of the plate (R196) -/

/-- OFF, `HOST_STATE.op` RUNNING: the base grant is requested. The timekeeper starts with the plate, on site time unless the host chose
its own clock (R495). -/
def State.plateStart (s : State) (p : Nat) : State :=
  let t := if (s.tk p).own || (s.tk p).offset != 0 then s.adopt p else s
  ((t.setPlateOp p opStarting).tkStarts p).ask (.base p)

/-- STARTING, `HOST_STATE.op` OFF: the request is withdrawn, or the grant released. -/
def State.plateStartEnds (s : State) (p : Nat) : State :=
  let a := s.withdraw (.base p)
  let b := { a.setPlate p { a.plate p with baseGrant := false, fromQuiet := false } with wakes := Sparse.del a.wakes p }
  (b.wr qmB Reg.qmWakePendPlates (setBit (b.rd qmB Reg.qmWakePendPlates) p false)).setPlateOp p opOff

/-- A quiet request ends without entry (R664): a coordinated plate's cancellation ends a round under way (R677). -/
def State.endQuietRequest (s : State) (p : Nat) : State :=
  let a := if s.coordinated p then s.stirRound else s
  { a with quietReqs := Sparse.del a.quietReqs p }

/-- R196, R663, R664, R669: what a written operating code does to the plate. -/
def State.plateWritten (s : State) (p op : Nat) : State :=
  let v := s.plateOp p
  if op = opRunning then
    if v = opOff then s.plateStart p
    else if s.enteringQuiet p then (if s.coordinated p then s.stirRound else s).cancelQuiet p
    else if v = opQuiet then s.requestWake wakeHost (2 ^ p)
    else s
  else if op = opOff then
    if v = opStarting then s.plateStartEnds p
    else if v = opRunning then (s.releasePlate p).setPlateOp p opStopping
    else if s.enteringQuiet p then s.endQuietRequest p
    else s
  else if v = opRunning then
    let a := (s.releasePlate p).setPlateOp p opStopping
    { a with quietReqs := Sparse.ins a.quietReqs p a.now }
  else s

/-- R196, R73: the plate's intent; the mode always stores 0x00. -/
def State.plateIntent (s : State) (fn p data : Nat) : State :=
  if s.mayWriteL (plB p) (masterOfFn fn) then (s.storeIntent (plB p) (intentOp data) 0).plateWritten p (intentOp data) else s

/-- PLATE_HOST_STATE_WRITE (R196, R73). -/
def execPlateHostStateWrite (fn : Fin 65) (p : Fin 8) (data : Word) (s : State) : Host.Outcome State Fault Refusal :=
  .next (s.mmioWrite fn (plB p + 0x20) (fun t => t.plateIntent fn p data.toNat))

/-- PLATE_STOP_COMPLETE (R196): every channel is IDLE and every DMA operation ended; the grants are released. RUNNING written
meanwhile starts the plate once it is OFF (log entry 99). -/
def execPlateStopComplete (p : Fin 8) (s : State) : Host.Outcome State Fault Refusal :=
  .next (if s.plateOp p == opStopping && (Sparse.find? s.quietReqs p).isNone && !s.activeIn p (p + 1) && s.plateInFlight p == 0 then
      let a := s.haltGravers p
      let b := (a.setPlate p { a.plate p with baseGrant := false }).setPlateOp p opOff
      if b.rd (plB p) Title.hostOp = opRunning then b.plateStart p else b
    else s)

/-! ### Graver cluster (R200, R203) -/

/-- R203, R73: the intent of the graver cluster is recorded; the mode always stores 0x00. -/
def State.clusterIntent (s : State) (fn p data : Nat) : State :=
  if s.mayWriteL (gcB p) (masterOfFn fn) then s.storeIntent (gcB p) (intentOp data) 0 else s

/-- GRAVER_CLUSTER_HOST_STATE_WRITE (R203, R73). -/
def execGraverClusterHostStateWrite (fn : Fin 65) (p : Fin 8) (data : Word) (s : State) : Host.Outcome State Fault Refusal :=
  .next (s.mmioWrite fn (gcB p + 0x20) (fun t => t.clusterIntent fn p data.toNat))

/-- R200: a write of GC_DEBUG: in FIELD it stores 0; a graver that halts stops at an address that is a free value. -/
def State.debugHalt (s : State) (fn p data : Nat) : State :=
  if !s.mayWriteL (gcB p) (masterOfFn fn) then s
  else
    let v := if s.debugState then bitsOf data 0 4 else 0
    let old := s.rd (gcB p) Reg.gcDebugHalt
    forUpTo 4 (fun g t => if bitAt v g && !bitAt old g && s.graverRuns p g then t.holdPc p g else t) (s.wr (gcB p) Reg.gcDebugHalt v)

/-- GRAVER_DEBUG_HALT_WRITE (R200). -/
def execGraverDebugHaltWrite (fn : Fin 65) (p : Fin 8) (data : Word) (s : State) : Host.Outcome State Fault Refusal :=
  .next (s.mmioWrite fn (gcB p + 0x48) (fun t => t.debugHalt fn p data.toNat))

/-! ### The plate store (R182-R186) -/

/-- R183: the local channel whose slot holds a line; none in the kernel control region. -/
def lineChannel (line : Nat) : Option Nat := if line < 0x20000 then none else some ((2 * line - 0x40000) / 15360)

/-- Is channel `g` open for R185? One that is closing is not. -/
def State.slotOpen (s : State) (g : Nat) : Bool :=
  s.path g == pathActive || s.path g == pathMuted || s.path g == pathModifying || s.path g == pathFault

/-- R182: the bits of store line `line` of plate `p` that differ from its last valid write: 36 data bits, then 8 check bits. -/
def State.lineErr (s : State) (p line : Nat) : Nat := Sparse.get 0 s.storeErrs (2 ^ 21 * p + line)
def State.setLineErr (s : State) (p line v : Nat) : State :=
  { s with storeErrs := Sparse.put 0 s.storeErrs (2 ^ 21 * p + line) v }

/-- Bits of a line change. -/
def State.flipLine (s : State) (p line flips : Nat) : State := s.setLineErr p line (s.lineErr p line ^^^ flips)

/-- Number of ones among the low `n` bits. -/
def onesIn (n v : Nat) : Nat := (List.range n).foldl (fun c i => if bitAt v i then c + 1 else c) 0

/-- R185: the line is rewritten as zero with valid check bits; the header word of channel `c` is in the first line of its slot
(log entry 37). -/
def State.zeroLine (s : State) (p line c : Nat) : State :=
  let t := s.setLineErr p line 0
  if line = 0x20000 + 7680 * c ∧ (Sparse.find? s.chans (256 * p + c)).isSome then t.modChan (256 * p + c) (fun x => { x with header := 0 })
  else t

/-- R185: an uncorrectable error, by region. -/
def State.storeLost (s : State) (p line : Nat) : State :=
  let b := psB p
  match lineChannel line with
  | none => (s.wr b Reg.psLastErrKind 3).plateFault p 1 0 line
  | some c =>
    let v := (((s.wr b Reg.psLastErrKind 2).wr b Reg.psLastErrChannel c)).zeroLine p line c
    if v.slotOpen (256 * p + c) then v.chFault (256 * p + c) else v

/-- R182, R184, R185: a read of a line: one wrong bit is corrected, which burnishing writes back; two are detected, as more are
(log entry 37). -/
def State.readLine (s : State) (p line : Nat) (burnish : Bool) : State :=
  let b := psB p
  let wrong := onesIn 44 (s.lineErr p line)
  if wrong = 0 then s
  else
    let a := (s.wr b Reg.psLastErrLine line).wrB b Reg.psLastErrByBurnish burnish
    if wrong = 1 then
      let t := ((a.wr b Reg.psLastErrKind 1).bump b Reg.psCorrCorrected).raise b 0
      if burnish then t.setLineErr p line 0 else t
    else ((a.bump b Reg.psCorrUncorrected).raise b 1).storeLost p line

/-- R184, R205: one burnishing read, of a line in which the bits of `flips` have changed since it was last read, beside those that
PS_INJECT names: the line's first ones (log entry 37). -/
def State.burnish (s : State) (p flips : Nat) : State :=
  let b := psB p
  let line := s.rd b Reg.psPassLine
  let hit := s.rd b Reg.psInjectLine == line
  let inj := if hit then 2 ^ s.rd b Reg.psInjectBits - 1 else 0
  let t := s.setPlate p { s.plate p with burnishAt := s.now }
  let a := (if hit then t.wr b Reg.psInjectBits 0 else t).wr b Reg.psPassLine ((line + 1) % 2 ^ 21)
  ((a.flipLine p line flips).flipLine p line inj).readLine p line true

/-- R184: does burnishing run: `enable` 1 and the plate OFF, STARTING, RUNNING, HELD or STOPPING? -/
def State.burnishes (s : State) (p : Nat) : Bool :=
  s.isSet (psB p) Reg.psBurnishEnable && (s.plate p).stage == .out && s.plateOp p != opQuiet && s.plateOp p != opReset

/-- R184: is the next read due: one interval after the last, or after burnishing started or resumed? -/
def State.burnishDue (s : State) (p : Nat) : Bool :=
  s.burnishes p && decide ((s.plate p).burnishAt + s.rd (psB p) Reg.psBurnishIntervalUs * 1000 ≤ s.now)

/-- BURNISH_READ (R184): the next line is read; which of its bits have changed since is the operand (log entry 37). -/
def execBurnishRead (p : Fin 8) (flips : BitVec 44) (s : State) : Host.Outcome State Fault Refusal :=
  .next (if s.burnishDue p then s.burnish p flips.toNat else s)

/-- R184: a write of PS_BURNISH; burnishing that it enables reads its first line one interval later. -/
def State.burnishWrite (s : State) (fn p data : Nat) : State :=
  let t := s.storeWord fn (psB p) Reg.psRows 0x40 data
  if t.isSet (psB p) Reg.psBurnishEnable && !s.isSet (psB p) Reg.psBurnishEnable then
    t.setPlate p { t.plate p with burnishAt := t.now }
  else t

/-! ### Overruns (R178, R179) -/

/-- Octets of a voice packet's payload, if the entry is one. -/
def rtpOctets (e : Entry) : Option Nat :=
  let l := (parseFrame e.bytes).payload
  let pt := beAt l 1 1 % 128
  match rtpPayload l with
  | some x => if 72 ≤ pt ∧ pt ≤ 76 then none else some x.length
  | none => none

/-- R178: the packets that the channel committed in this frame are skipped: they leave the TQ and were not sent. -/
def State.skipPackets (s : State) (g : Nat) : State :=
  let p := g / 256
  let q := (s.chan g).cfg.tq
  let due := (s.plate p).ticks + s.rd (macB p) Reg.macTxCfgVoiceLifeMs
  let mine := fun (e : Entry) => e.chan == some (g % 256) && e.expires.any (fun x => x / msNs == due) && e.voice
  let gone := (s.queue p q).filter mine
  let rtp := gone.filterMap rtpOctets
  let b := chB g
  let a := (s.setQueue p q ((s.queue p q).filter (fun e => !mine e))).modMedia g (fun m =>
    { m with seq := ofSigned 16 ((m.seq : Int) - rtp.length) })
  (a.wr b Reg.stTxPktsPkts (ofSigned 32 ((a.rd b Reg.stTxPktsPkts : Int) - rtp.length))).wr b Reg.stTxOctetsOctets
    (ofSigned 32 ((a.rd b Reg.stTxOctetsOctets : Int) - (rtp.foldl (· + ·) 0 : Nat)))

/-- R178: the frame counts once for the graver. -/
def State.countOverrun (s : State) (p v : Nat) : State :=
  let x := s.graver p v
  if x.late then s
  else ((s.setGraver p v { x with late := true, overruns := x.overruns + 1 }).bumpSat (gcB p) (gcOverrunRow v)).raise (gcB p) 0
where
  /-- The counter of graver `v`. -/
  gcOverrunRow (v : Nat) : Row := { off := 0x4C, lsb := 8 * v, width := 8, acc := .rc }

/-- R179: a graver that has overrun in `limit` frames in a row is a plate fault. -/
def State.overrunLimit (s : State) (p v : Nat) : State :=
  let off := s.isSet (gcB p) Reg.gcOvrLimitDisable && s.debugState
  if !off && decide (s.rd (gcB p) Reg.gcOvrLimitLimit ≤ (s.graver p v).overruns) then s.plateFault p 3 v 0 else s

/-- R178, R179: graver `v` misses the deadline for channel `g`. -/
def State.overrun (s : State) (p v g : Nat) : State :=
  (((s.skipPackets g).repeatFrame g).countOverrun p v).overrunLimit p v

/-- GRAVER_OVERRUN (R178, R179): graver `v` misses the deadline for local channel `ch`. A frozen graver does not overrun; one that is
halted for debug has overrun at the frame tick. -/
def execGraverOverrun (p : Fin 8) (v : Fin 4) (ch : Fin 256) (s : State) : Host.Outcome State Fault Refusal :=
  .next (
    let g := 256 * p.val + ch.val
    if !s.graverRuns p v || !s.chOpen g || (s.chan g).graver != v.val then s else s.overrun p v g)

/-! ### The frame (R177) -/

/-- A frame that a graver finished in time ends its run of overruns (R179). -/
def State.overrunTick (s : State) (p : Nat) : State :=
  forUpTo 4 (fun v t =>
    let x := t.graver p v
    t.setGraver p v { x with late := false, overruns := if x.late then x.overruns else 0 }) s

/-- R196, R672: a STARTING plate that holds its base grant is RUNNING; blocks that were QUIET with it start. -/
def State.releaseGravers (s : State) (p : Nat) : State :=
  if s.plateOp p ≠ opStarting ∨ !(s.plate p).baseGrant then s
  else
    let a := (s.setPlateOp p opRunning).wakeDone p
    let b := a.modPair p (fun q => if q.wasActive then q else { q with stamp := a.siteNs })
    let c := if (b.plate p).fromQuiet then
        (((b.setPlate p { b.plate p with fromQuiet := false }).wakePort p).wakeHatch p).wakeHighway p
      else b
    c.sendRole 0 none

/-- R199: an unfrozen graver resumes: its channels restart their jitter buffers and are what they were before. -/
def State.resumeGravers (s : State) (p : Nat) : State :=
  forUpTo 4 (fun v t =>
    if (t.graver p v).resume && !t.isFrozen (masterGraver p v) then
      let a := t.setGraver p v { t.graver p v with resume := false }
      let b := forEach ((a.openChans p).filter (fun g => (a.chan g).graver == v)) (fun g u => u.jbRestart g true true) a
      b.settleGraver p v
    else t) s

/-- Is the channel processed in the frames of a released graver: open and not closing? -/
def State.processes (s : State) (g : Nat) : Bool :=
  s.chOpen g && (s.path g == pathActive || s.path g == pathMuted || s.path g == pathModifying || s.path g == pathFault)

/-- R187, R177: graver `v` first processes an open channel in the frame: a wrong header word is a plate fault; else its ingress, and
its frame unless the plate only buffers (`idle`). What it commits repeats the choice of the port (R420). A frozen or faulted channel's
generator counts on (R304). -/
def State.processChannel (s before : State) (p v g : Nat) (idle : Bool) (f : FrameIn) : State :=
  if !s.processes g then s
  else if s.graversReleased p && s.isFrozen (masterGraver p v) then (s.jbCommands g).toneCadence g
  else if !s.graverRuns p v then s
  else if s.path g = pathFault then (s.ingress g).toneCadence g
  else if !s.headerGood g then s.plateFault p 4 v 0
  else
    let a := s.ingress g
    if idle then a else (a.channelFrame before g f).choose p

/-- The channels that graver `v` of plate `p` has, ascending. -/
def State.graverChans (s : State) (p v : Nat) : List Nat := (s.openChans p).filter (fun g => (s.chan g).graver == v)

/-- Steps 1 to 3 of R177 for plate `p`: ingress, then the channels in ascending order, graver by graver (R353). A STANDBY plate only
buffers (R712), as does one whose handover proof has left (R719). -/
def State.mediaTick (s : State) (p : Nat) (media : List FrameIn) : State :=
  let idle := s.role p == roleStandby || (s.pair p).handover.isSome
  forEach [0, 1, 2, 3] (fun v (u : State) =>
    forEach (s.graverChans p v) (fun g t => t.processChannel s p v g idle (frameOf media (g % 256))) u) s

/-- R200: a graver that is halted for debug overruns with every channel it has: their packets and samples of the frame do not
exist, so that only the output to the highway repeats. -/
def State.haltedOverruns (s : State) (p : Nat) : State :=
  forEach (s.openChans p) (fun g t =>
    let v := (t.chan g).graver
    if t.processes g && t.graversReleased p && t.graverHalted p v && !t.isFrozen (masterGraver p v) then
      ((t.repeatFrame g).countOverrun p v).overrunLimit p v
    else t) s

/-- R187: the kernel's check of the placement at step 4: no graver holds more than 70 units. Their sum is PL_UNITS.used, since
both are sums over the channels. -/
def State.placementCheck (s : State) (p : Nat) : State :=
  if (List.range 4).any (fun v => decide (70 < s.graverUnits p v)) then s.plateFault p 4 0 0 else s

/-- GC_LOAD: how much of the frame a graver took is a free value (log entry 7). -/
def State.loadTick (s : State) (p : Nat) : State :=
  forUpTo 4 (fun v t =>
    if t.graverRuns p v then
      let d := t.drawNat
      let e := d.2.drawNat
      (e.2.wr (gcB p) Reg.gcLoadBusyPct d.1 v).wr (gcB p) Reg.gcLoadPeakPct (max (t.rd (gcB p) Reg.gcLoadPeakPct v) (e.1 % 256)) v
    else t) s

/-- R171, R181, R185, R187: what goes wrong in the frame. -/
def State.kernelFault (s : State) (p : Nat) : KernelFault → State
  | .access v write addr =>
    (s.violate (masterGraver p v) vDecode (if write then 5 else 4) (some p) addr 0).settleGraver p v
  | .header _ _ => s
  | .patchRam => s.plateFault p 2 0 0
  | .store line flips => (s.flipLine p line flips.toNat).readLine p line false

/-- R187: the header word of an open channel's slot has changed in a way that SECDED cannot see. -/
def State.headerChanges (s : State) (p : Nat) (fault : Option KernelFault) : State :=
  match fault with
  | some (.header ch w) =>
    if s.chOpen (256 * p + ch) then s.modChan (256 * p + ch) (fun c => { c with header := w.toNat }) else s
  | _ => s

/-- R196: a plate that stops toward OFF closes its channels. -/
def State.stopTick (s : State) (p : Nat) : State :=
  if s.plateOp p = opStopping ∧ (Sparse.find? s.quietReqs p).isNone then
    forEach (s.plateChans p) (fun g t => t.stopChannel g) s
  else s

/-- Step 1 of R177 but for the samples, and what takes effect at the tick. -/
def State.tickStart (s : State) (p : Nat) (media : List FrameIn) : State :=
  let n := s.setPlate p { s.plate p with ticks := (s.plate p).ticks + 1, tickAt := s.now, lastTick := some (s.tkNs p / msNs) }
  let a := (n.vec2Tick p).overrunTick p
  let b := ((((a.highwayLine p media).releaseGravers p).resumeGravers p).highwayTick p).demoteTick p
  let c := b.idleTick p
  let d := if c.role p = roleStandby then c else c.serveTick p
  d.stopTick p

/-- The rest of the frame (R177 steps 2 to 4). -/
def State.tickFrame (s : State) (p : Nat) (media : List FrameIn) (fault : Option KernelFault) : State :=
  let a := ((((s.headerChanges p fault).mediaTick p media).haltedOverruns p).loadTick p).placementCheck p
  let b := if a.role p = roleStandby then a else (a.commitHighway p).postTick p
  let c := (((b.proofTick p).wdKernel p).pauseCheck p).choose p
  match fault with
  | some f => if c.graversReleased p then c.kernelFault p f else c
  | none => c

/-- R176: is a frame tick of plate `p` due: has its timekeeper, on site time or on the plate's own clock, come to another whole
millisecond? -/
def State.tickDue (s : State) (p : Nat) : Bool := (s.plate p).lastTick != some (s.tkNs p / msNs)

/-- FRAME_TICK (R176, R177): what the highway received and the tones of the plate's channels, and what goes wrong in the frame, are
operands (log entry 9). A local
plate that is ready enters quiet mode instead (R663). -/
def execFrameTick (p : Fin 8) (media : List FrameIn) (fault : Option KernelFault) (s : State) : Host.Outcome State Fault Refusal :=
  .next (if (s.plate p).stage != .out || s.plateOp p == opQuiet || !s.tickDue p then s
    else
      let a := s.tickStart p media
      if a.quietReady p && !a.coordinated p then a.enterQuiet p else a.tickFrame p media fault)

end Sys2Proof.Machine
end

