-- ==== Sys2Proof/Machine/ConfigSpace.lean ====
section
/-! DEFINITION. The configuration spaces of the PF and the VFs (R84-R91, R93, R99-R101, R105-R111, R114, R115, R160), read and
written by double words. The table of R86 gives where each capability starts; the places of the registers within a capability,
and of the fields within a register, are those of PCI Express (log entry 12). -/

namespace Sys2Proof.Machine

/-! ### Reads -/

/-- Header of a capability, or of an extended one: identifier and the offset of the next. -/
def capHead (id next rest : Nat) : Nat := id + next * 2 ^ 8 + rest * 2 ^ 16
def extHead (id version next : Nat) : Nat := id + version * 2 ^ 16 + next * 2 ^ 20

/-- Device Status of function `fn`: the error bits, and whether it has reads outstanding. -/
def State.devStatus (s : State) (fn : Nat) : Nat :=
  (s.aerOf fn).devSta + 32 * b2n (fn != 0 && (s.ring (fn - 1)).ops.any (fun o => !o.reads.isEmpty))

/-- R87: Device Capabilities: 512 bytes, extended tags, role-based errors, FLR. -/
def devCap : Nat := 2 + 2 ^ 5 + 2 ^ 15 + 2 ^ 28

/-- R87: Link Capabilities: 8 GT/s, x4, ASPM L1 only, L1 exit in 2 to 4 µs. -/
def linkCap : Nat := 3 + 4 * 2 ^ 4 + 2 * 2 ^ 10 + 2 * 2 ^ 15 + 2 ^ 22

/-- R87: Device Capabilities 2: timeout ranges A and B, and their disabling; no 10-bit tags. -/
def devCap2 : Nat := 3 + 2 ^ 4

/-- The words that the AER capability of `fn` and that of the PF share in form (R115). -/
def State.aerWord (s : State) (fn off : Nat) : Nat :=
  let a := s.aerOf fn
  match off with
  | 0x104 => a.unc
  | 0x108 => if fn = 0 then a.uncMask else 0
  | 0x10C => if fn = 0 then a.uncSev else 0
  | 0x110 => a.cor
  | 0x114 => if fn = 0 then a.corMask else 0
  | 0x118 => a.first + 2 ^ 5 + 2 ^ 7 + (if fn = 0 then 2 ^ 6 * b2n a.ecrcGen + 2 ^ 8 * b2n a.ecrcCheck else 0)
  | 0x11C => a.header / 2 ^ 96
  | 0x120 => a.header / 2 ^ 64 % 2 ^ 32
  | 0x124 => a.header / 2 ^ 32 % 2 ^ 32
  | 0x128 => a.header % 2 ^ 32
  | _ => 0

/-- R88: the SR-IOV capability. -/
def State.sriovWord (s : State) (off : Nat) : Nat :=
  match off with
  | 0x160 => extHead 0x10 1 0x1A0
  | 0x164 => 2
  | 0x168 => b2n s.pf.vfEnable + 8 * b2n s.pf.vfMse + 16 * b2n s.pf.ari
  | 0x16C => s.fuses.vfLimit + s.fuses.vfLimit * 2 ^ 16
  | 0x170 => s.pf.numVfs
  | 0x174 => 1 + 2 ^ 16
  | 0x178 => 0x2049 * 2 ^ 16
  | 0x17C => 1
  | 0x180 => if s.pfWord 0x180 = 0 then 1 else s.pfWord 0x180
  | 0x184 => s.pfWord 0x184 + 4
  | 0x188 => s.pfWord 0x188
  | 0x18C => s.pfWord 0x18C + 4
  | 0x190 => s.pfWord 0x190
  | _ => 0

/-- R86: the capability list below 0x100 and the header. -/
def State.pfLowWord (s : State) (off : Nat) : Nat :=
  match off with
  | 0x00 => 0x20481F2C
  | 0x04 => 2 * b2n s.pf.mse + 4 * b2n s.pf.bme + s.pfWord 0x04 + 0x10 * 2 ^ 16
  | 0x08 => s.rd siteB Reg.deviceRevStepping + 0x118000 * 2 ^ 8
  | 0x0C => s.pfWord 0x0C
  | 0x10 => s.pfWord 0x10 + 4
  | 0x14 => s.pfWord 0x14
  | 0x18 => s.pfWord 0x18 + 4
  | 0x1C => s.pfWord 0x1C
  | 0x2C => 0x20481F2C
  | 0x34 => 0x40
  | 0x3C => s.pfWord 0x3C
  | 0x40 => capHead 0x01 0x50 3
  | 0x44 => 3 * b2n s.pf.d3hot + 8
  | 0x50 => capHead 0x11 0x60 (63 + 2 ^ 14 * b2n s.pf.msixMask + 2 ^ 15 * b2n s.pf.msixEn)
  | 0x54 => 2
  | 0x58 => 0x2002
  | 0x60 => capHead 0x10 0 2
  | 0x64 => devCap
  | 0x68 => s.pfWord 0x68 + 16 * b2n s.pf.roEn + 32 * s.pf.mps + 256 * b2n s.pf.extTag + 4096 * s.pf.mrrs
      + s.devStatus 0 * 2 ^ 16
  | 0x6C => linkCap
  | 0x70 => s.pfWord 0x70 + (s.rd hpB Reg.hpLinkSpeed + 16 * s.rd hpB Reg.hpLinkWidth) * 2 ^ 16
  | 0x84 => devCap2
  | 0x88 => s.pf.ctoValue + 16 * b2n s.pf.ctoDisable
  | 0x8C => 0x0E
  | 0x90 => if s.pfWord 0x90 = 0 then 3 else s.pfWord 0x90
  | _ => 0

/-- R86: the extended capabilities. -/
def State.pfHighWord (s : State) (off : Nat) : Nat :=
  match off with
  | 0x100 => extHead 0x01 2 0x140
  | 0x140 => extHead 0x0E 1 0x150
  | 0x150 => extHead 0x03 1 0x160
  | 0x154 => Config.uid % 2 ^ 32
  | 0x158 => Config.uid / 2 ^ 32 % 2 ^ 32
  | 0x1A0 => extHead 0x19 1 0
  | 0x1A4 => s.pfWord 0x1A4
  | 0x1AC => Config.laneEq 0 % 2 ^ 32
  | 0x1B0 => Config.laneEq 1 % 2 ^ 32
  | o => if o < 0x140 then s.aerWord 0 o else s.sriovWord o

/-- The double word of the PF's configuration space at `off`. -/
def State.pfCfgWord (s : State) (off : Nat) : Nat := if off < 0x100 then s.pfLowWord off else s.pfHighWord off

/-- R91: the double word of VF `n`'s configuration space at `off`: its capabilities stand where the PF's do (log entry 12). -/
def State.vfCfgWord (s : State) (n off : Nat) : Nat :=
  let v := s.vf n
  match off with
  | 0x00 => 0xFFFFFFFF
  | 0x04 => 4 * b2n v.bme + 0x10 * 2 ^ 16
  | 0x08 => s.rd siteB Reg.deviceRevStepping + 0x118000 * 2 ^ 8
  | 0x2C => 0x20481F2C
  | 0x34 => 0x50
  | 0x50 => capHead 0x11 0x60 (3 + 2 ^ 14 * b2n v.msixMask + 2 ^ 15 * b2n v.msixEn)
  | 0x54 => 2
  | 0x58 => 0x2002
  | 0x60 => capHead 0x10 0 2
  | 0x64 => devCap
  | 0x68 => s.devStatus n * 2 ^ 16
  | 0x6C => linkCap
  | 0x84 => devCap2
  | 0x8C => 0x0E
  | 0x100 => extHead 0x01 2 0x140
  | 0x140 => extHead 0x0E 1 0
  | o => if 0x100 ≤ o ∧ o < 0x140 then s.aerWord n o else 0

/-- A configuration read of function `fn`. -/
def State.cfgRead (s : State) (fn off : Nat) : State :=
  s.cfgRequest fn (fun t => t.emit (.cfgData fn (BitVec.ofNat 32 (if fn = 0 then t.pfCfgWord off else t.vfCfgWord fn off))))

/-! ### Writes -/

/-- A field of the PF that is only stored: the bits of `mask`. -/
def State.setPfWord (s : State) (off mask data : Nat) : State :=
  { s with pf := { s.pf with words := Sparse.put 0 s.pf.words off (data &&& mask) } }

/-- Device Control and Device Status of the PF (R85, R99, R100, R109, R115). -/
def State.devCtlWrite (s : State) (data : Nat) : State :=
  let a := s.aerOf 0
  let t := (s.setPfWord 0x68 0xF data).setAer 0 { a with devSta := a.devSta - (a.devSta &&& (data / 2 ^ 16)) }
  let u := { t with pf := { t.pf with roEn := bitAt data 4, mps := bitsOf data 5 3, extTag := bitAt data 8, mrrs := bitsOf data 12 3 } }
  if bitAt data 15 then u.pfFlrBegin else u

/-- The SR-IOV control word (R89, R92, R110). -/
def State.sriovWrite (s : State) (data : Nat) : State :=
  let t := { s with pf := { s.pf with vfMse := bitAt data 3, ari := bitAt data 4 } }
  if bitAt data 0 then t.vfEnableOn else t.vfEnableOff

/-- The AER registers of function `fn`: the status bits are cleared by ones; the PF holds the rest (R115). -/
def State.aerWrite (s : State) (fn off data : Nat) : State :=
  let a := s.aerOf fn
  match off with
  | 0x104 => s.setAer fn { a with unc := a.unc - (a.unc &&& data) }
  | 0x110 => s.setAer fn { a with cor := a.cor - (a.cor &&& data) }
  | 0x108 => if fn = 0 then s.setAer 0 { a with uncMask := data &&& 0x007FF010 } else s
  | 0x10C => if fn = 0 then s.setAer 0 { a with uncSev := data &&& 0x007FF030 } else s
  | 0x114 => if fn = 0 then s.setAer 0 { a with corMask := data &&& 0x000031C1 } else s
  | 0x118 => if fn = 0 then s.setAer 0 { a with ecrcGen := bitAt data 6, ecrcCheck := bitAt data 8 } else s
  | _ => s

/-- A configuration write of the PF. -/
def State.pfCfgWrite (s : State) (off data : Nat) : State :=
  match off with
  | 0x04 => State.sendPending { s.setPfWord 0x04 0x140 data with
      pf := { (s.setPfWord 0x04 0x140 data).pf with mse := bitAt data 1, bme := bitAt data 2 } } 0
  | 0x0C => s.setPfWord 0x0C 0xFF data
  | 0x10 => s.setPfWord 0x10 0xFC000000 data
  | 0x14 => s.setPfWord 0x14 0xFFFFFFFF data
  | 0x18 => s.setPfWord 0x18 0xFFFFC000 data
  | 0x1C => s.setPfWord 0x1C 0xFFFFFFFF data
  | 0x3C => s.setPfWord 0x3C 0xFF data
  | 0x44 => if bitsOf data 0 2 = 3 then s.toD3hot else if bitsOf data 0 2 = 0 then s.toD0 else s
  | 0x50 => { s with pf := { s.pf with msixEn := bitAt data 31, msixMask := bitAt data 30 } }.sendPending 0
  | 0x68 => s.devCtlWrite data
  | 0x70 => s.setPfWord 0x70 0xCB data
  | 0x88 => { s with pf := { s.pf with ctoValue := bitsOf data 0 4, ctoDisable := bitAt data 4 } }
  | 0x90 => s.setPfWord 0x90 0xF data
  | 0x168 => s.sriovWrite data
  | 0x170 => s.numVfsEffect (data % 65536)
  | 0x180 => s.setPfWord 0x180 0xFFFFFFFF data
  | 0x184 => s.setPfWord 0x184 0xFFFC0000 data
  | 0x188 => s.setPfWord 0x188 0xFFFFFFFF data
  | 0x18C => s.setPfWord 0x18C 0xFFFFC000 data
  | 0x190 => s.setPfWord 0x190 0xFFFFFFFF data
  | 0x1A4 => s.setPfWord 0x1A4 0x3 data
  | o => s.aerWrite 0 o data

/-- A configuration write of VF `n` (R91, R96, R106). -/
def State.vfCfgWrite (s : State) (n off data : Nat) : State :=
  match off with
  | 0x04 => { s with vfs := Sparse.put {} s.vfs n { s.vf n with bme := bitAt data 2 } }.sendPending n
  | 0x50 =>
    { s with vfs := Sparse.put {} s.vfs n { s.vf n with msixEn := bitAt data 31, msixMask := bitAt data 30 } }.sendPending n
  | 0x68 =>
    let a := s.aerOf n
    let t := s.setAer n { a with devSta := a.devSta - (a.devSta &&& (data / 2 ^ 16)) }
    if bitAt data 15 then t.flrBegin n else t
  | o => s.aerWrite n o data

/-- A configuration write of function `fn`. -/
def State.cfgWrite (s : State) (fn off data : Nat) : State :=
  s.cfgRequest fn (fun t => if fn = 0 then t.pfCfgWrite off data else t.vfCfgWrite fn off data)

/-! ### BAR2: the MSI-X table and the PBA (R86, R91, R93, R114, R116) -/

/-- Word `w` of entry `vec` of the MSI-X table. -/
def State.msixEntryWord (s : State) (fn vec w : Nat) : Nat :=
  let e := s.vector fn vec
  match w with
  | 0 => e.addrLo
  | 1 => e.addrHi
  | 2 => e.data
  | _ => b2n e.masked

/-- The double word of the PBA that starts with vector `v`. -/
def State.pbaWord (s : State) (fn v : Nat) : Nat :=
  forUpTo 32 (fun i n => if v + i < vectorsOf fn ∧ (s.vector fn (v + i)).pba then n + 2 ^ i else n) 0

/-- The double word of BAR2 at `off`; what neither the table nor the PBA covers reads 0. -/
def State.bar2Word (s : State) (fn off : Nat) : Nat :=
  if off < 16 * vectorsOf fn then s.msixEntryWord fn (off / 16) (off % 16 / 4)
  else if 0x2000 ≤ off ∧ off < 0x2008 then s.pbaWord fn ((off - 0x2000) / 4 * 32)
  else 0

/-- An aligned 32-bit read of the function's BAR2: a frozen VF reads ones (R116), a VF of a disabled plate 0 (R93). -/
def State.bar2Read (s : State) (fn off : Nat) : State :=
  if !s.linkUp then s
  else if !s.fnAnswers fn || decide (0x4000 ≤ off) then s.refuseRequest fn true
  else if fn != 0 && !s.plateEnabled ((fn - 1) / 8) then s.answer fn 0
  else if fn != 0 && s.isFrozen (masterOfFn fn) then (s.countAccess fn).answer fn 0xFFFFFFFF
  else (s.countAccess fn).answer fn (s.bar2Word fn off)

/-- A write of word `w` of entry `vec` of the MSI-X table; clearing the mask bit sends a pending message. -/
def State.msixEntryWrite (s : State) (fn vec w data : Nat) : State :=
  let e := s.vector fn vec
  match w with
  | 0 => s.setVector fn vec { e with addrLo := data - data % 4 }
  | 1 => s.setVector fn vec { e with addrHi := data }
  | 2 => s.setVector fn vec { e with data := data }
  | _ => if bitAt data 0 then s.setVector fn vec { e with masked := true } else s.msixUnmaskEffect fn vec

/-- An aligned 32-bit write to the function's BAR2; the PBA is read-only. -/
def State.bar2Write (s : State) (fn off data : Nat) : State :=
  if !s.linkUp then s
  else if !s.fnAnswers fn || decide (0x4000 ≤ off) then s.refuseRequest fn false
  else if fn != 0 && !s.plateEnabled ((fn - 1) / 8) then s
  else if s.isFrozen (masterOfFn fn) then s.countRepeat (masterOfFn fn)
  else if off / 16 < vectorsOf fn then s.msixEntryWrite fn (off / 16) (off % 16 / 4) data else s

end Sys2Proof.Machine
end

