-- ==== Sys2Proof/Machine/Title.lean ====
section
/-! DEFINITION. The title-block commands: event enables (R52), sheet locks (R57-R62, R65), the trace check (R68-R77)
and COMPAT (R78-R81). -/

namespace Sys2Proof.Machine

/-- The EVENT_EN bits a sheet holds: all of them (R48), but one on the site summary sheet (R35). -/
def SheetKind.enableBits : SheetKind → Nat
  | .site => 1
  | _ => 0xFFFFFFFF

/-- R52: a write of EVENT_EN stores the enables and announces newly enabled set bits. -/
def State.eventEnableEffect (s : State) (b : Nat) (data : Nat) : State :=
  match sheetAt b with
  | some (k, _) => s.enableEvents b (data &&& k.enableBits)
  | none => s

/-- EVENT_ENABLE_WRITE (R52). -/
def execEventEnableWrite (fn : Fin 65) (sheet : Nat) (data : Word) (s : State) : Host.Outcome State Fault Refusal :=
  .next (s.mmioWrite fn (sheet + 0x14) (fun t => t.eventEnableEffect sheet data.toNat))

/-- R57-R60, R67: a write of LOCK by function `fn`: `claim` acquires or releases, `clr` clears `broken` for a master that
held the lock before; a claim in another master's name is a violation (R58). -/
def State.lockWriteEffect (s : State) (fn b claim : Nat) (clr : Bool) : State :=
  match sheetAt b with
  | none => s
  | some (k, _) =>
    if !k.lockable then s
    else
      let m := masterOfFn fn
      if claim != 0 && claim != m then s.violateWrite fn vLockClaim (b + 0x18)
      else
        let t := if clr && s.lockOwner b == m then s.wr b Title.lockBroken 0 else s
        if claim = m then (if s.lockOwner b = 0 then t.acquire b m else t)
        else if s.lockOwner b = m then t.release b else t

/-- LOCK_CLAIM (R57, R58). -/
def execLockClaim (fn : Fin 65) (sheet : Nat) (claim : BitVec 8) (s : State) : Host.Outcome State Fault Refusal :=
  .next (s.mmioWrite fn (sheet + 0x18) (fun t => t.lockWriteEffect fn sheet claim.toNat false))

/-- LOCK_RELEASE (R59). -/
def execLockRelease (fn : Fin 65) (sheet : Nat) (s : State) : Host.Outcome State Fault Refusal :=
  .next (s.mmioWrite fn (sheet + 0x18) (fun t => t.lockWriteEffect fn sheet 0 false))

/-- LOCK_BROKEN_CLEAR (R60): the word carries `broken` = 1 and the given claim. -/
def execLockBrokenClear (fn : Fin 65) (sheet : Nat) (claim : BitVec 8) (s : State) : Host.Outcome State Fault Refusal :=
  .next (s.mmioWrite fn (sheet + 0x18) (fun t => t.lockWriteEffect fn sheet claim.toNat true))

/-- R65, R66: at a millisecond tick, the unfrozen holder of a lock held longer than `lock_limit` commits `lock_overrun`;
its freeze breaks the lock (R62, R579). -/
def State.lockOverrunStep (s : State) (b : Nat) : State :=
  let m := s.lockOwner b
  if m = 0 ∨ s.heldMs b ≤ s.rd dirB Reg.dirLockLimitLockLimit then s
  else s.violate m vLockOverrun 6 (plateOfAddr b) b (s.heldMs b)

/-- LOCK_OVERRUN (R65). -/
def execLockOverrun (sheet : Nat) (s : State) : Host.Outcome State Fault Refusal :=
  .next (s.lockOverrunStep sheet)

/-- TRACE_SAMPLE (R68-R71). -/
def execTraceSample (sheet : Nat) (s : State) : Host.Outcome State Fault Refusal :=
  match sheetAt sheet with
  | some (k, i) => .next (s.traceStep k i sheet)
  | none => .next s

/-- R74: the block is back in the state it held at detection. Only a block whose `STATE.op` is state of its own can have left
it while held; the others report what another rule computes (log entry 36). -/
def State.restorePath (s : State) (k : SheetKind) (inst b op : Nat) : State :=
  match k with
  | .plate => if s.plateOut inst then s.setPlateOp inst op else s
  | .mac | .hs | .th | .fe | .tb | .ek => s.setOp b op
  | _ => s

/-- R74, R75: while held, the lock holder's `accept_path` takes the captured code as intent, ends the hold and returns the block to
that state; on a tenant sheet only the PF may (R123). -/
def State.acceptPathEffect (s : State) (fn b : Nat) : State :=
  match sheetAt b with
  | none => s
  | some (k, i) =>
    if !k.traced || !s.heldAt b || !s.mayWriteL b (masterOfFn fn) || (k == .ten && fn != 0) then s
    else (s.storeIntent b (s.rd b Title.seenOp) (s.rd b Title.seenMode)).restorePath k i b (s.rd b Title.seenOp)

/-- ACCEPT_PATH_WRITE (R74). -/
def execAcceptPathWrite (fn : Fin 65) (sheet : Nat) (s : State) : Host.Outcome State Fault Refusal :=
  .next (s.mmioWrite fn (sheet + 0x24) (fun t => t.acceptPathEffect fn sheet))

/-- `COMPAT.offered` (R78) of each sheet: bit 0 stands for [4], bit 1 for [5], bit 2 for [6], bit 3 for [7]; the
watchdog's reads 1 only in OPEN (R81). -/
def State.offered (s : State) (k : SheetKind) : Nat :=
  match k with
  | .hp | .cr | .ps | .qmgr | .cnt => 2
  | .pt => 1
  | .mac => 4
  | .wd => if s.fuses.lc = 1 then 8 else 0
  | _ => 0

/-- R79, R80: a write of `COMPAT.prev` by the lock holder (by anyone on a sheet without lock; by the PF alone on a tenant
counter set, R411) takes effect at once, or only in OFF, by what the sheet offers. -/
def State.compatPrevEffect (s : State) (fn b : Nat) (prev : Bool) : State :=
  match sheetAt b with
  | none => s
  | some (k, i) =>
    let o := s.offered k
    if o = 0 ∨ !s.mayWriteL b (masterOfFn fn) ∨ (k = .cnt ∧ fn ≠ 0) then s
    else if (o &&& 12) ≠ 0 ∧ s.opOf k i b ≠ opOff then s
    else s.wrB b Title.compatPrev prev

/-- COMPAT_PREV_WRITE (R80). -/
def execCompatPrevWrite (fn : Fin 65) (sheet : Nat) (prev : Bool) (s : State) : Host.Outcome State Fault Refusal :=
  .next (s.mmioWrite fn (sheet + 0x8) (fun t => t.compatPrevEffect fn sheet prev))

end Sys2Proof.Machine
end

