-- ==== Sys2Proof/Machine/Views.lean ====
section
/-! DEFINITION. What an aligned 32-bit read returns at each PF BAR0 address (R7): the title block (R48-R50), the fields that
are computed from other state at the read, and the stored fields. -/

namespace Sys2Proof.Machine

/-- A field computed at the read, by array index. -/
abbrev FieldView := Row × (Nat → Nat)

/-- A bit mask: bit `i` for every `i` below `n` with `f i`. -/
def maskOf (n : Nat) (f : Nat → Bool) : Nat := forUpTo n (fun i v => v + (b2n (f i)) <<< i) 0

/-- The value of an optional time difference in nanoseconds as whole units, rounded down. -/
def unitsLeft (till now unit : Nat) : Nat := (till - now) / unit

/-! ### The title block (R48-R50) -/

/-- `SHEET_CAPS.block_caps` as each sheet's chapter gives it. -/
def State.blockCaps (s : State) (k : SheetKind) (inst : Nat) : Nat :=
  match k with
  | .tb | .fe => 0xF
  | .ek => 7
  | .wd => if inst = 0 then 0 else 1
  | .mb => b2n (!s.fuses.islOff)
  | .mac => 0x3F
  | .ten => b2n (s.plateEnabled (inst / 8)) + 2 * b2n (decide (inst + 1 ≤ s.fuses.vfLimit))
  | _ => 0

/-- SHEET_ID: version 1, instance, block type (R46). -/
def sheetId (k : SheetKind) (inst : Nat) : Nat := 1 + inst * 2 ^ 8 + k.type * 2 ^ 16

/-- SHEET_CAPS (R48, R50). -/
def State.sheetCaps (s : State) (k : SheetKind) (inst : Nat) : Nat :=
  s.blockCaps k inst + (b2n k.aon) <<< 28 + (b2n (k.tenantVisible inst)) <<< 29 + (b2n k.traced) <<< 30
    + (b2n k.lockable) <<< 31

/-- `STATE.detail` of the timebase sheet (R496). -/
def State.tbDetail (s : State) : Nat :=
  let src := s.tbSelected
  s.tb.state + src * 2 ^ 4 + (b2n (phaseSource src)) <<< 7 + (b2n s.tb.timeSet) <<< 8
    + (b2n (s.tb.state == tbHoldover && s.tb.hoModel)) <<< 9 + (b2n s.tb.slew.run) <<< 10 + (b2n s.tb.deferred) <<< 11
    + (b2n s.channelsActive) <<< 12

/-- `STATE.detail` of the frame MAC sheet (R406). -/
def State.macDetail (s : State) (p : Nat) : Nat :=
  let v := s.port p
  b2n v.up + (b2n (v.graceFrom.isSome && !v.graceEnded)) <<< 1 + (b2n v.graceEnded) <<< 2
    + (b2n (decide (s.now < v.pauseTill))) <<< 3 + (b2n (decide (s.now < v.holdTill))) <<< 4 + (v.speed % 4) <<< 5
    + (b2n v.abs) <<< 7 + (b2n v.txFault) <<< 8 + (b2n v.remoteFault) <<< 9

/-- R419: every gate is open: the scheduler is OFF, STARTING, or STOPPING after its last cycle. -/
def State.gatesOpen (s : State) (p : Nat) : Bool :=
  s.hsOp p == opOff || s.hsOp p == opStarting || (s.hsOp p == opStopping && !s.cycleRuns p)

/-- `STATE.detail` of the hatch scheduler sheet (R438). -/
def State.hatchDetail (s : State) (p : Nat) : Nat :=
  let h := s.hatch p
  s.activeBank p + (b2n h.pending.isSome) <<< 1 + (b2n h.gap) <<< 2 + (b2n h.freeRun) <<< 3 + (b2n (s.gatesOpen p)) <<< 4

/-- `STATE.detail` of a plate timekeeper sheet (R499). -/
def State.tkDetail (s : State) (p : Nat) : Nat :=
  let t := s.tk p
  b2n (t.badRun == 0) + (b2n t.own) <<< 1 + (b2n t.rejoin) <<< 2
    + (b2n (t.own && s.rd (ptB p) Title.hostMode == 2 && s.rd (ptB p) Title.hostOp == opRunning)) <<< 3

/-- `STATE.detail` of the front-end sheet (R530). -/
def State.feDetail (s : State) : Nat :=
  b2n (s.therm 0).valid + (b2n (s.therm 1).valid) <<< 1 + (b2n (decide ((s.therm 0).means.length = 600))) <<< 2
    + (b2n (decide ((s.therm 1).means.length = 600))) <<< 3 + (b2n (s.feOp == opFault)) <<< 4
    + (s.rd feB Reg.feEfcRefLow) <<< 5 + (s.rd feB Reg.feEfcManual) <<< 6

/-- `STATE.detail` of the Epkuone link sheet (R736). -/
def State.ekDetail (s : State) : Nat :=
  b2n s.pairFormed + (b2n (s.laneIsUp 2 || s.laneIsUp 3)) <<< 1 + (b2n (s.master == some s.myNode)) <<< 2
    + (b2n ((List.range 4).any (fun l => s.laneState l == laneConflict))) <<< 3 + (maskOf 4 s.laneIsUp) <<< 4
    + (b2n (s.isFrozen masterEpk)) <<< 8

/-- `STATE.detail` of the quiet mode sheet (R683). -/
def State.quietDetail (s : State) : Nat :=
  s.voteNow + (b2n s.coordinates) <<< 3 + (b2n s.membersReachable) <<< 4 + (maskOf 8 s.plateQuiet) <<< 8

/-- `STATE.detail` of a watchdog channel sheet (R625). -/
def State.wdDetail (s : State) (c : Nat) : Nat :=
  let w := s.wd c
  b2n (s.wdOpen c) + (b2n (w.running && w.first)) <<< 1 + (b2n w.heldAt.isSome) <<< 2 + (b2n (w.running && w.kernel)) <<< 3
    + (b2n w.key.isSome) <<< 4

/-- `STATE.detail` of a TDM highway sheet (R460). -/
def State.thDetailWord (s : State) (p : Nat) : Nat :=
  let on := s.thOp p == opStarting || s.thOp p == opRunning || s.thOp p == opStopping
  s.rd (thB p) Title.stateDetail % 8 + (b2n (on && s.rd (thB p) Reg.thCfgLoop != 0)) <<< 3
    + (b2n (on && (s.highway p).master && (s.tk p).own)) <<< 4

/-- `STATE.detail` by the kind of sheet; 0 where the chapter defines none. -/
def State.detailOf (s : State) (k : SheetKind) (inst b : Nat) : Nat :=
  match k with
  | .gc => maskOf 4 (fun g => s.isFrozen (masterGraver inst g))
  | .mac => s.macDetail inst
  | .hs => s.hatchDetail inst
  | .tb => s.tbDetail
  | .pt => s.tkDetail inst
  | .fe => s.feDetail
  | .fz => s.frozen.length
  | .lc => s.fuses.lc
  | .qm => s.quietDetail
  | .ek => s.ekDetail
  | .wd => s.wdDetail inst
  | .th => s.thDetailWord inst
  | .ps | .qmgr | .sh => 0
  | _ => s.rd b Title.stateDetail

/-- STATE (R49). A sheet of a plate that is in reset answers from the chip-side shadow (R41). -/
def State.stateWord (s : State) (k : SheetKind) (inst b : Nat) : Nat :=
  let op := s.opOf k inst b
  if k.inWindow && !s.plateOut (sheetPlate k inst) then op
  else
    op + (if op = opHeld then s.rd b Title.seenOp else 0) <<< 4 + (s.modeOf k b) <<< 8 + (s.detailOf k inst b) <<< 16

/-- TRACE_CHECK (R48). -/
def State.traceWord (s : State) (b : Nat) : Nat :=
  s.rd b Title.mismatch + (s.rd b Title.held) <<< 2 + (s.rd b Title.count) <<< 4 + (s.rd b Title.seenOp) <<< 8
    + (s.rd b Title.wantOp) <<< 12 + (s.rd b Title.seenMode) <<< 16

/-- The word at offset `off` of the title block of a sheet (R48, R50). -/
def State.titleWord (s : State) (k : SheetKind) (inst b off : Nat) : Nat :=
  match off with
  | 0x0 => sheetId k inst
  | 0x4 => s.sheetCaps k inst
  | 0x8 => s.rd b Title.compatPrev + (s.offered k) <<< 4
  | 0xC => s.stateWord k inst b
  | 0x10 => s.rd b Title.event
  | 0x14 => s.rd b Title.eventEn
  | 0x18 => if k.lockable then (s.rd b Title.lockBroken) <<< 8 else 0
  | 0x1C => if k.lockable then s.lockOwner b + (s.rd b Title.lastBroken) <<< 8 + (s.heldMs b) <<< 16 else 0
  | 0x20 => if k.traced then s.rd b Title.hostOp + (s.rd b Title.hostMode) <<< 8 else 0
  | 0x24 => if k.traced then s.traceWord b else 0
  | _ => 0

/-! ### Fields computed at the read -/

/-- The sheets of a plate's window that have a lock or a trace check (R40). -/
def windowSheets (p : Nat) : List Nat :=
  (List.range 10).map (fun i => winB p + i * 0x1000) ++ (List.range 8).map (fun i => tenB (8 * p + i))

/-- Is the lock of the sheet at `b` held; has it been broken? -/
def State.locked (s : State) (b : Nat) : Bool := s.lockOwner b != 0
def State.lockWasBroken (s : State) (b : Nat) : Bool := s.isSet b Title.lockBroken

/-- Site summary (R33). -/
def State.siteViews (s : State) : List FieldView :=
  [(Reg.fuseViewPlatesPresent, fun _ => s.fuses.platesPresent), (Reg.fuseViewIslandPresent, fun _ => b2n (!s.fuses.islOff)),
   (Reg.fuseViewVfLimit, fun _ => s.fuses.vfLimit), (Reg.fuseViewLifeCycle, fun _ => s.fuses.lc),
   (Reg.fuseViewWdHwStart, fun _ => b2n s.fuses.wdHw), (Reg.ceilingFuseCeiling, fun _ => s.fuses.ceiling)]

/-- Sheet directory (R82): bit t − 2 stands for the chip-service sheet of block type t. -/
def State.dirViews (s : State) : List FieldView :=
  let chip := fun (f : Nat → Bool) => maskOf 12 (fun i => f ((i + 1) * 0x1000))
  [(Reg.dirLockSummaryLocked, fun _ => chip s.locked), (Reg.dirLockSummaryBroken, fun _ => chip s.lockWasBroken),
   (Reg.dirTraceSummaryHeld, fun _ => chip s.heldAt),
   (Reg.dirHeldPlatesPlateHeld, fun _ => maskOf 8 (fun p => (windowSheets p).any s.heldAt)),
   (Reg.dirLockPlatesLocked, fun _ => maskOf 8 (fun p => (windowSheets p).any s.locked)),
   (Reg.dirLockPlatesBroken, fun _ => maskOf 8 (fun p => (windowSheets p).any s.lockWasBroken)),
   (Reg.dirLockWdLocked, fun _ => maskOf 9 (fun c => s.locked (wdB c))),
   (Reg.dirLockWdBroken, fun _ => maskOf 9 (fun c => s.lockWasBroken (wdB c)))]

/-- Host port (R120, R122). -/
def State.hpViews (s : State) : List FieldView :=
  let hi := fun (o : Nat) (_ : Nat) => Sparse.get 0 s.pairHi o
  [(Reg.hpVfNumVfs, fun _ => s.pf.numVfs), (Reg.hpVfVfEnable, fun _ => b2n s.pf.vfEnable), (Reg.hpVfAri, fun _ => b2n s.pf.ari),
   (Reg.hpVfTotalVfs, fun _ => s.fuses.vfLimit), (Reg.hpTagsExtTag, fun _ => b2n s.pf.extTag),
   (Reg.hpTagsTagsPerPlate, fun _ => s.plateTags), (Reg.hpTagsMrrs, fun _ => s.pf.mrrs), (Reg.hpTagsMps, fun _ => min 2 s.pf.mps),
   (Reg.hpFrozenHiVf, hi 0x5C), (Reg.hpNoteHiVf, hi 0x64), (Reg.hpFlrHiVf, hi 0x6C)]

/-- Life cycle and fuses (R640, R652). -/
def State.lcViews (s : State) : List FieldView :=
  let f := s.fuses
  let g := s.fusesBlown
  [(Reg.lcStateState, fun _ => f.lc), (Reg.lcUidLoUid, fun _ => Config.uid % 2 ^ 32),
   (Reg.lcUidHiUid, fun _ => Config.uid / 2 ^ 32 % 2 ^ 32), (Reg.lcOptSensedPlateDis, fun _ => f.plateDis),
   (Reg.lcOptSensedIslOff, fun _ => b2n f.islOff), (Reg.lcOptSensedWdHw, fun _ => b2n f.wdHw),
   (Reg.lcOptSensedKeyRev, fun _ => f.keyRev), (Reg.lcOptSensedSecVer, fun _ => f.secVer), (Reg.lcCeilSensed, fun _ => f.ceil),
   (Reg.lcCeilSensedLock, fun _ => b2n f.ceilLock), (Reg.lcCeilBlown, fun _ => g.ceil),
   (Reg.lcCeilBlownLock, fun _ => b2n g.ceilLock), (Reg.lcVfcapSensed, fun _ => f.vfCap),
   (Reg.lcVfcapSensedLock, fun _ => b2n f.vfCapLock), (Reg.lcVfcapBlown, fun _ => g.vfCap),
   (Reg.lcVfcapBlownLock, fun _ => b2n g.vfCapLock)]

/-- Holdover model (R486-R488, R497). -/
def State.hmViews (s : State) : List FieldView :=
  [(Reg.hmStatusValid, fun _ => b2n s.modelValid), (Reg.hmStatusTh0Ok, fun _ => b2n s.th0Ok),
   (Reg.hmStatusLearning, fun _ => b2n s.learns), (Reg.hmStatusSettling, fun _ => b2n (decide (s.now < s.tb.settleTill))),
   (Reg.hmAgeAgeH, fun _ => s.ageHours)]

/-- What plate `p` is charged in power units (R654, R682): base, lane, calls, bursts. -/
def State.plateCharge (s : State) (p : Nat) : Nat :=
  (if (s.plate p).baseGrant then 40 else 0) + Sparse.get 0 s.laneGrants p + s.callCharge p
    + s.echos.foldl (fun n e => if e.1 / 256 = p then n + e.2.burst else n) 0 + Sparse.get 0 s.imprGrants p

/-- Power arbiter (R682). -/
def State.paViews (s : State) : List FieldView :=
  [(Reg.paUsedCommitted, fun _ => s.committed), (Reg.paUsedBursts, fun _ => s.bursts), (Reg.paFreeFree, fun _ => s.budgetFree),
   (Reg.paFreeReserve, fun _ => s.reserve), (Reg.paRhoRho, fun _ => s.rho), (Reg.paResUnits, fun k => resUnits k),
   (Reg.paResRes, fun k => s.resOf k), (Reg.paPlateCharge, fun p => s.plateCharge p), (Reg.paPlateCalls, fun p => s.callCharge p)]

/-- Quiet mode (R684). -/
def State.qm2Views (s : State) : List FieldView :=
  [(Reg.qmReqRequesting, fun _ => maskOf 8 s.enteringQuiet), (Reg.qmReqReady, fun _ => maskOf 8 s.quietReady)]

/-- Freeze unit (R584, R597). -/
def State.fzViews (s : State) : List FieldView :=
  let w := fun (i _ : Nat) => s.frzCap.words.getD i 0
  [(Reg.fzRec1AddrLo, w 1), (Reg.fzRec2AddrHi, w 2), (Reg.fzRec3Ns, w 3), (Reg.fzRec4Sec, w 4),
   (Reg.fzRec5Seq, fun i => w 5 i % 65536), (Reg.fzRec5Repeats, fun i => bitsOf (w 5 i) 16 8),
   (Reg.fzFrozenGrvGraver, fun _ => maskOf 32 (fun i => s.isFrozen (0x90 + i))),
   (Reg.fzFrozenOthDma, fun _ => maskOf 8 (fun p => s.isFrozen (masterDma p))),
   (Reg.fzFrozenOthEpk, fun _ => b2n (s.isFrozen masterEpk)), (Reg.fzFrozenOthPf, fun _ => b2n (s.isFrozen 1)),
   (Reg.fzHistHeadNext, fun _ => s.frzSeq % 16)]

/-- Epkuone link (R695, R697, R737). -/
def State.ekViews (s : State) : List FieldView :=
  [(Reg.ekNodeNode, fun _ => s.myNode), (Reg.ekNodePaired, fun _ => b2n s.pairFormed),
   (Reg.ekNodeIsMaster, fun _ => b2n (s.master == some s.myNode)), (Reg.ekNodeMasterNode, fun _ => s.master.getD 0),
   (Reg.ekNodeMasterOk, fun _ => b2n s.master.isSome), (Reg.ekNodeNodes, fun _ => maskOf 8 s.nodePresent),
   (Reg.ekLaneGrant, fun l => b2n (bitAt s.epkGrants l))]

/-- Watchdog channel (R599-R626); with the older behaviour WD_CHAL reads 0 (R624). -/
def State.wdViews (s : State) (c : Nat) : List FieldView :=
  let w := s.wd c
  let on := fun (n : Nat) (_ : Nat) => if w.running then n else 0
  [(Reg.wdChalChal, on (if s.isSet (wdB c) Title.compatPrev then 0 else w.chal)), (Reg.wdStatusElapsed, on (s.wdElapsed c)), (Reg.wdStatusN, on w.n),
   (Reg.wdStatusInWindow, fun _ => b2n (s.wdOpen c)), (Reg.wdStatusFirst, on (b2n w.first)),
   (Reg.wdStatusKeySet, fun _ => b2n w.key.isSome), (Reg.wdStatusHeld, fun _ => b2n w.heldAt.isSome),
   (Reg.wdStatusWakeReq, on (b2n w.wakeReq)), (Reg.wdStatusSrcInuse, on (b2n w.kernel)), (Reg.wdInusePeriod, on w.period),
   (Reg.wdInuseOpenAt, on w.openAt), (Reg.wdNowTick, fun _ => s.aonTick)]

/-- Island mailbox (R569). -/
def State.mbViews (s : State) : List FieldView :=
  [(Reg.mbStatAgeUs, fun _ => match s.mailbox.latest with
    | some _ => min 0xFFFF (unitsLeft s.now s.mailbox.at_ 1000)
    | none => 0)]

/-- Plate sheet (R202). -/
def State.plateViews (s : State) (p : Nat) : List FieldView :=
  [(Reg.plUnitsUsed, fun _ => s.unitsUsed p), (Reg.plUnitsFree, fun _ => 256 - s.unitsUsed p)]

/-- Graver cluster (R203). -/
def State.gcViews (s : State) (p : Nat) : List FieldView :=
  [(Reg.gcRunRunning, fun _ => maskOf 4 (s.graverRuns p)),
   (Reg.gcRunFrozen, fun _ => maskOf 4 (fun g => s.isFrozen (masterGraver p g))),
   (Reg.gcRunHalted, fun _ => maskOf 4 (s.graverHalted p))]

/-- Queue manager (R364). -/
def State.qmgrViews (s : State) (p : Nat) : List FieldView :=
  [(Reg.qmPoolFree, fun _ => s.poolFree p), (Reg.qmUsedUsed, fun k => s.usedBy p k)]

/-- Frame MAC (R409): what is left of the grace, and the head of the transmit timestamp queue. -/
def State.macViews (s : State) (p : Nat) : List FieldView :=
  let v := s.port p
  let t := fun (i _ : Nat) => (s.txtsWords p).getD i 0
  [(Reg.macFlapGraceLeft, fun _ => match v.graceFrom with
      | some f => if v.graceEnded then 0 else unitsLeft (f + s.rd (macB p) Reg.macFlapFlapGrace * msNs) s.now msNs
      | none => 0),
   (Reg.macTxtsStatCount, fun _ => v.txts.length), (Reg.macTxtsNsNs, t 0), (Reg.macTxtsSecSec, t 1),
   (Reg.macTxtsIdSecHi, fun i => t 2 i % 65536), (Reg.macTxtsIdSeqId, fun i => t 2 i / 65536)]

/-- Shapers (R425, R440): whole bytes of a level, rounded down, and the rest. -/
def State.shViews (s : State) (p : Nat) : List FieldView :=
  [(Reg.shLevelLevel, fun n => ofSigned 18 (s.shLevel p n / 256)), (Reg.shLevelFrac, fun n => (s.shLevel p n % 256).toNat),
   (Reg.shBlockBlocking, fun _ => maskOf 8 (fun n => !((s.queue p n).drop (b2n (s.sending p n))).isEmpty && !s.shaperAllows p n))]

/-- TDM highway (R461): the spacings now. -/
def State.thViews (s : State) (p : Nat) : List FieldView :=
  let on := s.thOp p == opRunning || s.thOp p == opStopping
  [(Reg.thStatusRxFill, fun _ => if on then s.fill p true else 0), (Reg.thStatusTxFill, fun _ => if on then s.fill p false else 0)]

/-- Plate timekeeper (R499). -/
def State.ptViews (s : State) (p : Nat) : List FieldView :=
  let t := s.tk p
  [(Reg.ptOwnOwnMs, fun _ => if t.own then unitsLeft s.now t.ownFrom msNs else s.rd (ptB p) Reg.ptOwnOwnMs)]

/-- Tenant sheet (R127). -/
def State.tenViews (s : State) (t : Nat) : List FieldView :=
  [(Reg.tenIdVf, fun _ => t + 1), (Reg.tenIdSlot, fun _ => t % 8), (Reg.tenIdPlate, fun _ => t / 8),
   (Reg.tenIdMaster, fun _ => 0x41 + t), (Reg.tenIdVfLive, fun _ => b2n (s.vfLive (t + 1))),
   (Reg.tenDmaStatusInFlight, fun _ => s.tenInFlight t), (Reg.tenFreezeFrozen, fun _ => b2n (s.isFrozen (0x41 + t)))]

/-- Channel descriptor (R212, R227, R738). -/
def State.chViews (s : State) (g : Nat) : List FieldView :=
  let c := s.chan g
  let p := g / 256
  let b := chB g
  let role := s.role p
  [(Reg.chPathState, fun _ => s.pathView g), (Reg.chPathGraver, fun _ => if c.units = 0 then 0 else c.graver),
   (Reg.chPathUnits, fun _ => c.units), (Reg.stCodecTgRun, fun _ => b2n (s.isSet (chB g) Reg.stCodecTgRun && s.sendsRtp g)), (Reg.ecStatusSuspended, fun _ => b2n (s.echoSuspended g || (s.echo g).refill != 0)), (Reg.pmStatusRole, fun _ => role), (Reg.pmStatusCharged, fun _ => b2n (c.res != 0)),
   (Reg.pmStatusMirrored, fun _ =>
     if role = roleStandby then b2n (Sparse.find? s.mirrors g).isSome
     else if s.prot p = protNone then 0 else s.rd b Reg.pmStatusMirrored),
   (Reg.pmStatusUnprot, fun _ =>
     if role = roleStandby then s.rd b Reg.pmStatusUnprot
     else if role = roleActive ∧ s.pairedPlate p ∧ s.chOpen g then
       (if s.prot p = protNone then 3 else if s.isSet b Reg.pmStatusMirrored then 0 else 2)
     else 0)]

/-- The computed fields of a sheet. -/
def State.viewsOf (s : State) (k : SheetKind) (inst : Nat) : List FieldView :=
  match k with
  | .site => s.siteViews
  | .dir => s.dirViews
  | .hp => s.hpViews
  | .lc => s.lcViews
  | .hm => s.hmViews
  | .pa => s.paViews
  | .qm => s.qm2Views
  | .fz => s.fzViews
  | .ek => s.ekViews
  | .wd => s.wdViews inst
  | .mb => s.mbViews
  | .plate => s.plateViews inst
  | .gc => s.gcViews inst
  | .qmgr => s.qmgrViews inst
  | .dma => [(Reg.dmaInflightTotal, fun _ => s.plateInFlight inst)]
  | .mac => s.macViews inst
  | .sh => s.shViews inst
  | .pt => s.ptViews inst
  | .ten => s.tenViews inst
  | .th => s.thViews inst
  | .cr | .tb | .fe | .si | .ps | .hs | .cnt => []

/-- The rows of a sheet's register table. -/
def SheetKind.rows : SheetKind → List Row
  | .site => Reg.siteRows
  | .dir => Reg.dirRows
  | .hp => Reg.hpRows
  | .cr => Reg.crRows
  | .lc => Reg.lcRows
  | .tb => Reg.tbRows
  | .hm => Reg.hmRows
  | .fe => Reg.feRows
  | .pa => Reg.paRows
  | .qm => Reg.qm2Rows
  | .fz => Reg.fzRows
  | .ek => Reg.ekRows
  | .si => Reg.siRows
  | .wd => Reg.wdRows
  | .mb => Reg.mbRows
  | .plate => Reg.plateRows
  | .gc => Reg.gcRows
  | .ps => Reg.psRows
  | .qmgr => Reg.qmRows
  | .dma => Reg.dmaRows
  | .mac => Reg.macRows
  | .hs => Reg.hsRows
  | .sh => Reg.shRows
  | .th => Reg.thRows
  | .pt => Reg.ptRows
  | .ten => Reg.tenRows
  | .cnt => []

/-- The rows of a channel descriptor (R208). -/
def descriptorRows : List Row := Reg.chRows ++ Reg.mediaRows ++ Reg.ecRows ++ Reg.jbRows ++ Reg.pmRows

/-- The register at offset `off` of the fields at `b`: computed fields where there is a view, stored ones otherwise;
write-only fields read 0 (R7, R10). -/
def State.viewWord (s : State) (b : Nat) (rows : List Row) (views : List FieldView) (off : Nat) : Nat :=
  rows.foldl (fun n r => match r.indexAt off with
    | some i =>
      match r.acc with
      | .wo | .woL => n
      | _ => n + ((match views.find? (fun v => v.1 == r) with
        | some v => v.2 i % 2 ^ r.width
        | none => s.rd b r i) <<< r.lsb)
    | none => n) 0

/-- R33, R34: PLATE_SUMMARY: the operating codes of the plates, 0 for a plate disabled by fuse (R29). -/
def State.plateSummary (s : State) : Nat :=
  forUpTo 8 (fun p v => v + (if s.plateEnabled p then s.opOf .plate p (plB p) else 0) <<< (4 * p)) 0

/-- R120: HP_TAG_USE. -/
def State.tagUse (s : State) : Nat := forUpTo 8 (fun p v => v + (s.tagsUsed p % 16) <<< (4 * p)) 0

/-- R202: PL_GRAVER_UNITS. -/
def State.graverUnitsWord (s : State) (p : Nat) : Nat := forUpTo 4 (fun i v => v + (s.graverUnits p i % 256) <<< (8 * i)) 0

/-- R640, R652: LC_OPT_BLOWN. -/
def Fuses.optWord (f : Fuses) : Nat :=
  f.plateDis % 256 + (b2n f.islOff) <<< 8 + (b2n f.wdHw) <<< 9 + (f.keyRev % 16) <<< 12 + (f.secVer % 64) <<< 16

/-- R584: word `i` of the history entry whose registers start at 0x100 + 0x20 h. -/
def State.historyWord (s : State) (h i : Nat) : Nat := (Sparse.get {} s.frzHistCap h).words.getD i 0

/-- Registers of a sheet that no row of its table holds field by field: whole words of derived state. -/
def State.wholeWord (s : State) (k : SheetKind) (inst off : Nat) : Option Nat :=
  match k, off with
  | .site, 0x4C => some s.plateSummary
  | .hp, 0x4C => some s.tagUse
  | .lc, 0x74 => some s.fusesBlown.optWord
  | .plate, 0x44 => some (s.graverUnitsWord inst)
  | .tb, 0xA4 => some (s.tb.capture.sec % 2 ^ 32)
  | .tb, 0xA8 => some (s.tb.capture.sec / 2 ^ 32 % 65536)
  | .tb, 0xAC => some s.tb.capture.frac
  | .pt, 0x54 => some ((Sparse.get {} s.ptCaps inst).sec % 2 ^ 32)
  | .pt, 0x58 => some ((Sparse.get {} s.ptCaps inst).sec / 2 ^ 32 % 65536)
  | .fz, o => if 0x100 ≤ o ∧ o < 0x300 ∧ 1 ≤ (o - 0x100) % 0x20 / 4 ∧ (o - 0x100) % 0x20 / 4 < 6 then
      some (s.historyWord ((o - 0x100) / 0x20) ((o - 0x100) % 0x20 / 4)) else none
  | _, _ => none

/-! ### Words that draw a free value -/

/-- R474: seconds until the wait-to-restore time lets a better source be selected, the soonest; 0 when none waits. -/
def State.wtrLeft (s : State) : Nat × State :=
  let better := (List.range 5).filter (fun n => s.tbEligible n && s.tbPriority n < s.tbPriority s.tbSelected)
  let ends := better.map (fun n => Sparse.get s.now s.tb.qualSince n + s.rd tbB Reg.tbCtrlWtrS * secNs)
  if s.tbSelected = noSource ∨ !s.isSet tbB Reg.tbCtrlRevert then (0, s)
  else match ends with
    | [] => (0, s)
    | a :: r =>
      let d := s.drawRound ((r.foldl min a - s.now : Nat) : Int) secNs
      (d.1.toNat, d.2)

/-- R496: TB_REF_STAT. A qualified source is present, and REF_IN is while its monitor says so; for the others the spec does
not say what presence is, and the bit is a free value (log entry 7). -/
def State.refStat (s : State) : Nat × State :=
  let d := s.drawNat
  let w := d.2.wtrLeft
  let q := s.rd tbB Reg.tbRefStatQualified
  let ref := (b2n (s.isSet crB Reg.crRefStatusRefInOk)) <<< 3
  let present := q ||| ref ||| ((d.1 % 32) &&& (0x17 - (0x17 &&& q)))
  (present % 32 + q <<< 8 + s.tbSelected <<< 16 + (w.1 % 4096) <<< 20, w.2)

/-! ### The other regions -/

/-- R366: the queue descriptor words. -/
def State.queueDescWord (s : State) (p q off : Nat) : Nat :=
  let b := qdB p q
  match off with
  | 0 => match s.queue p q with
    | [] => 0
    | e :: r => e.cell + ((r.getLastD e).cell) <<< 16
  | 4 =>
    (match queueKind q with
      | 0 => 0
      | 2 => s.rd (chB (256 * p + (q - 40))) Reg.chOwnerSlot + (s.rd (chB (256 * p + (q - 40))) Reg.chOwnerAssigned) <<< 3
      | _ => s.rd b Reg.qdOwnerSlot + (s.rd b Reg.qdOwnerOwned) <<< 3)
    + (queueKind q) <<< 4 + (s.rd b (qdLimitRow q)) <<< 16
  | 8 => s.rd b Reg.qdCtrlRelay
  | _ => s.rd b Reg.qdStatsDrops + (s.rd b Reg.qdStatsPeakCells) <<< 16

/-- R362: entries and cells of a queue. -/
def State.queueCountWord (s : State) (p q : Nat) : Nat := (s.queue p q).length % 65536 + (s.queueCells p q % 65536) <<< 16

/-- R44, R362: does the VF of tenant `t` see the count of queue `q`: its own queue, or a transmit queue it may use? -/
def State.seesQueue (s : State) (t q : Nat) : Bool :=
  if queueKind q = 0 then bitAt (s.rd (qgB (t / 8)) Reg.qmQuotaTqAllow (t % 8)) q else s.queueOwner (t / 8) q == some (t % 8)

/-- R571: word `w` of the log mirror entry `j`: the latest record of the last 1,024 whose number is `j` modulo 1,024. -/
def Island.mirrorWord (d : Island) (j w : Nat) : Nat :=
  let n := d.log.length
  if n ≤ j then 0
  else match d.log[n - 1 - (j + 1024 * ((n - 1 - j) / 1024))]? with
    | some r => leVal (bytesAt r.bytes (4 * w) 4)
    | none => 0

/-- R566, R570, R571: the mailbox data: the latched publication, and the log mirror; 0 on a device without an island (R3). -/
def State.mailboxWord (s : State) (off : Nat) : Nat :=
  if s.fuses.islOff then 0
  else if 0x7000 ≤ off then s.island.mirrorWord ((off - 0x7000) / 32) ((off - 0x7000) % 32 / 4)
  else match s.mailbox.latched with
    | none => 0
    | some p =>
      if off < 0x400 then (if off % 0x80 < 0x40 then (p.feeds.getD (off / 0x80) []).getD (off % 0x80 / 4) 0 else 0)
      else if off < 0x440 then p.island.getD ((off - 0x400) / 4) 0 else 0

/-! ### What a read does -/

/-- R364, R366: a low-water mark or a peak restarts from the current value. -/
def State.restartPeaks (s : State) (k : SheetKind) (inst off : Nat) : State :=
  match k with
  | .qmgr =>
    if off = 0x40 then s.wr (qgB inst) Reg.qmPoolLowWater (s.poolFree inst)
    else if 0x70 ≤ off ∧ off < 0x90 then s.wr (qgB inst) Reg.qmUsedPeak (s.usedBy inst ((off - 0x70) / 4)) ((off - 0x70) / 4)
    else s
  | _ => s

/-- R11, R411: a read of the low word of a 48-bit counter: it returns bits 31:0, latches bits 47:32 and clears the counter,
which a sheet that counts by the older rule does not do (R78). -/
def State.counterLowRead (s : State) (b a : Nat) : Nat × State :=
  let v := Sparse.get 0 s.cnt48 a
  let t := { s with shadow48 := Sparse.put 0 s.shadow48 a (v / 2 ^ 32) }
  (v % 2 ^ 32, if s.isSet b Title.compatPrev then t else { t with cnt48 := Sparse.del t.cnt48 a })

/-- The word at offset `off` of a counter set (R406, R411). -/
def State.counterRead (s : State) (b off : Nat) : Nat × State :=
  if 0x40 ≤ off ∧ off < 0x40 + 8 * 22 then
    if off % 8 = 0 then s.counterLowRead b (b + off) else (Sparse.get 0 s.shadow48 (b + off - 4), s)
  else (0, s)

/-- A read of a graver's program counter (R203): where it stands while stopped, a free value while it runs (log entry 7). -/
def State.pcRead (s : State) (p g : Nat) : Nat × State := s.graverPc p g

/-- Reads of a sheet with an effect of their own, by kind of sheet: register pairs (R122), records (R584), captures (R490,
R499), the mailbox (R566), transmit timestamps (R395), program counters (R172) and counter sets (R406). -/
def State.hpReadSpecial (s : State) (off : Nat) : Option (Nat × State) :=
  match off with
  | 0x5C => some (s.pairLoEffect .frozen)
  | 0x64 => some (s.pairLoEffect .note)
  | 0x6C => some (s.pairLoEffect .flr)
  | _ => none
def State.fzReadSpecial (s : State) (off : Nat) : Option (Nat × State) :=
  if off = 0x44 then some (s.recordReadEffect none)
  else if h : 0x100 ≤ off ∧ off < 0x300 ∧ off % 0x20 = 0 then
    some (s.recordReadEffect (some ⟨(off - 0x100) / 0x20, by omega⟩))
  else none
def State.tbReadSpecial (s : State) (off : Nat) : Option (Nat × State) :=
  match off with
  | 0xA0 => some s.siteCapture
  | 0xC0 => some s.refStat
  | _ => none

/-- The registers whose read has an effect of its own or draws a free value. -/
def State.specialRead (s : State) (k : SheetKind) (inst b off : Nat) : Option (Nat × State) :=
  match k with
  | .hp => s.hpReadSpecial off
  | .fz => s.fzReadSpecial off
  | .tb => s.tbReadSpecial off
  | .pt => if off = 0x50 then some (s.plateCapture inst) else none
  | .mb => if off = 0x40 then some s.mbSeqEffect else none
  | .mac => if off = 0x7C then some (s.txtsPopEffect inst) else none
  | .gc => if 0x60 ≤ off ∧ off < 0x70 then some (s.pcRead inst ((off - 0x60) / 4)) else none
  | .cnt => if 0x40 ≤ off then some (s.counterRead b off) else none
  | _ => none

/-- A read of a sheet (R7, R10, R53). -/
def State.sheetRead (s : State) (k : SheetKind) (inst b off : Nat) : Nat × State :=
  if off < 0x40 then (s.titleWord k inst b off, s)
  else match s.specialRead k inst b off with
    | some r => r
    | none => match s.wholeWord k inst off with
      | some w => (w, s)
      | none => (s.viewWord b k.rows (s.viewsOf k inst) off, (s.clearOnRead b k.rows off).restartPeaks k inst off)

/-- R366, R363: a read of a queue descriptor word: QD_STATS clears the drops, which the older rule keeps, and the peak restarts. -/
def State.queueDescRead (s : State) (p q off : Nat) : Nat × State :=
  let w := s.queueDescWord p q off
  if off = 12 then
    let t := if s.isSet (qgB p) Title.compatPrev then s else s.wr (qdB p q) Reg.qdStatsDrops 0
    (w, t.wr (qdB p q) Reg.qdStatsPeakCells (s.queueCells p q))
  else (w, s)

/-- What an aligned 32-bit read by function `fn` of PF BAR0 address `a` returns and does once it has reached its target. -/
def State.readEffect (s : State) (fn a : Nat) : Nat × State :=
  match regionAt a with
  | .sheet k i b => s.sheetRead k i b (a - b)
  | .mbData o => (s.mailboxWord o, s)
  | .descriptor g o => (s.viewWord (chB g) descriptorRows (s.chViews g) o, s.clearOnRead (chB g) descriptorRows o)
  | .queueCount p q => (if fn = 0 ∨ s.seesQueue (fn - 1) q then s.queueCountWord p q else 0, s)
  | .queueDesc p q o => s.queueDescRead p q o
  | .hatch p i => (s.hatchWord p (i / 4096) (i % 4096), s)
  | .none => (0, s)

end Sys2Proof.Machine
end

