-- ==== Sys2Proof/Machine/RegisterAccess.lean ====
section
/-! DEFINITION. The generic register accesses: a host write of a register (R10, R54), a read that clears (R10), the low word
of a 48-bit counter (R11), and a request that breaks natural alignment (R6, R104). A write is taken where it arrives: in the
title block, in a register whose write has an effect of its own, or field by field. -/

namespace Sys2Proof.Machine

/-! ### Sheets -/

/-- A write of the HOST_STATE of a traced sheet (R51, R73), by the sheet's own rule. -/
def State.intentWrite (s : State) (fn : Nat) (k : SheetKind) (inst data : Nat) : State :=
  match k with
  | .hp => s.hostPortIntent fn data
  | .tb => s.tbIntent fn data
  | .fe => s.feIntent fn data
  | .qm => s.quietIntent fn data
  | .ek => s.epkIntent fn data
  | .plate => s.plateIntent fn inst data
  | .gc => s.clusterIntent fn inst data
  | .dma => s.dmaIntent fn inst data
  | .mac => s.macIntent fn inst data
  | .hs => s.hsIntent fn inst data
  | .th => s.thIntent fn inst data
  | .pt => s.tkIntent fn inst data
  | .ten => s.tenantIntent fn inst data
  | .site | .dir | .cr | .lc | .hm | .pa | .fz | .si | .wd | .mb | .ps | .qmgr | .sh | .cnt => s

/-- A write of a title block register (R48-R81); the read-only ones ignore it. -/
def State.titleWrite (s : State) (fn : Nat) (k : SheetKind) (inst b off data : Nat) : State :=
  match off with
  | 0x8 => s.compatPrevEffect fn b (bitAt data 0)
  | 0x10 => s.clearEvents b data
  | 0x14 => s.eventEnableEffect b data
  | 0x18 => s.lockWriteEffect fn b (bitsOf data 0 8) (bitAt data 8)
  | 0x20 => s.intentWrite fn k inst data
  | 0x24 => if bitAt data 1 then s.acceptPathEffect fn b else s
  | _ => s

/-- R122: ones written to half `hi` of HP_NOTE clear their bits. -/
def State.clearNotes (s : State) (hi data : Nat) : State :=
  { s with notes := s.notes - (s.notes &&& (data <<< (32 * hi))) }

/-- R584: FZ_SEL takes the ID of a master; any other value stores 0. -/
def State.selWrite (s : State) (data : Nat) : State :=
  s.wr fzB Reg.fzSelMaster (if isMaster (data % 256) then data % 256 else 0)

/-- R650, R637: a word of the tenant key store; writes are dropped in RETURNED and once the store is shut. -/
def State.keyWrite (s : State) (fn i data : Nat) : State :=
  if s.life.keysShut || s.fuses.lc == 3 then s else s.storeField fn lcB Reg.lcTkeyWord i data

/-- R127: `pages` is held to the largest value that keeps the window's end at or below 2⁶⁴. -/
def State.winSizeWrite (s : State) (fn t data : Nat) : State :=
  s.storeField fn (tenB t) Reg.tenWinSizePages 0 (min (data % 2 ^ 24) ((2 ^ 64 - s.winBase t) / 4096))

/-- TB_PRI (R474): the priorities, the forced source and the SyncE port; another port has to qualify anew. -/
def State.tbPriWrite (s : State) (fn data : Nat) : State :=
  let t := s.storeWord fn tbB Reg.tbRows 0x44 data
  let u := if t.rd tbB Reg.tbPriSyncePort = s.rd tbB Reg.tbPriSyncePort then t else t.dropFreq 2
  u.tbReselect

/-- TB_PTP_CFG (R469): `ptp_ok` = 0 disqualifies source 1; 1 qualifies it where the measurements do. -/
def State.ptpCfgWrite (s : State) (fn data : Nat) : State :=
  let t := s.storeWord fn tbB Reg.tbRows 0x60 data
  if !t.isSet tbB Reg.tbPtpCfgPtpOk then t.setQualified 1 false else if t.ptpReady then t.setQualified 1 true else t

/-- TB_FREQ_CFG (R469): `synce_ok` = 0 disqualifies source 2 at once. -/
def State.freqCfgWrite (s : State) (fn data : Nat) : State :=
  let t := s.storeWord fn tbB Reg.tbRows 0x70 data
  if t.isSet tbB Reg.tbFreqCfgSynceOk then t else t.dropFreq 2

/-- HB_* (R417): the registers of bank `i` are written only while it is neither active nor about to be. -/
def State.bankWrite (s : State) (fn p off data : Nat) : State :=
  if s.bankFree p ((off - 0x50) / 16) then s.storeWord fn (hsB p) Reg.hsRows off data else s

/-- Writes with an effect of their own on the host port sheet (R122). -/
def State.hpWriteSpecial (s : State) (off data : Nat) : Option State :=
  match off with
  | 0x64 => some (s.clearNotes 0 data)
  | 0x68 => some (s.clearNotes 1 data)
  | _ => none

/-- Writes with an effect of their own on the clocks and resets sheet (R130, R166). -/
def State.crWriteSpecial (s : State) (fn off data : Nat) : Option State :=
  match off with
  | 0x50 => some (s.treePreferEffect fn (bitsOf data 0 2))
  | 0x54 => some (s.resetRequestEffect fn data)
  | _ => none

/-- Writes with an effect of their own on the life-cycle sheet (R630-R641). -/
def State.lcWriteSpecial (s : State) (fn off data : Nat) : Option State :=
  match off with
  | 0x54 => some (s.reqWordEffect fn data)
  | 0x60 => some (s.fuseCmdEffect fn data)
  | 0x84 => some (if bitAt data 0 then s.rtmGoEffect fn else s)
  | o =>
    if 0x100 ≤ o ∧ o < 0x180 then some (s.rtmImageEffect fn ((o - 0x100) / 4) data)
    else if 0x800 ≤ o ∧ o < 0xC00 then some (s.keyWrite fn ((o - 0x800) / 4) data)
    else none

/-- TB_CTRL (R491): PPS_OUT goes low where it may not pulse any more. -/
def State.tbCtrlWrite (s : State) (fn data : Nat) : State := (s.storeWord fn tbB Reg.tbRows 0x40 data).ppsOutCut

/-- Writes with an effect of their own on the timebase sheet (R467-R491). -/
def State.tbWriteSpecial (s : State) (fn off data : Nat) : Option State :=
  match off with
  | 0x40 => some (s.tbCtrlWrite fn data)
  | 0x44 => some (s.tbPriWrite fn data)
  | 0x60 => some (s.ptpCfgWrite fn data)
  | 0x68 => some (s.ptpWrite data)
  | 0x70 => some (s.freqCfgWrite fn data)
  | 0x74 => some (s.extFreq data)
  | 0x78 => some (s.extState fn data)
  | 0x8C => some (s.timeSet fn data)
  | 0x94 => some (s.todArm fn data)
  | _ => none

/-- Writes with an effect of their own on the holdover model sheet (R489). -/
def State.hmWriteSpecial (s : State) (fn off data : Nat) : Option State :=
  match off with
  | 0x78 => some (s.modelCmd fn data)
  | _ => none

/-- Writes with an effect of their own on the front end sheet (R519-R526). -/
def State.feWriteSpecial (s : State) (fn off data : Nat) : Option State :=
  match off with
  | 0x40 => some (s.feCtrlEffect fn data)
  | 0x44 => some (s.feLoadEffect fn data)
  | 0x78 => some (s.efcManualEffect fn data)
  | _ => none

/-- Writes with an effect of their own on the power arbiter sheet (R653). -/
def State.paWriteSpecial (s : State) (fn off data : Nat) : Option State :=
  match off with
  | 0x40 => some (s.ceilingEffect fn data)
  | _ => none

/-- Writes with an effect of their own on the quiet mode sheet (R669). -/
def State.qmWriteSpecial (s : State) (off data : Nat) : Option State :=
  match off with
  | 0x5C => some (s.requestWake wakeHost (bitsOf data 0 8))
  | _ => none

/-- Writes with an effect of their own on the freeze sheet (R584-R587). -/
def State.fzWriteSpecial (s : State) (fn off data : Nat) : Option State :=
  match off with
  | 0x40 => some (s.selWrite data)
  | 0x60 => some (s.unfreezeEffect fn data)
  | _ => none

/-- Writes with an effect of their own on the Epkuone sheet (R719-R736). -/
def State.ekWriteSpecial (s : State) (fn off data : Nat) : Option State :=
  match off with
  | 0x40 => some ((s.storeWord fn ekB Reg.ekRows 0x40 data).refreshLanes)
  | 0xD8 => some (s.agentReset fn data)
  | o =>
    if 0x80 ≤ o ∧ o < 0xC0 then
      some (if o % 8 = 0 then s.ekPlateEffect fn ((o - 0x80) / 8) data
        else if bitAt data 1 then s.pairAccept fn ((o - 0x80) / 8) else s)
    else none

/-- Writes with an effect of their own on the watchdog sheet (R603-R620). -/
def State.wdWriteSpecial (s : State) (fn inst off data : Nat) : Option State :=
  match off with
  | 0x40 => some (s.wdCtrlEffect fn inst data)
  | 0x44 => some (s.wdConfigEffect fn inst 0x44 data)
  | 0x48 => some (s.wdKeyEffect inst data)
  | 0x50 => some (s.wdService inst (data % 65536))
  | 0x5C => some (s.wdHoldEffect fn inst (bitAt data 0))
  | 0x80 => some (if bitAt data 31 then s.wdClearEvidence inst else s)
  | _ => none

/-- Writes with an effect of their own on the graver cluster sheet (R200). -/
def State.gcWriteSpecial (s : State) (fn inst off data : Nat) : Option State :=
  match off with
  | 0x48 => some (s.debugHalt fn inst data)
  | _ => none

/-- Writes with an effect of their own on the plate store sheet (R184). -/
def State.psWriteSpecial (s : State) (fn inst off data : Nat) : Option State :=
  match off with
  | 0x40 => some (s.burnishWrite fn inst data)
  | _ => none

/-- Writes with an effect of their own on the queue manager sheet: a new floor may start or stop PAUSE frames (R388). -/
def State.qgWriteSpecial (s : State) (fn inst off data : Nat) : Option State :=
  match off with
  | 0x44 => some ((s.storeWord fn (qgB inst) SheetKind.qmgr.rows off data).pauseCheck inst)
  | _ => none

/-- Writes with an effect of their own on the frame MAC sheet: a new `flap_grace` applies at once (R377), and a new MAC_PAUSE
to PAUSE frames (R388). -/
def State.macWriteSpecial (s : State) (fn inst off data : Nat) : Option State :=
  match off with
  | 0x54 => some ((s.storeWord fn (macB inst) SheetKind.mac.rows off data).graceEnd inst)
  | 0x58 => some ((s.storeWord fn (macB inst) SheetKind.mac.rows off data).pauseCheck inst)
  | _ => none

/-- Writes with an effect of their own on the hatch scheduler sheet (R417, R429). -/
def State.hsWriteSpecial (s : State) (fn inst off data : Nat) : Option State :=
  match off with
  | 0x70 => some (s.swapEffect fn inst data)
  | o => if 0x50 ≤ o ∧ o < 0x70 then some (s.bankWrite fn inst o data) else none

/-- Writes with an effect of their own on the shaper sheet (R428). -/
def State.shWriteSpecial (s : State) (fn inst off data : Nat) : Option State :=
  match off with
  | 0xA0 => some (s.shaperReset fn inst data)
  | _ => none

/-- Writes with an effect of their own on the tenant sheet (R123-R126). -/
def State.tenWriteSpecial (s : State) (fn inst off data : Nat) : Option State :=
  match off with
  | 0x4C => some (s.winSizeWrite fn inst data)
  | 0x50 => some (s.dmaEnableEffect fn inst data)
  | 0x58 => some (if fn = 0 then s.pfNoteEffect inst data else s)
  | 0x5C => some (if fn = inst + 1 then s.vfNoteEffect inst data else s)
  | _ => none

/-- Writes with an effect of their own on the TDM highway sheet: a new `loop` (R457). -/
def State.thWriteSpecial (s : State) (fn inst off data : Nat) : Option State :=
  match off with
  | 0x40 => some ((s.storeWord fn (thB inst) SheetKind.th.rows off data).noteLoop inst)
  | _ => none

/-- The registers of a sheet whose write has an effect of its own. -/
def State.specialWrite (s : State) (fn : Nat) (k : SheetKind) (inst off data : Nat) : Option State :=
  match k with
  | .hp => s.hpWriteSpecial off data
  | .cr => s.crWriteSpecial fn off data
  | .lc => s.lcWriteSpecial fn off data
  | .tb => s.tbWriteSpecial fn off data
  | .hm => s.hmWriteSpecial fn off data
  | .fe => s.feWriteSpecial fn off data
  | .pa => s.paWriteSpecial fn off data
  | .qm => s.qmWriteSpecial off data
  | .fz => s.fzWriteSpecial fn off data
  | .ek => s.ekWriteSpecial fn off data
  | .wd => s.wdWriteSpecial fn inst off data
  | .gc => s.gcWriteSpecial fn inst off data
  | .ps => s.psWriteSpecial fn inst off data
  | .qmgr => s.qgWriteSpecial fn inst off data
  | .mac => s.macWriteSpecial fn inst off data
  | .hs => s.hsWriteSpecial fn inst off data
  | .sh => s.shWriteSpecial fn inst off data
  | .ten => s.tenWriteSpecial fn inst off data
  | .th => s.thWriteSpecial fn inst off data
  | _ => none

/-- A write of a sheet (R10, R54). -/
def State.sheetWrite (s : State) (fn : Nat) (k : SheetKind) (inst b off data : Nat) : State :=
  if off < 0x40 then s.titleWrite fn k inst b off data
  else match s.specialWrite fn k inst off data with
    | some t => t
    | none => s.storeWord fn b k.rows off data

/-- A write of a channel descriptor (R211-R213, R264, R295, R303, R338): CH_EVENT_EN, and the commands, act as their own. -/
def State.descriptorWrite (s : State) (fn g off data : Nat) : State :=
  match off with
  | 0x0 => s.chOwnerEffect fn g data
  | 0x4 => s.chIntentEffect fn g data
  | 0x14 => s.chEnable g (data % 65536)
  | 0x18 => if bitAt data 1 then s.chAccept g else s
  | 0xB0 => s.evSendEffect g data
  | 0xFC => s.tgEffect fn g data
  | 0x110 => s.ecCommand g data
  | 0x150 => s.jbCommand g data
  | _ => s.storeWord fn (chB g) descriptorRows off data

/-- What an aligned 32-bit write by function `fn` to PF BAR0 address `a` does once it has reached its target. -/
def State.writeEffect (s : State) (fn a data : Nat) : State :=
  match regionAt a with
  | .sheet k i b => s.sheetWrite fn k i b (a - b) data
  | .descriptor g o => s.descriptorWrite fn g o data
  | .queueDesc p q 4 => s.queueOwnerEffect p q data
  | .queueDesc p q 8 => (s.queueCtrlEffect p q data).pauseCheck p
  | .hatch p i => s.hatchWrite p i data
  | .queueDesc _ _ _ | .queueCount _ _ | .mbData _ | .none => s

/-! ### BAR0 (R37, R43, R105) -/

/-- Size of the function's BAR0. -/
def barSize (fn : Nat) : Nat := if fn = 0 then 0x4000000 else 0x40000

/-- The PF BAR0 address that offset `off` of the function's BAR0 means; none where it is unassigned. -/
def barAddr (fn off : Nat) : Option Nat := if fn = 0 then some off else vfAddr (fn - 1) off

/-- An aligned 32-bit write to the function's BAR0. -/
def State.bar0Write (s : State) (fn off data : Nat) : State :=
  if barSize fn ≤ off then (if s.linkUp then s.refuseRequest fn false else s)
  else s.writeAt fn (barAddr fn off) (fun t => t.writeEffect fn ((barAddr fn off).getD 0) data)

/-- R41: while a plate that is enabled by fuse is powered down or in reset, SHEET_ID and STATE of its sheets answer from the
chip-side shadow. -/
def State.shadowWord (s : State) (oa : Option Nat) : Nat :=
  match oa with
  | none => 0
  | some a => match regionAt a, plateOfAddr a with
    | .sheet k i b, some p =>
      if s.plateEnabled p && !s.plateOut p && (a == b || a == b + 0xC) then s.titleWord k i b (a - b) else 0
    | _, _ => 0

/-- An aligned 32-bit read of the function's BAR0. -/
def State.bar0Read (s : State) (fn off : Nat) : State :=
  if barSize fn ≤ off then (if s.linkUp then s.refuseRequest fn true else s)
  else match s.gate fn (barAddr fn off) false with
    | .ignored => (s.countAccess fn).answer fn (s.shadowWord (barAddr fn off))
    | _ => s.readAt fn (barAddr fn off) (fun t => t.readEffect fn ((barAddr fn off).getD 0))

/-! ### The commands -/

/-- REGISTER_WRITE (R10): an aligned 32-bit write; one that is not aligned is the command MISALIGNED_MMIO_ACCESS. -/
def execRegisterWrite (fn : Fin 65) (sp : Space) (off : Nat) (data : Word) (s : State) : Host.Outcome State Fault Refusal :=
  .next (if off % 4 = 0 then match sp with
      | .bar0 => s.bar0Write fn off data.toNat
      | .bar2 => s.bar2Write fn off data.toNat
      | .cfg => s.cfgWrite fn off data.toNat
    else s)

/-- READ_CLEAR (R10): an aligned 32-bit read of the function's BAR0, with what its fields do when they are read; or of its BAR2
or configuration space, whose reads clear nothing. -/
def execReadClear (fn : Fin 65) (sp : Space) (off : Nat) (s : State) : Host.Outcome State Fault Refusal :=
  .next (if off % 4 = 0 then match sp with
      | .bar0 => s.bar0Read fn off
      | .bar2 => s.bar2Read fn off
      | .cfg => s.cfgRead fn off
    else s)

/-- R103: the read completes with ones, counted and announced; whether its target still does what a read of it does, so late that
its answer is discarded, is a free value (log entry 7). -/
def State.readTimesOut (s : State) (fn off : Nat) : State :=
  let d := (s.countAccess fn).drawBool
  let t := if d.1 then (d.2.readEffect fn ((barAddr fn off).getD 0)).2 else d.2
  ((t.answer fn 0xFFFFFFFF).bump hpB Reg.hpCntAMmioTimeout).raise hpB 3

/-- MMIO_READ_TIMEOUT (R103): only a read that reaches its target can go unanswered. -/
def execMmioReadTimeout (fn : Fin 65) (off : Nat) (s : State) : Host.Outcome State Fault Refusal :=
  .next (if off % 4 ≠ 0 || decide (barSize fn ≤ off) then s
    else match s.gate fn (barAddr fn off) false with
      | .go _ => s.readTimesOut fn off
      | .unreachable | .unsupported | .ignored | .frozen | .dropped | .slot => s)

/-- Is offset `off` of the function's BAR0 the low word of a 48-bit counter (R11, R411)? -/
def isCounterLow (fn off : Nat) : Bool :=
  match (barAddr fn off).map regionAt with
  | some (.sheet .cnt _ _) => 0x40 ≤ off % 0x1000 && off % 0x1000 < 0x40 + 8 * 22 && off % 8 == 0
  | _ => false

/-- COUNTER48_LOW_READ (R11). -/
def execCounter48LowRead (fn : Fin 65) (off : Nat) (s : State) : Host.Outcome State Fault Refusal :=
  .next (if isCounterLow fn off then s.bar0Read fn off else s)

/-! ### Misaligned requests (R6, R104) -/

/-- Is the request other than one aligned doubleword with all its bytes? -/
def misaligned (off : Nat) (be : BitVec 4) (dws : Nat) : Bool := off % 4 != 0 || be != 0xF || dws != 1

/-- Is something assigned at PF BAR0 address `a` (R38)? -/
def isAssigned (a : Nat) : Bool := match regionAt a with | .none => false | _ => true

/-- The read completion of a misaligned request, or an unassigned one: `w` in every requested doubleword (R104). -/
def State.answerAll (s : State) (fn w dws : Nat) : State := forUpTo dws (fun _ t => t.answer fn w) s

/-- R104, R583: the violation of a misaligned request, which R116 and R580 then show to the master as they do every request. -/
def State.misalignedHit (s : State) (fn bar off : Nat) (be : BitVec 4) (dws : Nat) (write : Bool) (plate : Option Nat) : State :=
  let t := (s.countAccess fn).violate (masterOfFn fn) vAccess (b2n write) plate off (mmioHi bar be.toNat dws)
  if write then t else t.answerAll fn 0xFFFFFFFF dws

/-- A misaligned request to the function's BAR0 at a place that means PF BAR0 address `a`: where the place is not there, or
its plate does not answer, there is no violation (R29, R38, R41, R93); a write that R124 drops is dropped, but not one to a
descriptor slot that the tenant does not own, which counts as an access and not as a slot violation (log entry 96). The place of the first
doubleword decides for all of the request (log entry 95). -/
def State.misalignedBar0 (s : State) (fn off a : Nat) (be : BitVec 4) (dws : Nat) (write : Bool) : State :=
  let gone := match storagePlate a with
    | some p => !s.plateEnabled p || !s.plateOut p
    | none => false
  let foreign := match regionAt a with
    | .descriptor g _ => !s.ownsChannel (fn - 1) g
    | _ => false
  if !isAssigned a || gone then (if write then s.countAccess fn else (s.countAccess fn).answerAll fn 0 dws)
  else if write && fn != 0 && s.tenantOff (fn - 1) && !foreign && !(tenB (fn - 1) + 0x18 ≤ a && a < tenB (fn - 1) + 0x1C) then s
  else s.misalignedHit fn 0 off be dws write (if fn = 0 then plateOfAddr a else some ((fn - 1) / 8))

/-- A misaligned request of function `fn` (R104), after the reasons for Unsupported Request (R105), a plate disabled by fuse
(R93) and a frozen master (R116, R580). -/
def State.misalignedAccess (s : State) (fn bar off : Nat) (be : BitVec 4) (dws : Nat) (write : Bool) : State :=
  let size := if bar = 0 then barSize fn else if bar = 2 then 0x4000 else 0
  if !misaligned off be dws || !s.linkUp then s
  else if !s.fnAnswers fn || decide (size ≤ off) then s.refuseRequest fn (!write)
  else if fn != 0 && !s.plateEnabled ((fn - 1) / 8) then (if write then s else s.answerAll fn 0 dws)
  else if s.isFrozen (masterOfFn fn) then
    (if write then s.countAccess fn else (s.countAccess fn).answerAll fn 0xFFFFFFFF dws)
  else if bar = 2 then
    (if off < 16 * vectorsOf fn || (0x2000 ≤ off && off < 0x2008) then
      s.misalignedHit fn bar off be dws write (if fn = 0 then none else some ((fn - 1) / 8))
    else if write then s else s.answerAll fn 0 dws)
  else match barAddr fn (off - off % 4) with
    | none => if write then s else s.answerAll fn 0 dws
    | some a => s.misalignedBar0 fn off a be dws write

/-- MISALIGNED_MMIO_ACCESS (R104). -/
def execMisalignedMmioAccess (fn : Fin 65) (bar : Fin 6) (off : Nat) (be : BitVec 4) (dws : Nat) (write : Bool) (s : State) :
    Host.Outcome State Fault Refusal :=
  .next (s.misalignedAccess fn bar off be dws write)

end Sys2Proof.Machine
end

