-- ==== Sys2Proof/Machine/Dispatch.lean ====
section
/-! DEFINITION. exec: one arm per command, each one direct call of its meaning. -/

namespace Sys2Proof.Machine

/-- The effect of a command on everything but the queue. -/
def exec (i : Instr) (s : State) : Host.Outcome State Fault Refusal :=
  match i with
  | .registerWrite fn sp off data => Sys2Proof.Machine.execRegisterWrite fn sp off data s
  | .readClear fn sp off => Sys2Proof.Machine.execReadClear fn sp off s
  | .counter48LowRead fn off => Sys2Proof.Machine.execCounter48LowRead fn off s
  | .misalignedMmioAccess fn bar off be dws write => Sys2Proof.Machine.execMisalignedMmioAccess fn bar off be dws write s
  | .eventEnableWrite fn sheet data => Sys2Proof.Machine.execEventEnableWrite fn sheet data s
  | .lockClaim fn sheet claim => Sys2Proof.Machine.execLockClaim fn sheet claim s
  | .lockRelease fn sheet => Sys2Proof.Machine.execLockRelease fn sheet s
  | .lockBrokenClear fn sheet claim => Sys2Proof.Machine.execLockBrokenClear fn sheet claim s
  | .lockOverrun sheet => Sys2Proof.Machine.execLockOverrun sheet s
  | .traceSample sheet => Sys2Proof.Machine.execTraceSample sheet s
  | .acceptPathWrite fn sheet => Sys2Proof.Machine.execAcceptPathWrite fn sheet s
  | .compatPrevWrite fn sheet prev => Sys2Proof.Machine.execCompatPrevWrite fn sheet prev s
  | .hostPortHostStateWrite fn data => Sys2Proof.Machine.execHostPortHostStateWrite fn data s
  | .tenantHostStateWrite fn t data => Sys2Proof.Machine.execTenantHostStateWrite fn t data s
  | .numvfsWrite n => Sys2Proof.Machine.execNumvfsWrite n s
  | .vfFlr t => Sys2Proof.Machine.execVfFlr t s
  | .flrDrainComplete fn => Sys2Proof.Machine.execFlrDrainComplete fn s
  | .flrComplete fn => Sys2Proof.Machine.execFlrComplete fn s
  | .dmaReadCompletion t idx off data => Sys2Proof.Machine.execDmaReadCompletion t idx off data s
  | .completionTimeout t idx => Sys2Proof.Machine.execCompletionTimeout t idx s
  | .mmioReadTimeout fn off => Sys2Proof.Machine.execMmioReadTimeout fn off s
  | .poisonedTlpReceived tlp => Sys2Proof.Machine.execPoisonedTlpReceived tlp s
  | .ecrcError tlp => Sys2Proof.Machine.execEcrcError tlp s
  | .malformedTlp overflow => Sys2Proof.Machine.execMalformedTlp overflow s
  | .linkTrained width speed => Sys2Proof.Machine.execLinkTrained width speed s
  | .msixUnmask fn vec => Sys2Proof.Machine.execMsixUnmask fn vec s
  | .vfNoteWrite t note => Sys2Proof.Machine.execVfNoteWrite t note s
  | .pfNoteWrite t note => Sys2Proof.Machine.execPfNoteWrite t note s
  | .hpPairLoRead fn pair => Sys2Proof.Machine.execHpPairLoRead fn pair s
  | .treePreferWrite fn prefer => Sys2Proof.Machine.execTreePreferWrite fn prefer s
  | .treeSourceReturn src => Sys2Proof.Machine.execTreeSourceReturn src s
  | .timebasePllSourceReturn src => Sys2Proof.Machine.execTimebasePllSourceReturn src s
  | .platePllUnlock p ns => Sys2Proof.Machine.execPlatePllUnlock p ns s
  | .porNRelease straps => Sys2Proof.Machine.execPorNRelease straps s
  | .vddAonRecovered straps => Sys2Proof.Machine.execVddAonRecovered straps s
  | .chipResetRequest fn data => Sys2Proof.Machine.execChipResetRequest fn data s
  | .plateResetRequest fn data => Sys2Proof.Machine.execPlateResetRequest fn data s
  | .chipResetRelease suppliesOk => Sys2Proof.Machine.execChipResetRelease suppliesOk s
  | .plateWakeSlot p => Sys2Proof.Machine.execPlateWakeSlot p s
  | .platePllLock p => Sys2Proof.Machine.execPlatePllLock p s
  | .plateStoreInitDone p => Sys2Proof.Machine.execPlateStoreInitDone p s
  | .plateKernelInitDone p fault => Sys2Proof.Machine.execPlateKernelInitDone p fault s
  | .bootBundleReadDone readOk header payload => Sys2Proof.Machine.execBootBundleReadDone readOk header payload s
  | .frameTick p media fault => Sys2Proof.Machine.execFrameTick p media fault s
  | .graverOverrun p v ch => Sys2Proof.Machine.execGraverOverrun p v ch s
  | .burnishRead p flips => Sys2Proof.Machine.execBurnishRead p flips s
  | .plateHostStateWrite fn p data => Sys2Proof.Machine.execPlateHostStateWrite fn p data s
  | .plateStopComplete p => Sys2Proof.Machine.execPlateStopComplete p s
  | .baseGrantRetry p => Sys2Proof.Machine.execBaseGrantRetry p s
  | .graverClusterHostStateWrite fn p data => Sys2Proof.Machine.execGraverClusterHostStateWrite fn p data s
  | .graverDebugHaltWrite fn p data => Sys2Proof.Machine.execGraverDebugHaltWrite fn p data s
  | .dmaHostStateWrite fn p data => Sys2Proof.Machine.execDmaHostStateWrite fn p data s
  | .dmaEnableWrite fn t data => Sys2Proof.Machine.execDmaEnableWrite fn t data s
  | .dmaRingPoll t header => Sys2Proof.Machine.execDmaRingPoll t header s
  | .dmaDescriptorRead t desc => Sys2Proof.Machine.execDmaDescriptorRead t desc s
  | .dmaOperationStart p => Sys2Proof.Machine.execDmaOperationStart p s
  | .dmaStatusWrite t => Sys2Proof.Machine.execDmaStatusWrite t s
  | .chIntentWrite fn g data => Sys2Proof.Machine.execChIntentWrite fn g data s
  | .chOwnerWrite fn g data => Sys2Proof.Machine.execChOwnerWrite fn g data s
  | .wakeTimeout g => Sys2Proof.Machine.execWakeTimeout g s
  | .channelTraceSample g => Sys2Proof.Machine.execChannelTraceSample g s
  | .channelAcceptPath fn g => Sys2Proof.Machine.execChannelAcceptPath fn g s
  | .ecFastTimeout g => Sys2Proof.Machine.execEcFastTimeout g s
  | .ecResetCoef fn g => Sys2Proof.Machine.execEcResetCoef fn g s
  | .ecTdForce fn g => Sys2Proof.Machine.execEcTdForce fn g s
  | .ecTdRelease fn g => Sys2Proof.Machine.execEcTdRelease fn g s
  | .ecFastRetry p => Sys2Proof.Machine.execEcFastRetry p s
  | .doubleTalkHangEnd g => Sys2Proof.Machine.execDoubleTalkHangEnd g s
  | .toneDisablerRelease g => Sys2Proof.Machine.execToneDisablerRelease g s
  | .rtcpSend g => Sys2Proof.Machine.execRtcpSend g s
  | .eventSendWrite fn g data => Sys2Proof.Machine.execEventSendWrite fn g data s
  | .eventUpdateSend g => Sys2Proof.Machine.execEventUpdateSend g s
  | .eventEndSend g => Sys2Proof.Machine.execEventEndSend g s
  | .eventPlayTimeout g => Sys2Proof.Machine.execEventPlayTimeout g s
  | .toneGenCommand fn g data => Sys2Proof.Machine.execToneGenCommand fn g data s
  | .jitterSecondUpdate g => Sys2Proof.Machine.execJitterSecondUpdate g s
  | .jbResyncCommand fn g => Sys2Proof.Machine.execJbResyncCommand fn g s
  | .dfResetCommand fn g => Sys2Proof.Machine.execDfResetCommand fn g s
  | .queueFlush fn p q => Sys2Proof.Machine.execQueueFlush fn p q s
  | .queueOwnerWrite fn p q data => Sys2Proof.Machine.execQueueOwnerWrite fn p q data s
  | .steeringRelay p q => Sys2Proof.Machine.execSteeringRelay p q s
  | .macHostStateWrite fn p data => Sys2Proof.Machine.execMacHostStateWrite fn p data s
  | .moduleAbsent p high => Sys2Proof.Machine.execModuleAbsent p high s
  | .moduleTxFault p high ns => Sys2Proof.Machine.execModuleTxFault p high ns s
  | .linkUpDeclare p speed heldNs => Sys2Proof.Machine.execLinkUpDeclare p speed heldNs s
  | .linkDownDeclare p remote => Sys2Proof.Machine.execLinkDownDeclare p remote s
  | .flapGraceExpire p => Sys2Proof.Machine.execFlapGraceExpire p s
  | .txEntryExpire p q => Sys2Proof.Machine.execTxEntryExpire p q s
  | .frameFirstByte p head => Sys2Proof.Machine.execFrameFirstByte p head s
  | .frameReceived p bytes align fcsOk => Sys2Proof.Machine.execFrameReceived p bytes align fcsOk s
  | .pauseFrameReceived p quanta => Sys2Proof.Machine.execPauseFrameReceived p quanta s
  | .pauseTimerExpire p => Sys2Proof.Machine.execPauseTimerExpire p s
  | .pauseGuardExpire p => Sys2Proof.Machine.execPauseGuardExpire p s
  | .pauseHoldEnd p => Sys2Proof.Machine.execPauseHoldEnd p s
  | .pauseTxRepeat p => Sys2Proof.Machine.execPauseTxRepeat p s
  | .transmitChoice p => Sys2Proof.Machine.execTransmitChoice p s
  | .transmitEnd p => Sys2Proof.Machine.execTransmitEnd p s
  | .txUnderrun p sent => Sys2Proof.Machine.execTxUnderrun p sent s
  | .txtsPopRead fn p => Sys2Proof.Machine.execTxtsPopRead fn p s
  | .hatchHostStateWrite fn p data => Sys2Proof.Machine.execHatchHostStateWrite fn p data s
  | .hatchCycleBoundary p => Sys2Proof.Machine.execHatchCycleBoundary p s
  | .gateEdge p => Sys2Proof.Machine.execGateEdge p s
  | .refillTick p => Sys2Proof.Machine.execRefillTick p s
  | .hatchSwapGo fn p bank => Sys2Proof.Machine.execHatchSwapGo fn p bank s
  | .hatchSwapCancel fn p => Sys2Proof.Machine.execHatchSwapCancel fn p s
  | .shaperReset fn p data => Sys2Proof.Machine.execShaperReset fn p data s
  | .tdmHostStateWrite fn p data => Sys2Proof.Machine.execTdmHostStateWrite fn p data s
  | .elasticSlip p rx deleted => Sys2Proof.Machine.execElasticSlip p rx deleted s
  | .tdmClockLost p => Sys2Proof.Machine.execTdmClockLost p s
  | .tdmClockBack p => Sys2Proof.Machine.execTdmClockBack p s
  | .tdmFsError p => Sys2Proof.Machine.execTdmFsError p s
  | .tdmRealign p => Sys2Proof.Machine.execTdmRealign p s
  | .timebaseHostStateWrite fn data => Sys2Proof.Machine.execTimebaseHostStateWrite fn data s
  | .ppsEdge falling width => Sys2Proof.Machine.execPpsEdge falling width s
  | .ptpSubmit fn data => Sys2Proof.Machine.execPtpSubmit fn data s
  | .todNextArm fn data => Sys2Proof.Machine.execTodNextArm fn data s
  | .freqSourceSecond refIn samples => Sys2Proof.Machine.execFreqSourceSecond refIn samples s
  | .sourceQualifyTimer refIn => Sys2Proof.Machine.execSourceQualifyTimer refIn s
  | .timeSetGo fn data => Sys2Proof.Machine.execTimeSetGo fn data s
  | .extFreqWrite fn data => Sys2Proof.Machine.execExtFreqWrite fn data s
  | .extStateWrite fn data => Sys2Proof.Machine.execExtStateWrite fn data s
  | .modelReset fn => Sys2Proof.Machine.execModelReset fn s
  | .modelExport fn => Sys2Proof.Machine.execModelExport fn s
  | .modelImport fn => Sys2Proof.Machine.execModelImport fn s
  | .timeCaptureRead fn plate => Sys2Proof.Machine.execTimeCaptureRead fn plate s
  | .broadcastWord bad => Sys2Proof.Machine.execBroadcastWord bad s
  | .broadcastLoss p => Sys2Proof.Machine.execBroadcastLoss p s
  | .broadcastBack p => Sys2Proof.Machine.execBroadcastBack p s
  | .rejoinAdopt p => Sys2Proof.Machine.execRejoinAdopt p s
  | .timekeeperHostStateWrite fn p data => Sys2Proof.Machine.execTimekeeperHostStateWrite fn p data s
  | .frontEndHostStateWrite fn data => Sys2Proof.Machine.execFrontEndHostStateWrite fn data s
  | .frontEndReading th0 th1 die => Sys2Proof.Machine.execFrontEndReading th0 th1 die s
  | .frontEndRateSecond n => Sys2Proof.Machine.execFrontEndRateSecond n s
  | .coefLoadWrite fn data => Sys2Proof.Machine.execCoefLoadWrite fn data s
  | .efcRefMeasure mv => Sys2Proof.Machine.execEfcRefMeasure mv s
  | .efcManualWrite fn data => Sys2Proof.Machine.execEfcManualWrite fn data s
  | .islandInterval k current volts => Sys2Proof.Machine.execIslandInterval k current volts s
  | .islandWindowPublish arrives => Sys2Proof.Machine.execIslandWindowPublish arrives s
  | .islandTempReading k th die => Sys2Proof.Machine.execIslandTempReading k th die s
  | .fluxDriveLimit k limited => Sys2Proof.Machine.execFluxDriveLimit k limited s
  | .sealEnChange level => Sys2Proof.Machine.execSealEnChange level s
  | .uartReadParam item => Sys2Proof.Machine.execUartReadParam item s
  | .uartWriteParam item value nvmOk => Sys2Proof.Machine.execUartWriteParam item value nvmOk s
  | .uartCommit feed mask nvmOk => Sys2Proof.Machine.execUartCommit feed mask nvmOk s
  | .uartReadLog index => Sys2Proof.Machine.execUartReadLog index s
  | .uartStream feed period => Sys2Proof.Machine.execUartStream feed period s
  | .streamFeedSend k => Sys2Proof.Machine.execStreamFeedSend k s
  | .uartTpSet feed direction constant enable => Sys2Proof.Machine.execUartTpSet feed direction constant enable s
  | .uartReadFeed feed => Sys2Proof.Machine.execUartReadFeed feed s
  | .uartBadFrame bytes gap => Sys2Proof.Machine.execUartBadFrame bytes gap s
  | .vddIslLow reset holdUp => Sys2Proof.Machine.execVddIslLow reset holdUp s
  | .mbSeqRead fn => Sys2Proof.Machine.execMbSeqRead fn s
  | .unfreezeWrite fn data => Sys2Proof.Machine.execUnfreezeWrite fn data s
  | .freezeRecordRead fn sel => Sys2Proof.Machine.execFreezeRecordRead fn sel s
  | .drainOverrun master plate us => Sys2Proof.Machine.execDrainOverrun master plate us s
  | .watchdogService fn c data => Sys2Proof.Machine.execWatchdogService fn c data s
  | .watchdogExpiry c => Sys2Proof.Machine.execWatchdogExpiry c s
  | .watchdogStart fn c data => Sys2Proof.Machine.execWatchdogStart fn c data s
  | .watchdogKeyWrite fn c data => Sys2Proof.Machine.execWatchdogKeyWrite fn c data s
  | .watchdogDebugHold fn c => Sys2Proof.Machine.execWatchdogDebugHold fn c s
  | .watchdogDebugRelease fn c => Sys2Proof.Machine.execWatchdogDebugRelease fn c s
  | .watchdogWindowOpen c => Sys2Proof.Machine.execWatchdogWindowOpen c s
  | .watchdogWakeLatch c => Sys2Proof.Machine.execWatchdogWakeLatch c s
  | .evidenceClear fn c => Sys2Proof.Machine.execEvidenceClear fn c s
  | .tickMeasure ns => Sys2Proof.Machine.execTickMeasure ns s
  | .lifecycleRequestWord fn word => Sys2Proof.Machine.execLifecycleRequestWord fn word s
  | .transitionFuseDone ok => Sys2Proof.Machine.execTransitionFuseDone ok s
  | .rtmImageWrite fn w data => Sys2Proof.Machine.execRtmImageWrite fn w data s
  | .rtmVerifyGo fn => Sys2Proof.Machine.execRtmVerifyGo fn s
  | .fuseProgramCmd fn data => Sys2Proof.Machine.execFuseProgramCmd fn data s
  | .fuseProgramDone ok => Sys2Proof.Machine.execFuseProgramDone ok s
  | .extest cells => Sys2Proof.Machine.execExtest cells s
  | .samplePreload balls cells => Sys2Proof.Machine.execSamplePreload balls cells s
  | .makerTest code => Sys2Proof.Machine.execMakerTest code s
  | .debugHalt p g => Sys2Proof.Machine.execDebugHalt p g s
  | .debugResume p g => Sys2Proof.Machine.execDebugResume p g s
  | .debugSingleStep p g => Sys2Proof.Machine.execDebugSingleStep p g s
  | .debugAccess p g target write => Sys2Proof.Machine.execDebugAccess p g target write s
  | .laneGrantRetry epk port => Sys2Proof.Machine.execLaneGrantRetry epk port s
  | .quietLapse p => Sys2Proof.Machine.execQuietLapse p s
  | .quietHostStateWrite fn data => Sys2Proof.Machine.execQuietHostStateWrite fn data s
  | .wakeRequestWrite fn data => Sys2Proof.Machine.execWakeRequestWrite fn data s
  | .siteInSample input pin => Sys2Proof.Machine.execSiteInSample input pin s
  | .siteInStuck input => Sys2Proof.Machine.execSiteInStuck input s
  | .proposeReceived h round tc => Sys2Proof.Machine.execProposeReceived h round tc s
  | .voteReceived h round yes => Sys2Proof.Machine.execVoteReceived h round yes s
  | .commitReceived h round => Sys2Proof.Machine.execCommitReceived h round s
  | .abortReceived h round stamp => Sys2Proof.Machine.execAbortReceived h round stamp s
  | .epkHostStateWrite fn data => Sys2Proof.Machine.execEpkHostStateWrite fn data s
  | .laneBlockLock l => Sys2Proof.Machine.execLaneBlockLock l s
  | .helloSend l => Sys2Proof.Machine.execHelloSend l s
  | .helloReceived l peer device sid pairEn lane node => Sys2Proof.Machine.execHelloReceived l peer device sid pairEn lane node s
  | .laneTrainTimeout l => Sys2Proof.Machine.execLaneTrainTimeout l s
  | .laneLoss l blockLock => Sys2Proof.Machine.execLaneLoss l blockLock s
  | .epkBadFrame l => Sys2Proof.Machine.execEpkBadFrame l s
  | .markerReceived h time correction tbState source lastSeq held => Sys2Proof.Machine.execMarkerReceived h time correction tbState source lastSeq held s
  | .roleReceived h subtype plates => Sys2Proof.Machine.execRoleReceived h subtype plates s
  | .takeover p => Sys2Proof.Machine.execTakeover p s
  | .impressionGrantRetry p => Sys2Proof.Machine.execImpressionGrantRetry p s
  | .impressionEndReceived h number chans crcOk => Sys2Proof.Machine.execImpressionEndReceived h number chans crcOk s
  | .proofEndReceived h number whole chans => Sys2Proof.Machine.execProofEndReceived h number whole chans s
  | .ackReceived h number => Sys2Proof.Machine.execAckReceived h number s
  | .switchoverRequest fn p data => Sys2Proof.Machine.execSwitchoverRequest fn p data s
  | .pairTraceSample p => Sys2Proof.Machine.execPairTraceSample p s
  | .pairAcceptPath fn p => Sys2Proof.Machine.execPairAcceptPath fn p s
  | .stkReportReceived h charge => Sys2Proof.Machine.execStkReportReceived h charge s
  | .stkLeaseReceived h leases => Sys2Proof.Machine.execStkLeaseReceived h leases s
  | .wakeFrameReceived h plates stamp => Sys2Proof.Machine.execWakeFrameReceived h plates stamp s
  | .agentReset fn data => Sys2Proof.Machine.execAgentReset fn data s
  | .referencePresent src at25 => Sys2Proof.Machine.execReferencePresent src at25 s
  | .referenceAbsent src => Sys2Proof.Machine.execReferenceAbsent src s
  | .masterFsStart p => Sys2Proof.Machine.execMasterFsStart p s
  | .highwayFreqUpdate p ppb => Sys2Proof.Machine.execHighwayFreqUpdate p ppb s
  | .nodeAbsent n => Sys2Proof.Machine.execNodeAbsent n s
  | .vfEnableClear => Sys2Proof.Machine.execVfEnableClear s
  | .pfFlr => Sys2Proof.Machine.execPfFlr s
  | .d3hotEntry => Sys2Proof.Machine.execD3hotEntry s
  | .d0Return => Sys2Proof.Machine.execD0Return s
  | .linkProtocolError error => Sys2Proof.Machine.execLinkProtocolError error s
  | .linkDownReset => Sys2Proof.Machine.execLinkDownReset s
  | .hotResetReceived => Sys2Proof.Machine.execHotResetReceived s
  | .refclkLoss => Sys2Proof.Machine.execRefclkLoss s
  | .l1Exit => Sys2Proof.Machine.execL1Exit s
  | .treeSourceLoss => Sys2Proof.Machine.execTreeSourceLoss s
  | .timebasePllSourceLoss => Sys2Proof.Machine.execTimebasePllSourceLoss s
  | .timebasePllUnlock => Sys2Proof.Machine.execTimebasePllUnlock s
  | .porNAssert => Sys2Proof.Machine.execPorNAssert s
  | .vddAonLow => Sys2Proof.Machine.execVddAonLow s
  | .supplyDip => Sys2Proof.Machine.execSupplyDip s
  | .perstNAssert => Sys2Proof.Machine.execPerstNAssert s
  | .perstNRelease => Sys2Proof.Machine.execPerstNRelease s
  | .bootDone => Sys2Proof.Machine.execBootDone s
  | .arbiterAnswer => Sys2Proof.Machine.execArbiterAnswer s
  | .ppsPeriodFault => Sys2Proof.Machine.execPpsPeriodFault s
  | .ppsStuck => Sys2Proof.Machine.execPpsStuck s
  | .ptpSourceTimeout => Sys2Proof.Machine.execPtpSourceTimeout s
  | .wtrExpire => Sys2Proof.Machine.execWtrExpire s
  | .efcUpdate osc => Sys2Proof.Machine.execEfcUpdate osc s
  | .slewProfileEnd => Sys2Proof.Machine.execSlewProfileEnd s
  | .holdoverEval => Sys2Proof.Machine.execHoldoverEval s
  | .extTimeout => Sys2Proof.Machine.execExtTimeout s
  | .learnSample => Sys2Proof.Machine.execLearnSample s
  | .ppsOutPulse => Sys2Proof.Machine.execPpsOutPulse s
  | .excitationFault => Sys2Proof.Machine.execExcitationFault s
  | .excitationRetry => Sys2Proof.Machine.execExcitationRetry s
  | .testPulseEnd => Sys2Proof.Machine.execTestPulseEnd s
  | .uartIdent => Sys2Proof.Machine.execUartIdent s
  | .islandCheckpoint => Sys2Proof.Machine.execIslandCheckpoint s
  | .islPorNAssert => Sys2Proof.Machine.execIslPorNAssert s
  | .islandResetRelease => Sys2Proof.Machine.execIslandResetRelease s
  | .crystalFail => Sys2Proof.Machine.execCrystalFail s
  | .crystalResume => Sys2Proof.Machine.execCrystalResume s
  | .islandLost => Sys2Proof.Machine.execIslandLost s
  | .pfFreezeExpire => Sys2Proof.Machine.execPfFreezeExpire s
  | .lifecycleRequestTimeout => Sys2Proof.Machine.execLifecycleRequestTimeout s
  | .rtmVerifyDone => Sys2Proof.Machine.execRtmVerifyDone s
  | .trstNAssert => Sys2Proof.Machine.execTrstNAssert s
  | .idcode => Sys2Proof.Machine.execIdcode s
  | .clamp => Sys2Proof.Machine.execClamp s
  | .highz => Sys2Proof.Machine.execHighz s
  | .bypass => Sys2Proof.Machine.execBypass s
  | .debug => Sys2Proof.Machine.execDebug s
  | .votePropose => Sys2Proof.Machine.execVotePropose s
  | .voteWindowTimeout => Sys2Proof.Machine.execVoteWindowTimeout s
  | .commitWaitTimeout => Sys2Proof.Machine.execCommitWaitTimeout s
  | .commitInstant => Sys2Proof.Machine.execCommitInstant s
  | .markerSend => Sys2Proof.Machine.execMarkerSend s
  | .epkTimeSourceLoss => Sys2Proof.Machine.execEpkTimeSourceLoss s
  | .partnerLoss => Sys2Proof.Machine.execPartnerLoss s
  | .roleSend => Sys2Proof.Machine.execRoleSend s
  | .stkReportSend => Sys2Proof.Machine.execStkReportSend s
  | .aspmL1Entry => Sys2Proof.Machine.execAspmL1Entry s
  | .vfEnableSet => Sys2Proof.Machine.execVfEnableSet s
  | .bootPllLock => Sys2Proof.Machine.execBootPllLock s

end Sys2Proof.Machine
end

