-- ==== Sys2Proof/Safety.lean ====
section
/-! DEFINITION. What counts as a safe run, in the terms the statements use: the canonical forms of the stores, the fuses
that can only be blown, the invariant that every step keeps, and what a command may change at all. -/

namespace Sys2Proof.Machine

/-- Strictly rising, so without repeats. -/
def ascending : List Nat → Bool
  | [] => true
  | a :: r => (match r with | [] => true | b :: _ => decide (a < b)) && ascending r

/-- The hatch table memory (R413) is in its one canonical form: keys strictly rising, no entry equal to the word that an
unlisted key reads as. -/
def Memory.wf (m : Sparse Nat) : Bool := Sparse.wf m && m.all (fun e => e.2 != 0xFFFFFFFF)

/-- Every fuse that is blown in `a` is blown in `b` (R627, R640, R642). -/
structure Fuses.Within (a b : Fuses) : Prop where
  lc : a.lc ≤ b.lc
  islOff : a.islOff = true → b.islOff = true
  plateDis : ∀ i, a.plateDis.testBit i = true → b.plateDis.testBit i = true
  ceil : ∀ i, a.ceil.testBit i = true → b.ceil.testBit i = true
  ceilLock : a.ceilLock = true → b.ceilLock = true
  vfCap : ∀ i, a.vfCap.testBit i = true → b.vfCap.testBit i = true
  vfCapLock : a.vfCapLock = true → b.vfCapLock = true
  wdHw : a.wdHw = true → b.wdHw = true
  keyRev : ∀ i, a.keyRev.testBit i = true → b.keyRev.testBit i = true
  secVer : a.secVer ≤ b.secVer

/-- Every store of the state but the register store and the hatch memory is in its one canonical form, so that equal
machines are equal data. -/
structure State.Canon (s : State) : Prop where
  vfs : Sparse.wf s.vfs = true
  msix : Sparse.wf s.msix = true
  aers : Sparse.wf s.aers = true
  flrs : Sparse.wf s.flrs = true
  pairHi : Sparse.wf s.pairHi = true
  lockSince : Sparse.wf s.lockSince = true
  agreeSince : Sparse.wf s.agreeSince = true
  shadow48 : Sparse.wf s.shadow48 = true
  cnt48 : Sparse.wf s.cnt48 = true
  frzCur : Sparse.wf s.frzCur = true
  frzHist : Sparse.wf s.frzHist = true
  frzHistCap : Sparse.wf s.frzHistCap = true
  plates : Sparse.wf s.plates = true
  storeErrs : Sparse.wf s.storeErrs = true
  gravers : Sparse.wf s.gravers = true
  dmaTens : Sparse.wf s.dmaTens = true
  dmaLast : Sparse.wf s.dmaLast = true
  chans : Sparse.wf s.chans = true
  vec2 : Sparse.wf s.vec2 = true
  laneGrants : Sparse.wf s.laneGrants = true
  imprGrants : Sparse.wf s.imprGrants = true
  quietReqs : Sparse.wf s.quietReqs = true
  wakes : Sparse.wf s.wakes = true
  siteIns : Sparse.wf s.siteIns = true
  echos : Sparse.wf s.echos = true
  fastRetry : Sparse.wf s.fastRetry = true
  medias : Sparse.wf s.medias = true
  jitters : Sparse.wf s.jitters = true
  sigs : Sparse.wf s.sigs = true
  queues : Sparse.wf s.queues = true
  ports : Sparse.wf s.ports = true
  hatches : Sparse.wf s.hatches = true
  shapers : Sparse.wf s.shapers = true
  shRates : Sparse.wf s.shRates = true
  highways : Sparse.wf s.highways = true
  tks : Sparse.wf s.tks = true
  therms : Sparse.wf s.therms = true
  convs : Sparse.wf s.convs = true
  ptCaps : Sparse.wf s.ptCaps = true
  wds : Sparse.wf s.wds = true
  ekLanes : Sparse.wf s.ekLanes = true
  pairs : Sparse.wf s.pairs = true
  mirrors : Sparse.wf s.mirrors = true

/-- What every step keeps: the stores are canonical, and so are the register store and the hatch memory; each frozen master is listed once
(R577); the freeze sequence number has 16 bits (R582); the sensed fuses are among the blown ones (R643), the blown
life-cycle state is at most one step past the sensed one and at most RETURNED (R629), and a transition under way blows
at most that next state's fuse. -/
structure State.Inv (s : State) : Prop where
  regs : Sparse.wf s.regs = true
  hatchMem : Memory.wf s.hatchMem = true
  stores : s.Canon
  frozen : ascending s.frozen = true
  frzSeq : s.frzSeq ≤ 0xFFFF
  sensed : s.fuses.Within s.fusesBlown
  lcNext : s.fusesBlown.lc ≤ s.fuses.lc + 1
  lcLegal : s.fusesBlown.lc ≤ 3
  job : ∀ t, s.life.job = .transition t → s.fusesBlown.lc ≤ t ∧ t ≤ s.fuses.lc + 1 ∧ t ≤ 3

/-- What holds between the states before and after any command's effect: the queue and the clock are not its business,
free values are drawn and outputs emitted but never taken back, no fuse is unblown, and the invariant is kept. -/
structure State.Keeps (s t : State) : Prop where
  pending : t.pending = s.pending
  now : t.now = s.now
  draws : s.draws ≤ t.draws
  out : s.out <:+ t.out
  blown : s.Inv → s.fusesBlown.Within t.fusesBlown
  inv : s.Inv → t.Inv

/-- The command ends in a next state, which keeps what `State.Keeps` says. -/
def State.KeepsNext (s : State) (o : Host.Outcome State Fault Refusal) : Prop := ∃ t, o = .next t ∧ s.Keeps t

/-! ### When a request gets through -/

/-- A write of function `fn` at PF BAR0 address `a` gets through to its target: the function has a view of the address,
nothing on the way stops the request (R29, R41, R93, R104, R105, R116, R124, R580), and the function is not frozen. -/
def State.writesThrough (s : State) (fn a : Nat) : Bool :=
  fnReaches fn a && s.gate fn (some a) true == .go a && !s.isFrozen (masterOfFn fn)

/-- The same for a read. -/
def State.readsThrough (s : State) (fn a : Nat) : Bool :=
  fnReaches fn a && s.gate fn (some a) false == .go a && !s.isFrozen (masterOfFn fn)

/-- A write of function `fn` at `a` gets through and its master may write the RWL fields of the sheet at `b` (R54, R67). -/
def State.lockedWrite (s : State) (fn b a : Nat) : Bool := s.writesThrough fn a && s.mayWriteL b (masterOfFn fn)

/-- Only register fields differ between the states, and of those only the ones whose keys are listed. -/
def State.OnlyRegs (s t : State) (keys : List Nat) : Prop :=
  t = { s with regs := t.regs } ∧ ∀ k, k ∉ keys → Sparse.find? t.regs k = Sparse.find? s.regs k

end Sys2Proof.Machine
end

