-- ==== Sys2Proof/Certificates/Slice0/Obligations.lean ====
section
/-! DEFINITION. The statements for the provers, from the numbered rules of spec/; notes/assumptions holds the log entries that the
docstrings name. -/

set_option linter.unusedVariables false

open Sys2Proof Sys2Proof.Machine

/-- For every command c and state s with c at the front of its queue, step of s is exec of c on s with the queue's
rest; with an empty queue the step lets Config.idleNs nanoseconds pass and changes nothing else (the model's choice,
log entry 1). (00_scope.md; 95_what_each_step_holds.md) -/
def Obligations.StepTakesTheFrontCommand : Prop :=
  (∀ (c : Instr) (rest : List Instr) (s : State), s.pending = c :: rest → step s = exec c { s with pending := rest }) ∧
  (∀ s : State, s.pending = [] → step s = .next { s with now := s.now + Config.idleNs })

/-- State.reset meets State.Inv, which every step keeps. (04_clocks_resets_startup.md R150; 19_life_cycle.md R627) -/
def Obligations.ResetHoldsTheInvariant : Prop :=
  State.reset.Inv

/-- From every state that meets State.Inv, whatever command is at the front of the queue, a step that answers a next
state answers one that meets State.Inv: the register store, the hatch memory and every other store stay canonical,
each frozen master is listed once and in order, the freeze sequence number keeps to 16 bits, the sensed fuses stay
among the blown ones, the blown life-cycle state stays at most one step past the sensed one and at most RETURNED,
and a transition under way blows at most that next state's fuse. (17_masters_freeze.md R577; 17_masters_freeze.md
R582; 19_life_cycle.md R627; 19_life_cycle.md R629; 19_life_cycle.md R643; 12_hatches_shapers.md R413) -/
def Obligations.EveryStepKeepsTheInvariant : Prop :=
  ∀ s t : State, s.Inv → step s = .next t → t.Inv

/-- From every state that meets the invariant, whatever command is at the front of the queue, every fuse that is
blown before a step is blown after it, and the blown life-cycle state never goes back. (19_life_cycle.md R629;
19_life_cycle.md R640; 19_life_cycle.md R642) -/
def Obligations.NoStepUnblowsAFuse : Prop :=
  ∀ s t : State, s.Inv → step s = .next t → s.fusesBlown.Within t.fusesBlown

/-- Whatever the command and the state, exec answers a next state in which the queue and the block's clock are as
they were, the outputs emitted before are still there below the new ones, and free values have only been drawn,
never put back. (00_scope.md; 95_what_each_step_holds.md) -/
def Obligations.EveryCommandLeavesQueueAndClockAlone : Prop :=
  ∀ (c : Instr) (s : State), ∃ t, exec c s = .next t ∧ t.pending = s.pending ∧ t.now = s.now ∧ s.out <:+ t.out ∧
    s.draws ≤ t.draws

/-- For a lockable sheet and a LOCK write that gets through: a claim in the writer's own name acquires the lock if
it is free, and changes nothing if another master or the writer itself holds it; claim 0x00 releases the lock of the
holder, and changes nothing for any other master; a write of broken clears it for a master that already held the
lock, and with a claim that acquires the lock it leaves broken as it was. The holder is what LOCK_OWNER.owner holds.
(R57; R59; R60) -/
def Obligations.LockWritesAcquireReleaseAndClear : Prop :=
  ∀ (fn : Fin 65) (b i : Nat) (k : SheetKind) (s : State), sheetAt b = some (k, i) → k.lockable = true →
    Sparse.wf s.regs = true → s.writesThrough fn (b + 0x18) = true →
    (s.lockOwner b = 0 → ∃ t, exec (.lockClaim fn b (BitVec.ofNat 8 (masterOfFn fn))) s = .next t ∧
      t.lockOwner b = masterOfFn fn ∧ t.rd b Title.lockBroken = s.rd b Title.lockBroken) ∧
    (s.lockOwner b ≠ 0 → exec (.lockClaim fn b (BitVec.ofNat 8 (masterOfFn fn))) s = .next s) ∧
    (s.lockOwner b = masterOfFn fn → ∃ t, exec (.lockRelease fn b) s = .next t ∧ t.lockOwner b = 0) ∧
    (s.lockOwner b ≠ masterOfFn fn → exec (.lockRelease fn b) s = .next s) ∧
    (s.lockOwner b = masterOfFn fn → ∃ t, exec (.lockBrokenClear fn b (BitVec.ofNat 8 (masterOfFn fn))) s = .next t ∧
      t.rd b Title.lockBroken = 0 ∧ t.lockOwner b = masterOfFn fn) ∧
    (s.lockOwner b ≠ 0 → s.lockOwner b ≠ masterOfFn fn →
      exec (.lockBrokenClear fn b (BitVec.ofNat 8 (masterOfFn fn))) s = .next s) ∧
    (s.lockOwner b = 0 → ∃ t, exec (.lockBrokenClear fn b (BitVec.ofNat 8 (masterOfFn fn))) s = .next t ∧
      t.lockOwner b = masterOfFn fn ∧ t.rd b Title.lockBroken = s.rd b Title.lockBroken)

/-- For writes that get through: EVENT_EN stores every implemented enable and announces the set bits it newly
enables; accept_path by the lock holder of a held traced sheet (on a tenant sheet only by the PF) stores the
captured code and mode as the intent, ends the hold and returns the block to the state it was seen in, and is
ignored on a sheet that is not held; COMPAT.prev of a sheet that offers an older behaviour that may change at any
time is stored by a master that may write it, and on a sheet that offers none nothing is stored. (02_sheets.md R52;
02_sheets.md R74; 02_sheets.md R75; 02_sheets.md R79; 02_sheets.md R80) -/
def Obligations.TitleWritesOfEventEnableAcceptPathAndCompat : Prop :=
  (∀ (fn : Fin 65) (b i : Nat) (k : SheetKind) (data : Word) (s : State), sheetAt b = some (k, i) →
    s.writesThrough fn (b + 0x14) = true →
    exec (.eventEnableWrite fn b data) s = .next (s.enableEvents b (data.toNat &&& k.enableBits))) ∧
  (∀ (fn : Fin 65) (b i : Nat) (k : SheetKind) (s : State), sheetAt b = some (k, i) → k.traced = true →
    s.lockedWrite fn b (b + 0x24) = true → (k = .ten → fn = 0) →
    (s.heldAt b = true → exec (.acceptPathWrite fn b) s =
      .next ((s.storeIntent b (s.rd b Title.seenOp) (s.rd b Title.seenMode)).restorePath k i b (s.rd b Title.seenOp))) ∧
    (s.heldAt b = false → exec (.acceptPathWrite fn b) s = .next s)) ∧
  (∀ (fn : Fin 65) (b i : Nat) (k : SheetKind) (prev : Bool) (s : State), sheetAt b = some (k, i) →
    s.lockedWrite fn b (b + 0x8) = true → (k = .cnt → fn = 0) →
    (s.offered k ≠ 0 → (s.offered k &&& 12 = 0 ∨ s.opOf k i b = opOff) →
      exec (.compatPrevWrite fn b prev) s = .next (s.wrB b Title.compatPrev prev)) ∧
    (s.offered k = 0 → exec (.compatPrevWrite fn b prev) s = .next s))

/-- A sample of a traced sheet that is not held and not in the window of a QUIET plate, whose operating code is
neither FROZEN nor RESET nor moving toward the intent: where it differs from the intent and two samples before it
did, the sheet is held, seen_op, want_op and seen_mode are captured and count reads 3; where code and mode are the
intent's, count becomes 0 and nothing is held. (02_sheets.md R68; 02_sheets.md R69; 02_sheets.md R71) -/
def Obligations.TraceSampleHoldsOnTheThirdMismatch : Prop :=
  ∀ (b i : Nat) (k : SheetKind) (s : State), sheetAt b = some (k, i) → k.traced = true → s.Inv →
    s.heldAt b = false → (k.inWindow = true → s.plateOp (sheetPlate k i) ≠ opQuiet) →
    s.opOf k i b ≠ opFrozen → s.opOf k i b ≠ opReset → movingAgrees (s.opOf k i b) (s.rd b Title.hostOp) = false →
    (s.opOf k i b < 16 → s.rd b Title.hostOp < 16 → s.modeOf k b < 256 → s.opOf k i b ≠ s.rd b Title.hostOp →
      s.rd b Title.count = 2 →
      ∃ t, exec (.traceSample b) s = .next t ∧ t.heldAt b = true ∧ t.rd b Title.count = 3 ∧
        t.rd b Title.seenOp = s.opOf k i b ∧ t.rd b Title.wantOp = s.rd b Title.hostOp ∧
        t.rd b Title.seenMode = s.modeOf k b ∧ t.rd b Title.hostOp = s.rd b Title.hostOp) ∧
    (s.opOf k i b = s.rd b Title.hostOp → s.modeOf k b = s.rd b Title.hostMode →
      ∃ t, exec (.traceSample b) s = .next t ∧ t.rd b Title.count = 0 ∧ t.heldAt b = false)

/-- At a tick at which an unfrozen master holds a sheet's lock for longer than lock_limit milliseconds, the master
is frozen and the register frz record of it says lock_overrun; at a tick at which no lock has overrun nothing
changes. (02_sheets.md R65; 17_masters_freeze.md R577; 17_masters_freeze.md R579) -/
def Obligations.LockOverrunFreezesTheHolder : Prop :=
  ∀ (b : Nat) (s : State), s.lockOwner b ≠ 0 →
    (s.rd dirB Reg.dirLockLimitLockLimit < s.heldMs b → s.isFrozen (s.lockOwner b) = false →
      ∃ t, exec (.lockOverrun b) s = .next t ∧ t.isFrozen (s.lockOwner b) = true ∧
        ∃ r, Sparse.find? t.frzCur (s.lockOwner b) = some r ∧ r.kind = vLockOverrun ∧ r.frozen = true) ∧
    (s.heldMs b ≤ s.rd dirB Reg.dirLockLimitLockLimit → exec (.lockOverrun b) s = .next s)

/-- By the lock holder, a write of HOST_STATE of the host port stores the code and the link mode (0x00 for a mode
that names no combination of width and speed) and ends a hold; on a tenant sheet the PF's write stores OFF or
RUNNING with mode 0x00. A VF's note is stored, sets its HP_NOTE bit and raises vf_note; the PF's note is stored and
raises pf_note. The read of the LO word of a pair answers its low 32 bits and captures the high ones. Nothing else
changes. (02_sheets.md R73; 03_host_port.md R119; 03_host_port.md R122; 03_host_port.md R123; 03_host_port.md R126;
03_host_port.md R127) -/
def Obligations.IntentAndNoteWritesOfTheHostPort : Prop :=
  (∀ (fn : Fin 65) (data : Word) (s : State), s.lockedWrite fn hpB (hpB + 0x20) = true →
    exec (.hostPortHostStateWrite fn data) s =
      .next (s.storeIntent hpB (intentOp data.toNat) (linkMode (bitsOf data.toNat 8 8)))) ∧
  (∀ m : Nat, linkMode m = m ∨ linkMode m = 0) ∧
  (∀ (t : Fin 64) (data : Word) (s : State), s.lockedWrite 0 (tenB t) (tenB t + 0x20) = true →
    exec (.tenantHostStateWrite 0 t data) s =
      .next (s.storeIntent (tenB t) (if data.toNat % 16 = opRunning then opRunning else opOff) 0)) ∧
  (∀ (t : Fin 64) (note : Word) (s : State), s.writesThrough (t.val + 1) (tenB t + 0x5C) = true →
    exec (.vfNoteWrite t note) s =
      .next (State.raise { s.wr (tenB t) Reg.tenVfNoteNote note.toNat with notes := s.notes ||| 2 ^ t.val } hpB 7)) ∧
  (∀ (t : Fin 64) (note : Word) (s : State), s.writesThrough 0 (tenB t + 0x58) = true →
    exec (.pfNoteWrite t note) s = .next ((s.wr (tenB t) Reg.tenPfNoteNote note.toNat).raise (tenB t) 0)) ∧
  (∀ (fn : Fin 65) (p : Pair) (s : State), s.readsThrough fn (hpB + pairOff p) = true →
    exec (.hpPairLoRead fn p) s = .next (State.emit { s with
      pairHi := Sparse.put 0 s.pairHi (pairOff p) (s.pairValue p / 2 ^ 32) }
        (.readData fn (BitVec.ofNat 32 (s.pairValue p % 2 ^ 32)))))

/-- For a function that answers, is not frozen and owns the vector, the unmask clears the entry's mask bit; where
the PBA bit is set, the function's own mask is clear and the function may send messages, the PBA bit is cleared and
the message is sent; where the PBA bit is clear, the function's own mask is set, or the function may not send,
nothing else changes, so the PBA bit stays as it is. And a message that a mask holds back sets the PBA bit and is
not sent. (03_host_port.md R114) -/
def Obligations.MaskedMessagesWaitForTheirVector : Prop :=
  (∀ (fn : Fin 65) (vec : Nat) (s : State), s.linkUp = true → s.fnAnswers fn = true →
    (fn.val ≠ 0 → s.plateEnabled ((fn.val - 1) / 8) = true) → s.isFrozen (masterOfFn fn) = false →
    vec < (if fn.val = 0 then 64 else 4) →
    ((s.vector fn vec).pba = true → (if fn.val = 0 then s.pf.msixMask else (s.vf fn).msixMask) = false →
      s.msixAllowed fn = true →
      exec (.msixUnmask fn vec) s = .next ((s.setVector fn vec { s.vector fn vec with masked := false, pba := false }).emit
        (.msix fn vec))) ∧
    ((s.vector fn vec).pba = false ∨ (if fn.val = 0 then s.pf.msixMask else (s.vf fn).msixMask) = true ∨
        s.msixAllowed fn = false →
      exec (.msixUnmask fn vec) s = .next (s.setVector fn vec { s.vector fn vec with masked := false }))) ∧
  (∀ (fn vec : Nat) (s : State), s.msixAllowed fn = true → s.vecMasked fn vec = true →
    (s.sendMsix fn vec).out = s.out ∧ ((s.sendMsix fn vec).vector fn vec).pba = true)

/-- Where the configuration space answers and no FLR of the PF is in progress, a write of NumVFs above TotalVFs, the
highest VF number that the sensed fuses offer, stores TotalVFs; a write of at most TotalVFs stores the value. Either
way VF Enable stays as it is, and the fuses too. (R90) -/
def Obligations.NumVfsIsLimitedToTotalVfs : Prop :=
  ∀ (n : Nat) (s : State), s.cfgAnswers = true → s.flrBusy 0 = false → n < 65536 →
    (s.fuses.vfLimit < n → ∃ t, exec (.numvfsWrite n) s = .next t ∧ t.pf.numVfs = s.fuses.vfLimit ∧
      t.pf.vfEnable = s.pf.vfEnable ∧ t.fuses = s.fuses) ∧
    (n ≤ s.fuses.vfLimit → ∃ t, exec (.numvfsWrite n) s = .next t ∧ t.pf.numVfs = n ∧
      t.pf.vfEnable = s.pf.vfEnable ∧ t.fuses = s.fuses)

/-- Where the configuration space answers and no FLR of the PF is in progress: setting VF Enable makes it 1 and
raises vf_enable_change, and clearing it makes it 0, stops every VF that was live and raises vf_enable_change; D3hot
changes the power state alone, so every register and all other device state is intact, and in it no function answers
memory requests and the PF sends no message; the return to D0 changes the power state back, and sends the PF's
messages that were pending and that only D3hot held back. (03_host_port.md R92; 03_host_port.md R110;
03_host_port.md R111; 03_host_port.md R121) -/
def Obligations.VfEnableAndPowerStates : Prop :=
  (∀ s : State, s.cfgAnswers = true → s.flrBusy 0 = false →
    (s.pf.vfEnable = false →
      exec .vfEnableSet s = .next (State.raise { s with pf := { s.pf with vfEnable := true } } hpB 6)) ∧
    (s.pf.vfEnable = true →
      exec .vfEnableClear s =
        .next ((s.stopVfs { s with pf := { s.pf with vfEnable := false } }).raise hpB 6)) ∧
    (∃ t, exec .d3hotEntry s = .next t ∧ t = { s with pf := { s.pf with d3hot := true } } ∧
      (∀ fn, t.fnAnswers fn = false) ∧ t.msixAllowed 0 = false) ∧
    exec .d0Return s = .next (State.sendPending { s with pf := { s.pf with d3hot := false } } 0))

/-- An FLR of a VF that the configuration space offers makes HP_FLR show it from that instant and leaves the VF's
memory requests unanswered; an FLR of the PF does the same for the PF, clears VF Enable, and begins the FLR of every
VF that is live and in none. Of an FLR under way that was not begun with the PF's, the drain marks it drained and,
for a VF, leaves the tenant's ring no operation; the PF's drain does so for every VF whose FLR began with it. The
completion of a drained FLR of a VF ends it, resets the VF's note, DMA enable and relaxed ordering bit, its vector
table and PBA and its configuration space, raises flr_done, and leaves the PF's note and the tenant's stored intent,
which the PF writes, alone; that of the PF ends it and those that began with it, resets the PF's configuration space
and vector table, and raises flr_done, whose message may wait in the PBA. (03_host_port.md R106; 03_host_port.md
R107; 03_host_port.md R108; 03_host_port.md R109; 03_host_port.md R121) -/
def Obligations.FunctionLevelResetsInSteps : Prop :=
  (∀ (t : Fin 64) (s : State), s.cfgAnswers = true → s.pf.vfEnable = true → t.val + 1 ≤ s.pf.numVfs →
    s.flrBusy (t.val + 1) = false →
    ∃ u, exec (.vfFlr t) s = .next u ∧ u.flrBusy (t.val + 1) = true ∧ u.fnAnswers (t.val + 1) = false ∧ u.pf = s.pf) ∧
  (∀ s : State, s.cfgAnswers = true → s.flrBusy 0 = false →
    ∃ u, exec .pfFlr s = .next u ∧ u.flrBusy 0 = true ∧ u.fnAnswers 0 = false ∧ u.pf.vfEnable = false ∧
      ∀ t : Fin 64, s.vfLive (t.val + 1) = true → u.flrBusy (t.val + 1) = true) ∧
  (∀ (t : Fin 64) (fn : Fin 65) (f : Flr) (s : State), fn.val = t.val + 1 → Sparse.find? s.flrs (t.val + 1) = some f →
    f.withPf = false → s.Inv →
    (f.drained = false →
      ∃ u, exec (.flrDrainComplete fn) s = .next u ∧ (u.ring t).ops = [] ∧
        Sparse.find? u.flrs (t.val + 1) = some { f with drained := true }) ∧
    (f.drained = true →
      ∃ u, exec (.flrComplete fn) s = .next u ∧ u.flrBusy (t.val + 1) = false ∧
        u.rd (tenB t) Reg.tenDmaCtrlDmaEn = 0 ∧ u.rd (tenB t) Reg.tenDmaCtrlRoEn = 0 ∧
        u.rd (tenB t) Reg.tenVfNoteNote = 0 ∧ u.rd (tenB t) Reg.tenPfNoteNote = s.rd (tenB t) Reg.tenPfNoteNote ∧
        u.rd (tenB t) Title.hostOp = s.rd (tenB t) Title.hostOp ∧ bitAt (u.rd hpB Title.event) 8 = true ∧
        u.vf (t.val + 1) = {} ∧ u.aerOf (t.val + 1) = {} ∧ ∀ v < 64, u.vector (t.val + 1) v = {})) ∧
  (∀ (f : Flr) (s : State), Sparse.find? s.flrs 0 = some f → f.withPf = false → s.Inv →
    (f.drained = false →
      ∃ u, exec (.flrDrainComplete 0) s = .next u ∧ Sparse.find? u.flrs 0 = some { f with drained := true } ∧
        ∀ (t : Fin 64) (g : Flr), Sparse.find? s.flrs (t.val + 1) = some g → g.withPf = true →
          (u.ring t).ops = [] ∧ Sparse.find? u.flrs (t.val + 1) = some { g with drained := true }) ∧
    (f.drained = true →
      ∃ u, exec (.flrComplete 0) s = .next u ∧ u.flrBusy 0 = false ∧ u.pf = {} ∧ u.aerOf 0 = {} ∧
        (∀ v < 64, { u.vector 0 v with pba := false } = ({} : MsixEntry)) ∧ bitAt (u.rd hpB Title.event) 8 = true ∧
        ∀ (t : Fin 64) (g : Flr), Sparse.find? s.flrs (t.val + 1) = some g → g.withPf = true → u.flrBusy (t.val + 1) = false))

/-- An aligned read that has reached its target, which does not answer it in time, is answered with ones, counted
and announced, whether or not the target still does later what a read of it does (a free choice, log entry 7). While
timeouts are enabled, an operation that has had a read outstanding for the low end of the selected range ends with
status cpl_timeout, which is counted, announced and logged; where they are disabled, or no read has been outstanding
so long, nothing happens. A poisoned packet is counted and logged, and a poisoned completion of a read in flight
ends its operation poisoned; while the PF's check is enabled, a packet with a bad ECRC is logged and dropped, and
otherwise nothing is seen of it; a malformed packet and a receiver overflow are logged; a fatal link error is logged
and retrains the link, a correctable one is logged (log entry 32). Every uncorrectable error but an Unexpected
Completion sets its bit in the PF's Uncorrectable Error Status. (03_host_port.md R101; 03_host_port.md R103;
03_host_port.md R115; 03_host_port.md R119) -/
def Obligations.PcieErrorsAreLoggedAndCounted : Prop :=
  (∀ (fn : Fin 65) (off : Nat) (a : Nat) (s : State), off % 4 = 0 → off < barSize fn →
    s.gate fn (barAddr fn off) false = .go a →
    ∃ v, (v = (s.countAccess fn).drawBool.2 ∨
        v = ((s.countAccess fn).drawBool.2.readEffect fn ((barAddr fn off).getD 0)).2) ∧
      exec (.mmioReadTimeout fn off) s =
        .next (((v.answer fn 0xFFFFFFFF).bump hpB Reg.hpCntAMmioTimeout).raise hpB 3)) ∧
  (∀ (t : Fin 64) (idx : Nat) (s : State),
    (∀ o : DmaOp, s.waitingOp t idx (ctoRange s.pf.ctoValue).1 = some o → s.pf.ctoDisable = false →
      exec (.completionTimeout t idx) s =
        .next ((((s.endOp t o.id 5 0).bump hpB Reg.hpCntACplTimeout).raise hpB 4).logAer (t.val + 1) .completionTimeout)) ∧
    (s.pf.ctoDisable = true ∨ s.waitingOp t idx (ctoRange s.pf.ctoValue).1 = none →
      exec (.completionTimeout t idx) s = .next s)) ∧
  (∀ s : State, s.linkUp = true →
    (∀ fn : Fin 65, exec (.poisonedTlpReceived (.mmioWrite fn)) s =
      .next ((s.bump hpB Reg.hpCntBPoisonedRx).logAer fn .poisoned)) ∧
    (∀ (t : Fin 64) (idx : Nat), ∃ u : State, u = (s.bump hpB Reg.hpCntBPoisonedRx).logAer (t.val + 1) .poisoned ∧
      (∀ o : DmaOp, s.waitingOp t idx 0 = some o →
        exec (.poisonedTlpReceived (.completion t idx)) s = .next (u.endOp t o.id 6 0)) ∧
      (s.waitingOp t idx 0 = none → exec (.poisonedTlpReceived (.completion t idx)) s = .next u)) ∧
    ((s.aerOf 0).ecrcCheck = true → (∀ fn : Fin 65, exec (.ecrcError (.mmioWrite fn)) s = .next (s.logAer fn .ecrc)) ∧
      ∀ (t : Fin 64) (idx : Nat), exec (.ecrcError (.completion t idx)) s = .next (s.logAer (t.val + 1) .ecrc)) ∧
    ((s.aerOf 0).ecrcCheck = false → ∀ p : RxTlp, exec (.ecrcError p) s = .next s) ∧
    exec (.malformedTlp false) s = .next (s.logAer 0 .malformed) ∧
    exec (.malformedTlp true) s = .next (s.logAer 0 .overflow) ∧
    (∀ e : LinkError,
      ((linkAer e).correctable = false →
        exec (.linkProtocolError e) s = .next ((s.logAer 0 (linkAer e)).wr hpB Title.stateOp opStarting)) ∧
      ((linkAer e).correctable = true → exec (.linkProtocolError e) s = .next (s.logAer 0 (linkAer e))))) ∧
  (∀ (s : State) (e : AerError), e.correctable = false → e ≠ .unexpectedCompletion →
    bitAt ((s.logAer 0 e).aerOf 0).unc e.bit = true)

/-- Where the port may train, a combination of width and speed that it has makes the link up with that width and
speed, STATE.op RUNNING and STATE.mode the code of both, and the transmitter active; it raises link_up from a link
that was down, link_change where width or speed changed while up, and nothing where they did not. While the link is
up and Link Control enables ASPM L1, L1 entry sets in_l1 and leaves the port RUNNING; where it is not enabled,
nothing happens. (03_host_port.md R119; 03_host_port.md R120; 03_host_port.md R121) -/
def Obligations.LinkTrainingSetsWidthSpeedAndState : Prop :=
  (∀ (width speed : BitVec 4) (s : State), s.mayTrain = true → s.Inv →
    (width.toNat = 1 ∨ width.toNat = 2 ∨ width.toNat = 4) → (speed.toNat = 1 ∨ speed.toNat = 2 ∨ speed.toNat = 3) →
    ∃ t, exec (.linkTrained width speed) s = .next t ∧ t.isSet hpB Reg.hpLinkUp = true ∧
      t.rd hpB Reg.hpLinkWidth = width.toNat ∧ t.rd hpB Reg.hpLinkSpeed = speed.toNat ∧
      t.rd hpB Title.stateOp = opRunning ∧ t.rd hpB Title.stateMode = width.toNat + 16 * speed.toNat ∧
      t.pins.pcieTxIdle = false ∧
      (s.isSet hpB Reg.hpLinkUp = false → bitAt (t.rd hpB Title.event) 1 = true) ∧
      (s.isSet hpB Reg.hpLinkUp = true →
        (s.rd hpB Reg.hpLinkWidth ≠ width.toNat ∨ s.rd hpB Reg.hpLinkSpeed ≠ speed.toNat) →
        bitAt (t.rd hpB Title.event) 2 = true) ∧
      (s.isSet hpB Reg.hpLinkUp = true → s.rd hpB Reg.hpLinkWidth = width.toNat →
        s.rd hpB Reg.hpLinkSpeed = speed.toNat → t.rd hpB Title.event = s.rd hpB Title.event)) ∧
  (∀ s : State, (s.linkUp = true → bitAt (s.pfWord 0x70) 1 = true → exec .aspmL1Entry s = .next (s.wr hpB Reg.hpLinkInL1 1)) ∧
    (bitAt (s.pfWord 0x70) 1 = false → exec .aspmL1Entry s = .next s))

/-- With the clocks up: the loss of the tree's source, which is present, moves the tree to its preferred source
where that is present, else to the highest-priority source still present, counted and announced, and a better source
that has been present for 1 s takes it back; the lock holder's preference for a present source moves the tree to it
at once, for an absent one it is only stored, and without a preference the tree goes back to OSC_IN where that has
been present for 1 s; the loss of the timebase PLL's source moves that PLL to its next source without an unlock, a
better one that has been present for 1 s takes it back, and an unlock of the locked PLL clears the lock bit and is
announced. A source that is counted becomes present from now on, is taken by a tree that has lost its source, and
REFCLK then lets the host port train where nothing else holds it; one that neither the tree nor the timebase PLL
uses stops being present and is announced; REFCLK going while the link is up takes the link with it, and the tree
moves where it ran on REFCLK; a port that trains without it stops. A powered plate's running PLL that unlocks is
announced, and for more than 10 microseconds resets its plate with cause clock. (04_clocks_resets_startup.md R129;
04_clocks_resets_startup.md R130; 04_clocks_resets_startup.md R132; 04_clocks_resets_startup.md R133;
04_clocks_resets_startup.md R168; 04_clocks_resets_startup.md R786; 14_timebase.md R469) -/
def Obligations.ReferenceSourcesMoveTheTreeAndThePll : Prop :=
  (∀ s : State, s.clocksUp = true →
    (s.rd crB Reg.crRefStatusTreeSrc = 1 → s.chip.oscIn.present = true →
      exec .treeSourceLoss s = .next (s.sourceGone .oscIn).treeFollows) ∧
    (s.rd crB Reg.crRefStatusTreeSrc = 2 → s.chip.refIn.present = true →
      exec .treeSourceLoss s = .next (s.sourceGone .refIn).treeFollows) ∧
    (s.rd crB Reg.crRefStatusTreeSrc = 3 → s.chip.refclk.present = true →
      exec .treeSourceLoss s = .next (s.sourceGone .refclk).treeFollows) ∧
    (s.rd crB Reg.crRefStatusTbSrc = 1 → s.chip.oscIn.present = true →
      exec .timebasePllSourceLoss s = .next (s.sourceGone .oscIn).tbPllFollows) ∧
    (s.rd crB Reg.crRefStatusTbSrc = 2 → s.chip.refIn.present = true →
      exec .timebasePllSourceLoss s = .next (s.sourceGone .refIn).tbPllFollows) ∧
    (∀ src : ClockSrc, s.treeBetter (treeCode src) = true → (s.source src).since + secNs ≤ s.now →
      exec (.treeSourceReturn src) s = .next (s.moveTree (treeCode src))) ∧
    (∀ src : ClockSrc, tbCode src ≠ 0 → (s.source src).present = true → tbCode src < s.rd crB Reg.crRefStatusTbSrc →
      (s.source src).since + secNs ≤ s.now → exec (.timebasePllSourceReturn src) s = .next (s.moveTbPll (tbCode src))) ∧
    (s.isSet crB Reg.crRefStatusTbPllLock = true →
      exec .timebasePllUnlock s = .next ((s.wr crB Reg.crRefStatusTbPllLock 0).raise crB 2)) ∧
    (∀ (fn : Fin 65) (prefer : BitVec 2), s.lockedWrite fn crB (crB + 0x50) = true →
      s.treePresent prefer.toNat = true → exec (.treePreferWrite fn prefer) s =
        .next ((s.wr crB Reg.crTreeSrcPrefer prefer.toNat).moveTree prefer.toNat)) ∧
    (∀ (fn : Fin 65) (prefer : BitVec 2), s.lockedWrite fn crB (crB + 0x50) = true → prefer.toNat ≠ 0 →
      s.treePresent prefer.toNat = false →
      exec (.treePreferWrite fn prefer) s = .next (s.wr crB Reg.crTreeSrcPrefer prefer.toNat)) ∧
    (∀ fn : Fin 65, s.lockedWrite fn crB (crB + 0x50) = true → s.chip.oscIn.present = true →
      s.chip.oscIn.since + secNs ≤ s.now →
      exec (.treePreferWrite fn 0) s = .next ((s.wr crB Reg.crTreeSrcPrefer 0).moveTree 1))) ∧
  (∀ (s : State) (c : Nat),
    (s.rd crB Reg.crRefStatusTreeSrc ≠ 0 → s.treePresent (s.rd crB Reg.crRefStatusTreeSrc) = false →
      s.treeFollows = s.moveTree s.treeRefuge) ∧
    (s.rd crB Reg.crRefStatusTreeSrc ≠ c → s.serdesIdle = false → s.moveTree c =
      ((s.wr crB Reg.crRefStatusTreeSrc c).bumpSat crB Reg.crRefStatusSwitches).raise crB 0) ∧
    (s.treePresent (s.rd crB Reg.crTreeSrcPrefer) = true → s.treeRefuge = s.rd crB Reg.crTreeSrcPrefer)) ∧
  (∀ (src : ClockSrc) (at25 : Bool) (s : State), (s.source src).present = false → src ≠ .refclk →
    ∃ t : State, t = s.setSource src { present := true, since := s.now, at25 := at25 && src = .refIn } ∧
      exec (.referencePresent src at25) s = .next (if t.clocksUp then t.treeFollows else t)) ∧
  (∀ (at25 : Bool) (s : State), s.chip.refclk.present = false →
    ∃ t u : State, t = s.setSource .refclk { present := true, since := s.now } ∧
      u = (if t.clocksUp then t.treeFollows else t) ∧
      exec (.referencePresent .refclk at25) s = .next (if u.mayTrain then u.setOp hpB opStarting else u)) ∧
  (∀ (src : ClockSrc) (s : State), src ≠ .internal → src ≠ .tree → (s.source src).present = true →
    (s.clocksUp = false ∨ s.rd crB Reg.crRefStatusTreeSrc ≠ treeCode src ∧
      (tbCode src = 0 ∨ s.rd crB Reg.crRefStatusTbSrc ≠ tbCode src)) →
    exec (.referenceAbsent src) s = .next (s.sourceGone src)) ∧
  (∀ s : State, s.isSet hpB Reg.hpLinkUp = true → s.chip.refclk.present = true →
    ∃ t : State, t = s.sourceGone .refclk ∧
      exec .refclkLoss s = .next (if t.clocksUp then t.treeFollows else t)) ∧
  (∀ s : State, s.isSet hpB Reg.hpLinkUp = true →
    s.refclkGone = (s.linkGoesDown.bump crB Reg.crHostResetsLinkDown).hostPortReset) ∧
  (∀ s : State, s.isSet hpB Reg.hpLinkUp = false → s.rd hpB Title.stateOp = opStarting → s.refclkGone = s.setOp hpB opOff) ∧
  (∀ (p : Fin 8) (ns : Nat) (s : State), s.platePllRuns p = true →
    (ns ≤ 10000 → exec (.platePllUnlock p ns) s = .next (s.raise crB 3)) ∧
    (10000 < ns → exec (.platePllUnlock p ns) s = .next ((s.raise crB 3).plateReset p causePlateClock)))

/-- For a write of CR_RESET_REQ that gets through: from a VF, from a master that does not hold the clock and reset
sheet's lock, or with a confirm code other than 0xA5 nothing changes at all; from the PF as lock holder with confirm
0xA5 and chip set a chip reset with cause pf is performed, whatever the plate mask holds; with chip clear every
plate of the mask undergoes a plate reset with cause pf in ascending order. (R148) -/
def Obligations.ResetRequestWordActsOnlyForTheConfirmedPf : Prop :=
  ∀ (fn : Fin 65) (data : Word) (s : State), s.writesThrough fn (crB + 0x54) = true →
    (fn ≠ 0 ∨ s.lockOwner crB ≠ 1 ∨ bitsOf data.toNat 24 8 ≠ 0xA5 →
      exec (.chipResetRequest fn data) s = .next s ∧ exec (.plateResetRequest fn data) s = .next s) ∧
    (fn = 0 → s.lockOwner crB = 1 → bitsOf data.toNat 24 8 = 0xA5 →
      (bitAt data.toNat 8 = true → exec (.chipResetRequest fn data) s = .next (s.chipReset causeChipPf)) ∧
      (bitAt data.toNat 8 = false → exec (.plateResetRequest fn data) s = .next
        (forUpTo 8 (fun p t => if bitAt data.toNat p then t.plateReset p causePlatePf else t) s)))

/-- From every state that meets the invariant, POR_N falling and VDD_AON low both leave the machine in power-on
reset: every register field holds its reset value, no master is frozen, no lock is held and no FLR, ring, channel or
queue is active, while the blown fuses, the metrology island, the commands waiting and the outputs stay as they
were; the pin or the supply that caused it is recorded. (04_clocks_resets_startup.md R142;
04_clocks_resets_startup.md R147; 04_clocks_resets_startup.md R150; 04_clocks_resets_startup.md R151;
04_clocks_resets_startup.md R167) -/
def Obligations.PowerOnResetClearsEverythingButTheIsland : Prop :=
  ∀ s : State, s.Inv →
    (∃ t, exec .porNAssert s = .next t ∧ t.chip.power = .por ∧ t.pins.porN = false ∧
      (∀ (b : Nat) (r : Row) (i : Nat), t.rd b r i = r.reset) ∧
      t.frozen = [] ∧ t.lockSince = [] ∧ t.flrs = [] ∧ t.dmaTens = [] ∧ t.chans = [] ∧ t.queues = [] ∧
      t.fusesBlown = s.fusesBlown ∧ t.island = s.island ∧ s.out <:+ t.out) ∧
    (∃ t, exec .vddAonLow s = .next t ∧ t.chip.power = .por ∧ t.pins.aonLow = true ∧ t.pins.porN = s.pins.porN ∧
      (∀ (b : Nat) (r : Row) (i : Nat), t.rd b r i = r.reset) ∧
      t.frozen = [] ∧ t.fusesBlown = s.fusesBlown ∧ t.island = s.island)

/-- POR_N rising, or VDD_AON recovering while POR_N is high, ends a power-on reset: the straps are sampled and the
boot begins; either alone, with the other still holding the reset, only changes its pin. Outside a power-on reset a
supply dip, and PERST_N falling under PERST_MODE 1, perform a chip reset with their cause. A chip reset whose latest
source is 50 microseconds old, with supplies good and PERST_N high where those sources asked for it, is released
into the boot at step 1. PERST_N falling without PERST_MODE, a hot reset and a link that goes down each abandon
every operation, are counted and reset the host port. PERST_N rising lets the port train where nothing else holds
it. A drain of a function's FLR or of the agent's reset that overruns 20 microseconds is recorded and resets the
plate that holds the undrained target with cause fabric, and no other plate; one of the plate DMA within a plate
reset is only recorded, and one that keeps to 20 microseconds is no overrun. (04_clocks_resets_startup.md R142;
04_clocks_resets_startup.md R145; 04_clocks_resets_startup.md R147; 04_clocks_resets_startup.md R149;
04_clocks_resets_startup.md R159; 04_clocks_resets_startup.md R160; 04_clocks_resets_startup.md R167;
04_clocks_resets_startup.md R785; 17_masters_freeze.md R594) -/
def Obligations.ChipResetsBeginAndEnd : Prop :=
  (∀ (st : Straps) (s : State), s.chip.power = .por →
    (s.pins.porN = false → s.pins.aonLow = false →
      exec (.porNRelease st) s = .next (State.startBoot { s with pins := { s.pins with porN := true } } st)) ∧
    (s.pins.porN = false → s.pins.aonLow = true →
      exec (.porNRelease st) s = .next { s with pins := { s.pins with porN := true } }) ∧
    (s.pins.aonLow = true → s.pins.porN = true →
      exec (.vddAonRecovered st) s = .next (State.startBoot { s with pins := { s.pins with aonLow := false } } st)) ∧
    (s.pins.aonLow = true → s.pins.porN = false →
      exec (.vddAonRecovered st) s = .next { s with pins := { s.pins with aonLow := false } }) ∧
    exec .supplyDip s = .next s) ∧
  (∀ s : State, s.chip.power ≠ .por →
    (∃ t, exec .supplyDip s = .next t ∧ t = s.chipReset causeChipSupply ∧ t.chip.power = .chipReset ∧ t.chip.rstAt = s.now ∧
      t.chip.rstSupply = true ∧ t.frozen = [] ∧ t.chip.sheetsReady = false) ∧
    (s.pins.perstN = true → s.isSet crB Reg.crStrapsPerstMode = true →
      exec .perstNAssert s = .next (State.chipReset { s with pins := { s.pins with perstN := false } } causeChipPerst)) ∧
    (s.pins.perstN = true → s.isSet crB Reg.crStrapsPerstMode = false → s.chip.power ≠ .chipReset →
      exec .perstNAssert s = .next ((State.linkGoesDown { s with pins := { s.pins with perstN := false } }).bump crB
        Reg.crHostResetsPerst).hostPortReset)) ∧
  (∀ (ok : Bool) (s : State), s.chip.power = .chipReset → s.chip.rstAt + 50000 ≤ s.now →
    (s.chip.rstSupply = true → ok = true) → (s.chip.rstPerst = true → s.pins.perstN = true) →
    exec (.chipResetRelease ok) s = .next ((State.wr { s with chip := { s.chip with
      power := .booting, bootFrom := s.chip.rstAt } } crB Reg.crBootStep 1).bootSense false)) ∧
  (∀ s : State, s.linkUp = true →
    exec .hotResetReceived s = .next (s.linkGoesDown.bump crB Reg.crHostResetsHot).hostPortReset ∧
    exec .linkDownReset s = .next (s.linkGoesDown.bump crB Reg.crHostResetsLinkDown).hostPortReset) ∧
  (∀ s : State, s.pins.perstN = false →
    (s.chip.refclk.present = false → exec .perstNRelease s = .next { s with pins := { s.pins with perstN := true } }) ∧
    (State.mayTrain { s with pins := { s.pins with perstN := true } } = true →
      exec .perstNRelease s =
        .next (State.wr { s with pins := { s.pins with perstN := true } } hpB Title.stateOp opStarting))) ∧
  (∀ (t : Fin 64) (plate : Fin 8) (us : Nat) (s : State), 20 < us →
    (s.undrained (t.val + 1) plate ≠ [] → exec (.drainOverrun (BitVec.ofNat 8 (0x41 + t.val)) plate us) s =
      .next (forEach (s.undrained (t.val + 1) plate) (fun n v => v.flrDrain n)
        (((s.recordOverrun (0x41 + t.val) plate us).recordHpFault plate us).plateReset plate causePlateFabric))) ∧
    (plate.val ≠ t.val / 8 → exec (.drainOverrun (BitVec.ofNat 8 (0x41 + t.val)) plate us) s = .next s)) ∧
  (∀ (plate : Fin 8) (us : Nat) (s : State), 20 < us → s.undrained 0 plate ≠ [] →
    exec (.drainOverrun 1 plate us) s = .next (s.flrOverrun 1 0 plate us)) ∧
  (∀ (plate : Fin 8) (us : Nat) (s : State), 20 < us → s.agentDraining = true →
    exec (.drainOverrun 0xC0 plate us) s =
      .next ((State.recordOverrun { s with epk := { s.epk with drainFrom := none } } 0xC0 plate us).plateReset plate
        causePlateFabric)) ∧
  (∀ (plate : Fin 8) (us : Nat) (s : State), 20 < us → (s.plate plate).stage = .waitSlot →
    exec (.drainOverrun (BitVec.ofNat 8 (0xB0 + plate.val)) plate us) s =
      .next (s.recordOverrun (0xB0 + plate.val) plate us)) ∧
  (∀ (m : BitVec 8) (plate : Fin 8) (us : Nat) (s : State), us ≤ 20 → exec (.drainOverrun m plate us) s = .next s)

/-- At boot step 4 the PLLs lock, the tree and the timebase PLL take their sources, site time starts in FREE, the
flash read begins at address 0 with the command that FL_QUAD selects, and the port trains where it may; after the
boot the command says that the timebase PLL has locked again (log entry 35). A plate that waits for its wake slot
begins its wake when no lower-numbered plate waits and gap_us has passed since the last: PLL restart with pll and
powered bits clear and the in_reset bit set; at its PLL's lock both bits are set and it goes on to store init, or
out of QUIET to STARTING; then to kernel init; then it is out of reset in OFF with state_change and the site summary
told, and reset again where its patch RAM or a graver's ROM check fails. When every enabled plate has left reset the
boot is done: step 9, done, its time in milliseconds, ALM_N released. (04_clocks_resets_startup.md R155;
04_clocks_resets_startup.md R159; 04_clocks_resets_startup.md R160; 04_clocks_resets_startup.md R164; 05_plates.md
R181; 05_plates.md R196; 05_plates.md R202; 20_power_sleep.md R672) -/
def Obligations.BootAndWakeOfAPlate : Prop :=
  (∀ s : State, s.chip.power = .booting → s.rd crB Reg.crBootStep < 4 →
    ∃ a b c : State, a = (s.measureSources.wr crB Reg.crBootStep 4).wr crB Reg.crRefStatusTreeSrc s.autoTree ∧
      b = (a.wr crB Reg.crRefStatusTbSrc a.autoTb).wr crB Reg.crRefStatusTbPllLock 1 ∧
      c = (b.wr crB Reg.crClkMonEpkPll 1).tbBoot.flashRead ∧
      exec .bootPllLock s = .next (if c.mayTrain then c.wr hpB Title.stateOp opStarting else c)) ∧
  (∀ s : State, s.chip.power = .up → s.clocksUp = true →
    exec .bootPllLock s = .next (s.wr crB Reg.crRefStatusTbPllLock 1)) ∧
  (∀ s : State,
    (s.isSet crB Reg.crStrapsFlQuad = true → s.flashRead =
      State.emit { s with pins := { s.pins with flCsN := false } } (.flash 0x6B 0 8 4 50)) ∧
    (s.isSet crB Reg.crStrapsFlQuad = false → s.flashRead =
      State.emit { s with pins := { s.pins with flCsN := false } } (.flash 0x03 0 0 1 25))) ∧
  (∀ (p : Fin 8) (s : State), (s.plate p).stage = .waitSlot → s.wakeSlotFree p = true → s.chip.sheetsReady = true →
    ∃ w u a b c : State, w = (if (s.plate p).fromQuiet then s.wr (plB p) Title.hostOp opRunning else s) ∧
      u = w.setPlate p { s.plate p with stage := .pllStart } ∧
      a = u.wr crB Reg.crClkMonPlatePll (setBit (u.rd crB Reg.crClkMonPlatePll) p false) ∧
      b = a.wr crB Reg.crPlateRunPowered (setBit (a.rd crB Reg.crPlateRunPowered) p false) ∧
      c = b.wr crB Reg.crPlateRunInReset (setBit (a.rd crB Reg.crPlateRunInReset) p true) ∧
      exec (.plateWakeSlot p) s = .next { c with chip := { c.chip with lastWake := some s.now } }) ∧
  (∀ (p : Fin 8) (s : State), (s.plate p).stage = .pllStart → ∃ a b : State,
      a = s.wr crB Reg.crClkMonPlatePll (setBit (s.rd crB Reg.crClkMonPlatePll) p true) ∧
      b = a.wr crB Reg.crPlateRunPowered (setBit (a.rd crB Reg.crPlateRunPowered) p true) ∧
      exec (.platePllLock p) s =
        .next (if (s.plate p).fromQuiet then b.wakeFromQuiet p else b.setPlate p { s.plate p with stage := .storeInit })) ∧
  (∀ (p : Fin 8) (s : State), (s.plate p).stage = .storeInit →
    exec (.plateStoreInitDone p) s = .next ((s.storeZero p).setPlate p { s.plate p with stage := .kernelInit }) ∧
    (s.Inv → ∀ line < 2 ^ 21, (s.storeZero p).lineErr p line = 0)) ∧
  (∀ (p : Fin 8) (s : State), (s.plate p).stage = .kernelInit →
    ∃ (v : PlateInt) (a b : State),
    v = { stage := .out, patchRam := s.chip.patch, ticks := (s.plate p).ticks, burnishAt := s.now } ∧
    a = (((((((s.hatchReady p).setPlate p v).wr (gcB p) Reg.gcKernelPatchId ((s.chip.patch.map Patch.id).getD 0)).wr crB
      Reg.crPlateRunInReset (setBit (s.rd crB Reg.crPlateRunInReset) p false)).wr (plB p) Title.stateOp opOff).raise
      (plB p) 0).raise siteB 0) ∧ b = (if (s.plate p).faultReset then a.raise (plB p) 1 else a).raise crB 4 ∧
    exec (.plateKernelInitDone p none) s = .next b ∧
    (∀ g : Fin 4, exec (.plateKernelInitDone p (some (.rom g))) s = .next (b.plateFault p 4 g 0)) ∧
    exec (.plateKernelInitDone p (some .patchRam)) s = .next (b.plateFault p 2 0 0)) ∧
  (∀ s : State, s.chip.power = .booting → s.chip.sheetsReady = true → s.allPlatesOut = true →
    ∃ a : State, a = ((s.wr crB Reg.crBootStep 9).wr crB Reg.crBootDone 1).wr crB Reg.crBootTimeBootMs
        (min 0xFFFF ((s.now - s.chip.bootFrom) / msNs)) ∧
      exec .bootDone s = .next (State.raise { a with
        chip := { s.chip with power := .up }, pins := { s.pins with almN := true } } crB 5))

/-- The lock holder's write of a plate's HOST_STATE stores the code, with mode 0x00, and ends a hold. RUNNING takes
an OFF plate to STARTING, starts its timekeeper with it and asks for its base grant, and changes nothing more on a
RUNNING plate. OFF takes a RUNNING plate to STOPPING and withdraws a STARTING plate's request. QUIET takes a RUNNING
plate to STOPPING with a quiet request from now on, and changes nothing more in any other state. The graver
cluster's HOST_STATE only records the code. (02_sheets.md R73; 05_plates.md R196; 20_power_sleep.md R663;
20_power_sleep.md R664) -/
def Obligations.PlateIntentStartsStopsAndQuietsThePlate : Prop :=
  (∀ (fn : Fin 65) (p : Fin 8) (data : Word) (s : State), s.lockedWrite fn (plB p) (plB p + 0x20) = true →
    ∃ a : State, a = s.storeIntent (plB p) (intentOp data.toNat) 0 ∧
      (intentOp data.toNat = opRunning → a.plateOp p = opOff → ∃ u : State,
        u = (if (a.tk p).own || (a.tk p).offset != 0 then a.adopt p else a) ∧
        exec (.plateHostStateWrite fn p data) s = .next (((u.setPlateOp p opStarting).tkStarts p).ask (.base p))) ∧
      (intentOp data.toNat = opRunning → a.plateOp p = opRunning → a.enteringQuiet p = false →
        exec (.plateHostStateWrite fn p data) s = .next a) ∧
      (intentOp data.toNat = opOff → a.plateOp p = opRunning →
        exec (.plateHostStateWrite fn p data) s = .next ((a.releasePlate p).setPlateOp p opStopping)) ∧
      (intentOp data.toNat = opOff → a.plateOp p = opStarting →
        exec (.plateHostStateWrite fn p data) s = .next (a.plateStartEnds p)) ∧
      (intentOp data.toNat = opQuiet → a.plateOp p = opRunning → ∃ b : State,
        b = (a.releasePlate p).setPlateOp p opStopping ∧
        exec (.plateHostStateWrite fn p data) s = .next { b with quietReqs := Sparse.ins b.quietReqs p b.now }) ∧
      (intentOp data.toNat = opQuiet → a.plateOp p ≠ opRunning →
        exec (.plateHostStateWrite fn p data) s = .next a)) ∧
  (∀ (fn : Fin 65) (p : Fin 8) (data : Word) (s : State), s.lockedWrite fn (gcB p) (gcB p + 0x20) = true →
    exec (.graverClusterHostStateWrite fn p data) s = .next (s.storeIntent (gcB p) (intentOp data.toNat) 0)) ∧
  (∀ data : Nat, intentOp data = opOff ∨ intentOp data = opRunning ∨ intentOp data = opQuiet)

/-- The request that is served next is a pending one, and none that is pending stands before it in the order of
R660. It is withdrawn, and granted exactly where it fits under the ceiling, else refused; a granted base request
gives the plate its grant, a granted lane request its units, a refused base request is announced. A STARTING plate
or port without its grant, not asking, asks again 10 ms after the last refusal. (20_power_sleep.md R654;
20_power_sleep.md R658; 20_power_sleep.md R660; 20_power_sleep.md R661; 05_plates.md R196) -/
def Obligations.ArbiterServesPendingRequestsInOrder : Prop :=
  (∀ (q : GrantReq) (s : State), nextGrant s.arb = some q →
    q ∈ s.arb ∧ (∀ r ∈ s.arb, grantKey q ≤ grantKey r) ∧
    (s.grantFits q = true → exec .arbiterAnswer s = .next ((s.withdraw q).grantTaken q).noteCeiling) ∧
    (s.grantFits q = false → exec .arbiterAnswer s = .next ((s.withdraw q).grantRefused q).noteCeiling)) ∧
  (∀ (p : Nat) (s : State), s.grantTaken (.base p) = s.setPlate p { s.plate p with baseGrant := true } ∧
    (∀ u, s.grantTaken (.lane p u) = { s with laneGrants := Sparse.put 0 s.laneGrants p u }) ∧
    s.grantRefused (.base p) = (s.setPlate p { s.plate p with baseAskedAt := s.now }).raise paB 3) ∧
  (∀ (p : Fin 8) (s : State), s.wantsBase p = true → (s.plate p).baseAskedAt + 10 * msNs ≤ s.now →
    exec (.baseGrantRetry p) s = .next (s.ask (.base p))) ∧
  (∀ (p : Fin 8) (s : State), s.wantsLane p = true → (s.port p).laneAskedAt + 10 * msNs ≤ s.now →
    exec (.laneGrantRetry false p) s = .next (s.askLane p)) ∧
  (∀ (l : Fin 8) (s : State), l.val < 4 → s.laneEnabled l = true → bitAt s.epkGrants l = false →
    s.asking (.epkLane l) = false → (s.ekLane l).askedAt + 10 * msNs ≤ s.now →
    exec (.laneGrantRetry true l) s = .next (s.ask (.epkLane l)))

/-- At a new whole millisecond of its timekeeper, a plate that is out of reset and not QUIET counts the frame tick,
serves its channels, and enters quiet mode when it is local and ready, or else runs the frame; for a plate that is
not, or before that millisecond, nothing happens. A running graver that misses the deadline of its open channel has
that channel's packets skipped, its last frame repeated on the highway, and the frame counted once, and at the
limit, unless a debug state disables it, the plate faults. When a burnishing read is due, the next line is read with
the bits that have changed in it since, and those injected; otherwise nothing is read. A read of a line with no
wrong bit does nothing, one with one wrong bit corrects it, counts and announces it and writes it back, and one with
more is counted and announced as uncorrectable. GC_DEBUG by the lock holder stores the halts outside FIELD and 0 in
FIELD. A plate that stops with no quiet request and no channel or operation left gives up its base grant and is OFF.
(05_plates.md R176; 05_plates.md R177; 05_plates.md R178; 05_plates.md R179; 05_plates.md R182; 05_plates.md R184;
05_plates.md R196; 05_plates.md R200; 20_power_sleep.md R663) -/
def Obligations.FrameTickOverrunsBurnishingAndStop : Prop :=
  (∀ (p : Fin 8) (media : List FrameIn) (fault : Option KernelFault) (s : State),
    ((s.plate p).stage = .out → s.plateOp p ≠ opQuiet → s.tickDue p = true → ∃ a : State, a = s.tickStart p media ∧
      exec (.frameTick p media fault) s =
        .next (if a.quietReady p && !a.coordinated p then a.enterQuiet p else a.tickFrame p media fault)) ∧
    ((s.plate p).stage ≠ .out ∨ s.plateOp p = opQuiet ∨ s.tickDue p = false → exec (.frameTick p media fault) s = .next s)) ∧
  (∀ (p : Fin 8) (v : Fin 4) (ch : Fin 256) (s : State), s.graverRuns p v = true →
    s.chOpen (256 * p.val + ch.val) = true →
    (s.chan (256 * p.val + ch.val)).graver = v.val → ∃ a : State,
      a = ((s.skipPackets (256 * p.val + ch.val)).repeatFrame (256 * p.val + ch.val)).countOverrun p v ∧
      ((a.graver p v).overruns < a.rd (gcB p) Reg.gcOvrLimitLimit → exec (.graverOverrun p v ch) s = .next a) ∧
      (a.rd (gcB p) Reg.gcOvrLimitLimit ≤ (a.graver p v).overruns →
        (a.isSet (gcB p) Reg.gcOvrLimitDisable && a.debugState) = false →
        exec (.graverOverrun p v ch) s = .next (a.plateFault p 3 v 0)) ∧
      ((a.isSet (gcB p) Reg.gcOvrLimitDisable && a.debugState) = true → exec (.graverOverrun p v ch) s = .next a)) ∧
  (∀ (p : Fin 8) (flips : BitVec 44) (s : State), s.burnishDue p = true →
    exec (.burnishRead p flips) s = .next (s.burnish p flips.toNat) ∧
    (s.rd (psB p) Reg.psInjectLine ≠ s.rd (psB p) Reg.psPassLine → ∃ a b : State,
      a = (s.setPlate p { s.plate p with burnishAt := s.now }).wr (psB p) Reg.psPassLine ((s.rd (psB p) Reg.psPassLine + 1) % 2 ^ 21) ∧
      b = (a.flipLine p (s.rd (psB p) Reg.psPassLine) flips.toNat).flipLine p (s.rd (psB p) Reg.psPassLine) 0 ∧
      exec (.burnishRead p flips) s = .next (b.readLine p (s.rd (psB p) Reg.psPassLine) true))) ∧
  (∀ (p : Fin 8) (flips : BitVec 44) (s : State), s.burnishDue p = false → exec (.burnishRead p flips) s = .next s) ∧
  (∀ (p line : Nat) (s : State), ∃ a : State,
    a = (s.wr (psB p) Reg.psLastErrLine line).wrB (psB p) Reg.psLastErrByBurnish true ∧
    (onesIn 44 (s.lineErr p line) = 0 → s.readLine p line true = s) ∧
    (onesIn 44 (s.lineErr p line) = 1 → s.readLine p line true =
      (((a.wr (psB p) Reg.psLastErrKind 1).bump (psB p) Reg.psCorrCorrected).raise (psB p) 0).setLineErr p line 0) ∧
    (2 ≤ onesIn 44 (s.lineErr p line) → s.readLine p line true =
      ((a.bump (psB p) Reg.psCorrUncorrected).raise (psB p) 1).storeLost p line)) ∧
  (∀ (fn : Fin 65) (p : Fin 8) (data : Word) (s : State), s.lockedWrite fn (gcB p) (gcB p + 0x48) = true →
    s.fuses.lc = 2 → exec (.graverDebugHaltWrite fn p data) s = .next (s.wr (gcB p) Reg.gcDebugHalt 0)) ∧
  (∀ (fn : Fin 65) (p : Fin 8) (data : Word) (s : State), s.lockedWrite fn (gcB p) (gcB p + 0x48) = true →
    s.fuses.lc ≠ 2 → s.Inv →
    ∃ t, exec (.graverDebugHaltWrite fn p data) s = .next t ∧ t.rd (gcB p) Reg.gcDebugHalt = bitsOf data.toNat 0 4) ∧
  (∀ (p : Fin 8) (s : State), s.plateOp p = opStopping → Sparse.find? s.quietReqs p = none →
    s.activeIn p (p + 1) = false → s.plateInFlight p = 0 → ∃ a b : State, a = s.haltGravers p ∧
      b = (a.setPlate p { a.plate p with baseGrant := false }).setPlateOp p opOff ∧
      exec (.plateStopComplete p) s =
        .next (if b.rd (plB p) Title.hostOp = opRunning then b.plateStart p else b))

/-- From the PF as lock holder, within 1 ms of the first word, the three words advance the sequence, and the third
is judged: while the fuse programmer works the result is busy; a target that is not the next state, or one while a
transition is pending, is illegal; RETURNED without a verified request is refused; otherwise the transition begins.
Any other word, and a sequence that has gone past 1 ms, resets the sequence with result sequence. When the fuse
verifies, the target is blown and pending, the sensed state stays, and req_done is set; when it does not, the result
is fuse_fail. (19_life_cycle.md R629; 19_life_cycle.md R630; 19_life_cycle.md R631; 19_life_cycle.md R632) -/
def Obligations.LifeCycleRequestSequenceIsJudged : Prop :=
  (∀ (w : Word) (s : State), s.lockedWrite 0 lcB (lcB + 0x54) = true → s.reqLate = false →
    (s.life.seq.taken = 0 → 0x4C430000 ≤ w.toNat → w.toNat ≤ 0x4C430003 →
      exec (.lifecycleRequestWord 0 w) s = .next { s with life := { s.life with
        seq := { taken := 1, target := w.toNat - 0x4C430000, start := s.now } } }) ∧
    (s.life.seq.taken = 1 → w.toNat = 0xA55A →
      exec (.lifecycleRequestWord 0 w) s = .next { s with life := { s.life with seq := { s.life.seq with taken := 2 } } }) ∧
    (s.life.seq.taken = 2 → w.toNat = 0xFFFFFFFF - (0x4C430000 + s.life.seq.target) → ∃ a : State,
      a = { s with life := { s.life with seq := {} } } ∧
      (s.life.job ≠ .idle →
        exec (.lifecycleRequestWord 0 w) s = .next ((a.wr lcB Reg.lcReqStatusResult 6).raise lcB 2)) ∧
      (s.life.job = .idle → s.isSet lcB Reg.lcStatePending = true ∨ s.life.seq.target ≠ s.fuses.lc + 1 →
        exec (.lifecycleRequestWord 0 w) s = .next ((a.wr lcB Reg.lcReqStatusResult 2).raise lcB 2)) ∧
      (s.life.job = .idle → s.isSet lcB Reg.lcStatePending = false → s.life.seq.target = s.fuses.lc + 1 →
        s.life.seq.target = 3 → s.isSet lcB Reg.lcStateRtmArmed = false →
        exec (.lifecycleRequestWord 0 w) s = .next ((a.wr lcB Reg.lcReqStatusResult 4).raise lcB 2)) ∧
      (s.life.job = .idle → s.isSet lcB Reg.lcStatePending = false → s.life.seq.target = s.fuses.lc + 1 →
        s.life.seq.target < 3 → exec (.lifecycleRequestWord 0 w) s =
          .next { a with life := { a.life with job := .transition s.life.seq.target } })) ∧
    (s.life.seq.taken = 0 → w.toNat < 0x4C430000 ∨ 0x4C430003 < w.toNat →
      exec (.lifecycleRequestWord 0 w) s = .next s.resetLcSequence)) ∧
  (∀ s : State, s.reqLate = true → exec .lifecycleRequestTimeout s = .next s.resetLcSequence) ∧
  (∀ (target : Nat) (s : State), s.life.job = .transition target → ∃ u t : State,
    u = { s with life := { s.life with job := .idle }, fusesBlown := { s.fusesBlown with lc := target } } ∧
    t = (((u.wr lcB Reg.lcStatePendState target).wr lcB Reg.lcStatePending 1).wr lcB Reg.lcReqStatusResult 1).raise lcB 2 ∧
    exec (.transitionFuseDone true) s = .next t ∧ t.fuses = s.fuses) ∧
  (∀ (target : Nat) (s : State), s.life.job = .transition target → s.Inv → ∃ t : State,
    exec (.transitionFuseDone false) s = .next t ∧ t.rd lcB Reg.lcReqStatusResult = 5 ∧
    (t.fusesBlown.lc = s.fusesBlown.lc ∨ t.fusesBlown.lc = target) ∧ t.fuses = s.fuses)

/-- From every state that meets the invariant, rtm_armed reads 0 after a chip reset, after a power-on reset, after a
write of any word of the image by any function that gets through, whether or not its master holds the lock, and
after the third word of a request that begins the transition to RETURNED. (R636) -/
def Obligations.ReturnToMakerRequestIsDisarmed : Prop :=
  ∀ s : State, s.Inv →
    (s.chip.power ≠ .por → ∃ t, exec .supplyDip s = .next t ∧ t.rd lcB Reg.lcStateRtmArmed = 0) ∧
    (∃ t, exec .porNAssert s = .next t ∧ t.rd lcB Reg.lcStateRtmArmed = 0) ∧
    (∀ (fn : Fin 65) (w : Fin 32) (data : Word), s.writesThrough fn (lcB + 0x100 + 4 * w.val) = true →
      ∃ t, exec (.rtmImageWrite fn w data) s = .next t ∧ t.rd lcB Reg.lcStateRtmArmed = 0) ∧
    (∀ w : Word, s.lockedWrite 0 lcB (lcB + 0x54) = true → s.reqLate = false → s.life.seq.taken = 2 →
      w.toNat = 0xFFFFFFFF - (0x4C430000 + s.life.seq.target) → s.life.job = .idle →
      s.isSet lcB Reg.lcStatePending = false → s.life.seq.target = s.fuses.lc + 1 → s.life.seq.target = 3 →
      s.isSet lcB Reg.lcStateRtmArmed = true →
      ∃ t, exec (.lifecycleRequestWord 0 w) s = .next t ∧ t.rd lcB Reg.lcStateRtmArmed = 0 ∧ t.life.job = .transition 3)

/-- The lock holder's write stores a word of the image and clears rtm_armed; another master's write only clears it.
The lock holder's go starts the check. When the check ends, busy clears, the result is the first failing check in
the order of R635, or ok, which alone arms the request, and rtm_done is set; outside FIELD the result is 2.
(19_life_cycle.md R634; 19_life_cycle.md R635; 19_life_cycle.md R636) -/
def Obligations.ReturnToMakerImageIsStoredAndChecked : Prop :=
  (∀ (fn : Fin 65) (w : Fin 32) (data : Word) (s : State), s.writesThrough fn (lcB + 0x100 + 4 * w.val) = true →
    (s.lockOwner lcB = masterOfFn fn → exec (.rtmImageWrite fn w data) s =
      .next ((s.wr lcB Reg.lcRtmImgWord data.toNat w).wr lcB Reg.lcStateRtmArmed 0)) ∧
    (s.lockOwner lcB ≠ masterOfFn fn → exec (.rtmImageWrite fn w data) s = .next (s.wr lcB Reg.lcStateRtmArmed 0))) ∧
  (∀ (fn : Fin 65) (s : State), s.lockedWrite fn lcB (lcB + 0x84) = true →
    exec (.rtmVerifyGo fn) s = .next (s.wr lcB Reg.lcRtmStatusBusy 1)) ∧
  (∀ s : State, s.isSet lcB Reg.lcRtmStatusBusy = true →
    (s.rtmResult = 1 → exec .rtmVerifyDone s =
      .next ((((s.wr lcB Reg.lcRtmStatusBusy 0).wr lcB Reg.lcRtmStatusResult 1).wr lcB Reg.lcStateRtmArmed 1).raise lcB 1)) ∧
    (s.rtmResult ≠ 1 → exec .rtmVerifyDone s =
      .next (((s.wr lcB Reg.lcRtmStatusBusy 0).wr lcB Reg.lcRtmStatusResult s.rtmResult).raise lcB 1)) ∧
    (s.fuses.lc ≠ 2 → s.rtmResult = 2))

/-- The lock holder's FUSE_CMD with confirm 0x5A starts programming the group with the stored value, or reports busy
while the programmer works; any other confirm is ignored. When programming ends, a group that the sensed state does
not admit has result 2, a value group whose lock is blown result 3, the last production key revoked result 4, and
nothing is blown; a group that is admitted and verifies blows exactly its own fuses, the bitwise OR with what was
blown, and leaves the sensed fuses; a failure blows at most what was to be blown. Always busy clears and fuse_done
is set. (19_life_cycle.md R640; 19_life_cycle.md R641; 19_life_cycle.md R642; 19_life_cycle.md R643) -/
def Obligations.OptionFusesAreBlownOnlyUpward : Prop :=
  (∀ (fn : Fin 65) (data : Word) (s : State), s.lockedWrite fn lcB (lcB + 0x60) = true →
    (bitsOf data.toNat 24 8 ≠ 0x5A → exec (.fuseProgramCmd fn data) s = .next s) ∧
    (bitsOf data.toNat 24 8 = 0x5A → s.life.job ≠ .idle → exec (.fuseProgramCmd fn data) s =
      .next (((s.wr lcB Reg.lcFuseStatusGroup (min 7 (bitsOf data.toNat 0 4))).wr lcB Reg.lcFuseStatusResult 6).raise lcB 0)) ∧
    (bitsOf data.toNat 24 8 = 0x5A → s.life.job = .idle → ∃ a : State,
      a = s.wr lcB Reg.lcFuseStatusGroup (min 7 (bitsOf data.toNat 0 4)) ∧ exec (.fuseProgramCmd fn data) s =
        .next (State.wr { a with life := { a.life with
          job := .option (min 7 (bitsOf data.toNat 0 4)) (s.rd lcB Reg.lcFuseDataValue) } } lcB Reg.lcFuseStatusBusy 1))) ∧
  (∀ (g v : Nat) (ok : Bool) (s : State), s.life.job = .option g v → s.Inv →
    ∃ t, exec (.fuseProgramDone ok) s = .next t ∧ t.rd lcB Reg.lcFuseStatusBusy = 0 ∧ t.life.job = .idle ∧
      t.fuses = s.fuses ∧ bitAt (t.rd lcB Title.event) 0 = true ∧ s.fusesBlown.Within t.fusesBlown ∧
      t.fusesBlown.lc = s.fusesBlown.lc ∧
      (g = 0 ∨ (g = 1 ∧ s.fuses.lc ≠ 0) ∨ ((g = 3 ∨ g = 4) ∧ s.fuses.lc = 3) →
        t.rd lcB Reg.lcFuseStatusResult = 2 ∧ t.fusesBlown = s.fusesBlown) ∧
      (ok = true → g = 2 → t.fusesBlown = { s.fusesBlown with plateDis := s.fusesBlown.plateDis ||| v % 256 }) ∧
      (ok = true → g = 3 → s.fuses.lc ≠ 3 → s.fusesBlown.ceilLock = false →
        t.fusesBlown = { s.fusesBlown with ceil := s.fusesBlown.ceil ||| clampNat 1 1600 v, ceilLock := true }) ∧
      (g = 3 → s.fuses.lc ≠ 3 → s.fusesBlown.ceilLock = true →
        t.rd lcB Reg.lcFuseStatusResult = 3 ∧ t.fusesBlown = s.fusesBlown) ∧
      (g = 6 → s.fusesBlown.keyRev ||| v % 16 = 15 →
        t.rd lcB Reg.lcFuseStatusResult = 4 ∧ t.fusesBlown = s.fusesBlown))

/-- An instruction is selected, or BYPASS where the sensed life-cycle state does not allow it: DEBUG not in FIELD, a
maker test only in MAKER and RETURNED. TRST_N selects IDCODE. IDCODE shifts the identification register out,
SAMPLE_PRELOAD the balls' levels, and it and EXTEST take the cells. Nothing else of the machine changes.
(19_life_cycle.md R628; 19_life_cycle.md R646; 19_life_cycle.md R647; 19_life_cycle.md R648; 19_life_cycle.md R649) -/
def Obligations.TestAccessPortSelectsAndShifts : Prop :=
  ∀ s : State,
    exec .trstNAssert s = .next { s with tap := { s.tap with instr := .idcode, trstN := false } } ∧
    exec .idcode s = .next { s with tap := { s.tap with instr := .idcode, trstN := true }, out := .tdo 0x12048D6F :: s.out } ∧
    exec .clamp s = .next { s with tap := { s.tap with instr := .clamp, trstN := true } } ∧
    exec .highz s = .next { s with tap := { s.tap with instr := .highz, trstN := true } } ∧
    exec .bypass s = .next { s with tap := { s.tap with instr := .bypass, trstN := true } } ∧
    (s.fuses.lc ≠ 2 → exec .debug s = .next { s with tap := { s.tap with instr := .debug, trstN := true } }) ∧
    (s.fuses.lc = 2 → exec .debug s = .next { s with tap := { s.tap with instr := .bypass, trstN := true } }) ∧
    (∀ code : Fin 32, (s.fuses.lc = 0 ∨ s.fuses.lc = 3 →
        exec (.makerTest code) s = .next { s with tap := { s.tap with instr := .makerTest code, trstN := true } }) ∧
      (s.fuses.lc = 1 ∨ s.fuses.lc = 2 →
        exec (.makerTest code) s = .next { s with tap := { s.tap with instr := .bypass, trstN := true } })) ∧
    (∀ cells : List Bool,
      exec (.extest cells) s = .next { s with tap := { instr := .extest, trstN := true, cells := cells } }) ∧
    (∀ balls cells : List Bool, exec (.samplePreload balls cells) s =
      .next { s with tap := { instr := .samplePreload, trstN := true, cells := cells }, out := .tdo (bitsVal balls) :: s.out })

/-- While DEBUG is selected and the plate is out of reset: a halt stops a graver that DEBUG had not halted (where a
running graver stops is a free value within its code addresses; a stopped one keeps its program counter), a resume
ends that halt, and a single step of a halted, unfrozen graver of a released plate moves its program counter to a
free value. An access of a frozen graver only counts as a repeat; one to an unmapped address is an access violation
of the graver; a read of a stopped graver's program counter answers it, any other read answers a free value, and a
write within reach changes nothing that the block holds. (17_masters_freeze.md R581; 05_plates.md R171; 05_plates.md
R172; 05_plates.md R200; 19_life_cycle.md R649) -/
def Obligations.DebuggerHaltsResumesStepsAndAccesses : Prop :=
  ∀ (p : Fin 8) (g : Fin 4) (s : State), s.tapDebug p = true →
    ((s.graver p g).haltTap = false → s.graverRuns p g = false → exec (.debugHalt p g) s =
      .next (s.setGraver p g { s.graver p g with haltTap := true })) ∧
    ((s.graver p g).haltTap = false → s.graverRuns p g = true → exec (.debugHalt p g) s =
      .next (State.setGraver { s with draws := s.draws + 1 } p g
        { s.graver p g with haltTap := true, pc := codeAddr (Config.freeNat s.draws) })) ∧
    exec (.debugResume p g) s = .next (s.setGraver p g { s.graver p g with haltTap := false }) ∧
    (s.graverHalted p g = true → s.isFrozen (masterGraver p g) = false → s.graversReleased p = true →
      exec (.debugSingleStep p g) s = .next (State.setGraver { s with draws := s.draws + 1 } p g
        { s.graver p g with pc := codeAddr (Config.freeNat s.draws) })) ∧
    (s.isFrozen (masterGraver p g) = true → ∀ (target : DebugTarget) (write : Bool),
      exec (.debugAccess p g target write) s = .next (s.countRepeat (masterGraver p g))) ∧
    (s.isFrozen (masterGraver p g) = false →
      (∀ (a : Nat) (write : Bool), exec (.debugAccess p g (.unmapped a) write) s =
        .next ((s.violate (masterGraver p g) vDecode (if write then 5 else 4) (some p) a 0).settleGraver p g)) ∧
      (∀ a : Nat, exec (.debugAccess p g (.rom a) true) s =
        .next ((s.violate (masterGraver p g) vDecode 5 (some p) a 0).settleGraver p g)) ∧
      (∀ a : Nat, exec (.debugAccess p g (.mapped a) true) s = .next s) ∧
      (∀ a : Nat, exec (.debugAccess p g (.mapped a) false) s =
        .next { s with draws := s.draws + 1, out := .tdo (Config.freeNat s.draws) :: s.out }) ∧
      (s.graverRuns p g = false →
        exec (.debugAccess p g .pc false) s = .next { s with out := .tdo (s.graver p g).pc :: s.out }))

/-- During the boot, with the PLLs locked and the sheets not ready, the end of the bundle read deselects the flash,
takes the bundle and makes the sheets ready with step 8. The reason and the patch status are those of the first
check that fails: a failed read 2 and 6; an erased flash 0 and 0; a wrong magic 3 and 5. A bundle that is not
accepted leaves no patch. (04_clocks_resets_startup.md R159; 04_clocks_resets_startup.md R162; 05_plates.md R180;
19_life_cycle.md R644; 19_life_cycle.md R645) -/
def Obligations.PatchBundleIsJudgedAtBoot : Prop :=
  (∀ (readOk : Bool) (header payload : List Byte) (s : State), s.chip.power = .booting → s.clocksUp = true →
    s.chip.sheetsReady = false → ∃ t : State, t = { s with pins := { s.pins with flCsN := true } } ∧
      exec (.bootBundleReadDone readOk header payload) s = .next (t.takeBundle (readOk && header.length == 128) header payload).sheetsBecomeReady) ∧
  (∀ (readOk : Bool) (h payload : List Byte) (s : State),
    (readOk = false → s.judgeBundle readOk h payload = (2, 6)) ∧
    (readOk = true → leVal (bytesAt h 0 4) = 0xFFFFFFFF ∨ leVal (bytesAt h 0 4) = 0 →
      s.judgeBundle readOk h payload = (0, 0)) ∧
    (readOk = true → leVal (bytesAt h 0 4) ≠ 0xFFFFFFFF → leVal (bytesAt h 0 4) ≠ 0 → leVal (bytesAt h 0 4) ≠ 0x50415431 →
      s.judgeBundle readOk h payload = (3, 5)) ∧
    ((s.judgeBundle readOk h payload).1 ≠ 1 → (s.takeBundle readOk h payload).chip.patch = none))

/-- A BAR0 write that gets through has exactly the effect of the register that the offset means; a BAR0 read that
gets through answers what that register reads and does what its read does. Beyond the end of the BAR, while the link
is up, both are refused as Unsupported Requests. A BAR2 write of an answering function that is not frozen stores a
word of the vector's entry, and a BAR2 read answers it. While no FLR of the PF is in progress a configuration read
of its first double word answers vendor 0x1F2C and device 0x2048, and a configuration write stores Memory Space
Enable and Bus Master Enable. A write or read at an offset that is no multiple of 4 is the other command, and
changes nothing here. (00_scope.md R10; 00_scope.md R7; 03_host_port.md R105; 03_host_port.md R114; 03_host_port.md
R91; 03_host_port.md R99) -/
def Obligations.RequestsReachTheirTarget : Prop :=
  (∀ (fn : Fin 65) (off a : Nat) (data : Word) (s : State), off % 4 = 0 → off < barSize fn → barAddr fn off = some a →
    s.gate fn (some a) true = .go a →
    exec (.registerWrite fn .bar0 off data) s = .next ((s.countAccess fn).writeEffect fn a data.toNat)) ∧
  (∀ (fn : Fin 65) (off a : Nat) (s : State), off % 4 = 0 → off < barSize fn → barAddr fn off = some a →
    s.gate fn (some a) false = .go a →
    exec (.readClear fn .bar0 off) s =
      .next (((s.countAccess fn).readEffect fn a).2.answer fn ((s.countAccess fn).readEffect fn a).1)) ∧
  (∀ (fn : Fin 65) (off : Nat) (data : Word) (s : State), off % 4 = 0 → barSize fn ≤ off → s.linkUp = true →
    exec (.registerWrite fn .bar0 off data) s = .next (s.refuseRequest fn false) ∧
    exec (.readClear fn .bar0 off) s = .next (s.refuseRequest fn true)) ∧
  (∀ (fn : Fin 65) (vec : Nat) (data : Word) (s : State), s.linkUp = true → s.fnAnswers fn = true →
    (fn.val ≠ 0 → s.plateEnabled ((fn.val - 1) / 8) = true) → s.isFrozen (masterOfFn fn) = false → vec < vectorsOf fn →
    exec (.registerWrite fn .bar2 (16 * vec) data) s =
      .next (s.setVector fn vec { s.vector fn vec with addrLo := data.toNat - data.toNat % 4 }) ∧
    exec (.registerWrite fn .bar2 (16 * vec + 4) data) s =
      .next (s.setVector fn vec { s.vector fn vec with addrHi := data.toNat }) ∧
    exec (.registerWrite fn .bar2 (16 * vec + 8) data) s =
      .next (s.setVector fn vec { s.vector fn vec with data := data.toNat }) ∧
    exec (.readClear fn .bar2 (16 * vec + 8)) s =
      .next ((s.countAccess fn).answer fn (s.vector fn vec).data)) ∧
  (∀ (data : Word) (s : State), s.cfgAnswers = true → s.flrBusy 0 = false →
    exec (.readClear 0 .cfg 0) s = .next (s.emit (.cfgData 0 0x20481F2C)) ∧
    ∃ t, exec (.registerWrite 0 .cfg 4 data) s = .next t ∧ t.pf.mse = bitAt data.toNat 1 ∧ t.pf.bme = bitAt data.toNat 2 ∧
      t.regs = s.regs) ∧
  (∀ (fn : Fin 65) (sp : Space) (off : Nat) (data : Word) (s : State), off % 4 ≠ 0 →
    exec (.registerWrite fn sp off data) s = .next s ∧ exec (.readClear fn sp off) s = .next s)

/-- Where a function's write gets through to a register of a sheet, past its title block, that has no effect of its
own, each field of that register takes its part of the word, in ascending order; only the stored fields of that
register can differ afterwards, and nothing else of the machine does. A field that is read-only, or whose lock the
writer does not hold, does not differ either. (00_scope.md R10; 02_sheets.md R54; 02_sheets.md R55) -/
def Obligations.PlainWriteChangesOneRegisterAlone : Prop :=
  ∀ (fn : Fin 65) (off a i b : Nat) (k : SheetKind) (data : Word) (s : State), off % 4 = 0 → off < barSize fn →
    barAddr fn off = some a → s.writesThrough fn a = true → regionAt a = .sheet k i b → 0x40 ≤ a - b →
    (s.specialWrite fn k i (a - b) data.toNat).isNone = true →
    ∃ t, exec (.registerWrite fn .bar0 off data) s = .next t ∧ t = s.storeWord fn b k.rows (a - b) data.toNat ∧
      s.OnlyRegs t (k.rows.filterMap (fun r => if r.acc = .ro ∨ (r.acc = .rwl ∧ s.mayWriteL (b / 0x1000 * 0x1000) (masterOfFn fn) = false)
        then none else (r.indexAt (a - b)).map (fieldKey b r)))

/-- In every state that meets the invariant, where a function's read of the low word of a 48-bit counter gets
through, it answers bits 31 to 0; the counter is 0 afterwards, or keeps its value on a sheet that counts by the
older rule; and where the same function then reads the shadow register, which still gets through, it is answered the
counter's higher bits. The registers do not change. (00_scope.md R11; 11_frame_mac.md R411; 02_sheets.md R78) -/
def Obligations.CounterLowReadLatchesAndClears : Prop :=
  ∀ (fn : Fin 65) (off a i b : Nat) (s : State), s.Inv → off % 4 = 0 → off < barSize fn → barAddr fn off = some a →
    s.readsThrough fn a = true → regionAt a = .sheet .cnt i b → isCounterLow fn off = true →
    ∃ t, exec (.counter48LowRead fn off) s = .next t ∧
      (∃ o : Output, o = .readData fn (BitVec.ofNat 32 (Sparse.get 0 s.cnt48 a % 2 ^ 32)) ∧ t.out = o :: s.outBefore o) ∧
      (s.isSet b Title.compatPrev = false → Sparse.get 0 t.cnt48 a = 0) ∧
      (s.isSet b Title.compatPrev = true → t.cnt48 = s.cnt48) ∧ t.regs = s.regs ∧
      (barAddr fn (off + 4) = some (a + 4) → t.readsThrough fn (a + 4) = true → ∃ u, exec (.readClear fn .bar0 (off + 4)) t = .next u ∧
        (∃ o : Output, o = .readData fn (BitVec.ofNat 32 (Sparse.get 0 s.cnt48 a / 2 ^ 32)) ∧ u.out = o :: t.outBefore o) ∧ u.cnt48 = t.cnt48)

/-- Where a function's read gets through to a register of a sheet, past its title block, whose read has no effect of
its own and restarts no low-water mark or peak, the answer is what the register holds, with what its views show; of
the stored fields, at most those of that register with access code RC differ afterwards, and of the machine nothing
but those and the answer. (00_scope.md R7; 00_scope.md R10) -/
def Obligations.ReadsClearTheirClearOnReadFields : Prop :=
  ∀ (fn : Fin 65) (off a i b : Nat) (k : SheetKind) (s : State), off % 4 = 0 → off < barSize fn →
    barAddr fn off = some a → s.readsThrough fn a = true → regionAt a = .sheet k i b → 0x40 ≤ a - b → k ≠ .qmgr →
    (s.specialRead k i b (a - b)).isNone = true → (s.wholeWord k i (a - b)).isNone = true →
    ∃ t, exec (.readClear fn .bar0 off) s = .next t ∧
      (∃ o : Output, o = .readData fn (BitVec.ofNat 32 (s.viewWord b k.rows (s.viewsOf k i) (a - b))) ∧ t.out = o :: s.outBefore o) ∧
      State.OnlyRegs s { t with out := s.out }
        (k.rows.filterMap (fun r => if r.acc = .rc then (r.indexAt (a - b)).map (fieldKey b r) else none))

/-- The PF's request within its BAR0 that breaks natural alignment, at an assigned place whose storage is not in a
plate, while the PF answers and is not frozen, freezes the PF with an access violation that records the offset, the
byte enables and the length; a write does nothing else, and a read is answered 0xFFFF_FFFF in each doubleword. An
aligned doubleword request is not this command, and a request to a frozen master changes nothing but the count of
its accesses, and is answered. (00_scope.md R6; 03_host_port.md R104; 17_masters_freeze.md R577;
17_masters_freeze.md R583) -/
def Obligations.MisalignedRequestsAreViolations : Prop :=
  (∀ (off dws : Nat) (be : BitVec 4) (s : State), misaligned off be dws = true → s.linkUp = true → s.fnAnswers 0 = true →
    off < 0x4000000 → isAssigned (off - off % 4) = true → storagePlate (off - off % 4) = none → s.isFrozen 1 = false →
    ∃ v : State, v = s.violate 1 vAccess 1 (plateOfAddr (off - off % 4)) off (mmioHi 0 be.toNat dws) ∧
      exec (.misalignedMmioAccess 0 0 off be dws true) s = .next v ∧ v.isFrozen 1 = true ∧
      exec (.misalignedMmioAccess 0 0 off be dws false) s =
        .next ((s.violate 1 vAccess 0 (plateOfAddr (off - off % 4)) off (mmioHi 0 be.toNat dws)).answerAll 0 0xFFFFFFFF dws)) ∧
  (∀ (fn : Fin 65) (bar : Fin 6) (off : Nat) (write : Bool) (s : State), off % 4 = 0 →
    exec (.misalignedMmioAccess fn bar off 0xF 1 write) s = .next s) ∧
  (∀ (fn : Fin 65) (off dws : Nat) (be : BitVec 4) (s : State), misaligned off be dws = true → s.linkUp = true →
    s.fnAnswers fn = true → off < barSize fn → (fn.val ≠ 0 → s.plateEnabled ((fn.val - 1) / 8) = true) →
    s.isFrozen (masterOfFn fn) = true →
    exec (.misalignedMmioAccess fn 0 off be dws true) s = .next (s.countAccess fn) ∧
    exec (.misalignedMmioAccess fn 0 off be dws false) s = .next ((s.countAccess fn).answerAll fn 0xFFFFFFFF dws))

/-- A write of FZ_UNFREEZE that gets through, by the lock holder, naming a frozen master other than the PF with the
sequence number of its current record, ends that master's freeze; any other write that gets through changes nothing
but the counter unfreeze_ignored, which rises by 1 and saturates: no master's freeze begins or ends. (R586) -/
def Obligations.UnfreezeWritesEndOneFreezeOrAreCounted : Prop :=
  ∀ (fn : Fin 65) (data : Word) (s : State), s.Inv → s.writesThrough fn (fzB + 0x60) = true →
    (s.mayWriteL fzB (masterOfFn fn) = true → s.isFrozen (data.toNat % 256) = true → data.toNat % 256 ≠ 1 →
      (Sparse.find? s.frzCur (data.toNat % 256)).map FrzRec.seq = some (bitsOf data.toNat 16 16) →
      ∃ t, exec (.unfreezeWrite fn data) s = .next t ∧ t.isFrozen (data.toNat % 256) = false ∧
        (∀ m, m ≠ data.toNat % 256 → t.isFrozen m = s.isFrozen m)) ∧
    (¬ (s.mayWriteL fzB (masterOfFn fn) = true ∧ s.isFrozen (data.toNat % 256) = true ∧ data.toNat % 256 ≠ 1 ∧
        (Sparse.find? s.frzCur (data.toNat % 256)).map FrzRec.seq = some (bitsOf data.toNat 16 16)) →
      ∃ t, exec (.unfreezeWrite fn data) s = .next t ∧
        t.rd fzB Reg.fzCountsUnfreezeIgnored = min 255 (s.rd fzB Reg.fzCountsUnfreezeIgnored + 1) ∧
        t.frozen = s.frozen ∧ s.OnlyRegs t [fieldKey fzB Reg.fzCountsUnfreezeIgnored 0])

/-- The read of FZ_REC0 answers the first word of the selected master's current record and captures all of it; the
read of word 0 of a history entry captures that entry. The PF's freeze ends, as an unfreeze does, once pf_hold_ms
always-on ticks have begun since it took hold, and not before. (17_masters_freeze.md R584; 17_masters_freeze.md
R587; 17_masters_freeze.md R588) -/
def Obligations.FreezeRecordsAreCapturedAndThePfFreezeExpires : Prop :=
  (∀ (fn : Fin 65) (s : State), s.readsThrough fn (recordAddr none) = true →
    exec (.freezeRecordRead fn none) s = .next (State.emit { s with
      frzCap := Sparse.get {} s.frzCur (s.rd fzB Reg.fzSelMaster) }
        (.readData fn (BitVec.ofNat 32 ((Sparse.get {} s.frzCur (s.rd fzB Reg.fzSelMaster)).words.headD 0))))) ∧
  (∀ (fn : Fin 65) (h : Fin 16) (s : State), s.readsThrough fn (recordAddr (some h)) = true →
    exec (.freezeRecordRead fn (some h)) s = .next (State.emit { s with
      frzHistCap := Sparse.put {} s.frzHistCap h.val (Sparse.get {} s.frzHist h.val) }
        (.readData fn (BitVec.ofNat 32 ((Sparse.get {} s.frzHist h.val).words.headD 0))))) ∧
  (∀ s : State, s.isFrozen 1 = true →
    (s.rd fzB Reg.fzPfHoldPfHoldMs ≤ s.aonTick - s.pfFrozenTick → exec .pfFreezeExpire s = .next (s.unfreeze 1) ∧
      (s.unfreeze 1).isFrozen 1 = false) ∧
    (s.aonTick - s.pfFrozenTick < s.rd fzB Reg.fzPfHoldPfHoldMs → exec .pfFreezeExpire s = .next s))

/-- The lock holder's intent on the DMA sheet is stored with mode 0x00. A write of TEN_DMA_CTRL that gets through
stores its fields; where dma_en changes by it, the ring's position is to be taken anew and pending operations are
not started. A poll is due poll_us after the last one while the ring is read and the plate has a read tag free; a
poll that is not due changes nothing. A header whose producer is 0, or that gives no position to a ring without one,
is a bad index, counted and announced; any other header gives the producer, and the position where there was none; a
poll that timed out or came back poisoned is counted. A descriptor is read only where the ring is read, with a tag
free, a position short of the producer, no pending operation, and room for another operation in flight; it becomes a
pending operation and the position moves on, or the first check that fails ends it: NOT_ENABLED, refused; BAD_QUEUE
with its violation; OUT_OF_WINDOW, refused with its violation; QUEUE_EMPTY, TOO_LONG or NO_CELLS. A descriptor that
could not be read ends its operation as cpl_timeout or poisoned. (05_plates.md R188; 05_plates.md R189; 05_plates.md
R190; 05_plates.md R191; 05_plates.md R192; 05_plates.md R206; 05_plates.md R787; 03_host_port.md R97) -/
def Obligations.DmaRingsArePolledAndTheirDescriptorsChecked : Prop :=
  (∀ (fn : Fin 65) (p : Fin 8) (data : Word) (s : State), s.lockedWrite fn (dmaB p) (dmaB p + 0x20) = true →
    exec (.dmaHostStateWrite fn p data) s = .next (s.storeIntent (dmaB p) (intentOp data.toNat) 0)) ∧
  (∀ (fn : Fin 65) (t : Fin 64) (data : Word) (s : State), s.writesThrough fn (tenB t + 0x50) = true →
    ∃ u : State, u = s.storeWord fn (tenB t) Reg.tenRows 0x50 data.toNat ∧
      (s.isSet (tenB t) Reg.tenDmaCtrlDmaEn = u.isSet (tenB t) Reg.tenDmaCtrlDmaEn →
        exec (.dmaEnableWrite fn t data) s = .next u) ∧
      (s.isSet (tenB t) Reg.tenDmaCtrlDmaEn ≠ u.isSet (tenB t) Reg.tenDmaCtrlDmaEn → exec (.dmaEnableWrite fn t data) s =
        .next (u.setRing t { ops := (u.ring t).ops.filter (fun o => o.phase != .pending), late := (u.ring t).late, taken := (u.ring t).taken }))) ∧
  (∀ (t : Fin 64) (s : State), s.pollDue t = true ↔ s.ringActs t = true ∧ s.tagFree (t.val / 8) = true ∧
    ∀ x, (s.ring t).pollAt = some x → x + s.rd (dmaB (t.val / 8)) Reg.dmaCfgPollUs * 1000 ≤ s.now) ∧
  (∀ (t : Fin 64) (i : Nat) (s : State), s.descriptorDue t i = true ↔ s.ringActs t = true ∧ s.tagFree (t.val / 8) = true ∧
    (s.ring t).prod ≠ 0 ∧ i ≠ (s.ring t).prod ∧ (∀ o ∈ (s.ring t).ops, o.phase ≠ .pending) ∧ s.roomInFlight t = true) ∧
  (∀ (t : Fin 64) (header : HeaderRead) (s : State), s.pollDue t = false →
    exec (.dmaRingPoll t header) s = .next s) ∧
  (∀ (t : Fin 64) (s : State), s.pollDue t = true → ∃ u : State,
    u = (s.setRing t { s.ring t with pollAt := some s.now }).emit (.dmaRead t (s.winBase t) 32) ∧
    (s.pf.ctoDisable = false → exec (.dmaRingPoll t .timeout) s =
      .next ((u.noteTimeout t).bumpSat (dmaB (t.val / 8)) Reg.dmaCntErrPollFail)) ∧
    (s.pf.ctoDisable = true → exec (.dmaRingPoll t .timeout) s = .next s) ∧
    exec (.dmaRingPoll t .poisoned) s =
      .next ((u.notePoisoned (t.val + 1)).bumpSat (dmaB (t.val / 8)) Reg.dmaCntErrPollFail) ∧
    (∀ dw0 dw1 : Word, bitsOf dw0.toNat 0 7 ≠ 0 →
      (∀ i, (u.ring t).pos = some i → exec (.dmaRingPoll t (.data dw0 dw1)) s =
        .next (u.setRing t { u.ring t with prod := bitsOf dw0.toNat 0 7 })) ∧
      ((u.ring t).pos = none → bitsOf dw1.toNat 0 7 ≠ 0 → exec (.dmaRingPoll t (.data dw0 dw1)) s =
        .next (u.setRing t { u.ring t with pos := some (bitsOf dw1.toNat 0 7), prod := bitsOf dw0.toNat 0 7 }))) ∧
    (∀ (dw0 dw1 : Word) (pos : Option Nat), bitsOf dw0.toNat 0 7 = 0 →
      pos = (if (u.ring t).pos.isNone ∧ bitsOf dw1.toNat 0 7 ≠ 0 then some (bitsOf dw1.toNat 0 7) else (u.ring t).pos) →
      exec (.dmaRingPoll t (.data dw0 dw1)) s = .next (((u.setRing t { u.ring t with pos := pos }).bumpSat (dmaB (t.val / 8))
        Reg.dmaCntErrBadIndex).raise (dmaB (t.val / 8)) 0)) ∧
    (∀ dw0 dw1 : Word, (u.ring t).pos = none → bitsOf dw1.toNat 0 7 = 0 → exec (.dmaRingPoll t (.data dw0 dw1)) s =
      .next (((u.setRing t (u.ring t)).bumpSat (dmaB (t.val / 8)) Reg.dmaCntErrBadIndex).raise (dmaB (t.val / 8)) 0))) ∧
  (∀ (t : Fin 64) (desc : DescRead) (s : State),
    ((s.ring t).pos = none → exec (.dmaDescriptorRead t desc) s = .next s) ∧
    (∀ i, (s.ring t).pos = some i → s.descriptorDue t i = false → exec (.dmaDescriptorRead t desc) s = .next s)) ∧
  (∀ (t : Fin 64) (i : Nat) (dw0 dw1 : Word) (addr : BitVec 64) (cookie : Word) (s : State), (s.ring t).pos = some i →
    s.descriptorDue t i = true → ∃ (o : DmaOp) (u : State),
      o = { descriptorOp i (s.winBase t + 32 * i) dw0.toNat dw1.toNat addr.toNat cookie.toNat with id := (s.ring t).taken } ∧
      u = (s.setRing t { s.ring t with pos := some (nextIdx i), ops := (s.ring t).ops ++ [o], taken := o.id + 1 }).emit
        (.dmaRead t (s.winBase t + 32 * i) 32) ∧
      exec (.dmaDescriptorRead t (.data dw0 dw1 addr cookie)) s = .next ((u.dmaCheck t o).getD u) ∧
      (u.dmaEnabled t = false → u.dmaCheck t o = some (u.dmaRefuse t o.id stNotEnabled 0)) ∧
      (u.dmaEnabled t = true → u.queueAllowed t o = false →
        u.dmaCheck t o = some ((u.dmaEnd t o.id stBadQueue 0).dmaViolate t o.id vBadQueue 7 o.desc)) ∧
      (u.dmaEnabled t = true → u.queueAllowed t o = true →
        (u.inWindow t o.addr o.length = false → u.dmaCheck t o =
          some ((u.dmaRefuse t o.id stOutOfWindow 0).dmaViolate t o.id vWindow (if o.toHost then 3 else 2) o.addr)) ∧
        (u.inWindow t o.addr o.length = true →
          (o.toHost = true → u.queue (t.val / 8) o.queue = [] → u.dmaCheck t o = some (u.dmaEnd t o.id stQueueEmpty 0)) ∧
          (∀ e rest, o.toHost = true → u.queue (t.val / 8) o.queue = e :: rest →
            (o.length < e.bytes.length → u.dmaCheck t o = some (u.dmaEnd t o.id stTooLong e.bytes.length)) ∧
            (e.bytes.length ≤ o.length → u.dmaCheck t o = none)) ∧
          (∀ c, o.toHost = false → c = u.allocRefusal (t.val / 8) o.queue (t.val % 8) (cellsOf o.length) false →
            (c = 0 → u.dmaCheck t o = none) ∧
            (c ≠ 0 → u.dmaCheck t o =
              some ((u.countRefusal (t.val / 8) o.queue (t.val % 8) c).dmaEnd t o.id stNoCells 0)))))) ∧
  (∀ (t : Fin 64) (i : Nat) (s : State), (s.ring t).pos = some i → s.descriptorDue t i = true → ∃ u : State,
    u = s.takeDescriptor t { descriptorOp i (s.winBase t + 32 * i) 0 0 0 0 with id := (s.ring t).taken } ∧
    (s.pf.ctoDisable = false → exec (.dmaDescriptorRead t .timeout) s =
      .next ((u.dmaEnd t (s.ring t).taken stCplTimeout 0).noteTimeout t)) ∧
    (s.pf.ctoDisable = true → exec (.dmaDescriptorRead t .timeout) s = .next s) ∧
    exec (.dmaDescriptorRead t .poisoned) s = .next ((u.dmaEnd t (s.ring t).taken stPoisoned 0).notePoisoned (t.val + 1)))

/-- After the operations in flight have gone on, the first tenant after the last one served, in ascending slot order
and round, that may start an operation has its oldest pending one checked again and started; where none may, nothing
starts. Starting one to the host takes the queue's oldest entry and writes its first TLP; each TLP of it within the
window is issued in its turn (one per command, log entry 34), and with the last one it has ended OK with the entry's
length. Starting one from the host takes its cells and issues its reads as tags allow. Data that arrives past the
end of the timeout's range finds its read timed out. The last data of a read from the host ends the operation OK and
its payload joins the queue, data before it lets the operation go on; data that no read waits for is discarded where
it is late, else it is an Unexpected Completion. The status of the oldest operation, once it has ended, is written
to the host before the consumer index, an OK is counted, and vector 1 follows where the descriptor asks for it; an
operation that has not ended has nothing written. (05_plates.md R193; 05_plates.md R194; 10_cells_queues.md R352;
10_cells_queues.md R355; 10_cells_queues.md R356; 03_host_port.md R101; 03_host_port.md R106) -/
def Obligations.DmaOperationsStartRoundRobinAndEnd : Prop :=
  (∀ (p : Fin 8) (s : State), ∃ a : State, a = s.pumpAll p ∧
    ((∀ k < 8, a.mayStart (8 * p.val + k) = false) → exec (.dmaOperationStart p) s = .next a) ∧
    (∀ k < 8, a.mayStart (8 * p.val + (Sparse.get 7 a.dmaLast p + 1 + k) % 8) = true →
      (∀ j < k, a.mayStart (8 * p.val + (Sparse.get 7 a.dmaLast p + 1 + j) % 8) = false) →
      exec (.dmaOperationStart p) s = .next (a.startOp (8 * p.val + (Sparse.get 7 a.dmaLast p + 1 + k) % 8)))) ∧
  (∀ (t : Nat) (o : DmaOp) (e : Entry) (rest : List Entry) (s u : State), s.nextOp t = some o →
    u = { s with dmaLast := Sparse.put 7 s.dmaLast (t / 8) (t % 8) } → u.dmaCheck t o = none → o.toHost = true →
    s.queue (t / 8) o.queue = e :: rest → s.startOp t =
      (((u.modOp t o.id (fun x => { x with
        phase := .inFlight, cells := e.cells, slot := e.slot, cell := e.cell, data := e.bytes })).setQueue (t / 8) o.queue
        rest).writeOne t o.id)) ∧
  (∀ (t : Nat) (o : DmaOp) (s u : State), s.nextOp t = some o →
    u = { s with dmaLast := Sparse.put 7 s.dmaLast (t / 8) (t % 8) } → u.dmaCheck t o = none → o.toHost = false → ∃ a : State,
    a = u.modOp t o.id (fun x => { x with phase := .inFlight, cells := cellsOf o.length, slot := t % 8 }) ∧
    s.startOp t = (((a.notePool (t / 8) (t % 8) (u.poolFree (t / 8))).pump t o.id).pauseCheck (t / 8))) ∧
  (∀ (t id : Nat) (o : DmaOp) (s : State),
    (s.ring t).ops.find? (fun o => o.id == id && o.phase == .inFlight && o.toHost) = some o → s.tenantActs t = true →
    ∃ n : Nat, n = tlpLen (o.addr + o.issued) (o.data.length - o.issued) s.mpsBytes ∧
      (s.inWindow t (o.addr + o.issued) n = false → s.writeOne t id = s.dmaOutOfWindow t o) ∧
      (s.inWindow t (o.addr + o.issued) n = true → ∃ u : State,
        u = (s.modOp t id (fun x => { x with issued := x.issued + n })).emit (.dmaWrite t (o.addr + o.issued)
          ((o.data.drop o.issued).take n) (s.pf.roEn && s.isSet (tenB t) Reg.tenDmaCtrlRoEn)) ∧
        (o.issued + n < o.data.length → s.writeOne t id = u) ∧
        (o.data.length ≤ o.issued + n → s.writeOne t id = u.dmaEnd t id stOk o.data.length))) ∧
  (∀ (t : Fin 64) (idx off : Nat) (data : List Byte) (s : State), s.linkUp = true →
    (∀ o : DmaOp, s.pf.ctoDisable = false → s.waitingOp t idx ((ctoRange s.pf.ctoValue).2 + 1) = some o →
      exec (.dmaReadCompletion t idx off data) s = .next (((s.endOp t o.id 5 0).noteTimeout t).readArrives t idx off data)) ∧
    (s.pf.ctoDisable = true ∨ s.waitingOp t idx ((ctoRange s.pf.ctoValue).2 + 1) = none →
      exec (.dmaReadCompletion t idx off data) s = .next (s.readArrives t idx off data))) ∧
  (∀ (t idx off : Nat) (data : List Byte) (s : State),
    (s.readingOp t idx off = none → s.readArrives t idx off data = s.strayCompletion t idx off) ∧
    (∀ (o : DmaOp) (r : Nat × Nat), s.readingOp t idx off = some o → Sparse.find? o.reads off = some r →
      (data = [] ∨ r.1 < data.length → s.readArrives t idx off data = s.strayCompletion t idx off) ∧
      (data ≠ [] → data.length ≤ r.1 → ∃ (left reads : Sparse (Nat × Nat)) (got : Sparse (List Byte)) (a : State),
        left = Sparse.del o.reads off ∧ got = Sparse.ins o.got off data ∧
        reads = (if data.length = r.1 then left else Sparse.ins left (off + data.length) (r.1 - data.length, r.2)) ∧
        a = s.modOp t o.id (fun x => { x with reads := reads, got := got }) ∧
        (reads = [] → o.length ≤ o.issued → s.readArrives t idx off data =
          (((a.dmaEnd t o.id stOk o.length).deliver (t / 8) o.queue (t % 8) (got.flatMap Prod.snd)).pauseCheck (t / 8))) ∧
        (reads ≠ [] ∨ o.issued < o.length → s.readArrives t idx off data = a.pump t o.id)))) ∧
  (∀ (t idx off : Nat) (s : State),
    ((s.ring t).late.contains (idx, off) = true → s.strayCompletion t idx off =
      s.setRing t { s.ring t with late := (s.ring t).late.erase (idx, off) }) ∧
    ((s.ring t).late.contains (idx, off) = false →
      s.strayCompletion t idx off = s.logAer (t + 1) .unexpectedCompletion)) ∧
  (∀ (t : Fin 64) (o : DmaOp) (rest : List DmaOp) (s : State), (s.ring t).ops = o :: rest →
    (s.mayWriteStatus t o = false → exec (.dmaStatusWrite t) s = .next s) ∧
    (s.mayWriteStatus t o = true → ∃ b c : State,
      b = ((s.setRing t { s.ring t with ops := rest }).emit (.dmaStatus t (s.winBase t + 32 * o.idx + 20)
          (BitVec.ofNat 32 (o.status % 16 + 2 ^ 31)) (BitVec.ofNat 32 (o.doneLen % 2 ^ 17)))).emit
        (.dmaCons t (s.winBase t + 4) (nextIdx o.idx)) ∧
      c = (if o.status = stOk then b.bumpSat (dmaB (t.val / 8)) Reg.dmaCntOpsOps else b) ∧
      exec (.dmaStatusWrite t) s = .next (State.pauseCheck (if o.irq then c.sendMsix (t.val + 1) 1 else c) (t.val / 8))))

/-- A flush frees every entry of the queue but one that the port is sending, and the port tells its peer where that
lifts the pool above the floor (R388). The owner of a steering or general queue is stored only while the queue is
empty and no operation in flight names it; of a transmit or ingress queue the limit alone is stored, at any time. A
steering queue whose relay works, to a queue without a limit, is emptied into the tail of that queue, in order;
without a working relay, or where the head does not fit the limit, nothing moves. (10_cells_queues.md R344;
10_cells_queues.md R345; 10_cells_queues.md R346; 10_cells_queues.md R359; 10_cells_queues.md R366; 11_frame_mac.md
R388) -/
def Obligations.QueuesAreFlushedRelayedAndGivenOwners : Prop :=
  (∀ (fn : Fin 65) (p : Fin 8) (q : Fin 1024) (s : State), s.writesThrough fn (qdB p q + 8) = true →
    ((s.port p).tx = none → exec (.queueFlush fn p q) s = .next ((s.setQueue p q []).pauseCheck p)) ∧
    (∀ f, (s.port p).tx = some f → exec (.queueFlush fn p q) s =
      .next ((s.setQueue p q (if f.queue = q.val then (s.queue p q).take 1 else [])).pauseCheck p))) ∧
  (∀ (fn : Fin 65) (p : Fin 8) (q : Fin 1024) (data : Word) (s : State), s.writesThrough fn (qdB p q + 4) = true →
    (queueKind q = 0 ∨ queueKind q = 2 → exec (.queueOwnerWrite fn p q data) s =
      .next (s.wr (qdB p q) (qdLimitRow q) (bitsOf data.toNat 16 14))) ∧
    (queueKind q ≠ 0 → queueKind q ≠ 2 →
      ((s.queue p q = [] ∧ s.dmaNames p q = false) → exec (.queueOwnerWrite fn p q data) s =
        .next (((s.wr (qdB p q) Reg.qdOwnerSlot (bitsOf data.toNat 0 3)).wr (qdB p q) Reg.qdOwnerOwned (bitsOf data.toNat 3 1)).wr
          (qdB p q) (qdLimitRow q) (bitsOf data.toNat 16 14))) ∧
      (s.queue p q ≠ [] ∨ s.dmaNames p q = true → exec (.queueOwnerWrite fn p q data) s = .next s))) ∧
  (∀ (p : Fin 8) (q : Fin 32) (s : State), s.Inv →
    (s.relayTarget p (8 + q) = none → exec (.steeringRelay p q) s = .next s) ∧
    (∀ r, s.relayTarget p (8 + q) = some r →
      (∀ e rest, s.queue p (8 + q) = e :: rest → s.rd (qdB p r) (qdLimitRow r) ≠ 0 →
        s.rd (qdB p r) (qdLimitRow r) < s.queueCells p r + e.cells → exec (.steeringRelay p q) s = .next s) ∧
      (296 ≤ r → s.rd (qdB p r) (qdLimitRow r) = 0 → ∃ t, exec (.steeringRelay p q) s = .next t ∧
        t.queue p (8 + q) = [] ∧ t.queue p r = s.queue p r ++ s.queue p (8 + q))))

/-- The lock holder's RUNNING starts a port that is OFF or in FAULT, on a plate that sleeps once it wakes, and its
OFF stops one that is STARTING, RUNNING or in FAULT; the intent is stored first, and in any other state nothing more
happens. A module's absence, with which no clock is recovered, is noted and faults the port of a plate that is out
of reset; a transmit fault is noted, and does so once it has lasted 100 µs; the return of either is noted alone.
Where the PCS works, what it reports recovers a clock, and a link reported for the up_hold_ms that applied at
STARTING is declared up on a port that has none: the port is RUNNING and link_up is raised; before that it is not. A
link declared down frees what is on the wire, is counted and announced and starts flap grace; remote fault is kept
at 10G only, and leaves the clock, which any other condition takes. When flap grace is over, every transmit queue is
flushed and grace_expired is raised; before that nothing happens. (11_frame_mac.md R370; 11_frame_mac.md R371;
11_frame_mac.md R372; 11_frame_mac.md R373; 11_frame_mac.md R375; 11_frame_mac.md R376) -/
def Obligations.PortIntentModuleAndLinkStates : Prop :=
  (∀ (fn : Fin 65) (p : Fin 8) (data : Word) (s : State), s.lockedWrite fn (macB p) (macB p + 0x20) = true →
    ∃ u t : State, u = s.storeIntent (macB p) (intentOp data.toNat) 0 ∧
      t = u.setPort p { u.port p with wakeStart := decide (intentOp data.toNat = opRunning ∧
        (s.macOp p = opOff ∨ s.macOp p = opFault ∨ s.macOp p = opQuiet)) && s.plateAsleep p } ∧
    (intentOp data.toNat = opRunning → (s.macOp p = opOff ∨ s.macOp p = opFault ∨ s.macOp p = opQuiet) →
      (s.plateAsleep p = false → exec (.macHostStateWrite fn p data) s = .next (t.startPort p)) ∧
      (s.plateAsleep p = true → exec (.macHostStateWrite fn p data) s = .next t)) ∧
    (intentOp data.toNat = opRunning → s.macOp p ≠ opOff → s.macOp p ≠ opFault → s.macOp p ≠ opQuiet →
      exec (.macHostStateWrite fn p data) s = .next t) ∧
    (intentOp data.toNat = opOff → (s.macOp p = opStarting ∨ s.macOp p = opRunning ∨ s.macOp p = opFault) →
      exec (.macHostStateWrite fn p data) s = .next (t.stopPort p)) ∧
    (intentOp data.toNat = opOff → s.macOp p ≠ opStarting → s.macOp p ≠ opRunning → s.macOp p ≠ opFault →
      exec (.macHostStateWrite fn p data) s = .next t) ∧
    (intentOp data.toNat = opQuiet → (s.macOp p = opStarting ∨ s.macOp p = opRunning) →
      exec (.macHostStateWrite fn p data) s = .next (t.quietPort p)) ∧
    (intentOp data.toNat = opQuiet → s.macOp p ≠ opStarting → s.macOp p ≠ opRunning →
      exec (.macHostStateWrite fn p data) s = .next t)) ∧
  (∀ (p : Fin 8) (ns : Nat) (s : State),
    exec (.moduleAbsent p false) s = .next (s.setPort p { s.port p with abs := false }) ∧
    exec (.moduleTxFault p false ns) s = .next (s.setPort p { s.port p with txFault := false }) ∧
    (s.plateOut p = true → exec (.moduleAbsent p true) s =
        .next (((s.setPort p { s.port p with abs := true }).setRxClock p false).faultPort p) ∧
      (100000 ≤ ns → exec (.moduleTxFault p true ns) s = .next ((s.setPort p { s.port p with txFault := true }).faultPort p))) ∧
    (s.plateOut p = false → exec (.moduleAbsent p true) s = .next (s.setPort p { s.port p with abs := true })) ∧
    (s.plateOut p = false ∨ ns < 100000 →
      exec (.moduleTxFault p true ns) s = .next (s.setPort p { s.port p with txFault := true }))) ∧
  (∀ (p : Fin 8) (s : State), ((s.macOp p = opStarting ∨ s.macOp p = opRunning) → s.heldAt (macB p) = false → s.faultPort p =
      ((((s.linkDown p).setTxIdle p true).setOp (macB p) opFault).raise (macB p) 5).syncELost p) ∧
    ((s.macOp p ≠ opStarting ∧ s.macOp p ≠ opRunning) ∨ s.heldAt (macB p) = true → s.faultPort p = s)) ∧
  (∀ (p : Fin 8) (s : State), s.pcsWorks p = true ↔ (s.macOp p = opStarting ∨ s.macOp p = opRunning) ∧
    s.graversReleased p = true ∧ Sparse.get 0 s.laneGrants p ≠ 0 ∧ s.serdesIdle = false) ∧
  (∀ (p : Fin 8) (speed : Fin 3) (heldNs : Nat) (s : State),
    (s.pcsWorks p = false → exec (.linkUpDeclare p speed heldNs) s = .next s) ∧
    (s.pcsWorks p = true → heldNs < (s.port p).upHoldMs * msNs →
      exec (.linkUpDeclare p speed heldNs) s = .next (s.setRxClock p true)) ∧
    (s.pcsWorks p = true → (s.port p).up = true → s.macOp p = opRunning →
      exec (.linkUpDeclare p speed heldNs) s = .next (s.setRxClock p true)) ∧
    (s.Inv → s.pcsWorks p = true → (s.port p).up = false → (s.port p).upHoldMs * msNs ≤ heldNs →
      ∃ t, exec (.linkUpDeclare p speed heldNs) s = .next t ∧
        t.macOp p = opRunning ∧ (t.port p).up = true ∧ (t.port p).graceFrom = none ∧ (t.port p).graceEnded = false ∧
        (t.port p).waitBoundary = (s.hsOp p == opRunning) ∧ bitAt (t.rd (macB p) Title.event) 1 = true ∧
        bitAt (t.rd crB Reg.crClkMonMacRx) p = true ∧ t.queues = s.queues)) ∧
  (∀ (p : Fin 8) (remote : Bool) (s : State),
    (s.pcsWorks p = false → exec (.linkDownDeclare p remote) s = .next s) ∧
    (s.pcsWorks p = true → ∃ d e : State, d = s.linkDown p ∧
      e = d.setPort p { d.port p with remoteFault := remote && (d.port p).rate == 1 } ∧
      (remote = true → (s.port p).rate = 1 → exec (.linkDownDeclare p remote) s = .next e) ∧
      (remote = false ∨ (s.port p).rate ≠ 1 → exec (.linkDownDeclare p remote) s = .next (e.setRxClock p false))) ∧
    ((s.port p).up = false → s.linkDown p = s) ∧
    ((s.port p).up = true → ∃ a b c : State,
      (∀ f, (s.port p).tx = some f → a = (s.setPort p { s.port p with tx := none }).dropHead p f.queue cTxFlushed) ∧
      ((s.port p).tx = none → a = s) ∧
      ((a.port p).rx = none → b = a) ∧
      ((a.port p).rx ≠ none → b = (a.setPort p { a.port p with rx := none }).count48 p none cRxAlign) ∧
      c = b.setPort p { b.port p with
        up := false, waitBoundary := false, graceFrom := some s.now, graceEnded := false, pauseTill := 0, pauseFrom := none } ∧
      s.linkDown p = ((c.count48 p none cLinkDown).raise (macB p) 0).clearAllHeads p)) ∧
  (∀ (p : Fin 8) (s : State),
    (s.graceOver p = true → ∃ a : State, a = s.flushTqs p ∧ exec (.flapGraceExpire p) s =
      .next ((a.setPort p { a.port p with graceFrom := none, graceEnded := true }).raise (macB p) 2)) ∧
    (s.graceOver p = false → exec (.flapGraceExpire p) s = .next s))

/-- A PAUSE frame on a port that receives is counted; with pause reception off nothing else happens; during the hold
it is counted as ignored; quanta of 0 end the pause, and others set it anew, without restarting the time from which
it has been continuous. The pause ends with its timer; continuous pause past pause_guard ends it too, begins the
hold, is counted and raises pause_guard; the hold ends at its time. A port that sends pause sends its frame when the
pool comes to the floor, repeats it when half of the pause time has passed and the pool is still there, and sends
one of quanta 0 once the pool has risen above the floor by more than 256 cells; a repeat that is not due sends at
most what the pool asks for. (11_frame_mac.md R385; 11_frame_mac.md R386; 11_frame_mac.md R387; 11_frame_mac.md
R388; 11_frame_mac.md R389) -/
def Obligations.PauseFramesStopTheTransmitterForATime : Prop :=
  (∀ (p : Fin 8) (quanta : BitVec 16) (s : State),
    (s.receives p = false → exec (.pauseFrameReceived p quanta) s = .next s) ∧
    (s.receives p = true → ∃ t : State, t = s.count48 p none cRxPause ∧
      (t.isSet (macB p) Reg.macPauseRxEn = false → exec (.pauseFrameReceived p quanta) s = .next t) ∧
      (t.isSet (macB p) Reg.macPauseRxEn = true →
        (t.now < (t.port p).holdTill → exec (.pauseFrameReceived p quanta) s = .next (t.count48 p none cPauseIgnored)) ∧
        ((t.port p).holdTill ≤ t.now → quanta.toNat = 0 → exec (.pauseFrameReceived p quanta) s =
          .next (t.setPort p { t.port p with pauseTill := 0, pauseFrom := none })) ∧
        ((t.port p).holdTill ≤ t.now → quanta.toNat ≠ 0 → exec (.pauseFrameReceived p quanta) s =
          .next (t.setPort p { t.port p with
            pauseTill := t.now + t.quantaNs p quanta.toNat
            pauseFrom := if t.now < (t.port p).pauseTill then (t.port p).pauseFrom else some t.now }))))) ∧
  (∀ (p : Fin 8) (s : State),
    ((s.port p).pauseFrom.isSome = true → (s.port p).pauseTill ≤ s.now → exec (.pauseTimerExpire p) s =
      .next (s.setPort p { s.port p with pauseTill := 0, pauseFrom := none })) ∧
    (s.now < (s.port p).pauseTill → exec (.pauseTimerExpire p) s = .next s) ∧
    (∀ f, (s.port p).pauseFrom = some f →
      (f + s.rd (macB p) Reg.macPauseGuardPauseGuard * msNs ≤ s.now →
        f + s.rd (macB p) Reg.macPauseGuardPauseGuard * msNs < (s.port p).pauseTill → exec (.pauseGuardExpire p) s =
        .next (((s.setPort p { s.port p with
          pauseTill := 0, pauseFrom := none, holdTill := s.now + s.rd (macB p) Reg.macPauseGuardPauseHold * msNs }).count48 p none
            cPauseGuard).raise (macB p) 4)) ∧
      (s.now < f + s.rd (macB p) Reg.macPauseGuardPauseGuard * msNs → exec (.pauseGuardExpire p) s = .next s)) ∧
    ((s.port p).holdTill ≤ s.now → exec (.pauseHoldEnd p) s = .next (s.setPort p { s.port p with holdTill := 0 })) ∧
    (s.now < (s.port p).holdTill → exec (.pauseHoldEnd p) s = .next s) ∧
    (s.pauseDue p = false → exec (.pauseTxRepeat p) s = .next (s.pauseCheck p)) ∧
    (∀ at_, (s.port p).pauseSentAt = some at_ → (s.port p).pauseOn = true → s.transmits p = true →
      s.isSet (macB p) Reg.macPauseTxEn = true → at_ + s.quantaNs p (s.rd (macB p) Reg.macPauseTxQuanta) / 2 ≤ s.now →
      s.poolFree p ≤ s.rd (qgB p) Reg.qmFloorFloor →
      exec (.pauseTxRepeat p) s = .next (s.pauseNow p)) ∧
    (∃ u : State, u = s.pauseOut p (s.rd (macB p) Reg.macPauseTxQuanta) ∧
      u.out.head? = some (.pause p (s.pauseFrame p (s.rd (macB p) Reg.macPauseTxQuanta))) ∧
      s.pauseNow p = u.setPort p { u.port p with pauseSentAt := some s.now, pauseOn := true }) ∧
    (s.transmits p = true → s.isSet (macB p) Reg.macPauseTxEn = true →
      (s.poolFree p ≤ s.rd (qgB p) Reg.qmFloorFloor → (s.port p).pauseOn = false → s.pauseCheck p = s.pauseNow p) ∧
      (s.poolFree p ≤ s.rd (qgB p) Reg.qmFloorFloor → (s.port p).pauseOn = true → s.pauseCheck p = s) ∧
      (s.rd (qgB p) Reg.qmFloorFloor + 256 < s.poolFree p → (s.port p).pauseSentAt.isSome = true → ∃ u : State,
        u = s.pauseOut p 0 ∧ u.out.head? = some (.pause p (s.pauseFrame p 0)) ∧
        s.pauseCheck p = u.setPort p { u.port p with pauseSentAt := none, pauseOn := false })) ∧
    (s.transmits p = false ∨ s.isSet (macB p) Reg.macPauseTxEn = false → s.pauseCheck p = s))

/-- A port that does not receive does nothing at a frame's first byte, nor at its end. The first bytes of a MAC
control frame, or of one that no slot or queue takes, are noted and take no cells; those of a frame that a queue
takes take 16 cells where the queue is the slot's and the checks of R350 admit it, and are counted as refused where
not. At a frame's end the first row of R390 that applies decides: it is counted as misaligned, a runt, oversize, bad
in its FCS, acted on as PAUSE, other control, of an unknown tag, without a match or refused, and not stored; a frame
that was admitted joins its queue, as its last entry, and is counted with its octets. (11_frame_mac.md R385;
11_frame_mac.md R390; 11_frame_mac.md R391; 11_frame_mac.md R396; 10_cells_queues.md R350; 10_cells_queues.md R351) -/
def Obligations.FramesAreReceivedIntoTheirQueues : Prop :=
  (∀ (p : Fin 8) (head bytes : List Byte) (align fcsOk : Bool) (s : State), s.receives p = false →
    exec (.frameFirstByte p head) s = .next s ∧ exec (.frameReceived p bytes align fcsOk) s = .next s) ∧
  (∀ (p : Fin 8) (head : List Byte) (s : State), s.receives p = true →
    (beAt head 12 2 = 0x8808 → exec (.frameFirstByte p head) s =
      .next (s.setPort p { s.port p with rx := some { ts := 8192 * (s.tk125 p - s.rd (macB p) Reg.macPtpDelayRxDelay) } })) ∧
    (beAt head 12 2 ≠ 0x8808 → (s.steer p (head.take 64)).target = none → exec (.frameFirstByte p head) s =
      .next (s.setPort p { s.port p with rx := some { s.steer p (head.take 64) with
        ts := 8192 * (s.tk125 p - s.rd (macB p) Reg.macPtpDelayRxDelay) } })) ∧
    (∀ k q f, beAt head 12 2 ≠ 0x8808 → f = { s.steer p (head.take 64) with
        ts := 8192 * (s.tk125 p - s.rd (macB p) Reg.macPtpDelayRxDelay) } → f.slot = some k → f.target = some q →
      (s.queueOwner p q ≠ some k → ∃ u : State, u = s.queueDrop p q ∧
        exec (.frameFirstByte p head) s = .next (u.setPort p { u.port p with rx := some { f with refused := true } })) ∧
      (s.queueOwner p q = some k →
        (s.allocRefusal p q k 16 f.chan.isSome = 0 → exec (.frameFirstByte p head) s =
          .next (((s.setPort p { s.port p with rx := some { f with admitted := true } }).notePool p k (s.poolFree p)).pauseCheck p)) ∧
        (s.allocRefusal p q k 16 f.chan.isSome ≠ 0 → ∃ u : State,
          u = s.countRefusal p q k (s.allocRefusal p q k 16 f.chan.isSome) ∧
          exec (.frameFirstByte p head) s = .next (u.setPort p { u.port p with rx := some { f with refused := true } }))))) ∧
  (∀ (p : Fin 8) (f : RxFrame) (bytes : List Byte) (align fcsOk : Bool) (s : State), s.receives p = true →
    (s.port p).rx = some f → ∃ t : State, t = s.setPort p { s.port p with rx := none } ∧
    (align = true → exec (.frameReceived p bytes align fcsOk) s = .next ((t.count48 p none cRxAlign).pauseCheck p)) ∧
    (align = false → bytes.length < 60 →
      exec (.frameReceived p bytes align fcsOk) s = .next ((t.count48 p none cRxRunt).pauseCheck p)) ∧
    (align = false → 2044 < bytes.length →
      exec (.frameReceived p bytes align fcsOk) s = .next ((t.count48 p none cRxOversize).pauseCheck p)) ∧
    (align = false → 60 ≤ bytes.length → bytes.length ≤ 2044 →
      (fcsOk = false → exec (.frameReceived p bytes align fcsOk) s = .next ((t.count48 p none cRxFcs).pauseCheck p)) ∧
      (fcsOk = true → beAt bytes 12 2 = 0x8808 → t.pauseQuanta p bytes = none →
        exec (.frameReceived p bytes align fcsOk) s = .next ((t.count48 p none cRxCtrlOther).pauseCheck p)) ∧
      (∀ q, fcsOk = true → beAt bytes 12 2 = 0x8808 → t.pauseQuanta p bytes = some q →
        exec (.frameReceived p bytes align fcsOk) s = .next ((t.pauseIn p q).pauseCheck p)) ∧
      (fcsOk = true → beAt bytes 12 2 ≠ 0x8808 → f.slot = none →
        exec (.frameReceived p bytes align fcsOk) s = .next ((t.count48 p none cRxUnknownTag).pauseCheck p)) ∧
      (∀ k, fcsOk = true → beAt bytes 12 2 ≠ 0x8808 → f.slot = some k →
        (f.target = none →
          exec (.frameReceived p bytes align fcsOk) s = .next ((t.count48 p (some k) cRxNoMatch).pauseCheck p)) ∧
        (∀ q, f.target = some q → f.admitted = false →
          exec (.frameReceived p bytes align fcsOk) s = .next ((t.count48 p (some k) cRxRefused).pauseCheck p)) ∧
        (∀ q, f.target = some q → f.admitted = true → s.Inv → ∃ (u : State) (e : Entry),
          exec (.frameReceived p bytes align fcsOk) s = .next u ∧ u.queue p q = s.queue p q ++ [e] ∧
          e.bytes = s.storedBytes p f bytes ∧ e.slot = k ∧ e.rxTs = f.ts ∧ e.voice = f.chan.isSome))))

/-- Where no choice may be made, neither the choice nor a gate's edge changes anything; otherwise heads that are not
to be sent are freed first, and then the highest transmit queue that may send starts its head, if one may. A frame
that has left frees its entry, is counted with its octets and put on the wire with its FCS; one that has not is left
alone. An underrun sends the bytes so far with an inverted FCS and raises tx_underrun, and cannot happen to an entry
that was wholly in the buffer, nor before the bytes that were in it at the start have left. An entry on the wire
does not expire; a head whose deadline has passed is freed and counted, with those behind it; one whose deadline has
not passed stays. Reading the timestamp queue's pop register answers the head record's last word and takes the
record. (12_hatches_shapers.md R420; 12_hatches_shapers.md R421; 11_frame_mac.md R378; 11_frame_mac.md R380;
11_frame_mac.md R383; 11_frame_mac.md R384; 11_frame_mac.md R409) -/
def Obligations.FramesAreChosenSentAndEnded : Prop :=
  (∀ (p : Fin 8) (s : State),
    (s.mayChoose p = false → exec (.transmitChoice p) s = .next s ∧ exec (.gateEdge p) s = .next s) ∧
    (s.mayChoose p = true → ∃ t : State, t = s.clearAllHeads p ∧
      ((∀ n < 8, t.tqSends p n = false) → exec (.transmitChoice p) s = .next t ∧ exec (.gateEdge p) s = .next t) ∧
      (∀ n < 8, ∀ e rest, t.tqSends p n = true → (∀ m < 8, n < m → t.tqSends p m = false) → t.queue p n = e :: rest →
        exec (.transmitChoice p) s = .next (t.startFrame p n e) ∧
        exec (.gateEdge p) s = .next (t.startFrame p n e)))) ∧
  (∀ (p : Fin 8) (f : TxFrame) (s : State), (s.port p).tx = some f →
    (s.now < f.endAt → exec (.transmitEnd p) s = .next s) ∧
    (f.endAt ≤ s.now → ∃ b : State,
      b = (((s.setPort p { s.port p with tx := none }).setQueue p f.queue ((s.queue p f.queue).drop 1)).count48 p
        ((s.queue p f.queue).head?.map Entry.slot) cTxFrames).count48 p ((s.queue p f.queue).head?.map Entry.slot) cTxOctets
          f.len ∧
      exec (.transmitEnd p) s = 
        .next ((((b.emit (.frame p (f.bytes ++ fcs f.bytes) true)).pauseCheck p).clearAllHeads p).portStopped p)) ∧
    (∀ sent, (f.whole = true ∨ f.bytes.length ≤ sent ∨ sent < f.buffered →
        exec (.txUnderrun p sent) s = .next s) ∧
      (f.whole = false → f.buffered ≤ sent → sent < f.bytes.length → ∃ a b : State,
        a = (s.setPort p { s.port p with tx := none, freeAt := s.now + 96 * (s.port p).bitPs / 1000 }).dropHead p f.queue
          cTxUnderrun ∧
        b = (a.emit (.frame p (f.bytes.take sent ++ (fcs (f.bytes.take sent)).map (fun x => ~~~x)) false)).raise (macB p) 3 ∧
        exec (.txUnderrun p sent) s = .next (((if b.isSet (macB p) Title.compatPrev then b
          else b.wr (macB p) Reg.macTxCfgTxstart (min 2048 (s.rd (macB p) Reg.macTxCfgTxstart + 256))).pauseCheck p).clearAllHeads p |>.portStopped p)))) ∧
  (∀ (p q : Fin 8) (s : State),
    (s.sending p q = true → exec (.txEntryExpire p q) s = .next s) ∧
    (∀ e rest, s.sending p q = false → s.queue p q = e :: rest → s.expired p e = false →
      exec (.txEntryExpire p q) s = .next (s.pauseCheck p)) ∧
    (∀ e, s.sending p q = false → s.queue p q = [e] → s.expired p e = true →
      exec (.txEntryExpire p q) s = .next (((s.setQueue p q []).count48 p (some e.slot) cTxExpired).pauseCheck p)) ∧
    (∀ e d rest, s.sending p q = false → s.queue p q = e :: d :: rest → s.expired p e = true → s.expired p d = false → s.Inv →
      exec (.txEntryExpire p q) s =
        .next (((s.setQueue p q (d :: rest)).count48 p (some e.slot) cTxExpired).pauseCheck p))) ∧
  (∀ (fn : Fin 65) (p : Fin 8) (s : State), s.readsThrough fn (macB p + 0x7C) = true →
    exec (.txtsPopRead fn p) s =
      .next (State.answer (s.setPort p { s.port p with txts := (s.port p).txts.drop 1 }) fn ((s.txtsWords p).getD 3 0)))

/-- The lock holder's RUNNING is stored, and starts a scheduler that is OFF on its grid, unless the plate sleeps;
its OFF is stored, and ends a start, or a gap, at once, or stops a running cycle at its end; any other write only is
stored. At a boundary command, a scheduler without a cycle does nothing but free heads that are not to be sent,
which every boundary command does after what follows. A starting scheduler becomes RUNNING when its first cycle has
come, and not before. A gap ends when its cycle has come, with the swap where one waits in it. A running cycle that
has ended is followed by the next one; where the time has stepped, by the realignment, which is counted and
announced; and where a swap acts, by the other bank's grid, the realignment being counted and announced with it. A
stopping cycle that has ended leaves the scheduler OFF, or starts it again where RUNNING was written meanwhile. A
cycle that has not ended goes on. A swap to the bank that is not active waits for the first cycle's end at least 2
µs on, or takes place at once while OFF; a swap to the active bank, or with one pending, changes nothing. Cancelling
withdraws a pending swap unless it acts within 2 µs, and changes nothing then or with none pending. A refill tick of
a plate that is out of reset and not in QUIET takes the rates written, fills each enabled shaper with a rate up to
its burst, and repeats the choice of what to send; on another plate it does nothing. A reset sets the named levels
to 0 and leaves the others. (12_hatches_shapers.md R415; 12_hatches_shapers.md R418; 12_hatches_shapers.md R420;
12_hatches_shapers.md R425; 12_hatches_shapers.md R426; 12_hatches_shapers.md R428; 12_hatches_shapers.md R431;
12_hatches_shapers.md R432; 12_hatches_shapers.md R435) -/
def Obligations.HatchTablesSwapAndShapersRefill : Prop :=
  (∀ (fn : Fin 65) (p : Fin 8) (data : Word) (s : State), s.lockedWrite fn (hsB p) (hsB p + 0x20) = true →
    ∃ t : State, t = s.storeIntent (hsB p) (intentOp data.toNat) 0 ∧
    (intentOp data.toNat = opRunning → s.hsOp p = opOff → s.plateAsleep p = false →
      exec (.hatchHostStateWrite fn p data) s = .next (t.placeGrid p)) ∧
    (intentOp data.toNat = opRunning → (s.hsOp p ≠ opOff ∨ s.plateAsleep p = true) → exec (.hatchHostStateWrite fn p data) s = .next t) ∧
    (intentOp data.toNat = opOff → (s.hsOp p = opStarting ∨ (s.hsOp p = opRunning ∧ (s.hatch p).gap = true)) →
      exec (.hatchHostStateWrite fn p data) s = .next ((t.hatchRest p).setOp (hsB p) opOff)) ∧
    (intentOp data.toNat = opOff → s.hsOp p = opRunning → (s.hatch p).gap = false →
      exec (.hatchHostStateWrite fn p data) s = .next (t.setOp (hsB p) opStopping)) ∧
    (intentOp data.toNat = opOff → s.hsOp p ≠ opStarting → s.hsOp p ≠ opRunning →
      exec (.hatchHostStateWrite fn p data) s = .next t) ∧
    (intentOp data.toNat ≠ opOff → intentOp data.toNat ≠ opRunning → exec (.hatchHostStateWrite fn p data) s = .next t)) ∧
  (∀ (p : Fin 8) (s : State), (s.hatch p).cycleFrom = none → exec (.hatchCycleBoundary p) s = .next (s.clearAllHeads p)) ∧
  (∀ (p : Fin 8) (c : Nat) (s : State), (s.hatch p).cycleFrom = some c →
    (s.hsOp p = opStarting → c ≤ s.tkNs p → exec (.hatchCycleBoundary p) s =
      .next ((((s.setOp (hsB p) opRunning).noteSpans p).beginCycle p c).clearAllHeads p)) ∧
    (s.hsOp p = opStarting → s.tkNs p < c → exec (.hatchCycleBoundary p) s = .next (s.clearAllHeads p)) ∧
    (s.hsOp p ≠ opStarting → s.hsOp p ≠ opRunning → s.hsOp p ≠ opStopping →
      exec (.hatchCycleBoundary p) s = .next (s.clearAllHeads p)) ∧
    (s.hsOp p = opRunning → (s.hatch p).gap = true →
      (s.tkNs p < c → exec (.hatchCycleBoundary p) s = .next (s.clearAllHeads p)) ∧
      (c ≤ s.tkNs p → (s.hatch p).gapSwap = true → exec (.hatchCycleBoundary p) s = .next ((s.swapBegins p c).clearAllHeads p)) ∧
      (c ≤ s.tkNs p → (s.hatch p).gapSwap = false → exec (.hatchCycleBoundary p) s = .next ((s.beginCycle p c).clearAllHeads p))) ∧
    ((s.hsOp p = opRunning ∨ s.hsOp p = opStopping) → (s.hatch p).gap = false → s.tkNs p < s.cycleEnd p →
      exec (.hatchCycleBoundary p) s = .next (s.clearAllHeads p)) ∧
    (s.hsOp p = opStopping → (s.hatch p).gap = false → s.cycleEnd p ≤ s.tkNs p →
      (s.rd (hsB p) Title.hostOp = opRunning → exec (.hatchCycleBoundary p) s = .next ((s.placeGrid p).clearAllHeads p)) ∧
      (s.rd (hsB p) Title.hostOp ≠ opRunning →
        exec (.hatchCycleBoundary p) s = .next (((s.hatchRest p).setOp (hsB p) opOff).clearAllHeads p))) ∧
    (s.hsOp p = opRunning → (s.hatch p).gap = false → s.cycleEnd p ≤ s.tkNs p →
      (s.swapActs p = false → (s.hatch p).realign = false →
        exec (.hatchCycleBoundary p) s = .next ((s.beginCycle p (s.cycleEnd p)).clearAllHeads p)) ∧
      (s.swapActs p = false → (s.hatch p).realign = true → exec (.hatchCycleBoundary p) s =
        .next (((s.noteRealign p).followGrid p (s.activeBank p) (s.cycleEnd p) false).clearAllHeads p)) ∧
      (s.swapActs p = true → ∃ r a : State, r = (if (s.hatch p).realign then s.noteRealign p else s) ∧
        a = (r.setHatch p { r.hatch p with pending := none }).wr (hsB p) Reg.hsStatusActiveBank ((s.hatch p).pending.getD 0) ∧
        exec (.hatchCycleBoundary p) s = .next ((((a.wr (hsB p) Reg.hsStatusPending 0).noteBase p).followGrid p
          ((s.hatch p).pending.getD 0) (s.cycleEnd p) true).clearAllHeads p)))) ∧
  (∀ (fn : Fin 65) (p : Fin 8) (bank : Fin 2) (s : State), s.lockedWrite fn (hsB p) (hsB p + 0x70) = true →
    (bank.val = s.activeBank p ∨ (s.hatch p).pending.isSome = true → exec (.hatchSwapGo fn p bank) s = .next s) ∧
    (bank.val ≠ s.activeBank p → (s.hatch p).pending = none →
      (s.hsOp p = opOff → exec (.hatchSwapGo fn p bank) s =
        .next (((s.wr (hsB p) Reg.hsStatusActiveBank bank.val).noteBase p).noteSpans p)) ∧
      (s.hsOp p ≠ opOff → exec (.hatchSwapGo fn p bank) s = .next ((s.setHatch p { s.hatch p with
        pending := some bank.val, pendingFrom := s.now + 2000 }).wr (hsB p) Reg.hsStatusPending 1))) ∧
    ((s.hatch p).pending = none → exec (.hatchSwapCancel fn p) s = .next s) ∧
    ((s.hatch p).pending.isSome = true →
      ((∀ e, s.swapEnd p = some e → s.tkNs p + 2000 ≤ e) → exec (.hatchSwapCancel fn p) s =
        .next ((s.setHatch p { s.hatch p with pending := none }).wr (hsB p) Reg.hsStatusPending 0)) ∧
      (∀ e, s.swapEnd p = some e → e < s.tkNs p + 2000 → exec (.hatchSwapCancel fn p) s = .next s))) ∧
  (∀ (p : Fin 8) (s : State),
    (s.plateOut p = false ∨ s.plateQuiet p = true → exec (.refillTick p) s = .next s) ∧
    (s.Inv → s.plateOut p = true → s.plateQuiet p = false → ∃ u : State, exec (.refillTick p) s = .next (u.choose p) ∧
      u.regs = s.regs ∧ ∀ n < 8, u.shRate p n = s.rd (shB p) Reg.shCfgRate n ∧
        u.shLevel p n = (if s.shEnabled p n && s.rd (shB p) Reg.shCfgRate n != 0 then
          min ((256 * s.rd (shB p) Reg.shBurstBurst n : Nat) : Int) (s.shLevel p n + s.rd (shB p) Reg.shCfgRate n)
        else s.shLevel p n))) ∧
  (∀ (fn : Fin 65) (p : Fin 8) (data : Word) (s : State), s.Inv → s.lockedWrite fn (shB p) (shB p + 0xA0) = true →
    ∃ t, exec (.shaperReset fn p data) s = .next t ∧ t.regs = s.regs ∧
      ∀ n < 8, t.shLevel p n = (if bitAt data.toNat n then 0 else s.shLevel p n))

/-- The lock holder's RUNNING is stored, and starts a highway that is OFF, unless the plate sleeps; its OFF is
stored, ends a start at once, and stops a running one, which completes the frame under way; any other write only is
stored. A starting master of a clocked plate runs at its first frame sync, on a multiple of 125,000 ns of the
plate's time, with clock and lock; the command does nothing otherwise. A slave's clock, lost while present, is
noted, counted and announced; its return, after a loss, realigns the stores and is announced. While locked, a
misplaced frame sync is counted and the third in a row, each in the frame after the one before, unlocks; while
unlocked, two good pulses lock again, realign the stores, are counted and announced, and make a starting slave
RUNNING. From when to when the highway had no clock or lock is noted, for the samples. A slave's spacings drift by
its frequency offset, which is stored, and a change of its being beyond 200 ppm is announced. On a highway that is
no slave under way these commands do nothing. A slip takes place when it is due: on a running, locked highway, when
the spacing has reached 1.75 frames for a deletion or fallen to 0.25 for a repetition, and on a master at its frame
boundary; it is counted for its direction, leaves a spacing of one frame less or more, acts on the frame under way,
raises slip, and tells every channel of the highway; where none is due nothing changes. (13_tdm.md R447; 13_tdm.md
R449; 13_tdm.md R450; 13_tdm.md R451; 13_tdm.md R452; 13_tdm.md R453; 13_tdm.md R455; 13_tdm.md R460) -/
def Obligations.HighwaysLockSlipAndReport : Prop :=
  (∀ (fn : Fin 65) (p : Fin 8) (data : Word) (s : State), s.lockedWrite fn (thB p) (thB p + 0x20) = true →
    ∃ t : State, t = s.storeIntent (thB p) (intentOp data.toNat) 0 ∧
    (intentOp data.toNat = opRunning → t.thOp p = opOff → s.plateAsleep p = false →
      exec (.tdmHostStateWrite fn p data) s = .next (t.startHighway p)) ∧
    (intentOp data.toNat = opRunning → (t.thOp p ≠ opOff ∨ s.plateAsleep p = true) →
      exec (.tdmHostStateWrite fn p data) s = .next t) ∧
    (intentOp data.toNat = opOff → t.thOp p = opStarting → exec (.tdmHostStateWrite fn p data) s = .next (t.offHighway p)) ∧
    (intentOp data.toNat = opOff → t.thOp p = opRunning → exec (.tdmHostStateWrite fn p data) s =
      .next (((t.setHighway p { t.highway p with lastFrames := t.thFrameNow p + 1 }).setOp (thB p) opStopping).driveHighway p)) ∧
    (intentOp data.toNat = opOff → t.thOp p ≠ opStarting → t.thOp p ≠ opRunning →
      exec (.tdmHostStateWrite fn p data) s = .next t) ∧
    (intentOp data.toNat ≠ opOff → intentOp data.toNat ≠ opRunning → exec (.tdmHostStateWrite fn p data) s = .next t)) ∧
  (∀ (p : Fin 8) (s : State),
    (s.thClocked p = true → s.thOp p = opStarting → (s.highway p).master = true → s.tkNs p % 125000 = 0 →
      exec (.masterFsStart p) s = .next (((s.setThDetail p 0 true).setThDetail p 1 true).runHighway p)) ∧
    (s.thClocked p = false ∨ s.thOp p ≠ opStarting ∨ (s.highway p).master = false ∨ s.tkNs p % 125000 ≠ 0 →
      exec (.masterFsStart p) s = .next s) ∧
    (s.thSlave p = true → s.thDetail p 0 = true → exec (.tdmClockLost p) s =
      .next ((((s.setThDetail p 0 false).noteCarried p).bumpSat (thB p) Reg.thErrsClkLost).raise (thB p) 1) ∧
      exec (.tdmClockBack p) s = .next s) ∧
    (s.thSlave p = true → s.thDetail p 0 = false → exec (.tdmClockLost p) s = .next s ∧
      exec (.tdmClockBack p) s = .next ((((s.setThDetail p 0 true).noteCarried p).alignStores p).raise (thB p) 2)) ∧
    (s.thSlave p = true → s.thDetail p 1 = true → ∃ (n : Nat) (t : State),
      n = (if (s.highway p).fsErrRun ≠ 0 ∧ s.now ≤ (s.highway p).fsErrAt + 187500 then (s.highway p).fsErrRun + 1 else 1) ∧
      t = (s.setHighway p { s.highway p with fsErrRun := n, fsErrAt := s.now }).bumpSat (thB p) Reg.thErrsFsErr ∧
      exec (.tdmFsError p) s = .next (if n < 3 then t else (t.setThDetail p 1 false).noteCarried p) ∧
      exec (.tdmRealign p) s = .next s) ∧
    (s.thSlave p = true → s.thDetail p 1 = false → ∃ t u : State,
      t = ((s.setThDetail p 1 true).setHighway p { s.highway p with fsErrRun := 0 }).noteCarried p ∧
      u = ((t.alignStores p).bumpSat (thB p) Reg.thErrsRealign).raise (thB p) 3 ∧
      exec (.tdmRealign p) s = .next (if u.thOp p = opStarting then u.runHighway p else u) ∧
      exec (.tdmFsError p) s = .next s) ∧
    (s.thSlave p = false → ∀ ppb : Int, exec (.tdmClockLost p) s = .next s ∧ exec (.tdmClockBack p) s = .next s ∧
      exec (.tdmFsError p) s = .next s ∧ exec (.tdmRealign p) s = .next s ∧ exec (.highwayFreqUpdate p ppb) s = .next s) ∧
    (∀ ppb : Int, s.thSlave p = true → ∃ t : State,
      t = (s.driftSpacings p ppb).wrS (thB p) Reg.thFreqOffsetPpb (clampInt (-(2 ^ 31)) (2 ^ 31 - 1) ppb) ∧
      (decide (ppb < -200000 ∨ 200000 < ppb) = t.thDetail p 2 → exec (.highwayFreqUpdate p ppb) s = .next t) ∧
      (decide (ppb < -200000 ∨ 200000 < ppb) ≠ t.thDetail p 2 → exec (.highwayFreqUpdate p ppb) s =
        .next ((t.setThDetail p 2 (decide (ppb < -200000 ∨ 200000 < ppb))).raise (thB p) 4)))) ∧
  (∀ (p : Fin 8) (rx deleted : Bool) (s : State),
    (s.slipDue p rx deleted = true ↔ s.thOp p = opRunning ∧ s.thDetail p 0 = true ∧ s.thDetail p 1 = true ∧
      (if deleted then 175 * 10 ^ 13 ≤ s.spacing p rx else s.spacing p rx ≤ 25 * 10 ^ 13) ∧
      ((s.highway p).master = true → s.tkNs p % 125000 = s.rd (thB p) Reg.thPhasePhaseNs)) ∧
    (s.slipDue p rx deleted = false → exec (.elasticSlip p rx deleted) s = .next s) ∧
    (s.slipDue p rx deleted = true → ∃ t u : State,
      t = (s.setHighway p { s.highway p with frame := (s.highway p).frame.slips rx deleted (s.thFrameNow p) }).bumpSat
        (thB p) (if rx then (if deleted then Reg.thSlipsRxDel else Reg.thSlipsRxRep)
        else (if deleted then Reg.thSlipsTxDel else Reg.thSlipsTxRep)) ∧
      u = (t.setSpacing p rx (s.spacing p rx + (if deleted then -(10 ^ 15) else 10 ^ 15))).raise (thB p) 0 ∧
      exec (.elasticSlip p rx deleted) s =
        .next (forEach (u.thChannels p) (fun g v => v.echoSlip g (s.thFrameNow p) deleted) u)))

/-- A write of CH_INTENT that gets through completes: it stores its fields, ends a hold, and makes the request that
the stored value stands for, which on a QUIET plate wakes it; a new generation that wants a channel which is IDLE,
REFUSED or in FAULT and has no request makes an open, and the path is ADMITTING. CH_OWNER is stored only while the
path reads IDLE or REFUSED and the stored intent is CLOSED; at any other time the whole word is dropped. An open or
modify that waits 100 ms for a plate to wake is refused wake_timeout: a refused open leaves REFUSED with result 11,
no request, and done and refused announced; before that, with no request, one already served, or a plate that needs
no wake, nothing happens. A plate that reads RUNNING or HELD, unless it is STANDBY, samples a channel that is not
held: a frozen channel, one that agrees, and one that has been moving toward its intent for up to 1 s count no
mismatch; any other counts one, and the third in a row holds it, with what was seen and wanted. A held channel and
any other plate's are not sampled. While held, accept_path takes the state seen as intent and ends the hold;
otherwise it does nothing. (06_channels.md R211; 06_channels.md R213; 06_channels.md R214; 06_channels.md R219;
06_channels.md R223; 06_channels.md R229; 06_channels.md R231; 06_channels.md R232; 06_channels.md R234) -/
def Obligations.ChannelIntentsOwnersAndTraceSamples : Prop :=
  (∀ (fn : Fin 65) (g : Fin 2048) (data : Word) (s : State), s.writesThrough fn (chB g + 0x4) = true →
    ∃ u t : State, u = (s.storeWord fn (chB g) Reg.chRows 0x4 data.toNat).endChHold g ∧
      exec (.chIntentWrite fn g data) s = .next t ∧ t = (u.classifyReq g).wakeForRequest g ∧
      (s.Inv → (u.chan g).req = none → u.chFrozen g = false → u.plateQuiet (g.val / 256) = false →
        (u.path g = pathIdle ∨ u.path g = pathRefused ∨ u.path g = pathFault) → u.chWant g ≠ wantClosed →
        u.chGen g ≠ u.chLastGen g →
        t.path g = pathAdmitting ∧ (t.chan g).req = some { isOpen := true, at_ := s.now, prior := u.path g })) ∧
  (∀ (fn : Fin 65) (g : Fin 2048) (data : Word) (s : State), s.writesThrough fn (chB g) = true →
    ((s.pathView g = pathIdle ∨ s.pathView g = pathRefused) → s.chWant g = wantClosed →
      ∃ t, exec (.chOwnerWrite fn g data) s = .next t ∧ t = s.storeWord fn (chB g) Reg.chRows 0x0 data.toNat) ∧
    (¬ ((s.pathView g = pathIdle ∨ s.pathView g = pathRefused) ∧ s.chWant g = wantClosed) →
      exec (.chOwnerWrite fn g data) s = .next s)) ∧
  (∀ (g : Fin 2048) (r : ChRequest) (s : State), (s.chan g).req = some r →
    (r.served = false → (s.plateQuiet (g.val / 256) = true ∨ (s.plate (g.val / 256)).fromQuiet = true) →
      r.at_ + 100 * msNs ≤ s.now → ∃ t, exec (.wakeTimeout g) s = .next t ∧
        t = s.postRefused g (s.snapshot g r) refWakeTimeout ∧
        (s.Inv → r.isOpen = true → t.path g = pathRefused ∧ t.rd (chB g) Reg.chPathResult = 11 ∧ (t.chan g).req = none ∧
          bitAt (t.rd (chB g) Reg.chEventEvents) evDone = true ∧ bitAt (t.rd (chB g) Reg.chEventEvents) evRefused = true)) ∧
    (r.served = true ∨ (s.plateQuiet (g.val / 256) = false ∧ (s.plate (g.val / 256)).fromQuiet = false) ∨
      s.now < r.at_ + 100 * msNs → exec (.wakeTimeout g) s = .next s)) ∧
  (∀ (g : Fin 2048) (s : State), (s.chan g).req = none → exec (.wakeTimeout g) s = .next s) ∧
  (∀ (g : Fin 2048) (s : State), ∃ op : Nat, op = s.opOf .plate (g.val / 256) (plB (g.val / 256)) ∧
    ((op ≠ opRunning ∧ op ≠ opHeld) ∨ s.role (g.val / 256) = roleStandby ∨ s.chHeld g = true →
      exec (.channelTraceSample g) s = .next s) ∧
    (s.Inv → (op = opRunning ∨ op = opHeld) → s.role (g.val / 256) ≠ roleStandby → s.chHeld g = false →
      ∃ t, exec (.channelTraceSample g) s = .next t ∧
      ((s.pathView g = pathFrozen ∨
          (chMoving (s.chWant g) (s.pathView g) = true ∧ ∀ a, (s.chan g).agreeSince = some a → s.now - a ≤ secNs) ∨
          (chMoving (s.chWant g) (s.pathView g) = false ∧ s.chAgrees g (s.pathView g) = true) →
        t.rd (chB g) Reg.chTraceCount = 0 ∧ t.chHeld g = false) ∧
      (s.pathView g ≠ pathFrozen →
          ((chMoving (s.chWant g) (s.pathView g) = true ∧ ∃ a, (s.chan g).agreeSince = some a ∧ secNs < s.now - a) ∨
          (chMoving (s.chWant g) (s.pathView g) = false ∧ s.chAgrees g (s.pathView g) = false)) →
        (s.rd (chB g) Reg.chTraceCount < 2 →
          t.rd (chB g) Reg.chTraceCount = s.rd (chB g) Reg.chTraceCount + 1 ∧ t.chHeld g = false) ∧
        (2 ≤ s.rd (chB g) Reg.chTraceCount →
          t.chHeld g = true ∧ t.isSet (chB g) Reg.chTraceMismatch = true ∧ t.rd (chB g) Reg.chTraceSeenWant = s.chWant g % 4 ∧
          t.rd (chB g) Reg.chPathHeldFrom = s.pathView g % 16 ∧ bitAt (t.rd (chB g) Reg.chEventEvents) evHeld = true))))) ∧
  (∀ (fn : Fin 65) (g : Fin 2048) (s : State), s.writesThrough fn (chB g + 0x18) = true →
    (s.chHeld g = false → exec (.channelAcceptPath fn g) s = .next s) ∧
    (s.chHeld g = true → ∃ t u : State,
      t = s.wr (chB g) Reg.chIntentWant (adoptedWant (s.rd (chB g) Reg.chTraceSeenState) (s.chWant g)) ∧
      exec (.channelAcceptPath fn g) s = .next u ∧
      u = (if s.rd (chB g) Reg.chTraceSeenState = pathFault then t.wr (chB g) Reg.chTraceFaultOk 1 else t).endChHold g ∧
      (s.Inv → u.chHeld g = false ∧
        u.chWant g = adoptedWant (s.rd (chB g) Reg.chTraceSeenState) (s.chWant g) % 4)))

/-- EC_CMD's three bits are noted for the next tick while the path reads ACTIVE or MUTED, and ignored in any other
path state. 2 s spent in FAST release the burst grant and leave the canceller in NORMAL, but not while it is
suspended. The retry, once due, lets the waiting channels ask again in ascending order, and is due again 100 ms
later where any waits; before that it does nothing. Double-talk ends with its hang-over, and not before. A detected
tone's bypass is marked to end after release_ms of quiet; before that, in phase OFF, or with no bypass, it is not.
(07_echo.md R245; 07_echo.md R247; 07_echo.md R248; 07_echo.md R251; 07_echo.md R260; 07_echo.md R261; 07_echo.md
R264) -/
def Obligations.EchoCancellerCommandsAndTimers : Prop :=
  (∀ (fn : Fin 65) (g : Fin 2048) (s : State), s.writesThrough fn (chB g + 0x110) = true →
    ((s.pathView g = pathActive ∨ s.pathView g = pathMuted) →
      exec (.ecResetCoef fn g) s = .next (s.setEcho g { s.echo g with cmdReset := true }) ∧
      exec (.ecTdForce fn g) s = .next (s.setEcho g { s.echo g with cmdForce := true }) ∧
      exec (.ecTdRelease fn g) s = .next (s.setEcho g { s.echo g with cmdRelease := true })) ∧
    (s.pathView g ≠ pathActive → s.pathView g ≠ pathMuted →
      exec (.ecResetCoef fn g) s = .next s ∧ exec (.ecTdForce fn g) s = .next s ∧ exec (.ecTdRelease fn g) s = .next s)) ∧
  (∀ (g : Fin 2048) (s : State),
    (s.ecPhase g = phaseFast → s.echoSuspended g = false → (s.echo g).fastAt + 2 * secNs ≤ s.now →
      exec (.ecFastTimeout g) s = .next ((s.releaseBurst g).setPhase g phaseNormal)) ∧
    (s.ecPhase g ≠ phaseFast ∨ s.echoSuspended g = true ∨ s.now < (s.echo g).fastAt + 2 * secNs → exec (.ecFastTimeout g) s = .next s) ∧
    ((s.echo g).dtTill ≤ s.now → exec (.doubleTalkHangEnd g) s = .next (s.wr (chB g) Reg.ecStatusDt 0)) ∧
    (s.now < (s.echo g).dtTill → exec (.doubleTalkHangEnd g) s = .next s) ∧
    ((s.echo g).cfg.releaseMs ≤ (s.echo g).quietMs → s.ecPhase g ≠ phaseOff →
      (s.isSet (chB g) Reg.ecStatusBypass = true ∨ s.isSet (chB g) Reg.ecStatusNlpOffTd = true) →
      exec (.toneDisablerRelease g) s = .next (s.setEcho g { s.echo g with tdEnd := true })) ∧
    ((s.echo g).quietMs < (s.echo g).cfg.releaseMs ∨ s.ecPhase g = phaseOff ∨
      (s.isSet (chB g) Reg.ecStatusBypass = false ∧ s.isSet (chB g) Reg.ecStatusNlpOffTd = false) →
      exec (.toneDisablerRelease g) s = .next s)) ∧
  (∀ (p : Fin 8) (s : State),
    (Sparse.find? s.fastRetry p = none → exec (.ecFastRetry p) s = .next s) ∧
    (∀ due, Sparse.find? s.fastRetry p = some due →
      (s.now < due → exec (.ecFastRetry p) s = .next s) ∧
      (due ≤ s.now → ∃ w : List Nat, w = (s.openChans p).filter (fun g => (s.echo g).waiting) ∧
        (w = [] → exec (.ecFastRetry p) s = .next { s with fastRetry := Sparse.del s.fastRetry p }) ∧
        (w ≠ [] → exec (.ecFastRetry p) s = .next (forEach w (fun g u => u.askFast g)
          { s with fastRetry := Sparse.ins s.fastRetry p (s.now + 100 * msNs) })))))

/-- A send on an ACTIVE path makes an event wait for the next tick, its code at most 15 and its duration at least 40
ms; without send, or on another path, nothing happens. A lasting event that is not over is updated every 50 ms, not
sooner, and not once it has sent its end; the event in progress that is over sends its first end packet, and one
that is not sends none. A report is sent when due where reports are sent, and not otherwise. What these commit to
the plate's queues makes its port choose again. A received event that is silent for 150 ms past its duration stops
playing, and not sooner. A tone command is stored and takes effect at the next tick where the channel is open. The
jitter buffer's second is taken once for each whole second of local time, on an open channel that is neither frozen
nor in FAULT; on a STANDBY plate it only ends. Its two commands are noted for the next tick on an open channel, and
ignored on another. (08_coding_tones.md R290; 08_coding_tones.md R291; 08_coding_tones.md R293; 08_coding_tones.md
R295; 08_coding_tones.md R296; 08_coding_tones.md R303; 09_jitter_drift.md R319; 09_jitter_drift.md R330;
09_jitter_drift.md R331; 09_jitter_drift.md R338; 12_hatches_shapers.md R420) -/
def Obligations.MediaEventsTonesReportsAndBuffers : Prop :=
  (∀ (fn : Fin 65) (g : Fin 2048) (data : Word) (s : State), s.writesThrough fn (chB g + 0xB0) = true →
    (bitAt data.toNat 31 = true → s.pathView g = pathActive → exec (.eventSendWrite fn g data) s =
      .next (s.setMedia g { s.media g with evWait := some (min 15 (bitsOf data.toNat 0 8), clampNat 40 65535 (bitsOf data.toNat 8 16)) })) ∧
    (bitAt data.toNat 31 = false ∨ s.pathView g ≠ pathActive → exec (.eventSendWrite fn g data) s = .next s)) ∧
  (∀ (g : Fin 2048) (e : EvOut) (s : State), (s.media g).evOut = some e →
    (e.ends = 0 → e.lastSent + 50 * msNs ≤ s.now → s.eventOver e = false → ∃ (x : EvOut) (t u : State),
      (x, t) = s.segmentEvent g { e with lastSent := s.now } ∧ u = t.sendEvent g x false false ∧
      exec (.eventUpdateSend g) s = .next ((u.setMedia g { u.media g with evOut := some x }).choose (g.val / 256))) ∧
    (e.ends ≠ 0 ∨ s.now < e.lastSent + 50 * msNs ∨ s.eventOver e = true → exec (.eventUpdateSend g) s = .next s) ∧
    ((s.media g).evPast = [] → e.ends = 0 → s.Inv → ∃ t : State, t = s.setMedia g { s.media g with evPast := [] } ∧
      (s.eventOver e = true → ∃ (x : EvOut) (v u : State), (x, v) = t.segmentEvent g e ∧
        u = v.sendEvent g { x with ends := 1, endAt := s.now } false true ∧
        exec (.eventEndSend g) s =
          .next ((u.setMedia g { u.media g with evOut := some { x with ends := 1, endAt := s.now } }).choose (g.val / 256))) ∧
      (s.eventOver e = false → exec (.eventEndSend g) s =
        .next ((t.setMedia g { t.media g with evOut := some e }).choose (g.val / 256))))) ∧
  (∀ (g : Fin 2048) (due : Nat) (s : State), (s.media g).rtcpAt = some due →
    (due ≤ s.now → s.sendsRtcp g = true → exec (.rtcpSend g) s = .next ((s.sendRtcp g false).choose (g.val / 256))) ∧
    (s.now < due ∨ s.sendsRtcp g = false → exec (.rtcpSend g) s = .next s)) ∧
  (∀ (g : Fin 2048) (e : EvIn) (s : State), (s.media g).evIn = some e →
    (e.playing = true → max e.lastAt (e.startedAt + e.durMs * msNs) + 150 * msNs ≤ s.now → exec (.eventPlayTimeout g) s =
      .next (s.setMedia g { s.media g with evIn := some { e with playing := false } })) ∧
    (e.playing = false ∨ s.now < max e.lastAt (e.startedAt + e.durMs * msNs) + 150 * msNs →
      exec (.eventPlayTimeout g) s = .next s)) ∧
  (∀ (fn : Fin 65) (g : Fin 2048) (data : Word) (s : State), s.writesThrough fn (chB g + 0xFC) = true → ∃ t : State,
    t = s.storeWord fn (chB g) Reg.mediaRows 0xFC data.toNat ∧
    (s.path g = pathIdle ∨ s.path g = pathRefused ∨ s.path g = pathAdmitting → exec (.toneGenCommand fn g data) s = .next t) ∧
    (s.path g ≠ pathIdle → s.path g ≠ pathRefused → s.path g ≠ pathAdmitting →
      exec (.toneGenCommand fn g data) s = .next (t.setMedia g { t.media g with tgDue := true }))) ∧
  (∀ (g : Fin 2048) (s : State),
    (s.chOpen g = true → s.pathView g ≠ pathFrozen → s.path g ≠ pathFault →
        (s.jitter g).secondDone < s.tkNs (g.val / 256) / secNs →
      (s.role (g.val / 256) ≠ roleStandby → exec (.jitterSecondUpdate g) s = .next (s.jbSecond g)) ∧
      (s.role (g.val / 256) = roleStandby → exec (.jitterSecondUpdate g) s =
        .next (s.setJitter g { s.jitter g with second := [], secondDone := s.tkNs (g.val / 256) / secNs }))) ∧
    (s.chOpen g = false ∨ s.pathView g = pathFrozen ∨ s.path g = pathFault ∨
      s.tkNs (g.val / 256) / secNs ≤ (s.jitter g).secondDone → exec (.jitterSecondUpdate g) s = .next s)) ∧
  (∀ (fn : Fin 65) (g : Fin 2048) (s : State), s.writesThrough fn (chB g + 0x150) = true →
    (s.chOpen g = true →
      exec (.jbResyncCommand fn g) s = .next (s.setJitter g { s.jitter g with cmdResync := true }) ∧
      exec (.dfResetCommand fn g) s = .next (s.setJitter g { s.jitter g with cmdDfReset := true })) ∧
    (s.chOpen g = false → exec (.jbResyncCommand fn g) s = .next s ∧ exec (.dfResetCommand fn g) s = .next s))

/-- Of PPS_IN's edges only the one that pps_edge names counts; such an edge of a pulse shorter than 100 ns or longer
than 500 ms, or sooner than 999 ms after the last accepted one, is fast toggling; any other is accepted. No edge for
1.001 s is a period fault, once; one level for more than 1.2 s is announced as stuck, once; both disqualify the
source. Arming stores the label of the next edge. A measurement whose instant is more than 1 s ago or to come, or
that lies beyond the gate while locked to PTP, is rejected and counted; any other is accepted, for its own instant.
PTP that is qualified times out, and is announced. A usable frequency source's second passes its filter, sample by
sample, and its error is what the filter answers; a source that is not usable is dropped, and its filter forgotten.
A source that has been in range for 10 s is qualified while it is usable, and not otherwise. With revert, the usable
better source that has waited to be restored replaces the selected one, the best and first of several; with none,
without revert, while nothing is selected, and while the timebase does not run, nothing changes. (14_timebase.md
R469; 14_timebase.md R470; 14_timebase.md R471; 14_timebase.md R472; 14_timebase.md R473; 14_timebase.md R474;
14_timebase.md R476) -/
def Obligations.TimeSourcesAreAcceptedLostAndReplaced : Prop :=
  (∀ (falling : Bool) (width : Nat) (s : State), ∃ t : State,
    t = { s with tb := { s.tb with pulseFrom := s.now, pulseTill := s.now + width } } ∧
    (falling ≠ s.isSet tbB Reg.tbPpsCfgPpsEdge → exec (.ppsEdge falling width) s = .next t) ∧
    (falling = s.isSet tbB Reg.tbPpsCfgPpsEdge →
        (width < 100 ∨ 500 * msNs < width ∨ ∃ a, s.tb.ppsAt = some a ∧ s.now < a + 999 * msNs) →
      exec (.ppsEdge falling width) s = .next t.ppsFast) ∧
    (falling = s.isSet tbB Reg.tbPpsCfgPpsEdge → 100 ≤ width → width ≤ 500 * msNs →
        (∀ a, s.tb.ppsAt = some a → a + 999 * msNs ≤ s.now) →
      exec (.ppsEdge falling width) s = .next t.ppsAccept)) ∧
  (∀ s : State,
    (s.tb.ppsAt = none → exec .ppsPeriodFault s = .next s) ∧
    (∀ a, s.tb.ppsAt = some a → s.tb.ppsLate = false → a + 1001 * msNs ≤ s.now → ∃ u : State,
      u = (s.bumpSat tbB Reg.tbPpsStatPeriodErr).ppsDrop ∧
      exec .ppsPeriodFault s = .next { u with tb := { u.tb with ppsLate := true } }) ∧
    (∀ a, s.tb.ppsAt = some a → (s.tb.ppsLate = true ∨ s.now < a + 1001 * msNs) → exec .ppsPeriodFault s = .next s) ∧
    (∀ since : Nat, since = (if s.now < s.tb.pulseTill then s.tb.pulseFrom else s.tb.pulseTill) →
      (since + 1200 * msNs < s.now → s.isSet tbB Reg.tbPpsStatStuck = false →
        exec .ppsStuck s = .next (((s.wr tbB Reg.tbPpsStatStuck 1).raise tbB evPpsStuck).ppsDrop)) ∧
      (s.isSet tbB Reg.tbPpsStatStuck = true ∨ s.now ≤ since + 1200 * msNs → exec .ppsStuck s = .next s))) ∧
  (∀ (fn : Fin 65) (data : Word) (s : State), s.lockedWrite fn tbB (tbB + 0x94) = true → ∃ u : State,
    u = s.wr tbB Reg.tbTodNextLoSecLo data.toNat ∧ exec (.todNextArm fn data) s = .next { u with
      tb := { u.tb with armed := some (s.rd tbB Reg.tbTodNextHiSecHi * 2 ^ 32 + data.toNat % 2 ^ 32) } }) ∧
  (∀ (fn : Fin 65) (data : Word) (s : State), s.writesThrough fn (tbB + 0x68) = true → ∃ (a u : State) (x : Option Nat),
    a = s.wr tbB Reg.tbPtpSubmitTNs (min (data.toNat % 2 ^ 30) 999999999) ∧
    x = placedAt (a.rd tbB Reg.tbPtpSubmitTNs) a.tb.epochs a.now a.tb.epoch ∧
    u = State.noteError { a with tb := { a.tb with ptp := (a.now :: a.tb.ptp).take 8 } } 1 (a.rdS tbB Reg.tbPtpOfsOfsNs) ∧
    (x = none → exec (.ptpSubmit fn data) s = .next (a.bumpSat tbB Reg.tbCountsPtpRej)) ∧
    (∀ at_, x = some at_ →
      (at_ + secNs < a.now ∨ (a.tb.state = tbLocked ∧ a.tbSelected = 1 ∧ a.rd tbB Reg.tbPtpCfgPtpGateUs ≠ 0 ∧
          a.rd tbB Reg.tbPtpCfgPtpGateUs * 1000 < (a.rdS tbB Reg.tbPtpOfsOfsNs).natAbs) →
        exec (.ptpSubmit fn data) s = .next (a.bumpSat tbB Reg.tbCountsPtpRej)) ∧
      (a.now ≤ at_ + secNs → (a.tb.state ≠ tbLocked ∨ a.tbSelected ≠ 1 ∨ a.rd tbB Reg.tbPtpCfgPtpGateUs = 0 ∨
          (a.rdS tbB Reg.tbPtpOfsOfsNs).natAbs ≤ a.rd tbB Reg.tbPtpCfgPtpGateUs * 1000) →
        exec (.ptpSubmit fn data) s =
          .next ((if u.ptpReady then u.setQualified 1 true else u).tbPhase 1 (a.rdS tbB Reg.tbPtpOfsOfsNs) at_)))) ∧
  (∀ s : State,
    (s.tbQualified 1 = true → s.tb.ptp = [] →
      exec .ptpSourceTimeout s = .next ((s.setQualified 1 false).raise tbB evPtpTimeout)) ∧
    (∀ a rest, s.tbQualified 1 = true → s.tb.ptp = a :: rest → a + s.rd tbB Reg.tbPtpCfgPtpTimeoutMs * msNs ≤ s.now →
      exec .ptpSourceTimeout s = .next ((s.setQualified 1 false).raise tbB evPtpTimeout)) ∧
    (∀ a rest, s.tb.ptp = a :: rest → s.now < a + s.rd tbB Reg.tbPtpCfgPtpTimeoutMs * msNs →
      exec .ptpSourceTimeout s = .next s) ∧
    (s.tbQualified 1 = false → exec .ptpSourceTimeout s = .next s) ∧
    (s.isSet tbB Reg.tbCtrlRevert = false ∨ s.tbSelected = noSource ∨ s.tbRuns = false ∨
      (∀ m < 5, s.wtrReady s.tbSelected m = false) → exec .wtrExpire s = .next s) ∧
    (∀ m < 5, s.isSet tbB Reg.tbCtrlRevert = true → s.tbSelected ≠ noSource → s.tbRuns = true →
      s.wtrReady s.tbSelected m = true → (∀ k < 5, s.wtrReady s.tbSelected k = true →
        s.tbPriority m ≤ s.tbPriority k ∧ (k < m → s.tbPriority m < s.tbPriority k)) →
      exec .wtrExpire s = .next (s.tbSwitch m))) ∧
  (∀ (refIn : Bool) (samples : List Int) (s : State), ∃ (n : Nat) (t : State),
    n = (if refIn then 3 else 2) ∧ t = s.freqSpan n samples ∧
    (s.freqUsable n = false → ∃ u : State, u = s.dropFreq n ∧ exec (.freqSourceSecond refIn samples) s =
      .next { u with tb := { u.tb with loops := Sparse.del u.tb.loops n, outSince := Sparse.del u.tb.outSince n } }) ∧
    (s.freqUsable n = true → exec (.freqSourceSecond refIn samples) s =
      .next (t.tbFrequency n (Sparse.get {} t.tb.loops n).out)) ∧
    (Sparse.find? s.tb.inRange n = none → exec (.sourceQualifyTimer refIn) s = .next s) ∧
    (∀ a, Sparse.find? s.tb.inRange n = some a →
      (s.freqUsable n = true → a + 10 * secNs ≤ s.now → exec (.sourceQualifyTimer refIn) s = .next (s.setQualified n true)) ∧
      (s.freqUsable n = false ∨ s.now < a + 10 * secNs → exec (.sourceQualifyTimer refIn) s = .next s)))

/-- By the lock holder, OFF is stored, goes to FREE and reads OFF; QUIET is stored alone; RUNNING, where the
timebase PLL follows OSC_IN, is stored with mode 2 where 2 is written and 1 otherwise, and reads RUNNING. A set with
go moves time by what was written, relative or absolute, unless a phase source steers in ACQUIRE, LOCKED or RELOCK;
without go, or without the lock, nothing moves. A slew that is done and at rest ends, and no other. EFC lets site
time run at the frequency of the PLL's source as the code steers it, on a powered chip; while the timebase runs it
moves the slew, steps y toward its target, in HOLDOVER the holdover's frequency, and writes the code. In HOLDOVER
the time in it is counted and the model's or the mean frequency taken; outside it nothing is. The external servo's
frequency is stored, and taken only while it is in charge; its state is stored, and entered only then; its silence
while LOCKED or RELOCK ends in HOLDOVER, announced, and nothing else times it out. A learning sample is taken only
under its conditions, and the means it is of start again. The lock holder's reset, export and import of the model
take place, an import without the image's mark failing with result 4, and without the lock nothing does. PPS_OUT
rises only within 2 ns of a second of site time, and only where it may, and is high until its width has passed.
(14_timebase.md R466; 14_timebase.md R477; 14_timebase.md R480; 14_timebase.md R482; 14_timebase.md R484;
14_timebase.md R485; 14_timebase.md R486; 14_timebase.md R489; 14_timebase.md R491) -/
def Obligations.TimebaseSteersIsSetHoldsAndLearns : Prop :=
  (∀ (fn : Fin 65) (data : Word) (s : State), s.lockedWrite fn tbB (tbB + 0x20) = true →
    (intentOp data.toNat = opOff → exec (.timebaseHostStateWrite fn data) s =
      .next ((((s.storeIntent tbB opOff 0).tbGoFree).setOp tbB opOff).wr tbB Title.stateMode 0)) ∧
    (intentOp data.toNat = opQuiet → exec (.timebaseHostStateWrite fn data) s = .next (s.storeIntent tbB opQuiet 0)) ∧
    (intentOp data.toNat = opRunning → s.Inv → s.rd crB Reg.crRefStatusTbSrc = 1 → ∃ t,
      exec (.timebaseHostStateWrite fn data) s = .next t ∧ t.rd tbB Title.hostOp = opRunning ∧
      t.rd tbB Title.hostMode = (if bitsOf data.toNat 8 8 = 2 then 2 else 1) ∧ t.rd tbB Title.stateOp = opRunning)) ∧
  (∀ (fn : Fin 65) (data : Word) (s : State), s.writesThrough fn (tbB + 0x8C) = true →
    (s.mayWriteL tbB (masterOfFn fn) = false ∨ bitAt data.toNat 0 = false → exec (.timeSetGo fn data) s = .next s) ∧
    (s.mayWriteL tbB (masterOfFn fn) = true → bitAt data.toNat 0 = true → (s.tb.state = tbAcquire ∨ s.tb.state = tbLocked ∨
        s.tb.state = tbRelock) → phaseSource s.tbSelected = true → exec (.timeSetGo fn data) s = .next s) ∧
    (s.mayWriteL tbB (masterOfFn fn) = true → bitAt data.toNat 0 = true → (s.tb.state = tbFree ∨ s.tb.state = tbHoldover ∨
        phaseSource s.tbSelected = false) →
      exec (.timeSetGo fn data) s = .next (s.moveTime
        (if bitAt data.toNat 1 then toSigned 48 (s.rd tbB Reg.tbSetSecHiSecHi * 2 ^ 32 + s.rd tbB Reg.tbSetSecLoSecLo) * secNs
            + (s.rd tbB Reg.tbSetNsNs : Int)
         else ((s.rd tbB Reg.tbSetSecHiSecHi * 2 ^ 32 + s.rd tbB Reg.tbSetSecLoSecLo : Nat) : Int) * secNs
            + (s.rd tbB Reg.tbSetNsNs : Int) - s.siteNs) (bitAt data.toNat 2)))) ∧
  (∀ s : State,
    (∀ osc : Int, (s.chip.power ≠ .up → exec (.efcUpdate osc) s = .next s) ∧
      (s.chip.power = .up → ∃ (d a : Int) (t : State), d = (4 * osc + s.efcFreq) * ((s.now - s.tb.driftAt : Nat) : Int) ∧
        a = s.tb.drift + d ∧ t = State.noteRatio { s with tb := { s.tb with
          epoch := s.tb.epoch + a / (2 ^ 18 * 10 ^ 9), drift := a % (2 ^ 18 * 10 ^ 9), driftAt := s.now, total := s.tb.total + d } } ∧
        (s.tbRuns = false → exec (.efcUpdate osc) s = .next t) ∧
        (s.tbRuns = true → ∃ b c : State,
          b = (if s.tb.state = tbHoldover then { t with tb := { t.tb with target := t.tb.hoY } } else t) ∧
          c = b.slewMs.stepY (((b.slewMs.tb.slew.freq - b.tb.slew.freq).natAbs + 999) / 1000 : Nat) ∧
          exec (.efcUpdate osc) s = .next (State.writeEfc ((c.drawRound c.tb.slew.freq 1000).2.recordY
            (c.tb.y + (c.drawRound c.tb.slew.freq 1000).1)) (c.tb.y + (c.drawRound c.tb.slew.freq 1000).1))))) ∧
    (s.tb.slew.run = true → s.tb.slew.left = 0 → s.tb.slew.freq = 0 → exec .slewProfileEnd s =
      .next { s with tb := { s.tb with slew := {}, deferred := false, movedAt := s.now } }) ∧
    (s.tb.slew.run = false ∨ s.tb.slew.left ≠ 0 ∨ s.tb.slew.freq ≠ 0 → exec .slewProfileEnd s = .next s) ∧
    (s.tb.state ≠ tbHoldover → exec .holdoverEval s = .next s) ∧
    (s.tb.state = tbHoldover → ∃ (h u : State) (m : Int),
      h = s.wr tbB Reg.tbHoTimeHoS (min ((s.now - s.tb.hoFrom) / secNs) (2 ^ 32 - 1)) ∧ (m, u) = h.modelY ∧
      exec .holdoverEval s = .next { u with tb := { u.tb with
        hoModel := s.usesModel, hoY := if s.usesModel then m + u.tb.hoBase else u.tb.hoMean } }) ∧
    (s.tbRuns = true → s.tbMode = 2 → (s.tb.state = tbLocked ∨ s.tb.state = tbRelock) →
      s.tb.extAt + s.rd tbB Reg.tbExtCtrlExtTimeoutMs * msNs ≤ s.now →
      exec .extTimeout s = .next (s.enterHoldover.raise tbB evExtTimeout)) ∧
    (s.tbRuns = false ∨ s.tbMode ≠ 2 ∨ (s.tb.state ≠ tbLocked ∧ s.tb.state ≠ tbRelock) ∨
      s.now < s.tb.extAt + s.rd tbB Reg.tbExtCtrlExtTimeoutMs * msNs → exec .extTimeout s = .next s) ∧
    (∀ t : State, t = (if s.learns then s.learn else s) →
      exec .learnSample s = .next { t with tb := { t.tb with thetaSum := 0, rateSum := 0, thetaN := 0 } }) ∧
    (s.ppsOutOn = true → s.chip.power = .up → (s.siteSubNs ≤ 2 ∨ secNs ≤ s.siteSubNs + 2) → exec .ppsOutPulse s = .next { s with
      tb := { s.tb with ppsTill := s.now + s.rd tbB Reg.tbCtrlPpsWMs * msNs } }) ∧
    (s.ppsOutOn = false ∨ s.chip.power ≠ .up ∨ (2 < s.siteSubNs ∧ s.siteSubNs + 2 < secNs) → exec .ppsOutPulse s = .next s) ∧
    (s.ppsOut = true ↔ s.now < s.tb.ppsTill)) ∧
  (∀ (fn : Fin 65) (data : Word) (s : State), s.writesThrough fn (tbB + 0x74) = true → ∃ t : State,
    t = s.wr tbB Reg.tbExtFreqFreq data.toNat ∧
    (t.tbRuns = false ∨ t.tbMode ≠ 2 → exec (.extFreqWrite fn data) s = .next t) ∧
    (t.tbRuns = true → t.tbMode = 2 → ∃ u : State, u = t.setY (toSigned 32 data.toNat) ∧
      exec (.extFreqWrite fn data) s = .next { u with tb := { u.tb with extAt := t.now } })) ∧
  (∀ (fn : Fin 65) (data : Word) (s : State), s.writesThrough fn (tbB + 0x78) = true → ∃ t : State,
    t = s.storeWord fn tbB Reg.tbRows 0x78 data.toNat ∧
    (t.tbRuns = false ∨ t.tbMode ≠ 2 → exec (.extStateWrite fn data) s = .next t) ∧
    (t.tbRuns = true → t.tbMode = 2 → t.rd tbB Reg.tbExtCtrlExtState = tbHoldover →
      exec (.extStateWrite fn data) s = .next (if t.tb.state = tbHoldover then t else t.enterHoldover)) ∧
    (t.tbRuns = true → t.tbMode = 2 → t.rd tbB Reg.tbExtCtrlExtState ≠ tbHoldover →
      ∃ u : State, u = (if (t.rd tbB Reg.tbExtCtrlExtState = tbLocked ∨ t.rd tbB Reg.tbExtCtrlExtState = tbRelock) ∧
          t.tb.state ≠ tbLocked ∧ t.tb.state ≠ tbRelock then { t with tb := { t.tb with extAt := t.now } } else t) ∧
        exec (.extStateWrite fn data) s = .next (u.setTbState (t.rd tbB Reg.tbExtCtrlExtState)))) ∧
  (∀ (fn : Fin 65) (s : State), s.writesThrough fn (hmB + 0x78) = true →
    (s.mayWriteL hmB (masterOfFn fn) = false → exec (.modelReset fn) s = .next s ∧ exec (.modelExport fn) s = .next s ∧
      exec (.modelImport fn) s = .next s) ∧
    (s.mayWriteL hmB (masterOfFn fn) = true → exec (.modelReset fn) s = .next s.modelReset ∧
      exec (.modelExport fn) s = .next s.modelExport ∧ exec (.modelImport fn) s = .next s.modelImport ∧
      (s.rd hmB Reg.hmImageWord 0 ≠ 0x484D0001 → s.modelImport = s.wr hmB Reg.hmXferResult 4)))

/-- A word that reaches a running timekeeper counts as good or bad in its run, bad too where it lies more than 100
ns from the time of a timekeeper that follows; a good one makes a timekeeper that is to adopt site time do so; with
no step under way it changes nothing of the timebase; without the lock of the timebase PLL no word is sent. A
running timekeeper that follows and has missed bc_miss words goes onto its own clock, which is counted and
announced; no other does. After 1 ms of good words a running timekeeper on its own clock notes its offset, which is
announced, and is to adopt site time, where the offset is within the step limit or its plate has no active channel,
and slews back otherwise; on the own clock of its intent it stays, and before that, while it slews back, is to
adopt, or does not run, nothing happens. A slew within 8 ns adopts site time, and no other. The lock holder's intent
is stored with mode 2 where 2 is written and 1 otherwise; RUNNING with mode 2 takes a running timekeeper that
follows onto its own clock, ends a slew back where it stands, and lets it adopt no more. Reading the nanoseconds
captures the whole time, of the site to its fraction or of the plate. (14_timebase.md R490; 14_timebase.md R492;
14_timebase.md R493; 14_timebase.md R494; 14_timebase.md R495; 14_timebase.md R499) -/
def Obligations.PlateTimekeepersFollowLoseAndRejoin : Prop :=
  (∀ (bad : BitVec 8) (s : State), s.isSet crB Reg.crRefStatusTbPllLock = false → exec (.broadcastWord bad) s = .next s) ∧
  (∀ (bad : BitVec 8) (s : State), s.isSet crB Reg.crRefStatusTbPllLock = true → s.tb.step = none → s.Inv →
    ∃ t, exec (.broadcastWord bad) s = .next t ∧ t.tb = s.tb ∧ ∀ p < 8,
      (s.tkRuns p = false → t.tk p = s.tk p) ∧
      (s.tkRuns p = true → (bitAt bad.toNat p = true ∨ (s.tk p).own = false ∧ 800 < (s.tk p).offset.natAbs) →
        t.tk p = { s.tk p with badRun := min 15 ((s.tk p).badRun + 1), goodRun := 0 }) ∧
      (s.tkRuns p = true → bitAt bad.toNat p = false → ((s.tk p).own = true ∨ (s.tk p).offset.natAbs ≤ 800) →
        t.tk p = (if (s.tk p).adopting then ({ goodRun := min 1000 ((s.tk p).goodRun + 1) } : Timekeeper)
          else { s.tk p with badRun := 0, goodRun := min 1000 ((s.tk p).goodRun + 1) }))) ∧
  (∀ (p : Fin 8) (s : State),
    (s.tkRuns p = true → (s.tk p).own = false → s.rd (ptB p) Reg.ptCtrlBcMiss ≤ (s.tk p).badRun →
      exec (.broadcastLoss p) s = .next (((s.goOwn p).bumpSat (ptB p) Reg.ptStatLosses).raise (ptB p) evBcLost)) ∧
    (s.tkRuns p = false ∨ (s.tk p).own = true ∨ (s.tk p).badRun < s.rd (ptB p) Reg.ptCtrlBcMiss →
      exec (.broadcastLoss p) s = .next s) ∧
    (s.tkRuns p = false ∨ (s.tk p).own = false ∨ (s.tk p).rejoin = true ∨ (s.tk p).adopting = true ∨ (s.tk p).goodRun < 1000 ∨
      s.tkHostOwn p = true → exec (.broadcastBack p) s = .next s) ∧
    (s.tkRuns p = true → (s.tk p).own = true → (s.tk p).rejoin = false → (s.tk p).adopting = false → 1000 ≤ (s.tk p).goodRun →
      s.tkHostOwn p = false → ∃ a : State, a = (s.wrS (ptB p) Reg.ptOffsetOffset (s.tkOffset p)).raise (ptB p) evBcBack ∧
        ((s.tkOffset p).natAbs ≤ 8 * s.rd tbB Reg.tbStepStepLimit ∨ a.activeIn p (p + 1) = false →
          exec (.broadcastBack p) s = .next (a.setTk p { s.tk p with adopting := true })) ∧
        (8 * s.rd tbB Reg.tbStepStepLimit < (s.tkOffset p).natAbs → a.activeIn p (p + 1) = true → exec (.broadcastBack p) s =
          .next (a.setTk p { s.tk p with offset := s.tkOffset p, rejoin := true, rejoinFrom := a.now }))) ∧
    (s.tkRuns p = true → (s.tk p).rejoin = true → (s.tkOffset p).natAbs ≤ 64 → exec (.rejoinAdopt p) s = .next (s.adopt p)) ∧
    (s.tkRuns p = false ∨ (s.tk p).rejoin = false ∨ 64 < (s.tkOffset p).natAbs → exec (.rejoinAdopt p) s = .next s)) ∧
  (∀ (fn : Fin 65) (p : Fin 8) (data : Word) (s : State), s.lockedWrite fn (ptB p) (ptB p + 0x20) = true →
    (bitsOf data.toNat 8 8 ≠ 2 ∨ intentOp data.toNat ≠ opRunning → exec (.timekeeperHostStateWrite fn p data) s =
      .next (s.storeIntent (ptB p) (intentOp data.toNat) (if bitsOf data.toNat 8 8 = 2 then 2 else 1))) ∧
    (bitsOf data.toNat 8 8 = 2 → intentOp data.toNat = opRunning → ∃ t : State, t = s.storeIntent (ptB p) opRunning 2 ∧
      (t.tkRuns p = false → exec (.timekeeperHostStateWrite fn p data) s = .next t) ∧
      (t.tkRuns p = true → (t.tk p).own = false → exec (.timekeeperHostStateWrite fn p data) s = .next (t.goOwn p)) ∧
      (t.tkRuns p = true → (t.tk p).own = true → (t.tk p).rejoin = true →
        exec (.timekeeperHostStateWrite fn p data) s = .next (t.setTk p (t.tkCoasting p))) ∧
      (t.tkRuns p = true → (t.tk p).own = true → (t.tk p).rejoin = false →
        exec (.timekeeperHostStateWrite fn p data) s = .next (t.setTk p { t.tk p with adopting := false })))) ∧
  (∀ (fn : Fin 65) (s : State), s.readsThrough fn (tbB + 0xA0) = true → exec (.timeCaptureRead fn none) s = .next (State.answer
    { s with tb := { s.tb with capture := captureOf s.siteNs ((s.tb.drift * 8 / driftUnit).toNat % 8 * 8192) } }
    fn (s.siteNs % secNs))) ∧
  (∀ (fn : Fin 65) (p : Fin 8) (s : State), s.readsThrough fn (ptB p + 0x50) = true → exec (.timeCaptureRead fn (some p)) s =
    .next (State.answer { s with ptCaps := Sparse.put {} s.ptCaps p (captureOf (s.tkNs p) 0) } fn (s.tkNs p % secNs)))

/-- The lock holder's OFF stops the front end and makes both channels invalid; RUNNING and QUIET are stored as
RUNNING and start it where it is OFF. A reading is taken while it runs, and the first at 110 ms after the start or
later makes it RUNNING; otherwise none is. A second's mean is taken of ten readings of a valid channel while it
runs; 600 of them give a rate, which is stored, channel 0's with its temperature as what learning and holdover use;
fewer give none; without such readings nothing happens. Loading by the lock holder makes the channels named invalid
and copies their coefficients, and without the lock nothing happens. An excitation fault with a channel enabled puts
a starting or running front end into FAULT, counted and announced, and another does nothing; after 1 s it starts
again where the intent is RUNNING, and not otherwise. The measured EFC reference is stored, and its falling below
900 mV announced. The manual code is stored, and steers only where it is enabled while the timebase is OFF.
(15_front_end.md R513; 15_front_end.md R515; 15_front_end.md R516; 15_front_end.md R517; 15_front_end.md R519;
15_front_end.md R520; 15_front_end.md R521; 15_front_end.md R525; 15_front_end.md R526; 15_front_end.md R528) -/
def Obligations.FrontEndStartsReadsAndFails : Prop :=
  (∀ (fn : Fin 65) (data : Word) (s : State), s.lockedWrite fn feB (feB + 0x20) = true →
    (intentOp data.toNat = opOff →
      exec (.frontEndHostStateWrite fn data) s = .next (((s.storeIntent feB opOff 0).setOp feB opOff).feStop)) ∧
    (intentOp data.toNat ≠ opOff → ∃ t : State, t = s.storeIntent feB opRunning 0 ∧
      (t.feOp = opOff → ∃ u : State, u = t.setOp feB opStarting ∧
        exec (.frontEndHostStateWrite fn data) s = .next { u with feAt := t.now, convs := [] }) ∧
      (t.feOp ≠ opOff → exec (.frontEndHostStateWrite fn data) s = .next t))) ∧
  (∀ (th0 th1 : Bridge) (die : Int) (s : State),
    (s.feOp ≠ opRunning → s.feOp ≠ opStarting ∨ s.now < s.feAt + 110 * msNs →
      exec (.frontEndReading th0 th1 die) s = .next s) ∧
    (s.feOp = opRunning → exec (.frontEndReading th0 th1 die) s = .next (s.feReadings th0 th1 die)) ∧
    (s.feOp = opStarting → s.feAt + 110 * msNs ≤ s.now →
      exec (.frontEndReading th0 th1 die) s = .next ((s.setOp feB opRunning).feReadings th0 th1 die))) ∧
  (∀ (n : Fin 2) (s : State), s.Inv → (s.feStop.therm n).valid = false) ∧
  (∀ (n : Fin 2) (s : State),
    ((s.therm n).valid = false ∨ (s.therm n).acc.length < 10 ∨ s.feOp ≠ opRunning → exec (.frontEndRateSecond n) s = .next s) ∧
    ((s.therm n).valid = true → 10 ≤ (s.therm n).acc.length → s.feOp = opRunning → ∃ (means : List Int) (a : State),
      means = ((((s.therm n).acc.drop ((s.therm n).acc.length - 10)).foldl (· + ·) 0) :: (s.therm n).means).take 600 ∧
      a = s.setTherm n { s.therm n with acc := (s.therm n).acc.take ((s.therm n).acc.length - 10), means := means } ∧
      (means.length < 600 → exec (.frontEndRateSecond n) s = .next a) ∧
      (600 ≤ means.length → ∃ (d e : Int × State) (b : State), d = a.drawRound (rateNum means) rateDen ∧ e = d.2.rateWord d.1 ∧
        b = e.2.wrS hmB (if n = 0 then Reg.hmRateTh0Rate else Reg.hmRateTh1Rate) e.1 ∧
        (n = 1 → exec (.frontEndRateSecond n) s = .next b) ∧
        (n = 0 → exec (.frontEndRateSecond n) s = .next { b with hold := { b.hold with
          theta := b.rdS hmB Reg.hmTempTh0 - 3200, rate := b.rdS hmB Reg.hmRateTh0Rate } })))) ∧
  (∀ (fn : Fin 65) (data : Word) (s : State), s.writesThrough fn (feB + 0x44) = true →
    (s.mayWriteL feB (masterOfFn fn) = false → exec (.coefLoadWrite fn data) s = .next s) ∧
    (s.mayWriteL feB (masterOfFn fn) = true → s.Inv → ∃ t, exec (.coefLoadWrite fn data) s = .next t ∧
      ∀ n < 2, bitAt data.toNat n = true → (t.therm n).valid = false ∧
        (t.therm n).coefs = (List.range 16).map (fun k => s.rdS feB Reg.feCoefC (16 * n + k)))) ∧
  (∀ s : State,
    ((s.feOp = opStarting ∨ s.feOp = opRunning) → s.rd feB Reg.feCtrlThEn ≠ 0 → ∃ t : State,
      t = ((s.setOp feB opFault).bumpSat feB Reg.feCountsExcFault).raise feB 2 ∧
      exec .excitationFault s = .next (State.feStop { t with feAt := t.now })) ∧
    (s.rd feB Reg.feCtrlThEn = 0 ∨ (s.feOp ≠ opStarting ∧ s.feOp ≠ opRunning) → exec .excitationFault s = .next s) ∧
    (s.feOp = opFault → s.feAt + secNs ≤ s.now → s.rd feB Title.hostOp = opRunning → ∃ u : State,
      u = s.setOp feB opStarting ∧ exec .excitationRetry s = .next { u with feAt := s.now, convs := [] }) ∧
    (s.feOp ≠ opFault ∨ s.now < s.feAt + secNs ∨ s.rd feB Title.hostOp ≠ opRunning → exec .excitationRetry s = .next s)) ∧
  (∀ (mv : Nat) (s : State), ∃ t : State,
    t = (s.wr feB Reg.feEfcRefRefMv (min mv 8191)).wrB feB Reg.feEfcRefLow (decide (mv < 900)) ∧
    (mv < 900 → s.isSet feB Reg.feEfcRefLow = false → exec (.efcRefMeasure mv) s = .next (t.raise feB 3)) ∧
    (900 ≤ mv ∨ s.isSet feB Reg.feEfcRefLow = true → exec (.efcRefMeasure mv) s = .next t)) ∧
  (∀ (fn : Fin 65) (data : Word) (s : State), s.lockedWrite fn feB (feB + 0x78) = true → ∃ t : State,
    t = s.wr feB Reg.feEfcManCode data.toNat ∧
    (bitAt data.toNat 31 = true → s.opOf .tb 0 tbB = opOff → exec (.efcManualWrite fn data) s =
      .next (((t.wrB feB Reg.feEfcManManEn true).wrB feB Reg.feEfcManual true).setEfc (data.toNat % 2 ^ 18))) ∧
    (bitAt data.toNat 31 = false ∨ s.opOf .tb 0 tbB ≠ opOff → exec (.efcManualWrite fn data) s =
      .next ((t.wrB feB Reg.feEfcManManEn false).wrB feB Reg.feEfcManual false)))

/-- An island that does not measure takes no interval and no reading; one that does takes the interval of a feed
that is in use, and settled, from the words its two converters give, as energy in the direction of its power, and
its temperature reading from the die's and its bridge's conversions, one out of range making it invalid; a feed that
is off converts the die alone. A drive limit faults a FLUX feed until it clears, and no other. A publication is
numbered after the last, starts the windows anew, and is received, where it arrives, while the sheets are ready;
without one for 10 ms the mailbox of a fused island is in FAULT, announced once. A read of MB_SEQ latches the latest
publication, and reads 0 without one. A change of SEAL_EN is recorded unless the log is full, and its fall reloads
the shadow sets. A checkpoint is written every 60 s while the supply is not low, and at a failing supply that is
held up; a reset writes one unless the supply was low, and its release restores the feeds from the newest. The
crystal's failure and return are noted. An island that is not there, or in reset, does none of this, and a release
where there is no reset nothing. A test pulse ends 4 ms after its start, and not before. (16_metrology.md R537;
16_metrology.md R543; 16_metrology.md R545; 16_metrology.md R549; 16_metrology.md R557; 16_metrology.md R558;
16_metrology.md R559; 16_metrology.md R560; 16_metrology.md R564; 16_metrology.md R566; 16_metrology.md R569) -/
def Obligations.IslandMeasuresPublishesAndResets : Prop :=
  (∀ (k : Fin 8) (current volts : List Int) (th : Bridge) (die : Int) (s : State),
    (s.islandMeasures = false →
      exec (.islandInterval k current volts) s = .next s ∧ exec (.islandTempReading k th die) s = .next s) ∧
    (s.islandMeasures = true → (s.feed k).params.mode = 0 →
      exec (.islandInterval k current volts) s = .next s ∧ exec (.islandTempReading k th die) s = .next (s.dieConvert die)) ∧
    (s.islandMeasures = true → s.now < (s.feed k).runFrom → exec (.islandInterval k current volts) s = .next s) ∧
    (s.islandMeasures = true → (s.feed k).params.mode ≠ 0 → (s.feed k).runFrom ≤ s.now → ∃ i v : List (Int × Int) × State,
      i = s.islandWordsOf (3 * k) (s.currentInput k current) 1 ∧
      v = i.2.islandWordsOf (3 * k + 1) (i.2.voltageInput k volts) (s.feed k).params.words ∧
      exec (.islandInterval k current volts) s =
        .next (v.2.interval k (i.1.getD 0 (0, 0)).1 (v.1.map (fun w => w.1)) (i.1.getD 0 (0, 0)).2)) ∧
    (s.islandMeasures = true → (s.feed k).params.mode ≠ 0 → ∃ (a : State) (r : Int × State), a = s.dieConvert die ∧
      r = a.islandConvert (3 * k + 2) (bridgeInput (18 + 3 * k) (a.feedDriven k) th) ∧
      exec (.islandTempReading k th die) s = .next (r.2.feedTemp k r.1))) ∧
  (∀ (k : Fin 8) (x : Int) (s : State), readingIn x = false → s.feedTemp k x = s.setFeed k
    { s.feed k with tValid := false, goodRun := 0, prevGood := if (s.feed k).tValid then none else (s.feed k).prevGood }) ∧
  (∀ (e : FeedEnergy) (p : Int) (cycles : Nat), (0 < p → (e.add p cycles).fwd = e.fwd + p.natAbs * cycles ∧ (e.add p cycles).rev = e.rev) ∧
    (p < 0 → (e.add p cycles).rev = e.rev + p.natAbs * cycles ∧ (e.add p cycles).fwd = e.fwd) ∧ (p = 0 → e.add p cycles = e)) ∧
  (∀ (k : Fin 8) (limited : Bool) (s : State),
    (s.islandOn = true → (s.feed k).params.mode = 2 →
      exec (.fluxDriveLimit k limited) s = .next (s.setFeed k { s.feed k with fluxFault := limited })) ∧
    (s.islandOn = false ∨ (s.feed k).params.mode ≠ 2 → exec (.fluxDriveLimit k limited) s = .next s)) ∧
  (∀ (arrives : Bool) (s : State),
    (s.islandOn = false → exec (.islandWindowPublish arrives) s = .next s) ∧
    (s.islandOn = true → ∃ (p : Publication) (a t : State), (p, a) = s.publication ∧
      p.seq = (match s.island.pub with | some q => (q.seq + 1) % 2 ^ 32 | none => 1) ∧ p.feeds.length = 8 ∧ p.island.length = 16 ∧
      t = a.modIsland (fun d => { d with
        pub := some p, feeds := (d.feeds.map (fun e => (e.1, e.2.newWindow))).filter (fun e => e.2 != {}) }) ∧
      (arrives = true → t.chip.sheetsReady = true → exec (.islandWindowPublish arrives) s = .next (t.receivePub p) ∧
        (t.receivePub p).mailbox.latest = some p ∧ (t.receivePub p).mailbox.at_ = t.now) ∧
      (arrives = false ∨ t.chip.sheetsReady = false → exec (.islandWindowPublish arrives) s = .next t))) ∧
  (∀ s : State,
    (s.fusesBlown.islOff = false → s.chip.sheetsReady = true → s.rd mbB Title.stateOp ≠ opFault →
      s.mailbox.at_ + 10 * msNs ≤ s.now → exec .islandLost s = .next ((s.setOp mbB opFault).raise mbB 0)) ∧
    (s.fusesBlown.islOff = true ∨ s.chip.sheetsReady = false ∨ s.rd mbB Title.stateOp = opFault ∨
      s.now < s.mailbox.at_ + 10 * msNs → exec .islandLost s = .next s)) ∧
  (∀ (fn : Fin 65) (s : State), s.readsThrough fn (mbB + 0x40) = true →
    (s.mailbox.latest = none → exec (.mbSeqRead fn) s = .next (s.answer fn 0)) ∧
    (∀ p, s.mailbox.latest = some p → ∃ u : State, u = { s with mailbox := { s.mailbox with latched := some p } } ∧
      exec (.mbSeqRead fn) s = .next ((u.wr mbB Reg.mbSeqSeq p.seq).answer fn p.seq))) ∧
  (∀ (level : Bool) (s : State),
    (s.islandOn = false ∨ s.island.sealEn = level → exec (.sealEnChange level) s = .next s) ∧
    (s.islandOn = true → s.island.sealEn ≠ level → ∃ a b : State, a = s.modIsland (fun d => { d with sealEn := level }) ∧
      b = (if a.island.logFull then a else a.audit (if level then 1 else 2) 255 0 0 0) ∧
      exec (.sealEnChange level) s = .next (if level then b else b.modIsland Island.reloadShadow))) ∧
  (∀ s : State,
    (s.islandOn = true → s.island.low = false → s.island.ckptAt + 60 * secNs ≤ s.now →
      exec .islandCheckpoint s = .next ((s.checkpoint true).modIsland (fun d => { d with ckptAt := s.now }))) ∧
    (s.islandOn = false ∨ s.island.low = true ∨ s.now < s.island.ckptAt + 60 * secNs → exec .islandCheckpoint s = .next s) ∧
    (s.islandOn = false → (∀ reset holdUp : Bool, exec (.vddIslLow reset holdUp) s = .next s) ∧ exec .islPorNAssert s = .next s ∧
      exec .crystalFail s = .next s ∧ exec .crystalResume s = .next s) ∧
    (∀ reset : Bool, s.islandOn = true → ∃ b : Bool → State,
      (∀ holdUp, b holdUp = State.modIsland (if s.island.low || !holdUp then s else s.checkpoint false) (fun d => { d with low := true })) ∧
      (∀ holdUp, exec (.vddIslLow reset holdUp) s = .next (if reset then (b holdUp).islandReset else b holdUp))) ∧
    (s.islandOn = true → ∃ t, t = State.islandReset (if s.island.low then s else s.checkpoint false) ∧
      exec .islPorNAssert s = .next t ∧ t.island.inReset = true ∧ t.island.sealEn = false ∧
      t.island.log = s.island.log ∧
      (s.island.low = true → t.island.ckpts = s.island.ckpts) ∧ (s.island.low = false → t.island.ckpts.length =
        min 64 (s.island.ckpts.length + 1))) ∧
    (s.fusesBlown.islOff = false → s.island.inReset = true → ∃ (c : Checkpoint) (e : Island),
      c = s.island.ckpts.head?.getD { periodic := false, feeds := [] } ∧
      e = forUpTo 8 (fun k (x : Island) => x.setFeed k ((x.feed k).restore (Sparse.get {} c.feeds k))) s.island ∧
      exec .islandResetRelease s = .next (s.modIsland (fun d => { e with
        inReset := false, low := false, from_ := s.now, ckptAt := s.now, clockFault := false, powerups := d.powerups + 1
        unsaved := if c.periodic then d.unsaved + 1 else d.unsaved }))) ∧
    (s.fusesBlown.islOff = true ∨ s.island.inReset = false → exec .islandResetRelease s = .next s) ∧
    (s.islandOn = true → exec .crystalFail s = .next (s.modIsland (fun d => { d with clockFault := true })) ∧
      exec .crystalResume s = .next (s.modIsland (fun d => { d with clockFault := false }))) ∧
    (s.island.tpAt = none → exec .testPulseEnd s = .next s) ∧
    (∀ a, s.island.tpAt = some a → (a + 4 * msNs ≤ s.now →
        exec .testPulseEnd s = .next ((s.modIsland (fun d => { d with tpAt := none })).tpStart)) ∧
      (s.now < a + 4 * msNs → exec .testPulseEnd s = .next s)))

/-- An island in reset, or none, answers nothing. IDENT answers its identity and counts. A read of an item answers
its value, or status 3 where it names nothing. A write or a commit is refused with status 1 while the seal is
closed, then with status 3 for no such item or feed; any other is carried out, a commit set by set in order until
one fails, and its status answered, with the value stored or the seal's count where that is 0. A write of a scalar
that changes nothing is answered 0 and not recorded; a full log refuses a change of one with status 2; a change is
recorded and the seal's count moves. A log record, a feed and a stream are answered for a record or feed that exists
and refused with status 3 otherwise; a stream begins with its period, and ends with a period of 0. A stream's frame
leaves once in its period, and not sooner. A test output is set for valid operands and otherwise refused. A bad
frame is counted alone; a good one of no known command is answered with status 3, and one of a known command has its
own row here. (16_metrology.md R550; 16_metrology.md R551; 16_metrology.md R552; 16_metrology.md R553;
16_metrology.md R556; 16_metrology.md R562; 16_metrology.md R563; 16_metrology.md R564) -/
def Obligations.IslandAnswersItsSerialPort : Prop :=
  (∀ (item : BitVec 16) (value index : Word) (nvmOk gap : Bool) (feed mask dir con en : BitVec 8) (period : BitVec 16) (bytes : List Byte) (k : Fin 8)
    (s : State), s.islandOn = false →
    exec .uartIdent s = .next s ∧ exec (.uartReadParam item) s = .next s ∧ exec (.uartWriteParam item value nvmOk) s = .next s ∧
    exec (.uartCommit feed mask nvmOk) s = .next s ∧ exec (.uartReadLog index) s = .next s ∧
    exec (.uartStream feed period) s = .next s ∧ exec (.uartTpSet feed dir con en) s = .next s ∧
    exec (.uartReadFeed feed) s = .next s ∧ exec (.uartBadFrame bytes gap) s = .next s ∧ exec (.streamFeedSend k) s = .next s) ∧
  (∀ s : State, s.islandOn = true →
    exec .uartIdent s = .next (s.uartAnswer 1 0 (leBytes 2 Config.islandVersion ++ leBytes 4 Config.islandRomCrc
      ++ leBytes 8 Config.islandSerial ++ leBytes 4 s.island.sealCount ++ leBytes 4 s.island.log.length)) ∧
    (∀ item : BitVec 16, (∀ v, s.paramValue item.toNat = some v →
        exec (.uartReadParam item) s = .next (s.uartAnswer 2 0 (leBytes 4 v))) ∧
      (s.paramValue item.toNat = none → exec (.uartReadParam item) s = .next (s.uartAnswer 2 3 []))) ∧
    (∀ (item : BitVec 16) (value : Word) (nvmOk : Bool),
      (s.paramValue item.toNat = none → s.island.sealEn = true →
        exec (.uartWriteParam item value nvmOk) s = .next (s.uartAnswer 3 3 [])) ∧
      (s.island.sealEn = false →
        exec (.uartWriteParam item value nvmOk) s = .next (s.uartAnswer 3 1 [])) ∧
      (∀ v, s.paramValue item.toNat = some v → s.island.sealEn = true →
        1 ≤ item.toNat % 256 → item.toNat % 256 ≤ 8 → paramLegal (item.toNat % 256) value.toNat = v →
        exec (.uartWriteParam item value nvmOk) s = .next (s.uartAnswer 3 0 (leBytes 4 v))) ∧
      (∀ v, s.paramValue item.toNat = some v → s.island.sealEn = true →
        1 ≤ item.toNat % 256 → item.toNat % 256 ≤ 8 → paramLegal (item.toNat % 256) value.toNat ≠ v → s.island.logFull = true →
        exec (.uartWriteParam item value nvmOk) s = .next (s.uartAnswer 3 2 [])) ∧
      (∀ v, s.paramValue item.toNat = some v → s.island.sealEn = true → s.Inv →
        1 ≤ item.toNat % 256 → item.toNat % 256 ≤ 8 → paramLegal (item.toNat % 256) value.toNat ≠ v → s.island.logFull = false →
        ∃ t, exec (.uartWriteParam item value true) s = .next t ∧ t.island.log.length = s.island.log.length + 1 ∧
          t.island.sealCount = min 0xFFFFFFFF (s.island.sealCount + 1)) ∧
      ((s.paramValue item.toNat).isSome = true → s.island.sealEn = true → ∃ (st : Nat) (t : State),
        (st, t) = s.writeParam item.toNat value.toNat nvmOk ∧
        (st = 0 → exec (.uartWriteParam item value nvmOk) s =
          .next (t.uartAnswer 3 0 (leBytes 4 ((t.paramValue item.toNat).getD 0)))) ∧
        (st ≠ 0 → exec (.uartWriteParam item value nvmOk) s = .next (t.uartAnswer 3 st [])))) ∧
    (∀ (feed mask : BitVec 8) (nvmOk : Bool),
      (8 ≤ feed.toNat → s.island.sealEn = true → exec (.uartCommit feed mask nvmOk) s = .next (s.uartAnswer 4 3 [])) ∧
      (s.island.sealEn = false → exec (.uartCommit feed mask nvmOk) s = .next (s.uartAnswer 4 1 [])) ∧
      (feed.toNat < 8 → s.island.sealEn = true → mask.toNat % 8 = 0 →
        exec (.uartCommit feed mask nvmOk) s = .next (s.uartAnswer 4 0 (leBytes 4 s.island.sealCount))) ∧
      (feed.toNat < 8 → s.island.sealEn = true → ∃ (a : Nat → Nat × State → Nat × State) (r : Nat × State),
        (∀ m x, a m x = if bitAt mask.toNat m then State.commitOne nvmOk feed.toNat m x else x) ∧ r = a 2 (a 1 (a 0 (0, s))) ∧
        (r.1 = 0 → exec (.uartCommit feed mask nvmOk) s = .next (r.2.uartAnswer 4 0 (leBytes 4 r.2.island.sealCount))) ∧
        (r.1 ≠ 0 → exec (.uartCommit feed mask nvmOk) s = .next (r.2.uartAnswer 4 r.1 [])))) ∧
    (∀ index : Word, (∀ r, s.island.record? index.toNat = some r →
        exec (.uartReadLog index) s = .next (s.uartAnswer 5 0 r.bytes)) ∧
      (s.island.log.length ≤ index.toNat → exec (.uartReadLog index) s = .next (s.uartAnswer 5 3 []))) ∧
    (∀ feed : BitVec 8, (8 ≤ feed.toNat → exec (.uartReadFeed feed) s = .next (s.uartAnswer 8 3 []) ∧
        ∀ period, exec (.uartStream feed period) s = .next (s.uartAnswer 6 3 [])) ∧
      (feed.toNat < 8 → exec (.uartReadFeed feed) s = .next (s.uartAnswer 8 0 (s.feedBytes feed.toNat)) ∧
        (∀ period : BitVec 16, period ≠ 0 → exec (.uartStream feed period) s = .next (State.uartAnswer
          (s.modIsland (fun d => { d with streams := Sparse.ins d.streams feed.toNat { period := period.toNat, sentAt := s.now } }))
          6 0 [])) ∧
        exec (.uartStream feed 0) s = .next (State.uartAnswer
          (s.modIsland (fun d => { d with streams := Sparse.del d.streams feed.toNat })) 6 0 []))) ∧
    (∀ k : Fin 8, Sparse.find? s.island.streams k = none → exec (.streamFeedSend k) s = .next s) ∧
    (∀ (k : Fin 8) r, Sparse.find? s.island.streams k = some r →
      (r.sentAt + r.period * msNs ≤ s.now → exec (.streamFeedSend k) s = .next (State.emit
        (s.modIsland (fun d => { d with streams := Sparse.ins d.streams k { r with sentAt := s.now } }))
          (.uart (uartFrame 0x86 (s.feedBytes k))))) ∧
      (s.now < r.sentAt + r.period * msNs → exec (.streamFeedSend k) s = .next s)) ∧
    (∀ feed dir con en : BitVec 8,
      (8 ≤ feed.toNat ∨ 2 ≤ dir.toNat ∨ 3 ≤ con.toNat → exec (.uartTpSet feed dir con en) s = .next (s.uartAnswer 7 3 [])) ∧
      (feed.toNat < 8 → dir.toNat < 2 → con.toNat < 3 → exec (.uartTpSet feed dir con en) s = .next (State.uartAnswer
        (s.modIsland (fun d => { d with tpOn := en != 0, tpFeed := feed.toNat, tpRev := dir == 1, tpConst := con.toNat, tpAt := none, tpQueue := 0 })) 7 0 []))) ∧
    (∀ (bytes : List Byte) (gap : Bool),
      (gap = true ∨ uartGood bytes = false → exec (.uartBadFrame bytes gap) s =
        .next (s.modIsland (fun d => { d with uartBad := satAdd 0xFFFF d.uartBad 1 }))) ∧
      (gap = false → uartGood bytes = true →
        (uartRequest (bytes.getD 2 0).toNat = none →
          exec (.uartBadFrame bytes gap) s = .next (s.uartAnswer (bytes.getD 2 0).toNat 3 [])) ∧
        ((uartRequest (bytes.getD 2 0).toNat).isSome = true → exec (.uartBadFrame bytes gap) s = .next s))))

/-- The lock holder's start begins an OFF channel that is present, after what the write stores, and no other write
begins one; WD_CTRL of W0 stores nothing, and a write of it to another channel that is neither OFF, held nor in its
open window is a violation. The first key is kept, later ones are counted. A service of a channel whose period is
over fails it with cause 3 first; a service is ignored and counted while the channel is OFF, held or kernel-served;
out of the window it fails with cause 1, with a wrong token with cause 2, and otherwise it is good. A channel whose
period is over expires with cause 3; one whose period is not, does not. A failure leaves its cause as evidence and
raises failed. The lock holder's debug hold stops a running channel of a plate that is present, in the debug state;
W0, and any channel outside that state or not present, is not held; its release starts a period anew. The window's
opening is announced once in a period, and the wake of a QUIET plate's running kernel-served channel asked for once,
when its time has come. A clear leaves no evidence. A measured tick is stored on every sheet while the PLL is
locked, and not otherwise. (18_watchdog.md R604; 18_watchdog.md R605; 18_watchdog.md R607; 18_watchdog.md R610;
18_watchdog.md R611; 18_watchdog.md R612; 18_watchdog.md R614; 18_watchdog.md R617; 18_watchdog.md R618;
18_watchdog.md R620; 18_watchdog.md R622; 18_watchdog.md R625) -/
def Obligations.WatchdogChannelsAreServedAndFail : Prop :=
  (∀ (fn : Fin 65) (c : Fin 9) (data : Word) (s : State), s.writesThrough fn (wdB c + 0x40) = true → ∃ t : State,
    t = s.wdConfigEffect fn c 0x40 data.toNat ∧
    (bitAt data.toNat 0 = true → t.mayWriteL (wdB c) (masterOfFn fn) = true → (t.wd c).running = false → t.wdPresent c = true →
      exec (.watchdogStart fn c data) s = .next (t.wdBegin c)) ∧
    (bitAt data.toNat 0 = false ∨ (t.wd c).running = true ∨ t.mayWriteL (wdB c) (masterOfFn fn) = false ∨
      t.wdPresent c = false → exec (.watchdogStart fn c data) s = .next t) ∧
    (c.val = 0 → t = s) ∧
    (c.val ≠ 0 → (s.wd c).running = true → (s.wd c).heldAt = none → s.wdOpen c = false →
      t = s.violateWrite fn vWindowWrite (wdB c + 0x40))) ∧
  (∀ (fn : Fin 65) (c : Fin 9) (data : Word) (s : State), s.writesThrough fn (wdB c + 0x48) = true →
    ((s.wd c).key = none → exec (.watchdogKeyWrite fn c data) s =
      .next (s.setWd c { s.wd c with key := some (data.toNat % 65536) })) ∧
    ((s.wd c).key.isSome = true → exec (.watchdogKeyWrite fn c data) s =
      .next (s.bumpSat (wdB c) Reg.wdCountsIgnored))) ∧
  (∀ (fn : Fin 65) (c : Fin 9) (data : Word) (s : State), s.writesThrough fn (wdB c + 0x50) = true → ∃ t : State,
    t = (if s.wdDue c then s.wdFail c 3 else s) ∧
    ((t.wd c).running = false ∨ (t.wd c).heldAt.isSome = true ∨ (t.wd c).kernel = true →
      exec (.watchdogService fn c data) s = .next (t.bumpSat (wdB c) Reg.wdCountsIgnored)) ∧
    ((t.wd c).running = true → (t.wd c).heldAt = none → (t.wd c).kernel = false →
      (t.wdOpen c = false → exec (.watchdogService fn c data) s = .next (t.wdFail c 1)) ∧
      (t.wdOpen c = true → data.toNat % 65536 ≠ t.wdToken c → exec (.watchdogService fn c data) s = .next (t.wdFail c 2)) ∧
      (t.wdOpen c = true → data.toNat % 65536 = t.wdToken c → exec (.watchdogService fn c data) s = .next (t.wdGood c)))) ∧
  (∀ (c : Fin 9) (s : State),
    (s.wdDue c = true → exec (.watchdogExpiry c) s = .next (s.wdFail c 3)) ∧
    (s.wdDue c = false → exec (.watchdogExpiry c) s = .next s) ∧
    (s.wdOpen c = true → (s.wd c).announced = false → exec (.watchdogWindowOpen c) s =
      .next ((s.setWd c { s.wd c with announced := true }).raise (wdB c) 0)) ∧
    (s.wdOpen c = false ∨ (s.wd c).announced = true → exec (.watchdogWindowOpen c) s = .next s) ∧
    (c.val ≠ 0 → (s.wd c).running = true → (s.wd c).heldAt = none → (s.wd c).kernel = true → (s.wd c).wakeReq = false →
      s.plateQuiet (c.val - 1) = true → (s.wd c).latchAt ≤ s.wdElapsed c → exec (.watchdogWakeLatch c) s =
        .next ((s.setWd c { s.wd c with wakeReq := true }).requestWake wakeWatchdog (2 ^ (c.val - 1)))) ∧
    (c.val = 0 ∨ (s.wd c).running = false ∨ (s.wd c).heldAt.isSome = true ∨ (s.wd c).kernel = false ∨ (s.wd c).wakeReq = true ∨
      s.plateQuiet (c.val - 1) = false ∨ s.wdElapsed c < (s.wd c).latchAt → exec (.watchdogWakeLatch c) s = .next s)) ∧
  (∀ (c : Nat) (cause : Nat) (s : State), s.Inv → c < 9 → cause < 4 →
    (s.wdEvidence c cause).rd (wdB c) Reg.wdEvCauseCause = cause ∧ (s.wdEvidence c cause).isSet (wdB c) Reg.wdEvCauseValid = true ∧
    bitAt ((s.wdEvidence c cause).rd (wdB c) Title.event) 1 = true) ∧
  (∀ (fn : Fin 65) (c : Fin 9) (s : State), s.lockedWrite fn (wdB c) (wdB c + 0x5C) = true →
    (c.val ≠ 0 → s.debugState = true → s.wdPresent c = true → ∃ t : State, t = s.wrB (wdB c) Reg.wdDebugHold true ∧
      ((s.wd c).running = true → (s.wd c).heldAt = none → exec (.watchdogDebugHold fn c) s =
        .next (t.setWd c { s.wd c with heldAt := some (s.wdElapsed c) })) ∧
      ((s.wd c).running = false ∨ (s.wd c).heldAt.isSome = true → exec (.watchdogDebugHold fn c) s = .next t)) ∧
    (c.val = 0 ∨ s.debugState = false ∨ s.wdPresent c = false → (s.wd c).heldAt = none →
      exec (.watchdogDebugHold fn c) s = .next (s.wrB (wdB c) Reg.wdDebugHold false)) ∧
    (c.val = 0 ∨ s.debugState = false ∨ s.wdPresent c = false → (s.wd c).heldAt.isSome = true →
      exec (.watchdogDebugHold fn c) s = exec (.watchdogDebugRelease fn c) s) ∧
    ((s.wd c).heldAt = none → exec (.watchdogDebugRelease fn c) s = .next (s.wrB (wdB c) Reg.wdDebugHold false)) ∧
    ((s.wd c).heldAt.isSome = true → ∃ t : State, t = s.wrB (wdB c) Reg.wdDebugHold false ∧
      exec (.watchdogDebugRelease fn c) s = .next (t.setWd c (t.wdApply c { s.wd c with
        heldAt := none, since := s.aonTick, first := false, announced := false, wakeReq := false })))) ∧
  (∀ (fn : Fin 65) (c : Fin 9) (s : State), s.writesThrough fn (wdB c + 0x80) = true → ∃ t, exec (.evidenceClear fn c) s = .next t ∧
    t = { s with regs := t.regs } ∧ ∀ k v, Sparse.find? t.regs k = some v → k < (wdB c + 0x80) * 32 ∨ (wdB c + 0xB0) * 32 ≤ k) ∧
  (∀ (ns : Nat) (s : State), (s.isSet crB Reg.crRefStatusTbPllLock = false → exec (.tickMeasure ns) s = .next s) ∧
    (s.isSet crB Reg.crRefStatusTbPllLock = true → s.Inv → ∃ t, exec (.tickMeasure ns) s = .next t ∧
      ∀ c < 9, t.rd (wdB c) Reg.wdTickNsTickNs = min (2 ^ 21 - 1) ns ∧ t.isSet (wdB c) Reg.wdTickNsValid = true))

/-- The lock holder's OFF is stored, anything else stores RUNNING. A host wake names its plates; leaving L1 wakes
those of QM_PCIE_WAKE. A quiet request of a plate entering quiet mode that is older than lapse_ms lapses: the plate
runs again, counted and announced; a younger one stays. A site input is sampled once the sheets are ready, unless
the balls follow the scan cells, and one active for 10 s is stuck, announced and counted once; any other is not. The
coordinator proposes a round when idle, ready, its own vote given, and past the retry time, and at no other time; a
proposal at the window's end, or 2 ms before T_c, and a vote without a commit 1 ms before T_c, are aborted, and
nothing else; an armed round commits 50 µs past T_c, and not before. Frames are taken on a lane that is up, and
there first relayed; one of this node's own or for another is taken no further. A member that is idle answers a
proposal with its vote; votes, a commit and an abort act only on the round under way; a wake frame ends an armed
round it is in time for, and wakes the coordinated plates it names that are quiet or entering quiet mode.
(20_power_sleep.md R663; 20_power_sleep.md R664; 20_power_sleep.md R669; 20_power_sleep.md R670; 20_power_sleep.md
R673; 20_power_sleep.md R676; 20_power_sleep.md R677; 20_power_sleep.md R678; 20_power_sleep.md R679;
20_power_sleep.md R681; 20_power_sleep.md R683; 19_life_cycle.md R648) -/
def Obligations.QuietRequestsVotesAndWakes : Prop :=
  (∀ (fn : Fin 65) (data : Word) (s : State), s.lockedWrite fn qmB (qmB + 0x20) = true →
    exec (.quietHostStateWrite fn data) s =
      .next (s.storeIntent qmB (if intentOp data.toNat = opOff then opOff else opRunning) 0)) ∧
  (∀ (fn : Fin 65) (data : Word) (s : State), s.writesThrough fn (qmB + 0x5C) = true →
    exec (.wakeRequestWrite fn data) s = .next (s.requestWake wakeHost (bitsOf data.toNat 0 8))) ∧
  (∀ s : State,
    (s.linkUp = true → s.isSet hpB Reg.hpLinkInL1 = true → exec .l1Exit s =
      .next ((s.wr hpB Reg.hpLinkInL1 0).requestWake wakePcie (s.rd qmB Reg.qmPcieWakePlates))) ∧
    (s.linkUp = false ∨ s.isSet hpB Reg.hpLinkInL1 = false → exec .l1Exit s = .next s)) ∧
  (∀ (p : Fin 8) (s : State),
    (Sparse.find? s.quietReqs p = none → exec (.quietLapse p) s = .next s) ∧
    (∀ at_, Sparse.find? s.quietReqs p = some at_ →
      (s.enteringQuiet p = false ∨ s.now < at_ + s.rd qmB Reg.qmLapseLapseMs * msNs → exec (.quietLapse p) s = .next s) ∧
      (s.enteringQuiet p = true → at_ + s.rd qmB Reg.qmLapseLapseMs * msNs ≤ s.now → exec (.quietLapse p) s =
        .next ((((if s.coordinated p then s.stirRound else s).cancelQuiet p).bumpSat qmB Reg.qmCountsLapses).raise qmB 2)))) ∧
  (∀ (i : Fin 8) (pin : Bool) (s : State),
    (s.chip.sheetsReady = true → s.ballsScanned = false → exec (.siteInSample i pin) s = .next (s.siteSample i pin)) ∧
    (s.chip.sheetsReady = false ∨ s.ballsScanned = true → exec (.siteInSample i pin) s = .next s) ∧
    ((Sparse.get {} s.siteIns i.val).stuck = true ∨ (Sparse.get {} s.siteIns i.val).level = false ∨
      s.now < (Sparse.get {} s.siteIns i.val).activeAt + 10 * secNs → exec (.siteInStuck i) s = .next s) ∧
    ((Sparse.get {} s.siteIns i.val).level = true → (Sparse.get {} s.siteIns i.val).stuck = false →
      (Sparse.get {} s.siteIns i.val).activeAt + 10 * secNs ≤ s.now → ∃ u : State,
        u = { s with siteIns := Sparse.put {} s.siteIns i.val { Sparse.get {} s.siteIns i.val with stuck := true } } ∧
        exec (.siteInStuck i) s = .next (((u.wr siB Reg.siStateStuck (setBit (s.rd siB Reg.siStateStuck) i true)).raise siB
          (16 + i.val)).bumpSat siB Reg.siCountStuck i))) ∧
  (∀ s : State,
    (s.chip.sheetsReady = true → s.voteNow = voteIdle → s.coordinates = true → s.votesYes = true →
      s.quiet.endedAt + s.rd qmB Reg.qmVoteCfgRetryMs * msNs ≤ s.now → exec .votePropose s = .next s.propose) ∧
    (s.chip.sheetsReady = false ∨ s.voteNow ≠ voteIdle ∨ s.coordinates = false ∨ s.votesYes = false ∨
        s.now < s.quiet.endedAt + s.rd qmB Reg.qmVoteCfgRetryMs * msNs → exec .votePropose s = .next s) ∧
    (s.quiet.vote = voteProposed → s.quiet.proposedAt + s.rd qmB Reg.qmVoteCfgVoteMs * msNs ≤ s.now ∨
        s.quiet.tc ≤ s.siteNs + 2 * msNs → exec .voteWindowTimeout s = .next (s.abortRound (some s.siteNs))) ∧
    (s.quiet.vote ≠ voteProposed → exec .voteWindowTimeout s = .next s) ∧
    (s.now < s.quiet.proposedAt + s.rd qmB Reg.qmVoteCfgVoteMs * msNs → s.siteNs + 2 * msNs < s.quiet.tc →
      exec .voteWindowTimeout s = .next s) ∧
    (s.quiet.vote = voteVoted → s.quiet.tc ≤ s.siteNs + msNs → exec .commitWaitTimeout s = .next (s.abortRound (some s.siteNs))) ∧
    (s.quiet.vote ≠ voteVoted ∨ s.siteNs + msNs < s.quiet.tc → exec .commitWaitTimeout s = .next s) ∧
    (s.quiet.vote = voteArmed → s.quiet.tc + 50000 ≤ s.siteNs → exec .commitInstant s = .next s.commitQuiet) ∧
    (s.quiet.vote ≠ voteArmed ∨ s.siteNs < s.quiet.tc + 50000 → exec .commitInstant s = .next s)) ∧
  (∀ (h : EpkHdr) (round plates : BitVec 8) (tc stamp : Nat) (yes : Bool) (s : State),
    (s.laneIsUp h.lane = false → exec (.proposeReceived h round tc) s = .next s ∧ exec (.voteReceived h round yes) s = .next s ∧
      exec (.commitReceived h round) s = .next s ∧ exec (.abortReceived h round stamp) s = .next s ∧
      exec (.wakeFrameReceived h plates stamp) s = .next s) ∧
    (s.laneIsUp h.lane = true →
      (∃ t : State, t = (s.heardOn h.lane h.origin).relay h (.propose round.toNat tc) ∧
        (h.origin.val = t.myNode ∨ (h.dest ≠ everyNode ∧ h.dest.val ≠ t.myNode) → exec (.proposeReceived h round tc) s = .next t) ∧
        (h.origin.val ≠ t.myNode → h.dest = everyNode ∨ h.dest.val = t.myNode →
          (t.voteNow ≠ voteIdle → exec (.proposeReceived h round tc) s = .next t) ∧
          (t.voteNow = voteIdle → t.votesYes = true → exec (.proposeReceived h round tc) s =
            .next ((t.takeRound round.toNat tc voteVoted).broadcast (.vote round.toNat true))) ∧
          (t.voteNow = voteIdle → t.votesYes = false → exec (.proposeReceived h round tc) s =
            .next (t.broadcast (.vote round.toNat false))))) ∧
      (∃ t : State, t = (s.heardOn h.lane h.origin).relay h (.vote round.toNat yes) ∧
        (h.origin.val = t.myNode ∨ (h.dest ≠ everyNode ∧ h.dest.val ≠ t.myNode) → exec (.voteReceived h round yes) s = .next t) ∧
        (h.origin.val ≠ t.myNode → h.dest = everyNode ∨ h.dest.val = t.myNode →
          (t.quiet.vote ≠ voteProposed ∨ t.sameRound round.toNat = false → exec (.voteReceived h round yes) s = .next t) ∧
          (t.quiet.vote = voteProposed → t.sameRound round.toNat = true → yes = false →
            exec (.voteReceived h round yes) s = .next (t.abortRound (some t.siteNs))) ∧
          (t.quiet.vote = voteProposed → t.sameRound round.toNat = true → yes = true → ∃ u : State,
            u = { t with quiet := { t.quiet with yes := insertAsc h.origin t.quiet.yes } } ∧
            exec (.voteReceived h round yes) s = .next u.tryCommit))) ∧
      (∃ t : State, t = (s.heardOn h.lane h.origin).relay h (.commit round.toNat) ∧
        (h.origin.val = t.myNode ∨ (h.dest ≠ everyNode ∧ h.dest.val ≠ t.myNode) → exec (.commitReceived h round) s = .next t) ∧
        (h.origin.val ≠ t.myNode → h.dest = everyNode ∨ h.dest.val = t.myNode →
          (t.quiet.vote = voteVoted → t.sameRound round.toNat = true → exec (.commitReceived h round) s =
            .next { t with quiet := { t.quiet with vote := voteArmed } }) ∧
          (t.quiet.vote ≠ voteVoted ∨ t.sameRound round.toNat = false → exec (.commitReceived h round) s = .next t))) ∧
      (∃ t : State, t = (s.heardOn h.lane h.origin).relay h (.abort round.toNat stamp) ∧
        (h.origin.val = t.myNode ∨ (h.dest ≠ everyNode ∧ h.dest.val ≠ t.myNode) → exec (.abortReceived h round stamp) s = .next t) ∧
        (h.origin.val ≠ t.myNode → h.dest = everyNode ∨ h.dest.val = t.myNode →
          (t.sameRound round.toNat = true → t.abortable stamp = true →
            exec (.abortReceived h round stamp) s = .next (t.abortRound none)) ∧
          (t.sameRound round.toNat = false ∨ t.abortable stamp = false → exec (.abortReceived h round stamp) s = .next t))) ∧
      (∃ t : State, t = (s.heardOn h.lane h.origin).relay h (.wake plates.toNat stamp) ∧
        (h.origin.val = t.myNode ∨ (h.dest ≠ everyNode ∧ h.dest.val ≠ t.myNode) →
          exec (.wakeFrameReceived h plates stamp) s = .next t) ∧
        (h.origin.val ≠ t.myNode → h.dest = everyNode ∨ h.dest.val = t.myNode → ∃ a : State,
          a = (if t.quiet.vote = voteArmed ∧ t.abortable stamp = true then t.abortRound none else t) ∧
          exec (.wakeFrameReceived h plates stamp) s = .next (if a.coordinatedAsleep plates.toNat = 0 then a
            else a.requestWake wakeEpk (a.coordinatedAsleep plates.toNat))))))

/-- The lock holder's OFF releases every plate and is stored, any other intent is stored as RUNNING, and the lanes
follow it. Block lock takes a lane from TRAIN to LOCK, unless the lanes idle for want of a reference; a HELLO is
sent in LOCK, which becomes HELLO, and in HELLO, and in no other state; a received HELLO brings a lane in HELLO up,
or leaves it in CONFLICT, announced, where the peer is refused, notes that an UP or CONFLICT lane was heard, and
does nothing on any other; no progress for 100 ms in TRAIN, LOCK or HELLO begins TRAIN anew, and nothing else does.
A bad frame is counted on a lane that is not OFF. An UP or CONFLICT lane that loses block lock, or hears nothing for
loss_ms, trains again, and the loss is counted; no other does. Frames of a lane that is not up are not taken; those
of another are first relayed, and one of this node's own or for another is taken no further. Each lane that is up
gets a marker with site time. Source 4 is dropped after 3 ms without a marker of its origin, and not otherwise. A
report is formed while the sheet's intent is RUNNING, and goes to the master, which forms the leases anew; a lease
is taken from the master alone. A node that has fallen silent is forgotten, with its report and its clock. The lock
holder's reset of the agent starts its drain and leaves every pair unprotected; without the lock, or the bit,
nothing happens. (21_pairs_stacks.md R688; 21_pairs_stacks.md R691; 21_pairs_stacks.md R693; 21_pairs_stacks.md
R694; 21_pairs_stacks.md R695; 21_pairs_stacks.md R724; 21_pairs_stacks.md R726; 21_pairs_stacks.md R728;
21_pairs_stacks.md R729; 21_pairs_stacks.md R734; 21_pairs_stacks.md R736) -/
def Obligations.LanesComeUpAndTheStackSharesTimeAndLoad : Prop :=
  (∀ (fn : Fin 65) (data : Word) (s : State), s.lockedWrite fn ekB (ekB + 0x20) = true →
    (intentOp data.toNat ≠ opOff → exec (.epkHostStateWrite fn data) s = .next ((s.storeIntent ekB opRunning 0).refreshLanes)) ∧
    (intentOp data.toNat = opOff → exec (.epkHostStateWrite fn data) s =
      .next (((forUpTo 8 (fun p t => t.releasePlate p) s).storeIntent ekB opOff 0).refreshLanes))) ∧
  (∀ (l : Fin 4) (s : State),
    (s.laneState l = laneTrain → s.serdesIdle = false → exec (.laneBlockLock l) s = .next (s.setLane l laneLock)) ∧
    (s.laneState l ≠ laneTrain ∨ s.serdesIdle = true → exec (.laneBlockLock l) s = .next s) ∧
    (∃ t : State, t = s.sendEpk [l.val] none everyNode (.hello Config.uid 0x2048 s.sid (s.isSet crB Reg.crStrapsPairEn) l s.myNode) ∧
      (s.laneState l = laneLock → exec (.helloSend l) s = .next (t.setLane l laneHello)) ∧
      (s.laneState l = laneHello → exec (.helloSend l) s = .next t)) ∧
    (s.laneState l ≠ laneLock → s.laneState l ≠ laneHello → exec (.helloSend l) s = .next s) ∧
    ((s.laneState l = laneTrain ∨ s.laneState l = laneLock ∨ s.laneState l = laneHello) →
      (s.ekLane l).since + 100 * msNs ≤ s.now → exec (.laneTrainTimeout l) s = .next (s.setLane l laneTrain)) ∧
    ((s.laneState l ≠ laneTrain ∧ s.laneState l ≠ laneLock ∧ s.laneState l ≠ laneHello) ∨
      s.now < (s.ekLane l).since + 100 * msNs → exec (.laneTrainTimeout l) s = .next s) ∧
    (s.laneState l = laneOff → exec (.epkBadFrame l) s = .next s) ∧
    (s.laneState l ≠ laneOff → exec (.epkBadFrame l) s = .next (s.bumpSat ekB Reg.ekLaneCrcErr l)) ∧
    (s.laneState l = laneConflict → ∀ lock : Bool, (lock = true ∨ (s.ekLane l).heard + s.lossNs ≤ s.now) →
      exec (.laneLoss l lock) s =
        .next ((((s.setLane l laneTrain).bumpSat ekB Reg.ekLaneDowns l).raise ekB evLaneChange).notePair s)) ∧
    (s.laneState l = laneUp → ∀ lock : Bool, (lock = true ∨ (s.ekLane l).heard + s.lossNs ≤ s.now) →
      exec (.laneLoss l lock) s =
        .next ((((s.setLane l laneTrain).bumpSat ekB Reg.ekLaneDowns l).raise ekB evLaneChange).notePair s).voteLinkDown) ∧
    (s.laneState l ≠ laneUp → s.laneState l ≠ laneConflict → ∀ lock : Bool, exec (.laneLoss l lock) s = .next s) ∧
    (s.now < (s.ekLane l).heard + s.lossNs → exec (.laneLoss l false) s = .next s)) ∧
  (∀ (l lane : Fin 4) (peer : BitVec 64) (device : BitVec 16) (sid : Fin 4) (pairEn : Bool) (node : Fin 8) (s : State),
    (s.laneState l = laneHello → s.helloRefused l peer.toNat device.toNat sid pairEn node = true → ∃ t : State,
      t = (s.setLane l laneConflict).raise ekB evConflict ∧ exec (.helloReceived l peer device sid pairEn lane node) s =
        .next (t.setEkLane l { t.ekLane l with heard := t.now })) ∧
    (s.laneState l = laneHello → s.helloRefused l peer.toNat device.toNat sid pairEn node = false →
      exec (.helloReceived l peer device sid pairEn lane node) s = .next (s.laneComesUp l peer.toNat node)) ∧
    (s.laneState l = laneUp ∨ s.laneState l = laneConflict → exec (.helloReceived l peer device sid pairEn lane node) s =
      .next (s.setEkLane l { s.ekLane l with heard := s.now })) ∧
    (s.laneState l ≠ laneHello → s.laneState l ≠ laneUp → s.laneState l ≠ laneConflict →
      exec (.helloReceived l peer device sid pairEn lane node) s = .next s) ∧
    (device.toNat ≠ 0x2048 → s.helloRefused l peer.toNat device.toNat sid pairEn node = true)) ∧
  (∀ (h : EpkHdr) (time corr : Int) (st src seq held charge : Nat) (leases : List Nat) (s : State),
    (s.laneIsUp h.lane = false → exec (.markerReceived h time corr st src seq held) s = .next s ∧
      exec (.stkReportReceived h charge) s = .next s ∧ exec (.stkLeaseReceived h leases) s = .next s) ∧
    (s.laneIsUp h.lane = true →
      (∃ t : State, t = (s.heardOn h.lane h.origin).relay h (.marker time corr st src seq held) ∧
        (h.origin.val = t.myNode ∨ (h.dest ≠ everyNode ∧ h.dest.val ≠ t.myNode) →
          exec (.markerReceived h time corr st src seq held) s = .next t) ∧
        (h.origin.val ≠ t.myNode → h.dest = everyNode ∨ h.dest.val = t.myNode →
          exec (.markerReceived h time corr st src seq held) s = .next (t.useMarker h time corr st src seq held))) ∧
      (∃ t : State, t = (s.heardOn h.lane h.origin).relay h (.report charge) ∧
        (h.origin.val = t.myNode ∨ (h.dest ≠ everyNode ∧ h.dest.val ≠ t.myNode) → exec (.stkReportReceived h charge) s = .next t) ∧
        (h.origin.val ≠ t.myNode → h.dest = everyNode ∨ h.dest.val = t.myNode →
          (t.master ≠ some t.myNode → exec (.stkReportReceived h charge) s = .next t) ∧
          (t.master = some t.myNode → ∃ u : State,
            u = { t with epk := { t.epk with reports := Sparse.put 0 t.epk.reports h.origin.val charge } } ∧
            exec (.stkReportReceived h charge) s = .next u.grantLeases))) ∧
      (∃ t : State, t = (s.heardOn h.lane h.origin).relay h (.lease leases) ∧
        (h.origin.val = t.myNode ∨ (h.dest ≠ everyNode ∧ h.dest.val ≠ t.myNode) → exec (.stkLeaseReceived h leases) s = .next t) ∧
        (h.origin.val ≠ t.myNode → h.dest = everyNode ∨ h.dest.val = t.myNode →
          (t.master = some h.origin.val → exec (.stkLeaseReceived h leases) s =
            .next (t.takeLease (min 16383 ((leases[t.myNode]?).getD 0)))) ∧
          (t.master ≠ some h.origin.val → exec (.stkLeaseReceived h leases) s = .next t))))) ∧
  (∀ s : State,
    (s.upLanes = [] → exec .markerSend s = .next s) ∧
    (∃ f : Nat → State → State, (∀ l t, f l t = (t.sendEpk [l] none everyNode (.marker ((t.siteNs : Int) * 65536) 0 t.tb.state
        t.tbSelected (t.ekLane l).lastSeq (8 * (t.now - (t.ekLane l).lastAt)))).setEkLane l { t.ekLane l with
          sent := ((Sparse.get 0 t.epk.seqs 0x02, t.now) :: (t.ekLane l).sent).take 64 }) ∧
      exec .markerSend s = .next (forEach s.upLanes f s)) ∧
    (s.tbQualified 4 = true → s.epk.markerAt + 3 * msNs ≤ s.now → exec .epkTimeSourceLoss s = .next s.dropMarkers) ∧
    (s.tbQualified 4 = false ∨ s.now < s.epk.markerAt + 3 * msNs → exec .epkTimeSourceLoss s = .next s) ∧
    (s.rd ekB Title.hostOp ≠ opRunning ∨ s.chip.sheetsReady = false → exec .stkReportSend s = .next s) ∧
    (s.rd ekB Title.hostOp = opRunning → s.chip.sheetsReady = true → ∃ a : State,
      a = s.wr ekB Reg.ekStkLeaseCharge (min 16383 s.activeCharge) ∧
      (a.master = none → exec .stkReportSend s = .next a) ∧
      (a.master = some a.myNode → exec .stkReportSend s = .next a.grantLeases) ∧
      (∀ m, a.master = some m → m ≠ a.myNode → exec .stkReportSend s =
        .next (a.sendEpk a.upLanes none (Fin.ofNat 9 m) (.report a.activeCharge)))) ∧
    (∀ n : Fin 8, (Sparse.find? s.epk.heard n).isSome = true → s.nodePresent n = false → ∃ a : State,
      a = { s with epk := { s.epk with heard := Sparse.del s.epk.heard n, reports := Sparse.del s.epk.reports n, clocks := Sparse.del s.epk.clocks n } } ∧
      exec (.nodeAbsent n) s = .next ((a.noteMaster s).noteOrigin).voteLinkDown) ∧
    (∀ n : Fin 8, s.nodePresent n = true ∨ Sparse.find? s.epk.heard n = none → exec (.nodeAbsent n) s = .next s)) ∧
  (∀ (fn : Fin 65) (data : Word) (s : State), s.writesThrough fn (ekB + 0xD8) = true →
    (s.mayWriteL ekB (masterOfFn fn) = true → bitAt data.toNat 0 = true → ∃ u : State,
      u = { s with epk := { s.epk with drainFrom := some s.now } } ∧ exec (.agentReset fn data) s = .next u.dropAllProt) ∧
    (s.mayWriteL ekB (masterOfFn fn) = false ∨ bitAt data.toNat 0 = false → exec (.agentReset fn data) s = .next s))

/-- A role frame goes to the partner alone, and is taken from the partner alone, a notice in it first. Each of these
commands completes in every state, and leaves the timebase. Mirror frames are taken on PAIR lanes that are up only,
and only those for this node: a proof by a standby that mirrors, a broken one counted as lost; an impression only
whole and granted, the proofs that waited for it after it; an acknowledgement by an active plate that is protected.
A refused impression is asked for again after 100 ms, not sooner. A standby with a cause takes over while its plate
runs; without one, or not running, nothing happens. The lock holder's switchover stores the intent and ends the
pair's hold; another's does nothing. The pair's trace check samples unless held: a role that agrees clears the
count, one that agrees only for 1 s starts that second, and counts once it is over; the third mismatch in a row
holds the pair; accepting the path while held takes the role seen as intent and ends the hold, and otherwise does
nothing. A partner that has been heard within the loss time is not lost; the loss of one forgets its identity.
(21_pairs_stacks.md R698; 21_pairs_stacks.md R702; 21_pairs_stacks.md R704; 21_pairs_stacks.md R706;
21_pairs_stacks.md R707; 21_pairs_stacks.md R709; 21_pairs_stacks.md R716; 21_pairs_stacks.md R719;
21_pairs_stacks.md R720; 21_pairs_stacks.md R721) -/
def Obligations.PairsExchangeRolesMirrorsAndHandOver : Prop :=
  (∀ s : State, (s.hasPartner = false → exec .roleSend s = .next s ∧ exec .partnerLoss s = .next s) ∧
    (s.hasPartner = true → exec .roleSend s = .next (s.sendEpk s.upLanes none (Fin.ofNat 9 s.partnerNode)
      (.role 0 ((List.range 8).map s.roleEntry)))) ∧
    (s.now < s.epk.partnerHeard + s.lossNs → exec .partnerLoss s = .next s) ∧
    (s.Inv → s.hasPartner = true → s.epk.partnerHeard + s.lossNs ≤ s.now → ∃ t, exec .partnerLoss s = .next t ∧
      t.epk.partnerUid = none ∧ t.rd ekB Reg.ekPartnerLoUid = 0 ∧ t.rd ekB Reg.ekPartnerHiUid = 0)) ∧
  (∀ (h : EpkHdr) (subtype : Fin 3) (plates : List RoleEntry) (s : State),
    (s.laneIsUp h.lane = false → exec (.roleReceived h subtype plates) s = .next s) ∧
    (s.laneIsUp h.lane = true → ∃ t : State, t = (s.heardOn h.lane h.origin).relay h (.role subtype plates) ∧
      (h.origin.val = s.myNode ∨ h.dest ≠ everyNode ∧ h.dest.val ≠ s.myNode ∨ s.hasPartner = false ∨ h.origin.val ≠ s.partnerNode →
        exec (.roleReceived h subtype plates) s = .next t) ∧
      (h.dest = everyNode ∨ h.dest.val = s.myNode → s.hasPartner = true → h.origin.val = s.partnerNode →
        (subtype.val = 0 ∨ h.plate = none → exec (.roleReceived h subtype plates) s = .next (t.takeEntries 0 plates)) ∧
        (∀ p, subtype.val ≠ 0 → h.plate = some p →
          exec (.roleReceived h subtype plates) s = .next ((t.takeNotice p subtype).takeEntries 0 plates))))) ∧
  (∀ (h : EpkHdr) (number : BitVec 32) (chans : List MirrorChan) (whole : Bool) (s : State),
    (s.laneIsUp h.lane = false ∨ 2 ≤ h.lane.val → exec (.impressionEndReceived h number chans whole) s = .next s ∧
      exec (.proofEndReceived h number whole chans) s = .next s ∧ exec (.ackReceived h number) s = .next s) ∧
    (s.laneIsUp h.lane = true → h.lane.val < 2 → ∃ t : State, t = s.heardOn h.lane h.origin ∧
      (h.origin.val = s.myNode ∨ h.dest ≠ everyNode ∧ h.dest.val ≠ s.myNode ∨ h.plate = none →
        exec (.impressionEndReceived h number chans whole) s = .next t ∧
        exec (.proofEndReceived h number whole chans) s = .next t ∧ exec (.ackReceived h number) s = .next t) ∧
      (∀ p, h.plate = some p → h.origin.val ≠ s.myNode → h.dest = everyNode ∨ h.dest.val = s.myNode →
        (s.mirrors? p = false → exec (.proofEndReceived h number whole chans) s = .next t ∧
          exec (.impressionEndReceived h number chans whole) s = .next t) ∧
        (s.mirrors? p = true → whole = true → exec (.proofEndReceived h number whole chans) s =
          .next (t.takeProof p number.toNat chans)) ∧
        (s.mirrors? p = true → whole = false → exec (.proofEndReceived h number whole chans) s =
            .next (t.proofBroken p number.toNat) ∧
          exec (.impressionEndReceived h number chans whole) s = .next t) ∧
        (Sparse.get 0 s.imprGrants p = 0 → exec (.impressionEndReceived h number chans whole) s = .next t) ∧
        (s.mirrors? p = true → whole = true → Sparse.get 0 s.imprGrants p ≠ 0 → ∃ a b : State,
          a = (t.applyMirror p number.toNat true chans).bumpSat ekB Reg.ekCountsImpressions ∧
          b = { a with imprGrants := Sparse.del a.imprGrants p } ∧
          exec (.impressionEndReceived h number chans whole) s = .next
            (forEach ((t.pair p).waiting.filter (fun e => decide (number.toNat < e.1))) (fun e (u : State) => u.takeProof p e.1 e.2)
              ((b.modPair p (fun q => { q with waiting := [] })).sendAck p))) ∧
        (s.agentActs = true → s.role p = roleActive → s.prot p ≠ protNone →
          exec (.ackReceived h number) s = .next (t.takeAck p number.toNat)) ∧
        (s.agentActs = false ∨ s.role p ≠ roleActive ∨ s.prot p = protNone → exec (.ackReceived h number) s = .next t)))) ∧
  (∀ (h : EpkHdr) (subtype : Fin 3) (plates : List RoleEntry) (number : BitVec 32) (chans : List MirrorChan) (whole : Bool)
      (fn : Fin 65) (p : Fin 8) (data : Word) (s : State),
    (∃ t, exec .roleSend s = .next t ∧ t.regs = s.regs ∧ t.tb = s.tb) ∧ (∃ t, exec .partnerLoss s = .next t ∧ t.tb = s.tb) ∧
    (∃ t, exec (.roleReceived h subtype plates) s = .next t ∧ t.tb = s.tb) ∧
    (∃ t, exec (.impressionEndReceived h number chans whole) s = .next t ∧ t.tb = s.tb) ∧
    (∃ t, exec (.proofEndReceived h number whole chans) s = .next t ∧ t.tb = s.tb) ∧
    (∃ t, exec (.ackReceived h number) s = .next t ∧ t.tb = s.tb) ∧
    (∃ t, exec (.impressionGrantRetry p) s = .next t ∧ t.regs = s.regs ∧ t.pairs = s.pairs) ∧
    (∃ t, exec (.takeover p) s = .next t ∧ t.tb = s.tb) ∧ (∃ t, exec (.pairTraceSample p) s = .next t ∧ t.tb = s.tb) ∧
    (∃ t, exec (.switchoverRequest fn p data) s = .next t ∧ t.tb = s.tb) ∧
    (∃ t, exec (.pairAcceptPath fn p) s = .next t ∧ t.tb = s.tb)) ∧
  (∀ (p : Fin 8) (s : State),
    ((s.pair p).askedAt ≠ 0 → (s.pair p).askedAt + 100 * msNs ≤ s.now →
      exec (.impressionGrantRetry p) s = .next (s.askImpression p)) ∧
    ((s.pair p).askedAt = 0 ∨ s.now < (s.pair p).askedAt + 100 * msNs → exec (.impressionGrantRetry p) s = .next s) ∧
    ((s.pair p).takeCause = none → exec (.takeover p) s = .next s) ∧
    (∀ c, (s.pair p).takeCause = some c →
      (s.plateServes p = true → s.role p = roleStandby → exec (.takeover p) s = .next (s.takeOver p c)) ∧
      (s.plateServes p = false ∨ s.role p ≠ roleStandby → exec (.takeover p) s = .next s)) ∧
    (s.chip.sheetsReady = false ∨ s.pairHeld p = true → exec (.pairTraceSample p) s = .next s) ∧
    (s.chip.sheetsReady = true → s.pairHeld p = false → (s.pairAgrees p).1 = false → ∃ u : State,
      u = s.modPair p (fun q => { q with agreeSince := none }) ∧
      (u.rd ekB Reg.ekPtraceCount p + 1 < 3 → exec (.pairTraceSample p) s =
        .next (u.wr ekB Reg.ekPtraceCount (u.rd ekB Reg.ekPtraceCount p + 1) p)) ∧
      (3 ≤ u.rd ekB Reg.ekPtraceCount p + 1 → s.Inv → ∃ t, exec (.pairTraceSample p) s = .next t ∧
        t.pairHeld p = true ∧ t.isSet ekB Reg.ekPtraceMismatch p = true)) ∧
    (s.chip.sheetsReady = true → s.pairHeld p = false → s.pairAgrees p = (true, false) → exec (.pairTraceSample p) s =
      .next ((s.modPair p (fun q => { q with agreeSince := none })).wr ekB Reg.ekPtraceCount 0 p)) ∧
    (s.chip.sheetsReady = true → s.pairHeld p = false → s.pairAgrees p = (true, true) →
      ((s.pair p).agreeSince = none → exec (.pairTraceSample p) s =
        .next ((s.modPair p (fun q => { q with agreeSince := some s.now })).wr ekB Reg.ekPtraceCount 0 p)) ∧
      (∀ a, (s.pair p).agreeSince = some a → s.now ≤ a + secNs → exec (.pairTraceSample p) s = .next (s.wr ekB Reg.ekPtraceCount 0 p)) ∧
      (∀ a, (s.pair p).agreeSince = some a → a + secNs < s.now → exec (.pairTraceSample p) s = .next (s.pairMiss p)))) ∧
  (∀ (fn : Fin 65) (p : Fin 8) (data : Word) (s : State), s.writesThrough fn (ekB + 0x80 + 8 * p.val) = true →
    (s.mayWriteL ekB (masterOfFn fn) = true → exec (.switchoverRequest fn p data) s =
      .next (((s.storeWord fn ekB Reg.ekRows (0x80 + 8 * p.val) data.toNat).endPairHold p).wantStored p)) ∧
    (s.mayWriteL ekB (masterOfFn fn) = false → exec (.switchoverRequest fn p data) s = .next s)) ∧
  (∀ (fn : Fin 65) (p : Fin 8) (s : State), s.writesThrough fn (ekB + 0x84 + 8 * p.val) = true →
    (s.mayWriteL ekB (masterOfFn fn) = true → s.pairHeld p = true → exec (.pairAcceptPath fn p) s =
      .next (((s.wr ekB Reg.ekPlateWant (s.rd ekB Reg.ekPtraceSeenRole p) p).endPairHold p).wantStored p)) ∧
    (s.mayWriteL ekB (masterOfFn fn) = false ∨ s.pairHeld p = false → exec (.pairAcceptPath fn p) s = .next s))
end

