-- ==== Sys2Proof/Laws/Keeps.lean ====
section
/-! SUPPORT. The relation `State.Keeps` composes: laws of the sparse store, reflexivity, transitivity, and one law per primitive
change of the state. Every other law of `Keeps` is one of these applied to a definition's own steps. -/

namespace Sys2Proof.Machine

/-! ### Laws of the sparse store -/

/-- Every key of the store is greater than `k`. -/
def Sparse.above {α : Type} (k : Nat) (m : Sparse α) : Prop := ∀ e ∈ m, k < e.1

theorem Sparse.wf_cons {α : Type} (e : Nat × α) (r : Sparse α) :
    Sparse.wf (e :: r) = true ↔ Sparse.above e.1 r ∧ Sparse.wf r = true := by
  induction r generalizing e with
  | nil => simp [Sparse.wf, Sparse.above]
  | cons x r ih =>
    rw [Sparse.wf]
    simp only [Bool.and_eq_true, decide_eq_true_eq]
    constructor
    · rintro ⟨h, hw⟩
      refine ⟨?_, hw⟩
      intro y hy
      rcases List.mem_cons.1 hy with rfl | hy
      · exact h
      · exact Nat.lt_trans h (((ih x).1 hw).1 y hy)
    · rintro ⟨h, hw⟩
      exact ⟨h x (by simp), hw⟩

theorem Sparse.above_ins {α : Type} {k j : Nat} {v : α} {m : Sparse α} (h : Sparse.above k m) (hj : k < j) :
    Sparse.above k (Sparse.ins m j v) := by
  induction m with
  | nil => intro e he; simp [Sparse.ins] at he; subst he; exact hj
  | cons x r ih =>
    have hr : Sparse.above k r := fun e he => h e (by simp [he])
    have hx : k < x.1 := h x (by simp)
    unfold Sparse.ins
    intro e he
    split at he
    · rcases List.mem_cons.1 he with rfl | he
      · exact hj
      · exact h e he
    · split at he
      · rcases List.mem_cons.1 he with rfl | he
        · exact hj
        · exact hr e he
      · rcases List.mem_cons.1 he with rfl | he
        · exact hx
        · exact ih hr e he

theorem Sparse.mem_del {α : Type} {k : Nat} {m : Sparse α} {e : Nat × α} (h : e ∈ Sparse.del m k) : e ∈ m := by
  induction m with
  | nil => exact h
  | cons x r ih =>
    unfold Sparse.del at h
    split at h
    · exact List.mem_cons_of_mem _ h
    · split at h
      · exact h
      · rcases List.mem_cons.1 h with rfl | h
        · simp
        · exact List.mem_cons_of_mem _ (ih h)

theorem Sparse.wf_ins {α : Type} {k : Nat} {v : α} {m : Sparse α} (h : Sparse.wf m = true) :
    Sparse.wf (Sparse.ins m k v) = true := by
  induction m with
  | nil => rfl
  | cons x r ih =>
    have hx := (Sparse.wf_cons x r).1 h
    unfold Sparse.ins
    split
    · next hk =>
      refine (Sparse.wf_cons _ _).2 ⟨?_, h⟩
      intro e he
      rcases List.mem_cons.1 he with rfl | he
      · exact hk
      · exact Nat.lt_trans hk (hx.1 e he)
    · split
      · next hk => exact (Sparse.wf_cons _ _).2 ⟨fun e he => hk ▸ hx.1 e he, hx.2⟩
      · next h1 h2 => exact (Sparse.wf_cons _ _).2 ⟨Sparse.above_ins hx.1 (by omega), ih hx.2⟩

theorem Sparse.wf_del {α : Type} {k : Nat} {m : Sparse α} (h : Sparse.wf m = true) : Sparse.wf (Sparse.del m k) = true := by
  induction m with
  | nil => rfl
  | cons x r ih =>
    have hx := (Sparse.wf_cons x r).1 h
    unfold Sparse.del
    split
    · exact hx.2
    · split
      · exact h
      · exact (Sparse.wf_cons _ _).2 ⟨fun e he => hx.1 e (Sparse.mem_del he), ih hx.2⟩

theorem Sparse.wf_put {α : Type} [DecidableEq α] {d : α} {k : Nat} {v : α} {m : Sparse α} (h : Sparse.wf m = true) :
    Sparse.wf (Sparse.put d m k v) = true := by
  unfold Sparse.put
  split
  · exact Sparse.wf_del h
  · exact Sparse.wf_ins h

theorem Sparse.wf_filter {α : Type} {f : Nat × α → Bool} {m : Sparse α} (h : Sparse.wf m = true) :
    Sparse.wf (m.filter f) = true := by
  induction m with
  | nil => rfl
  | cons x r ih =>
    have hx := (Sparse.wf_cons x r).1 h
    rw [List.filter_cons]
    split
    · exact (Sparse.wf_cons _ _).2 ⟨fun e he => hx.1 e (List.mem_filter.1 he).1, ih hx.2⟩
    · exact ih hx.2

theorem Sparse.wf_map {α β : Type} {f : α → β} {m : Sparse α} (h : Sparse.wf m = true) :
    Sparse.wf (m.map (fun e => (e.1, f e.2))) = true := by
  induction m with
  | nil => rfl
  | cons x r ih =>
    have hx := (Sparse.wf_cons x r).1 h
    rw [List.map_cons]
    refine (Sparse.wf_cons _ _).2 ⟨?_, ih hx.2⟩
    intro e he
    obtain ⟨y, hy, rfl⟩ := List.mem_map.1 he
    exact hx.1 y hy

/-- What key `k` holds after the store is changed at `k` itself, and at another key `j`. -/
theorem Sparse.find_ins {α : Type} {k j : Nat} {v : α} {m : Sparse α} (h : Sparse.wf m = true) :
    Sparse.find? (Sparse.ins m k v) j = if j = k then some v else Sparse.find? m j := by
  induction m with
  | nil => simp [Sparse.ins, Sparse.find?, eq_comm]
  | cons x r ih =>
    have hx := (Sparse.wf_cons x r).1 h
    unfold Sparse.ins
    split
    · next hk =>
      by_cases hj : j = k
      · subst hj; simp [Sparse.find?]
      · simp [Sparse.find?, hj, Ne.symm hj]
    · split
      · next hk =>
        subst hk
        by_cases hj : j = x.1
        · subst hj; simp [Sparse.find?]
        · simp [Sparse.find?, hj, Ne.symm hj]
      · next h1 h2 =>
        by_cases hj : x.1 = j
        · subst hj; simp [Sparse.find?, h2]
        · simp [Sparse.find?, hj, ih hx.2]

theorem Sparse.find_none_of_above {α : Type} {k : Nat} {m : Sparse α} (h : Sparse.above k m) : Sparse.find? m k = none := by
  induction m with
  | nil => rfl
  | cons x r ih =>
    have hx : k < x.1 := h x (by simp)
    have : Sparse.find? r k = none := ih (fun e he => h e (by simp [he]))
    simp [Sparse.find?, this]
    omega

theorem Sparse.find_del {α : Type} {k j : Nat} {m : Sparse α} (h : Sparse.wf m = true) :
    Sparse.find? (Sparse.del m k) j = if j = k then none else Sparse.find? m j := by
  induction m with
  | nil => simp [Sparse.del, Sparse.find?]
  | cons x r ih =>
    have hx := (Sparse.wf_cons x r).1 h
    unfold Sparse.del
    split
    · next hk =>
      subst hk
      by_cases hj : j = x.1
      · subst hj; simp [Sparse.find_none_of_above hx.1]
      · simp [Sparse.find?, hj, Ne.symm hj]
    · next hk =>
      split
      · next hlt =>
        by_cases hj : j = k
        · subst hj
          have : Sparse.find? r j = none :=
            Sparse.find_none_of_above (fun e he => Nat.lt_trans hlt (hx.1 e he))
          simp [Sparse.find?, this, hk]
        · simp [hj]
      · by_cases hj : x.1 = j
        · subst hj; simp [Sparse.find?, hk]
        · simp [Sparse.find?, hj, ih hx.2]

/-- Reading after a write: the key written holds the value, every other key what it held. -/
theorem Sparse.get_put {α : Type} [DecidableEq α] {d : α} {k j : Nat} {v : α} {m : Sparse α} (h : Sparse.wf m = true) :
    Sparse.get d (Sparse.put d m k v) j = if j = k then v else Sparse.get d m j := by
  unfold Sparse.get Sparse.put
  split
  · next hv =>
    rw [Sparse.find_del h]
    split <;> simp [hv]
  · rw [Sparse.find_ins h]
    split <;> simp

/-! ### The hatch memory keeps its form -/

theorem Sparse.mem_ins {α : Type} {k : Nat} {v : α} {m : Sparse α} {e : Nat × α} (h : e ∈ Sparse.ins m k v) :
    e = (k, v) ∨ e ∈ m := by
  induction m with
  | nil => simp [Sparse.ins] at h; exact .inl h
  | cons x r ih =>
    unfold Sparse.ins at h
    split at h
    · rcases List.mem_cons.1 h with h | h
      · exact .inl h
      · exact .inr h
    · split at h
      · rcases List.mem_cons.1 h with h | h
        · exact .inl h
        · exact .inr (List.mem_cons_of_mem _ h)
      · rcases List.mem_cons.1 h with rfl | h
        · exact .inr (by simp)
        · exact (ih h).imp id (List.mem_cons_of_mem _)

theorem Memory.wf_put {m : Sparse Nat} (h : Memory.wf m = true) (k v : Nat) :
    Memory.wf (Sparse.put 0xFFFFFFFF m k v) = true := by
  simp only [Memory.wf, Bool.and_eq_true, List.all_eq_true] at h ⊢
  refine ⟨Sparse.wf_put h.1, fun e he => ?_⟩
  unfold Sparse.put at he
  split at he
  · exact h.2 e (Sparse.mem_del he)
  · next hv =>
    rcases Sparse.mem_ins he with rfl | he
    · simpa using hv
    · exact h.2 e he

theorem Memory.wf_filter {m : Sparse Nat} (h : Memory.wf m = true) (f : Nat × Nat → Bool) :
    Memory.wf (m.filter f) = true := by
  simp only [Memory.wf, Bool.and_eq_true, List.all_eq_true] at h ⊢
  exact ⟨Sparse.wf_filter h.1, fun e he => h.2 e (List.mem_filter.1 he).1⟩

/-! ### Lists of masters -/

theorem ascending_cons (a : Nat) (r : List Nat) : ascending (a :: r) = true ↔ (∀ b ∈ r, a < b) ∧ ascending r = true := by
  induction r generalizing a with
  | nil => simp [ascending]
  | cons x r ih =>
    rw [ascending]
    simp only [Bool.and_eq_true, decide_eq_true_eq]
    constructor
    · rintro ⟨h, hw⟩
      refine ⟨?_, hw⟩
      intro y hy
      rcases List.mem_cons.1 hy with rfl | hy
      · exact h
      · exact Nat.lt_trans h (((ih x).1 hw).1 y hy)
    · rintro ⟨h, hw⟩
      exact ⟨h x (by simp), hw⟩

theorem mem_insertAsc {m x : Nat} {l : List Nat} : x ∈ insertAsc m l ↔ x = m ∨ x ∈ l := by
  induction l with
  | nil => simp [insertAsc]
  | cons y r ih =>
    unfold insertAsc
    split
    · simp
    · split
      · next h => subst h; simp
      · simp only [List.mem_cons, ih]
        tauto

theorem ascending_insertAsc {m : Nat} {l : List Nat} (h : ascending l = true) : ascending (insertAsc m l) = true := by
  induction l with
  | nil => rfl
  | cons y r ih =>
    have hy := (ascending_cons y r).1 h
    unfold insertAsc
    split
    · next hm =>
      refine (ascending_cons _ _).2 ⟨?_, h⟩
      intro b hb
      rcases List.mem_cons.1 hb with rfl | hb
      · exact hm
      · exact Nat.lt_trans hm (hy.1 b hb)
    · split
      · exact h
      · next h1 h2 =>
        refine (ascending_cons _ _).2 ⟨?_, ih hy.2⟩
        intro b hb
        rcases mem_insertAsc.1 hb with rfl | hb
        · omega
        · exact hy.1 b hb

theorem ascending_filter {l : List Nat} (h : ascending l = true) (f : Nat → Bool) : ascending (l.filter f) = true := by
  induction l with
  | nil => rfl
  | cons y r ih =>
    have hy := (ascending_cons y r).1 h
    rw [List.filter_cons]
    split
    · exact (ascending_cons _ _).2 ⟨fun b hb => hy.1 b (List.mem_filter.1 hb).1, ih hy.2⟩
    · exact ih hy.2

/-- A change of the values, as the keys may say, leaves a canonical store canonical. -/
theorem Sparse.wf_mapKeyed {α : Type} {f : Nat × α → Nat × α} (hf : ∀ e, (f e).1 = e.1) {m : Sparse α} (h : Sparse.wf m = true) :
    Sparse.wf (m.map f) = true := by
  induction m with
  | nil => rfl
  | cons e r ih =>
    have he := (Sparse.wf_cons e r).1 h
    rw [List.map_cons]
    refine (Sparse.wf_cons _ _).2 ⟨fun x hx => ?_, ih he.2⟩
    obtain ⟨y, hy, rfl⟩ := List.mem_map.1 hx
    rw [hf, hf]
    exact he.1 y hy

/-- Entries put in turn leave a canonical store canonical. -/
theorem forUpTo_wf {α : Type} {f : Nat → Sparse α → Sparse α} {m : Sparse α} (n : Nat) (h : Sparse.wf m = true)
    (hf : ∀ i u, Sparse.wf u = true → Sparse.wf (f i u) = true) : Sparse.wf (forUpTo n f m) = true := by
  induction n with
  | zero => exact h
  | succ n ih => exact hf n _ ih

/-! ### Fuses -/

theorem Fuses.Within.refl (a : Fuses) : a.Within a :=
  ⟨Nat.le_refl _, id, fun _ => id, fun _ => id, id, fun _ => id, id, id, fun _ => id, Nat.le_refl _⟩

theorem Fuses.Within.trans {a b c : Fuses} (h : a.Within b) (k : b.Within c) : a.Within c :=
  ⟨Nat.le_trans h.lc k.lc, k.islOff ∘ h.islOff, fun i => k.plateDis i ∘ h.plateDis i, fun i => k.ceil i ∘ h.ceil i,
   k.ceilLock ∘ h.ceilLock, fun i => k.vfCap i ∘ h.vfCap i, k.vfCapLock ∘ h.vfCapLock, k.wdHw ∘ h.wdHw,
   fun i => k.keyRev i ∘ h.keyRev i, Nat.le_trans h.secVer k.secVer⟩

/-! ### Keeps -/

theorem State.Keeps.refl (s : State) : s.Keeps s :=
  ⟨rfl, rfl, Nat.le_refl _, List.suffix_refl _, fun _ => Fuses.Within.refl _, id⟩

theorem State.Keeps.trans {s t u : State} (h : s.Keeps t) (k : t.Keeps u) : s.Keeps u :=
  ⟨k.pending.trans h.pending, k.now.trans h.now, Nat.le_trans h.draws k.draws, h.out.trans k.out,
   fun i => (h.blown i).trans (k.blown (h.inv i)), fun i => k.inv (h.inv i)⟩

/-- A change of fields that `Keeps` does not speak of, and of the life-cycle activity but for the fuse programmer's job. -/
theorem State.Keeps.upd {z t : State} {life : Lifecycle}
    {pf : PfCfg} {vfs : Sparse VfCfg} {msix : Sparse MsixEntry} {aer : List (Nat × AerError)} {aers : Sparse Aer}
    {flrs : Sparse Flr} {pairHi : Sparse Nat} {notes : Nat} {lockSince : Sparse Nat} {agreeSince : Sparse Nat}
    {shadow48 : Sparse Nat} {cnt48 : Sparse Nat} {frzCur : Sparse FrzRec} {frzHist : Sparse FrzRec}
    {frzCap : FrzRec} {frzHistCap : Sparse FrzRec} {pfFrozenTick : Nat} {pins : Pins} {chip : Chip}
    {plates : Sparse PlateInt} {storeErrs : Sparse Nat} {gravers : Sparse Graver} {dmaTens : Sparse DmaTen} {dmaLast : Sparse Nat}
    {tap : Tap} {tb : Timebase} {chans : Sparse Chan} {vec2 : Sparse Nat} {arb : List GrantReq}
    {laneGrants : Sparse Nat} {epkGrants : Nat} {imprGrants : Sparse Nat} {quietReqs : Sparse Nat}
    {wakes : Sparse Wake} {quiet : Quiet} {siteIns : Sparse SiteIn} {echos : Sparse Echo} {fastRetry : Sparse Nat}
    {medias : Sparse Media} {jitters : Sparse Jitter} {sigs : Sparse Sig} {queues : Sparse (List Entry)}
    {ports : Sparse Port} {hatches : Sparse Hatch} {shapers : Sparse Int} {shRates : Sparse Nat} {highways : Sparse Highway}
    {tks : Sparse Timekeeper} {hold : HoldModel} {therms : Sparse Therm} {feAt : Nat} {convs : Sparse Conv}
    {ptCaps : Sparse Capture} {island : Island} {mailbox : Mailbox} {wds : Sparse Wd} {ekLanes : Sparse EkLane}
    {pairs : Sparse PairPlate} {mirrors : Sparse MirrorInfo} {epk : Epk}
    (h : z.Keeps t) (hl : life.job = t.life.job)
    (hc : t.Canon → (State.mk t.pending t.now t.draws t.out t.regs pf vfs msix aer aers flrs pairHi notes lockSince agreeSince
      shadow48 cnt48 t.frozen frzCur frzHist t.frzSeq frzCap frzHistCap pfFrozenTick pins chip plates storeErrs gravers
      dmaTens dmaLast t.fusesBlown t.fuses life tap tb chans vec2 arb laneGrants epkGrants imprGrants quietReqs
      wakes quiet siteIns echos fastRetry medias jitters sigs queues ports hatches t.hatchMem shapers shRates highways tks
      hold therms feAt convs ptCaps island mailbox wds ekLanes pairs mirrors epk).Canon) :
    z.Keeps (State.mk t.pending t.now t.draws t.out t.regs pf vfs msix aer aers flrs pairHi notes lockSince agreeSince
      shadow48 cnt48 t.frozen frzCur frzHist t.frzSeq frzCap frzHistCap pfFrozenTick pins chip plates storeErrs gravers
      dmaTens dmaLast t.fusesBlown t.fuses life tap tb chans vec2 arb laneGrants epkGrants imprGrants quietReqs
      wakes quiet siteIns echos fastRetry medias jitters sigs queues ports hatches t.hatchMem shapers shRates highways tks
      hold therms feAt convs ptCaps island mailbox wds ekLanes pairs mirrors epk) :=
  ⟨h.pending, h.now, h.draws, h.out, h.blown, fun i =>
    let j := h.inv i
    ⟨j.regs, j.hatchMem, hc j.stores, j.frozen, j.frzSeq, j.sensed, j.lcNext, j.lcLegal, fun x hx => j.job x (hl ▸ hx)⟩⟩

/-- The register store changes and stays canonical. -/
theorem State.Keeps.setRegs {z t : State} {m : Sparse Nat} (h : z.Keeps t)
    (hm : Sparse.wf t.regs = true → Sparse.wf m = true) : z.Keeps { t with regs := m } :=
  ⟨h.pending, h.now, h.draws, h.out, h.blown, fun i =>
    let j := h.inv i
    ⟨hm j.regs, j.hatchMem, { j.stores with }, j.frozen, j.frzSeq, j.sensed, j.lcNext, j.lcLegal, j.job⟩⟩

/-- The hatch memory changes and stays canonical. -/
theorem State.Keeps.setHatchMem {z t : State} {m : Sparse Nat} (h : z.Keeps t)
    (hm : Memory.wf t.hatchMem = true → Memory.wf m = true) : z.Keeps { t with hatchMem := m } :=
  ⟨h.pending, h.now, h.draws, h.out, h.blown, fun i =>
    let j := h.inv i
    ⟨j.regs, hm j.hatchMem, { j.stores with }, j.frozen, j.frzSeq, j.sensed, j.lcNext, j.lcLegal, j.job⟩⟩

/-- The list of frozen masters changes and stays ascending. -/
theorem State.Keeps.setFrozen {z t : State} {m : List Nat} (h : z.Keeps t)
    (hm : ascending t.frozen = true → ascending m = true) : z.Keeps { t with frozen := m } :=
  ⟨h.pending, h.now, h.draws, h.out, h.blown, fun i =>
    let j := h.inv i
    ⟨j.regs, j.hatchMem, { j.stores with }, hm j.frozen, j.frzSeq, j.sensed, j.lcNext, j.lcLegal, j.job⟩⟩

/-- The freeze sequence number changes and keeps to 16 bits. -/
theorem State.Keeps.setFrzSeq {z t : State} {n : Nat} (h : z.Keeps t) (hn : t.frzSeq ≤ 0xFFFF → n ≤ 0xFFFF) :
    z.Keeps { t with frzSeq := n } :=
  ⟨h.pending, h.now, h.draws, h.out, h.blown, fun i =>
    let j := h.inv i
    ⟨j.regs, j.hatchMem, { j.stores with }, j.frozen, hn j.frzSeq, j.sensed, j.lcNext, j.lcLegal, j.job⟩⟩

/-- The life-cycle activity changes, and a transition that it has under way is a legal one. -/
theorem State.Keeps.setLife {z t : State} {l : Lifecycle} (h : z.Keeps t)
    (hl : t.Inv → ∀ x, l.job = .transition x → t.fusesBlown.lc ≤ x ∧ x ≤ t.fuses.lc + 1 ∧ x ≤ 3) :
    z.Keeps { t with life := l } :=
  ⟨h.pending, h.now, h.draws, h.out, h.blown, fun i =>
    let j := h.inv i
    ⟨j.regs, j.hatchMem, { j.stores with }, j.frozen, j.frzSeq, j.sensed, j.lcNext, j.lcLegal, hl j⟩⟩

/-- Fuses are blown, none unblown, and the life-cycle fuses no further than a transition under way. -/
theorem State.Keeps.setBlown {z t : State} {f : Fuses} (h : z.Keeps t)
    (hf : t.Inv → t.fusesBlown.Within f ∧ f.lc ≤ t.fuses.lc + 1 ∧ f.lc ≤ 3 ∧ ∀ x, t.life.job = .transition x → f.lc ≤ x) :
    z.Keeps { t with fusesBlown := f } :=
  ⟨h.pending, h.now, h.draws, h.out, fun i => (h.blown i).trans (hf (h.inv i)).1, fun i =>
    let j := h.inv i
    ⟨j.regs, j.hatchMem, { j.stores with }, j.frozen, j.frzSeq, j.sensed.trans (hf j).1, (hf j).2.1, (hf j).2.2.1,
     fun x hx => ⟨(hf j).2.2.2 x hx, (j.job x hx).2⟩⟩⟩

/-- The fuses are sensed. -/
theorem State.Keeps.sense {z t : State} (h : z.Keeps t) : z.Keeps { t with fuses := t.fusesBlown } :=
  ⟨h.pending, h.now, h.draws, h.out, h.blown, fun i =>
    let j := h.inv i
    ⟨j.regs, j.hatchMem, { j.stores with }, j.frozen, j.frzSeq, Fuses.Within.refl _, Nat.le_succ _, j.lcLegal, fun x hx =>
      let k := j.job x hx
      ⟨k.1, Nat.le_trans k.2.1 (Nat.succ_le_succ j.sensed.lc), k.2.2⟩⟩⟩

/-- Free values are drawn. -/
theorem State.Keeps.setDraws {z t : State} {n : Nat} (h : z.Keeps t) (hn : t.draws ≤ n) : z.Keeps { t with draws := n } :=
  ⟨h.pending, h.now, Nat.le_trans h.draws hn, h.out, h.blown, fun i =>
    let j := h.inv i
    ⟨j.regs, j.hatchMem, { j.stores with }, j.frozen, j.frzSeq, j.sensed, j.lcNext, j.lcLegal, j.job⟩⟩

/-- Outputs are emitted. -/
theorem State.Keeps.setOut {z t : State} {l : List Output} (h : z.Keeps t) (hl : t.out <:+ l) : z.Keeps { t with out := l } :=
  ⟨h.pending, h.now, h.draws, h.out.trans hl, h.blown, fun i =>
    let j := h.inv i
    ⟨j.regs, j.hatchMem, { j.stores with }, j.frozen, j.frzSeq, j.sensed, j.lcNext, j.lcLegal, j.job⟩⟩

/-- A choice keeps what both sides keep. -/
theorem State.Keeps.ite {z a b : State} {c : Prop} [Decidable c] (ha : z.Keeps a) (hb : z.Keeps b) :
    z.Keeps (if c then a else b) := by
  split
  · exact ha
  · exact hb

theorem forEach_keeps {α : Type} {z t : State} {f : α → State → State} (l : List α) (h : z.Keeps t)
    (hf : ∀ a u, z.Keeps u → z.Keeps (f a u)) : z.Keeps (forEach l f t) := by
  unfold forEach
  induction l generalizing t with
  | nil => exact h
  | cons a r ih => exact ih (hf a t h)

theorem foldl_keeps {α : Type} {z t : State} {f : State → α → State} (l : List α) (h : z.Keeps t)
    (hf : ∀ u a, z.Keeps u → z.Keeps (f u a)) : z.Keeps (l.foldl f t) := by
  induction l generalizing t with
  | nil => exact h
  | cons a r ih => exact ih (hf t a h)

theorem forUpTo_keeps {z t : State} {f : Nat → State → State} (n : Nat) (h : z.Keeps t)
    (hf : ∀ i u, z.Keeps u → z.Keeps (f i u)) : z.Keeps (forUpTo n f t) := by
  induction n with
  | zero => exact h
  | succ n ih => exact hf n _ ih

theorem forEach_keeps_snd {α β : Type} {z : State} {t : β × State} {f : α → β × State → β × State} (l : List α)
    (h : z.Keeps t.2) (hf : ∀ a u, z.Keeps u.2 → z.Keeps (f a u).2) : z.Keeps (forEach l f t).2 := by
  unfold forEach
  induction l generalizing t with
  | nil => exact h
  | cons a r ih => exact ih (hf a t h)

theorem forUpTo_keeps_snd {β : Type} {z : State} {t : β × State} {f : Nat → β × State → β × State} (n : Nat)
    (h : z.Keeps t.2) (hf : ∀ i u, z.Keeps u.2 → z.Keeps (f i u).2) : z.Keeps (forUpTo n f t).2 := by
  induction n with
  | zero => exact h
  | succ n ih => exact hf n _ ih

theorem foldl_keeps_snd {α β : Type} {z : State} {t : β × State} {f : β × State → α → β × State} (l : List α)
    (h : z.Keeps t.2) (hf : ∀ u a, z.Keeps u.2 → z.Keeps (f u a).2) : z.Keeps (l.foldl f t).2 := by
  induction l generalizing t with
  | nil => exact h
  | cons a r ih => exact ih (hf t a h)

theorem State.KeepsNext.next {z t : State} (h : z.Keeps t) : z.KeepsNext (.next t) := ⟨t, rfl, h⟩

end Sys2Proof.Machine
end

