-- ==== Sys2Proof/Laws/Access.lean ====
section
/-! SUPPORT. Reading a register after a write, what an event leaves alone, and what a request that gets through does. -/

namespace Sys2Proof.Machine

/-! ### Register fields -/

@[simp] theorem State.wr_regs (s : State) (b : Nat) (r : Row) (v i : Nat) :
    (s.wr b r v i).regs = Sparse.put r.reset s.regs (fieldKey b r i) (v % 2 ^ r.width) := rfl

theorem State.wr_wf {s : State} (h : Sparse.wf s.regs = true) (b : Nat) (r : Row) (v i : Nat) :
    Sparse.wf (s.wr b r v i).regs = true := Sparse.wf_put h

/-- A field that is written reads back, modulo its width. -/
theorem State.rd_wr_same {s : State} (h : Sparse.wf s.regs = true) (b : Nat) (r : Row) (v i : Nat) :
    (s.wr b r v i).rd b r i = v % 2 ^ r.width := by
  simp only [State.rd, State.wr_regs, Sparse.get_put h, if_pos]

/-- What another key of the register store holds is not changed by a write. -/
theorem State.find_wr_ne {s : State} (h : Sparse.wf s.regs = true) {b : Nat} {r : Row} {v i k : Nat}
    (hk : k ≠ fieldKey b r i) : Sparse.find? (s.wr b r v i).regs k = Sparse.find? s.regs k := by
  simp only [State.wr_regs, Sparse.put]
  split
  · rw [Sparse.find_del h, if_neg hk]
  · rw [Sparse.find_ins h, if_neg hk]

/-- A field with another key is not changed by a write. -/
theorem State.rd_wr_ne {s : State} (h : Sparse.wf s.regs = true) {b b' : Nat} {r r' : Row} {v i i' : Nat}
    (hk : fieldKey b' r' i' ≠ fieldKey b r i) : (s.wr b r v i).rd b' r' i' = s.rd b' r' i' := by
  simp only [State.rd, Sparse.get, State.find_wr_ne h hk]

/-! ### Events -/

/-- Sending a message changes nothing but the messages: the vector table and what has been emitted. -/
theorem State.sendMsix_eq (s : State) (fn vec : Nat) :
    s.sendMsix fn vec = { s with msix := (s.sendMsix fn vec).msix, out := (s.sendMsix fn vec).out } := by
  unfold State.sendMsix
  split
  · rfl
  · split <;> rfl

theorem State.assertIrq_eq (s : State) (b : Nat) :
    s.assertIrq b = { s with msix := (s.assertIrq b).msix, out := (s.assertIrq b).out } := by
  unfold State.assertIrq
  split
  · exact State.sendMsix_eq _ _ _
  · rfl

/-- An event changes nothing but the sheet's EVENT field and the messages. -/
theorem State.raise_eq (s : State) (b i : Nat) :
    s.raise b i = { s with regs := (s.raise b i).regs, msix := (s.raise b i).msix, out := (s.raise b i).out } := by
  unfold State.raise
  split
  · rfl
  · dsimp only
    split
    · rw [State.assertIrq_eq]
      rfl
    · rfl

theorem State.assertIrq_regs (s : State) (b : Nat) : (s.assertIrq b).regs = s.regs := by
  rw [State.assertIrq_eq]

theorem State.raise_wf {s : State} (h : Sparse.wf s.regs = true) (b i : Nat) : Sparse.wf (s.raise b i).regs = true := by
  unfold State.raise
  split
  · exact h
  · dsimp only
    split
    · rw [State.assertIrq_regs]
      exact State.wr_wf h _ _ _ _
    · exact State.wr_wf h _ _ _ _

/-- Of the register fields, an event changes the sheet's EVENT alone. -/
theorem State.find_raise_ne {s : State} (h : Sparse.wf s.regs = true) {b i k : Nat} (hk : k ≠ fieldKey b Title.event 0) :
    Sparse.find? (s.raise b i).regs k = Sparse.find? s.regs k := by
  unfold State.raise
  split
  · rfl
  · dsimp only
    split
    · rw [State.assertIrq_regs]
      exact State.find_wr_ne h hk
    · exact State.find_wr_ne h hk

theorem State.rd_raise_ne {s : State} (h : Sparse.wf s.regs = true) {b b' i i' : Nat} {r' : Row}
    (hk : fieldKey b' r' i' ≠ fieldKey b Title.event 0) : (s.raise b i).rd b' r' i' = s.rd b' r' i' := by
  simp only [State.rd, Sparse.get, State.find_raise_ne h hk]

/-! ### Requests that get through -/

theorem State.countAccess_of_not_frozen {s : State} {fn : Nat} (h : s.isFrozen (masterOfFn fn) = false) :
    s.countAccess fn = s := by
  simp [State.countAccess, h]

/-- A write that gets through has its effect. -/
theorem State.mmioWrite_through {s : State} {fn a : Nat} (h : s.writesThrough fn a = true) (f : State → State) :
    s.mmioWrite fn a f = f s := by
  simp only [State.writesThrough, Bool.and_eq_true, beq_iff_eq, Bool.not_eq_true'] at h
  simp [State.mmioWrite, State.writeAt, h.1.1, h.1.2, State.countAccess_of_not_frozen h.2]

/-- A read that gets through has its effect and is answered. -/
theorem State.mmioRead_through {s : State} {fn a : Nat} (h : s.readsThrough fn a = true) (f : State → Nat × State) :
    s.mmioRead fn a f = (f s).2.answer fn (f s).1 := by
  simp only [State.readsThrough, Bool.and_eq_true, beq_iff_eq, Bool.not_eq_true'] at h
  simp [State.mmioRead, State.readAt, h.1.1, h.1.2, State.countAccess_of_not_frozen h.2]

theorem State.lockedWrite_through {s : State} {fn b a : Nat} (h : s.lockedWrite fn b a = true) :
    s.writesThrough fn a = true := by
  simp only [State.lockedWrite, Bool.and_eq_true] at h
  exact h.1

theorem State.lockedWrite_may {s : State} {fn b a : Nat} (h : s.lockedWrite fn b a = true) :
    s.mayWriteL b (masterOfFn fn) = true := by
  simp only [State.lockedWrite, Bool.and_eq_true] at h
  exact h.2

end Sys2Proof.Machine
end

