-- ==== Sys2Proof/Laws/KeepsCore.lean ====
section
/-! SUPPORT. Every definition of the register store, the shared operations and the cores of the watchdog, lane and timebase blocks that changes the state keeps what `State.Keeps` says, one law each. -/

set_option linter.unusedTactic false
set_option linter.unreachableTactic false

namespace Sys2Proof.Machine

/-! ### Machine/Store.lean -/

theorem State.wr_keeps {z s : State} {b : Nat} {r : Row} {v i : Nat} (hk : z.Keeps s) : z.Keeps (s.wr b r v i) :=
  hk.setRegs Sparse.wf_put

theorem State.wrS_keeps {z s : State} {b : Nat} {r : Row} {v : Int} {i : Nat} (hk : z.Keeps s) :
    z.Keeps (State.wrS s b r v i) := by
  unfold State.wrS
  repeat' (first
    | with_reducible assumption | with_reducible exact State.Keeps.refl _ | with_reducible apply State.wr_keeps)

theorem State.wrB_keeps {z s : State} {b : Nat} {r : Row} {v : Bool} {i : Nat} (hk : z.Keeps s) :
    z.Keeps (State.wrB s b r v i) := by
  unfold State.wrB
  repeat' (first
    | with_reducible assumption | with_reducible exact State.Keeps.refl _ | with_reducible apply State.wr_keeps)

theorem State.bump_keeps {z s : State} {b : Nat} {r : Row} {i : Nat} {n : Nat} (hk : z.Keeps s) :
    z.Keeps (State.bump s b r i n) := by
  unfold State.bump
  repeat' (first
    | with_reducible assumption | with_reducible exact State.Keeps.refl _ | with_reducible apply State.wr_keeps
    | with_reducible apply State.Keeps.ite | split)

theorem State.bumpSat_keeps {z s : State} {b : Nat} {r : Row} {i : Nat} {n : Nat} (hk : z.Keeps s) :
    z.Keeps (State.bumpSat s b r i n) := by
  unfold State.bumpSat
  repeat' (first
    | with_reducible assumption | with_reducible exact State.Keeps.refl _ | with_reducible apply State.wr_keeps)

theorem State.emit_keeps {z s : State} {o : Output} (hk : z.Keeps s) : z.Keeps (s.emit o) := by
  unfold State.emit State.outBefore
  split
  · exact hk.setOut ((List.suffix_cons _ _).trans (List.suffix_cons _ _))
  · exact hk.setOut (List.suffix_cons _ _)

theorem State.drawNat_keeps {z s : State} (hk : z.Keeps s) : z.Keeps s.drawNat.2 := hk.setDraws (Nat.le_succ _)

theorem State.drawBool_keeps {z s : State} (hk : z.Keeps s) : z.Keeps s.drawBool.2 := hk.setDraws (Nat.le_succ _)

theorem State.drawRound_keeps {z s : State} {n d : Int} (hk : z.Keeps s) : z.Keeps (State.drawRound s n d).2 := by
  unfold State.drawRound
  repeat' (first
    | with_reducible assumption | with_reducible exact State.Keeps.refl _ | with_reducible apply State.drawBool_keeps
    | with_reducible apply State.Keeps.ite | split | dsimp only)

theorem State.setPlate_keeps {z s : State} {p : Nat} {v : PlateInt} (hk : z.Keeps s) :
    z.Keeps (State.setPlate s p v) := by
  unfold State.setPlate
  repeat' (first
    | with_reducible assumption | with_reducible exact State.Keeps.refl _
    | fail_if_no_progress (first
        | refine State.Keeps.upd ?_ rfl (fun c => { c with })
        | refine State.Keeps.upd ?_ rfl (by
          intro c; cases c; constructor <;> repeat' first
            | assumption | exact Sparse.wf_put (by assumption) | exact Sparse.wf_ins (by assumption)
            | exact Sparse.wf_del (by assumption) | exact Sparse.wf_filter (by assumption) | rfl
            | (dsimp only; split) | split)))

theorem State.setGraver_keeps {z s : State} {p g : Nat} {v : Graver} (hk : z.Keeps s) :
    z.Keeps (State.setGraver s p g v) := by
  unfold State.setGraver
  repeat' (first
    | with_reducible assumption | with_reducible exact State.Keeps.refl _
    | fail_if_no_progress (first
        | refine State.Keeps.upd ?_ rfl (fun c => { c with })
        | refine State.Keeps.upd ?_ rfl (by
          intro c; cases c; constructor <;> repeat' first
            | assumption | exact Sparse.wf_put (by assumption) | exact Sparse.wf_ins (by assumption)
            | exact Sparse.wf_del (by assumption) | exact Sparse.wf_filter (by assumption) | rfl
            | (dsimp only; split) | split)))

theorem State.setRing_keeps {z s : State} {t : Nat} {v : DmaTen} (hk : z.Keeps s) :
    z.Keeps (State.setRing s t v) := by
  unfold State.setRing
  repeat' (first
    | with_reducible assumption | with_reducible exact State.Keeps.refl _
    | fail_if_no_progress (first
        | refine State.Keeps.upd ?_ rfl (fun c => { c with })
        | refine State.Keeps.upd ?_ rfl (by
          intro c; cases c; constructor <;> repeat' first
            | assumption | exact Sparse.wf_put (by assumption) | exact Sparse.wf_ins (by assumption)
            | exact Sparse.wf_del (by assumption) | exact Sparse.wf_filter (by assumption) | rfl
            | (dsimp only; split) | split)))

theorem State.setVector_keeps {z s : State} {fn vec : Nat} {e : MsixEntry} (hk : z.Keeps s) :
    z.Keeps (State.setVector s fn vec e) := by
  unfold State.setVector
  repeat' (first
    | with_reducible assumption | with_reducible exact State.Keeps.refl _
    | fail_if_no_progress (first
        | refine State.Keeps.upd ?_ rfl (fun c => { c with })
        | refine State.Keeps.upd ?_ rfl (by
          intro c; cases c; constructor <;> repeat' first
            | assumption | exact Sparse.wf_put (by assumption) | exact Sparse.wf_ins (by assumption)
            | exact Sparse.wf_del (by assumption) | exact Sparse.wf_filter (by assumption) | rfl
            | (dsimp only; split) | split)))

/-! ### Machine/Flags.lean -/

theorem State.sendMsix_keeps {z s : State} {fn vec : Nat} (hk : z.Keeps s) : z.Keeps (State.sendMsix s fn vec) := by
  unfold State.sendMsix
  repeat' (first
    | with_reducible assumption | with_reducible exact State.Keeps.refl _ | with_reducible apply State.emit_keeps
    | with_reducible apply State.setVector_keeps | with_reducible apply State.Keeps.ite | split)

theorem State.assertIrq_keeps {z s : State} {b : Nat} (hk : z.Keeps s) : z.Keeps (State.assertIrq s b) := by
  unfold State.assertIrq
  repeat' (first
    | with_reducible assumption | with_reducible exact State.Keeps.refl _ | with_reducible apply State.sendMsix_keeps
    | split)

theorem State.raise_keeps {z s : State} {b i : Nat} (hk : z.Keeps s) : z.Keeps (State.raise s b i) := by
  unfold State.raise
  repeat' (first
    | with_reducible assumption | with_reducible exact State.Keeps.refl _ | with_reducible apply State.wr_keeps
    | with_reducible apply State.assertIrq_keeps | with_reducible apply State.Keeps.ite | split | dsimp only)

theorem State.enableEvents_keeps {z s : State} {b v : Nat} (hk : z.Keeps s) : z.Keeps (State.enableEvents s b v) := by
  unfold State.enableEvents
  repeat' (first
    | with_reducible assumption | with_reducible exact State.Keeps.refl _ | with_reducible apply State.wr_keeps
    | with_reducible apply State.assertIrq_keeps | with_reducible apply forUpTo_keeps
    | with_reducible apply State.Keeps.ite | (intro _ _ _) | (intro _ _) | split | dsimp only)

theorem State.clearEvents_keeps {z s : State} {b v : Nat} (hk : z.Keeps s) : z.Keeps (State.clearEvents s b v) := by
  unfold State.clearEvents
  repeat' (first
    | with_reducible assumption | with_reducible exact State.Keeps.refl _ | with_reducible apply State.wr_keeps)

/-! ### Machine/Aer.lean -/

theorem State.setAer_keeps {z s : State} {fn : Nat} {a : Aer} (hk : z.Keeps s) : z.Keeps (State.setAer s fn a) := by
  unfold State.setAer
  repeat' (first
    | with_reducible assumption | with_reducible exact State.Keeps.refl _
    | fail_if_no_progress (first
        | refine State.Keeps.upd ?_ rfl (fun c => { c with })
        | refine State.Keeps.upd ?_ rfl (by
          intro c; cases c; constructor <;> repeat' first
            | assumption | exact Sparse.wf_put (by assumption) | exact Sparse.wf_ins (by assumption)
            | exact Sparse.wf_del (by assumption) | exact Sparse.wf_filter (by assumption) | rfl
            | (dsimp only; split) | split)))

theorem State.sendErr_keeps {z s : State} {fn : Nat} {e : AerError} {sev : Nat} (hk : z.Keeps s) :
    z.Keeps (State.sendErr s fn e sev) := by
  unfold State.sendErr
  repeat' (first
    | with_reducible assumption | with_reducible exact State.Keeps.refl _ | with_reducible apply State.emit_keeps
    | with_reducible apply State.Keeps.ite | split | dsimp only)

theorem State.logUnc_keeps {z s : State} {fn : Nat} {e : AerError} (hk : z.Keeps s) :
    z.Keeps (State.logUnc s fn e) := by
  unfold State.logUnc
  repeat' (first
    | with_reducible assumption | with_reducible exact State.Keeps.refl _ | with_reducible apply State.drawNat_keeps
    | with_reducible apply State.setAer_keeps | with_reducible apply State.Keeps.ite | split | dsimp only)

theorem State.noteDevSta_keeps {z s : State} {fn : Nat} {e : AerError} {sev : Nat} (hk : z.Keeps s) :
    z.Keeps (State.noteDevSta s fn e sev) := by
  unfold State.noteDevSta
  repeat' (first
    | with_reducible assumption | with_reducible exact State.Keeps.refl _ | with_reducible apply State.setAer_keeps
    | with_reducible apply State.Keeps.ite | split | dsimp only)

theorem State.reportErr_keeps {z s : State} {fn : Nat} {e : AerError} {advisory : Bool} (hk : z.Keeps s) :
    z.Keeps (State.reportErr s fn e advisory) := by
  unfold State.reportErr
  repeat' (first
    | with_reducible assumption | with_reducible exact State.Keeps.refl _ | with_reducible apply State.setAer_keeps
    | with_reducible apply State.sendErr_keeps | with_reducible apply State.logUnc_keeps
    | with_reducible apply State.noteDevSta_keeps | with_reducible apply State.Keeps.ite | split | dsimp only)

theorem State.logAer_keeps {z s : State} {fn : Nat} {e : AerError} {np : Bool} (hk : z.Keeps s) :
    z.Keeps (State.logAer s fn e np) := by
  unfold State.logAer
  repeat' (first
    | with_reducible assumption | with_reducible exact State.Keeps.refl _
    | with_reducible apply State.reportErr_keeps | with_reducible apply State.Keeps.ite
    | fail_if_no_progress (first
        | refine State.Keeps.upd ?_ rfl (fun c => { c with })
        | refine State.Keeps.upd ?_ rfl (by
          intro c; cases c; constructor <;> repeat' first
            | assumption | exact Sparse.wf_put (by assumption) | exact Sparse.wf_ins (by assumption)
            | exact Sparse.wf_del (by assumption) | exact Sparse.wf_filter (by assumption) | rfl
            | (dsimp only; split) | split))
    | split | dsimp only)

/-! ### Machine/Ops.lean -/

theorem State.setPlateOp_keeps {z s : State} {p op : Nat} (hk : z.Keeps s) : z.Keeps (State.setPlateOp s p op) := by
  unfold State.setPlateOp
  repeat' (first
    | with_reducible assumption | with_reducible exact State.Keeps.refl _ | with_reducible apply State.wr_keeps
    | with_reducible apply State.raise_keeps | with_reducible apply State.Keeps.ite | split)

theorem State.setOp_keeps {z s : State} {b op : Nat} (hk : z.Keeps s) : z.Keeps (State.setOp s b op) := by
  unfold State.setOp
  repeat' (first
    | with_reducible assumption | with_reducible exact State.Keeps.refl _ | with_reducible apply State.wr_keeps)

theorem State.acquire_keeps {z s : State} {b m : Nat} (hk : z.Keeps s) : z.Keeps (State.acquire s b m) := by
  unfold State.acquire
  repeat' (first
    | with_reducible assumption | with_reducible exact State.Keeps.refl _ | with_reducible apply State.wr_keeps
    | fail_if_no_progress (first
        | refine State.Keeps.upd ?_ rfl (fun c => { c with })
        | refine State.Keeps.upd ?_ rfl (by
          intro c; cases c; constructor <;> repeat' first
            | assumption | exact Sparse.wf_put (by assumption) | exact Sparse.wf_ins (by assumption)
            | exact Sparse.wf_del (by assumption) | exact Sparse.wf_filter (by assumption) | rfl
            | (dsimp only; split) | split)))

theorem State.resetLcSequence_keeps {z s : State} (hk : z.Keeps s) : z.Keeps (State.resetLcSequence s) := by
  unfold State.resetLcSequence
  repeat' (first
    | with_reducible assumption | with_reducible exact State.Keeps.refl _ | with_reducible apply State.wr_keeps
    | fail_if_no_progress (first
        | refine State.Keeps.upd ?_ rfl (fun c => { c with })
        | refine State.Keeps.upd ?_ rfl (by
          intro c; cases c; constructor <;> repeat' first
            | assumption | exact Sparse.wf_put (by assumption) | exact Sparse.wf_ins (by assumption)
            | exact Sparse.wf_del (by assumption) | exact Sparse.wf_filter (by assumption) | rfl
            | (dsimp only; split) | split)))

theorem State.release_keeps {z s : State} {b : Nat} (hk : z.Keeps s) : z.Keeps (State.release s b) := by
  unfold State.release
  repeat' (first
    | with_reducible assumption | with_reducible exact State.Keeps.refl _ | with_reducible apply State.wr_keeps
    | with_reducible apply State.resetLcSequence_keeps | with_reducible apply State.Keeps.ite
    | fail_if_no_progress (first
        | refine State.Keeps.upd ?_ rfl (fun c => { c with })
        | refine State.Keeps.upd ?_ rfl (by
          intro c; cases c; constructor <;> repeat' first
            | assumption | exact Sparse.wf_put (by assumption) | exact Sparse.wf_ins (by assumption)
            | exact Sparse.wf_del (by assumption) | exact Sparse.wf_filter (by assumption) | rfl
            | (dsimp only; split) | split))
    | split | dsimp only)

theorem State.breakLock_keeps {z s : State} {b : Nat} (hk : z.Keeps s) : z.Keeps (State.breakLock s b) := by
  unfold State.breakLock
  repeat' (first
    | with_reducible assumption | with_reducible exact State.Keeps.refl _ | with_reducible apply State.wr_keeps
    | with_reducible apply State.raise_keeps | with_reducible apply State.release_keeps
    | with_reducible apply State.Keeps.ite | split)

theorem State.breakLocksOf_keeps {z s : State} {m : Nat} (hk : z.Keeps s) : z.Keeps (State.breakLocksOf s m) := by
  unfold State.breakLocksOf
  repeat' (first
    | with_reducible assumption | with_reducible exact State.Keeps.refl _
    | with_reducible apply State.breakLock_keeps | with_reducible apply forEach_keeps
    | with_reducible apply State.Keeps.ite | (intro _ _ _) | (intro _ _) | split | dsimp only)

theorem State.setTk_keeps {z s : State} {p : Nat} {v : Timekeeper} (hk : z.Keeps s) :
    z.Keeps (State.setTk s p v) := by
  unfold State.setTk
  repeat' (first
    | with_reducible assumption | with_reducible exact State.Keeps.refl _
    | fail_if_no_progress (first
        | refine State.Keeps.upd ?_ rfl (fun c => { c with })
        | refine State.Keeps.upd ?_ rfl (by
          intro c; cases c; constructor <;> repeat' first
            | assumption | exact Sparse.wf_put (by assumption) | exact Sparse.wf_ins (by assumption)
            | exact Sparse.wf_del (by assumption) | exact Sparse.wf_filter (by assumption) | rfl
            | (dsimp only; split) | split)))

theorem State.record_keeps {z s : State} {m kind access : Nat} {plate : Option Nat} {lo hi : Nat} (hk : z.Keeps s) :
    z.Keeps (s.record m kind access plate lo hi) :=
  State.Keeps.upd (t := { s with frzSeq := if s.frzSeq = 0xFFFF then 1 else s.frzSeq + 1 })
    (hk.setFrzSeq (fun hq => by split <;> omega)) rfl
    (fun c => { c with frzCur := Sparse.wf_ins c.frzCur, frzHist := Sparse.wf_ins c.frzHist })

theorem State.amendRecord_keeps {z s : State} {m : Nat} {f : FrzRec → FrzRec} (hk : z.Keeps s) :
    z.Keeps (State.amendRecord s m f) := by
  unfold State.amendRecord
  repeat' (first
    | with_reducible assumption | with_reducible exact State.Keeps.refl _ | with_reducible apply State.Keeps.ite
    | fail_if_no_progress (first
        | refine State.Keeps.upd ?_ rfl (fun c => { c with })
        | refine State.Keeps.upd ?_ rfl (by
          intro c; cases c; constructor <;> repeat' first
            | assumption | exact Sparse.wf_put (by assumption) | exact Sparse.wf_ins (by assumption)
            | exact Sparse.wf_del (by assumption) | exact Sparse.wf_filter (by assumption) | rfl
            | (dsimp only; split) | split))
    | split | dsimp only)

theorem State.holdPc_keeps {z s : State} {p v : Nat} (hk : z.Keeps s) : z.Keeps (State.holdPc s p v) := by
  unfold State.holdPc
  repeat' (first
    | with_reducible assumption | with_reducible exact State.Keeps.refl _ | with_reducible apply State.drawNat_keeps
    | with_reducible apply State.setGraver_keeps)

theorem State.stopMaster_keeps {z s : State} {m : Nat} {ran : Bool} (hk : z.Keeps s) :
    z.Keeps (State.stopMaster s m ran) := by
  unfold State.stopMaster
  repeat' (first
    | with_reducible assumption | with_reducible exact State.Keeps.refl _ | with_reducible apply State.sendMsix_keeps
    | with_reducible apply State.holdPc_keeps | with_reducible apply State.Keeps.ite
    | fail_if_no_progress (first
        | refine State.Keeps.upd ?_ rfl (fun c => { c with })
        | refine State.Keeps.upd ?_ rfl (by
          intro c; cases c; constructor <;> repeat' first
            | assumption | exact Sparse.wf_put (by assumption) | exact Sparse.wf_ins (by assumption)
            | exact Sparse.wf_del (by assumption) | exact Sparse.wf_filter (by assumption) | rfl
            | (dsimp only; split) | split))
    | split)

theorem State.violate_keeps {z s : State} {m kind access : Nat} {plate : Option Nat} {lo hi : Nat} (hk : z.Keeps s) :
    z.Keeps (s.violate m kind access plate lo hi) := by
  unfold State.violate
  exact State.Keeps.ite hk (State.stopMaster_keeps (State.raise_keeps (State.bumpSat_keeps
    ((State.breakLocksOf_keeps (State.record_keeps hk)).setFrozen ascending_insertAsc))))

theorem State.countRepeat_keeps {z s : State} {m : Nat} (hk : z.Keeps s) : z.Keeps (State.countRepeat s m) := by
  unfold State.countRepeat
  repeat' (first
    | with_reducible assumption | with_reducible exact State.Keeps.refl _
    | with_reducible apply State.amendRecord_keeps | (intro _ _) | dsimp only)

theorem State.unfreeze_keeps {z s : State} {m : Nat} (hk : z.Keeps s) : z.Keeps (s.unfreeze m) := by
  have ht : z.Keeps (({ s with frozen := s.frozen.filter (· != m) }.amendRecord m
      (fun r => { r with frozen := false })).raise fzB 1) :=
    State.raise_keeps (State.amendRecord_keeps (hk.setFrozen (fun hf => ascending_filter hf _)))
  unfold State.unfreeze
  exact State.Keeps.ite (State.sendMsix_keeps (State.raise_keeps (State.bumpSat_keeps ht)))
    (State.Keeps.ite (State.Keeps.upd ht rfl (fun c => { c with gravers := Sparse.wf_put c.gravers })) ht)

theorem State.violateWrite_keeps {z s : State} {fn kind a : Nat} (hk : z.Keeps s) :
    z.Keeps (State.violateWrite s fn kind a) := by
  unfold State.violateWrite
  repeat' (first
    | with_reducible assumption | with_reducible exact State.Keeps.refl _ | with_reducible apply State.violate_keeps
    | with_reducible apply State.Keeps.ite | split)

theorem State.notePlateHold_keeps {z s : State} {b : Nat} (hk : z.Keeps s) : z.Keeps (State.notePlateHold s b) := by
  unfold State.notePlateHold
  repeat' (first
    | with_reducible assumption | with_reducible exact State.Keeps.refl _ | with_reducible apply State.raise_keeps
    | split)

theorem State.clearAgree_keeps {z s : State} {b : Nat} (hk : z.Keeps s) : z.Keeps (State.clearAgree s b) := by
  unfold State.clearAgree
  repeat' (first
    | with_reducible assumption | with_reducible exact State.Keeps.refl _
    | fail_if_no_progress (first
        | refine State.Keeps.upd ?_ rfl (fun c => { c with })
        | refine State.Keeps.upd ?_ rfl (by
          intro c; cases c; constructor <;> repeat' first
            | assumption | exact Sparse.wf_put (by assumption) | exact Sparse.wf_ins (by assumption)
            | exact Sparse.wf_del (by assumption) | exact Sparse.wf_filter (by assumption) | rfl
            | (dsimp only; split) | split))
    | (intro _ _) | dsimp only)

theorem State.endHold_keeps {z s : State} {b : Nat} (hk : z.Keeps s) : z.Keeps (State.endHold s b) := by
  unfold State.endHold
  repeat' (first
    | with_reducible assumption | with_reducible exact State.Keeps.refl _ | with_reducible apply State.wr_keeps
    | with_reducible apply State.notePlateHold_keeps | with_reducible apply State.clearAgree_keeps
    | with_reducible apply State.Keeps.ite | split | dsimp only)

theorem State.storeIntent_keeps {z s : State} {b op mode : Nat} (hk : z.Keeps s) :
    z.Keeps (State.storeIntent s b op mode) := by
  unfold State.storeIntent
  repeat' (first
    | with_reducible assumption | with_reducible exact State.Keeps.refl _ | with_reducible apply State.wr_keeps
    | with_reducible apply State.endHold_keeps | with_reducible apply State.Keeps.ite | split | dsimp only)

theorem State.startAgree_keeps {z s : State} {key : Nat} (hk : z.Keeps s) : z.Keeps (State.startAgree s key) := by
  unfold State.startAgree
  repeat' (first
    | with_reducible assumption | with_reducible exact State.Keeps.refl _
    | fail_if_no_progress (first
        | refine State.Keeps.upd ?_ rfl (fun c => { c with })
        | refine State.Keeps.upd ?_ rfl (by
          intro c; cases c; constructor <;> repeat' first
            | assumption | exact Sparse.wf_put (by assumption) | exact Sparse.wf_ins (by assumption)
            | exact Sparse.wf_del (by assumption) | exact Sparse.wf_filter (by assumption) | rfl
            | (dsimp only; split) | split)))

theorem State.traceMiss_keeps {z s : State} {b op mode : Nat} (hk : z.Keeps s) :
    z.Keeps (State.traceMiss s b op mode) := by
  unfold State.traceMiss
  repeat' (first
    | with_reducible assumption | with_reducible exact State.Keeps.refl _ | with_reducible apply State.wr_keeps
    | with_reducible apply State.raise_keeps | with_reducible apply State.notePlateHold_keeps
    | with_reducible apply State.Keeps.ite | split | dsimp only)

theorem State.traceStep_keeps {z s : State} {k : SheetKind} {inst b : Nat} (hk : z.Keeps s) :
    z.Keeps (State.traceStep s k inst b) := by
  unfold State.traceStep
  repeat' (first
    | with_reducible assumption | with_reducible exact State.Keeps.refl _ | with_reducible apply State.wr_keeps
    | with_reducible apply State.clearAgree_keeps | with_reducible apply State.startAgree_keeps
    | with_reducible apply State.traceMiss_keeps | with_reducible apply State.Keeps.ite | split | dsimp only)

/-! ### Machine/Operands.lean -/

theorem State.refuseRequest_keeps {z s : State} {fn : Nat} {completion : Bool} (hk : z.Keeps s) :
    z.Keeps (State.refuseRequest s fn completion) := by
  unfold State.refuseRequest
  repeat' (first
    | with_reducible assumption | with_reducible exact State.Keeps.refl _ | with_reducible apply State.bump_keeps
    | with_reducible apply State.emit_keeps | with_reducible apply State.logAer_keeps
    | with_reducible apply State.Keeps.ite | split | dsimp only)

theorem State.countAccess_keeps {z s : State} {fn : Nat} (hk : z.Keeps s) : z.Keeps (State.countAccess s fn) := by
  unfold State.countAccess
  repeat' (first
    | with_reducible assumption | with_reducible exact State.Keeps.refl _
    | with_reducible apply State.countRepeat_keeps | with_reducible apply State.Keeps.ite | split)

theorem State.writeAt_keeps {z s : State} {fn : Nat} {oa : Option Nat} {f : State → State} (hk : z.Keeps s) (hf : ∀ u,
    z.Keeps u → z.Keeps (f u)) : z.Keeps (State.writeAt s fn oa f) := by
  unfold State.writeAt
  repeat' (first
    | with_reducible assumption | with_reducible exact State.Keeps.refl _ | with_reducible apply hf
    | with_reducible apply State.violateWrite_keeps | with_reducible apply State.refuseRequest_keeps
    | with_reducible apply State.countAccess_keeps | split)

theorem State.mmioWrite_keeps {z s : State} {fn a : Nat} {f : State → State} (hk : z.Keeps s) (hf : ∀ u, z.Keeps u →
    z.Keeps (f u)) : z.Keeps (State.mmioWrite s fn a f) := by
  unfold State.mmioWrite
  repeat' (first
    | with_reducible assumption | with_reducible exact State.Keeps.refl _ | with_reducible apply hf
    | with_reducible apply State.writeAt_keeps | with_reducible apply State.Keeps.ite | split)

theorem State.storeField_keeps {z s : State} {fn b : Nat} {r : Row} {i : Nat} {data : Nat} (hk : z.Keeps s) :
    z.Keeps (State.storeField s fn b r i data) := by
  unfold State.storeField
  repeat' (first
    | with_reducible assumption | with_reducible exact State.Keeps.refl _ | with_reducible apply State.wr_keeps
    | with_reducible apply State.Keeps.ite | split | dsimp only)

theorem State.storeWord_keeps {z s : State} {fn b : Nat} {rows : List Row} {off : Nat} {data : Nat} (hk : z.Keeps s) :
    z.Keeps (State.storeWord s fn b rows off data) := by
  unfold State.storeWord
  repeat' (first
    | with_reducible assumption | with_reducible exact State.Keeps.refl _
    | with_reducible apply State.storeField_keeps | with_reducible apply forEach_keeps | (intro _ _ _) | (intro _ _)
    | split | dsimp only)

theorem State.clearOnRead_keeps {z s : State} {b : Nat} {rows : List Row} {off : Nat} (hk : z.Keeps s) :
    z.Keeps (State.clearOnRead s b rows off) := by
  unfold State.clearOnRead
  repeat' (first
    | with_reducible assumption | with_reducible exact State.Keeps.refl _ | with_reducible apply State.wr_keeps
    | with_reducible apply forEach_keeps | with_reducible apply State.Keeps.ite | (intro _ _ _) | (intro _ _) | split
    | dsimp only)

/-! ### Machine/WdCore.lean -/

theorem State.setWd_keeps {z s : State} {c : Nat} {w : Wd} (hk : z.Keeps s) : z.Keeps (State.setWd s c w) := by
  unfold State.setWd
  repeat' (first
    | with_reducible assumption | with_reducible exact State.Keeps.refl _
    | fail_if_no_progress (first
        | refine State.Keeps.upd ?_ rfl (fun c => { c with })
        | refine State.Keeps.upd ?_ rfl (by
          intro c; cases c; constructor <;> repeat' first
            | assumption | exact Sparse.wf_put (by assumption) | exact Sparse.wf_ins (by assumption)
            | exact Sparse.wf_del (by assumption) | exact Sparse.wf_filter (by assumption) | rfl
            | (dsimp only; split) | split)))

theorem State.wdBegin_keeps {z s : State} {c : Nat} (hk : z.Keeps s) : z.Keeps (State.wdBegin s c) := by
  unfold State.wdBegin
  repeat' (first
    | with_reducible assumption | with_reducible exact State.Keeps.refl _ | with_reducible apply State.drawNat_keeps
    | with_reducible apply State.raise_keeps | with_reducible apply State.setWd_keeps
    | with_reducible apply State.Keeps.ite | split | dsimp only)

theorem State.wdClearFields_keeps {z s : State} {c : Nat} (hk : z.Keeps s) : z.Keeps (s.wdClearFields c) :=
  hk.setRegs Sparse.wf_filter

theorem State.wdStartState_keeps {z s : State} {c : Nat} (hk : z.Keeps s) : z.Keeps (State.wdStartState s c) := by
  unfold State.wdStartState
  repeat' (first
    | with_reducible assumption | with_reducible exact State.Keeps.refl _ | with_reducible apply State.setWd_keeps
    | with_reducible apply State.wdBegin_keeps | with_reducible apply State.wdClearFields_keeps
    | with_reducible apply State.Keeps.ite | split | dsimp only)

/-! ### Machine/EpkLink.lean -/

theorem State.setEkLane_keeps {z s : State} {l : Nat} {v : EkLane} (hk : z.Keeps s) :
    z.Keeps (State.setEkLane s l v) := by
  unfold State.setEkLane
  repeat' (first
    | with_reducible assumption | with_reducible exact State.Keeps.refl _
    | fail_if_no_progress (first
        | refine State.Keeps.upd ?_ rfl (fun c => { c with })
        | refine State.Keeps.upd ?_ rfl (by
          intro c; cases c; constructor <;> repeat' first
            | assumption | exact Sparse.wf_put (by assumption) | exact Sparse.wf_ins (by assumption)
            | exact Sparse.wf_del (by assumption) | exact Sparse.wf_filter (by assumption) | rfl
            | (dsimp only; split) | split)))

theorem State.setPair_keeps {z s : State} {p : Nat} {v : PairPlate} (hk : z.Keeps s) :
    z.Keeps (State.setPair s p v) := by
  unfold State.setPair
  repeat' (first
    | with_reducible assumption | with_reducible exact State.Keeps.refl _
    | fail_if_no_progress (first
        | refine State.Keeps.upd ?_ rfl (fun c => { c with })
        | refine State.Keeps.upd ?_ rfl (by
          intro c; cases c; constructor <;> repeat' first
            | assumption | exact Sparse.wf_put (by assumption) | exact Sparse.wf_ins (by assumption)
            | exact Sparse.wf_del (by assumption) | exact Sparse.wf_filter (by assumption) | rfl
            | (dsimp only; split) | split)))

theorem State.modPair_keeps {z s : State} {p : Nat} {f : PairPlate → PairPlate} (hk : z.Keeps s) :
    z.Keeps (State.modPair s p f) := by
  unfold State.modPair
  repeat' (first
    | with_reducible assumption | with_reducible exact State.Keeps.refl _ | with_reducible apply State.setPair_keeps)

theorem State.sendEpk_keeps {z s : State} {lanes : List Nat} {plate : Option Nat} {dest : Fin 9} {b : EpkBody} (hk :
    z.Keeps s) : z.Keeps (State.sendEpk s lanes plate dest b) := by
  unfold State.sendEpk
  repeat' (first
    | with_reducible assumption | with_reducible exact State.Keeps.refl _ | with_reducible apply State.emit_keeps
    | with_reducible apply forEach_keeps | with_reducible apply State.Keeps.ite
    | fail_if_no_progress (first
        | refine State.Keeps.upd ?_ rfl (fun c => { c with })
        | refine State.Keeps.upd ?_ rfl (by
          intro c; cases c; constructor <;> repeat' first
            | assumption | exact Sparse.wf_put (by assumption) | exact Sparse.wf_ins (by assumption)
            | exact Sparse.wf_del (by assumption) | exact Sparse.wf_filter (by assumption) | rfl
            | (dsimp only; split) | split))
    | (intro _ _ _) | (intro _ _) | split | dsimp only)

theorem State.broadcast_keeps {z s : State} {b : EpkBody} (hk : z.Keeps s) : z.Keeps (State.broadcast s b) := by
  unfold State.broadcast
  repeat' (first
    | with_reducible assumption | with_reducible exact State.Keeps.refl _ | with_reducible apply State.sendEpk_keeps)

theorem State.setProt_keeps {z s : State} {p v : Nat} (hk : z.Keeps s) : z.Keeps (State.setProt s p v) := by
  unfold State.setProt
  repeat' (first
    | with_reducible assumption | with_reducible exact State.Keeps.refl _ | with_reducible apply State.wr_keeps
    | with_reducible apply State.raise_keeps | with_reducible apply State.Keeps.ite | split)

theorem State.dropProt_keeps {z s : State} {p : Nat} (hk : z.Keeps s) : z.Keeps (State.dropProt s p) := by
  unfold State.dropProt
  repeat' (first
    | with_reducible assumption | with_reducible exact State.Keeps.refl _ | with_reducible apply State.modPair_keeps
    | with_reducible apply State.setProt_keeps
    | fail_if_no_progress (first
        | refine State.Keeps.upd ?_ rfl (fun c => { c with })
        | refine State.Keeps.upd ?_ rfl (by
          intro c; cases c; constructor <;> repeat' first
            | assumption | exact Sparse.wf_put (by assumption) | exact Sparse.wf_ins (by assumption)
            | exact Sparse.wf_del (by assumption) | exact Sparse.wf_filter (by assumption) | rfl
            | (dsimp only; split) | split))
    | (intro _ _) | dsimp only)

theorem State.sendRole_keeps {z s : State} {subtype : Nat} {plate : Option Nat} (hk : z.Keeps s) :
    z.Keeps (State.sendRole s subtype plate) := by
  unfold State.sendRole
  repeat' (first
    | with_reducible assumption | with_reducible exact State.Keeps.refl _ | with_reducible apply State.sendEpk_keeps
    | with_reducible apply State.Keeps.ite | split)

theorem State.releasePlate_keeps {z s : State} {p : Nat} (hk : z.Keeps s) : z.Keeps (State.releasePlate s p) := by
  unfold State.releasePlate
  repeat' (first
    | with_reducible assumption | with_reducible exact State.Keeps.refl _ | with_reducible apply State.sendRole_keeps
    | with_reducible apply State.Keeps.ite | split)

theorem State.dropAllProt_keeps {z s : State} (hk : z.Keeps s) : z.Keeps (State.dropAllProt s) := by
  unfold State.dropAllProt
  repeat' (first
    | with_reducible assumption | with_reducible exact State.Keeps.refl _ | with_reducible apply State.dropProt_keeps
    | with_reducible apply State.sendRole_keeps | with_reducible apply forUpTo_keeps
    | with_reducible apply State.Keeps.ite | (intro _ _ _) | (intro _ _) | split | dsimp only)

theorem State.resetPairPlate_keeps {z s : State} {p : Nat} (hk : z.Keeps s) : z.Keeps (State.resetPairPlate s p) := by
  unfold State.resetPairPlate
  repeat' (first
    | with_reducible assumption | with_reducible exact State.Keeps.refl _ | with_reducible apply State.setPair_keeps
    | with_reducible apply State.dropProt_keeps
    | fail_if_no_progress (first
        | refine State.Keeps.upd ?_ rfl (fun c => { c with })
        | refine State.Keeps.upd ?_ rfl (by
          intro c; cases c; constructor <;> repeat' first
            | assumption | exact Sparse.wf_put (by assumption) | exact Sparse.wf_ins (by assumption)
            | exact Sparse.wf_del (by assumption) | exact Sparse.wf_filter (by assumption) | rfl
            | (dsimp only; split) | split))
    | (intro _ _) | dsimp only)

/-! ### Machine/Learning.lean -/

theorem State.drawWhole_keeps {z s : State} {q : Rat} (hk : z.Keeps s) : z.Keeps (State.drawWhole s q).2 := by
  unfold State.drawWhole
  repeat' (first
    | with_reducible assumption | with_reducible exact State.Keeps.refl _
    | with_reducible apply State.drawRound_keeps | dsimp only)

theorem State.fit32_keeps {z s : State} {v : Int} (hk : z.Keeps s) : z.Keeps (State.fit32 s v).2 := by
  unfold State.fit32
  repeat' (first
    | with_reducible assumption | with_reducible exact State.Keeps.refl _ | with_reducible apply State.drawNat_keeps
    | with_reducible apply State.Keeps.ite | split | dsimp only)

theorem State.modelY_keeps {z s : State} (hk : z.Keeps s) : z.Keeps (State.modelY s).2 := by
  unfold State.modelY
  repeat' (first
    | with_reducible assumption | with_reducible exact State.Keeps.refl _
    | with_reducible apply State.drawWhole_keeps | dsimp only)

theorem State.relearn_keeps {z s : State} {x : List Rat} {y : Rat} (hk : z.Keeps s) : z.Keeps (s.relearn x y) := by
  unfold State.relearn
  extract_lets lam g den e c p
  have hc : z.Keeps c := forUpTo_keeps _ hk (fun _ _ hu =>
    State.wrS_keeps (State.fit32_keeps (State.drawWhole_keeps hu)))
  clear_value c
  have hp : z.Keeps p.2 := by
    refine foldl_keeps_snd (t := (([] : List Nat), c)) _ hc ?_
    intro u i hu
    refine foldl_keeps_snd _ hu ?_
    intro v j hv
    exact State.drawBool_keeps hv
  clear_value p
  exact State.Keeps.upd hp rfl (fun k => { k with })

/-! ### Machine/TimebaseCore.lean -/

theorem State.modTb_keeps {z s : State} {f : Timebase → Timebase} (hk : z.Keeps s) : z.Keeps (State.modTb s f) := by
  unfold State.modTb
  repeat' (first
    | with_reducible assumption | with_reducible exact State.Keeps.refl _
    | fail_if_no_progress (first
        | refine State.Keeps.upd ?_ rfl (fun c => { c with })
        | refine State.Keeps.upd ?_ rfl (by
          intro c; cases c; constructor <;> repeat' first
            | assumption | exact Sparse.wf_put (by assumption) | exact Sparse.wf_ins (by assumption)
            | exact Sparse.wf_del (by assumption) | exact Sparse.wf_filter (by assumption) | rfl
            | (dsimp only; split) | split)))

theorem State.ppsOutCut_keeps {z s : State} (hk : z.Keeps s) : z.Keeps (State.ppsOutCut s) := by
  unfold State.ppsOutCut
  repeat' (first
    | with_reducible assumption | with_reducible exact State.Keeps.refl _ | with_reducible apply State.modTb_keeps
    | with_reducible apply State.Keeps.ite | (intro _ _) | split | dsimp only)

theorem State.holdSeconds_keeps {z s : State} (hk : z.Keeps s) : z.Keeps (State.holdSeconds s) := by
  unfold State.holdSeconds
  repeat' (first
    | with_reducible assumption | with_reducible exact State.Keeps.refl _ | with_reducible apply State.wr_keeps)

theorem State.setTbState_keeps {z s : State} {v : Nat} (hk : z.Keeps s) : z.Keeps (State.setTbState s v) := by
  unfold State.setTbState
  repeat' (first
    | with_reducible assumption | with_reducible exact State.Keeps.refl _ | with_reducible apply State.raise_keeps
    | with_reducible apply State.modTb_keeps | with_reducible apply State.ppsOutCut_keeps
    | with_reducible apply State.holdSeconds_keeps | with_reducible apply State.Keeps.ite | (intro _ _) | split
    | dsimp only)

theorem State.setSelected_keeps {z s : State} {n : Nat} (hk : z.Keeps s) : z.Keeps (State.setSelected s n) := by
  unfold State.setSelected
  repeat' (first
    | with_reducible assumption | with_reducible exact State.Keeps.refl _ | with_reducible apply State.wr_keeps
    | with_reducible apply State.bumpSat_keeps | with_reducible apply State.raise_keeps
    | with_reducible apply State.modTb_keeps | with_reducible apply State.Keeps.ite | (intro _ _) | split
    | dsimp only)

theorem State.startSlew_keeps {z s : State} {d : Int} {deferred : Bool} (hk : z.Keeps s) :
    z.Keeps (State.startSlew s d deferred) := by
  unfold State.startSlew
  repeat' (first
    | with_reducible assumption | with_reducible exact State.Keeps.refl _ | with_reducible apply State.modTb_keeps
    | (intro _ _) | dsimp only)

theorem State.moveTime_keeps {z s : State} {d : Int} {force : Bool} (hk : z.Keeps s) :
    z.Keeps (State.moveTime s d force) := by
  unfold State.moveTime
  repeat' (first
    | with_reducible assumption | with_reducible exact State.Keeps.refl _ | with_reducible apply State.bumpSat_keeps
    | with_reducible apply State.raise_keeps | with_reducible apply State.modTb_keeps
    | with_reducible apply State.startSlew_keeps | with_reducible apply State.Keeps.ite | (intro _ _) | split
    | dsimp only)

theorem State.setY_keeps {z s : State} {v : Int} (hk : z.Keeps s) : z.Keeps (State.setY s v) := by
  unfold State.setY
  repeat' (first
    | with_reducible assumption | with_reducible exact State.Keeps.refl _ | with_reducible apply State.modTb_keeps
    | with_reducible apply State.Keeps.ite | (intro _ _) | split | dsimp only)

theorem State.stepY_keeps {z s : State} {used : Int} (hk : z.Keeps s) : z.Keeps (State.stepY s used) := by
  unfold State.stepY
  repeat' (first
    | with_reducible assumption | with_reducible exact State.Keeps.refl _ | with_reducible apply State.modTb_keeps
    | with_reducible apply State.Keeps.ite | (intro _ _) | split | dsimp only)

theorem State.recordY_keeps {z s : State} {y : Int} (hk : z.Keeps s) : z.Keeps (State.recordY s y) := by
  unfold State.recordY
  repeat' (first
    | with_reducible assumption | with_reducible exact State.Keeps.refl _ | with_reducible apply State.modTb_keeps
    | with_reducible apply State.Keeps.ite | (intro _ _) | split | dsimp only)

theorem State.setEfc_keeps {z s : State} {code : Nat} (hk : z.Keeps s) : z.Keeps (State.setEfc s code) := by
  unfold State.setEfc
  repeat' (first
    | with_reducible assumption | with_reducible exact State.Keeps.refl _ | with_reducible apply State.wr_keeps)

theorem State.writeEfc_keeps {z s : State} {y : Int} (hk : z.Keeps s) : z.Keeps (State.writeEfc s y) := by
  unfold State.writeEfc
  repeat' (first
    | with_reducible assumption | with_reducible exact State.Keeps.refl _ | with_reducible apply State.wrS_keeps
    | with_reducible apply State.wrB_keeps | with_reducible apply State.raise_keeps
    | with_reducible apply State.setEfc_keeps | with_reducible apply State.Keeps.ite | split | dsimp only)

theorem State.meanOf_keeps {z s : State} {l : List Int} {dflt : Int} (hk : z.Keeps s) :
    z.Keeps (State.meanOf s l dflt).2 := by
  unfold State.meanOf
  repeat' (first
    | with_reducible assumption | with_reducible exact State.Keeps.refl _
    | with_reducible apply State.drawRound_keeps | with_reducible apply foldl_keeps
    | with_reducible apply foldl_keeps_snd | with_reducible apply State.Keeps.ite | split | dsimp only)

theorem State.meanY_keeps {z s : State} {l : List YSecond} {dflt : Int} (hk : z.Keeps s) :
    z.Keeps (State.meanY s l dflt).2 := by
  unfold State.meanY
  repeat' (first
    | with_reducible assumption | with_reducible exact State.Keeps.refl _
    | with_reducible apply State.drawRound_keeps | with_reducible apply foldl_keeps
    | with_reducible apply foldl_keeps_snd | with_reducible apply State.Keeps.ite | (intro _ _ _) | (intro _ _)
    | split | dsimp only)

theorem State.enterHoldover_keeps {z s : State} (hk : z.Keeps s) : z.Keeps (State.enterHoldover s) := by
  unfold State.enterHoldover
  repeat' (first
    | with_reducible assumption | with_reducible exact State.Keeps.refl _ | with_reducible apply State.wr_keeps
    | with_reducible apply State.drawNat_keeps | with_reducible apply State.modelY_keeps
    | with_reducible apply State.modTb_keeps | with_reducible apply State.setTbState_keeps
    | with_reducible apply State.meanOf_keeps | with_reducible apply State.meanY_keeps
    | with_reducible apply State.Keeps.ite | (intro _ _) | split | dsimp only)

theorem State.tbGoFree_keeps {z s : State} (hk : z.Keeps s) : z.Keeps (State.tbGoFree s) := by
  unfold State.tbGoFree
  repeat' (first
    | with_reducible assumption | with_reducible exact State.Keeps.refl _ | with_reducible apply State.modTb_keeps
    | with_reducible apply State.setTbState_keeps | with_reducible apply State.setSelected_keeps
    | with_reducible apply State.Keeps.ite | (intro _ _) | split | dsimp only)

theorem State.correct_keeps {z s : State} {n : Nat} (hk : z.Keeps s) : z.Keeps (State.correct s n) := by
  unfold State.correct
  repeat' (first
    | with_reducible assumption | with_reducible exact State.Keeps.refl _ | with_reducible apply State.moveTime_keeps
    | with_reducible apply State.Keeps.ite | split)

theorem State.tbSwitch_keeps {z s : State} {n : Nat} (hk : z.Keeps s) : z.Keeps (State.tbSwitch s n) := by
  unfold State.tbSwitch
  repeat' (first
    | with_reducible assumption | with_reducible exact State.Keeps.refl _
    | with_reducible apply State.setTbState_keeps | with_reducible apply State.setSelected_keeps
    | with_reducible apply State.correct_keeps | with_reducible apply State.Keeps.ite | split | dsimp only)

theorem State.tbLost_keeps {z s : State} (hk : z.Keeps s) : z.Keeps (State.tbLost s) := by
  unfold State.tbLost
  repeat' (first
    | with_reducible assumption | with_reducible exact State.Keeps.refl _
    | with_reducible apply State.setTbState_keeps | with_reducible apply State.setSelected_keeps
    | with_reducible apply State.enterHoldover_keeps | with_reducible apply State.Keeps.ite | split | dsimp only)

theorem State.tbReselect_keeps {z s : State} (hk : z.Keeps s) : z.Keeps (State.tbReselect s) := by
  unfold State.tbReselect
  repeat' (first
    | with_reducible assumption | with_reducible exact State.Keeps.refl _ | with_reducible apply State.tbSwitch_keeps
    | with_reducible apply State.tbLost_keeps | with_reducible apply State.Keeps.ite | split | dsimp only)

theorem State.setQualified_keeps {z s : State} {n : Nat} {v : Bool} (hk : z.Keeps s) :
    z.Keeps (State.setQualified s n v) := by
  unfold State.setQualified
  repeat' (first
    | with_reducible assumption | with_reducible exact State.Keeps.refl _ | with_reducible apply State.wr_keeps
    | with_reducible apply State.wrB_keeps | with_reducible apply State.modTb_keeps
    | with_reducible apply State.tbReselect_keeps | with_reducible apply State.Keeps.ite | (intro _ _) | split
    | dsimp only)

theorem State.dropFreq_keeps {z s : State} {n : Nat} (hk : z.Keeps s) : z.Keeps (State.dropFreq s n) := by
  unfold State.dropFreq
  repeat' (first
    | with_reducible assumption | with_reducible exact State.Keeps.refl _ | with_reducible apply State.modTb_keeps
    | with_reducible apply State.setQualified_keeps | (intro _ _) | dsimp only)

theorem State.tbPllMoved_keeps {z s : State} (hk : z.Keeps s) : z.Keeps (State.tbPllMoved s) := by
  unfold State.tbPllMoved
  repeat' (first
    | with_reducible assumption | with_reducible exact State.Keeps.refl _ | with_reducible apply State.setOp_keeps
    | with_reducible apply State.tbGoFree_keeps | with_reducible apply State.tbReselect_keeps
    | with_reducible apply State.Keeps.ite | split)

theorem State.moveTbPll_keeps {z s : State} {c : Nat} (hk : z.Keeps s) : z.Keeps (State.moveTbPll s c) := by
  unfold State.moveTbPll
  repeat' (first
    | with_reducible assumption | with_reducible exact State.Keeps.refl _ | with_reducible apply State.wr_keeps
    | with_reducible apply State.modTb_keeps | with_reducible apply State.tbPllMoved_keeps
    | with_reducible apply State.Keeps.ite | (intro _ _) | split | dsimp only)

theorem State.tbEvents_keeps {z s : State} {n at_ : Nat} {within far : Bool} (hk : z.Keeps s) :
    z.Keeps (State.tbEvents s n at_ within far) := by
  unfold State.tbEvents
  repeat' (first
    | with_reducible assumption | with_reducible exact State.Keeps.refl _ | with_reducible apply State.modTb_keeps
    | with_reducible apply State.setTbState_keeps | with_reducible apply State.correct_keeps
    | with_reducible apply State.Keeps.ite | (intro _ _) | split | dsimp only)

theorem State.servoY_keeps {z s : State} {part : Int} {ns : Nat} (hk : z.Keeps s) :
    z.Keeps (State.servoY s part ns) := by
  unfold State.servoY
  repeat' (first
    | with_reducible assumption | with_reducible exact State.Keeps.refl _
    | with_reducible apply State.drawRound_keeps | with_reducible apply State.modTb_keeps
    | with_reducible apply State.setY_keeps | (intro _ _) | dsimp only)

theorem State.servoPhase_keeps {z s : State} {err : Int} {at_ : Nat} (hk : z.Keeps s) :
    z.Keeps (State.servoPhase s err at_) := by
  unfold State.servoPhase
  repeat' (first
    | with_reducible assumption | with_reducible exact State.Keeps.refl _ | with_reducible apply State.modTb_keeps
    | with_reducible apply State.servoY_keeps | with_reducible apply State.Keeps.ite | (intro _ _) | split
    | dsimp only)

theorem State.noteError_keeps {z s : State} {n : Nat} {err : Int} (hk : z.Keeps s) :
    z.Keeps (State.noteError s n err) := by
  unfold State.noteError
  repeat' (first
    | with_reducible assumption | with_reducible exact State.Keeps.refl _ | with_reducible apply State.modTb_keeps
    | (intro _ _) | dsimp only)

theorem State.tbPhase_keeps {z s : State} {n : Nat} {err : Int} {at_ : Nat} (hk : z.Keeps s) :
    z.Keeps (State.tbPhase s n err at_) := by
  unfold State.tbPhase
  repeat' (first
    | with_reducible assumption | with_reducible exact State.Keeps.refl _ | with_reducible apply State.wrS_keeps
    | with_reducible apply State.fit32_keeps | with_reducible apply State.modTb_keeps
    | with_reducible apply State.moveTime_keeps | with_reducible apply State.tbEvents_keeps
    | with_reducible apply State.servoPhase_keeps | with_reducible apply State.noteError_keeps
    | with_reducible apply State.Keeps.ite | (intro _ _) | split | dsimp only)

theorem State.servoFrequency_keeps {z s : State} {err : Int} (hk : z.Keeps s) :
    z.Keeps (State.servoFrequency s err) := by
  unfold State.servoFrequency
  repeat' (first
    | with_reducible assumption | with_reducible exact State.Keeps.refl _ | with_reducible apply State.modTb_keeps
    | with_reducible apply State.servoY_keeps | (intro _ _) | dsimp only)

theorem State.tbFrequency_keeps {z s : State} {n : Nat} {err : Int} (hk : z.Keeps s) :
    z.Keeps (State.tbFrequency s n err) := by
  unfold State.tbFrequency
  repeat' (first
    | with_reducible assumption | with_reducible exact State.Keeps.refl _ | with_reducible apply State.tbEvents_keeps
    | with_reducible apply State.noteError_keeps | with_reducible apply State.servoFrequency_keeps
    | with_reducible apply State.Keeps.ite | split | dsimp only)

theorem State.tbBoot_keeps {z s : State} (hk : z.Keeps s) : z.Keeps (State.tbBoot s) := by
  unfold State.tbBoot
  repeat' (first
    | with_reducible assumption | with_reducible exact State.Keeps.refl _
    | fail_if_no_progress (first
        | refine State.Keeps.upd ?_ rfl (fun c => { c with })
        | refine State.Keeps.upd ?_ rfl (by
          intro c; cases c; constructor <;> repeat' first
            | assumption | exact Sparse.wf_put (by assumption) | exact Sparse.wf_ins (by assumption)
            | exact Sparse.wf_del (by assumption) | exact Sparse.wf_filter (by assumption) | rfl
            | (dsimp only; split) | split)))

theorem State.leaveOff_keeps {z s : State} (hk : z.Keeps s) : z.Keeps (State.leaveOff s) := by
  unfold State.leaveOff
  repeat' (first
    | with_reducible assumption | with_reducible exact State.Keeps.refl _ | with_reducible apply State.wr_keeps
    | with_reducible apply State.modTb_keeps | with_reducible apply State.Keeps.ite | (intro _ _) | split
    | dsimp only)

theorem State.tbTakeUp_keeps {z s : State} (hk : z.Keeps s) : z.Keeps (State.tbTakeUp s) := by
  unfold State.tbTakeUp
  repeat' (first
    | with_reducible assumption | with_reducible exact State.Keeps.refl _ | with_reducible apply State.tbSwitch_keeps
    | with_reducible apply State.Keeps.ite | split)

theorem State.tbIntent_keeps {z s : State} {fn data : Nat} (hk : z.Keeps s) : z.Keeps (State.tbIntent s fn data) := by
  unfold State.tbIntent
  repeat' (first
    | with_reducible assumption | with_reducible exact State.Keeps.refl _ | with_reducible apply State.wr_keeps
    | with_reducible apply State.setOp_keeps | with_reducible apply State.storeIntent_keeps
    | with_reducible apply State.modTb_keeps | with_reducible apply State.tbGoFree_keeps
    | with_reducible apply State.tbReselect_keeps | with_reducible apply State.tbPllMoved_keeps
    | with_reducible apply State.leaveOff_keeps | with_reducible apply State.tbTakeUp_keeps
    | with_reducible apply State.Keeps.ite | (intro _ _) | split | dsimp only)

/-! ### Machine/Wakes.lean -/

theorem State.abortRound_keeps {z s : State} {send : Option Nat} (hk : z.Keeps s) :
    z.Keeps (State.abortRound s send) := by
  unfold State.abortRound
  repeat' (first
    | with_reducible assumption | with_reducible exact State.Keeps.refl _ | with_reducible apply State.bumpSat_keeps
    | with_reducible apply State.raise_keeps | with_reducible apply State.broadcast_keeps
    | fail_if_no_progress (first
        | refine State.Keeps.upd ?_ rfl (fun c => { c with })
        | refine State.Keeps.upd ?_ rfl (by
          intro c; cases c; constructor <;> repeat' first
            | assumption | exact Sparse.wf_put (by assumption) | exact Sparse.wf_ins (by assumption)
            | exact Sparse.wf_del (by assumption) | exact Sparse.wf_filter (by assumption) | rfl
            | (dsimp only; split) | split))
    | split | dsimp only)

theorem State.stirRound_keeps {z s : State} (hk : z.Keeps s) : z.Keeps (State.stirRound s) := by
  unfold State.stirRound
  repeat' (first
    | with_reducible assumption | with_reducible exact State.Keeps.refl _
    | with_reducible apply State.abortRound_keeps | with_reducible apply State.Keeps.ite | split | dsimp only)

theorem State.cancelQuiet_keeps {z s : State} {p : Nat} (hk : z.Keeps s) : z.Keeps (State.cancelQuiet s p) := by
  unfold State.cancelQuiet
  repeat' (first
    | with_reducible assumption | with_reducible exact State.Keeps.refl _ | with_reducible apply State.wr_keeps
    | with_reducible apply State.setPlateOp_keeps
    | fail_if_no_progress (first
        | refine State.Keeps.upd ?_ rfl (fun c => { c with })
        | refine State.Keeps.upd ?_ rfl (by
          intro c; cases c; constructor <;> repeat' first
            | assumption | exact Sparse.wf_put (by assumption) | exact Sparse.wf_ins (by assumption)
            | exact Sparse.wf_del (by assumption) | exact Sparse.wf_filter (by assumption) | rfl
            | (dsimp only; split) | split))
    | dsimp only)

theorem State.wakePlate_keeps {z s : State} {source p : Nat} (hk : z.Keeps s) :
    z.Keeps (State.wakePlate s source p) := by
  unfold State.wakePlate
  repeat' (first
    | with_reducible assumption | with_reducible exact State.Keeps.refl _ | with_reducible apply State.wr_keeps
    | with_reducible apply State.setPlate_keeps | with_reducible apply State.cancelQuiet_keeps
    | with_reducible apply State.Keeps.ite
    | fail_if_no_progress (first
        | refine State.Keeps.upd ?_ rfl (fun c => { c with })
        | refine State.Keeps.upd ?_ rfl (by
          intro c; cases c; constructor <;> repeat' first
            | assumption | exact Sparse.wf_put (by assumption) | exact Sparse.wf_ins (by assumption)
            | exact Sparse.wf_del (by assumption) | exact Sparse.wf_filter (by assumption) | rfl
            | (dsimp only; split) | split))
    | split | dsimp only)

theorem State.requestWake_keeps {z s : State} {source plates : Nat} (hk : z.Keeps s) :
    z.Keeps (State.requestWake s source plates) := by
  unfold State.requestWake
  repeat' (first
    | with_reducible assumption | with_reducible exact State.Keeps.refl _ | with_reducible apply State.wr_keeps
    | with_reducible apply State.raise_keeps | with_reducible apply State.broadcast_keeps
    | with_reducible apply State.stirRound_keeps | with_reducible apply State.wakePlate_keeps
    | with_reducible apply forUpTo_keeps | with_reducible apply State.Keeps.ite | (intro _ _ _) | (intro _ _) | split
    | dsimp only)

theorem State.wakeDone_keeps {z s : State} {p : Nat} (hk : z.Keeps s) : z.Keeps (State.wakeDone s p) := by
  unfold State.wakeDone
  repeat' (first
    | with_reducible assumption | with_reducible exact State.Keeps.refl _ | with_reducible apply State.wr_keeps
    | with_reducible apply State.wrB_keeps
    | fail_if_no_progress (first
        | refine State.Keeps.upd ?_ rfl (fun c => { c with })
        | refine State.Keeps.upd ?_ rfl (by
          intro c; cases c; constructor <;> repeat' first
            | assumption | exact Sparse.wf_put (by assumption) | exact Sparse.wf_ins (by assumption)
            | exact Sparse.wf_del (by assumption) | exact Sparse.wf_filter (by assumption) | rfl
            | (dsimp only; split) | split))
    | split | dsimp only)

theorem execL1Exit_keeps {z s : State} (hk : z.Keeps s) : z.KeepsNext (execL1Exit s) := by
  unfold execL1Exit
  repeat' (first
    | with_reducible assumption | with_reducible exact State.Keeps.refl _ | with_reducible apply State.wr_keeps
    | with_reducible apply State.requestWake_keeps | with_reducible apply State.KeepsNext.next
    | with_reducible apply State.Keeps.ite | split)

theorem execWakeRequestWrite_keeps {z s : State} (fn : Fin 65) (data : Word) (hk : z.Keeps s) :
    z.KeepsNext (execWakeRequestWrite fn data s) := by
  unfold execWakeRequestWrite
  repeat' (first
    | with_reducible assumption | with_reducible exact State.Keeps.refl _
    | with_reducible apply State.mmioWrite_keeps | with_reducible apply State.requestWake_keeps
    | with_reducible apply State.KeepsNext.next | (intro _ _) | dsimp only)

theorem execQuietLapse_keeps {z s : State} (p : Fin 8) (hk : z.Keeps s) : z.KeepsNext (execQuietLapse p s) := by
  unfold execQuietLapse
  repeat' (first
    | with_reducible assumption | with_reducible exact State.Keeps.refl _ | with_reducible apply State.bumpSat_keeps
    | with_reducible apply State.raise_keeps | with_reducible apply State.stirRound_keeps
    | with_reducible apply State.cancelQuiet_keeps | with_reducible apply State.KeepsNext.next
    | with_reducible apply State.Keeps.ite | split | dsimp only)

theorem State.quietIntent_keeps {z s : State} {fn data : Nat} (hk : z.Keeps s) :
    z.Keeps (State.quietIntent s fn data) := by
  unfold State.quietIntent
  repeat' (first
    | with_reducible assumption | with_reducible exact State.Keeps.refl _
    | with_reducible apply State.storeIntent_keeps | with_reducible apply State.Keeps.ite | split)

theorem execQuietHostStateWrite_keeps {z s : State} (fn : Fin 65) (data : Word) (hk : z.Keeps s) :
    z.KeepsNext (execQuietHostStateWrite fn data s) := by
  unfold execQuietHostStateWrite
  repeat' (first
    | with_reducible assumption | with_reducible exact State.Keeps.refl _
    | with_reducible apply State.mmioWrite_keeps | with_reducible apply State.quietIntent_keeps
    | with_reducible apply State.KeepsNext.next | (intro _ _) | dsimp only)

theorem State.siteEvent_keeps {z s : State} {i : Nat} {active : Bool} (hk : z.Keeps s) :
    z.Keeps (State.siteEvent s i active) := by
  unfold State.siteEvent
  repeat' (first
    | with_reducible assumption | with_reducible exact State.Keeps.refl _ | with_reducible apply State.bumpSat_keeps
    | with_reducible apply State.raise_keeps | with_reducible apply State.requestWake_keeps
    | with_reducible apply State.Keeps.ite | split | dsimp only)

theorem State.siteSample_keeps {z s : State} {i : Nat} {pin : Bool} (hk : z.Keeps s) :
    z.Keeps (State.siteSample s i pin) := by
  unfold State.siteSample
  repeat' (first
    | with_reducible assumption | with_reducible exact State.Keeps.refl _ | with_reducible apply State.wr_keeps
    | with_reducible apply State.siteEvent_keeps | with_reducible apply State.Keeps.ite
    | fail_if_no_progress (first
        | refine State.Keeps.upd ?_ rfl (fun c => { c with })
        | refine State.Keeps.upd ?_ rfl (by
          intro c; cases c; constructor <;> repeat' first
            | assumption | exact Sparse.wf_put (by assumption) | exact Sparse.wf_ins (by assumption)
            | exact Sparse.wf_del (by assumption) | exact Sparse.wf_filter (by assumption) | rfl
            | (dsimp only; split) | split))
    | split | dsimp only)

theorem execSiteInSample_keeps {z s : State} (i : Fin 8) (pin : Bool) (hk : z.Keeps s) :
    z.KeepsNext (execSiteInSample i pin s) := by
  unfold execSiteInSample
  repeat' (first
    | with_reducible assumption | with_reducible exact State.Keeps.refl _
    | with_reducible apply State.siteSample_keeps | with_reducible apply State.KeepsNext.next
    | with_reducible apply State.Keeps.ite | split)

theorem execSiteInStuck_keeps {z s : State} (i : Fin 8) (hk : z.Keeps s) : z.KeepsNext (execSiteInStuck i s) := by
  unfold execSiteInStuck
  repeat' (first
    | with_reducible assumption | with_reducible exact State.Keeps.refl _ | with_reducible apply State.wr_keeps
    | with_reducible apply State.bumpSat_keeps | with_reducible apply State.raise_keeps
    | with_reducible apply State.KeepsNext.next | with_reducible apply State.Keeps.ite
    | fail_if_no_progress (first
        | refine State.Keeps.upd ?_ rfl (fun c => { c with })
        | refine State.Keeps.upd ?_ rfl (by
          intro c; cases c; constructor <;> repeat' first
            | assumption | exact Sparse.wf_put (by assumption) | exact Sparse.wf_ins (by assumption)
            | exact Sparse.wf_del (by assumption) | exact Sparse.wf_filter (by assumption) | rfl
            | (dsimp only; split) | split))
    | split | dsimp only)

/-! ### Machine/Blocks.lean -/

theorem State.clearRegs_keeps {z s : State} {lo hi : Nat} {keep : Nat → Bool} (hk : z.Keeps s) : z.Keeps (s.clearRegs lo hi keep) :=
  hk.setRegs Sparse.wf_filter

theorem State.abandonOps_keeps {z s : State} {t : Nat} (hk : z.Keeps s) : z.Keeps (State.abandonOps s t) := by
  unfold State.abandonOps
  repeat' (first
    | with_reducible assumption | with_reducible exact State.Keeps.refl _ | with_reducible apply State.bump_keeps
    | with_reducible apply State.bumpSat_keeps | with_reducible apply State.setRing_keeps
    | with_reducible apply State.raise_keeps | with_reducible apply State.Keeps.ite | (intro _ _) | split
    | dsimp only)

theorem State.eraseHistory_keeps {z s : State} (hk : z.Keeps s) : z.Keeps (State.eraseHistory s) := by
  unfold State.eraseHistory
  repeat' (first
    | with_reducible assumption | with_reducible exact State.Keeps.refl _ | with_reducible apply State.wr_keeps
    | with_reducible apply State.clearRegs_keeps
    | fail_if_no_progress (first
        | refine State.Keeps.upd ?_ rfl (fun c => { c with })
        | refine State.Keeps.upd ?_ rfl (by
          intro c; cases c; constructor <;> repeat' first
            | assumption | exact Sparse.wf_put (by assumption) | exact Sparse.wf_ins (by assumption)
            | exact Sparse.wf_del (by assumption) | exact Sparse.wf_filter (by assumption) | rfl
            | (dsimp only; split) | split))
    | (intro _ _) | dsimp only)

theorem State.bootSenseActivity_keeps {z s : State} (hk : z.Keeps s) : z.Keeps (State.bootSenseActivity s) := by
  unfold State.bootSenseActivity
  repeat' (first
    | with_reducible assumption | with_reducible exact State.Keeps.refl _
    | with_reducible apply State.wdStartState_keeps | with_reducible apply State.clearRegs_keeps
    | with_reducible apply State.eraseHistory_keeps | with_reducible apply forUpTo_keeps
    | with_reducible apply State.Keeps.ite | (intro _ _ _) | (intro _ _) | split | dsimp only)

theorem State.clearPlateActivity_keeps {z s : State} {p : Nat} (hk : z.Keeps s) : z.Keeps (s.clearPlateActivity p) :=
  State.Keeps.upd (t := { s with hatchMem := dropKeys (8192 * p) (8192 * (p + 1)) s.hatchMem })
    (hk.setHatchMem (fun h => Memory.wf_filter h _)) rfl (by
      rintro ⟨⟩
      constructor <;> first
        | (dsimp only; exact forUpTo_wf (α := DmaTen) 8 (by assumption) (fun _ _ h => Sparse.wf_put h))
        | assumption | exact Sparse.wf_put (by assumption) | exact Sparse.wf_del (by assumption)
        | exact Sparse.wf_filter (by assumption) | rfl)

theorem State.plateResetHooks_keeps {z s : State} {p : Nat} (hk : z.Keeps s) :
    z.Keeps (State.plateResetHooks s p) := by
  unfold State.plateResetHooks
  repeat' (first
    | with_reducible assumption | with_reducible exact State.Keeps.refl _
    | with_reducible apply State.wdStartState_keeps | with_reducible apply State.resetPairPlate_keeps
    | fail_if_no_progress (first
        | refine State.Keeps.upd ?_ rfl (fun c => { c with })
        | refine State.Keeps.upd ?_ rfl (by
          intro c; cases c; constructor <;> repeat' first
            | assumption | exact Sparse.wf_put (by assumption) | exact Sparse.wf_ins (by assumption)
            | exact Sparse.wf_del (by assumption) | exact Sparse.wf_filter (by assumption) | rfl
            | (dsimp only; split) | split))
    | (intro _ _) | dsimp only)

theorem State.bootSense_keeps {z s : State} {powerOn : Bool} (hk : z.Keeps s) : z.Keeps (s.bootSense powerOn) := by
  have ha : z.Keeps { s with fuses := s.fusesBlown, draws := s.draws + 2 } :=
    State.Keeps.setDraws (t := { s with fuses := s.fusesBlown }) hk.sense (Nat.le_add_right _ _)
  have hc := State.wr_keeps (b := crB) (r := Reg.crBootStep) (v := 2) (i := 0)
    (State.wr_keeps (b := lcB) (r := Reg.lcNonceHiNonce) (v := Config.freeNat (s.draws + 1)) (i := 0)
      (State.wr_keeps (b := lcB) (r := Reg.lcNonceLoNonce) (v := Config.freeNat s.draws) (i := 0) ha))
  unfold State.bootSense
  exact State.bootSenseActivity_keeps (State.wr_keeps (State.Keeps.ite (State.bumpSat_keeps (State.wr_keeps hc)) hc))

theorem State.clockSourceLost_keeps {z s : State} {c : ClockSrc} (hk : z.Keeps s) :
    z.Keeps (State.clockSourceLost s c) := by
  unfold State.clockSourceLost
  repeat' (first
    | with_reducible assumption | with_reducible exact State.Keeps.refl _ | with_reducible apply State.dropFreq_keeps
    | with_reducible apply State.Keeps.ite | split)

theorem State.startTimebase_keeps {z s : State} (hk : z.Keeps s) : z.Keeps (State.startTimebase s) := by
  unfold State.startTimebase
  repeat' (first
    | with_reducible assumption | with_reducible exact State.Keeps.refl _ | with_reducible apply State.tbBoot_keeps)

theorem State.goOwn_keeps {z s : State} {p : Nat} (hk : z.Keeps s) : z.Keeps (State.goOwn s p) := by
  unfold State.goOwn
  repeat' (first
    | with_reducible assumption | with_reducible exact State.Keeps.refl _ | with_reducible apply State.raise_keeps
    | with_reducible apply State.setTk_keeps
    | fail_if_no_progress (first
        | refine State.Keeps.upd ?_ rfl (fun c => { c with })
        | refine State.Keeps.upd ?_ rfl (by
          intro c; cases c; constructor <;> repeat' first
            | assumption | exact Sparse.wf_put (by assumption) | exact Sparse.wf_ins (by assumption)
            | exact Sparse.wf_del (by assumption) | exact Sparse.wf_filter (by assumption) | rfl
            | (dsimp only; split) | split))
    | dsimp only)

theorem State.tkStarts_keeps {z s : State} {p : Nat} (hk : z.Keeps s) : z.Keeps (State.tkStarts s p) := by
  unfold State.tkStarts
  repeat' (first
    | with_reducible assumption | with_reducible exact State.Keeps.refl _ | with_reducible apply State.goOwn_keeps
    | with_reducible apply State.Keeps.ite | split)

theorem State.clearTraceCounts_keeps {z s : State} {p : Nat} (hk : z.Keeps s) : z.Keeps (s.clearTraceCounts p) :=
  hk.setRegs Sparse.wf_filter

theorem State.wakeFromQuiet_keeps {z s : State} {p : Nat} (hk : z.Keeps s) : z.Keeps (State.wakeFromQuiet s p) := by
  unfold State.wakeFromQuiet
  repeat' (first
    | with_reducible assumption | with_reducible exact State.Keeps.refl _ | with_reducible apply State.wr_keeps
    | with_reducible apply State.setPlate_keeps | with_reducible apply State.setPlateOp_keeps
    | with_reducible apply State.tkStarts_keeps | with_reducible apply State.clearTraceCounts_keeps
    | fail_if_no_progress (first
        | refine State.Keeps.upd ?_ rfl (fun c => { c with })
        | refine State.Keeps.upd ?_ rfl (by
          intro c; cases c; constructor <;> repeat' first
            | assumption | exact Sparse.wf_put (by assumption) | exact Sparse.wf_ins (by assumption)
            | exact Sparse.wf_del (by assumption) | exact Sparse.wf_filter (by assumption) | rfl
            | (dsimp only; split) | split))
    | dsimp only)

theorem State.chipClearActivity_keeps {z s : State} (hk : z.Keeps s) : z.Keeps s.chipClearActivity :=
  State.Keeps.upd (t := { s with hatchMem := [] }) (hk.setHatchMem (fun _ => rfl)) rfl (by
      rintro ⟨⟩
      constructor <;> first
        | assumption | rfl | exact Sparse.wf_filter (Sparse.wf_map (by assumption)))

theorem State.aonClearActivity_keeps {z s : State} (hk : z.Keeps s) : z.Keeps (State.aonClearActivity s) := by
  unfold State.aonClearActivity
  repeat' (first
    | with_reducible assumption | with_reducible exact State.Keeps.refl _
    | fail_if_no_progress (first
        | refine State.Keeps.upd ?_ rfl (fun c => { c with })
        | refine State.Keeps.upd ?_ rfl (by
          intro c; cases c; constructor <;> repeat' first
            | assumption | exact Sparse.wf_put (by assumption) | exact Sparse.wf_ins (by assumption)
            | exact Sparse.wf_del (by assumption) | exact Sparse.wf_filter (by assumption) | rfl
            | (dsimp only; split) | split)))

/-! ### Machine/Reads.lean -/

theorem State.answer_keeps {z s : State} {fn w : Nat} (hk : z.Keeps s) : z.Keeps (State.answer s fn w) := by
  unfold State.answer
  repeat' (first
    | with_reducible assumption | with_reducible exact State.Keeps.refl _ | with_reducible apply State.emit_keeps)

theorem State.readAt_keeps {z s : State} {fn : Nat} {oa : Option Nat} {f : State → Nat × State} (hk : z.Keeps s) (hf :
    ∀ u, z.Keeps u → z.Keeps (f u).2) : z.Keeps (State.readAt s fn oa f) := by
  unfold State.readAt
  repeat' (first
    | with_reducible assumption | with_reducible exact State.Keeps.refl _ | with_reducible apply hf
    | with_reducible apply State.refuseRequest_keeps | with_reducible apply State.countAccess_keeps
    | with_reducible apply State.answer_keeps | split)

theorem State.mmioRead_keeps {z s : State} {fn a : Nat} {f : State → Nat × State} (hk : z.Keeps s) (hf : ∀ u, z.Keeps
    u → z.Keeps (f u).2) : z.Keeps (State.mmioRead s fn a f) := by
  unfold State.mmioRead
  repeat' (first
    | with_reducible assumption | with_reducible exact State.Keeps.refl _ | with_reducible apply hf
    | with_reducible apply State.readAt_keeps | with_reducible apply State.Keeps.ite | split)

end Sys2Proof.Machine
end

