-- ==== Sys2Proof/Laws/KeepsHost.lean ====
section
/-! SUPPORT. Every definition of the host port, freezes, resets, power and the queues that changes the state keeps what `State.Keeps` says, one law each. -/

set_option linter.unusedTactic false
set_option linter.unreachableTactic false

namespace Sys2Proof.Machine

/-! ### Machine/HostPort.lean -/

theorem State.hostPortIntent_keeps {z s : State} {fn data : Nat} (hk : z.Keeps s) :
    z.Keeps (State.hostPortIntent s fn data) := by
  unfold State.hostPortIntent
  repeat' (first
    | with_reducible assumption | with_reducible exact State.Keeps.refl _
    | with_reducible apply State.storeIntent_keeps | with_reducible apply State.Keeps.ite | split)

theorem execHostPortHostStateWrite_keeps {z s : State} (fn : Fin 65) (data : Word) (hk : z.Keeps s) :
    z.KeepsNext (execHostPortHostStateWrite fn data s) := by
  unfold execHostPortHostStateWrite
  repeat' (first
    | with_reducible assumption | with_reducible exact State.Keeps.refl _
    | with_reducible apply State.mmioWrite_keeps | with_reducible apply State.hostPortIntent_keeps
    | with_reducible apply State.KeepsNext.next | (intro _ _) | dsimp only)

theorem State.tenantIntent_keeps {z s : State} {fn t data : Nat} (hk : z.Keeps s) :
    z.Keeps (State.tenantIntent s fn t data) := by
  unfold State.tenantIntent
  repeat' (first
    | with_reducible assumption | with_reducible exact State.Keeps.refl _
    | with_reducible apply State.storeIntent_keeps | with_reducible apply State.Keeps.ite | split)

theorem execTenantHostStateWrite_keeps {z s : State} (fn : Fin 65) (t : Fin 64) (data : Word) (hk : z.Keeps s) :
    z.KeepsNext (execTenantHostStateWrite fn t data s) := by
  unfold execTenantHostStateWrite
  repeat' (first
    | with_reducible assumption | with_reducible exact State.Keeps.refl _
    | with_reducible apply State.mmioWrite_keeps | with_reducible apply State.tenantIntent_keeps
    | with_reducible apply State.KeepsNext.next | (intro _ _) | dsimp only)

theorem State.flrBegin_keeps {z s : State} {fn : Nat} (hk : z.Keeps s) : z.Keeps (State.flrBegin s fn) := by
  unfold State.flrBegin
  repeat' (first
    | with_reducible assumption | with_reducible exact State.Keeps.refl _
    | with_reducible apply State.breakLocksOf_keeps
    | fail_if_no_progress (first
        | refine State.Keeps.upd ?_ rfl (fun c => { c with })
        | refine State.Keeps.upd ?_ rfl (by
          intro c; cases c; constructor <;> repeat' first
            | assumption | exact Sparse.wf_put (by assumption) | exact Sparse.wf_ins (by assumption)
            | exact Sparse.wf_del (by assumption) | exact Sparse.wf_filter (by assumption) | rfl
            | (dsimp only; split) | split)))

theorem State.flrDrain_keeps {z s : State} {fn : Nat} (hk : z.Keeps s) : z.Keeps (State.flrDrain s fn) := by
  unfold State.flrDrain
  repeat' (first
    | with_reducible assumption | with_reducible exact State.Keeps.refl _
    | with_reducible apply State.abandonOps_keeps | with_reducible apply State.Keeps.ite
    | fail_if_no_progress (first
        | refine State.Keeps.upd ?_ rfl (fun c => { c with })
        | refine State.Keeps.upd ?_ rfl (by
          intro c; cases c; constructor <;> repeat' first
            | assumption | exact Sparse.wf_put (by assumption) | exact Sparse.wf_ins (by assumption)
            | exact Sparse.wf_del (by assumption) | exact Sparse.wf_filter (by assumption) | rfl
            | (dsimp only; split) | split))
    | split | dsimp only)

theorem State.clearVfFields_keeps {z s : State} {t : Nat} (hk : z.Keeps s) : z.Keeps (State.clearVfFields s t) := by
  unfold State.clearVfFields
  repeat' (first
    | with_reducible assumption | with_reducible exact State.Keeps.refl _ | with_reducible apply State.wr_keeps)

theorem State.clearMsix_keeps {z s : State} {fn : Nat} (hk : z.Keeps s) : z.Keeps (State.clearMsix s fn) := by
  unfold State.clearMsix
  repeat' (first
    | with_reducible assumption | with_reducible exact State.Keeps.refl _
    | fail_if_no_progress (first
        | refine State.Keeps.upd ?_ rfl (fun c => { c with })
        | refine State.Keeps.upd ?_ rfl (by
          intro c; cases c; constructor <;> repeat' first
            | assumption | exact Sparse.wf_put (by assumption) | exact Sparse.wf_ins (by assumption)
            | exact Sparse.wf_del (by assumption) | exact Sparse.wf_filter (by assumption) | rfl
            | (dsimp only; split) | split)))

theorem State.flrEnd_keeps {z s : State} {fn : Nat} (hk : z.Keeps s) : z.Keeps (State.flrEnd s fn) := by
  unfold State.flrEnd
  repeat' (first
    | with_reducible assumption | with_reducible exact State.Keeps.refl _
    | with_reducible apply State.clearVfFields_keeps | with_reducible apply State.clearMsix_keeps
    | with_reducible apply State.Keeps.ite
    | fail_if_no_progress (first
        | refine State.Keeps.upd ?_ rfl (fun c => { c with })
        | refine State.Keeps.upd ?_ rfl (by
          intro c; cases c; constructor <;> repeat' first
            | assumption | exact Sparse.wf_put (by assumption) | exact Sparse.wf_ins (by assumption)
            | exact Sparse.wf_del (by assumption) | exact Sparse.wf_filter (by assumption) | rfl
            | (dsimp only; split) | split))
    | split | dsimp only)

theorem State.vfStops_keeps {z s : State} {n : Nat} (hk : z.Keeps s) : z.Keeps (State.vfStops s n) := by
  unfold State.vfStops
  repeat' (first
    | with_reducible assumption | with_reducible exact State.Keeps.refl _ | with_reducible apply State.flrBegin_keeps
    | with_reducible apply State.flrDrain_keeps | with_reducible apply State.flrEnd_keeps)

theorem State.vfGone_keeps {z s : State} {n : Nat} (hk : z.Keeps s) : z.Keeps (State.vfGone s n) := by
  unfold State.vfGone
  repeat' (first
    | with_reducible assumption | with_reducible exact State.Keeps.refl _
    | with_reducible apply State.clearMsix_keeps
    | fail_if_no_progress (first
        | refine State.Keeps.upd ?_ rfl (fun c => { c with })
        | refine State.Keeps.upd ?_ rfl (by
          intro c; cases c; constructor <;> repeat' first
            | assumption | exact Sparse.wf_put (by assumption) | exact Sparse.wf_ins (by assumption)
            | exact Sparse.wf_del (by assumption) | exact Sparse.wf_filter (by assumption) | rfl
            | (dsimp only; split) | split)))

theorem State.stopVfs_keeps {z before s : State} (hk : z.Keeps s) : z.Keeps (State.stopVfs before s) :=
  forUpTo_keeps _ hk (fun _ _ hu => State.Keeps.ite (State.vfStops_keeps hu) (State.Keeps.ite (State.vfGone_keeps hu) hu))

theorem State.numVfsEffect_keeps {z s : State} {n : Nat} (hk : z.Keeps s) : z.Keeps (State.numVfsEffect s n) := by
  unfold State.numVfsEffect
  repeat' (first
    | with_reducible assumption | with_reducible exact State.Keeps.refl _ | with_reducible apply State.stopVfs_keeps
    | fail_if_no_progress (first
        | refine State.Keeps.upd ?_ rfl (fun c => { c with })
        | refine State.Keeps.upd ?_ rfl (by
          intro c; cases c; constructor <;> repeat' first
            | assumption | exact Sparse.wf_put (by assumption) | exact Sparse.wf_ins (by assumption)
            | exact Sparse.wf_del (by assumption) | exact Sparse.wf_filter (by assumption) | rfl
            | (dsimp only; split) | split)))

theorem State.cfgRequest_keeps {z s : State} {fn : Nat} {f : State → State} (hk : z.Keeps s) (hf : ∀ u, z.Keeps u →
    z.Keeps (f u)) : z.Keeps (State.cfgRequest s fn f) := by
  unfold State.cfgRequest
  repeat' (first
    | with_reducible assumption | with_reducible exact State.Keeps.refl _ | with_reducible apply hf
    | with_reducible apply State.emit_keeps | with_reducible apply State.refuseRequest_keeps
    | with_reducible apply State.Keeps.ite | split)

theorem execNumvfsWrite_keeps {z s : State} (n : Nat) (hk : z.Keeps s) : z.KeepsNext (execNumvfsWrite n s) := by
  unfold execNumvfsWrite
  repeat' (first
    | with_reducible assumption | with_reducible exact State.Keeps.refl _
    | with_reducible apply State.numVfsEffect_keeps | with_reducible apply State.cfgRequest_keeps
    | with_reducible apply State.KeepsNext.next | (intro _ _) | dsimp only)

theorem State.vfEnableOff_keeps {z s : State} (hk : z.Keeps s) : z.Keeps (State.vfEnableOff s) := by
  unfold State.vfEnableOff
  repeat' (first
    | with_reducible assumption | with_reducible exact State.Keeps.refl _ | with_reducible apply State.raise_keeps
    | with_reducible apply State.stopVfs_keeps | with_reducible apply State.Keeps.ite
    | fail_if_no_progress (first
        | refine State.Keeps.upd ?_ rfl (fun c => { c with })
        | refine State.Keeps.upd ?_ rfl (by
          intro c; cases c; constructor <;> repeat' first
            | assumption | exact Sparse.wf_put (by assumption) | exact Sparse.wf_ins (by assumption)
            | exact Sparse.wf_del (by assumption) | exact Sparse.wf_filter (by assumption) | rfl
            | (dsimp only; split) | split))
    | split)

theorem execVfEnableClear_keeps {z s : State} (hk : z.Keeps s) : z.KeepsNext (execVfEnableClear s) := by
  unfold execVfEnableClear
  repeat' (first
    | with_reducible assumption | with_reducible exact State.Keeps.refl _
    | with_reducible apply State.cfgRequest_keeps | with_reducible apply State.vfEnableOff_keeps
    | with_reducible apply State.KeepsNext.next)

theorem State.vfEnableOn_keeps {z s : State} (hk : z.Keeps s) : z.Keeps (State.vfEnableOn s) := by
  unfold State.vfEnableOn
  repeat' (first
    | with_reducible assumption | with_reducible exact State.Keeps.refl _ | with_reducible apply State.raise_keeps
    | with_reducible apply State.Keeps.ite
    | fail_if_no_progress (first
        | refine State.Keeps.upd ?_ rfl (fun c => { c with })
        | refine State.Keeps.upd ?_ rfl (by
          intro c; cases c; constructor <;> repeat' first
            | assumption | exact Sparse.wf_put (by assumption) | exact Sparse.wf_ins (by assumption)
            | exact Sparse.wf_del (by assumption) | exact Sparse.wf_filter (by assumption) | rfl
            | (dsimp only; split) | split))
    | split)

theorem execVfEnableSet_keeps {z s : State} (hk : z.Keeps s) : z.KeepsNext (execVfEnableSet s) := by
  unfold execVfEnableSet
  repeat' (first
    | with_reducible assumption | with_reducible exact State.Keeps.refl _
    | with_reducible apply State.cfgRequest_keeps | with_reducible apply State.vfEnableOn_keeps
    | with_reducible apply State.KeepsNext.next)

theorem execVfFlr_keeps {z s : State} (t : Fin 64) (hk : z.Keeps s) : z.KeepsNext (execVfFlr t s) := by
  unfold execVfFlr
  repeat' (first
    | with_reducible assumption | with_reducible exact State.Keeps.refl _ | with_reducible apply State.flrBegin_keeps
    | with_reducible apply State.cfgRequest_keeps | with_reducible apply State.KeepsNext.next | (intro _ _)
    | dsimp only)

theorem State.clearVfEnable_keeps {z s : State} (hk : z.Keeps s) : z.Keeps (State.clearVfEnable s) := by
  unfold State.clearVfEnable
  repeat' (first
    | with_reducible assumption | with_reducible exact State.Keeps.refl _ | with_reducible apply State.raise_keeps
    | with_reducible apply State.Keeps.ite
    | fail_if_no_progress (first
        | refine State.Keeps.upd ?_ rfl (fun c => { c with })
        | refine State.Keeps.upd ?_ rfl (by
          intro c; cases c; constructor <;> repeat' first
            | assumption | exact Sparse.wf_put (by assumption) | exact Sparse.wf_ins (by assumption)
            | exact Sparse.wf_del (by assumption) | exact Sparse.wf_filter (by assumption) | rfl
            | (dsimp only; split) | split))
    | split)

theorem State.pfFlrBegin_keeps {z s : State} (hk : z.Keeps s) : z.Keeps (State.pfFlrBegin s) := by
  unfold State.pfFlrBegin
  repeat' (first
    | with_reducible assumption | with_reducible exact State.Keeps.refl _ | with_reducible apply State.flrBegin_keeps
    | with_reducible apply State.clearVfEnable_keeps | with_reducible apply forUpTo_keeps
    | with_reducible apply State.Keeps.ite
    | fail_if_no_progress (first
        | refine State.Keeps.upd ?_ rfl (fun c => { c with })
        | refine State.Keeps.upd ?_ rfl (by
          intro c; cases c; constructor <;> repeat' first
            | assumption | exact Sparse.wf_put (by assumption) | exact Sparse.wf_ins (by assumption)
            | exact Sparse.wf_del (by assumption) | exact Sparse.wf_filter (by assumption) | rfl
            | (dsimp only; split) | split))
    | (intro _ _ _) | (intro _ _) | split | dsimp only)

theorem execPfFlr_keeps {z s : State} (hk : z.Keeps s) : z.KeepsNext (execPfFlr s) := by
  unfold execPfFlr
  repeat' (first
    | with_reducible assumption | with_reducible exact State.Keeps.refl _
    | with_reducible apply State.cfgRequest_keeps | with_reducible apply State.pfFlrBegin_keeps
    | with_reducible apply State.KeepsNext.next)

theorem execFlrDrainComplete_keeps {z s : State} (fn : Fin 65) (hk : z.Keeps s) :
    z.KeepsNext (execFlrDrainComplete fn s) := by
  unfold execFlrDrainComplete
  repeat' (first
    | with_reducible assumption | with_reducible exact State.Keeps.refl _ | with_reducible apply State.flrDrain_keeps
    | with_reducible apply State.KeepsNext.next | with_reducible apply forEach_keeps
    | with_reducible apply State.Keeps.ite | (intro _ _ _) | (intro _ _) | split | dsimp only)

theorem execFlrComplete_keeps {z s : State} (fn : Fin 65) (hk : z.Keeps s) : z.KeepsNext (execFlrComplete fn s) := by
  unfold execFlrComplete
  repeat' (first
    | with_reducible assumption | with_reducible exact State.Keeps.refl _ | with_reducible apply State.raise_keeps
    | with_reducible apply State.flrEnd_keeps | with_reducible apply State.KeepsNext.next
    | with_reducible apply forEach_keeps | with_reducible apply State.Keeps.ite | (intro _ _ _) | (intro _ _) | split
    | dsimp only)

theorem State.sendPending_keeps {z s : State} {fn : Nat} (hk : z.Keeps s) : z.Keeps (State.sendPending s fn) := by
  unfold State.sendPending
  repeat' (first
    | with_reducible assumption | with_reducible exact State.Keeps.refl _ | with_reducible apply State.emit_keeps
    | with_reducible apply State.setVector_keeps | with_reducible apply forUpTo_keeps
    | with_reducible apply State.Keeps.ite | (intro _ _ _) | (intro _ _) | split | dsimp only)

theorem State.toD3hot_keeps {z s : State} (hk : z.Keeps s) : z.Keeps (State.toD3hot s) := by
  unfold State.toD3hot
  repeat' (first
    | with_reducible assumption | with_reducible exact State.Keeps.refl _
    | fail_if_no_progress (first
        | refine State.Keeps.upd ?_ rfl (fun c => { c with })
        | refine State.Keeps.upd ?_ rfl (by
          intro c; cases c; constructor <;> repeat' first
            | assumption | exact Sparse.wf_put (by assumption) | exact Sparse.wf_ins (by assumption)
            | exact Sparse.wf_del (by assumption) | exact Sparse.wf_filter (by assumption) | rfl
            | (dsimp only; split) | split)))

theorem State.toD0_keeps {z s : State} (hk : z.Keeps s) : z.Keeps (State.toD0 s) := by
  unfold State.toD0
  repeat' (first
    | with_reducible assumption | with_reducible exact State.Keeps.refl _
    | with_reducible apply State.sendPending_keeps
    | fail_if_no_progress (first
        | refine State.Keeps.upd ?_ rfl (fun c => { c with })
        | refine State.Keeps.upd ?_ rfl (by
          intro c; cases c; constructor <;> repeat' first
            | assumption | exact Sparse.wf_put (by assumption) | exact Sparse.wf_ins (by assumption)
            | exact Sparse.wf_del (by assumption) | exact Sparse.wf_filter (by assumption) | rfl
            | (dsimp only; split) | split)))

theorem execD3hotEntry_keeps {z s : State} (hk : z.Keeps s) : z.KeepsNext (execD3hotEntry s) := by
  unfold execD3hotEntry
  repeat' (first
    | with_reducible assumption | with_reducible exact State.Keeps.refl _
    | with_reducible apply State.cfgRequest_keeps | with_reducible apply State.toD3hot_keeps
    | with_reducible apply State.KeepsNext.next)

theorem execD0Return_keeps {z s : State} (hk : z.Keeps s) : z.KeepsNext (execD0Return s) := by
  unfold execD0Return
  repeat' (first
    | with_reducible assumption | with_reducible exact State.Keeps.refl _
    | with_reducible apply State.cfgRequest_keeps | with_reducible apply State.toD0_keeps
    | with_reducible apply State.KeepsNext.next)

theorem State.endOp_keeps {z s : State} {t id status doneLen : Nat} (hk : z.Keeps s) :
    z.Keeps (State.endOp s t id status doneLen) := by
  unfold State.endOp
  repeat' (first
    | with_reducible assumption | with_reducible exact State.Keeps.refl _ | with_reducible apply State.setRing_keeps
    | with_reducible apply State.Keeps.ite | (intro _ _) | split | dsimp only)

theorem State.noteTimeout_keeps {z s : State} {t : Nat} (hk : z.Keeps s) : z.Keeps (State.noteTimeout s t) := by
  unfold State.noteTimeout
  repeat' (first
    | with_reducible assumption | with_reducible exact State.Keeps.refl _ | with_reducible apply State.bump_keeps
    | with_reducible apply State.raise_keeps | with_reducible apply State.logAer_keeps)

theorem State.notePoisoned_keeps {z s : State} {fn : Nat} (hk : z.Keeps s) : z.Keeps (State.notePoisoned s fn) := by
  unfold State.notePoisoned
  repeat' (first
    | with_reducible assumption | with_reducible exact State.Keeps.refl _ | with_reducible apply State.bump_keeps
    | with_reducible apply State.logAer_keeps)

theorem State.timeOutAfter_keeps {z s : State} {t idx ns : Nat} (hk : z.Keeps s) :
    z.Keeps (State.timeOutAfter s t idx ns) := by
  unfold State.timeOutAfter
  repeat' (first
    | with_reducible assumption | with_reducible exact State.Keeps.refl _ | with_reducible apply State.endOp_keeps
    | with_reducible apply State.noteTimeout_keeps | with_reducible apply State.Keeps.ite | split)

theorem State.completionTimeoutEffect_keeps {z s : State} {t idx : Nat} (hk : z.Keeps s) :
    z.Keeps (State.completionTimeoutEffect s t idx) := by
  unfold State.completionTimeoutEffect
  repeat' (first
    | with_reducible assumption | with_reducible exact State.Keeps.refl _
    | with_reducible apply State.timeOutAfter_keeps)

theorem State.overdueTimeout_keeps {z s : State} {t idx : Nat} (hk : z.Keeps s) :
    z.Keeps (State.overdueTimeout s t idx) := by
  unfold State.overdueTimeout
  repeat' (first
    | with_reducible assumption | with_reducible exact State.Keeps.refl _
    | with_reducible apply State.timeOutAfter_keeps)

theorem execCompletionTimeout_keeps {z s : State} (t : Fin 64) (idx : Nat) (hk : z.Keeps s) :
    z.KeepsNext (execCompletionTimeout t idx s) := by
  unfold execCompletionTimeout
  repeat' (first
    | with_reducible assumption | with_reducible exact State.Keeps.refl _
    | with_reducible apply State.completionTimeoutEffect_keeps | with_reducible apply State.KeepsNext.next)

theorem execPoisonedTlpReceived_keeps {z s : State} (tlp : RxTlp) (hk : z.Keeps s) :
    z.KeepsNext (execPoisonedTlpReceived tlp s) := by
  unfold execPoisonedTlpReceived
  repeat' (first
    | with_reducible assumption | with_reducible exact State.Keeps.refl _
    | with_reducible apply State.mmioWrite_keeps | with_reducible apply State.endOp_keeps
    | with_reducible apply State.notePoisoned_keeps | with_reducible apply State.KeepsNext.next
    | with_reducible apply State.Keeps.ite | split | dsimp only)

theorem execEcrcError_keeps {z s : State} (tlp : RxTlp) (hk : z.Keeps s) : z.KeepsNext (execEcrcError tlp s) := by
  unfold execEcrcError
  repeat' (first
    | with_reducible assumption | with_reducible exact State.Keeps.refl _ | with_reducible apply State.logAer_keeps
    | with_reducible apply State.mmioWrite_keeps | with_reducible apply State.KeepsNext.next
    | with_reducible apply State.Keeps.ite | split)

theorem execLinkProtocolError_keeps {z s : State} (error : LinkError) (hk : z.Keeps s) :
    z.KeepsNext (execLinkProtocolError error s) := by
  unfold execLinkProtocolError
  repeat' (first
    | with_reducible assumption | with_reducible exact State.Keeps.refl _ | with_reducible apply State.logAer_keeps
    | with_reducible apply State.setOp_keeps | with_reducible apply State.KeepsNext.next
    | with_reducible apply State.Keeps.ite | split | dsimp only)

theorem execMalformedTlp_keeps {z s : State} (overflow : Bool) (hk : z.Keeps s) :
    z.KeepsNext (execMalformedTlp overflow s) := by
  unfold execMalformedTlp
  repeat' (first
    | with_reducible assumption | with_reducible exact State.Keeps.refl _ | with_reducible apply State.logAer_keeps
    | with_reducible apply State.KeepsNext.next | with_reducible apply State.Keeps.ite | split)

theorem execLinkTrained_keeps {z s : State} (width speed : BitVec 4) (hk : z.Keeps s) :
    z.KeepsNext (execLinkTrained width speed s) := by
  unfold execLinkTrained
  repeat' (first
    | with_reducible assumption | with_reducible exact State.Keeps.refl _ | with_reducible apply State.wr_keeps
    | with_reducible apply State.raise_keeps | with_reducible apply State.setOp_keeps
    | with_reducible apply State.KeepsNext.next | with_reducible apply State.Keeps.ite
    | fail_if_no_progress (first
        | refine State.Keeps.upd ?_ rfl (fun c => { c with })
        | refine State.Keeps.upd ?_ rfl (by
          intro c; cases c; constructor <;> repeat' first
            | assumption | exact Sparse.wf_put (by assumption) | exact Sparse.wf_ins (by assumption)
            | exact Sparse.wf_del (by assumption) | exact Sparse.wf_filter (by assumption) | rfl
            | (dsimp only; split) | split))
    | split | dsimp only)

theorem execAspmL1Entry_keeps {z s : State} (hk : z.Keeps s) : z.KeepsNext (execAspmL1Entry s) := by
  unfold execAspmL1Entry
  repeat' (first
    | with_reducible assumption | with_reducible exact State.Keeps.refl _ | with_reducible apply State.wr_keeps
    | with_reducible apply State.KeepsNext.next | with_reducible apply State.Keeps.ite | split)

theorem State.msixUnmaskEffect_keeps {z s : State} {fn vec : Nat} (hk : z.Keeps s) :
    z.Keeps (State.msixUnmaskEffect s fn vec) := by
  unfold State.msixUnmaskEffect
  repeat' (first
    | with_reducible assumption | with_reducible exact State.Keeps.refl _ | with_reducible apply State.emit_keeps
    | with_reducible apply State.setVector_keeps | with_reducible apply State.Keeps.ite | split | dsimp only)

theorem execMsixUnmask_keeps {z s : State} (fn : Fin 65) (vec : Nat) (hk : z.Keeps s) :
    z.KeepsNext (execMsixUnmask fn vec s) := by
  unfold execMsixUnmask
  repeat' (first
    | with_reducible assumption | with_reducible exact State.Keeps.refl _
    | with_reducible apply State.countRepeat_keeps | with_reducible apply State.refuseRequest_keeps
    | with_reducible apply State.msixUnmaskEffect_keeps | with_reducible apply State.KeepsNext.next
    | with_reducible apply State.Keeps.ite | split)

theorem State.vfNoteEffect_keeps {z s : State} {t : Nat} {note : Nat} (hk : z.Keeps s) :
    z.Keeps (State.vfNoteEffect s t note) := by
  unfold State.vfNoteEffect
  repeat' (first
    | with_reducible assumption | with_reducible exact State.Keeps.refl _ | with_reducible apply State.wr_keeps
    | with_reducible apply State.raise_keeps
    | fail_if_no_progress (first
        | refine State.Keeps.upd ?_ rfl (fun c => { c with })
        | refine State.Keeps.upd ?_ rfl (by
          intro c; cases c; constructor <;> repeat' first
            | assumption | exact Sparse.wf_put (by assumption) | exact Sparse.wf_ins (by assumption)
            | exact Sparse.wf_del (by assumption) | exact Sparse.wf_filter (by assumption) | rfl
            | (dsimp only; split) | split))
    | dsimp only)

theorem execVfNoteWrite_keeps {z s : State} (t : Fin 64) (note : Word) (hk : z.Keeps s) :
    z.KeepsNext (execVfNoteWrite t note s) := by
  unfold execVfNoteWrite
  repeat' (first
    | with_reducible assumption | with_reducible exact State.Keeps.refl _
    | with_reducible apply State.mmioWrite_keeps | with_reducible apply State.vfNoteEffect_keeps
    | with_reducible apply State.KeepsNext.next | (intro _ _) | dsimp only)

theorem State.pfNoteEffect_keeps {z s : State} {t : Nat} {note : Nat} (hk : z.Keeps s) :
    z.Keeps (State.pfNoteEffect s t note) := by
  unfold State.pfNoteEffect
  repeat' (first
    | with_reducible assumption | with_reducible exact State.Keeps.refl _ | with_reducible apply State.wr_keeps
    | with_reducible apply State.raise_keeps)

theorem execPfNoteWrite_keeps {z s : State} (t : Fin 64) (note : Word) (hk : z.Keeps s) :
    z.KeepsNext (execPfNoteWrite t note s) := by
  unfold execPfNoteWrite
  repeat' (first
    | with_reducible assumption | with_reducible exact State.Keeps.refl _
    | with_reducible apply State.mmioWrite_keeps | with_reducible apply State.pfNoteEffect_keeps
    | with_reducible apply State.KeepsNext.next | (intro _ _) | dsimp only)

theorem State.pairLoEffect_keeps {z s : State} {p : Pair} (hk : z.Keeps s) : z.Keeps (State.pairLoEffect s p).2 := by
  unfold State.pairLoEffect
  repeat' (first
    | with_reducible assumption | with_reducible exact State.Keeps.refl _
    | fail_if_no_progress (first
        | refine State.Keeps.upd ?_ rfl (fun c => { c with })
        | refine State.Keeps.upd ?_ rfl (by
          intro c; cases c; constructor <;> repeat' first
            | assumption | exact Sparse.wf_put (by assumption) | exact Sparse.wf_ins (by assumption)
            | exact Sparse.wf_del (by assumption) | exact Sparse.wf_filter (by assumption) | rfl
            | (dsimp only; split) | split))
    | dsimp only)

theorem execHpPairLoRead_keeps {z s : State} (fn : Fin 65) (pair : Pair) (hk : z.Keeps s) :
    z.KeepsNext (execHpPairLoRead fn pair s) := by
  unfold execHpPairLoRead
  repeat' (first
    | with_reducible assumption | with_reducible exact State.Keeps.refl _ | with_reducible apply State.mmioRead_keeps
    | with_reducible apply State.pairLoEffect_keeps | with_reducible apply State.KeepsNext.next | (intro _ _)
    | dsimp only)

/-! ### Machine/Freeze.lean -/

theorem State.unfreezeEffect_keeps {z s : State} {fn : Nat} {data : Nat} (hk : z.Keeps s) :
    z.Keeps (State.unfreezeEffect s fn data) := by
  unfold State.unfreezeEffect
  repeat' (first
    | with_reducible assumption | with_reducible exact State.Keeps.refl _ | with_reducible apply State.bumpSat_keeps
    | with_reducible apply State.unfreeze_keeps | with_reducible apply State.dropAllProt_keeps
    | with_reducible apply State.Keeps.ite | split | dsimp only)

theorem execUnfreezeWrite_keeps {z s : State} (fn : Fin 65) (data : Word) (hk : z.Keeps s) :
    z.KeepsNext (execUnfreezeWrite fn data s) := by
  unfold execUnfreezeWrite
  repeat' (first
    | with_reducible assumption | with_reducible exact State.Keeps.refl _
    | with_reducible apply State.mmioWrite_keeps | with_reducible apply State.unfreezeEffect_keeps
    | with_reducible apply State.KeepsNext.next | (intro _ _) | dsimp only)

theorem execPfFreezeExpire_keeps {z s : State} (hk : z.Keeps s) : z.KeepsNext (execPfFreezeExpire s) := by
  unfold execPfFreezeExpire
  repeat' (first
    | with_reducible assumption | with_reducible exact State.Keeps.refl _ | with_reducible apply State.unfreeze_keeps
    | with_reducible apply State.KeepsNext.next | with_reducible apply State.Keeps.ite | split)

theorem State.recordReadEffect_keeps {z s : State} {sel : Option (Fin 16)} (hk : z.Keeps s) :
    z.Keeps (State.recordReadEffect s sel).2 := by
  unfold State.recordReadEffect
  repeat' (first
    | with_reducible assumption | with_reducible exact State.Keeps.refl _
    | fail_if_no_progress (first
        | refine State.Keeps.upd ?_ rfl (fun c => { c with })
        | refine State.Keeps.upd ?_ rfl (by
          intro c; cases c; constructor <;> repeat' first
            | assumption | exact Sparse.wf_put (by assumption) | exact Sparse.wf_ins (by assumption)
            | exact Sparse.wf_del (by assumption) | exact Sparse.wf_filter (by assumption) | rfl
            | (dsimp only; split) | split))
    | split | dsimp only)

theorem execFreezeRecordRead_keeps {z s : State} (fn : Fin 65) (sel : Option (Fin 16)) (hk : z.Keeps s) :
    z.KeepsNext (execFreezeRecordRead fn sel s) := by
  unfold execFreezeRecordRead
  repeat' (first
    | with_reducible assumption | with_reducible exact State.Keeps.refl _ | with_reducible apply State.mmioRead_keeps
    | with_reducible apply State.recordReadEffect_keeps | with_reducible apply State.KeepsNext.next | (intro _ _)
    | dsimp only)

/-! ### Machine/Resets.lean -/

theorem State.keepLockBroken_keeps {z s before : State} {p : Nat} (hk : z.Keeps s) : z.Keeps (s.keepLockBroken p before) :=
  forEach_keeps _ hk (fun _ _ hu => State.wr_keeps hu)

theorem State.endPlateFreezes_keeps {z s : State} {p : Nat} (hk : z.Keeps s) : z.Keeps (s.endPlateFreezes p) :=
  State.Keeps.ite hk (State.raise_keeps (forEach_keeps _ (hk.setFrozen (fun h => ascending_filter h _))
    (fun _ _ hu => State.amendRecord_keeps hu)))

theorem State.clearPlate_keeps {z s : State} {p : Nat} (hk : z.Keeps s) : z.Keeps (State.clearPlate s p) := by
  unfold State.clearPlate
  repeat' (first
    | with_reducible assumption | with_reducible exact State.Keeps.refl _
    | with_reducible apply State.breakLock_keeps | with_reducible apply State.clearRegs_keeps
    | with_reducible apply State.abandonOps_keeps | with_reducible apply State.clearPlateActivity_keeps
    | with_reducible apply State.keepLockBroken_keeps | with_reducible apply State.endPlateFreezes_keeps
    | with_reducible apply forEach_keeps | with_reducible apply forUpTo_keeps | (intro _ _ _) | (intro _ _)
    | dsimp only)

theorem State.recordPlateCause_keeps {z s : State} {p cause : Nat} (hk : z.Keeps s) :
    z.Keeps (State.recordPlateCause s p cause) := by
  unfold State.recordPlateCause
  repeat' (first
    | with_reducible assumption | with_reducible exact State.Keeps.refl _ | with_reducible apply State.wr_keeps
    | with_reducible apply State.bumpSat_keeps)

theorem State.plateReset_keeps {z s : State} {p cause : Nat} (hk : z.Keeps s) :
    z.Keeps (State.plateReset s p cause) := by
  unfold State.plateReset
  repeat' (first
    | with_reducible assumption | with_reducible exact State.Keeps.refl _ | with_reducible apply State.wr_keeps
    | with_reducible apply State.setPlate_keeps | with_reducible apply State.raise_keeps
    | with_reducible apply State.releasePlate_keeps | with_reducible apply State.dropFreq_keeps
    | with_reducible apply State.plateResetHooks_keeps | with_reducible apply State.clearPlate_keeps
    | with_reducible apply State.recordPlateCause_keeps | with_reducible apply State.Keeps.ite
    | fail_if_no_progress (first
        | refine State.Keeps.upd ?_ rfl (fun c => { c with })
        | refine State.Keeps.upd ?_ rfl (by
          intro c; cases c; constructor <;> repeat' first
            | assumption | exact Sparse.wf_put (by assumption) | exact Sparse.wf_ins (by assumption)
            | exact Sparse.wf_del (by assumption) | exact Sparse.wf_filter (by assumption) | rfl
            | (dsimp only; split) | split))
    | split | dsimp only)

theorem State.plateFault_keeps {z s : State} {p cause graver line : Nat} (hk : z.Keeps s) :
    z.Keeps (State.plateFault s p cause graver line) := by
  unfold State.plateFault
  repeat' (first
    | with_reducible assumption | with_reducible exact State.Keeps.refl _ | with_reducible apply State.wr_keeps
    | with_reducible apply State.plateReset_keeps | with_reducible apply State.Keeps.ite | split)

theorem State.breakAonLocks_keeps {z s : State} (hk : z.Keeps s) : z.Keeps (State.breakAonLocks s) := by
  unfold State.breakAonLocks
  repeat' (first
    | with_reducible assumption | with_reducible exact State.Keeps.refl _
    | with_reducible apply State.breakLock_keeps | with_reducible apply forUpTo_keeps | (intro _ _ _) | (intro _ _)
    | dsimp only)

theorem State.recordChipCause_keeps {z s : State} {cause : Nat} (hk : z.Keeps s) :
    z.Keeps (State.recordChipCause s cause) := by
  unfold State.recordChipCause
  repeat' (first
    | with_reducible assumption | with_reducible exact State.Keeps.refl _ | with_reducible apply State.wr_keeps
    | with_reducible apply State.bumpSat_keeps)

theorem State.chipClear_keeps {z s : State} (hk : z.Keeps s) : z.Keeps s.chipClear := by
  unfold State.chipClear
  refine State.chipClearActivity_keeps ?_
  dsimp only
  generalize hc : forEach ((List.range 9).filter (fun c => bitAt (s.breakAonLocks.rd (wdB c) Title.event) evLockBroken))
    (fun i (t : State) => t.wr (wdB i) Title.event (2 ^ evLockBroken))
    (s.breakAonLocks.clearRegs 0 0x4000000 keptByChipReset) = c
  have h : z.Keeps c := by
    rw [← hc]
    exact forEach_keeps _ (State.clearRegs_keeps (State.breakAonLocks_keeps hk)) (fun _ _ hu => State.wr_keeps hu)
  have hd : z.Keeps { { { c with frozen := [] } with frzSeq := 0 } with life := {} } := by
    refine State.Keeps.setLife ((h.setFrozen (fun _ => rfl)).setFrzSeq (fun _ => Nat.zero_le _)) ?_
    intro _ x hx
    cases hx
  refine State.Keeps.upd hd rfl ?_
  intro k
  cases k
  constructor <;> first | assumption | rfl

theorem State.chipReset_keeps {z s : State} {cause : Nat} (hk : z.Keeps s) : z.Keeps (State.chipReset s cause) := by
  unfold State.chipReset
  repeat' (first
    | with_reducible assumption | with_reducible exact State.Keeps.refl _
    | with_reducible apply State.releasePlate_keeps | with_reducible apply State.recordChipCause_keeps
    | with_reducible apply State.chipClear_keeps | with_reducible apply forUpTo_keeps
    | with_reducible apply State.Keeps.ite
    | fail_if_no_progress (first
        | refine State.Keeps.upd ?_ rfl (fun c => { c with })
        | refine State.Keeps.upd ?_ rfl (by
          intro c; cases c; constructor <;> repeat' first
            | assumption | exact Sparse.wf_put (by assumption) | exact Sparse.wf_ins (by assumption)
            | exact Sparse.wf_del (by assumption) | exact Sparse.wf_filter (by assumption) | rfl
            | (dsimp only; split) | split))
    | (intro _ _ _) | (intro _ _) | split | dsimp only)

theorem State.powerOnReset_keeps {z s : State} (hk : z.Keeps s) : z.Keeps s.powerOnReset := by
  unfold State.powerOnReset
  exact State.Keeps.upd (State.aonClearActivity_keeps ((State.chipClear_keeps hk).setRegs (fun _ => rfl))) rfl
    (fun c => { c with })

theorem State.linkReset_keeps {z s : State} (hk : z.Keeps s) : z.Keeps (State.linkReset s) := by
  unfold State.linkReset
  repeat' (first
    | with_reducible assumption | with_reducible exact State.Keeps.refl _ | with_reducible apply State.wr_keeps
    | with_reducible apply State.setOp_keeps | with_reducible apply State.Keeps.ite
    | fail_if_no_progress (first
        | refine State.Keeps.upd ?_ rfl (fun c => { c with })
        | refine State.Keeps.upd ?_ rfl (by
          intro c; cases c; constructor <;> repeat' first
            | assumption | exact Sparse.wf_put (by assumption) | exact Sparse.wf_ins (by assumption)
            | exact Sparse.wf_del (by assumption) | exact Sparse.wf_filter (by assumption) | rfl
            | (dsimp only; split) | split))
    | split | dsimp only)

theorem State.hostPortReset_keeps {z s : State} (hk : z.Keeps s) : z.Keeps (State.hostPortReset s) := by
  unfold State.hostPortReset
  extract_lets t u
  have hu : z.Keeps u :=
    forEach_keeps _ (State.pfFlrBegin_keeps hk) (fun _ _ hv => State.flrEnd_keeps (State.flrDrain_keeps hv))
  clear_value u
  exact State.raise_keeps (State.linkReset_keeps (State.Keeps.upd hu rfl (fun c => { c with vfs := rfl, msix := rfl, aers := rfl })))

theorem State.linkGoesDown_keeps {z s : State} (hk : z.Keeps s) : z.Keeps (State.linkGoesDown s) := by
  unfold State.linkGoesDown
  repeat' (first
    | with_reducible assumption | with_reducible exact State.Keeps.refl _ | with_reducible apply State.bump_keeps
    | with_reducible apply State.raise_keeps | with_reducible apply State.abandonOps_keeps
    | with_reducible apply forUpTo_keeps | with_reducible apply State.Keeps.ite | (intro _ _ _) | (intro _ _) | split
    | dsimp only)

/-! ### Machine/ChanOps.lean -/

theorem State.modChan_keeps {z s : State} {g : Nat} {f : Chan → Chan} (hk : z.Keeps s) :
    z.Keeps (State.modChan s g f) := by
  unfold State.modChan
  repeat' (first
    | with_reducible assumption | with_reducible exact State.Keeps.refl _
    | fail_if_no_progress (first
        | refine State.Keeps.upd ?_ rfl (fun c => { c with })
        | refine State.Keeps.upd ?_ rfl (by
          intro c; cases c; constructor <;> repeat' first
            | assumption | exact Sparse.wf_put (by assumption) | exact Sparse.wf_ins (by assumption)
            | exact Sparse.wf_del (by assumption) | exact Sparse.wf_filter (by assumption) | rfl
            | (dsimp only; split) | split)))

theorem State.setChan_keeps {z s : State} {g : Nat} {c : Chan} (hk : z.Keeps s) : z.Keeps (State.setChan s g c) := by
  unfold State.setChan
  repeat' (first
    | with_reducible assumption | with_reducible exact State.Keeps.refl _
    | fail_if_no_progress (first
        | refine State.Keeps.upd ?_ rfl (fun c => { c with })
        | refine State.Keeps.upd ?_ rfl (by
          intro c; cases c; constructor <;> repeat' first
            | assumption | exact Sparse.wf_put (by assumption) | exact Sparse.wf_ins (by assumption)
            | exact Sparse.wf_del (by assumption) | exact Sparse.wf_filter (by assumption) | rfl
            | (dsimp only; split) | split)))

theorem State.vector2_keeps {z s : State} {t : Nat} (hk : z.Keeps s) : z.Keeps (State.vector2 s t) := by
  unfold State.vector2
  repeat' (first
    | with_reducible assumption | with_reducible exact State.Keeps.refl _ | with_reducible apply State.sendMsix_keeps
    | fail_if_no_progress (first
        | refine State.Keeps.upd ?_ rfl (fun c => { c with })
        | refine State.Keeps.upd ?_ rfl (by
          intro c; cases c; constructor <;> repeat' first
            | assumption | exact Sparse.wf_put (by assumption) | exact Sparse.wf_ins (by assumption)
            | exact Sparse.wf_del (by assumption) | exact Sparse.wf_filter (by assumption) | rfl
            | (dsimp only; split) | split))
    | split)

theorem State.vec2Tick_keeps {z s : State} {p : Nat} (hk : z.Keeps s) : z.Keeps (State.vec2Tick s p) := by
  unfold State.vec2Tick
  repeat' (first
    | with_reducible assumption | with_reducible exact State.Keeps.refl _ | with_reducible apply State.sendMsix_keeps
    | with_reducible apply forUpTo_keeps
    | fail_if_no_progress (first
        | refine State.Keeps.upd ?_ rfl (fun c => { c with })
        | refine State.Keeps.upd ?_ rfl (by
          intro c; cases c; constructor <;> repeat' first
            | assumption | exact Sparse.wf_put (by assumption) | exact Sparse.wf_ins (by assumption)
            | exact Sparse.wf_del (by assumption) | exact Sparse.wf_filter (by assumption) | rfl
            | (dsimp only; split) | split))
    | (intro _ _ _) | (intro _ _) | split | dsimp only)

theorem State.chAssert_keeps {z s : State} {g : Nat} (hk : z.Keeps s) : z.Keeps (State.chAssert s g) := by
  unfold State.chAssert
  repeat' (first
    | with_reducible assumption | with_reducible exact State.Keeps.refl _ | with_reducible apply State.vector2_keeps
    | split)

theorem State.chEvent_keeps {z s : State} {g i : Nat} (hk : z.Keeps s) : z.Keeps (State.chEvent s g i) := by
  unfold State.chEvent
  repeat' (first
    | with_reducible assumption | with_reducible exact State.Keeps.refl _ | with_reducible apply State.wr_keeps
    | with_reducible apply State.chAssert_keeps | with_reducible apply State.Keeps.ite | split | dsimp only)

theorem State.chEnable_keeps {z s : State} {g v : Nat} (hk : z.Keeps s) : z.Keeps (State.chEnable s g v) := by
  unfold State.chEnable
  repeat' (first
    | with_reducible assumption | with_reducible exact State.Keeps.refl _ | with_reducible apply State.wr_keeps
    | with_reducible apply State.chAssert_keeps | with_reducible apply forUpTo_keeps
    | with_reducible apply State.Keeps.ite | (intro _ _ _) | (intro _ _) | split | dsimp only)

theorem State.writeHeader_keeps {z s : State} {g : Nat} (hk : z.Keeps s) : z.Keeps (State.writeHeader s g) := by
  unfold State.writeHeader
  repeat' (first
    | with_reducible assumption | with_reducible exact State.Keeps.refl _ | with_reducible apply State.drawNat_keeps
    | with_reducible apply State.modChan_keeps | (intro _ _) | dsimp only)

theorem State.noteSettled_keeps {z s : State} {g : Nat} (hk : z.Keeps s) : z.Keeps (State.noteSettled s g) := by
  unfold State.noteSettled
  repeat' (first
    | with_reducible assumption | with_reducible exact State.Keeps.refl _ | with_reducible apply State.setChan_keeps
    | with_reducible apply State.chEvent_keeps | with_reducible apply State.Keeps.ite | split | dsimp only)

theorem State.setPath_keeps {z s : State} {g next : Nat} (hk : z.Keeps s) : z.Keeps (State.setPath s g next) := by
  unfold State.setPath
  repeat' (first
    | with_reducible assumption | with_reducible exact State.Keeps.refl _ | with_reducible apply State.wr_keeps
    | with_reducible apply State.Keeps.ite | split)

theorem State.settle_keeps {z s : State} {g next : Nat} (hk : z.Keeps s) : z.Keeps (State.settle s g next) := by
  unfold State.settle
  repeat' (first
    | with_reducible assumption | with_reducible exact State.Keeps.refl _
    | with_reducible apply State.noteSettled_keeps | with_reducible apply State.setPath_keeps)

theorem State.settleGraver_keeps {z s : State} {p i : Nat} (hk : z.Keeps s) : z.Keeps (State.settleGraver s p i) := by
  unfold State.settleGraver
  repeat' (first
    | with_reducible assumption | with_reducible exact State.Keeps.refl _
    | with_reducible apply State.noteSettled_keeps | with_reducible apply forEach_keeps | (intro _ _ _) | (intro _ _)
    | dsimp only)

theorem State.leavePeer_keeps {z s : State} {g : Nat} (hk : z.Keeps s) : z.Keeps (State.leavePeer s g) := by
  unfold State.leavePeer
  repeat' (first
    | with_reducible assumption | with_reducible exact State.Keeps.refl _ | with_reducible apply State.wr_keeps
    | with_reducible apply State.chEvent_keeps | with_reducible apply State.Keeps.ite | split | dsimp only)

theorem State.ask_keeps {z s : State} {q : GrantReq} (hk : z.Keeps s) : z.Keeps (State.ask s q) := by
  unfold State.ask
  repeat' (first
    | with_reducible assumption | with_reducible exact State.Keeps.refl _ | with_reducible apply State.Keeps.ite
    | fail_if_no_progress (first
        | refine State.Keeps.upd ?_ rfl (fun c => { c with })
        | refine State.Keeps.upd ?_ rfl (by
          intro c; cases c; constructor <;> repeat' first
            | assumption | exact Sparse.wf_put (by assumption) | exact Sparse.wf_ins (by assumption)
            | exact Sparse.wf_del (by assumption) | exact Sparse.wf_filter (by assumption) | rfl
            | (dsimp only; split) | split))
    | split)

theorem State.withdraw_keeps {z s : State} {q : GrantReq} (hk : z.Keeps s) : z.Keeps (State.withdraw s q) := by
  unfold State.withdraw
  repeat' (first
    | with_reducible assumption | with_reducible exact State.Keeps.refl _
    | fail_if_no_progress (first
        | refine State.Keeps.upd ?_ rfl (fun c => { c with })
        | refine State.Keeps.upd ?_ rfl (by
          intro c; cases c; constructor <;> repeat' first
            | assumption | exact Sparse.wf_put (by assumption) | exact Sparse.wf_ins (by assumption)
            | exact Sparse.wf_del (by assumption) | exact Sparse.wf_filter (by assumption) | rfl
            | (dsimp only; split) | split)))

/-! ### Machine/Power.lean -/

theorem State.noteCeiling_keeps {z s : State} (hk : z.Keeps s) : z.Keeps (State.noteCeiling s) := by
  unfold State.noteCeiling
  repeat' (first
    | with_reducible assumption | with_reducible exact State.Keeps.refl _ | with_reducible apply State.raise_keeps
    | with_reducible apply State.Keeps.ite | split)

theorem State.ceilingEffect_keeps {z s : State} {fn data : Nat} (hk : z.Keeps s) :
    z.Keeps (State.ceilingEffect s fn data) := by
  unfold State.ceilingEffect
  repeat' (first
    | with_reducible assumption | with_reducible exact State.Keeps.refl _ | with_reducible apply State.wr_keeps
    | with_reducible apply State.noteCeiling_keeps | with_reducible apply State.Keeps.ite | split)

/-! ### Machine/Queues.lean -/

theorem State.setQueue_keeps {z s : State} {p q : Nat} {l : List Entry} (hk : z.Keeps s) :
    z.Keeps (State.setQueue s p q l) := by
  unfold State.setQueue
  repeat' (first
    | with_reducible assumption | with_reducible exact State.Keeps.refl _
    | fail_if_no_progress (first
        | refine State.Keeps.upd ?_ rfl (fun c => { c with })
        | refine State.Keeps.upd ?_ rfl (by
          intro c; cases c; constructor <;> repeat' first
            | assumption | exact Sparse.wf_put (by assumption) | exact Sparse.wf_ins (by assumption)
            | exact Sparse.wf_del (by assumption) | exact Sparse.wf_filter (by assumption) | rfl
            | (dsimp only; split) | split)))

theorem State.setPort_keeps {z s : State} {p : Nat} {v : Port} (hk : z.Keeps s) : z.Keeps (State.setPort s p v) := by
  unfold State.setPort
  repeat' (first
    | with_reducible assumption | with_reducible exact State.Keeps.refl _
    | fail_if_no_progress (first
        | refine State.Keeps.upd ?_ rfl (fun c => { c with })
        | refine State.Keeps.upd ?_ rfl (by
          intro c; cases c; constructor <;> repeat' first
            | assumption | exact Sparse.wf_put (by assumption) | exact Sparse.wf_ins (by assumption)
            | exact Sparse.wf_del (by assumption) | exact Sparse.wf_filter (by assumption) | rfl
            | (dsimp only; split) | split)))

theorem State.drawCell_keeps {z s : State} {p : Nat} (hk : z.Keeps s) : z.Keeps (State.drawCell s p).2 := by
  unfold State.drawCell
  repeat' (first
    | with_reducible assumption | with_reducible exact State.Keeps.refl _ | with_reducible apply State.drawNat_keeps
    | dsimp only)

theorem State.notePool_keeps {z s : State} {p k before : Nat} (hk : z.Keeps s) :
    z.Keeps (State.notePool s p k before) := by
  unfold State.notePool
  repeat' (first
    | with_reducible assumption | with_reducible exact State.Keeps.refl _ | with_reducible apply State.wr_keeps
    | with_reducible apply State.raise_keeps | with_reducible apply State.Keeps.ite | split | dsimp only)

theorem State.noteQueuePeak_keeps {z s : State} {p q : Nat} (hk : z.Keeps s) :
    z.Keeps (State.noteQueuePeak s p q) := by
  unfold State.noteQueuePeak
  repeat' (first
    | with_reducible assumption | with_reducible exact State.Keeps.refl _ | with_reducible apply State.wr_keeps
    | with_reducible apply State.Keeps.ite | split | dsimp only)

theorem State.queueDrop_keeps {z s : State} {p q : Nat} (hk : z.Keeps s) : z.Keeps (State.queueDrop s p q) := by
  unfold State.queueDrop
  repeat' (first
    | with_reducible assumption | with_reducible exact State.Keeps.refl _ | with_reducible apply State.wr_keeps
    | with_reducible apply State.Keeps.ite | split | dsimp only)

theorem State.countRefusal_keeps {z s : State} {p q k c : Nat} (hk : z.Keeps s) :
    z.Keeps (State.countRefusal s p q k c) := by
  unfold State.countRefusal
  repeat' (first
    | with_reducible assumption | with_reducible exact State.Keeps.refl _ | with_reducible apply State.bump_keeps
    | with_reducible apply State.raise_keeps | with_reducible apply State.queueDrop_keeps | split | dsimp only)

theorem State.enqueue_keeps {z s : State} {p q : Nat} {e : Entry} (hk : z.Keeps s) :
    z.Keeps (State.enqueue s p q e) := by
  unfold State.enqueue
  repeat' (first
    | with_reducible assumption | with_reducible exact State.Keeps.refl _ | with_reducible apply State.setQueue_keeps
    | with_reducible apply State.drawCell_keeps | with_reducible apply State.notePool_keeps
    | with_reducible apply State.noteQueuePeak_keeps | dsimp only)

theorem State.commitEntry_keeps {z s : State} {p q : Nat} {e : Entry} (hk : z.Keeps s) :
    z.Keeps (State.commitEntry s p q e).2 := by
  unfold State.commitEntry
  repeat' (first
    | with_reducible assumption | with_reducible exact State.Keeps.refl _
    | with_reducible apply State.countRefusal_keeps | with_reducible apply State.enqueue_keeps | split | dsimp only)

theorem State.countIn_keeps {z s : State} {b k n : Nat} (hk : z.Keeps s) : z.Keeps (State.countIn s b k n) := by
  unfold State.countIn
  repeat' (first
    | with_reducible assumption | with_reducible exact State.Keeps.refl _ | with_reducible apply State.raise_keeps
    | with_reducible apply State.Keeps.ite
    | fail_if_no_progress (first
        | refine State.Keeps.upd ?_ rfl (fun c => { c with })
        | refine State.Keeps.upd ?_ rfl (by
          intro c; cases c; constructor <;> repeat' first
            | assumption | exact Sparse.wf_put (by assumption) | exact Sparse.wf_ins (by assumption)
            | exact Sparse.wf_del (by assumption) | exact Sparse.wf_filter (by assumption) | rfl
            | (dsimp only; split) | split))
    | split | dsimp only)

theorem State.count48_keeps {z s : State} {p : Nat} {slot : Option Nat} {k : Nat} {n : Nat} (hk : z.Keeps s) :
    z.Keeps (State.count48 s p slot k n) := by
  unfold State.count48
  repeat' (first
    | with_reducible assumption | with_reducible exact State.Keeps.refl _ | with_reducible apply State.countIn_keeps
    | split | dsimp only)

theorem State.commitTx_keeps {z s : State} {p tq : Nat} {e : Entry} (hk : z.Keeps s) :
    z.Keeps (State.commitTx s p tq e).2 := by
  unfold State.commitTx
  repeat' (first
    | with_reducible assumption | with_reducible exact State.Keeps.refl _ | with_reducible apply State.setQueue_keeps
    | with_reducible apply State.commitEntry_keeps | with_reducible apply State.count48_keeps
    | with_reducible apply State.Keeps.ite | split | dsimp only)

theorem State.relayOne_keeps {z s : State} {p q : Nat} (hk : z.Keeps s) : z.Keeps (State.relayOne s p q) := by
  unfold State.relayOne
  repeat' (first
    | with_reducible assumption | with_reducible exact State.Keeps.refl _ | with_reducible apply State.setQueue_keeps
    | with_reducible apply State.noteQueuePeak_keeps | with_reducible apply State.Keeps.ite | split | dsimp only)

theorem execSteeringRelay_keeps {z s : State} (p : Fin 8) (q : Fin 32) (hk : z.Keeps s) :
    z.KeepsNext (execSteeringRelay p q s) := by
  unfold execSteeringRelay
  repeat' (first
    | with_reducible assumption | with_reducible exact State.Keeps.refl _ | with_reducible apply State.relayOne_keeps
    | with_reducible apply State.KeepsNext.next | with_reducible apply forUpTo_keeps | (intro _ _ _) | (intro _ _)
    | dsimp only)

theorem State.flushQueue_keeps {z s : State} {p q : Nat} (hk : z.Keeps s) : z.Keeps (State.flushQueue s p q) := by
  unfold State.flushQueue
  repeat' (first
    | with_reducible assumption | with_reducible exact State.Keeps.refl _ | with_reducible apply State.setQueue_keeps
    | with_reducible apply State.Keeps.ite | split)

theorem State.queueOwnerEffect_keeps {z s : State} {p q data : Nat} (hk : z.Keeps s) :
    z.Keeps (State.queueOwnerEffect s p q data) := by
  unfold State.queueOwnerEffect
  repeat' (first
    | with_reducible assumption | with_reducible exact State.Keeps.refl _ | with_reducible apply State.wr_keeps
    | with_reducible apply State.Keeps.ite | split | dsimp only)

theorem execQueueOwnerWrite_keeps {z s : State} (fn : Fin 65) (p : Fin 8) (q : Fin 1024) (data : Word) (hk : z.Keeps
    s) : z.KeepsNext (execQueueOwnerWrite fn p q data s) := by
  unfold execQueueOwnerWrite
  repeat' (first
    | with_reducible assumption | with_reducible exact State.Keeps.refl _
    | with_reducible apply State.mmioWrite_keeps | with_reducible apply State.queueOwnerEffect_keeps
    | with_reducible apply State.KeepsNext.next | (intro _ _) | dsimp only)

theorem State.queueCtrlEffect_keeps {z s : State} {p q data : Nat} (hk : z.Keeps s) :
    z.Keeps (State.queueCtrlEffect s p q data) := by
  unfold State.queueCtrlEffect
  repeat' (first
    | with_reducible assumption | with_reducible exact State.Keeps.refl _ | with_reducible apply State.wr_keeps
    | with_reducible apply State.flushQueue_keeps | with_reducible apply State.Keeps.ite | split | dsimp only)

end Sys2Proof.Machine
end

