-- ==== Sys2Proof/Laws/KeepsMedia.lean ====
section
/-! SUPPORT. Every definition of the channels and their media that changes the state keeps what `State.Keeps` says, one law each. -/

set_option linter.unusedTactic false
set_option linter.unreachableTactic false

namespace Sys2Proof.Machine

/-! ### Machine/Signal.lean -/

theorem State.freeSamples_keeps {z s : State} {n : Nat} (hk : z.Keeps s) : z.Keeps (State.freeSamples s n).2 := by
  unfold State.freeSamples
  repeat' (first
    | with_reducible assumption | with_reducible exact State.Keeps.refl _ | with_reducible apply State.drawNat_keeps
    | with_reducible apply forUpTo_keeps | with_reducible apply forUpTo_keeps_snd | (intro _ _ _) | (intro _ _)
    | dsimp only)

theorem State.comfortNoise_keeps {z s : State} {e : NoiseEst} {level : Int} {n : Nat} (hk : z.Keeps s) :
    z.Keeps (State.comfortNoise s e level n).2.2 := by
  unfold State.comfortNoise
  repeat' (first
    | with_reducible assumption | with_reducible exact State.Keeps.refl _
    | with_reducible apply State.freeSamples_keeps | with_reducible apply State.Keeps.ite | (intro _ _) | split
    | dsimp only)

/-! ### Machine/Tones.lean -/

theorem State.decideV_keeps {z s : State} {v : Verdict} (hk : z.Keeps s) : z.Keeps (s.decideV v).2 := by
  cases v with
  | yes => exact hk
  | no => exact hk
  | open_ => exact State.drawBool_keeps hk

theorem State.dtmfFrame_keeps {z s : State} {h : Heard} (hk : z.Keeps s) : z.Keeps (State.dtmfFrame s h).2 := by
  unfold State.dtmfFrame
  repeat' (first
    | with_reducible assumption | with_reducible exact State.Keeps.refl _ | with_reducible apply State.drawBool_keeps
    | with_reducible apply State.Keeps.ite | (intro _ _) | split | dsimp only)

theorem State.dtmfStep_keeps {z s : State} {d : DtmfDet} {h : Heard} (hk : z.Keeps s) :
    z.Keeps (State.dtmfStep s d h).2.2 := by
  unfold State.dtmfStep
  repeat' (first
    | with_reducible assumption | with_reducible exact State.Keeps.refl _ | with_reducible apply State.decideV_keeps
    | with_reducible apply State.dtmfFrame_keeps | with_reducible apply State.Keeps.ite | split | dsimp only)

theorem State.cptStep_keeps {z s : State} {d : CptDet} {n minDb : Nat} {c : CptCfg} {h : Heard} (hk : z.Keeps s) :
    z.Keeps (State.cptStep s d n minDb c h).2.2 := by
  unfold State.cptStep
  repeat' (first
    | with_reducible assumption | with_reducible exact State.Keeps.refl _ | with_reducible apply State.decideV_keeps
    | with_reducible apply State.Keeps.ite | split | dsimp only)

theorem State.faxTone_keeps {z s : State} {p : Tone → Verdict} {ms code turn : Nat} {h : Heard} (hk : z.Keeps s) :
    z.Keeps (State.faxTone s p ms code turn h).2.2 := by
  unfold State.faxTone
  repeat' (first
    | with_reducible assumption | with_reducible exact State.Keeps.refl _ | with_reducible apply State.decideV_keeps
    | with_reducible apply State.Keeps.ite | split | dsimp only)

theorem State.faxStep_keeps {z s : State} {d : FaxDet} {h : Heard} (hk : z.Keeps s) :
    z.Keeps (State.faxStep s d h).2.2 := by
  unfold State.faxStep
  repeat' (first
    | with_reducible assumption | with_reducible exact State.Keeps.refl _ | with_reducible apply State.decideV_keeps
    | with_reducible apply State.faxTone_keeps | with_reducible apply State.Keeps.ite | split | dsimp only)

theorem State.disablerHears_keeps {z s : State} {h : Heard} {l : List Int} (hk : z.Keeps s) :
    z.Keeps (State.disablerHears s h l).2 := by
  unfold State.disablerHears
  repeat' (first
    | with_reducible assumption | with_reducible exact State.Keeps.refl _ | with_reducible apply State.decideV_keeps
    | with_reducible apply State.Keeps.ite | split | dsimp only)

/-! ### Machine/Echo.lean -/

theorem State.setEcho_keeps {z s : State} {g : Nat} {e : Echo} (hk : z.Keeps s) : z.Keeps (State.setEcho s g e) := by
  unfold State.setEcho
  repeat' (first
    | with_reducible assumption | with_reducible exact State.Keeps.refl _
    | fail_if_no_progress (first
        | refine State.Keeps.upd ?_ rfl (fun c => { c with })
        | refine State.Keeps.upd ?_ rfl (by
          intro c; cases c; constructor <;> repeat' first
            | assumption | exact Sparse.wf_put (by assumption) | exact Sparse.wf_ins (by assumption)
            | exact Sparse.wf_del (by assumption) | exact Sparse.wf_filter (by assumption) | rfl
            | (dsimp only; split) | split)))

theorem State.modEcho_keeps {z s : State} {g : Nat} {f : Echo → Echo} (hk : z.Keeps s) :
    z.Keeps (State.modEcho s g f) := by
  unfold State.modEcho
  repeat' (first
    | with_reducible assumption | with_reducible exact State.Keeps.refl _ | with_reducible apply State.setEcho_keeps)

theorem State.reportDb_keeps {z s : State} {b : Nat} {r : Row} {num den : Nat} {offset : Int} (hk : z.Keeps s) :
    z.Keeps (State.reportDb s b r num den offset) := by
  unfold State.reportDb
  repeat' (first
    | with_reducible assumption | with_reducible exact State.Keeps.refl _ | with_reducible apply State.wr_keeps
    | with_reducible apply State.wrS_keeps | with_reducible apply State.drawNat_keeps
    | with_reducible apply State.drawBool_keeps | with_reducible apply State.Keeps.ite | split | dsimp only)

theorem State.fastFreed_keeps {z s : State} {p : Nat} (hk : z.Keeps s) : z.Keeps (State.fastFreed s p) := by
  unfold State.fastFreed
  repeat' (first
    | with_reducible assumption | with_reducible exact State.Keeps.refl _
    | fail_if_no_progress (first
        | refine State.Keeps.upd ?_ rfl (fun c => { c with })
        | refine State.Keeps.upd ?_ rfl (by
          intro c; cases c; constructor <;> repeat' first
            | assumption | exact Sparse.wf_put (by assumption) | exact Sparse.wf_ins (by assumption)
            | exact Sparse.wf_del (by assumption) | exact Sparse.wf_filter (by assumption) | rfl
            | (dsimp only; split) | split)))

theorem State.releaseBurst_keeps {z s : State} {g : Nat} (hk : z.Keeps s) : z.Keeps (State.releaseBurst s g) := by
  unfold State.releaseBurst
  repeat' (first
    | with_reducible assumption | with_reducible exact State.Keeps.refl _ | with_reducible apply State.wr_keeps
    | with_reducible apply State.withdraw_keeps | with_reducible apply State.setEcho_keeps
    | with_reducible apply State.fastFreed_keeps | with_reducible apply State.Keeps.ite | split | dsimp only)

theorem State.retryWithin_keeps {z s : State} {p : Nat} (hk : z.Keeps s) : z.Keeps (State.retryWithin s p) := by
  unfold State.retryWithin
  repeat' (first
    | with_reducible assumption | with_reducible exact State.Keeps.refl _
    | fail_if_no_progress (first
        | refine State.Keeps.upd ?_ rfl (fun c => { c with })
        | refine State.Keeps.upd ?_ rfl (by
          intro c; cases c; constructor <;> repeat' first
            | assumption | exact Sparse.wf_put (by assumption) | exact Sparse.wf_ins (by assumption)
            | exact Sparse.wf_del (by assumption) | exact Sparse.wf_filter (by assumption) | rfl
            | (dsimp only; split) | split))
    | split)

theorem State.askFast_keeps {z s : State} {g : Nat} (hk : z.Keeps s) : z.Keeps (State.askFast s g) := by
  unfold State.askFast
  repeat' (first
    | with_reducible assumption | with_reducible exact State.Keeps.refl _ | with_reducible apply State.ask_keeps
    | with_reducible apply State.setEcho_keeps | with_reducible apply State.retryWithin_keeps
    | with_reducible apply State.Keeps.ite | split | dsimp only)

theorem State.burstGranted_keeps {z s : State} {g units : Nat} (hk : z.Keeps s) :
    z.Keeps (State.burstGranted s g units) := by
  unfold State.burstGranted
  repeat' (first
    | with_reducible assumption | with_reducible exact State.Keeps.refl _ | with_reducible apply State.wr_keeps
    | with_reducible apply State.setEcho_keeps | with_reducible apply State.fastFreed_keeps
    | with_reducible apply State.Keeps.ite | split | dsimp only)

theorem State.burstRefused_keeps {z s : State} {g : Nat} (hk : z.Keeps s) : z.Keeps (State.burstRefused s g) := by
  unfold State.burstRefused
  repeat' (first
    | with_reducible assumption | with_reducible exact State.Keeps.refl _ | with_reducible apply State.bumpSat_keeps
    | with_reducible apply State.modEcho_keeps | with_reducible apply State.retryWithin_keeps | (intro _ _)
    | dsimp only)

theorem execEcFastRetry_keeps {z s : State} (p : Fin 8) (hk : z.Keeps s) : z.KeepsNext (execEcFastRetry p s) := by
  unfold execEcFastRetry
  repeat' (first
    | with_reducible assumption | with_reducible exact State.Keeps.refl _ | with_reducible apply State.askFast_keeps
    | with_reducible apply State.KeepsNext.next | with_reducible apply forEach_keeps
    | with_reducible apply State.Keeps.ite
    | fail_if_no_progress (first
        | refine State.Keeps.upd ?_ rfl (fun c => { c with })
        | refine State.Keeps.upd ?_ rfl (by
          intro c; cases c; constructor <;> repeat' first
            | assumption | exact Sparse.wf_put (by assumption) | exact Sparse.wf_ins (by assumption)
            | exact Sparse.wf_del (by assumption) | exact Sparse.wf_filter (by assumption) | rfl
            | (dsimp only; split) | split))
    | (intro _ _ _) | (intro _ _) | split | dsimp only)

theorem State.setPhase_keeps {z s : State} {g ph : Nat} (hk : z.Keeps s) : z.Keeps (State.setPhase s g ph) := by
  unfold State.setPhase
  repeat' (first
    | with_reducible assumption | with_reducible exact State.Keeps.refl _ | with_reducible apply State.wr_keeps)

theorem State.zeroTaps_keeps {z s : State} {g : Nat} (hk : z.Keeps s) : z.Keeps (State.zeroTaps s g) := by
  unfold State.zeroTaps
  repeat' (first
    | with_reducible assumption | with_reducible exact State.Keeps.refl _ | with_reducible apply State.modEcho_keeps
    | (intro _ _) | dsimp only)

theorem State.enterAdapting_keeps {z s : State} {g : Nat} (hk : z.Keeps s) : z.Keeps (State.enterAdapting s g) := by
  unfold State.enterAdapting
  repeat' (first
    | with_reducible assumption | with_reducible exact State.Keeps.refl _ | with_reducible apply State.askFast_keeps
    | with_reducible apply State.setPhase_keeps)

theorem State.echoStop_keeps {z s : State} {g : Nat} (hk : z.Keeps s) : z.Keeps (State.echoStop s g) := by
  unfold State.echoStop
  repeat' (first
    | with_reducible assumption | with_reducible exact State.Keeps.refl _ | with_reducible apply State.wr_keeps
    | with_reducible apply State.releaseBurst_keeps | with_reducible apply State.setPhase_keeps
    | with_reducible apply State.Keeps.ite | split)

theorem State.echoStarts_keeps {z s : State} {g : Nat} {active : Bool} (hk : z.Keeps s) :
    z.Keeps (State.echoStarts s g active) := by
  unfold State.echoStarts
  repeat' (first
    | with_reducible assumption | with_reducible exact State.Keeps.refl _ | with_reducible apply State.setPhase_keeps
    | with_reducible apply State.zeroTaps_keeps | with_reducible apply State.enterAdapting_keeps
    | with_reducible apply State.Keeps.ite | split | dsimp only)

theorem State.echoConverges_keeps {z s : State} {g ph : Nat} (hk : z.Keeps s) :
    z.Keeps (State.echoConverges s g ph) := by
  unfold State.echoConverges
  repeat' (first
    | with_reducible assumption | with_reducible exact State.Keeps.refl _ | with_reducible apply State.chEvent_keeps
    | with_reducible apply State.releaseBurst_keeps | with_reducible apply State.setPhase_keeps
    | with_reducible apply State.Keeps.ite | split)

theorem State.echoRefused_keeps {z s : State} {g : Nat} (hk : z.Keeps s) : z.Keeps (State.echoRefused s g) := by
  unfold State.echoRefused
  repeat' (first
    | with_reducible assumption | with_reducible exact State.Keeps.refl _ | with_reducible apply State.modEcho_keeps
    | with_reducible apply State.fastFreed_keeps | with_reducible apply State.setPhase_keeps
    | with_reducible apply State.Keeps.ite | (intro _ _) | split | dsimp only)

theorem State.echoFast_keeps {z s : State} {g : Nat} (hk : z.Keeps s) : z.Keeps (State.echoFast s g) := by
  unfold State.echoFast
  repeat' (first
    | with_reducible assumption | with_reducible exact State.Keeps.refl _ | with_reducible apply State.modEcho_keeps
    | with_reducible apply State.setPhase_keeps | with_reducible apply State.Keeps.ite | (intro _ _) | split
    | dsimp only)

theorem State.echoDiverges_keeps {z s : State} {g : Nat} (hk : z.Keeps s) : z.Keeps (State.echoDiverges s g) := by
  unfold State.echoDiverges
  repeat' (first
    | with_reducible assumption | with_reducible exact State.Keeps.refl _ | with_reducible apply State.bumpSat_keeps
    | with_reducible apply State.chEvent_keeps | with_reducible apply State.zeroTaps_keeps
    | with_reducible apply State.enterAdapting_keeps | with_reducible apply State.Keeps.ite | split)

theorem State.echoReset_keeps {z s : State} {g : Nat} {active : Bool} (hk : z.Keeps s) :
    z.Keeps (State.echoReset s g active) := by
  unfold State.echoReset
  repeat' (first
    | with_reducible assumption | with_reducible exact State.Keeps.refl _ | with_reducible apply State.modEcho_keeps
    | with_reducible apply State.releaseBurst_keeps | with_reducible apply State.setPhase_keeps
    | with_reducible apply State.zeroTaps_keeps | with_reducible apply State.enterAdapting_keeps
    | with_reducible apply State.Keeps.ite | (intro _ _) | split | dsimp only)

theorem State.echoEvents_keeps {z s : State} {g : Nat} {active : Bool} (hk : z.Keeps s) :
    z.Keeps (State.echoEvents s g active) := by
  unfold State.echoEvents
  repeat' (first
    | with_reducible assumption | with_reducible exact State.Keeps.refl _ | with_reducible apply State.echoStop_keeps
    | with_reducible apply State.echoStarts_keeps | with_reducible apply State.echoConverges_keeps
    | with_reducible apply State.echoRefused_keeps | with_reducible apply State.echoFast_keeps
    | with_reducible apply State.echoDiverges_keeps | with_reducible apply State.echoReset_keeps
    | with_reducible apply State.Keeps.ite | split | dsimp only)

theorem execEcFastTimeout_keeps {z s : State} (g : Fin 2048) (hk : z.Keeps s) :
    z.KeepsNext (execEcFastTimeout g s) := by
  unfold execEcFastTimeout
  repeat' (first
    | with_reducible assumption | with_reducible exact State.Keeps.refl _
    | with_reducible apply State.releaseBurst_keeps | with_reducible apply State.setPhase_keeps
    | with_reducible apply State.KeepsNext.next | with_reducible apply State.Keeps.ite | split)

theorem State.setTd_keeps {z s : State} {g : Nat} {bypass nlpOff forced : Bool} (hk : z.Keeps s) :
    z.Keeps (State.setTd s g bypass nlpOff forced) := by
  unfold State.setTd
  repeat' (first
    | with_reducible assumption | with_reducible exact State.Keeps.refl _ | with_reducible apply State.wrB_keeps
    | with_reducible apply State.bumpSat_keeps | with_reducible apply State.chEvent_keeps
    | with_reducible apply State.Keeps.ite | split | dsimp only)

theorem State.tdTick_keeps {z s : State} {g : Nat} (hk : z.Keeps s) : z.Keeps (State.tdTick s g) := by
  unfold State.tdTick
  repeat' (first
    | with_reducible assumption | with_reducible exact State.Keeps.refl _ | with_reducible apply State.setEcho_keeps
    | with_reducible apply State.setTd_keeps | with_reducible apply State.Keeps.ite | split | dsimp only)

theorem State.tdWatch_keeps {z s : State} {g : Nat} {rin sin : List Int} {rinTones sinTones : Heard} (hk : z.Keeps s)
    : z.Keeps (State.tdWatch s g rin sin rinTones sinTones) := by
  unfold State.tdWatch
  repeat' (first
    | with_reducible assumption | with_reducible exact State.Keeps.refl _
    | with_reducible apply State.disablerHears_keeps | with_reducible apply State.modEcho_keeps
    | with_reducible apply State.Keeps.ite | (intro _ _) | split | dsimp only)

theorem execToneDisablerRelease_keeps {z s : State} (g : Fin 2048) (hk : z.Keeps s) :
    z.KeepsNext (execToneDisablerRelease g s) := by
  unfold execToneDisablerRelease
  repeat' (first
    | with_reducible assumption | with_reducible exact State.Keeps.refl _ | with_reducible apply State.setEcho_keeps
    | with_reducible apply State.KeepsNext.next | with_reducible apply State.Keeps.ite | split | dsimp only)

theorem State.freeEstimate_keeps {z s : State} {old : NoiseEst} (hk : z.Keeps s) :
    z.Keeps (State.freeEstimate s old).2 := by
  unfold State.freeEstimate
  repeat' (first
    | with_reducible assumption | with_reducible exact State.Keeps.refl _
    | with_reducible apply State.freeSamples_keeps | dsimp only)

theorem State.freeLevel_keeps {z s : State} {top : Int} (hk : z.Keeps s) : z.Keeps (State.freeLevel s top).2 := by
  unfold State.freeLevel
  repeat' (first
    | with_reducible assumption | with_reducible exact State.Keeps.refl _ | with_reducible apply State.drawNat_keeps
    | dsimp only)

theorem State.noiseFrame_keeps {z s : State} {g : Nat} {quiet : Bool} (hk : z.Keeps s) :
    z.Keeps (State.noiseFrame s g quiet) := by
  unfold State.noiseFrame
  repeat' (first
    | with_reducible assumption | with_reducible exact State.Keeps.refl _ | with_reducible apply State.wrS_keeps
    | with_reducible apply State.modEcho_keeps | with_reducible apply State.freeEstimate_keeps
    | with_reducible apply State.freeLevel_keeps | with_reducible apply State.Keeps.ite | (intro _ _) | split
    | dsimp only)

theorem State.levelReports_keeps {z s : State} {g : Nat} {rin sin : List Int} (hk : z.Keeps s) :
    z.Keeps (State.levelReports s g rin sin) := by
  unfold State.levelReports
  repeat' (first
    | with_reducible assumption | with_reducible exact State.Keeps.refl _ | with_reducible apply State.modEcho_keeps
    | with_reducible apply State.reportDb_keeps | (intro _ _) | dsimp only)

theorem State.erlReports_keeps {z s : State} {g : Nat} (hk : z.Keeps s) : z.Keeps (State.erlReports s g) := by
  unfold State.erlReports
  repeat' (first
    | with_reducible assumption | with_reducible exact State.Keeps.refl _ | with_reducible apply State.wr_keeps
    | with_reducible apply State.reportDb_keeps | with_reducible apply State.Keeps.ite | split | dsimp only)

theorem State.nlpBand_keeps {z s : State} {g : Nat} {x : List Int} (hk : z.Keeps s) :
    z.Keeps (State.nlpBand s g x).2 := by
  unfold State.nlpBand
  repeat' (first
    | with_reducible assumption | with_reducible exact State.Keeps.refl _
    | with_reducible apply State.comfortNoise_keeps | with_reducible apply State.modEcho_keeps | (intro _ _) | split
    | dsimp only)

theorem State.nlpApply_keeps {z s : State} {g : Nat} {was on : Bool} {x : List Int} (hk : z.Keeps s) :
    z.Keeps (State.nlpApply s g was on x).2 := by
  unfold State.nlpApply
  repeat' (first
    | with_reducible assumption | with_reducible exact State.Keeps.refl _ | with_reducible apply State.nlpBand_keeps
    | with_reducible apply State.Keeps.ite | split | dsimp only)

theorem State.echoProcess_keeps {z s : State} {g : Nat} {rin sin high : List Int} {active : Bool} (hk : z.Keeps s) :
    z.Keeps (State.echoProcess s g rin sin high active).2 := by
  unfold State.echoProcess
  repeat' (first
    | with_reducible assumption | with_reducible exact State.Keeps.refl _ | with_reducible apply State.wr_keeps
    | with_reducible apply State.wrB_keeps | with_reducible apply State.setEcho_keeps
    | with_reducible apply State.noiseFrame_keeps | with_reducible apply State.erlReports_keeps
    | with_reducible apply State.nlpApply_keeps | with_reducible apply State.Keeps.ite | split | dsimp only)

theorem State.echoFrame_keeps {z s : State} {g : Nat} {rin sin high : List Int} {rinTones sinTones : Heard} (hk :
    z.Keeps s) : z.Keeps (State.echoFrame s g rin sin high rinTones sinTones).2 := by
  unfold State.echoFrame
  repeat' (first
    | with_reducible assumption | with_reducible exact State.Keeps.refl _ | with_reducible apply State.modEcho_keeps
    | with_reducible apply State.echoEvents_keeps | with_reducible apply State.tdTick_keeps
    | with_reducible apply State.tdWatch_keeps | with_reducible apply State.noiseFrame_keeps
    | with_reducible apply State.levelReports_keeps | with_reducible apply State.echoProcess_keeps
    | with_reducible apply State.Keeps.ite | (intro _ _) | split | dsimp only)

theorem execDoubleTalkHangEnd_keeps {z s : State} (g : Fin 2048) (hk : z.Keeps s) :
    z.KeepsNext (execDoubleTalkHangEnd g s) := by
  unfold execDoubleTalkHangEnd
  repeat' (first
    | with_reducible assumption | with_reducible exact State.Keeps.refl _ | with_reducible apply State.wr_keeps
    | with_reducible apply State.KeepsNext.next | with_reducible apply State.Keeps.ite | split)

theorem State.echoOpen_keeps {z s : State} {g : Nat} {c : EchoCfg} (hk : z.Keeps s) :
    z.Keeps (State.echoOpen s g c) := by
  unfold State.echoOpen
  repeat' (first
    | with_reducible assumption | with_reducible exact State.Keeps.refl _ | with_reducible apply State.setEcho_keeps
    | with_reducible apply State.echoStop_keeps | with_reducible apply State.setTd_keeps | dsimp only)

theorem State.echoModify_keeps {z s : State} {g : Nat} {c : EchoCfg} {old new : ChConfig} (hk : z.Keeps s) :
    z.Keeps (State.echoModify s g c old new) := by
  unfold State.echoModify
  repeat' (first
    | with_reducible assumption | with_reducible exact State.Keeps.refl _ | with_reducible apply State.setEcho_keeps
    | with_reducible apply State.modEcho_keeps | with_reducible apply State.releaseBurst_keeps
    | with_reducible apply State.setPhase_keeps | with_reducible apply State.zeroTaps_keeps
    | with_reducible apply State.echoStop_keeps | with_reducible apply State.setTd_keeps
    | with_reducible apply State.Keeps.ite | (intro _ _) | split | dsimp only)

theorem State.echoClose_keeps {z s : State} {g : Nat} (hk : z.Keeps s) : z.Keeps (State.echoClose s g) := by
  unfold State.echoClose
  repeat' (first
    | with_reducible assumption | with_reducible exact State.Keeps.refl _ | with_reducible apply State.echoStop_keeps)

theorem State.ecCommand_keeps {z s : State} {g data : Nat} (hk : z.Keeps s) : z.Keeps (State.ecCommand s g data) := by
  unfold State.ecCommand
  repeat' (first
    | with_reducible assumption | with_reducible exact State.Keeps.refl _ | with_reducible apply State.modEcho_keeps
    | with_reducible apply State.Keeps.ite | (intro _ _) | split | dsimp only)

theorem execEcResetCoef_keeps {z s : State} (fn : Fin 65) (g : Fin 2048) (hk : z.Keeps s) :
    z.KeepsNext (execEcResetCoef fn g s) := by
  unfold execEcResetCoef
  repeat' (first
    | with_reducible assumption | with_reducible exact State.Keeps.refl _
    | with_reducible apply State.mmioWrite_keeps | with_reducible apply State.ecCommand_keeps
    | with_reducible apply State.KeepsNext.next | (intro _ _) | dsimp only)

theorem execEcTdForce_keeps {z s : State} (fn : Fin 65) (g : Fin 2048) (hk : z.Keeps s) :
    z.KeepsNext (execEcTdForce fn g s) := by
  unfold execEcTdForce
  repeat' (first
    | with_reducible assumption | with_reducible exact State.Keeps.refl _
    | with_reducible apply State.mmioWrite_keeps | with_reducible apply State.ecCommand_keeps
    | with_reducible apply State.KeepsNext.next | (intro _ _) | dsimp only)

theorem execEcTdRelease_keeps {z s : State} (fn : Fin 65) (g : Fin 2048) (hk : z.Keeps s) :
    z.KeepsNext (execEcTdRelease fn g s) := by
  unfold execEcTdRelease
  repeat' (first
    | with_reducible assumption | with_reducible exact State.Keeps.refl _
    | with_reducible apply State.mmioWrite_keeps | with_reducible apply State.ecCommand_keeps
    | with_reducible apply State.KeepsNext.next | (intro _ _) | dsimp only)

theorem State.echoSlip_keeps {z s : State} {g i : Nat} {deleted : Bool} (hk : z.Keeps s) :
    z.Keeps (State.echoSlip s g i deleted) := by
  unfold State.echoSlip
  repeat' (first
    | with_reducible assumption | with_reducible exact State.Keeps.refl _ | with_reducible apply State.modEcho_keeps
    | (intro _ _) | dsimp only)

/-! ### Machine/Speech.lean -/

theorem State.freeBits_keeps {z s : State} {n : Nat} (hk : z.Keeps s) : z.Keeps (State.freeBits s n).2 := by
  unfold State.freeBits
  repeat' (first
    | with_reducible assumption | with_reducible exact State.Keeps.refl _ | with_reducible apply State.drawNat_keeps
    | dsimp only)

theorem State.amrPayload_keeps {z s : State} {wb oa : Bool} {cmr : Nat} {kinds : List (TxFrameKind × Nat)} (hk :
    z.Keeps s) : z.Keeps (State.amrPayload s wb oa cmr kinds).2 := by
  unfold State.amrPayload
  repeat' (first
    | with_reducible assumption | with_reducible exact State.Keeps.refl _ | with_reducible apply State.freeBits_keeps
    | with_reducible apply foldl_keeps | with_reducible apply foldl_keeps_snd | with_reducible apply State.Keeps.ite
    | (intro _ _ _) | (intro _ _) | split | dsimp only)

theorem State.evsType_keeps {z s : State} {mode : Nat} {k : TxFrameKind} (hk : z.Keeps s) : z.Keeps (s.evsType mode k).2 := by
  cases k with
  | sid => exact hk
  | nothing => exact hk
  | speech =>
    dsimp only [State.evsType]
    by_cases h : mode = 0
    · rw [if_pos h]; exact State.drawNat_keeps hk
    · rw [if_neg h]; exact hk

theorem State.evsFrame_keeps {z s : State} {k : TxFrameKind × Nat} (hk : z.Keeps s) :
    z.Keeps (State.evsFrame s k).2 := by
  unfold State.evsFrame
  repeat' (first
    | with_reducible assumption | with_reducible exact State.Keeps.refl _ | with_reducible apply State.freeBits_keeps
    | with_reducible apply State.evsType_keeps | with_reducible apply State.Keeps.ite | split | dsimp only)

theorem State.evsPayload_keeps {z s : State} {nb hf : Bool} {cmr : Nat} {kinds : List (TxFrameKind × Nat)} (hk :
    z.Keeps s) : z.Keeps (State.evsPayload s nb hf cmr kinds).2 := by
  unfold State.evsPayload
  repeat' (first
    | with_reducible assumption | with_reducible exact State.Keeps.refl _ | with_reducible apply State.evsFrame_keeps
    | with_reducible apply foldl_keeps | with_reducible apply foldl_keeps_snd | with_reducible apply State.Keeps.ite
    | (intro _ _ _) | (intro _ _) | split | dsimp only)

theorem State.voicePayload_keeps {z s : State} {codec fmt cmr : Nat} {kinds : List (TxFrameKind × Nat)} (hk : z.Keeps
    s) : z.Keeps (State.voicePayload s codec fmt cmr kinds).2 := by
  unfold State.voicePayload
  repeat' (first
    | with_reducible assumption | with_reducible exact State.Keeps.refl _ | with_reducible apply State.freeBits_keeps
    | with_reducible apply State.amrPayload_keeps | with_reducible apply State.evsPayload_keeps
    | with_reducible apply State.Keeps.ite | (intro _ _) | split | dsimp only)

/-! ### Machine/Jitter.lean -/

theorem State.setJitter_keeps {z s : State} {g : Nat} {j : Jitter} (hk : z.Keeps s) :
    z.Keeps (State.setJitter s g j) := by
  unfold State.setJitter
  repeat' (first
    | with_reducible assumption | with_reducible exact State.Keeps.refl _
    | fail_if_no_progress (first
        | refine State.Keeps.upd ?_ rfl (fun c => { c with })
        | refine State.Keeps.upd ?_ rfl (by
          intro c; cases c; constructor <;> repeat' first
            | assumption | exact Sparse.wf_put (by assumption) | exact Sparse.wf_ins (by assumption)
            | exact Sparse.wf_del (by assumption) | exact Sparse.wf_filter (by assumption) | rfl
            | (dsimp only; split) | split)))

theorem State.modJitter_keeps {z s : State} {g : Nat} {f : Jitter → Jitter} (hk : z.Keeps s) :
    z.Keeps (State.modJitter s g f) := by
  unfold State.modJitter
  repeat' (first
    | with_reducible assumption | with_reducible exact State.Keeps.refl _
    | with_reducible apply State.setJitter_keeps)

theorem State.setMedia_keeps {z s : State} {g : Nat} {m : Media} (hk : z.Keeps s) :
    z.Keeps (State.setMedia s g m) := by
  unfold State.setMedia
  repeat' (first
    | with_reducible assumption | with_reducible exact State.Keeps.refl _
    | fail_if_no_progress (first
        | refine State.Keeps.upd ?_ rfl (fun c => { c with })
        | refine State.Keeps.upd ?_ rfl (by
          intro c; cases c; constructor <;> repeat' first
            | assumption | exact Sparse.wf_put (by assumption) | exact Sparse.wf_ins (by assumption)
            | exact Sparse.wf_del (by assumption) | exact Sparse.wf_filter (by assumption) | rfl
            | (dsimp only; split) | split)))

theorem State.modMedia_keeps {z s : State} {g : Nat} {f : Media → Media} (hk : z.Keeps s) :
    z.Keeps (State.modMedia s g f) := by
  unfold State.modMedia
  repeat' (first
    | with_reducible assumption | with_reducible exact State.Keeps.refl _ | with_reducible apply State.setMedia_keeps)

theorem State.setSig_keeps {z s : State} {g : Nat} {v : Sig} (hk : z.Keeps s) : z.Keeps (State.setSig s g v) := by
  unfold State.setSig
  repeat' (first
    | with_reducible assumption | with_reducible exact State.Keeps.refl _
    | fail_if_no_progress (first
        | refine State.Keeps.upd ?_ rfl (fun c => { c with })
        | refine State.Keeps.upd ?_ rfl (by
          intro c; cases c; constructor <;> repeat' first
            | assumption | exact Sparse.wf_put (by assumption) | exact Sparse.wf_ins (by assumption)
            | exact Sparse.wf_del (by assumption) | exact Sparse.wf_filter (by assumption) | rfl
            | (dsimp only; split) | split)))

theorem State.modSig_keeps {z s : State} {g : Nat} {f : Sig → Sig} (hk : z.Keeps s) :
    z.Keeps (State.modSig s g f) := by
  unfold State.modSig
  repeat' (first
    | with_reducible assumption | with_reducible exact State.Keeps.refl _ | with_reducible apply State.setSig_keeps)

theorem State.dfEdge_keeps {z s : State} {g : Nat} {edge : Bool} (hk : z.Keeps s) :
    z.Keeps (State.dfEdge s g edge) := by
  unfold State.dfEdge
  repeat' (first
    | with_reducible assumption | with_reducible exact State.Keeps.refl _ | with_reducible apply State.wrB_keeps
    | with_reducible apply State.chEvent_keeps | with_reducible apply State.Keeps.ite | split)

theorem State.jbRestart_keeps {z s : State} {g : Nat} {keepEst announce : Bool} (hk : z.Keeps s) :
    z.Keeps (State.jbRestart s g keepEst announce) := by
  unfold State.jbRestart
  repeat' (first
    | with_reducible assumption | with_reducible exact State.Keeps.refl _ | with_reducible apply State.bumpSat_keeps
    | with_reducible apply State.chEvent_keeps | with_reducible apply State.setJitter_keeps
    | with_reducible apply State.modSig_keeps | with_reducible apply State.dfEdge_keeps
    | with_reducible apply State.Keeps.ite | (intro _ _) | split | dsimp only)

theorem State.dfReset_keeps {z s : State} {g : Nat} (hk : z.Keeps s) : z.Keeps (State.dfReset s g) := by
  unfold State.dfReset
  repeat' (first
    | with_reducible assumption | with_reducible exact State.Keeps.refl _
    | with_reducible apply State.modJitter_keeps | with_reducible apply State.dfEdge_keeps | (intro _ _) | dsimp only)

theorem State.jbStart_keeps {z s : State} {g : Nat} {t a : Int} (hk : z.Keeps s) :
    z.Keeps (State.jbStart s g t a) := by
  unfold State.jbStart
  repeat' (first
    | with_reducible assumption | with_reducible exact State.Keeps.refl _
    | with_reducible apply State.setJitter_keeps | with_reducible apply State.modJitter_keeps
    | with_reducible apply State.Keeps.ite | (intro _ _) | split | dsimp only)

theorem State.holdForLate_keeps {z s : State} {g : Nat} {t : Int} (hk : z.Keeps s) :
    z.Keeps (State.holdForLate s g t) := by
  unfold State.holdForLate
  repeat' (first
    | with_reducible assumption | with_reducible exact State.Keeps.refl _ | with_reducible apply State.bumpSat_keeps
    | with_reducible apply State.setJitter_keeps | with_reducible apply State.modSig_keeps
    | with_reducible apply State.Keeps.ite | (intro _ _) | split | dsimp only)

theorem State.jbAccept_keeps {z s : State} {g ts : Nat} {e : Entry} {lens : List VFrame} (hk : z.Keeps s) :
    z.Keeps (State.jbAccept s g ts e lens) := by
  unfold State.jbAccept
  repeat' (first
    | with_reducible assumption | with_reducible exact State.Keeps.refl _ | with_reducible apply State.bumpSat_keeps
    | with_reducible apply State.modJitter_keeps | with_reducible apply State.jbRestart_keeps
    | with_reducible apply State.jbStart_keeps | with_reducible apply State.holdForLate_keeps
    | with_reducible apply foldl_keeps | with_reducible apply foldl_keeps_snd | with_reducible apply State.Keeps.ite
    | (intro _ _ _) | (intro _ _) | split | dsimp only)

theorem State.conceal_keeps {z s : State} {g n : Nat} (hk : z.Keeps s) : z.Keeps (State.conceal s g n).2 := by
  unfold State.conceal
  repeat' (first
    | with_reducible assumption | with_reducible exact State.Keeps.refl _ | with_reducible apply State.drawNat_keeps
    | with_reducible apply State.freeSamples_keeps | with_reducible apply State.setSig_keeps
    | with_reducible apply State.Keeps.ite | (intro _ _) | split | dsimp only)

theorem State.decode_keeps {z s : State} {g : Nat} {f : JFrame} (hk : z.Keeps s) :
    z.Keeps (State.decode s g f).2 := by
  unfold State.decode
  repeat' (first
    | with_reducible assumption | with_reducible exact State.Keeps.refl _
    | with_reducible apply State.freeSamples_keeps | with_reducible apply State.modSig_keeps
    | with_reducible apply State.Keeps.ite | (intro _ _) | split | dsimp only)

theorem State.pushDecoded_keeps {z s : State} {g : Nat} {at_ : Int} {l : List Int} (hk : z.Keeps s) :
    z.Keeps (State.pushDecoded s g at_ l) := by
  unfold State.pushDecoded
  repeat' (first
    | with_reducible assumption | with_reducible exact State.Keeps.refl _ | with_reducible apply State.modSig_keeps
    | with_reducible apply State.Keeps.ite | (intro _ _) | split | dsimp only)

theorem State.missFrame_keeps {z s : State} {g : Nat} {t : Int} {len : Nat} (hk : z.Keeps s) :
    z.Keeps (State.missFrame s g t len) := by
  unfold State.missFrame
  repeat' (first
    | with_reducible assumption | with_reducible exact State.Keeps.refl _ | with_reducible apply State.bumpSat_keeps
    | with_reducible apply State.freeSamples_keeps | with_reducible apply State.modJitter_keeps
    | with_reducible apply State.conceal_keeps | with_reducible apply State.pushDecoded_keeps
    | with_reducible apply State.Keeps.ite | (intro _ _) | split | dsimp only)

theorem State.enterFrames_keeps {z s : State} {g : Nat} {until_ : Int} {n : Nat} (hk : z.Keeps s) :
    z.Keeps (s.enterFrames g until_ n) := by
  induction n generalizing s with
  | zero => exact hk
  | succ n ih =>
    unfold State.enterFrames
    refine State.Keeps.ite hk (ih ?_)
    have hl : ∀ (j : Jitter) (a : Int) (b : Nat), z.Keeps ((s.setJitter g j).missFrame g a b) := fun _ _ _ =>
      State.missFrame_keeps (State.setJitter_keeps hk)
    dsimp only
    split
    · exact State.Keeps.ite (State.pushDecoded_keeps (State.setJitter_keeps (State.decode_keeps hk)))
        (State.Keeps.ite (hl _ _ _) (hl _ _ _))
    · exact hl _ _ _

theorem State.slewRatio_keeps {z s : State} {g : Nat} (hk : z.Keeps s) : z.Keeps (State.slewRatio s g) := by
  unfold State.slewRatio
  repeat' (first
    | with_reducible assumption | with_reducible exact State.Keeps.refl _
    | with_reducible apply State.setJitter_keeps | with_reducible apply State.Keeps.ite | split | dsimp only)

theorem State.skipSamples_keeps {z s : State} {g : Nat} (hk : z.Keeps s) : z.Keeps (State.skipSamples s g) := by
  unfold State.skipSamples
  repeat' (first
    | with_reducible assumption | with_reducible exact State.Keeps.refl _ | with_reducible apply State.modSig_keeps
    | (intro _ _) | dsimp only)

theorem State.insertedFrame_keeps {z s : State} {g : Nat} (hk : z.Keeps s) : z.Keeps (State.insertedFrame s g).2 := by
  unfold State.insertedFrame
  repeat' (first
    | with_reducible assumption | with_reducible exact State.Keeps.refl _ | with_reducible apply State.setSig_keeps
    | with_reducible apply State.conceal_keeps | dsimp only)

theorem State.jbPlay_keeps {z s : State} {g : Nat} (hk : z.Keeps s) : z.Keeps (State.jbPlay s g).2 := by
  unfold State.jbPlay
  repeat' (first
    | with_reducible assumption | with_reducible exact State.Keeps.refl _ | with_reducible apply State.wr_keeps
    | with_reducible apply State.bumpSat_keeps | with_reducible apply State.setJitter_keeps
    | with_reducible apply State.setSig_keeps | with_reducible apply State.conceal_keeps
    | with_reducible apply State.enterFrames_keeps | with_reducible apply State.skipSamples_keeps
    | with_reducible apply State.insertedFrame_keeps | with_reducible apply State.Keeps.ite | split | dsimp only)

theorem State.jbReports_keeps {z s : State} {g : Nat} (hk : z.Keeps s) : z.Keeps (State.jbReports s g) := by
  unfold State.jbReports
  repeat' (first
    | with_reducible assumption | with_reducible exact State.Keeps.refl _ | with_reducible apply State.wr_keeps
    | with_reducible apply State.wrS_keeps | with_reducible apply State.drawRound_keeps
    | with_reducible apply State.Keeps.ite | split | dsimp only)

theorem State.jbCommands_keeps {z s : State} {g : Nat} (hk : z.Keeps s) : z.Keeps (State.jbCommands s g) := by
  unfold State.jbCommands
  repeat' (first
    | with_reducible assumption | with_reducible exact State.Keeps.refl _
    | with_reducible apply State.modJitter_keeps | with_reducible apply State.Keeps.ite | (intro _ _) | split
    | dsimp only)

theorem State.jbFrame_keeps {z s : State} {g : Nat} (hk : z.Keeps s) : z.Keeps (State.jbFrame s g).2 := by
  unfold State.jbFrame
  repeat' (first
    | with_reducible assumption | with_reducible exact State.Keeps.refl _ | with_reducible apply State.wr_keeps
    | with_reducible apply State.jbRestart_keeps | with_reducible apply State.dfReset_keeps
    | with_reducible apply State.slewRatio_keeps | with_reducible apply State.jbPlay_keeps
    | with_reducible apply State.jbReports_keeps | with_reducible apply State.jbCommands_keeps
    | with_reducible apply State.Keeps.ite | split | dsimp only)

theorem State.reestimate_keeps {z s : State} {g : Nat} (hk : z.Keeps s) : z.Keeps (State.reestimate s g) := by
  unfold State.reestimate
  repeat' (first
    | with_reducible assumption | with_reducible exact State.Keeps.refl _
    | with_reducible apply State.drawRound_keeps | with_reducible apply State.setJitter_keeps
    | with_reducible apply State.dfEdge_keeps | with_reducible apply State.Keeps.ite | split | dsimp only)

theorem State.jbSecond_keeps {z s : State} {g : Nat} (hk : z.Keeps s) : z.Keeps (State.jbSecond s g) := by
  unfold State.jbSecond
  repeat' (first
    | with_reducible assumption | with_reducible exact State.Keeps.refl _
    | with_reducible apply State.setJitter_keeps | with_reducible apply State.modJitter_keeps
    | with_reducible apply State.reestimate_keeps | with_reducible apply foldl_keeps
    | with_reducible apply foldl_keeps_snd | with_reducible apply State.Keeps.ite | (intro _ _ _) | (intro _ _)
    | split | dsimp only)

theorem execJitterSecondUpdate_keeps {z s : State} (g : Fin 2048) (hk : z.Keeps s) :
    z.KeepsNext (execJitterSecondUpdate g s) := by
  unfold execJitterSecondUpdate
  repeat' (first
    | with_reducible assumption | with_reducible exact State.Keeps.refl _
    | with_reducible apply State.modJitter_keeps | with_reducible apply State.jbSecond_keeps
    | with_reducible apply State.KeepsNext.next | with_reducible apply State.Keeps.ite | (intro _ _) | split
    | dsimp only)

theorem State.jbCommand_keeps {z s : State} {g data : Nat} (hk : z.Keeps s) : z.Keeps (State.jbCommand s g data) := by
  unfold State.jbCommand
  repeat' (first
    | with_reducible assumption | with_reducible exact State.Keeps.refl _
    | with_reducible apply State.modJitter_keeps | with_reducible apply State.Keeps.ite | (intro _ _) | split
    | dsimp only)

theorem execJbResyncCommand_keeps {z s : State} (fn : Fin 65) (g : Fin 2048) (hk : z.Keeps s) :
    z.KeepsNext (execJbResyncCommand fn g s) := by
  unfold execJbResyncCommand
  repeat' (first
    | with_reducible assumption | with_reducible exact State.Keeps.refl _
    | with_reducible apply State.mmioWrite_keeps | with_reducible apply State.jbCommand_keeps
    | with_reducible apply State.KeepsNext.next | (intro _ _) | dsimp only)

theorem execDfResetCommand_keeps {z s : State} (fn : Fin 65) (g : Fin 2048) (hk : z.Keeps s) :
    z.KeepsNext (execDfResetCommand fn g s) := by
  unfold execDfResetCommand
  repeat' (first
    | with_reducible assumption | with_reducible exact State.Keeps.refl _
    | with_reducible apply State.mmioWrite_keeps | with_reducible apply State.jbCommand_keeps
    | with_reducible apply State.KeepsNext.next | (intro _ _) | dsimp only)

theorem State.jbOpen_keeps {z s : State} {g : Nat} {c : JbCfg} (hk : z.Keeps s) : z.Keeps (State.jbOpen s g c) := by
  unfold State.jbOpen
  repeat' (first
    | with_reducible assumption | with_reducible exact State.Keeps.refl _
    | with_reducible apply State.clearRegs_keeps | with_reducible apply State.setJitter_keeps
    | with_reducible apply State.jbRestart_keeps | (intro _ _) | dsimp only)

theorem State.jbModify_keeps {z s : State} {g : Nat} {c : JbCfg} {restart : Bool} (hk : z.Keeps s) :
    z.Keeps (State.jbModify s g c restart) := by
  unfold State.jbModify
  repeat' (first
    | with_reducible assumption | with_reducible exact State.Keeps.refl _
    | with_reducible apply State.modJitter_keeps | with_reducible apply State.jbRestart_keeps
    | with_reducible apply State.Keeps.ite | (intro _ _) | split | dsimp only)

theorem State.jbClose_keeps {z s : State} {g : Nat} (hk : z.Keeps s) : z.Keeps (State.jbClose s g) := by
  unfold State.jbClose
  repeat' (first
    | with_reducible assumption | with_reducible exact State.Keeps.refl _
    | fail_if_no_progress (first
        | refine State.Keeps.upd ?_ rfl (fun c => { c with })
        | refine State.Keeps.upd ?_ rfl (by
          intro c; cases c; constructor <;> repeat' first
            | assumption | exact Sparse.wf_put (by assumption) | exact Sparse.wf_ins (by assumption)
            | exact Sparse.wf_del (by assumption) | exact Sparse.wf_filter (by assumption) | rfl
            | (dsimp only; split) | split)))

theorem State.jbLost_keeps {z s : State} {g : Nat} (hk : z.Keeps s) : z.Keeps (State.jbLost s g) := by
  unfold State.jbLost
  repeat' (first
    | with_reducible assumption | with_reducible exact State.Keeps.refl _
    | with_reducible apply State.modJitter_keeps | (intro _ _) | dsimp only)

theorem State.jbShift_keeps {z s : State} {g : Nat} {ns : Int} (hk : z.Keeps s) : z.Keeps (State.jbShift s g ns) := by
  unfold State.jbShift
  repeat' (first
    | with_reducible assumption | with_reducible exact State.Keeps.refl _ | with_reducible apply State.setQueue_keeps
    | with_reducible apply State.modJitter_keeps | (intro _ _) | dsimp only)

/-! ### Machine/Media.lean -/

theorem State.codecReport_keeps {z s : State} {g : Nat} (hk : z.Keeps s) : z.Keeps (State.codecReport s g) := by
  unfold State.codecReport
  repeat' (first
    | with_reducible assumption | with_reducible exact State.Keeps.refl _ | with_reducible apply State.wr_keeps)

theorem State.commitPacket_keeps {z s : State} {g : Nat} {portUp : Bool} {payload : List Byte} (hk : z.Keeps s) :
    z.Keeps (State.commitPacket s g portUp payload).2 := by
  unfold State.commitPacket
  repeat' (first
    | with_reducible assumption | with_reducible exact State.Keeps.refl _ | with_reducible apply State.drawNat_keeps
    | with_reducible apply State.commitTx_keeps | with_reducible apply State.setMedia_keeps | split | dsimp only)

theorem State.drawBetween_keeps {z s : State} {lo hi : Nat} (hk : z.Keeps s) :
    z.Keeps (State.drawBetween s lo hi).2 := by
  unfold State.drawBetween
  repeat' (first
    | with_reducible assumption | with_reducible exact State.Keeps.refl _ | with_reducible apply State.drawNat_keeps
    | dsimp only)

theorem State.firstRtp_keeps {z s : State} {g : Nat} (hk : z.Keeps s) : z.Keeps (State.firstRtp s g) := by
  unfold State.firstRtp
  repeat' (first
    | with_reducible assumption | with_reducible exact State.Keeps.refl _ | with_reducible apply State.setMedia_keeps
    | with_reducible apply State.drawBetween_keeps | with_reducible apply State.Keeps.ite | split | dsimp only)

theorem State.sendRtp_keeps {z s : State} {g : Nat} {marker : Bool} {pt ts : Nat} {payload : List Byte} (hk : z.Keeps
    s) : z.Keeps (State.sendRtp s g marker pt ts payload) := by
  unfold State.sendRtp
  repeat' (first
    | with_reducible assumption | with_reducible exact State.Keeps.refl _ | with_reducible apply State.wr_keeps
    | with_reducible apply State.modMedia_keeps | with_reducible apply State.commitPacket_keeps
    | with_reducible apply State.firstRtp_keeps | with_reducible apply State.Keeps.ite | (intro _ _) | split
    | dsimp only)

theorem State.frameKind_keeps {z s : State} {codec run : Nat} {vad : Bool} (hk : z.Keeps s) :
    z.Keeps (State.frameKind s codec run vad).2.2 := by
  unfold State.frameKind
  repeat' (first
    | with_reducible assumption | with_reducible exact State.Keeps.refl _ | with_reducible apply State.drawBool_keeps
    | with_reducible apply State.Keeps.ite | split | dsimp only)

theorem State.frameKinds_keeps {z s : State} {codec : Nat} {vad : Bool} {n run : Nat} (hk : z.Keeps s) :
    z.Keeps (s.frameKinds codec vad n run).2.2 := by
  induction n generalizing s run with
  | zero => exact hk
  | succ n ih =>
    have h := State.frameKind_keeps (codec := codec) (run := run) (vad := vad) hk
    unfold State.frameKinds
    dsimp only
    split
    · exact h
    · exact ih h

theorem State.voicePacket_keeps {z s : State} {g first : Nat} {kinds : List TxFrameKind} {payload : List Byte} (hk :
    z.Keeps s) : z.Keeps (State.voicePacket s g first kinds payload) := by
  unfold State.voicePacket
  repeat' (first
    | with_reducible assumption | with_reducible exact State.Keeps.refl _ | with_reducible apply State.modMedia_keeps
    | with_reducible apply State.sendRtp_keeps | with_reducible apply State.Keeps.ite | (intro _ _) | split
    | dsimp only)

theorem State.encodeFrame_keeps {z s : State} {g : Nat} {x : List Int} (hk : z.Keeps s) :
    z.Keeps (State.encodeFrame s g x) := by
  unfold State.encodeFrame
  repeat' (first
    | with_reducible assumption | with_reducible exact State.Keeps.refl _
    | with_reducible apply State.voicePayload_keeps | with_reducible apply State.setMedia_keeps
    | with_reducible apply State.modMedia_keeps | with_reducible apply State.codecReport_keeps
    | with_reducible apply State.frameKinds_keeps | with_reducible apply State.voicePacket_keeps
    | with_reducible apply State.Keeps.ite | (intro _ _) | split | dsimp only)

theorem State.sendEvent_keeps {z s : State} {g : Nat} {e : EvOut} {marker last : Bool} (hk : z.Keeps s) :
    z.Keeps (State.sendEvent s g e marker last) := by
  unfold State.sendEvent
  repeat' (first
    | with_reducible assumption | with_reducible exact State.Keeps.refl _ | with_reducible apply State.sendRtp_keeps
    | with_reducible apply State.Keeps.ite | split)

theorem State.segmentEvent_keeps {z s : State} {g : Nat} {e : EvOut} (hk : z.Keeps s) :
    z.Keeps (State.segmentEvent s g e).2 := by
  unfold State.segmentEvent
  repeat' (first
    | with_reducible assumption | with_reducible exact State.Keeps.refl _
    | with_reducible apply State.sendEvent_keeps | with_reducible apply State.Keeps.ite | split | dsimp only)

theorem State.beginEvent_keeps {z s : State} {g : Nat} {e : EvOut} (hk : z.Keeps s) :
    z.Keeps (State.beginEvent s g e) := by
  unfold State.beginEvent
  repeat' (first
    | with_reducible assumption | with_reducible exact State.Keeps.refl _ | with_reducible apply State.modMedia_keeps
    | with_reducible apply State.sendEvent_keeps | (intro _ _) | dsimp only)

theorem State.startEvent_keeps {z s : State} {g : Nat} (hk : z.Keeps s) : z.Keeps (State.startEvent s g) := by
  unfold State.startEvent
  repeat' (first
    | with_reducible assumption | with_reducible exact State.Keeps.refl _ | with_reducible apply State.setMedia_keeps
    | with_reducible apply State.beginEvent_keeps | with_reducible apply State.Keeps.ite | split | dsimp only)

theorem State.relayDigit_keeps {z s : State} {g code volume on : Nat} (hk : z.Keeps s) :
    z.Keeps (State.relayDigit s g code volume on) := by
  unfold State.relayDigit
  repeat' (first
    | with_reducible assumption | with_reducible exact State.Keeps.refl _ | with_reducible apply State.setMedia_keeps
    | with_reducible apply State.beginEvent_keeps | with_reducible apply State.Keeps.ite | split | dsimp only)

theorem State.relayEnds_keeps {z s : State} {g on : Nat} (hk : z.Keeps s) : z.Keeps (State.relayEnds s g on) := by
  unfold State.relayEnds
  repeat' (first
    | with_reducible assumption | with_reducible exact State.Keeps.refl _ | with_reducible apply State.modMedia_keeps
    | with_reducible apply State.Keeps.ite | (intro _ _) | split | dsimp only)

theorem State.evSendEffect_keeps {z s : State} {g data : Nat} (hk : z.Keeps s) :
    z.Keeps (State.evSendEffect s g data) := by
  unfold State.evSendEffect
  repeat' (first
    | with_reducible assumption | with_reducible exact State.Keeps.refl _ | with_reducible apply State.modMedia_keeps
    | with_reducible apply State.Keeps.ite | (intro _ _) | split | dsimp only)

theorem execEventSendWrite_keeps {z s : State} (fn : Fin 65) (g : Fin 2048) (data : Word) (hk : z.Keeps s) :
    z.KeepsNext (execEventSendWrite fn g data s) := by
  unfold execEventSendWrite
  repeat' (first
    | with_reducible assumption | with_reducible exact State.Keeps.refl _
    | with_reducible apply State.mmioWrite_keeps | with_reducible apply State.evSendEffect_keeps
    | with_reducible apply State.KeepsNext.next | (intro _ _) | dsimp only)

theorem State.endEvent_keeps {z s : State} {g : Nat} {e : EvOut} (hk : z.Keeps s) :
    z.Keeps (State.endEvent s g e).2 := by
  unfold State.endEvent
  repeat' (first
    | with_reducible assumption | with_reducible exact State.Keeps.refl _
    | with_reducible apply State.sendEvent_keeps | with_reducible apply State.segmentEvent_keeps
    | with_reducible apply State.Keeps.ite | split | dsimp only)

theorem State.sendRtcp_keeps {z s : State} {g : Nat} {bye : Bool} (hk : z.Keeps s) :
    z.Keeps (State.sendRtcp s g bye) := by
  unfold State.sendRtcp
  repeat' (first
    | with_reducible assumption | with_reducible exact State.Keeps.refl _ | with_reducible apply State.bumpSat_keeps
    | with_reducible apply State.setMedia_keeps | with_reducible apply State.modMedia_keeps
    | with_reducible apply State.commitPacket_keeps | with_reducible apply State.drawBetween_keeps
    | with_reducible apply State.Keeps.ite | (intro _ _) | split | dsimp only)

theorem State.takeReport_keeps {z s : State} {g : Nat} {b : List Byte} (hk : z.Keeps s) :
    z.Keeps (State.takeReport s g b) := by
  unfold State.takeReport
  repeat' (first
    | with_reducible assumption | with_reducible exact State.Keeps.refl _ | with_reducible apply State.wr_keeps
    | with_reducible apply State.drawRound_keeps | with_reducible apply State.Keeps.ite | split | dsimp only)

theorem State.takeRtcpPart_keeps {z s : State} {g : Nat} {x : Nat × Nat × List Byte} (hk : z.Keeps s) :
    z.Keeps (State.takeRtcpPart s g x) := by
  unfold State.takeRtcpPart
  repeat' (first
    | with_reducible assumption | with_reducible exact State.Keeps.refl _ | with_reducible apply State.bumpSat_keeps
    | with_reducible apply State.modMedia_keeps | with_reducible apply State.takeReport_keeps
    | with_reducible apply forUpTo_keeps | with_reducible apply forUpTo_keeps_snd
    | with_reducible apply State.Keeps.ite | (intro _ _ _) | (intro _ _) | split | dsimp only)

theorem State.takeRtcp_keeps {z s : State} {g : Nat} {l : List Byte} (hk : z.Keeps s) :
    z.Keeps (State.takeRtcp s g l) := by
  unfold State.takeRtcp
  repeat' (first
    | with_reducible assumption | with_reducible exact State.Keeps.refl _ | with_reducible apply State.bumpSat_keeps
    | with_reducible apply State.takeRtcpPart_keeps | with_reducible apply forEach_keeps
    | with_reducible apply State.Keeps.ite | (intro _ _ _) | (intro _ _) | split | dsimp only)

theorem State.takeEvent_keeps {z s : State} {g ts : Nat} {l : List Byte} (hk : z.Keeps s) :
    z.Keeps (State.takeEvent s g ts l) := by
  unfold State.takeEvent
  repeat' (first
    | with_reducible assumption | with_reducible exact State.Keeps.refl _ | with_reducible apply State.bumpSat_keeps
    | with_reducible apply State.setMedia_keeps | with_reducible apply State.Keeps.ite | split | dsimp only)

theorem execEventPlayTimeout_keeps {z s : State} (g : Fin 2048) (hk : z.Keeps s) :
    z.KeepsNext (execEventPlayTimeout g s) := by
  unfold execEventPlayTimeout
  repeat' (first
    | with_reducible assumption | with_reducible exact State.Keeps.refl _ | with_reducible apply State.setMedia_keeps
    | with_reducible apply State.KeepsNext.next | with_reducible apply State.Keeps.ite | split | dsimp only)

theorem State.badPt_keeps {z s : State} {g : Nat} (hk : z.Keeps s) : z.Keeps (State.badPt s g) := by
  unfold State.badPt
  repeat' (first
    | with_reducible assumption | with_reducible exact State.Keeps.refl _ | with_reducible apply State.bumpSat_keeps
    | with_reducible apply State.chEvent_keeps | with_reducible apply State.modMedia_keeps
    | with_reducible apply State.Keeps.ite | (intro _ _) | split | dsimp only)

theorem State.adoptSsrc_keeps {z s : State} {g : Nat} {old new : Option Nat} (hk : z.Keeps s) :
    z.Keeps (State.adoptSsrc s g old new) := by
  unfold State.adoptSsrc
  repeat' (first
    | with_reducible assumption | with_reducible exact State.Keeps.refl _ | with_reducible apply State.wr_keeps
    | with_reducible apply State.chEvent_keeps | with_reducible apply State.modMedia_keeps
    | with_reducible apply State.jbRestart_keeps | with_reducible apply State.Keeps.ite | (intro _ _) | split
    | dsimp only)

theorem State.takeMedia_keeps {z s : State} {g : Nat} {e : Entry} {rtp payload : List Byte} {voice : Bool} (hk :
    z.Keeps s) : z.Keeps (State.takeMedia s g e rtp payload voice) := by
  unfold State.takeMedia
  repeat' (first
    | with_reducible assumption | with_reducible exact State.Keeps.refl _ | with_reducible apply State.wr_keeps
    | with_reducible apply State.bumpSat_keeps | with_reducible apply State.setMedia_keeps
    | with_reducible apply State.modMedia_keeps | with_reducible apply State.jbAccept_keeps
    | with_reducible apply State.firstRtp_keeps | with_reducible apply State.takeEvent_keeps
    | with_reducible apply State.adoptSsrc_keeps | with_reducible apply State.Keeps.ite | (intro _ _) | split
    | dsimp only)

theorem State.classify_keeps {z s : State} {g : Nat} {e : Entry} (hk : z.Keeps s) :
    z.Keeps (State.classify s g e) := by
  unfold State.classify
  repeat' (first
    | with_reducible assumption | with_reducible exact State.Keeps.refl _ | with_reducible apply State.bumpSat_keeps
    | with_reducible apply State.takeRtcp_keeps | with_reducible apply State.badPt_keeps
    | with_reducible apply State.takeMedia_keeps | with_reducible apply State.Keeps.ite | split | dsimp only)

theorem State.ingress_keeps {z s : State} {g : Nat} (hk : z.Keeps s) : z.Keeps (State.ingress s g) := by
  unfold State.ingress
  repeat' (first
    | with_reducible assumption | with_reducible exact State.Keeps.refl _ | with_reducible apply State.setQueue_keeps
    | with_reducible apply State.classify_keeps | with_reducible apply forEach_keeps
    | with_reducible apply State.Keeps.ite | (intro _ _ _) | (intro _ _) | split | dsimp only)

theorem State.minusDbm_keeps {z s : State} {power : Nat} (hk : z.Keeps s) : z.Keeps (State.minusDbm s power).2 := by
  unfold State.minusDbm
  repeat' (first
    | with_reducible assumption | with_reducible exact State.Keeps.refl _ | with_reducible apply State.drawBool_keeps
    | with_reducible apply State.Keeps.ite | split | dsimp only)

theorem State.toneReport_keeps {z s : State} {g cls : Nat} {pkt : Bool} {level : Nat} {e : ToneEvent} (hk : z.Keeps s)
    : z.Keeps (State.toneReport s g cls pkt level e) := by
  unfold State.toneReport
  repeat' (first
    | with_reducible assumption | with_reducible exact State.Keeps.refl _ | with_reducible apply State.wr_keeps
    | with_reducible apply State.wrB_keeps | with_reducible apply State.bumpSat_keeps
    | with_reducible apply State.chEvent_keeps | with_reducible apply State.Keeps.ite | split | dsimp only)

theorem State.relayTone_keeps {z s : State} {g level : Nat} {e : ToneEvent} (hk : z.Keeps s) :
    z.Keeps (State.relayTone s g level e) := by
  unfold State.relayTone
  repeat' (first
    | with_reducible assumption | with_reducible exact State.Keeps.refl _
    | with_reducible apply State.relayDigit_keeps | with_reducible apply State.relayEnds_keeps
    | with_reducible apply State.Keeps.ite | split)

theorem State.toneReports_keeps {z s : State} {g cls : Nat} {pkt relay : Bool} {l : List ToneEvent} (hk : z.Keeps s) :
    z.Keeps (State.toneReports s g cls pkt relay l) := by
  unfold State.toneReports
  repeat' (first
    | with_reducible assumption | with_reducible exact State.Keeps.refl _ | with_reducible apply State.minusDbm_keeps
    | with_reducible apply State.toneReport_keeps | with_reducible apply State.relayTone_keeps
    | with_reducible apply forEach_keeps | with_reducible apply forEach_keeps_snd
    | with_reducible apply State.Keeps.ite | (intro _ _ _) | (intro _ _) | split | dsimp only)

theorem State.dtmfTick_keeps {z s : State} {g : Nat} {bridge pkt : Heard} (hk : z.Keeps s) :
    z.Keeps (State.dtmfTick s g bridge pkt) := by
  unfold State.dtmfTick
  repeat' (first
    | with_reducible assumption | with_reducible exact State.Keeps.refl _ | with_reducible apply State.dtmfStep_keeps
    | with_reducible apply State.setMedia_keeps | with_reducible apply State.modMedia_keeps
    | with_reducible apply State.toneReports_keeps | with_reducible apply State.Keeps.ite | (intro _ _) | split
    | dsimp only)

theorem State.cptTick_keeps {z s : State} {g : Nat} {bridge pkt : Heard} (hk : z.Keeps s) :
    z.Keeps (State.cptTick s g bridge pkt) := by
  unfold State.cptTick
  repeat' (first
    | with_reducible assumption | with_reducible exact State.Keeps.refl _ | with_reducible apply State.cptStep_keeps
    | with_reducible apply State.modMedia_keeps | with_reducible apply State.toneReports_keeps
    | with_reducible apply forUpTo_keeps | with_reducible apply forUpTo_keeps_snd
    | with_reducible apply State.Keeps.ite | (intro _ _ _) | (intro _ _) | split | dsimp only)

theorem State.faxTick_keeps {z s : State} {g : Nat} {bridge pkt : Heard} (hk : z.Keeps s) :
    z.Keeps (State.faxTick s g bridge pkt) := by
  unfold State.faxTick
  repeat' (first
    | with_reducible assumption | with_reducible exact State.Keeps.refl _ | with_reducible apply State.faxStep_keeps
    | with_reducible apply State.setMedia_keeps | with_reducible apply State.modMedia_keeps
    | with_reducible apply State.toneReports_keeps | with_reducible apply State.Keeps.ite | (intro _ _) | split
    | dsimp only)

theorem State.toneTick_keeps {z s : State} {g : Nat} {bridge pkt : Heard} (hk : z.Keeps s) :
    z.Keeps (State.toneTick s g bridge pkt) := by
  unfold State.toneTick
  repeat' (first
    | with_reducible assumption | with_reducible exact State.Keeps.refl _ | with_reducible apply State.dtmfTick_keeps
    | with_reducible apply State.cptTick_keeps | with_reducible apply State.faxTick_keeps)

theorem State.tgEffect_keeps {z s : State} {fn g data : Nat} (hk : z.Keeps s) :
    z.Keeps (State.tgEffect s fn g data) := by
  unfold State.tgEffect
  repeat' (first
    | with_reducible assumption | with_reducible exact State.Keeps.refl _
    | with_reducible apply State.storeWord_keeps | with_reducible apply State.modMedia_keeps
    | with_reducible apply State.Keeps.ite | (intro _ _) | split | dsimp only)

theorem execToneGenCommand_keeps {z s : State} (fn : Fin 65) (g : Fin 2048) (data : Word) (hk : z.Keeps s) :
    z.KeepsNext (execToneGenCommand fn g data s) := by
  unfold execToneGenCommand
  repeat' (first
    | with_reducible assumption | with_reducible exact State.Keeps.refl _
    | with_reducible apply State.mmioWrite_keeps | with_reducible apply State.tgEffect_keeps
    | with_reducible apply State.KeepsNext.next | (intro _ _) | dsimp only)

theorem State.generated_keeps {z s : State} {g n : Nat} {pr : TgProf} {ms : Nat} (hk : z.Keeps s) :
    z.Keeps (State.generated s g n pr ms).2 := by
  unfold State.generated
  repeat' (first
    | with_reducible assumption | with_reducible exact State.Keeps.refl _ | with_reducible apply State.setSig_keeps
    | with_reducible apply State.Keeps.ite | split | dsimp only)

theorem State.toneGen_keeps {z s : State} {g n : Nat} (hk : z.Keeps s) : z.Keeps (State.toneGen s g n).2 := by
  unfold State.toneGen
  repeat' (first
    | with_reducible assumption | with_reducible exact State.Keeps.refl _ | with_reducible apply State.wr_keeps
    | with_reducible apply State.wrB_keeps | with_reducible apply State.setMedia_keeps
    | with_reducible apply State.modMedia_keeps | with_reducible apply State.modSig_keeps
    | with_reducible apply State.generated_keeps | with_reducible apply State.Keeps.ite | (intro _ _) | split
    | dsimp only)

theorem State.toneCadence_keeps {z s : State} {g : Nat} (hk : z.Keeps s) : z.Keeps (State.toneCadence s g) := by
  unfold State.toneCadence
  repeat' (first
    | with_reducible assumption | with_reducible exact State.Keeps.refl _ | with_reducible apply State.toneGen_keeps)

theorem State.eventPlayed_keeps {z s : State} {g : Nat} {l : List Int} (hk : z.Keeps s) :
    z.Keeps (State.eventPlayed s g l).2 := by
  unfold State.eventPlayed
  repeat' (first
    | with_reducible assumption | with_reducible exact State.Keeps.refl _ | with_reducible apply State.setSig_keeps
    | with_reducible apply State.Keeps.ite | split | dsimp only)

theorem State.initWord_keeps {z s : State} {g : Nat} {auto : Bool} {v : Nat} {r : Row} (hk : z.Keeps s) :
    z.Keeps (State.initWord s g auto v r).2 := by
  unfold State.initWord
  repeat' (first
    | with_reducible assumption | with_reducible exact State.Keeps.refl _ | with_reducible apply State.wr_keeps
    | with_reducible apply State.drawNat_keeps | with_reducible apply State.Keeps.ite | split | dsimp only)

theorem State.mediaOpen_keeps {z s : State} {g : Nat} {c : MediaCfg} (hk : z.Keeps s) :
    z.Keeps (State.mediaOpen s g c) := by
  unfold State.mediaOpen
  repeat' (first
    | with_reducible assumption | with_reducible exact State.Keeps.refl _
    | with_reducible apply State.clearRegs_keeps | with_reducible apply State.setMedia_keeps
    | with_reducible apply State.setSig_keeps | with_reducible apply State.codecReport_keeps
    | with_reducible apply State.initWord_keeps | (intro _ _) | dsimp only)

theorem State.decoderRestart_keeps {z s : State} {g : Nat} (hk : z.Keeps s) : z.Keeps (State.decoderRestart s g) := by
  unfold State.decoderRestart
  repeat' (first
    | with_reducible assumption | with_reducible exact State.Keeps.refl _ | with_reducible apply State.modSig_keeps
    | (intro _ _) | dsimp only)

theorem State.mediaModify_keeps {z s : State} {g : Nat} {c : MediaCfg} {old new : ChConfig} (hk : z.Keeps s) :
    z.Keeps (State.mediaModify s g c old new).2 := by
  unfold State.mediaModify
  repeat' (first
    | with_reducible assumption | with_reducible exact State.Keeps.refl _ | with_reducible apply State.setMedia_keeps
    | with_reducible apply State.codecReport_keeps | with_reducible apply State.relayEnds_keeps
    | with_reducible apply State.decoderRestart_keeps | with_reducible apply State.Keeps.ite | split | dsimp only)

theorem State.lastPacket_keeps {z s : State} {g : Nat} (hk : z.Keeps s) : z.Keeps (State.lastPacket s g) := by
  unfold State.lastPacket
  repeat' (first
    | with_reducible assumption | with_reducible exact State.Keeps.refl _
    | with_reducible apply State.voicePayload_keeps | with_reducible apply State.frameKinds_keeps
    | with_reducible apply State.voicePacket_keeps | with_reducible apply State.Keeps.ite | split | dsimp only)

theorem State.lastEnds_keeps {z s : State} {g : Nat} {e : EvOut} (hk : z.Keeps s) :
    z.Keeps (State.lastEnds s g e) := by
  unfold State.lastEnds
  repeat' (first
    | with_reducible assumption | with_reducible exact State.Keeps.refl _
    | with_reducible apply State.sendEvent_keeps | with_reducible apply State.segmentEvent_keeps
    | with_reducible apply forUpTo_keeps | with_reducible apply forUpTo_keeps_snd | (intro _ _ _) | (intro _ _)
    | dsimp only)

theorem State.mediaClosing_keeps {z s : State} {g : Nat} (hk : z.Keeps s) : z.Keeps (State.mediaClosing s g) := by
  unfold State.mediaClosing
  repeat' (first
    | with_reducible assumption | with_reducible exact State.Keeps.refl _ | with_reducible apply State.wr_keeps
    | with_reducible apply State.modMedia_keeps | with_reducible apply State.sendRtcp_keeps
    | with_reducible apply State.lastPacket_keeps | with_reducible apply State.lastEnds_keeps
    | with_reducible apply forEach_keeps | with_reducible apply State.Keeps.ite | (intro _ _ _) | (intro _ _) | split
    | dsimp only)

theorem State.mediaClose_keeps {z s : State} {g : Nat} (hk : z.Keeps s) : z.Keeps (State.mediaClose s g) := by
  unfold State.mediaClose
  repeat' (first
    | with_reducible assumption | with_reducible exact State.Keeps.refl _
    | fail_if_no_progress (first
        | refine State.Keeps.upd ?_ rfl (fun c => { c with })
        | refine State.Keeps.upd ?_ rfl (by
          intro c; cases c; constructor <;> repeat' first
            | assumption | exact Sparse.wf_put (by assumption) | exact Sparse.wf_ins (by assumption)
            | exact Sparse.wf_del (by assumption) | exact Sparse.wf_filter (by assumption) | rfl
            | (dsimp only; split) | split)))

/-! ### Machine/Tdm.lean -/

theorem State.setHighway_keeps {z s : State} {p : Nat} {v : Highway} (hk : z.Keeps s) :
    z.Keeps (State.setHighway s p v) := by
  unfold State.setHighway
  repeat' (first
    | with_reducible assumption | with_reducible exact State.Keeps.refl _
    | fail_if_no_progress (first
        | refine State.Keeps.upd ?_ rfl (fun c => { c with })
        | refine State.Keeps.upd ?_ rfl (by
          intro c; cases c; constructor <;> repeat' first
            | assumption | exact Sparse.wf_put (by assumption) | exact Sparse.wf_ins (by assumption)
            | exact Sparse.wf_del (by assumption) | exact Sparse.wf_filter (by assumption) | rfl
            | (dsimp only; split) | split)))

theorem State.setThDetail_keeps {z s : State} {p i : Nat} {v : Bool} (hk : z.Keeps s) :
    z.Keeps (State.setThDetail s p i v) := by
  unfold State.setThDetail
  repeat' (first
    | with_reducible assumption | with_reducible exact State.Keeps.refl _ | with_reducible apply State.wr_keeps)

theorem State.driveHighway_keeps {z s : State} {p : Nat} (hk : z.Keeps s) : z.Keeps (State.driveHighway s p) := by
  unfold State.driveHighway
  repeat' (first
    | with_reducible assumption | with_reducible exact State.Keeps.refl _
    | fail_if_no_progress (first
        | refine State.Keeps.upd ?_ rfl (fun c => { c with })
        | refine State.Keeps.upd ?_ rfl (by
          intro c; cases c; constructor <;> repeat' first
            | assumption | exact Sparse.wf_put (by assumption) | exact Sparse.wf_ins (by assumption)
            | exact Sparse.wf_del (by assumption) | exact Sparse.wf_filter (by assumption) | rfl
            | (dsimp only; split) | split))
    | dsimp only)

theorem State.noteCarried_keeps {z s : State} {p : Nat} (hk : z.Keeps s) : z.Keeps (State.noteCarried s p) := by
  unfold State.noteCarried
  repeat' (first
    | with_reducible assumption | with_reducible exact State.Keeps.refl _
    | with_reducible apply State.setHighway_keeps | split | dsimp only)

theorem State.noteBeyond_keeps {z s : State} {p : Nat} (hk : z.Keeps s) : z.Keeps (State.noteBeyond s p) := by
  unfold State.noteBeyond
  repeat' (first
    | with_reducible assumption | with_reducible exact State.Keeps.refl _ | with_reducible apply State.wr_keeps
    | with_reducible apply State.raise_keeps | with_reducible apply State.Keeps.ite | (intro _ _) | split
    | dsimp only)

theorem State.setSpacing_keeps {z s : State} {p : Nat} {rx : Bool} {v : Int} (hk : z.Keeps s) :
    z.Keeps (State.setSpacing s p rx v) := by
  unfold State.setSpacing
  repeat' (first
    | with_reducible assumption | with_reducible exact State.Keeps.refl _
    | with_reducible apply State.setHighway_keeps | with_reducible apply State.Keeps.ite | split | dsimp only)

theorem State.driftSpacings_keeps {z s : State} {p : Nat} {ppb : Int} (hk : z.Keeps s) :
    z.Keeps (State.driftSpacings s p ppb) := by
  unfold State.driftSpacings
  repeat' (first
    | with_reducible assumption | with_reducible exact State.Keeps.refl _
    | with_reducible apply State.setSpacing_keeps)

theorem State.alignStores_keeps {z s : State} {p : Nat} (hk : z.Keeps s) : z.Keeps (State.alignStores s p) := by
  unfold State.alignStores
  repeat' (first
    | with_reducible assumption | with_reducible exact State.Keeps.refl _
    | with_reducible apply State.setSpacing_keeps)

theorem State.clearThDetail_keeps {z s : State} {p : Nat} {clock : Bool} (hk : z.Keeps s) :
    z.Keeps (State.clearThDetail s p clock) := by
  unfold State.clearThDetail
  repeat' (first
    | with_reducible assumption | with_reducible exact State.Keeps.refl _ | with_reducible apply State.wr_keeps
    | with_reducible apply State.raise_keeps | with_reducible apply State.Keeps.ite | split | dsimp only)

theorem State.startHighway_keeps {z s : State} {p : Nat} (hk : z.Keeps s) : z.Keeps (State.startHighway s p) := by
  unfold State.startHighway
  repeat' (first
    | with_reducible assumption | with_reducible exact State.Keeps.refl _ | with_reducible apply State.wr_keeps
    | with_reducible apply State.setOp_keeps | with_reducible apply State.setHighway_keeps
    | with_reducible apply State.driveHighway_keeps | with_reducible apply State.noteBeyond_keeps
    | with_reducible apply State.clearThDetail_keeps | dsimp only)

theorem State.runHighway_keeps {z s : State} {p : Nat} (hk : z.Keeps s) : z.Keeps (State.runHighway s p) := by
  unfold State.runHighway
  repeat' (first
    | with_reducible assumption | with_reducible exact State.Keeps.refl _ | with_reducible apply State.setOp_keeps
    | with_reducible apply State.setHighway_keeps | with_reducible apply State.driveHighway_keeps
    | with_reducible apply State.alignStores_keeps | dsimp only)

theorem State.offHighway_keeps {z s : State} {p : Nat} (hk : z.Keeps s) : z.Keeps (State.offHighway s p) := by
  unfold State.offHighway
  repeat' (first
    | with_reducible assumption | with_reducible exact State.Keeps.refl _ | with_reducible apply State.setOp_keeps
    | with_reducible apply State.driveHighway_keeps | with_reducible apply State.clearThDetail_keeps)

theorem State.noteLoop_keeps {z s : State} {p : Nat} (hk : z.Keeps s) : z.Keeps (State.noteLoop s p) := by
  unfold State.noteLoop
  repeat' (first
    | with_reducible assumption | with_reducible exact State.Keeps.refl _
    | with_reducible apply State.setHighway_keeps | with_reducible apply State.Keeps.ite | split | dsimp only)

theorem State.thIntent_keeps {z s : State} {fn p data : Nat} (hk : z.Keeps s) :
    z.Keeps (State.thIntent s fn p data) := by
  unfold State.thIntent
  repeat' (first
    | with_reducible assumption | with_reducible exact State.Keeps.refl _ | with_reducible apply State.setOp_keeps
    | with_reducible apply State.storeIntent_keeps | with_reducible apply State.setHighway_keeps
    | with_reducible apply State.driveHighway_keeps | with_reducible apply State.startHighway_keeps
    | with_reducible apply State.offHighway_keeps | with_reducible apply State.Keeps.ite | split | dsimp only)

theorem execTdmHostStateWrite_keeps {z s : State} (fn : Fin 65) (p : Fin 8) (data : Word) (hk : z.Keeps s) :
    z.KeepsNext (execTdmHostStateWrite fn p data s) := by
  unfold execTdmHostStateWrite
  repeat' (first
    | with_reducible assumption | with_reducible exact State.Keeps.refl _
    | with_reducible apply State.mmioWrite_keeps | with_reducible apply State.thIntent_keeps
    | with_reducible apply State.KeepsNext.next | (intro _ _) | dsimp only)

theorem execMasterFsStart_keeps {z s : State} (p : Fin 8) (hk : z.Keeps s) : z.KeepsNext (execMasterFsStart p s) := by
  unfold execMasterFsStart
  repeat' (first
    | with_reducible assumption | with_reducible exact State.Keeps.refl _
    | with_reducible apply State.setThDetail_keeps | with_reducible apply State.runHighway_keeps
    | with_reducible apply State.KeepsNext.next | with_reducible apply State.Keeps.ite | split)

theorem execHighwayFreqUpdate_keeps {z s : State} (p : Fin 8) (ppb : Int) (hk : z.Keeps s) :
    z.KeepsNext (execHighwayFreqUpdate p ppb s) := by
  unfold execHighwayFreqUpdate
  repeat' (first
    | with_reducible assumption | with_reducible exact State.Keeps.refl _ | with_reducible apply State.wrS_keeps
    | with_reducible apply State.raise_keeps | with_reducible apply State.setThDetail_keeps
    | with_reducible apply State.driftSpacings_keeps | with_reducible apply State.KeepsNext.next
    | with_reducible apply State.Keeps.ite | split | dsimp only)

theorem execElasticSlip_keeps {z s : State} (p : Fin 8) (rx deleted : Bool) (hk : z.Keeps s) :
    z.KeepsNext (execElasticSlip p rx deleted s) := by
  unfold execElasticSlip
  repeat' (first
    | with_reducible assumption | with_reducible exact State.Keeps.refl _ | with_reducible apply State.bumpSat_keeps
    | with_reducible apply State.raise_keeps | with_reducible apply State.echoSlip_keeps
    | with_reducible apply State.setHighway_keeps | with_reducible apply State.setSpacing_keeps
    | with_reducible apply State.KeepsNext.next | with_reducible apply forEach_keeps
    | with_reducible apply State.Keeps.ite | (intro _ _ _) | (intro _ _) | split | dsimp only)

theorem execTdmClockLost_keeps {z s : State} (p : Fin 8) (hk : z.Keeps s) : z.KeepsNext (execTdmClockLost p s) := by
  unfold execTdmClockLost
  repeat' (first
    | with_reducible assumption | with_reducible exact State.Keeps.refl _ | with_reducible apply State.bumpSat_keeps
    | with_reducible apply State.raise_keeps | with_reducible apply State.setThDetail_keeps
    | with_reducible apply State.noteCarried_keeps | with_reducible apply State.KeepsNext.next
    | with_reducible apply State.Keeps.ite | split)

theorem execTdmClockBack_keeps {z s : State} (p : Fin 8) (hk : z.Keeps s) : z.KeepsNext (execTdmClockBack p s) := by
  unfold execTdmClockBack
  repeat' (first
    | with_reducible assumption | with_reducible exact State.Keeps.refl _ | with_reducible apply State.raise_keeps
    | with_reducible apply State.setThDetail_keeps | with_reducible apply State.noteCarried_keeps
    | with_reducible apply State.alignStores_keeps | with_reducible apply State.KeepsNext.next
    | with_reducible apply State.Keeps.ite | split)

theorem execTdmFsError_keeps {z s : State} (p : Fin 8) (hk : z.Keeps s) : z.KeepsNext (execTdmFsError p s) := by
  unfold execTdmFsError
  repeat' (first
    | with_reducible assumption | with_reducible exact State.Keeps.refl _ | with_reducible apply State.bumpSat_keeps
    | with_reducible apply State.setHighway_keeps | with_reducible apply State.setThDetail_keeps
    | with_reducible apply State.noteCarried_keeps | with_reducible apply State.KeepsNext.next
    | with_reducible apply State.Keeps.ite | split | dsimp only)

theorem execTdmRealign_keeps {z s : State} (p : Fin 8) (hk : z.Keeps s) : z.KeepsNext (execTdmRealign p s) := by
  unfold execTdmRealign
  repeat' (first
    | with_reducible assumption | with_reducible exact State.Keeps.refl _ | with_reducible apply State.bumpSat_keeps
    | with_reducible apply State.raise_keeps | with_reducible apply State.setHighway_keeps
    | with_reducible apply State.setThDetail_keeps | with_reducible apply State.noteCarried_keeps
    | with_reducible apply State.alignStores_keeps | with_reducible apply State.runHighway_keeps
    | with_reducible apply State.KeepsNext.next | with_reducible apply State.Keeps.ite | split | dsimp only)

theorem State.highwayStep_keeps {z s : State} {p : Nat} {ns : Int} (hk : z.Keeps s) :
    z.Keeps (State.highwayStep s p ns) := by
  unfold State.highwayStep
  repeat' (first
    | with_reducible assumption | with_reducible exact State.Keeps.refl _ | with_reducible apply State.wr_keeps
    | with_reducible apply State.setSpacing_keeps | with_reducible apply State.Keeps.ite | split | dsimp only)

theorem State.highwayTick_keeps {z s : State} {p : Nat} (hk : z.Keeps s) : z.Keeps (State.highwayTick s p) := by
  unfold State.highwayTick
  repeat' (first
    | with_reducible assumption | with_reducible exact State.Keeps.refl _
    | with_reducible apply State.startHighway_keeps | with_reducible apply State.offHighway_keeps
    | with_reducible apply State.Keeps.ite | split | dsimp only)

theorem State.freeBytes_keeps {z s : State} {n : Nat} (hk : z.Keeps s) : z.Keeps (s.freeBytes n).2 :=
  forUpTo_keeps_snd _ hk (fun _ _ hu => State.drawNat_keeps hu)

theorem State.remoteBytes_keeps {z s : State} {p k : Nat} (hk : z.Keeps s) : z.Keeps (State.remoteBytes s p k).2 := by
  unfold State.remoteBytes
  repeat' (first
    | with_reducible assumption | with_reducible exact State.Keeps.refl _
    | with_reducible apply State.freeBytes_keeps | split | dsimp only)

theorem State.slotLine_keeps {z s : State} {p k : Nat} (hk : z.Keeps s) : z.Keeps (State.slotLine s p k).2 := by
  unfold State.slotLine
  repeat' (first
    | with_reducible assumption | with_reducible exact State.Keeps.refl _
    | with_reducible apply State.remoteBytes_keeps | with_reducible apply State.Keeps.ite | (intro _ _) | split
    | dsimp only)

theorem State.emitLine_keeps {z s : State} {p n : Nat} (hk : z.Keeps s) : z.Keeps (State.emitLine s p n) := by
  unfold State.emitLine
  repeat' (first
    | with_reducible assumption | with_reducible exact State.Keeps.refl _ | with_reducible apply State.emit_keeps
    | with_reducible apply State.slotLine_keeps | with_reducible apply foldl_keeps
    | with_reducible apply foldl_keeps_snd | with_reducible apply State.Keeps.ite | (intro _ _ _) | (intro _ _)
    | split | dsimp only)

theorem State.endTdmFrame_keeps {z s : State} {p : Nat} (hk : z.Keeps s) : z.Keeps (State.endTdmFrame s p) := by
  unfold State.endTdmFrame
  repeat' (first
    | with_reducible assumption | with_reducible exact State.Keeps.refl _
    | with_reducible apply State.setHighway_keeps | (intro _ _) | split | dsimp only)

theorem State.highwayLine_keeps {z s : State} {p : Nat} {media : List FrameIn} (hk : z.Keeps s) :
    z.Keeps (State.highwayLine s p media) := by
  unfold State.highwayLine
  repeat' (first
    | with_reducible assumption | with_reducible exact State.Keeps.refl _
    | with_reducible apply State.setHighway_keeps | with_reducible apply State.emitLine_keeps
    | with_reducible apply State.endTdmFrame_keeps | with_reducible apply foldl_keeps
    | with_reducible apply State.Keeps.ite | (intro _ _ _) | (intro _ _) | split | dsimp only)

theorem State.bridgeNoise_keeps {z s : State} {g n : Nat} (hk : z.Keeps s) : z.Keeps (State.bridgeNoise s g n).2 := by
  unfold State.bridgeNoise
  repeat' (first
    | with_reducible assumption | with_reducible exact State.Keeps.refl _
    | with_reducible apply State.comfortNoise_keeps | with_reducible apply State.modEcho_keeps | (intro _ _)
    | dsimp only)

theorem State.highwayOut_keeps {z s : State} {g : Nat} (hk : z.Keeps s) : z.Keeps (State.highwayOut s g).2 := by
  unfold State.highwayOut
  repeat' (first
    | with_reducible assumption | with_reducible exact State.Keeps.refl _
    | with_reducible apply State.bridgeNoise_keeps | with_reducible apply State.Keeps.ite | (intro _ _) | split
    | dsimp only)

theorem State.commitHighway_keeps {z s : State} {p : Nat} (hk : z.Keeps s) : z.Keeps (State.commitHighway s p) := by
  unfold State.commitHighway
  repeat' (first
    | with_reducible assumption | with_reducible exact State.Keeps.refl _
    | with_reducible apply State.setHighway_keeps | with_reducible apply State.highwayOut_keeps
    | with_reducible apply forEach_keeps | with_reducible apply forEach_keeps_snd
    | with_reducible apply State.Keeps.ite | (intro _ _ _) | (intro _ _) | split | dsimp only)

theorem State.attenuated_keeps {z s : State} {l : List Int} (hk : z.Keeps s) : z.Keeps (State.attenuated s l).2 := by
  unfold State.attenuated
  repeat' (first
    | with_reducible assumption | with_reducible exact State.Keeps.refl _ | with_reducible apply State.drawBool_keeps
    | with_reducible apply foldl_keeps | with_reducible apply foldl_keeps_snd | with_reducible apply State.Keeps.ite
    | (intro _ _ _) | (intro _ _) | split | dsimp only)

theorem State.repeatFrame_keeps {z s : State} {g : Nat} (hk : z.Keeps s) : z.Keeps (State.repeatFrame s g) := by
  unfold State.repeatFrame
  repeat' (first
    | with_reducible assumption | with_reducible exact State.Keeps.refl _
    | with_reducible apply State.setHighway_keeps | with_reducible apply State.attenuated_keeps
    | with_reducible apply State.Keeps.ite | split | dsimp only)

theorem State.quietHighway_keeps {z s : State} {p : Nat} (hk : z.Keeps s) : z.Keeps (State.quietHighway s p) := by
  unfold State.quietHighway
  repeat' (first
    | with_reducible assumption | with_reducible exact State.Keeps.refl _ | with_reducible apply State.setOp_keeps
    | with_reducible apply State.driveHighway_keeps | with_reducible apply State.clearThDetail_keeps
    | with_reducible apply State.Keeps.ite | split)

theorem State.wakeHighway_keeps {z s : State} {p : Nat} (hk : z.Keeps s) : z.Keeps (State.wakeHighway s p) := by
  unfold State.wakeHighway
  repeat' (first
    | with_reducible assumption | with_reducible exact State.Keeps.refl _ | with_reducible apply State.setOp_keeps
    | with_reducible apply State.startHighway_keeps | with_reducible apply State.Keeps.ite | split)

/-! ### Machine/Voice.lean -/

theorem State.lowerBand_keeps {z s : State} {g : Nat} {l : List Int} (hk : z.Keeps s) :
    z.Keeps (State.lowerBand s g l).2 := by
  unfold State.lowerBand
  repeat' (first
    | with_reducible assumption | with_reducible exact State.Keeps.refl _ | with_reducible apply State.modSig_keeps
    | with_reducible apply State.Keeps.ite | (intro _ _) | split | dsimp only)

theorem State.heardPeer_keeps {z s was : State} {g : Nat} (hk : z.Keeps s) : z.Keeps (State.heardPeer s was g).2 := by
  unfold State.heardPeer
  repeat' (first
    | with_reducible assumption | with_reducible exact State.Keeps.refl _
    | with_reducible apply State.bridgeNoise_keeps | with_reducible apply State.Keeps.ite | split | dsimp only)

theorem State.heardBands_keeps {z s was : State} {g : Nat} {line : List Byte} (hk : z.Keeps s) :
    z.Keeps (State.heardBands s was g line).2 := by
  unfold State.heardBands
  repeat' (first
    | with_reducible assumption | with_reducible exact State.Keeps.refl _ | with_reducible apply State.modSig_keeps
    | with_reducible apply State.heardPeer_keeps | with_reducible apply State.Keeps.ite | (intro _ _) | split
    | dsimp only)

theorem State.encoderInput_keeps {z s : State} {g : Nat} {low high : List Int} (hk : z.Keeps s) :
    z.Keeps (State.encoderInput s g low high).2 := by
  unfold State.encoderInput
  repeat' (first
    | with_reducible assumption | with_reducible exact State.Keeps.refl _ | with_reducible apply State.setSig_keeps
    | with_reducible apply State.Keeps.ite | split | dsimp only)

theorem State.relayNoise_keeps {z s : State} {g : Nat} {l : List Int} (hk : z.Keeps s) :
    z.Keeps (State.relayNoise s g l).2 := by
  unfold State.relayNoise
  repeat' (first
    | with_reducible assumption | with_reducible exact State.Keeps.refl _
    | with_reducible apply State.comfortNoise_keeps | with_reducible apply State.modEcho_keeps
    | with_reducible apply State.Keeps.ite | (intro _ _) | split | dsimp only)

theorem State.towardBridge_keeps {z s : State} {g : Nat} (hk : z.Keeps s) : z.Keeps (State.towardBridge s g).2 := by
  unfold State.towardBridge
  repeat' (first
    | with_reducible assumption | with_reducible exact State.Keeps.refl _ | with_reducible apply State.jbFrame_keeps
    | with_reducible apply State.toneGen_keeps | with_reducible apply State.eventPlayed_keeps | dsimp only)

theorem State.channelFrame_keeps {z s was : State} {g : Nat} {f : FrameIn} (hk : z.Keeps s) :
    z.Keeps (State.channelFrame s was g f) := by
  unfold State.channelFrame
  repeat' (first
    | with_reducible assumption | with_reducible exact State.Keeps.refl _
    | with_reducible apply State.echoFrame_keeps | with_reducible apply State.modSig_keeps
    | with_reducible apply State.encodeFrame_keeps | with_reducible apply State.startEvent_keeps
    | with_reducible apply State.toneTick_keeps | with_reducible apply State.lowerBand_keeps
    | with_reducible apply State.heardBands_keeps | with_reducible apply State.encoderInput_keeps
    | with_reducible apply State.relayNoise_keeps | with_reducible apply State.towardBridge_keeps
    | fail_if_no_progress (first
        | refine State.Keeps.upd ?_ rfl (fun c => { c with })
        | refine State.Keeps.upd ?_ rfl (by
          intro c; cases c; constructor <;> repeat' first
            | assumption | exact Sparse.wf_put (by assumption) | exact Sparse.wf_ins (by assumption)
            | exact Sparse.wf_del (by assumption) | exact Sparse.wf_filter (by assumption) | rfl
            | (dsimp only; split) | split))
    | (intro _ _) | dsimp only)

/-! ### Machine/Channels.lean -/

theorem State.dropRequest_keeps {z s : State} {g : Nat} (hk : z.Keeps s) : z.Keeps (State.dropRequest s g) := by
  unfold State.dropRequest
  repeat' (first
    | with_reducible assumption | with_reducible exact State.Keeps.refl _ | with_reducible apply State.modChan_keeps
    | with_reducible apply State.setPath_keeps | with_reducible apply State.Keeps.ite | (intro _ _) | split
    | dsimp only)

theorem State.addRequest_keeps {z s : State} {g : Nat} {isOpen : Bool} (hk : z.Keeps s) :
    z.Keeps (State.addRequest s g isOpen) := by
  unfold State.addRequest
  repeat' (first
    | with_reducible assumption | with_reducible exact State.Keeps.refl _ | with_reducible apply State.modChan_keeps
    | with_reducible apply State.setPath_keeps | with_reducible apply State.Keeps.ite | (intro _ _) | split
    | dsimp only)

theorem State.classifyReq_keeps {z s : State} {g : Nat} (hk : z.Keeps s) : z.Keeps (State.classifyReq s g) := by
  unfold State.classifyReq
  repeat' (first
    | with_reducible assumption | with_reducible exact State.Keeps.refl _ | with_reducible apply State.modChan_keeps
    | with_reducible apply State.dropRequest_keeps | with_reducible apply State.addRequest_keeps
    | with_reducible apply State.Keeps.ite | (intro _ _) | split | dsimp only)

theorem State.endChHold_keeps {z s : State} {g : Nat} (hk : z.Keeps s) : z.Keeps (State.endChHold s g) := by
  unfold State.endChHold
  repeat' (first
    | with_reducible assumption | with_reducible exact State.Keeps.refl _ | with_reducible apply State.wr_keeps
    | with_reducible apply State.noteSettled_keeps | with_reducible apply State.Keeps.ite | split)

theorem State.wakeForRequest_keeps {z s : State} {g : Nat} (hk : z.Keeps s) : z.Keeps (State.wakeForRequest s g) := by
  unfold State.wakeForRequest
  repeat' (first
    | with_reducible assumption | with_reducible exact State.Keeps.refl _
    | with_reducible apply State.requestWake_keeps | with_reducible apply State.Keeps.ite | split)

theorem State.chIntentEffect_keeps {z s : State} {fn g data : Nat} (hk : z.Keeps s) :
    z.Keeps (State.chIntentEffect s fn g data) := by
  unfold State.chIntentEffect
  repeat' (first
    | with_reducible assumption | with_reducible exact State.Keeps.refl _
    | with_reducible apply State.storeWord_keeps | with_reducible apply State.classifyReq_keeps
    | with_reducible apply State.endChHold_keeps | with_reducible apply State.wakeForRequest_keeps)

theorem execChIntentWrite_keeps {z s : State} (fn : Fin 65) (g : Fin 2048) (data : Word) (hk : z.Keeps s) :
    z.KeepsNext (execChIntentWrite fn g data s) := by
  unfold execChIntentWrite
  repeat' (first
    | with_reducible assumption | with_reducible exact State.Keeps.refl _
    | with_reducible apply State.mmioWrite_keeps | with_reducible apply State.chIntentEffect_keeps
    | with_reducible apply State.KeepsNext.next | (intro _ _) | dsimp only)

theorem State.chOwnerEffect_keeps {z s : State} {fn g data : Nat} (hk : z.Keeps s) :
    z.Keeps (State.chOwnerEffect s fn g data) := by
  unfold State.chOwnerEffect
  repeat' (first
    | with_reducible assumption | with_reducible exact State.Keeps.refl _
    | with_reducible apply State.storeWord_keeps | with_reducible apply State.Keeps.ite | split | dsimp only)

theorem execChOwnerWrite_keeps {z s : State} (fn : Fin 65) (g : Fin 2048) (data : Word) (hk : z.Keeps s) :
    z.KeepsNext (execChOwnerWrite fn g data s) := by
  unfold execChOwnerWrite
  repeat' (first
    | with_reducible assumption | with_reducible exact State.Keeps.refl _
    | with_reducible apply State.mmioWrite_keeps | with_reducible apply State.chOwnerEffect_keeps
    | with_reducible apply State.KeepsNext.next | (intro _ _) | dsimp only)

theorem State.releaseHeld_keeps {z s : State} {g : Nat} (hk : z.Keeps s) : z.Keeps (s.releaseHeld g) := by
  unfold State.releaseHeld
  extract_lets a b c
  have hc : z.Keeps c :=
    State.setChan_keeps (State.withdraw_keeps (State.withdraw_keeps
      (State.mediaClose_keeps (State.jbClose_keeps (State.echoClose_keeps (State.leavePeer_keeps hk))))))
  clear_value c
  exact State.noteBeyond_keeps (State.Keeps.upd hc rfl (fun k => { k with echos := Sparse.wf_del k.echos }))

theorem State.releaseChannel_keeps {z s : State} {g : Nat} (hk : z.Keeps s) : z.Keeps (State.releaseChannel s g) := by
  unfold State.releaseChannel
  repeat' (first
    | with_reducible assumption | with_reducible exact State.Keeps.refl _
    | with_reducible apply State.flushQueue_keeps | with_reducible apply State.releaseHeld_keeps)

theorem State.postRefused_keeps {z s : State} {g : Nat} {r : ChRequest} {code : Nat} (hk : z.Keeps s) :
    z.Keeps (State.postRefused s g r code) := by
  unfold State.postRefused
  repeat' (first
    | with_reducible assumption | with_reducible exact State.Keeps.refl _ | with_reducible apply State.wr_keeps
    | with_reducible apply State.bumpSat_keeps | with_reducible apply State.modChan_keeps
    | with_reducible apply State.chEvent_keeps | with_reducible apply State.noteSettled_keeps
    | with_reducible apply State.setPath_keeps | with_reducible apply State.noteBeyond_keeps
    | with_reducible apply State.releaseHeld_keeps | with_reducible apply State.Keeps.ite | (intro _ _) | split
    | dsimp only)

theorem State.meetPeer_keeps {z s : State} {g : Nat} (hk : z.Keeps s) : z.Keeps (State.meetPeer s g) := by
  unfold State.meetPeer
  repeat' (first
    | with_reducible assumption | with_reducible exact State.Keeps.refl _ | with_reducible apply State.wr_keeps
    | with_reducible apply State.Keeps.ite | split | dsimp only)

theorem State.postAdmitted_keeps {z s : State} {g : Nat} {r : ChRequest} (hk : z.Keeps s) :
    z.Keeps (State.postAdmitted s g r) := by
  unfold State.postAdmitted
  repeat' (first
    | with_reducible assumption | with_reducible exact State.Keeps.refl _ | with_reducible apply State.wr_keeps
    | with_reducible apply State.clearRegs_keeps | with_reducible apply State.modChan_keeps
    | with_reducible apply State.chEvent_keeps | with_reducible apply State.writeHeader_keeps
    | with_reducible apply State.noteSettled_keeps | with_reducible apply State.setPath_keeps
    | with_reducible apply State.echoOpen_keeps | with_reducible apply State.echoModify_keeps
    | with_reducible apply State.jbOpen_keeps | with_reducible apply State.jbModify_keeps
    | with_reducible apply State.mediaOpen_keeps | with_reducible apply State.mediaModify_keeps
    | with_reducible apply State.noteBeyond_keeps | with_reducible apply State.meetPeer_keeps
    | with_reducible apply State.Keeps.ite | (intro _ _) | split | dsimp only)

theorem State.serveRequest_keeps {z s : State} {g : Nat} {r0 : ChRequest} (hk : z.Keeps s) :
    z.Keeps (State.serveRequest s g r0) := by
  unfold State.serveRequest
  repeat' (first
    | with_reducible assumption | with_reducible exact State.Keeps.refl _ | with_reducible apply State.modChan_keeps
    | with_reducible apply State.ask_keeps | with_reducible apply State.postRefused_keeps
    | with_reducible apply State.Keeps.ite | (intro _ _) | split | dsimp only)

theorem State.toClosing_keeps {z s : State} {g reason : Nat} (hk : z.Keeps s) :
    z.Keeps (State.toClosing s g reason) := by
  unfold State.toClosing
  repeat' (first
    | with_reducible assumption | with_reducible exact State.Keeps.refl _ | with_reducible apply State.modChan_keeps
    | with_reducible apply State.setPath_keeps | with_reducible apply State.jbClose_keeps
    | with_reducible apply State.mediaClosing_keeps | with_reducible apply State.dropRequest_keeps | (intro _ _)
    | dsimp only)

theorem State.toIdle_keeps {z s : State} {g : Nat} (hk : z.Keeps s) : z.Keeps (State.toIdle s g) := by
  unfold State.toIdle
  repeat' (first
    | with_reducible assumption | with_reducible exact State.Keeps.refl _ | with_reducible apply State.wr_keeps
    | with_reducible apply State.chEvent_keeps | with_reducible apply State.noteSettled_keeps
    | with_reducible apply State.setPath_keeps | with_reducible apply State.releaseChannel_keeps | dsimp only)

theorem State.serveChannel_keeps {z s : State} {g n : Nat} (hk : z.Keeps s) :
    z.Keeps (State.serveChannel s g n).2 := by
  unfold State.serveChannel
  repeat' (first
    | with_reducible assumption | with_reducible exact State.Keeps.refl _ | with_reducible apply State.modChan_keeps
    | with_reducible apply State.settle_keeps | with_reducible apply State.serveRequest_keeps
    | with_reducible apply State.toClosing_keeps | with_reducible apply State.Keeps.ite | (intro _ _) | split
    | dsimp only)

theorem State.serveTick_keeps {z s : State} {p : Nat} (hk : z.Keeps s) : z.Keeps (State.serveTick s p) := by
  unfold State.serveTick
  repeat' (first
    | with_reducible assumption | with_reducible exact State.Keeps.refl _
    | with_reducible apply State.serveChannel_keeps | with_reducible apply forEach_keeps
    | with_reducible apply forEach_keeps_snd | (intro _ _ _) | (intro _ _) | dsimp only)

theorem State.idleTick_keeps {z s : State} {p : Nat} (hk : z.Keeps s) : z.Keeps (State.idleTick s p) := by
  unfold State.idleTick
  repeat' (first
    | with_reducible assumption | with_reducible exact State.Keeps.refl _ | with_reducible apply State.toIdle_keeps
    | with_reducible apply forEach_keeps | (intro _ _ _) | (intro _ _) | dsimp only)

theorem State.stopChannel_keeps {z s : State} {g : Nat} (hk : z.Keeps s) : z.Keeps (State.stopChannel s g) := by
  unfold State.stopChannel
  repeat' (first
    | with_reducible assumption | with_reducible exact State.Keeps.refl _ | with_reducible apply State.withdraw_keeps
    | with_reducible apply State.postRefused_keeps | with_reducible apply State.toClosing_keeps
    | with_reducible apply State.Keeps.ite | split | dsimp only)

theorem State.postTick_keeps {z s : State} {p : Nat} (hk : z.Keeps s) : z.Keeps (State.postTick s p) := by
  unfold State.postTick
  repeat' (first
    | with_reducible assumption | with_reducible exact State.Keeps.refl _
    | with_reducible apply State.postAdmitted_keeps | with_reducible apply forEach_keeps
    | with_reducible apply State.Keeps.ite | (intro _ _ _) | (intro _ _) | split | dsimp only)

theorem execWakeTimeout_keeps {z s : State} (g : Fin 2048) (hk : z.Keeps s) : z.KeepsNext (execWakeTimeout g s) := by
  unfold execWakeTimeout
  repeat' (first
    | with_reducible assumption | with_reducible exact State.Keeps.refl _
    | with_reducible apply State.postRefused_keeps | with_reducible apply State.KeepsNext.next
    | with_reducible apply State.Keeps.ite | split | dsimp only)

theorem State.chFault_keeps {z s : State} {g : Nat} (hk : z.Keeps s) : z.Keeps (State.chFault s g) := by
  unfold State.chFault
  repeat' (first
    | with_reducible assumption | with_reducible exact State.Keeps.refl _ | with_reducible apply State.wr_keeps
    | with_reducible apply State.modChan_keeps | with_reducible apply State.chEvent_keeps
    | with_reducible apply State.noteSettled_keeps | with_reducible apply State.setPath_keeps
    | with_reducible apply State.withdraw_keeps | with_reducible apply State.jbLost_keeps
    | with_reducible apply State.classifyReq_keeps | with_reducible apply State.Keeps.ite | (intro _ _) | split
    | dsimp only)

theorem State.chMiss_keeps {z s : State} {g v : Nat} (hk : z.Keeps s) : z.Keeps (State.chMiss s g v) := by
  unfold State.chMiss
  repeat' (first
    | with_reducible assumption | with_reducible exact State.Keeps.refl _ | with_reducible apply State.wr_keeps
    | with_reducible apply State.chEvent_keeps | with_reducible apply State.noteSettled_keeps
    | with_reducible apply State.Keeps.ite | split | dsimp only)

theorem State.chSample_keeps {z s : State} {g : Nat} (hk : z.Keeps s) : z.Keeps (State.chSample s g) := by
  unfold State.chSample
  repeat' (first
    | with_reducible assumption | with_reducible exact State.Keeps.refl _ | with_reducible apply State.wr_keeps
    | with_reducible apply State.modChan_keeps | with_reducible apply State.chMiss_keeps
    | with_reducible apply State.Keeps.ite
    | fail_if_no_progress (first
        | refine State.Keeps.upd ?_ rfl (fun c => { c with })
        | refine State.Keeps.upd ?_ rfl (by
          intro c; cases c; constructor <;> repeat' first
            | assumption | exact Sparse.wf_put (by assumption) | exact Sparse.wf_ins (by assumption)
            | exact Sparse.wf_del (by assumption) | exact Sparse.wf_filter (by assumption) | rfl
            | (dsimp only; split) | split))
    | (intro _ _) | split | dsimp only)

theorem execChannelTraceSample_keeps {z s : State} (g : Fin 2048) (hk : z.Keeps s) :
    z.KeepsNext (execChannelTraceSample g s) := by
  unfold execChannelTraceSample
  repeat' (first
    | with_reducible assumption | with_reducible exact State.Keeps.refl _ | with_reducible apply State.chSample_keeps
    | with_reducible apply State.KeepsNext.next | with_reducible apply State.Keeps.ite | split | dsimp only)

theorem State.chAccept_keeps {z s : State} {g : Nat} (hk : z.Keeps s) : z.Keeps (State.chAccept s g) := by
  unfold State.chAccept
  repeat' (first
    | with_reducible assumption | with_reducible exact State.Keeps.refl _ | with_reducible apply State.wr_keeps
    | with_reducible apply State.endChHold_keeps | with_reducible apply State.Keeps.ite | split | dsimp only)

theorem execChannelAcceptPath_keeps {z s : State} (fn : Fin 65) (g : Fin 2048) (hk : z.Keeps s) :
    z.KeepsNext (execChannelAcceptPath fn g s) := by
  unfold execChannelAcceptPath
  repeat' (first
    | with_reducible assumption | with_reducible exact State.Keeps.refl _
    | with_reducible apply State.mmioWrite_keeps | with_reducible apply State.chAccept_keeps
    | with_reducible apply State.KeepsNext.next | (intro _ _) | dsimp only)

end Sys2Proof.Machine
end

