-- ==== Sys2Proof/Laws/KeepsPorts.lean ====
section
/-! SUPPORT. Every definition of the ports, the hatches and the plate DMA that changes the state keeps what `State.Keeps` says, one law each. -/

set_option linter.unusedTactic false
set_option linter.unreachableTactic false

namespace Sys2Proof.Machine

/-! ### Machine/Hatch.lean -/

theorem State.setHatch_keeps {z s : State} {p : Nat} {h : Hatch} (hk : z.Keeps s) :
    z.Keeps (State.setHatch s p h) := by
  unfold State.setHatch
  repeat' (first
    | with_reducible assumption | with_reducible exact State.Keeps.refl _
    | fail_if_no_progress (first
        | refine State.Keeps.upd ?_ rfl (fun c => { c with })
        | refine State.Keeps.upd ?_ rfl (by
          intro c; cases c; constructor <;> repeat' first
            | assumption | exact Sparse.wf_put (by assumption) | exact Sparse.wf_ins (by assumption)
            | exact Sparse.wf_del (by assumption) | exact Sparse.wf_filter (by assumption) | rfl
            | (dsimp only; split) | split)))

theorem State.hatchWrite_keeps {z s : State} {p i data : Nat} (hk : z.Keeps s) : z.Keeps (s.hatchWrite p i data) :=
  State.Keeps.ite (hk.setHatchMem (fun h => Memory.wf_put h _ _)) hk

theorem State.noteSpans_keeps {z s : State} {p : Nat} (hk : z.Keeps s) : z.Keeps (State.noteSpans s p) := by
  unfold State.noteSpans
  repeat' (first
    | with_reducible assumption | with_reducible exact State.Keeps.refl _ | with_reducible apply State.wr_keeps
    | with_reducible apply State.setHatch_keeps | with_reducible apply forUpTo_keeps | (intro _ _ _) | (intro _ _)
    | dsimp only)

theorem State.noteBase_keeps {z s : State} {p : Nat} (hk : z.Keeps s) : z.Keeps (State.noteBase s p) := by
  unfold State.noteBase
  repeat' (first
    | with_reducible assumption | with_reducible exact State.Keeps.refl _ | with_reducible apply State.setHatch_keeps)

theorem State.hatchRest_keeps {z s : State} {p : Nat} (hk : z.Keeps s) : z.Keeps (State.hatchRest s p) := by
  unfold State.hatchRest
  repeat' (first
    | with_reducible assumption | with_reducible exact State.Keeps.refl _ | with_reducible apply State.setHatch_keeps
    | dsimp only)

theorem State.placeGrid_keeps {z s : State} {p : Nat} (hk : z.Keeps s) : z.Keeps (State.placeGrid s p) := by
  unfold State.placeGrid
  repeat' (first
    | with_reducible assumption | with_reducible exact State.Keeps.refl _ | with_reducible apply State.setOp_keeps
    | with_reducible apply State.setHatch_keeps | with_reducible apply State.hatchRest_keeps | dsimp only)

theorem State.dropHead_keeps {z s : State} {p q k : Nat} (hk : z.Keeps s) : z.Keeps (State.dropHead s p q k) := by
  unfold State.dropHead
  repeat' (first
    | with_reducible assumption | with_reducible exact State.Keeps.refl _ | with_reducible apply State.setQueue_keeps
    | with_reducible apply State.count48_keeps | split)

theorem State.clearHeads_keeps {z s : State} {p n k : Nat} (hk : z.Keeps s) : z.Keeps (s.clearHeads p n k) := by
  induction k generalizing s with
  | zero => exact hk
  | succ k ih =>
    unfold State.clearHeads
    split
    · exact hk
    · exact State.Keeps.ite (ih (State.dropHead_keeps hk)) (State.Keeps.ite (ih (State.dropHead_keeps hk))
        (State.Keeps.ite (ih (State.dropHead_keeps hk)) (State.Keeps.ite
          (ih (State.raise_keeps (State.bumpSat_keeps (State.setQueue_keeps hk)))) hk)))

theorem State.clearAllHeads_keeps {z s : State} {p : Nat} (hk : z.Keeps s) : z.Keeps (State.clearAllHeads s p) := by
  unfold State.clearAllHeads
  repeat' (first
    | with_reducible assumption | with_reducible exact State.Keeps.refl _
    | with_reducible apply State.clearHeads_keeps | with_reducible apply forUpTo_keeps
    | with_reducible apply State.Keeps.ite | (intro _ _ _) | (intro _ _) | split | dsimp only)

theorem State.beginCycle_keeps {z s : State} {p t : Nat} (hk : z.Keeps s) : z.Keeps (State.beginCycle s p t) := by
  unfold State.beginCycle
  repeat' (first
    | with_reducible assumption | with_reducible exact State.Keeps.refl _ | with_reducible apply State.wr_keeps
    | with_reducible apply State.setPort_keeps | with_reducible apply State.setHatch_keeps | dsimp only)

theorem State.swapBegins_keeps {z s : State} {p t : Nat} (hk : z.Keeps s) : z.Keeps (State.swapBegins s p t) := by
  unfold State.swapBegins
  repeat' (first
    | with_reducible assumption | with_reducible exact State.Keeps.refl _ | with_reducible apply State.wr_keeps
    | with_reducible apply State.bumpSat_keeps | with_reducible apply State.raise_keeps
    | with_reducible apply State.setHatch_keeps | with_reducible apply State.noteSpans_keeps
    | with_reducible apply State.beginCycle_keeps | dsimp only)

theorem State.followGrid_keeps {z s : State} {p b e : Nat} {swap : Bool} (hk : z.Keeps s) :
    z.Keeps (State.followGrid s p b e swap) := by
  unfold State.followGrid
  repeat' (first
    | with_reducible assumption | with_reducible exact State.Keeps.refl _ | with_reducible apply State.setHatch_keeps
    | with_reducible apply State.beginCycle_keeps | with_reducible apply State.swapBegins_keeps
    | with_reducible apply State.Keeps.ite | split | dsimp only)

theorem State.noteRealign_keeps {z s : State} {p : Nat} (hk : z.Keeps s) : z.Keeps (State.noteRealign s p) := by
  unfold State.noteRealign
  repeat' (first
    | with_reducible assumption | with_reducible exact State.Keeps.refl _ | with_reducible apply State.bumpSat_keeps
    | with_reducible apply State.raise_keeps | with_reducible apply State.setHatch_keeps)

theorem State.boundary_keeps {z s : State} {p : Nat} (hk : z.Keeps s) : z.Keeps (State.boundary s p) := by
  unfold State.boundary
  repeat' (first
    | with_reducible assumption | with_reducible exact State.Keeps.refl _ | with_reducible apply State.wr_keeps
    | with_reducible apply State.setOp_keeps | with_reducible apply State.setHatch_keeps
    | with_reducible apply State.noteSpans_keeps | with_reducible apply State.noteBase_keeps
    | with_reducible apply State.hatchRest_keeps | with_reducible apply State.placeGrid_keeps
    | with_reducible apply State.beginCycle_keeps | with_reducible apply State.swapBegins_keeps
    | with_reducible apply State.followGrid_keeps | with_reducible apply State.noteRealign_keeps
    | with_reducible apply State.Keeps.ite
    | fail_if_no_progress (first
        | refine State.Keeps.upd ?_ rfl (fun c => { c with })
        | refine State.Keeps.upd ?_ rfl (by
          intro c; cases c; constructor <;> repeat' first
            | assumption | exact Sparse.wf_put (by assumption) | exact Sparse.wf_ins (by assumption)
            | exact Sparse.wf_del (by assumption) | exact Sparse.wf_filter (by assumption) | rfl
            | (dsimp only; split) | split))
    | split | dsimp only)

theorem execHatchCycleBoundary_keeps {z s : State} (p : Fin 8) (hk : z.Keeps s) :
    z.KeepsNext (execHatchCycleBoundary p s) := by
  unfold execHatchCycleBoundary
  repeat' (first
    | with_reducible assumption | with_reducible exact State.Keeps.refl _
    | with_reducible apply State.clearAllHeads_keeps | with_reducible apply State.boundary_keeps
    | with_reducible apply State.KeepsNext.next)

theorem State.hsIntent_keeps {z s : State} {fn p data : Nat} (hk : z.Keeps s) :
    z.Keeps (State.hsIntent s fn p data) := by
  unfold State.hsIntent
  repeat' (first
    | with_reducible assumption | with_reducible exact State.Keeps.refl _ | with_reducible apply State.setOp_keeps
    | with_reducible apply State.storeIntent_keeps | with_reducible apply State.hatchRest_keeps
    | with_reducible apply State.placeGrid_keeps | with_reducible apply State.Keeps.ite | split | dsimp only)

theorem execHatchHostStateWrite_keeps {z s : State} (fn : Fin 65) (p : Fin 8) (data : Word) (hk : z.Keeps s) :
    z.KeepsNext (execHatchHostStateWrite fn p data s) := by
  unfold execHatchHostStateWrite
  repeat' (first
    | with_reducible assumption | with_reducible exact State.Keeps.refl _
    | with_reducible apply State.mmioWrite_keeps | with_reducible apply State.hsIntent_keeps
    | with_reducible apply State.KeepsNext.next | (intro _ _) | dsimp only)

theorem State.swapGo_keeps {z s : State} {p bank : Nat} (hk : z.Keeps s) : z.Keeps (State.swapGo s p bank) := by
  unfold State.swapGo
  repeat' (first
    | with_reducible assumption | with_reducible exact State.Keeps.refl _ | with_reducible apply State.wr_keeps
    | with_reducible apply State.setHatch_keeps | with_reducible apply State.noteSpans_keeps
    | with_reducible apply State.noteBase_keeps | with_reducible apply State.Keeps.ite
    | fail_if_no_progress (first
        | refine State.Keeps.upd ?_ rfl (fun c => { c with })
        | refine State.Keeps.upd ?_ rfl (by
          intro c; cases c; constructor <;> repeat' first
            | assumption | exact Sparse.wf_put (by assumption) | exact Sparse.wf_ins (by assumption)
            | exact Sparse.wf_del (by assumption) | exact Sparse.wf_filter (by assumption) | rfl
            | (dsimp only; split) | split))
    | split)

theorem State.swapCancel_keeps {z s : State} {p : Nat} (hk : z.Keeps s) : z.Keeps (State.swapCancel s p) := by
  unfold State.swapCancel
  repeat' (first
    | with_reducible assumption | with_reducible exact State.Keeps.refl _ | with_reducible apply State.wr_keeps
    | with_reducible apply State.setHatch_keeps | with_reducible apply State.Keeps.ite
    | fail_if_no_progress (first
        | refine State.Keeps.upd ?_ rfl (fun c => { c with })
        | refine State.Keeps.upd ?_ rfl (by
          intro c; cases c; constructor <;> repeat' first
            | assumption | exact Sparse.wf_put (by assumption) | exact Sparse.wf_ins (by assumption)
            | exact Sparse.wf_del (by assumption) | exact Sparse.wf_filter (by assumption) | rfl
            | (dsimp only; split) | split))
    | split | dsimp only)

theorem State.swapEffect_keeps {z s : State} {fn p data : Nat} (hk : z.Keeps s) :
    z.Keeps (State.swapEffect s fn p data) := by
  unfold State.swapEffect
  repeat' (first
    | with_reducible assumption | with_reducible exact State.Keeps.refl _ | with_reducible apply State.swapGo_keeps
    | with_reducible apply State.swapCancel_keeps | with_reducible apply State.Keeps.ite | split | dsimp only)

theorem execHatchSwapGo_keeps {z s : State} (fn : Fin 65) (p : Fin 8) (bank : Fin 2) (hk : z.Keeps s) :
    z.KeepsNext (execHatchSwapGo fn p bank s) := by
  unfold execHatchSwapGo
  repeat' (first
    | with_reducible assumption | with_reducible exact State.Keeps.refl _
    | with_reducible apply State.mmioWrite_keeps | with_reducible apply State.swapEffect_keeps
    | with_reducible apply State.KeepsNext.next | (intro _ _) | dsimp only)

theorem execHatchSwapCancel_keeps {z s : State} (fn : Fin 65) (p : Fin 8) (hk : z.Keeps s) :
    z.KeepsNext (execHatchSwapCancel fn p s) := by
  unfold execHatchSwapCancel
  repeat' (first
    | with_reducible assumption | with_reducible exact State.Keeps.refl _
    | with_reducible apply State.mmioWrite_keeps | with_reducible apply State.swapEffect_keeps
    | with_reducible apply State.KeepsNext.next | (intro _ _) | dsimp only)

theorem State.hatchMoved_keeps {z s : State} {p : Nat} {d : Int} (hk : z.Keeps s) :
    z.Keeps (State.hatchMoved s p d) := by
  unfold State.hatchMoved
  repeat' (first
    | with_reducible assumption | with_reducible exact State.Keeps.refl _ | with_reducible apply State.setHatch_keeps
    | with_reducible apply State.Keeps.ite | split | dsimp only)

theorem State.hatchRejoin_keeps {z s : State} {p : Nat} {d : Int} (hk : z.Keeps s) :
    z.Keeps (State.hatchRejoin s p d) := by
  unfold State.hatchRejoin
  repeat' (first
    | with_reducible assumption | with_reducible exact State.Keeps.refl _ | with_reducible apply State.setHatch_keeps
    | with_reducible apply State.hatchMoved_keeps)

theorem State.quietHatch_keeps {z s : State} {p : Nat} (hk : z.Keeps s) : z.Keeps (State.quietHatch s p) := by
  unfold State.quietHatch
  repeat' (first
    | with_reducible assumption | with_reducible exact State.Keeps.refl _ | with_reducible apply State.setOp_keeps
    | with_reducible apply State.hatchRest_keeps | with_reducible apply State.Keeps.ite | split)

theorem State.wakeHatch_keeps {z s : State} {p : Nat} (hk : z.Keeps s) : z.Keeps (State.wakeHatch s p) := by
  unfold State.wakeHatch
  repeat' (first
    | with_reducible assumption | with_reducible exact State.Keeps.refl _ | with_reducible apply State.setOp_keeps
    | with_reducible apply State.placeGrid_keeps | with_reducible apply State.Keeps.ite | split)

theorem State.setShLevel_keeps {z s : State} {p n : Nat} {v : Int} (hk : z.Keeps s) :
    z.Keeps (State.setShLevel s p n v) := by
  unfold State.setShLevel
  repeat' (first
    | with_reducible assumption | with_reducible exact State.Keeps.refl _
    | fail_if_no_progress (first
        | refine State.Keeps.upd ?_ rfl (fun c => { c with })
        | refine State.Keeps.upd ?_ rfl (by
          intro c; cases c; constructor <;> repeat' first
            | assumption | exact Sparse.wf_put (by assumption) | exact Sparse.wf_ins (by assumption)
            | exact Sparse.wf_del (by assumption) | exact Sparse.wf_filter (by assumption) | rfl
            | (dsimp only; split) | split)))

theorem State.shaperCharge_keeps {z s : State} {p n len : Nat} (hk : z.Keeps s) :
    z.Keeps (State.shaperCharge s p n len) := by
  unfold State.shaperCharge
  repeat' (first
    | with_reducible assumption | with_reducible exact State.Keeps.refl _
    | with_reducible apply State.setShLevel_keeps | with_reducible apply State.Keeps.ite | split)

theorem State.refill_keeps {z s : State} {p n : Nat} (hk : z.Keeps s) : z.Keeps (State.refill s p n) := by
  unfold State.refill
  repeat' (first
    | with_reducible assumption | with_reducible exact State.Keeps.refl _
    | with_reducible apply State.setShLevel_keeps | with_reducible apply State.Keeps.ite
    | fail_if_no_progress (first
        | refine State.Keeps.upd ?_ rfl (fun c => { c with })
        | refine State.Keeps.upd ?_ rfl (by
          intro c; cases c; constructor <;> repeat' first
            | assumption | exact Sparse.wf_put (by assumption) | exact Sparse.wf_ins (by assumption)
            | exact Sparse.wf_del (by assumption) | exact Sparse.wf_filter (by assumption) | rfl
            | (dsimp only; split) | split))
    | split | dsimp only)

theorem State.shaperReset_keeps {z s : State} {fn p data : Nat} (hk : z.Keeps s) :
    z.Keeps (State.shaperReset s fn p data) := by
  unfold State.shaperReset
  repeat' (first
    | with_reducible assumption | with_reducible exact State.Keeps.refl _
    | with_reducible apply State.setShLevel_keeps | with_reducible apply forUpTo_keeps
    | with_reducible apply State.Keeps.ite | (intro _ _ _) | (intro _ _) | split | dsimp only)

theorem execShaperReset_keeps {z s : State} (fn : Fin 65) (p : Fin 8) (data : Word) (hk : z.Keeps s) :
    z.KeepsNext (execShaperReset fn p data s) := by
  unfold execShaperReset
  repeat' (first
    | with_reducible assumption | with_reducible exact State.Keeps.refl _
    | with_reducible apply State.mmioWrite_keeps | with_reducible apply State.shaperReset_keeps
    | with_reducible apply State.KeepsNext.next | (intro _ _) | dsimp only)

/-! ### Machine/Mac.lean -/

theorem State.modPort_keeps {z s : State} {p : Nat} {f : Port → Port} (hk : z.Keeps s) :
    z.Keeps (State.modPort s p f) := by
  unfold State.modPort
  repeat' (first
    | with_reducible assumption | with_reducible exact State.Keeps.refl _ | with_reducible apply State.setPort_keeps)

theorem State.setTxIdle_keeps {z s : State} {p : Nat} {idle : Bool} (hk : z.Keeps s) :
    z.Keeps (State.setTxIdle s p idle) := by
  unfold State.setTxIdle
  repeat' (first
    | with_reducible assumption | with_reducible exact State.Keeps.refl _ | with_reducible apply State.modPort_keeps
    | fail_if_no_progress (first
        | refine State.Keeps.upd ?_ rfl (fun c => { c with })
        | refine State.Keeps.upd ?_ rfl (by
          intro c; cases c; constructor <;> repeat' first
            | assumption | exact Sparse.wf_put (by assumption) | exact Sparse.wf_ins (by assumption)
            | exact Sparse.wf_del (by assumption) | exact Sparse.wf_filter (by assumption) | rfl
            | (dsimp only; split) | split))
    | (intro _ _) | dsimp only)

theorem State.syncELost_keeps {z s : State} {p : Nat} (hk : z.Keeps s) : z.Keeps (State.syncELost s p) := by
  unfold State.syncELost
  repeat' (first
    | with_reducible assumption | with_reducible exact State.Keeps.refl _ | with_reducible apply State.dropFreq_keeps
    | with_reducible apply State.Keeps.ite | split)

theorem State.flushTq_keeps {z s : State} {p q : Nat} (hk : z.Keeps s) : z.Keeps (State.flushTq s p q) := by
  unfold State.flushTq
  repeat' (first
    | with_reducible assumption | with_reducible exact State.Keeps.refl _ | with_reducible apply State.setQueue_keeps
    | with_reducible apply State.count48_keeps | with_reducible apply forEach_keeps
    | with_reducible apply State.Keeps.ite | (intro _ _ _) | (intro _ _) | split | dsimp only)

theorem State.flushTqs_keeps {z s : State} {p : Nat} (hk : z.Keeps s) : z.Keeps (State.flushTqs s p) := by
  unfold State.flushTqs
  repeat' (first
    | with_reducible assumption | with_reducible exact State.Keeps.refl _ | with_reducible apply State.flushTq_keeps
    | with_reducible apply forUpTo_keeps | (intro _ _ _) | (intro _ _) | dsimp only)

theorem State.linkDown_keeps {z s : State} {p : Nat} (hk : z.Keeps s) : z.Keeps (State.linkDown s p) := by
  unfold State.linkDown
  repeat' (first
    | with_reducible assumption | with_reducible exact State.Keeps.refl _ | with_reducible apply State.raise_keeps
    | with_reducible apply State.count48_keeps | with_reducible apply State.dropHead_keeps
    | with_reducible apply State.clearAllHeads_keeps | with_reducible apply State.modPort_keeps
    | with_reducible apply State.Keeps.ite | (intro _ _) | split | dsimp only)

theorem State.setRxClock_keeps {z s : State} {p : Nat} {on : Bool} (hk : z.Keeps s) :
    z.Keeps (State.setRxClock s p on) := by
  unfold State.setRxClock
  repeat' (first
    | with_reducible assumption | with_reducible exact State.Keeps.refl _ | with_reducible apply State.wr_keeps
    | with_reducible apply State.syncELost_keeps | with_reducible apply State.Keeps.ite | split | dsimp only)

theorem State.askLane_keeps {z s : State} {p : Nat} (hk : z.Keeps s) : z.Keeps (State.askLane s p) := by
  unfold State.askLane
  repeat' (first
    | with_reducible assumption | with_reducible exact State.Keeps.refl _ | with_reducible apply State.ask_keeps
    | with_reducible apply State.Keeps.ite
    | fail_if_no_progress (first
        | refine State.Keeps.upd ?_ rfl (fun c => { c with })
        | refine State.Keeps.upd ?_ rfl (by
          intro c; cases c; constructor <;> repeat' first
            | assumption | exact Sparse.wf_put (by assumption) | exact Sparse.wf_ins (by assumption)
            | exact Sparse.wf_del (by assumption) | exact Sparse.wf_filter (by assumption) | rfl
            | (dsimp only; split) | split))
    | split | dsimp only)

theorem State.dropLane_keeps {z s : State} {p : Nat} (hk : z.Keeps s) : z.Keeps (State.dropLane s p) := by
  unfold State.dropLane
  repeat' (first
    | with_reducible assumption | with_reducible exact State.Keeps.refl _
    | fail_if_no_progress (first
        | refine State.Keeps.upd ?_ rfl (fun c => { c with })
        | refine State.Keeps.upd ?_ rfl (by
          intro c; cases c; constructor <;> repeat' first
            | assumption | exact Sparse.wf_put (by assumption) | exact Sparse.wf_ins (by assumption)
            | exact Sparse.wf_del (by assumption) | exact Sparse.wf_filter (by assumption) | rfl
            | (dsimp only; split) | split))
    | (intro _ _) | split | dsimp only)

theorem State.startPort_keeps {z s : State} {p : Nat} (hk : z.Keeps s) : z.Keeps (State.startPort s p) := by
  unfold State.startPort
  repeat' (first
    | with_reducible assumption | with_reducible exact State.Keeps.refl _ | with_reducible apply State.setOp_keeps
    | with_reducible apply State.modPort_keeps | with_reducible apply State.setTxIdle_keeps
    | with_reducible apply State.askLane_keeps | with_reducible apply State.Keeps.ite | (intro _ _) | split
    | dsimp only)

theorem State.portOff_keeps {z s : State} {p : Nat} (hk : z.Keeps s) : z.Keeps (State.portOff s p) := by
  unfold State.portOff
  repeat' (first
    | with_reducible assumption | with_reducible exact State.Keeps.refl _ | with_reducible apply State.setOp_keeps
    | with_reducible apply State.setTxIdle_keeps | with_reducible apply State.dropLane_keeps)

theorem State.portStopped_keeps {z s : State} {p : Nat} (hk : z.Keeps s) : z.Keeps (State.portStopped s p) := by
  unfold State.portStopped
  repeat' (first
    | with_reducible assumption | with_reducible exact State.Keeps.refl _
    | with_reducible apply State.startPort_keeps | with_reducible apply State.portOff_keeps
    | with_reducible apply State.Keeps.ite | split | dsimp only)

theorem State.stopPort_keeps {z s : State} {p : Nat} (hk : z.Keeps s) : z.Keeps (State.stopPort s p) := by
  unfold State.stopPort
  repeat' (first
    | with_reducible assumption | with_reducible exact State.Keeps.refl _ | with_reducible apply State.setOp_keeps
    | with_reducible apply State.modPort_keeps | with_reducible apply State.flushTqs_keeps
    | with_reducible apply State.setRxClock_keeps | with_reducible apply State.portStopped_keeps | (intro _ _)
    | dsimp only)

theorem State.quietPort_keeps {z s : State} {p : Nat} (hk : z.Keeps s) : z.Keeps (State.quietPort s p) := by
  unfold State.quietPort
  repeat' (first
    | with_reducible assumption | with_reducible exact State.Keeps.refl _ | with_reducible apply State.setOp_keeps
    | with_reducible apply State.setTxIdle_keeps | with_reducible apply State.linkDown_keeps
    | with_reducible apply State.setRxClock_keeps)

theorem State.macIntent_keeps {z s : State} {fn p data : Nat} (hk : z.Keeps s) :
    z.Keeps (State.macIntent s fn p data) := by
  unfold State.macIntent
  repeat' (first
    | with_reducible assumption | with_reducible exact State.Keeps.refl _
    | with_reducible apply State.storeIntent_keeps | with_reducible apply State.modPort_keeps
    | with_reducible apply State.startPort_keeps | with_reducible apply State.stopPort_keeps
    | with_reducible apply State.quietPort_keeps | with_reducible apply State.Keeps.ite | (intro _ _) | split
    | dsimp only)

theorem execMacHostStateWrite_keeps {z s : State} (fn : Fin 65) (p : Fin 8) (data : Word) (hk : z.Keeps s) :
    z.KeepsNext (execMacHostStateWrite fn p data s) := by
  unfold execMacHostStateWrite
  repeat' (first
    | with_reducible assumption | with_reducible exact State.Keeps.refl _
    | with_reducible apply State.mmioWrite_keeps | with_reducible apply State.macIntent_keeps
    | with_reducible apply State.KeepsNext.next | (intro _ _) | dsimp only)

theorem State.plateQuietPort_keeps {z s : State} {p : Nat} (hk : z.Keeps s) : z.Keeps (State.plateQuietPort s p) := by
  unfold State.plateQuietPort
  repeat' (first
    | with_reducible assumption | with_reducible exact State.Keeps.refl _ | with_reducible apply State.modPort_keeps
    | with_reducible apply State.portOff_keeps | with_reducible apply State.quietPort_keeps
    | with_reducible apply State.Keeps.ite | (intro _ _) | split | dsimp only)

theorem State.wakePort_keeps {z s : State} {p : Nat} (hk : z.Keeps s) : z.Keeps (State.wakePort s p) := by
  unfold State.wakePort
  repeat' (first
    | with_reducible assumption | with_reducible exact State.Keeps.refl _ | with_reducible apply State.modPort_keeps
    | with_reducible apply State.startPort_keeps | with_reducible apply State.stopPort_keeps
    | with_reducible apply State.Keeps.ite | (intro _ _) | split | dsimp only)

theorem State.faultPort_keeps {z s : State} {p : Nat} (hk : z.Keeps s) : z.Keeps (State.faultPort s p) := by
  unfold State.faultPort
  repeat' (first
    | with_reducible assumption | with_reducible exact State.Keeps.refl _ | with_reducible apply State.raise_keeps
    | with_reducible apply State.setOp_keeps | with_reducible apply State.setTxIdle_keeps
    | with_reducible apply State.syncELost_keeps | with_reducible apply State.linkDown_keeps
    | with_reducible apply State.Keeps.ite | split)

theorem execModuleAbsent_keeps {z s : State} (p : Fin 8) (high : Bool) (hk : z.Keeps s) :
    z.KeepsNext (execModuleAbsent p high s) := by
  unfold execModuleAbsent
  repeat' (first
    | with_reducible assumption | with_reducible exact State.Keeps.refl _ | with_reducible apply State.modPort_keeps
    | with_reducible apply State.setRxClock_keeps | with_reducible apply State.faultPort_keeps
    | with_reducible apply State.KeepsNext.next | with_reducible apply State.Keeps.ite | (intro _ _) | split
    | dsimp only)

theorem execModuleTxFault_keeps {z s : State} (p : Fin 8) (high : Bool) (ns : Nat) (hk : z.Keeps s) :
    z.KeepsNext (execModuleTxFault p high ns s) := by
  unfold execModuleTxFault
  repeat' (first
    | with_reducible assumption | with_reducible exact State.Keeps.refl _ | with_reducible apply State.modPort_keeps
    | with_reducible apply State.faultPort_keeps | with_reducible apply State.KeepsNext.next
    | with_reducible apply State.Keeps.ite | (intro _ _) | split | dsimp only)

theorem State.linkUpNow_keeps {z s : State} {p speed : Nat} (hk : z.Keeps s) :
    z.Keeps (State.linkUpNow s p speed) := by
  unfold State.linkUpNow
  repeat' (first
    | with_reducible assumption | with_reducible exact State.Keeps.refl _ | with_reducible apply State.raise_keeps
    | with_reducible apply State.setOp_keeps | with_reducible apply State.modPort_keeps
    | with_reducible apply State.Keeps.ite | (intro _ _) | split | dsimp only)

theorem execLinkUpDeclare_keeps {z s : State} (p : Fin 8) (speed : Fin 3) (heldNs : Nat) (hk : z.Keeps s) :
    z.KeepsNext (execLinkUpDeclare p speed heldNs s) := by
  unfold execLinkUpDeclare
  repeat' (first
    | with_reducible assumption | with_reducible exact State.Keeps.refl _
    | with_reducible apply State.setRxClock_keeps | with_reducible apply State.linkUpNow_keeps
    | with_reducible apply State.KeepsNext.next | with_reducible apply State.Keeps.ite | split | dsimp only)

theorem execLinkDownDeclare_keeps {z s : State} (p : Fin 8) (remote : Bool) (hk : z.Keeps s) :
    z.KeepsNext (execLinkDownDeclare p remote s) := by
  unfold execLinkDownDeclare
  repeat' (first
    | with_reducible assumption | with_reducible exact State.Keeps.refl _ | with_reducible apply State.modPort_keeps
    | with_reducible apply State.linkDown_keeps | with_reducible apply State.setRxClock_keeps
    | with_reducible apply State.KeepsNext.next | with_reducible apply State.Keeps.ite | (intro _ _) | split
    | dsimp only)

theorem State.graceEnd_keeps {z s : State} {p : Nat} (hk : z.Keeps s) : z.Keeps (State.graceEnd s p) := by
  unfold State.graceEnd
  repeat' (first
    | with_reducible assumption | with_reducible exact State.Keeps.refl _ | with_reducible apply State.raise_keeps
    | with_reducible apply State.modPort_keeps | with_reducible apply State.flushTqs_keeps
    | with_reducible apply State.Keeps.ite | (intro _ _) | split | dsimp only)

theorem execFlapGraceExpire_keeps {z s : State} (p : Fin 8) (hk : z.Keeps s) :
    z.KeepsNext (execFlapGraceExpire p s) := by
  unfold execFlapGraceExpire
  repeat' (first
    | with_reducible assumption | with_reducible exact State.Keeps.refl _ | with_reducible apply State.graceEnd_keeps
    | with_reducible apply State.KeepsNext.next)

theorem State.pauseIn_keeps {z s : State} {p quanta : Nat} (hk : z.Keeps s) : z.Keeps (State.pauseIn s p quanta) := by
  unfold State.pauseIn
  repeat' (first
    | with_reducible assumption | with_reducible exact State.Keeps.refl _ | with_reducible apply State.setPort_keeps
    | with_reducible apply State.count48_keeps | with_reducible apply State.Keeps.ite | split | dsimp only)

theorem execPauseFrameReceived_keeps {z s : State} (p : Fin 8) (quanta : BitVec 16) (hk : z.Keeps s) :
    z.KeepsNext (execPauseFrameReceived p quanta s) := by
  unfold execPauseFrameReceived
  repeat' (first
    | with_reducible assumption | with_reducible exact State.Keeps.refl _ | with_reducible apply State.pauseIn_keeps
    | with_reducible apply State.KeepsNext.next | with_reducible apply State.Keeps.ite | split)

theorem execPauseTimerExpire_keeps {z s : State} (p : Fin 8) (hk : z.Keeps s) :
    z.KeepsNext (execPauseTimerExpire p s) := by
  unfold execPauseTimerExpire
  repeat' (first
    | with_reducible assumption | with_reducible exact State.Keeps.refl _ | with_reducible apply State.modPort_keeps
    | with_reducible apply State.KeepsNext.next | with_reducible apply State.Keeps.ite | (intro _ _) | split
    | dsimp only)

theorem execPauseGuardExpire_keeps {z s : State} (p : Fin 8) (hk : z.Keeps s) :
    z.KeepsNext (execPauseGuardExpire p s) := by
  unfold execPauseGuardExpire
  repeat' (first
    | with_reducible assumption | with_reducible exact State.Keeps.refl _ | with_reducible apply State.raise_keeps
    | with_reducible apply State.count48_keeps | with_reducible apply State.modPort_keeps
    | with_reducible apply State.KeepsNext.next | with_reducible apply State.Keeps.ite | (intro _ _) | split
    | dsimp only)

theorem execPauseHoldEnd_keeps {z s : State} (p : Fin 8) (hk : z.Keeps s) : z.KeepsNext (execPauseHoldEnd p s) := by
  unfold execPauseHoldEnd
  repeat' (first
    | with_reducible assumption | with_reducible exact State.Keeps.refl _ | with_reducible apply State.modPort_keeps
    | with_reducible apply State.KeepsNext.next | with_reducible apply State.Keeps.ite | (intro _ _) | split
    | dsimp only)

theorem State.pauseOut_keeps {z s : State} {p quanta : Nat} (hk : z.Keeps s) :
    z.Keeps (State.pauseOut s p quanta) := by
  unfold State.pauseOut
  repeat' (first
    | with_reducible assumption | with_reducible exact State.Keeps.refl _ | with_reducible apply State.emit_keeps
    | with_reducible apply State.count48_keeps | with_reducible apply State.modPort_keeps | (intro _ _) | dsimp only)

theorem State.pauseNow_keeps {z s : State} {p : Nat} (hk : z.Keeps s) : z.Keeps (State.pauseNow s p) := by
  unfold State.pauseNow
  repeat' (first
    | with_reducible assumption | with_reducible exact State.Keeps.refl _ | with_reducible apply State.modPort_keeps
    | with_reducible apply State.pauseOut_keeps | (intro _ _) | dsimp only)

theorem State.pauseCheck_keeps {z s : State} {p : Nat} (hk : z.Keeps s) : z.Keeps (State.pauseCheck s p) := by
  unfold State.pauseCheck
  repeat' (first
    | with_reducible assumption | with_reducible exact State.Keeps.refl _ | with_reducible apply State.modPort_keeps
    | with_reducible apply State.pauseOut_keeps | with_reducible apply State.pauseNow_keeps
    | with_reducible apply State.Keeps.ite | (intro _ _) | split | dsimp only)

theorem execPauseTxRepeat_keeps {z s : State} (p : Fin 8) (hk : z.Keeps s) : z.KeepsNext (execPauseTxRepeat p s) := by
  unfold execPauseTxRepeat
  repeat' (first
    | with_reducible assumption | with_reducible exact State.Keeps.refl _ | with_reducible apply State.pauseNow_keeps
    | with_reducible apply State.pauseCheck_keeps | with_reducible apply State.KeepsNext.next
    | with_reducible apply State.Keeps.ite | split)

theorem execQueueFlush_keeps {z s : State} (fn : Fin 65) (p : Fin 8) (q : Fin 1024) (hk : z.Keeps s) :
    z.KeepsNext (execQueueFlush fn p q s) := by
  unfold execQueueFlush
  repeat' (first
    | with_reducible assumption | with_reducible exact State.Keeps.refl _
    | with_reducible apply State.mmioWrite_keeps | with_reducible apply State.flushQueue_keeps
    | with_reducible apply State.pauseCheck_keeps | with_reducible apply State.KeepsNext.next | (intro _ _)
    | dsimp only)

theorem execTxEntryExpire_keeps {z s : State} (p q : Fin 8) (hk : z.Keeps s) :
    z.KeepsNext (execTxEntryExpire p q s) := by
  unfold execTxEntryExpire
  repeat' (first
    | with_reducible assumption | with_reducible exact State.Keeps.refl _ | with_reducible apply State.dropHead_keeps
    | with_reducible apply State.pauseCheck_keeps | with_reducible apply State.KeepsNext.next
    | with_reducible apply forUpTo_keeps | with_reducible apply State.Keeps.ite | (intro _ _ _) | (intro _ _) | split
    | dsimp only)

theorem execFrameFirstByte_keeps {z s : State} (p : Fin 8) (head : List Byte) (hk : z.Keeps s) :
    z.KeepsNext (execFrameFirstByte p head s) := by
  unfold execFrameFirstByte
  repeat' (first
    | with_reducible assumption | with_reducible exact State.Keeps.refl _ | with_reducible apply State.notePool_keeps
    | with_reducible apply State.queueDrop_keeps | with_reducible apply State.countRefusal_keeps
    | with_reducible apply State.modPort_keeps | with_reducible apply State.pauseCheck_keeps
    | with_reducible apply State.KeepsNext.next | with_reducible apply State.Keeps.ite | (intro _ _) | split
    | dsimp only)

theorem State.decideFrame_keeps {z s : State} {p : Nat} {f : RxFrame} {bytes : List Byte} {align fcsOk : Bool} (hk :
    z.Keeps s) : z.Keeps (State.decideFrame s p f bytes align fcsOk) := by
  unfold State.decideFrame
  repeat' (first
    | with_reducible assumption | with_reducible exact State.Keeps.refl _ | with_reducible apply State.setQueue_keeps
    | with_reducible apply State.drawCell_keeps | with_reducible apply State.noteQueuePeak_keeps
    | with_reducible apply State.count48_keeps | with_reducible apply State.modPort_keeps
    | with_reducible apply State.pauseIn_keeps | with_reducible apply State.Keeps.ite | (intro _ _) | split
    | dsimp only)

theorem execFrameReceived_keeps {z s : State} (p : Fin 8) (bytes : List Byte) (align fcsOk : Bool) (hk : z.Keeps s) :
    z.KeepsNext (execFrameReceived p bytes align fcsOk s) := by
  unfold execFrameReceived
  repeat' (first
    | with_reducible assumption | with_reducible exact State.Keeps.refl _
    | with_reducible apply State.pauseCheck_keeps | with_reducible apply State.decideFrame_keeps
    | with_reducible apply State.KeepsNext.next | with_reducible apply State.Keeps.ite | split)

theorem State.txRecord_keeps {z s : State} {p : Nat} {r : TxTs} (hk : z.Keeps s) :
    z.Keeps (State.txRecord s p r) := by
  unfold State.txRecord
  repeat' (first
    | with_reducible assumption | with_reducible exact State.Keeps.refl _ | with_reducible apply State.bumpSat_keeps
    | with_reducible apply State.raise_keeps | with_reducible apply State.setPort_keeps
    | with_reducible apply State.Keeps.ite | split | dsimp only)

theorem State.startFrame_keeps {z s : State} {p n : Nat} {e : Entry} (hk : z.Keeps s) :
    z.Keeps (State.startFrame s p n e) := by
  unfold State.startFrame
  repeat' (first
    | with_reducible assumption | with_reducible exact State.Keeps.refl _
    | with_reducible apply State.shaperCharge_keeps | with_reducible apply State.modPort_keeps
    | with_reducible apply State.txRecord_keeps | with_reducible apply State.Keeps.ite | (intro _ _) | split
    | dsimp only)

theorem State.choose_keeps {z s : State} {p : Nat} (hk : z.Keeps s) : z.Keeps (s.choose p) := by
  have ht : z.Keeps (s.clearAllHeads p) := State.clearAllHeads_keeps hk
  unfold State.choose
  refine State.Keeps.ite hk ?_
  dsimp only
  generalize List.find? (fun n => (s.clearAllHeads p).tqSends p n) [7, 6, 5, 4, 3, 2, 1, 0] = o
  cases o with
  | none => exact ht
  | some n =>
    dsimp only
    generalize (s.clearAllHeads p).queue p n = l
    cases l with
    | nil => exact ht
    | cons e r => exact State.startFrame_keeps ht

theorem execTransmitChoice_keeps {z s : State} (p : Fin 8) (hk : z.Keeps s) :
    z.KeepsNext (execTransmitChoice p s) := by
  unfold execTransmitChoice
  repeat' (first
    | with_reducible assumption | with_reducible exact State.Keeps.refl _ | with_reducible apply State.choose_keeps
    | with_reducible apply State.KeepsNext.next)

theorem execGateEdge_keeps {z s : State} (p : Fin 8) (hk : z.Keeps s) : z.KeepsNext (execGateEdge p s) := by
  unfold execGateEdge
  repeat' (first
    | with_reducible assumption | with_reducible exact State.Keeps.refl _ | with_reducible apply State.choose_keeps
    | with_reducible apply State.KeepsNext.next)

theorem execRefillTick_keeps {z s : State} (p : Fin 8) (hk : z.Keeps s) : z.KeepsNext (execRefillTick p s) := by
  unfold execRefillTick
  repeat' (first
    | with_reducible assumption | with_reducible exact State.Keeps.refl _ | with_reducible apply State.refill_keeps
    | with_reducible apply State.choose_keeps | with_reducible apply State.KeepsNext.next
    | with_reducible apply forUpTo_keeps | with_reducible apply State.Keeps.ite | (intro _ _ _) | (intro _ _) | split
    | dsimp only)

theorem execTransmitEnd_keeps {z s : State} (p : Fin 8) (hk : z.Keeps s) : z.KeepsNext (execTransmitEnd p s) := by
  unfold execTransmitEnd
  repeat' (first
    | with_reducible assumption | with_reducible exact State.Keeps.refl _ | with_reducible apply State.emit_keeps
    | with_reducible apply State.setQueue_keeps | with_reducible apply State.count48_keeps
    | with_reducible apply State.clearAllHeads_keeps | with_reducible apply State.modPort_keeps
    | with_reducible apply State.portStopped_keeps | with_reducible apply State.pauseCheck_keeps
    | with_reducible apply State.KeepsNext.next | with_reducible apply State.Keeps.ite | (intro _ _) | split
    | dsimp only)

theorem execTxUnderrun_keeps {z s : State} (p : Fin 8) (sent : Nat) (hk : z.Keeps s) :
    z.KeepsNext (execTxUnderrun p sent s) := by
  unfold execTxUnderrun
  repeat' (first
    | with_reducible assumption | with_reducible exact State.Keeps.refl _ | with_reducible apply State.wr_keeps
    | with_reducible apply State.emit_keeps | with_reducible apply State.raise_keeps
    | with_reducible apply State.dropHead_keeps | with_reducible apply State.clearAllHeads_keeps
    | with_reducible apply State.modPort_keeps | with_reducible apply State.portStopped_keeps
    | with_reducible apply State.pauseCheck_keeps | with_reducible apply State.KeepsNext.next
    | with_reducible apply State.Keeps.ite | (intro _ _) | split | dsimp only)

theorem State.txtsPopEffect_keeps {z s : State} {p : Nat} (hk : z.Keeps s) : z.Keeps (State.txtsPopEffect s p).2 := by
  unfold State.txtsPopEffect
  repeat' (first
    | with_reducible assumption | with_reducible exact State.Keeps.refl _ | with_reducible apply State.modPort_keeps
    | (intro _ _) | dsimp only)

theorem execTxtsPopRead_keeps {z s : State} (fn : Fin 65) (p : Fin 8) (hk : z.Keeps s) :
    z.KeepsNext (execTxtsPopRead fn p s) := by
  unfold execTxtsPopRead
  repeat' (first
    | with_reducible assumption | with_reducible exact State.Keeps.refl _ | with_reducible apply State.mmioRead_keeps
    | with_reducible apply State.txtsPopEffect_keeps | with_reducible apply State.KeepsNext.next | (intro _ _)
    | dsimp only)

/-! ### Machine/MediaSend.lean -/

theorem execEventUpdateSend_keeps {z s : State} (g : Fin 2048) (hk : z.Keeps s) :
    z.KeepsNext (execEventUpdateSend g s) := by
  unfold execEventUpdateSend
  repeat' (first
    | with_reducible assumption | with_reducible exact State.Keeps.refl _ | with_reducible apply State.modMedia_keeps
    | with_reducible apply State.sendEvent_keeps | with_reducible apply State.segmentEvent_keeps
    | with_reducible apply State.choose_keeps | with_reducible apply State.KeepsNext.next
    | with_reducible apply State.Keeps.ite | (intro _ _) | split | dsimp only)

theorem execEventEndSend_keeps {z s : State} (g : Fin 2048) (hk : z.Keeps s) :
    z.KeepsNext (execEventEndSend g s) := by
  unfold execEventEndSend
  repeat' (first
    | with_reducible assumption | with_reducible exact State.Keeps.refl _ | with_reducible apply State.modMedia_keeps
    | with_reducible apply State.endEvent_keeps | with_reducible apply State.choose_keeps
    | with_reducible apply State.KeepsNext.next | with_reducible apply foldl_keeps
    | with_reducible apply foldl_keeps_snd | (intro _ _ _) | (intro _ _) | split | dsimp only)

theorem execRtcpSend_keeps {z s : State} (g : Fin 2048) (hk : z.Keeps s) : z.KeepsNext (execRtcpSend g s) := by
  unfold execRtcpSend
  repeat' (first
    | with_reducible assumption | with_reducible exact State.Keeps.refl _ | with_reducible apply State.sendRtcp_keeps
    | with_reducible apply State.choose_keeps | with_reducible apply State.KeepsNext.next
    | with_reducible apply State.Keeps.ite | split)

/-! ### Machine/Dma.lean -/

theorem State.modOp_keeps {z s : State} {t id : Nat} {f : DmaOp → DmaOp} (hk : z.Keeps s) :
    z.Keeps (State.modOp s t id f) := by
  unfold State.modOp
  repeat' (first
    | with_reducible assumption | with_reducible exact State.Keeps.refl _ | with_reducible apply State.setRing_keeps
    | with_reducible apply State.Keeps.ite | (intro _ _) | split | dsimp only)

theorem State.dmaEnd_keeps {z s : State} {t id status doneLen : Nat} (hk : z.Keeps s) :
    z.Keeps (State.dmaEnd s t id status doneLen) := by
  unfold State.dmaEnd
  repeat' (first
    | with_reducible assumption | with_reducible exact State.Keeps.refl _ | with_reducible apply State.bumpSat_keeps
    | with_reducible apply State.endOp_keeps | with_reducible apply State.Keeps.ite | split | dsimp only)

theorem State.dmaRefuse_keeps {z s : State} {t id status doneLen : Nat} (hk : z.Keeps s) :
    z.Keeps (State.dmaRefuse s t id status doneLen) := by
  unfold State.dmaRefuse
  repeat' (first
    | with_reducible assumption | with_reducible exact State.Keeps.refl _ | with_reducible apply State.bumpSat_keeps
    | with_reducible apply State.raise_keeps | with_reducible apply State.dmaEnd_keeps)

theorem State.dmaViolate_keeps {z s : State} {t id kind access addr : Nat} (hk : z.Keeps s) :
    z.Keeps (State.dmaViolate s t id kind access addr) := by
  unfold State.dmaViolate
  repeat' (first
    | with_reducible assumption | with_reducible exact State.Keeps.refl _ | with_reducible apply State.setRing_keeps
    | with_reducible apply State.violate_keeps | with_reducible apply State.Keeps.ite | (intro _ _) | split
    | dsimp only)

theorem State.dmaOutOfWindow_keeps {z s : State} {t : Nat} {o : DmaOp} (hk : z.Keeps s) :
    z.Keeps (State.dmaOutOfWindow s t o) := by
  unfold State.dmaOutOfWindow
  repeat' (first
    | with_reducible assumption | with_reducible exact State.Keeps.refl _
    | with_reducible apply State.dmaRefuse_keeps | with_reducible apply State.dmaViolate_keeps
    | with_reducible apply State.Keeps.ite | split)

theorem State.dmaCheck_keeps {z s v : State} {t : Nat} {o : DmaOp} (hk : z.Keeps s) (hv : s.dmaCheck t o = some v) :
    z.Keeps v := by
  unfold State.dmaCheck at hv
  dsimp only at hv
  split at hv
  · cases hv; exact State.dmaRefuse_keeps hk
  · split at hv
    · cases hv; exact State.dmaViolate_keeps (State.dmaEnd_keeps hk)
    · split at hv
      · cases hv; exact State.dmaOutOfWindow_keeps hk
      · split at hv
        · split at hv
          · cases hv; exact State.dmaEnd_keeps hk
          · split at hv
            · cases hv; exact State.dmaEnd_keeps hk
            · cases hv
        · split at hv
          · cases hv
          · cases hv; exact State.dmaEnd_keeps (State.countRefusal_keeps hk)

theorem State.writeOne_keeps {z s : State} {t id : Nat} (hk : z.Keeps s) : z.Keeps (State.writeOne s t id) := by
  unfold State.writeOne
  repeat' (first
    | with_reducible assumption | with_reducible exact State.Keeps.refl _ | with_reducible apply State.emit_keeps
    | with_reducible apply State.modOp_keeps | with_reducible apply State.dmaEnd_keeps
    | with_reducible apply State.dmaOutOfWindow_keeps | with_reducible apply State.Keeps.ite | (intro _ _) | split
    | dsimp only)

theorem State.pumpOne_keeps {z s : State} {t id : Nat} (hk : z.Keeps s) : z.Keeps (State.pumpOne s t id) := by
  unfold State.pumpOne
  repeat' (first
    | with_reducible assumption | with_reducible exact State.Keeps.refl _ | with_reducible apply State.emit_keeps
    | with_reducible apply State.modOp_keeps | with_reducible apply State.dmaOutOfWindow_keeps
    | with_reducible apply State.Keeps.ite | (intro _ _) | split | dsimp only)

theorem State.pump_keeps {z s : State} {t id : Nat} (hk : z.Keeps s) : z.Keeps (State.pump s t id) := by
  unfold State.pump
  repeat' (first
    | with_reducible assumption | with_reducible exact State.Keeps.refl _ | with_reducible apply State.pumpOne_keeps
    | with_reducible apply forUpTo_keeps | (intro _ _ _) | (intro _ _) | dsimp only)

theorem State.pumpAll_keeps {z s : State} {p : Nat} (hk : z.Keeps s) : z.Keeps (State.pumpAll s p) := by
  unfold State.pumpAll
  repeat' (first
    | with_reducible assumption | with_reducible exact State.Keeps.refl _ | with_reducible apply State.writeOne_keeps
    | with_reducible apply State.pump_keeps | with_reducible apply forEach_keeps | with_reducible apply forUpTo_keeps
    | (intro _ _ _) | (intro _ _) | dsimp only)

theorem State.dmaIntent_keeps {z s : State} {fn p data : Nat} (hk : z.Keeps s) :
    z.Keeps (State.dmaIntent s fn p data) := by
  unfold State.dmaIntent
  repeat' (first
    | with_reducible assumption | with_reducible exact State.Keeps.refl _
    | with_reducible apply State.storeIntent_keeps | with_reducible apply State.Keeps.ite | split)

theorem execDmaHostStateWrite_keeps {z s : State} (fn : Fin 65) (p : Fin 8) (data : Word) (hk : z.Keeps s) :
    z.KeepsNext (execDmaHostStateWrite fn p data s) := by
  unfold execDmaHostStateWrite
  repeat' (first
    | with_reducible assumption | with_reducible exact State.Keeps.refl _
    | with_reducible apply State.mmioWrite_keeps | with_reducible apply State.dmaIntent_keeps
    | with_reducible apply State.KeepsNext.next | (intro _ _) | dsimp only)

theorem State.dmaEnableEffect_keeps {z s : State} {fn t data : Nat} (hk : z.Keeps s) :
    z.Keeps (State.dmaEnableEffect s fn t data) := by
  unfold State.dmaEnableEffect
  repeat' (first
    | with_reducible assumption | with_reducible exact State.Keeps.refl _ | with_reducible apply State.setRing_keeps
    | with_reducible apply State.storeWord_keeps | with_reducible apply State.Keeps.ite | (intro _ _) | split
    | dsimp only)

theorem execDmaEnableWrite_keeps {z s : State} (fn : Fin 65) (t : Fin 64) (data : Word) (hk : z.Keeps s) :
    z.KeepsNext (execDmaEnableWrite fn t data s) := by
  unfold execDmaEnableWrite
  repeat' (first
    | with_reducible assumption | with_reducible exact State.Keeps.refl _
    | with_reducible apply State.mmioWrite_keeps | with_reducible apply State.dmaEnableEffect_keeps
    | with_reducible apply State.KeepsNext.next | (intro _ _) | dsimp only)

theorem State.takeHeader_keeps {z s : State} {t dw0 dw1 : Nat} (hk : z.Keeps s) :
    z.Keeps (State.takeHeader s t dw0 dw1) := by
  unfold State.takeHeader
  repeat' (first
    | with_reducible assumption | with_reducible exact State.Keeps.refl _ | with_reducible apply State.bumpSat_keeps
    | with_reducible apply State.setRing_keeps | with_reducible apply State.raise_keeps
    | with_reducible apply State.Keeps.ite | split | dsimp only)

theorem State.pollFails_keeps {z s : State} {t : Nat} (hk : z.Keeps s) : z.Keeps (State.pollFails s t) := by
  unfold State.pollFails
  repeat' (first
    | with_reducible assumption | with_reducible exact State.Keeps.refl _ | with_reducible apply State.bumpSat_keeps)

theorem execDmaRingPoll_keeps {z s : State} (t : Fin 64) (header : HeaderRead) (hk : z.Keeps s) :
    z.KeepsNext (execDmaRingPoll t header s) := by
  unfold execDmaRingPoll
  repeat' (first
    | with_reducible assumption | with_reducible exact State.Keeps.refl _ | with_reducible apply State.emit_keeps
    | with_reducible apply State.setRing_keeps | with_reducible apply State.noteTimeout_keeps
    | with_reducible apply State.notePoisoned_keeps | with_reducible apply State.takeHeader_keeps
    | with_reducible apply State.pollFails_keeps | with_reducible apply State.KeepsNext.next
    | with_reducible apply State.Keeps.ite | split | dsimp only)

theorem State.takeDescriptor_keeps {z s : State} {t : Nat} {o : DmaOp} (hk : z.Keeps s) :
    z.Keeps (State.takeDescriptor s t o) := by
  unfold State.takeDescriptor
  repeat' (first
    | with_reducible assumption | with_reducible exact State.Keeps.refl _ | with_reducible apply State.emit_keeps
    | with_reducible apply State.setRing_keeps)

theorem State.readDescriptor_keeps {z s : State} {t i : Nat} {desc : DescRead} (hk : z.Keeps s) :
    z.Keeps (s.readDescriptor t i desc) := by
  unfold State.readDescriptor
  have hd := fun o => State.takeDescriptor_keeps (t := t) (o := o) hk
  cases desc with
  | data dw0 dw1 addr cookie =>
    dsimp only
    generalize ho : DmaOp.mk .. = o
    have hk' := hd o
    cases hc : (s.takeDescriptor t o).dmaCheck t o with
    | none => exact hk'
    | some v => exact State.dmaCheck_keeps hk' hc
  | timeout => exact State.noteTimeout_keeps (State.dmaEnd_keeps (hd _))
  | poisoned => exact State.notePoisoned_keeps (State.dmaEnd_keeps (hd _))

theorem execDmaDescriptorRead_keeps {z s : State} (t : Fin 64) (desc : DescRead) (hk : z.Keeps s) :
    z.KeepsNext (execDmaDescriptorRead t desc s) := by
  unfold execDmaDescriptorRead
  repeat' (first
    | with_reducible assumption | with_reducible exact State.Keeps.refl _
    | with_reducible apply State.readDescriptor_keeps | with_reducible apply State.KeepsNext.next
    | with_reducible apply State.Keeps.ite | split)

theorem State.startRead_keeps {z s : State} {t : Nat} {o : DmaOp} (hk : z.Keeps s) :
    z.Keeps (State.startRead s t o) := by
  unfold State.startRead
  repeat' (first
    | with_reducible assumption | with_reducible exact State.Keeps.refl _ | with_reducible apply State.notePool_keeps
    | with_reducible apply State.pauseCheck_keeps | with_reducible apply State.modOp_keeps
    | with_reducible apply State.pump_keeps | (intro _ _) | dsimp only)

theorem State.startWrite_keeps {z s : State} {t : Nat} {o : DmaOp} (hk : z.Keeps s) :
    z.Keeps (State.startWrite s t o) := by
  unfold State.startWrite
  repeat' (first
    | with_reducible assumption | with_reducible exact State.Keeps.refl _ | with_reducible apply State.setQueue_keeps
    | with_reducible apply State.modOp_keeps | with_reducible apply State.writeOne_keeps | (intro _ _) | split
    | dsimp only)

theorem State.startOp_keeps {z s : State} {t : Nat} (hk : z.Keeps s) : z.Keeps (s.startOp t) := by
  unfold State.startOp
  split
  · exact hk
  · next o _ =>
    extract_lets u
    have hu : z.Keeps u := State.Keeps.upd hk rfl (fun c => { c with dmaLast := Sparse.wf_put c.dmaLast })
    clear_value u
    split
    · next v hc => exact State.dmaCheck_keeps hu hc
    · exact State.Keeps.ite (State.startWrite_keeps hu) (State.startRead_keeps hu)

theorem execDmaOperationStart_keeps {z s : State} (p : Fin 8) (hk : z.Keeps s) :
    z.KeepsNext (execDmaOperationStart p s) := by
  have ha : z.Keeps (s.pumpAll p) := State.pumpAll_keeps hk
  unfold execDmaOperationStart
  refine .next ?_
  dsimp only
  generalize List.find? _ (List.range 8) = o
  cases o with
  | none => exact ha
  | some k => exact State.startOp_keeps ha

theorem State.deliver_keeps {z s : State} {p q k : Nat} {bytes : List Byte} (hk : z.Keeps s) :
    z.Keeps (State.deliver s p q k bytes) := by
  unfold State.deliver
  repeat' (first
    | with_reducible assumption | with_reducible exact State.Keeps.refl _ | with_reducible apply State.setQueue_keeps
    | with_reducible apply State.drawCell_keeps | with_reducible apply State.noteQueuePeak_keeps
    | with_reducible apply State.count48_keeps | with_reducible apply State.choose_keeps
    | with_reducible apply State.Keeps.ite | split | dsimp only)

theorem State.readDone_keeps {z s : State} {t : Nat} {o : DmaOp} {got : Sparse (List Byte)} (hk : z.Keeps s) :
    z.Keeps (State.readDone s t o got) := by
  unfold State.readDone
  repeat' (first
    | with_reducible assumption | with_reducible exact State.Keeps.refl _
    | with_reducible apply State.pauseCheck_keeps | with_reducible apply State.dmaEnd_keeps
    | with_reducible apply State.deliver_keeps)

theorem State.strayCompletion_keeps {z s : State} {t idx off : Nat} (hk : z.Keeps s) :
    z.Keeps (State.strayCompletion s t idx off) := by
  unfold State.strayCompletion
  repeat' (first
    | with_reducible assumption | with_reducible exact State.Keeps.refl _ | with_reducible apply State.setRing_keeps
    | with_reducible apply State.logAer_keeps | with_reducible apply State.Keeps.ite | split | dsimp only)

theorem State.readArrives_keeps {z s : State} {t idx off : Nat} {data : List Byte} (hk : z.Keeps s) :
    z.Keeps (State.readArrives s t idx off data) := by
  unfold State.readArrives
  repeat' (first
    | with_reducible assumption | with_reducible exact State.Keeps.refl _ | with_reducible apply State.modOp_keeps
    | with_reducible apply State.pump_keeps | with_reducible apply State.readDone_keeps
    | with_reducible apply State.strayCompletion_keeps | with_reducible apply State.Keeps.ite | (intro _ _) | split
    | dsimp only)

theorem execDmaReadCompletion_keeps {z s : State} (t : Fin 64) (idx off : Nat) (data : List Byte) (hk : z.Keeps s) :
    z.KeepsNext (execDmaReadCompletion t idx off data s) := by
  unfold execDmaReadCompletion
  repeat' (first
    | with_reducible assumption | with_reducible exact State.Keeps.refl _
    | with_reducible apply State.overdueTimeout_keeps | with_reducible apply State.readArrives_keeps
    | with_reducible apply State.KeepsNext.next | with_reducible apply State.Keeps.ite | split)

theorem State.writeStatus_keeps {z s : State} {t : Nat} {o : DmaOp} {rest : List DmaOp} (hk : z.Keeps s) :
    z.Keeps (State.writeStatus s t o rest) := by
  unfold State.writeStatus
  repeat' (first
    | with_reducible assumption | with_reducible exact State.Keeps.refl _ | with_reducible apply State.bumpSat_keeps
    | with_reducible apply State.emit_keeps | with_reducible apply State.setRing_keeps
    | with_reducible apply State.sendMsix_keeps | with_reducible apply State.pauseCheck_keeps
    | with_reducible apply State.Keeps.ite | split | dsimp only)

theorem execDmaStatusWrite_keeps {z s : State} (t : Fin 64) (hk : z.Keeps s) :
    z.KeepsNext (execDmaStatusWrite t s) := by
  unfold execDmaStatusWrite
  repeat' (first
    | with_reducible assumption | with_reducible exact State.Keeps.refl _
    | with_reducible apply State.writeStatus_keeps | with_reducible apply State.KeepsNext.next
    | with_reducible apply State.Keeps.ite | split)

end Sys2Proof.Machine
end

