-- ==== Sys2Proof/Laws/KeepsTime.lean ====
section
/-! SUPPORT. Every definition of the front end, the timebase and quiet mode that changes the state keeps what `State.Keeps` says, one law each. -/

set_option linter.unusedTactic false
set_option linter.unreachableTactic false

namespace Sys2Proof.Machine

/-! ### Machine/FrontEnd.lean -/

theorem State.setTherm_keeps {z s : State} {n : Nat} {t : Therm} (hk : z.Keeps s) :
    z.Keeps (State.setTherm s n t) := by
  unfold State.setTherm
  repeat' (first
    | with_reducible assumption | with_reducible exact State.Keeps.refl _
    | fail_if_no_progress (first
        | refine State.Keeps.upd ?_ rfl (fun c => { c with })
        | refine State.Keeps.upd ?_ rfl (by
          intro c; cases c; constructor <;> repeat' first
            | assumption | exact Sparse.wf_put (by assumption) | exact Sparse.wf_ins (by assumption)
            | exact Sparse.wf_del (by assumption) | exact Sparse.wf_filter (by assumption) | rfl
            | (dsimp only; split) | split)))

theorem State.thInvalid_keeps {z s : State} {n : Nat} (hk : z.Keeps s) : z.Keeps (State.thInvalid s n) := by
  unfold State.thInvalid
  repeat' (first
    | with_reducible assumption | with_reducible exact State.Keeps.refl _ | with_reducible apply State.raise_keeps
    | with_reducible apply State.setTherm_keeps | with_reducible apply State.Keeps.ite | split | dsimp only)

theorem State.rateWord_keeps {z s : State} {v : Int} (hk : z.Keeps s) : z.Keeps (State.rateWord s v).2 := by
  unfold State.rateWord
  repeat' (first
    | with_reducible assumption | with_reducible exact State.Keeps.refl _ | with_reducible apply State.drawNat_keeps
    | with_reducible apply State.Keeps.ite | split | dsimp only)

theorem State.reportTemp_keeps {z s : State} {n : Nat} {y : Int} (hk : z.Keeps s) :
    z.Keeps (State.reportTemp s n y) := by
  unfold State.reportTemp
  repeat' (first
    | with_reducible assumption | with_reducible exact State.Keeps.refl _ | with_reducible apply State.wrS_keeps
    | with_reducible apply State.modTb_keeps | with_reducible apply State.Keeps.ite
    | fail_if_no_progress (first
        | refine State.Keeps.upd ?_ rfl (fun c => { c with })
        | refine State.Keeps.upd ?_ rfl (by
          intro c; cases c; constructor <;> repeat' first
            | assumption | exact Sparse.wf_put (by assumption) | exact Sparse.wf_ins (by assumption)
            | exact Sparse.wf_del (by assumption) | exact Sparse.wf_filter (by assumption) | rfl
            | (dsimp only; split) | split))
    | (intro _ _) | split | dsimp only)

theorem State.thReading_keeps {z s : State} {n : Nat} {x t : Int} (hk : z.Keeps s) :
    z.Keeps (State.thReading s n x t) := by
  unfold State.thReading
  repeat' (first
    | with_reducible assumption | with_reducible exact State.Keeps.refl _ | with_reducible apply State.wrS_keeps
    | with_reducible apply State.bumpSat_keeps | with_reducible apply State.raise_keeps
    | with_reducible apply State.setTherm_keeps | with_reducible apply State.thInvalid_keeps
    | with_reducible apply State.reportTemp_keeps | with_reducible apply State.Keeps.ite | split | dsimp only)

theorem State.convert_keeps {z s : State} {n : Nat} {x : Converted} (hk : z.Keeps s) :
    z.Keeps (State.convert s n x).2 := by
  unfold State.convert
  repeat' (first
    | with_reducible assumption | with_reducible exact State.Keeps.refl _
    | fail_if_no_progress (first
        | refine State.Keeps.upd ?_ rfl (fun c => { c with })
        | refine State.Keeps.upd ?_ rfl (by
          intro c; cases c; constructor <;> repeat' first
            | assumption | exact Sparse.wf_put (by assumption) | exact Sparse.wf_ins (by assumption)
            | exact Sparse.wf_del (by assumption) | exact Sparse.wf_filter (by assumption) | rfl
            | (dsimp only; split) | split))
    | dsimp only)

theorem State.thConvert_keeps {z s : State} {n : Nat} {th : Bridge} (hk : z.Keeps s) :
    z.Keeps (State.thConvert s n th).2 := by
  unfold State.thConvert
  repeat' (first
    | with_reducible assumption | with_reducible exact State.Keeps.refl _ | with_reducible apply State.convert_keeps
    | with_reducible apply State.Keeps.ite | split | dsimp only)

theorem State.feReadings_keeps {z s : State} {th0 th1 : Bridge} {die : Int} (hk : z.Keeps s) :
    z.Keeps (State.feReadings s th0 th1 die) := by
  unfold State.feReadings
  repeat' (first
    | with_reducible assumption | with_reducible exact State.Keeps.refl _ | with_reducible apply State.wrS_keeps
    | with_reducible apply State.drawRound_keeps | with_reducible apply State.thReading_keeps
    | with_reducible apply State.convert_keeps | with_reducible apply State.thConvert_keeps | dsimp only)

theorem execFrontEndReading_keeps {z s : State} (th0 th1 : Bridge) (die : Int) (hk : z.Keeps s) :
    z.KeepsNext (execFrontEndReading th0 th1 die s) := by
  unfold execFrontEndReading
  repeat' (first
    | with_reducible assumption | with_reducible exact State.Keeps.refl _ | with_reducible apply State.setOp_keeps
    | with_reducible apply State.feReadings_keeps | with_reducible apply State.KeepsNext.next
    | with_reducible apply State.Keeps.ite | split | dsimp only)

theorem execFrontEndRateSecond_keeps {z s : State} (n : Fin 2) (hk : z.Keeps s) :
    z.KeepsNext (execFrontEndRateSecond n s) := by
  unfold execFrontEndRateSecond
  repeat' (first
    | with_reducible assumption | with_reducible exact State.Keeps.refl _ | with_reducible apply State.wrS_keeps
    | with_reducible apply State.drawRound_keeps | with_reducible apply State.setTherm_keeps
    | with_reducible apply State.rateWord_keeps | with_reducible apply State.KeepsNext.next
    | with_reducible apply foldl_keeps | with_reducible apply foldl_keeps_snd | with_reducible apply State.Keeps.ite
    | fail_if_no_progress (first
        | refine State.Keeps.upd ?_ rfl (fun c => { c with })
        | refine State.Keeps.upd ?_ rfl (by
          intro c; cases c; constructor <;> repeat' first
            | assumption | exact Sparse.wf_put (by assumption) | exact Sparse.wf_ins (by assumption)
            | exact Sparse.wf_del (by assumption) | exact Sparse.wf_filter (by assumption) | rfl
            | (dsimp only; split) | split))
    | split | dsimp only)

theorem State.feLoadEffect_keeps {z s : State} {fn data : Nat} (hk : z.Keeps s) :
    z.Keeps (State.feLoadEffect s fn data) := by
  unfold State.feLoadEffect
  repeat' (first
    | with_reducible assumption | with_reducible exact State.Keeps.refl _ | with_reducible apply State.wr_keeps
    | with_reducible apply State.setTherm_keeps | with_reducible apply State.thInvalid_keeps
    | with_reducible apply forUpTo_keeps | with_reducible apply State.Keeps.ite | (intro _ _ _) | (intro _ _) | split
    | dsimp only)

theorem execCoefLoadWrite_keeps {z s : State} (fn : Fin 65) (data : Word) (hk : z.Keeps s) :
    z.KeepsNext (execCoefLoadWrite fn data s) := by
  unfold execCoefLoadWrite
  repeat' (first
    | with_reducible assumption | with_reducible exact State.Keeps.refl _
    | with_reducible apply State.mmioWrite_keeps | with_reducible apply State.feLoadEffect_keeps
    | with_reducible apply State.KeepsNext.next | (intro _ _) | dsimp only)

theorem State.feCtrlEffect_keeps {z s : State} {fn data : Nat} (hk : z.Keeps s) :
    z.Keeps (State.feCtrlEffect s fn data) := by
  unfold State.feCtrlEffect
  repeat' (first
    | with_reducible assumption | with_reducible exact State.Keeps.refl _
    | with_reducible apply State.storeWord_keeps | with_reducible apply State.thInvalid_keeps
    | with_reducible apply forUpTo_keeps | with_reducible apply State.Keeps.ite
    | fail_if_no_progress (first
        | refine State.Keeps.upd ?_ rfl (fun c => { c with })
        | refine State.Keeps.upd ?_ rfl (by
          intro c; cases c; constructor <;> repeat' first
            | assumption | exact Sparse.wf_put (by assumption) | exact Sparse.wf_ins (by assumption)
            | exact Sparse.wf_del (by assumption) | exact Sparse.wf_filter (by assumption) | rfl
            | (dsimp only; split) | split))
    | (intro _ _ _) | (intro _ _) | split | dsimp only)

theorem State.feStop_keeps {z s : State} (hk : z.Keeps s) : z.Keeps (State.feStop s) := by
  unfold State.feStop
  repeat' (first
    | with_reducible assumption | with_reducible exact State.Keeps.refl _
    | with_reducible apply State.thInvalid_keeps
    | fail_if_no_progress (first
        | refine State.Keeps.upd ?_ rfl (fun c => { c with })
        | refine State.Keeps.upd ?_ rfl (by
          intro c; cases c; constructor <;> repeat' first
            | assumption | exact Sparse.wf_put (by assumption) | exact Sparse.wf_ins (by assumption)
            | exact Sparse.wf_del (by assumption) | exact Sparse.wf_filter (by assumption) | rfl
            | (dsimp only; split) | split)))

theorem State.feStart_keeps {z s : State} (hk : z.Keeps s) : z.Keeps (State.feStart s) := by
  unfold State.feStart
  repeat' (first
    | with_reducible assumption | with_reducible exact State.Keeps.refl _ | with_reducible apply State.setOp_keeps
    | fail_if_no_progress (first
        | refine State.Keeps.upd ?_ rfl (fun c => { c with })
        | refine State.Keeps.upd ?_ rfl (by
          intro c; cases c; constructor <;> repeat' first
            | assumption | exact Sparse.wf_put (by assumption) | exact Sparse.wf_ins (by assumption)
            | exact Sparse.wf_del (by assumption) | exact Sparse.wf_filter (by assumption) | rfl
            | (dsimp only; split) | split)))

theorem State.feIntent_keeps {z s : State} {fn data : Nat} (hk : z.Keeps s) : z.Keeps (State.feIntent s fn data) := by
  unfold State.feIntent
  repeat' (first
    | with_reducible assumption | with_reducible exact State.Keeps.refl _ | with_reducible apply State.setOp_keeps
    | with_reducible apply State.storeIntent_keeps | with_reducible apply State.feStop_keeps
    | with_reducible apply State.feStart_keeps | with_reducible apply State.Keeps.ite | split | dsimp only)

theorem execFrontEndHostStateWrite_keeps {z s : State} (fn : Fin 65) (data : Word) (hk : z.Keeps s) :
    z.KeepsNext (execFrontEndHostStateWrite fn data s) := by
  unfold execFrontEndHostStateWrite
  repeat' (first
    | with_reducible assumption | with_reducible exact State.Keeps.refl _
    | with_reducible apply State.mmioWrite_keeps | with_reducible apply State.feIntent_keeps
    | with_reducible apply State.KeepsNext.next | (intro _ _) | dsimp only)

theorem execExcitationFault_keeps {z s : State} (hk : z.Keeps s) : z.KeepsNext (execExcitationFault s) := by
  unfold execExcitationFault
  repeat' (first
    | with_reducible assumption | with_reducible exact State.Keeps.refl _ | with_reducible apply State.bumpSat_keeps
    | with_reducible apply State.raise_keeps | with_reducible apply State.setOp_keeps
    | with_reducible apply State.feStop_keeps | with_reducible apply State.KeepsNext.next
    | with_reducible apply State.Keeps.ite
    | fail_if_no_progress (first
        | refine State.Keeps.upd ?_ rfl (fun c => { c with })
        | refine State.Keeps.upd ?_ rfl (by
          intro c; cases c; constructor <;> repeat' first
            | assumption | exact Sparse.wf_put (by assumption) | exact Sparse.wf_ins (by assumption)
            | exact Sparse.wf_del (by assumption) | exact Sparse.wf_filter (by assumption) | rfl
            | (dsimp only; split) | split))
    | split | dsimp only)

theorem execExcitationRetry_keeps {z s : State} (hk : z.Keeps s) : z.KeepsNext (execExcitationRetry s) := by
  unfold execExcitationRetry
  repeat' (first
    | with_reducible assumption | with_reducible exact State.Keeps.refl _ | with_reducible apply State.feStart_keeps
    | with_reducible apply State.KeepsNext.next | with_reducible apply State.Keeps.ite | split)

theorem execEfcRefMeasure_keeps {z s : State} (mv : Nat) (hk : z.Keeps s) : z.KeepsNext (execEfcRefMeasure mv s) := by
  unfold execEfcRefMeasure
  repeat' (first
    | with_reducible assumption | with_reducible exact State.Keeps.refl _ | with_reducible apply State.wr_keeps
    | with_reducible apply State.wrB_keeps | with_reducible apply State.raise_keeps
    | with_reducible apply State.KeepsNext.next | with_reducible apply State.Keeps.ite | split | dsimp only)

theorem State.efcManualEffect_keeps {z s : State} {fn data : Nat} (hk : z.Keeps s) :
    z.Keeps (State.efcManualEffect s fn data) := by
  unfold State.efcManualEffect
  repeat' (first
    | with_reducible assumption | with_reducible exact State.Keeps.refl _ | with_reducible apply State.wr_keeps
    | with_reducible apply State.wrB_keeps | with_reducible apply State.setEfc_keeps
    | with_reducible apply State.Keeps.ite | split | dsimp only)

theorem execEfcManualWrite_keeps {z s : State} (fn : Fin 65) (data : Word) (hk : z.Keeps s) :
    z.KeepsNext (execEfcManualWrite fn data s) := by
  unfold execEfcManualWrite
  repeat' (first
    | with_reducible assumption | with_reducible exact State.Keeps.refl _
    | with_reducible apply State.mmioWrite_keeps | with_reducible apply State.efcManualEffect_keeps
    | with_reducible apply State.KeepsNext.next | (intro _ _) | dsimp only)

/-! ### Machine/Timebase.lean -/

theorem execTimebaseHostStateWrite_keeps {z s : State} (fn : Fin 65) (data : Word) (hk : z.Keeps s) :
    z.KeepsNext (execTimebaseHostStateWrite fn data s) := by
  unfold execTimebaseHostStateWrite
  repeat' (first
    | with_reducible assumption | with_reducible exact State.Keeps.refl _
    | with_reducible apply State.mmioWrite_keeps | with_reducible apply State.tbIntent_keeps
    | with_reducible apply State.KeepsNext.next | (intro _ _) | dsimp only)

theorem State.ppsDrop_keeps {z s : State} (hk : z.Keeps s) : z.Keeps (State.ppsDrop s) := by
  unfold State.ppsDrop
  repeat' (first
    | with_reducible assumption | with_reducible exact State.Keeps.refl _ | with_reducible apply State.wr_keeps
    | with_reducible apply State.setQualified_keeps)

theorem State.ppsFast_keeps {z s : State} (hk : z.Keeps s) : z.Keeps (State.ppsFast s) := by
  unfold State.ppsFast
  repeat' (first
    | with_reducible assumption | with_reducible exact State.Keeps.refl _ | with_reducible apply State.bumpSat_keeps
    | with_reducible apply State.raise_keeps | with_reducible apply State.modTb_keeps
    | with_reducible apply State.ppsDrop_keeps | with_reducible apply State.Keeps.ite | (intro _ _) | split
    | dsimp only)

theorem State.ppsFault_keeps {z s : State} (hk : z.Keeps s) : z.Keeps (State.ppsFault s) := by
  unfold State.ppsFault
  repeat' (first
    | with_reducible assumption | with_reducible exact State.Keeps.refl _ | with_reducible apply State.bumpSat_keeps
    | with_reducible apply State.modTb_keeps | with_reducible apply State.ppsDrop_keeps
    | with_reducible apply State.Keeps.ite | (intro _ _) | split | dsimp only)

theorem State.ppsAccept_keeps {z s : State} (hk : z.Keeps s) : z.Keeps (State.ppsAccept s) := by
  unfold State.ppsAccept
  repeat' (first
    | with_reducible assumption | with_reducible exact State.Keeps.refl _ | with_reducible apply State.wr_keeps
    | with_reducible apply State.modTb_keeps | with_reducible apply State.setQualified_keeps
    | with_reducible apply State.noteError_keeps | with_reducible apply State.tbPhase_keeps
    | with_reducible apply State.ppsFault_keeps | with_reducible apply State.Keeps.ite | (intro _ _) | split
    | dsimp only)

theorem execPpsEdge_keeps {z s : State} (falling : Bool) (width : Nat) (hk : z.Keeps s) :
    z.KeepsNext (execPpsEdge falling width s) := by
  unfold execPpsEdge
  repeat' (first
    | with_reducible assumption | with_reducible exact State.Keeps.refl _ | with_reducible apply State.modTb_keeps
    | with_reducible apply State.ppsFast_keeps | with_reducible apply State.ppsAccept_keeps
    | with_reducible apply State.KeepsNext.next | with_reducible apply State.Keeps.ite | (intro _ _) | split
    | dsimp only)

theorem execPpsPeriodFault_keeps {z s : State} (hk : z.Keeps s) : z.KeepsNext (execPpsPeriodFault s) := by
  unfold execPpsPeriodFault
  repeat' (first
    | with_reducible assumption | with_reducible exact State.Keeps.refl _ | with_reducible apply State.ppsFault_keeps
    | with_reducible apply State.KeepsNext.next)

theorem execPpsStuck_keeps {z s : State} (hk : z.Keeps s) : z.KeepsNext (execPpsStuck s) := by
  unfold execPpsStuck
  repeat' (first
    | with_reducible assumption | with_reducible exact State.Keeps.refl _ | with_reducible apply State.wr_keeps
    | with_reducible apply State.raise_keeps | with_reducible apply State.ppsDrop_keeps
    | with_reducible apply State.KeepsNext.next | with_reducible apply State.Keeps.ite | split | dsimp only)

theorem State.todArm_keeps {z s : State} {fn data : Nat} (hk : z.Keeps s) : z.Keeps (State.todArm s fn data) := by
  unfold State.todArm
  repeat' (first
    | with_reducible assumption | with_reducible exact State.Keeps.refl _ | with_reducible apply State.wr_keeps
    | with_reducible apply State.modTb_keeps | with_reducible apply State.Keeps.ite | (intro _ _) | split
    | dsimp only)

theorem execTodNextArm_keeps {z s : State} (fn : Fin 65) (data : Word) (hk : z.Keeps s) :
    z.KeepsNext (execTodNextArm fn data s) := by
  unfold execTodNextArm
  repeat' (first
    | with_reducible assumption | with_reducible exact State.Keeps.refl _
    | with_reducible apply State.mmioWrite_keeps | with_reducible apply State.todArm_keeps
    | with_reducible apply State.KeepsNext.next | (intro _ _) | dsimp only)

theorem State.ptpSubmit_keeps {z s : State} (hk : z.Keeps s) : z.Keeps (State.ptpSubmit s) := by
  unfold State.ptpSubmit
  repeat' (first
    | with_reducible assumption | with_reducible exact State.Keeps.refl _ | with_reducible apply State.bumpSat_keeps
    | with_reducible apply State.modTb_keeps | with_reducible apply State.setQualified_keeps
    | with_reducible apply State.noteError_keeps | with_reducible apply State.tbPhase_keeps
    | with_reducible apply State.Keeps.ite | (intro _ _) | split | dsimp only)

theorem State.ptpWrite_keeps {z s : State} {data : Nat} (hk : z.Keeps s) : z.Keeps (State.ptpWrite s data) := by
  unfold State.ptpWrite
  repeat' (first
    | with_reducible assumption | with_reducible exact State.Keeps.refl _ | with_reducible apply State.wr_keeps
    | with_reducible apply State.ptpSubmit_keeps)

theorem execPtpSubmit_keeps {z s : State} (fn : Fin 65) (data : Word) (hk : z.Keeps s) :
    z.KeepsNext (execPtpSubmit fn data s) := by
  unfold execPtpSubmit
  repeat' (first
    | with_reducible assumption | with_reducible exact State.Keeps.refl _
    | with_reducible apply State.mmioWrite_keeps | with_reducible apply State.ptpWrite_keeps
    | with_reducible apply State.KeepsNext.next | (intro _ _) | dsimp only)

theorem execPtpSourceTimeout_keeps {z s : State} (hk : z.Keeps s) : z.KeepsNext (execPtpSourceTimeout s) := by
  unfold execPtpSourceTimeout
  repeat' (first
    | with_reducible assumption | with_reducible exact State.Keeps.refl _ | with_reducible apply State.raise_keeps
    | with_reducible apply State.setQualified_keeps | with_reducible apply State.KeepsNext.next
    | with_reducible apply State.Keeps.ite | split | dsimp only)

theorem State.freqMs_keeps {z s : State} {n at_ : Nat} {x : Int} (hk : z.Keeps s) :
    z.Keeps (State.freqMs s n at_ x) := by
  unfold State.freqMs
  repeat' (first
    | with_reducible assumption | with_reducible exact State.Keeps.refl _ | with_reducible apply State.modTb_keeps
    | with_reducible apply State.dropFreq_keeps | with_reducible apply State.Keeps.ite | (intro _ _) | split
    | dsimp only)

theorem State.freqSpan_keeps {z s : State} {n : Nat} {l : List Int} (hk : z.Keeps s) :
    z.Keeps (State.freqSpan s n l) := by
  unfold State.freqSpan
  repeat' (first
    | with_reducible assumption | with_reducible exact State.Keeps.refl _ | with_reducible apply State.freqMs_keeps
    | with_reducible apply forEach_keeps | with_reducible apply forEach_keeps_snd | (intro _ _ _) | (intro _ _)
    | dsimp only)

theorem execFreqSourceSecond_keeps {z s : State} (refIn : Bool) (samples : List Int) (hk : z.Keeps s) :
    z.KeepsNext (execFreqSourceSecond refIn samples s) := by
  unfold execFreqSourceSecond
  repeat' (first
    | with_reducible assumption | with_reducible exact State.Keeps.refl _ | with_reducible apply State.modTb_keeps
    | with_reducible apply State.dropFreq_keeps | with_reducible apply State.tbFrequency_keeps
    | with_reducible apply State.freqSpan_keeps | with_reducible apply State.KeepsNext.next
    | with_reducible apply State.Keeps.ite | (intro _ _) | split | dsimp only)

theorem execSourceQualifyTimer_keeps {z s : State} (refIn : Bool) (hk : z.Keeps s) :
    z.KeepsNext (execSourceQualifyTimer refIn s) := by
  unfold execSourceQualifyTimer
  repeat' (first
    | with_reducible assumption | with_reducible exact State.Keeps.refl _
    | with_reducible apply State.setQualified_keeps | with_reducible apply State.KeepsNext.next
    | with_reducible apply State.Keeps.ite | split | dsimp only)

theorem execWtrExpire_keeps {z s : State} (hk : z.Keeps s) : z.KeepsNext (execWtrExpire s) := by
  unfold execWtrExpire
  repeat' (first
    | with_reducible assumption | with_reducible exact State.Keeps.refl _ | with_reducible apply State.tbSwitch_keeps
    | with_reducible apply State.KeepsNext.next | with_reducible apply foldl_keeps
    | with_reducible apply State.Keeps.ite | (intro _ _ _) | (intro _ _) | split | dsimp only)

theorem State.slewMs_keeps {z s : State} (hk : z.Keeps s) : z.Keeps (State.slewMs s) := by
  unfold State.slewMs
  repeat' (first
    | with_reducible assumption | with_reducible exact State.Keeps.refl _ | with_reducible apply State.modTb_keeps
    | with_reducible apply State.Keeps.ite | (intro _ _) | split | dsimp only)

theorem State.noteRatio_keeps {z s : State} (hk : z.Keeps s) : z.Keeps (State.noteRatio s) := by
  unfold State.noteRatio
  repeat' (first
    | with_reducible assumption | with_reducible exact State.Keeps.refl _ | with_reducible apply State.modTb_keeps
    | with_reducible apply State.Keeps.ite | (intro _ _) | split | dsimp only)

theorem State.driftTime_keeps {z s : State} {osc : Int} (hk : z.Keeps s) : z.Keeps (State.driftTime s osc) := by
  unfold State.driftTime
  repeat' (first
    | with_reducible assumption | with_reducible exact State.Keeps.refl _ | with_reducible apply State.modTb_keeps
    | with_reducible apply State.noteRatio_keeps | (intro _ _) | dsimp only)

theorem State.steer1ms_keeps {z s : State} (hk : z.Keeps s) : z.Keeps (State.steer1ms s) := by
  unfold State.steer1ms
  repeat' (first
    | with_reducible assumption | with_reducible exact State.Keeps.refl _
    | with_reducible apply State.drawRound_keeps | with_reducible apply State.modTb_keeps
    | with_reducible apply State.stepY_keeps | with_reducible apply State.recordY_keeps
    | with_reducible apply State.writeEfc_keeps | with_reducible apply State.slewMs_keeps
    | with_reducible apply State.Keeps.ite | (intro _ _) | split | dsimp only)

theorem execEfcUpdate_keeps {z s : State} (osc : Int) (hk : z.Keeps s) : z.KeepsNext (execEfcUpdate osc s) := by
  unfold execEfcUpdate
  repeat' (first
    | with_reducible assumption | with_reducible exact State.Keeps.refl _
    | with_reducible apply State.driftTime_keeps | with_reducible apply State.steer1ms_keeps
    | with_reducible apply State.KeepsNext.next | with_reducible apply State.Keeps.ite | split | dsimp only)

theorem execSlewProfileEnd_keeps {z s : State} (hk : z.Keeps s) : z.KeepsNext (execSlewProfileEnd s) := by
  unfold execSlewProfileEnd
  repeat' (first
    | with_reducible assumption | with_reducible exact State.Keeps.refl _ | with_reducible apply State.modTb_keeps
    | with_reducible apply State.KeepsNext.next | with_reducible apply State.Keeps.ite | (intro _ _) | split
    | dsimp only)

theorem State.timeSet_keeps {z s : State} {fn data : Nat} (hk : z.Keeps s) : z.Keeps (State.timeSet s fn data) := by
  unfold State.timeSet
  repeat' (first
    | with_reducible assumption | with_reducible exact State.Keeps.refl _ | with_reducible apply State.moveTime_keeps
    | with_reducible apply State.Keeps.ite | split | dsimp only)

theorem execTimeSetGo_keeps {z s : State} (fn : Fin 65) (data : Word) (hk : z.Keeps s) :
    z.KeepsNext (execTimeSetGo fn data s) := by
  unfold execTimeSetGo
  repeat' (first
    | with_reducible assumption | with_reducible exact State.Keeps.refl _
    | with_reducible apply State.mmioWrite_keeps | with_reducible apply State.timeSet_keeps
    | with_reducible apply State.KeepsNext.next | (intro _ _) | dsimp only)

theorem execHoldoverEval_keeps {z s : State} (hk : z.Keeps s) : z.KeepsNext (execHoldoverEval s) := by
  unfold execHoldoverEval
  repeat' (first
    | with_reducible assumption | with_reducible exact State.Keeps.refl _ | with_reducible apply State.modelY_keeps
    | with_reducible apply State.modTb_keeps | with_reducible apply State.holdSeconds_keeps
    | with_reducible apply State.KeepsNext.next | with_reducible apply State.Keeps.ite | (intro _ _) | split
    | dsimp only)

theorem State.extFreq_keeps {z s : State} {data : Nat} (hk : z.Keeps s) : z.Keeps (State.extFreq s data) := by
  unfold State.extFreq
  repeat' (first
    | with_reducible assumption | with_reducible exact State.Keeps.refl _ | with_reducible apply State.wr_keeps
    | with_reducible apply State.modTb_keeps | with_reducible apply State.setY_keeps
    | with_reducible apply State.Keeps.ite | (intro _ _) | split | dsimp only)

theorem execExtFreqWrite_keeps {z s : State} (fn : Fin 65) (data : Word) (hk : z.Keeps s) :
    z.KeepsNext (execExtFreqWrite fn data s) := by
  unfold execExtFreqWrite
  repeat' (first
    | with_reducible assumption | with_reducible exact State.Keeps.refl _
    | with_reducible apply State.mmioWrite_keeps | with_reducible apply State.extFreq_keeps
    | with_reducible apply State.KeepsNext.next | (intro _ _) | dsimp only)

theorem State.extState_keeps {z s : State} {fn data : Nat} (hk : z.Keeps s) : z.Keeps (State.extState s fn data) := by
  unfold State.extState
  repeat' (first
    | with_reducible assumption | with_reducible exact State.Keeps.refl _
    | with_reducible apply State.storeWord_keeps | with_reducible apply State.modTb_keeps
    | with_reducible apply State.setTbState_keeps | with_reducible apply State.enterHoldover_keeps
    | with_reducible apply State.Keeps.ite | (intro _ _) | split | dsimp only)

theorem execExtStateWrite_keeps {z s : State} (fn : Fin 65) (data : Word) (hk : z.Keeps s) :
    z.KeepsNext (execExtStateWrite fn data s) := by
  unfold execExtStateWrite
  repeat' (first
    | with_reducible assumption | with_reducible exact State.Keeps.refl _
    | with_reducible apply State.mmioWrite_keeps | with_reducible apply State.extState_keeps
    | with_reducible apply State.KeepsNext.next | (intro _ _) | dsimp only)

theorem execExtTimeout_keeps {z s : State} (hk : z.Keeps s) : z.KeepsNext (execExtTimeout s) := by
  unfold execExtTimeout
  repeat' (first
    | with_reducible assumption | with_reducible exact State.Keeps.refl _ | with_reducible apply State.raise_keeps
    | with_reducible apply State.enterHoldover_keeps | with_reducible apply State.KeepsNext.next
    | with_reducible apply State.Keeps.ite | split)

theorem State.setHold_keeps {z s : State} {v : HoldModel} (hk : z.Keeps s) : z.Keeps { s with hold := v } :=
  State.Keeps.upd hk rfl (fun c => { c with })

theorem State.learn_keeps {z s : State} (hk : z.Keeps s) : z.Keeps (State.learn s) := by
  unfold State.learn
  extract_lets x m n r a d b c
  have hm : z.Keeps m.2 := State.drawWhole_keeps hk
  clear_value m
  have hn : z.Keeps n.2 := State.meanY_keeps hm
  clear_value n r
  have ha : z.Keeps a := State.modTb_keeps hn
  clear_value a
  have hd : z.Keeps d.2 := State.drawBool_keeps ha
  clear_value d
  have hb : z.Keeps b := State.wr_keeps hd
  clear_value b
  have hc : z.Keeps c := State.relearn_keeps hb
  clear_value c x
  exact State.Keeps.ite (State.setHold_keeps hc) (State.bumpSat_keeps (State.setHold_keeps hc))

theorem execLearnSample_keeps {z s : State} (hk : z.Keeps s) : z.KeepsNext (execLearnSample s) := by
  unfold execLearnSample
  repeat' (first
    | with_reducible assumption | with_reducible exact State.Keeps.refl _ | with_reducible apply State.modTb_keeps
    | with_reducible apply State.learn_keeps | with_reducible apply State.KeepsNext.next
    | with_reducible apply State.Keeps.ite | (intro _ _) | split | dsimp only)

theorem State.modelReset_keeps {z s : State} (hk : z.Keeps s) : z.Keeps (State.modelReset s) := by
  unfold State.modelReset
  repeat' (first
    | with_reducible assumption | with_reducible exact State.Keeps.refl _ | with_reducible apply State.wr_keeps
    | with_reducible apply forUpTo_keeps
    | fail_if_no_progress (first
        | refine State.Keeps.upd ?_ rfl (fun c => { c with })
        | refine State.Keeps.upd ?_ rfl (by
          intro c; cases c; constructor <;> repeat' first
            | assumption | exact Sparse.wf_put (by assumption) | exact Sparse.wf_ins (by assumption)
            | exact Sparse.wf_del (by assumption) | exact Sparse.wf_filter (by assumption) | rfl
            | (dsimp only; split) | split))
    | (intro _ _ _) | (intro _ _) | dsimp only)

theorem State.modelExport_keeps {z s : State} (hk : z.Keeps s) : z.Keeps (State.modelExport s) := by
  unfold State.modelExport
  repeat' (first
    | with_reducible assumption | with_reducible exact State.Keeps.refl _ | with_reducible apply State.wr_keeps
    | with_reducible apply forUpTo_keeps | (intro _ _ _) | (intro _ _) | dsimp only)

theorem State.modelImport_keeps {z s : State} (hk : z.Keeps s) : z.Keeps s.modelImport := by
  unfold State.modelImport
  extract_lets w result a b c
  have hr : ∀ r, z.Keeps (result r) := fun r => State.wr_keeps hk
  have hc : z.Keeps c := State.wr_keeps (State.wr_keeps (State.wr_keeps (State.wr_keeps
    (forUpTo_keeps _ (hr 2) (fun _ _ hu => State.wr_keeps hu)))))
  clear_value c result
  exact State.Keeps.ite (hr _) (State.Keeps.ite (hr _) (State.Keeps.ite (hr _)
    (State.Keeps.upd hc rfl (fun k => { k with }))))

theorem State.modelCmd_keeps {z s : State} {fn data : Nat} (hk : z.Keeps s) : z.Keeps (State.modelCmd s fn data) := by
  unfold State.modelCmd
  repeat' (first
    | with_reducible assumption | with_reducible exact State.Keeps.refl _
    | with_reducible apply State.modelReset_keeps | with_reducible apply State.modelExport_keeps
    | with_reducible apply State.modelImport_keeps | with_reducible apply State.Keeps.ite | split | dsimp only)

theorem execModelReset_keeps {z s : State} (fn : Fin 65) (hk : z.Keeps s) : z.KeepsNext (execModelReset fn s) := by
  unfold execModelReset
  repeat' (first
    | with_reducible assumption | with_reducible exact State.Keeps.refl _
    | with_reducible apply State.mmioWrite_keeps | with_reducible apply State.modelCmd_keeps
    | with_reducible apply State.KeepsNext.next | (intro _ _) | dsimp only)

theorem execModelExport_keeps {z s : State} (fn : Fin 65) (hk : z.Keeps s) : z.KeepsNext (execModelExport fn s) := by
  unfold execModelExport
  repeat' (first
    | with_reducible assumption | with_reducible exact State.Keeps.refl _
    | with_reducible apply State.mmioWrite_keeps | with_reducible apply State.modelCmd_keeps
    | with_reducible apply State.KeepsNext.next | (intro _ _) | dsimp only)

theorem execModelImport_keeps {z s : State} (fn : Fin 65) (hk : z.Keeps s) : z.KeepsNext (execModelImport fn s) := by
  unfold execModelImport
  repeat' (first
    | with_reducible assumption | with_reducible exact State.Keeps.refl _
    | with_reducible apply State.mmioWrite_keeps | with_reducible apply State.modelCmd_keeps
    | with_reducible apply State.KeepsNext.next | (intro _ _) | dsimp only)

theorem State.siteCapture_keeps {z s : State} (hk : z.Keeps s) : z.Keeps (State.siteCapture s).2 := by
  unfold State.siteCapture
  repeat' (first
    | with_reducible assumption | with_reducible exact State.Keeps.refl _ | with_reducible apply State.modTb_keeps
    | (intro _ _) | dsimp only)

theorem State.plateCapture_keeps {z s : State} {p : Nat} (hk : z.Keeps s) : z.Keeps (State.plateCapture s p).2 := by
  unfold State.plateCapture
  repeat' (first
    | with_reducible assumption | with_reducible exact State.Keeps.refl _
    | fail_if_no_progress (first
        | refine State.Keeps.upd ?_ rfl (fun c => { c with })
        | refine State.Keeps.upd ?_ rfl (by
          intro c; cases c; constructor <;> repeat' first
            | assumption | exact Sparse.wf_put (by assumption) | exact Sparse.wf_ins (by assumption)
            | exact Sparse.wf_del (by assumption) | exact Sparse.wf_filter (by assumption) | rfl
            | (dsimp only; split) | split))
    | dsimp only)

theorem execTimeCaptureRead_keeps {z s : State} (fn : Fin 65) (plate : Option (Fin 8)) (hk : z.Keeps s) :
    z.KeepsNext (execTimeCaptureRead fn plate s) := by
  unfold execTimeCaptureRead
  repeat' (first
    | with_reducible assumption | with_reducible exact State.Keeps.refl _ | with_reducible apply State.mmioRead_keeps
    | with_reducible apply State.siteCapture_keeps | with_reducible apply State.plateCapture_keeps
    | with_reducible apply State.KeepsNext.next | (intro _ _) | split | dsimp only)

theorem execPpsOutPulse_keeps {z s : State} (hk : z.Keeps s) : z.KeepsNext (execPpsOutPulse s) := by
  unfold execPpsOutPulse
  repeat' (first
    | with_reducible assumption | with_reducible exact State.Keeps.refl _ | with_reducible apply State.modTb_keeps
    | with_reducible apply State.KeepsNext.next | with_reducible apply State.Keeps.ite | (intro _ _) | split
    | dsimp only)

theorem State.shiftMirrors_keeps {z s : State} {p : Nat} {d : Int} (hk : z.Keeps s) : z.Keeps (s.shiftMirrors p d) :=
  State.Keeps.upd hk rfl (fun c => { c with
    mirrors := Sparse.wf_mapKeyed (fun _ => by dsimp only; split <;> rfl) c.mirrors })

theorem State.plateTimeMoved_keeps {z s : State} {p : Nat} {d : Int} (hk : z.Keeps s) :
    z.Keeps (State.plateTimeMoved s p d) := by
  unfold State.plateTimeMoved
  repeat' (first
    | with_reducible assumption | with_reducible exact State.Keeps.refl _ | with_reducible apply State.jbShift_keeps
    | with_reducible apply State.highwayStep_keeps | with_reducible apply State.shiftMirrors_keeps
    | with_reducible apply forEach_keeps | (intro _ _ _) | (intro _ _) | dsimp only)

theorem State.stepPlate_keeps {z s : State} {p : Nat} {d : Int} {bad : Bool} (hk : z.Keeps s) :
    z.Keeps (State.stepPlate s p d bad) := by
  unfold State.stepPlate
  repeat' (first
    | with_reducible assumption | with_reducible exact State.Keeps.refl _ | with_reducible apply State.bumpSat_keeps
    | with_reducible apply State.raise_keeps | with_reducible apply State.setTk_keeps
    | with_reducible apply State.hatchMoved_keeps | with_reducible apply State.plateTimeMoved_keeps
    | with_reducible apply State.Keeps.ite | split | dsimp only)

theorem State.applyStep_keeps {z s : State} {bad : Nat} (hk : z.Keeps s) : z.Keeps (State.applyStep s bad) := by
  unfold State.applyStep
  repeat' (first
    | with_reducible assumption | with_reducible exact State.Keeps.refl _ | with_reducible apply State.bumpSat_keeps
    | with_reducible apply State.raise_keeps | with_reducible apply State.modTb_keeps
    | with_reducible apply State.timeSet_keeps | with_reducible apply State.stepPlate_keeps
    | with_reducible apply forUpTo_keeps | (intro _ _ _) | (intro _ _) | split | dsimp only)

theorem execBroadcastLoss_keeps {z s : State} (p : Fin 8) (hk : z.Keeps s) : z.KeepsNext (execBroadcastLoss p s) := by
  unfold execBroadcastLoss
  repeat' (first
    | with_reducible assumption | with_reducible exact State.Keeps.refl _ | with_reducible apply State.bumpSat_keeps
    | with_reducible apply State.raise_keeps | with_reducible apply State.goOwn_keeps
    | with_reducible apply State.KeepsNext.next | with_reducible apply State.Keeps.ite | split)

theorem State.adopt_keeps {z s : State} {p : Nat} (hk : z.Keeps s) : z.Keeps (State.adopt s p) := by
  unfold State.adopt
  repeat' (first
    | with_reducible assumption | with_reducible exact State.Keeps.refl _ | with_reducible apply State.wr_keeps
    | with_reducible apply State.raise_keeps | with_reducible apply State.setTk_keeps
    | with_reducible apply State.hatchRejoin_keeps | with_reducible apply State.plateTimeMoved_keeps
    | with_reducible apply State.Keeps.ite | split | dsimp only)

theorem State.takeWord_keeps {z s : State} {p : Nat} {bad : Bool} (hk : z.Keeps s) :
    z.Keeps (State.takeWord s p bad) := by
  unfold State.takeWord
  repeat' (first
    | with_reducible assumption | with_reducible exact State.Keeps.refl _ | with_reducible apply State.bumpSat_keeps
    | with_reducible apply State.setTk_keeps | with_reducible apply State.adopt_keeps
    | with_reducible apply State.Keeps.ite | split | dsimp only)

theorem execBroadcastWord_keeps {z s : State} (bad : BitVec 8) (hk : z.Keeps s) :
    z.KeepsNext (execBroadcastWord bad s) := by
  unfold execBroadcastWord
  repeat' (first
    | with_reducible assumption | with_reducible exact State.Keeps.refl _
    | with_reducible apply State.applyStep_keeps | with_reducible apply State.takeWord_keeps
    | with_reducible apply State.KeepsNext.next | with_reducible apply forUpTo_keeps
    | with_reducible apply State.Keeps.ite | (intro _ _ _) | (intro _ _) | split | dsimp only)

theorem execBroadcastBack_keeps {z s : State} (p : Fin 8) (hk : z.Keeps s) : z.KeepsNext (execBroadcastBack p s) := by
  unfold execBroadcastBack
  repeat' (first
    | with_reducible assumption | with_reducible exact State.Keeps.refl _ | with_reducible apply State.wrS_keeps
    | with_reducible apply State.raise_keeps | with_reducible apply State.setTk_keeps
    | with_reducible apply State.KeepsNext.next | with_reducible apply State.Keeps.ite | split | dsimp only)

theorem execRejoinAdopt_keeps {z s : State} (p : Fin 8) (hk : z.Keeps s) : z.KeepsNext (execRejoinAdopt p s) := by
  unfold execRejoinAdopt
  repeat' (first
    | with_reducible assumption | with_reducible exact State.Keeps.refl _ | with_reducible apply State.adopt_keeps
    | with_reducible apply State.KeepsNext.next | with_reducible apply State.Keeps.ite | split)

theorem State.tkIntent_keeps {z s : State} {fn p data : Nat} (hk : z.Keeps s) :
    z.Keeps (State.tkIntent s fn p data) := by
  unfold State.tkIntent
  repeat' (first
    | with_reducible assumption | with_reducible exact State.Keeps.refl _ | with_reducible apply State.setTk_keeps
    | with_reducible apply State.storeIntent_keeps | with_reducible apply State.goOwn_keeps
    | with_reducible apply State.Keeps.ite | split | dsimp only)

theorem execTimekeeperHostStateWrite_keeps {z s : State} (fn : Fin 65) (p : Fin 8) (data : Word) (hk : z.Keeps s) :
    z.KeepsNext (execTimekeeperHostStateWrite fn p data s) := by
  unfold execTimekeeperHostStateWrite
  repeat' (first
    | with_reducible assumption | with_reducible exact State.Keeps.refl _
    | with_reducible apply State.mmioWrite_keeps | with_reducible apply State.tkIntent_keeps
    | with_reducible apply State.KeepsNext.next | (intro _ _) | dsimp only)

/-! ### Machine/Sleep.lean -/

theorem State.haltGravers_keeps {z s : State} {p : Nat} (hk : z.Keeps s) : z.Keeps (State.haltGravers s p) := by
  unfold State.haltGravers
  repeat' (first
    | with_reducible assumption | with_reducible exact State.Keeps.refl _
    | with_reducible apply State.setGraver_keeps | with_reducible apply State.holdPc_keeps
    | with_reducible apply forUpTo_keeps | with_reducible apply State.Keeps.ite | (intro _ _ _) | (intro _ _) | split
    | dsimp only)

theorem State.enterQuiet_keeps {z s : State} {p : Nat} (hk : z.Keeps s) : z.Keeps (s.enterQuiet p) := by
  unfold State.enterQuiet
  extract_lets a b c d
  have ha : z.Keeps a :=
    State.quietHighway_keeps (State.quietHatch_keeps (State.plateQuietPort_keeps (State.haltGravers_keeps hk)))
  clear_value a
  have hb : z.Keeps b := State.Keeps.upd ha rfl (fun k => { k with quietReqs := Sparse.wf_del k.quietReqs })
  have hd : z.Keeps d := State.setPlateOp_keeps (State.wr_keeps (State.wr_keeps hb))
  exact State.Keeps.ite (State.setPlate_keeps hd) hd

theorem State.takeRound_keeps {z s : State} {round tc vote : Nat} (hk : z.Keeps s) :
    z.Keeps (State.takeRound s round tc vote) := by
  unfold State.takeRound
  repeat' (first
    | with_reducible assumption | with_reducible exact State.Keeps.refl _ | with_reducible apply State.wr_keeps
    | fail_if_no_progress (first
        | refine State.Keeps.upd ?_ rfl (fun c => { c with })
        | refine State.Keeps.upd ?_ rfl (by
          intro c; cases c; constructor <;> repeat' first
            | assumption | exact Sparse.wf_put (by assumption) | exact Sparse.wf_ins (by assumption)
            | exact Sparse.wf_del (by assumption) | exact Sparse.wf_filter (by assumption) | rfl
            | (dsimp only; split) | split))
    | dsimp only)

theorem State.tryCommit_keeps {z s : State} (hk : z.Keeps s) : z.Keeps (State.tryCommit s) := by
  unfold State.tryCommit
  repeat' (first
    | with_reducible assumption | with_reducible exact State.Keeps.refl _
    | with_reducible apply State.broadcast_keeps | with_reducible apply State.Keeps.ite
    | fail_if_no_progress (first
        | refine State.Keeps.upd ?_ rfl (fun c => { c with })
        | refine State.Keeps.upd ?_ rfl (by
          intro c; cases c; constructor <;> repeat' first
            | assumption | exact Sparse.wf_put (by assumption) | exact Sparse.wf_ins (by assumption)
            | exact Sparse.wf_del (by assumption) | exact Sparse.wf_filter (by assumption) | rfl
            | (dsimp only; split) | split))
    | (intro _ _) | split | dsimp only)

theorem State.propose_keeps {z s : State} (hk : z.Keeps s) : z.Keeps (State.propose s) := by
  unfold State.propose
  repeat' (first
    | with_reducible assumption | with_reducible exact State.Keeps.refl _
    | with_reducible apply State.broadcast_keeps | with_reducible apply State.takeRound_keeps
    | with_reducible apply State.tryCommit_keeps | dsimp only)

theorem execVotePropose_keeps {z s : State} (hk : z.Keeps s) : z.KeepsNext (execVotePropose s) := by
  unfold execVotePropose
  repeat' (first
    | with_reducible assumption | with_reducible exact State.Keeps.refl _ | with_reducible apply State.propose_keeps
    | with_reducible apply State.KeepsNext.next | with_reducible apply State.Keeps.ite | split)

theorem execVoteWindowTimeout_keeps {z s : State} (hk : z.Keeps s) : z.KeepsNext (execVoteWindowTimeout s) := by
  unfold execVoteWindowTimeout
  repeat' (first
    | with_reducible assumption | with_reducible exact State.Keeps.refl _
    | with_reducible apply State.abortRound_keeps | with_reducible apply State.KeepsNext.next
    | with_reducible apply State.Keeps.ite | split)

theorem execCommitWaitTimeout_keeps {z s : State} (hk : z.Keeps s) : z.KeepsNext (execCommitWaitTimeout s) := by
  unfold execCommitWaitTimeout
  repeat' (first
    | with_reducible assumption | with_reducible exact State.Keeps.refl _
    | with_reducible apply State.abortRound_keeps | with_reducible apply State.KeepsNext.next
    | with_reducible apply State.Keeps.ite | split)

theorem State.commitQuiet_keeps {z s : State} (hk : z.Keeps s) : z.Keeps (State.commitQuiet s) := by
  unfold State.commitQuiet
  repeat' (first
    | with_reducible assumption | with_reducible exact State.Keeps.refl _ | with_reducible apply State.bumpSat_keeps
    | with_reducible apply State.raise_keeps | with_reducible apply State.enterQuiet_keeps
    | with_reducible apply forEach_keeps
    | fail_if_no_progress (first
        | refine State.Keeps.upd ?_ rfl (fun c => { c with })
        | refine State.Keeps.upd ?_ rfl (by
          intro c; cases c; constructor <;> repeat' first
            | assumption | exact Sparse.wf_put (by assumption) | exact Sparse.wf_ins (by assumption)
            | exact Sparse.wf_del (by assumption) | exact Sparse.wf_filter (by assumption) | rfl
            | (dsimp only; split) | split))
    | (intro _ _ _) | (intro _ _) | dsimp only)

theorem execCommitInstant_keeps {z s : State} (hk : z.Keeps s) : z.KeepsNext (execCommitInstant s) := by
  unfold execCommitInstant
  repeat' (first
    | with_reducible assumption | with_reducible exact State.Keeps.refl _
    | with_reducible apply State.commitQuiet_keeps | with_reducible apply State.KeepsNext.next
    | with_reducible apply State.Keeps.ite | split)

end Sys2Proof.Machine
end

