-- ==== Sys2Proof/Laws/KeepsPairs.lean ====
section
/-! SUPPORT. Every definition of the Epkuone lanes, pairs, stacks and the power arbiter that changes the state keeps what `State.Keeps` says, one law each. -/

set_option linter.unusedTactic false
set_option linter.unreachableTactic false

namespace Sys2Proof.Machine

/-! ### Machine/Stack.lean -/

theorem State.setLane_keeps {z s : State} {l v : Nat} (hk : z.Keeps s) : z.Keeps (State.setLane s l v) := by
  unfold State.setLane
  repeat' (first
    | with_reducible assumption | with_reducible exact State.Keeps.refl _ | with_reducible apply State.wr_keeps
    | with_reducible apply State.setEkLane_keeps)

theorem State.notePair_keeps {z s before : State} (hk : z.Keeps s) : z.Keeps (s.notePair before) :=
  State.Keeps.ite hk (State.raise_keeps hk)

theorem State.laneGrant_keeps {z s : State} {l : Nat} (hk : z.Keeps s) : z.Keeps (State.laneGrant s l) := by
  unfold State.laneGrant
  repeat' (first
    | with_reducible assumption | with_reducible exact State.Keeps.refl _ | with_reducible apply State.ask_keeps
    | with_reducible apply State.withdraw_keeps | with_reducible apply State.Keeps.ite
    | fail_if_no_progress (first
        | refine State.Keeps.upd ?_ rfl (fun c => { c with })
        | refine State.Keeps.upd ?_ rfl (by
          intro c; cases c; constructor <;> repeat' first
            | assumption | exact Sparse.wf_put (by assumption) | exact Sparse.wf_ins (by assumption)
            | exact Sparse.wf_del (by assumption) | exact Sparse.wf_filter (by assumption) | rfl
            | (dsimp only; split) | split))
    | split)

theorem State.laneFollow_keeps {z s : State} {l : Nat} (hk : z.Keeps s) : z.Keeps (State.laneFollow s l) := by
  unfold State.laneFollow
  repeat' (first
    | with_reducible assumption | with_reducible exact State.Keeps.refl _ | with_reducible apply State.setLane_keeps
    | with_reducible apply State.Keeps.ite | split)

theorem State.refreshLanes_keeps {z s : State} (hk : z.Keeps s) : z.Keeps (State.refreshLanes s) := by
  unfold State.refreshLanes
  repeat' (first
    | with_reducible assumption | with_reducible exact State.Keeps.refl _ | with_reducible apply State.setOp_keeps
    | with_reducible apply State.notePair_keeps | with_reducible apply State.laneGrant_keeps
    | with_reducible apply State.laneFollow_keeps | with_reducible apply forUpTo_keeps
    | fail_if_no_progress (first
        | refine State.Keeps.upd ?_ rfl (fun c => { c with })
        | refine State.Keeps.upd ?_ rfl (by
          intro c; cases c; constructor <;> repeat' first
            | assumption | exact Sparse.wf_put (by assumption) | exact Sparse.wf_ins (by assumption)
            | exact Sparse.wf_del (by assumption) | exact Sparse.wf_filter (by assumption) | rfl
            | (dsimp only; split) | split))
    | (intro _ _ _) | (intro _ _) | dsimp only)

theorem State.epkIntent_keeps {z s : State} {fn data : Nat} (hk : z.Keeps s) :
    z.Keeps (State.epkIntent s fn data) := by
  unfold State.epkIntent
  repeat' (first
    | with_reducible assumption | with_reducible exact State.Keeps.refl _
    | with_reducible apply State.storeIntent_keeps | with_reducible apply State.releasePlate_keeps
    | with_reducible apply State.refreshLanes_keeps | with_reducible apply forUpTo_keeps
    | with_reducible apply State.Keeps.ite | (intro _ _ _) | (intro _ _) | split | dsimp only)

theorem execEpkHostStateWrite_keeps {z s : State} (fn : Fin 65) (data : Word) (hk : z.Keeps s) :
    z.KeepsNext (execEpkHostStateWrite fn data s) := by
  unfold execEpkHostStateWrite
  repeat' (first
    | with_reducible assumption | with_reducible exact State.Keeps.refl _
    | with_reducible apply State.mmioWrite_keeps | with_reducible apply State.epkIntent_keeps
    | with_reducible apply State.KeepsNext.next | (intro _ _) | dsimp only)

theorem execLaneBlockLock_keeps {z s : State} (l : Fin 4) (hk : z.Keeps s) : z.KeepsNext (execLaneBlockLock l s) := by
  unfold execLaneBlockLock
  repeat' (first
    | with_reducible assumption | with_reducible exact State.Keeps.refl _ | with_reducible apply State.setLane_keeps
    | with_reducible apply State.KeepsNext.next | with_reducible apply State.Keeps.ite | split)

theorem execHelloSend_keeps {z s : State} (l : Fin 4) (hk : z.Keeps s) : z.KeepsNext (execHelloSend l s) := by
  unfold execHelloSend
  repeat' (first
    | with_reducible assumption | with_reducible exact State.Keeps.refl _ | with_reducible apply State.sendEpk_keeps
    | with_reducible apply State.setLane_keeps | with_reducible apply State.KeepsNext.next
    | with_reducible apply State.Keeps.ite | split | dsimp only)

theorem execLaneTrainTimeout_keeps {z s : State} (l : Fin 4) (hk : z.Keeps s) :
    z.KeepsNext (execLaneTrainTimeout l s) := by
  unfold execLaneTrainTimeout
  repeat' (first
    | with_reducible assumption | with_reducible exact State.Keeps.refl _ | with_reducible apply State.setLane_keeps
    | with_reducible apply State.KeepsNext.next | with_reducible apply State.Keeps.ite | split | dsimp only)

theorem State.voteLinkDown_keeps {z s : State} (hk : z.Keeps s) : z.Keeps (State.voteLinkDown s) := by
  unfold State.voteLinkDown
  repeat' (first
    | with_reducible assumption | with_reducible exact State.Keeps.refl _
    | with_reducible apply State.abortRound_keeps | with_reducible apply State.Keeps.ite | split)

theorem execLaneLoss_keeps {z s : State} (l : Fin 4) (blockLock : Bool) (hk : z.Keeps s) :
    z.KeepsNext (execLaneLoss l blockLock s) := by
  unfold execLaneLoss
  repeat' (first
    | with_reducible assumption | with_reducible exact State.Keeps.refl _ | with_reducible apply State.bumpSat_keeps
    | with_reducible apply State.raise_keeps | with_reducible apply State.setLane_keeps
    | with_reducible apply State.notePair_keeps | with_reducible apply State.voteLinkDown_keeps
    | with_reducible apply State.KeepsNext.next | with_reducible apply State.Keeps.ite | split | dsimp only)

theorem execEpkBadFrame_keeps {z s : State} (l : Fin 4) (hk : z.Keeps s) : z.KeepsNext (execEpkBadFrame l s) := by
  unfold execEpkBadFrame
  repeat' (first
    | with_reducible assumption | with_reducible exact State.Keeps.refl _ | with_reducible apply State.bumpSat_keeps
    | with_reducible apply State.KeepsNext.next | with_reducible apply State.Keeps.ite | split)

theorem State.noteMaster_keeps {z s before : State} (hk : z.Keeps s) : z.Keeps (s.noteMaster before) :=
  State.Keeps.ite hk (State.Keeps.ite (State.raise_keeps hk)
    (State.Keeps.upd (State.wr_keeps (State.raise_keeps hk)) rfl (fun c => { c with })))

theorem State.heardOn_keeps {z s : State} {l n : Nat} (hk : z.Keeps s) : z.Keeps (State.heardOn s l n) := by
  unfold State.heardOn
  repeat' (first
    | with_reducible assumption | with_reducible exact State.Keeps.refl _
    | with_reducible apply State.setEkLane_keeps | with_reducible apply State.noteMaster_keeps
    | with_reducible apply State.Keeps.ite
    | fail_if_no_progress (first
        | refine State.Keeps.upd ?_ rfl (fun c => { c with })
        | refine State.Keeps.upd ?_ rfl (by
          intro c; cases c; constructor <;> repeat' first
            | assumption | exact Sparse.wf_put (by assumption) | exact Sparse.wf_ins (by assumption)
            | exact Sparse.wf_del (by assumption) | exact Sparse.wf_filter (by assumption) | rfl
            | (dsimp only; split) | split))
    | split | dsimp only)

theorem State.takePartner_keeps {z s : State} {peer : Nat} (hk : z.Keeps s) : z.Keeps (State.takePartner s peer) := by
  unfold State.takePartner
  repeat' (first
    | with_reducible assumption | with_reducible exact State.Keeps.refl _ | with_reducible apply State.wr_keeps
    | with_reducible apply State.modPair_keeps | with_reducible apply forUpTo_keeps
    | with_reducible apply State.Keeps.ite
    | fail_if_no_progress (first
        | refine State.Keeps.upd ?_ rfl (fun c => { c with })
        | refine State.Keeps.upd ?_ rfl (by
          intro c; cases c; constructor <;> repeat' first
            | assumption | exact Sparse.wf_put (by assumption) | exact Sparse.wf_ins (by assumption)
            | exact Sparse.wf_del (by assumption) | exact Sparse.wf_filter (by assumption) | rfl
            | (dsimp only; split) | split))
    | (intro _ _ _) | (intro _ _) | split | dsimp only)

theorem State.laneComesUp_keeps {z s : State} {l peer node : Nat} (hk : z.Keeps s) :
    z.Keeps (State.laneComesUp s l peer node) := by
  unfold State.laneComesUp
  repeat' (first
    | with_reducible assumption | with_reducible exact State.Keeps.refl _ | with_reducible apply State.wr_keeps
    | with_reducible apply State.setEkLane_keeps | with_reducible apply State.notePair_keeps
    | with_reducible apply State.noteMaster_keeps | with_reducible apply State.takePartner_keeps
    | with_reducible apply State.Keeps.ite | split | dsimp only)

theorem execHelloReceived_keeps {z s : State} (l : Fin 4) (peer : BitVec 64) (device : BitVec 16) (sid : Fin 4)
    (pairEn : Bool) (lane : Fin 4) (node : Fin 8) (hk : z.Keeps s) :
    z.KeepsNext (execHelloReceived l peer device sid pairEn lane node s) := by
  unfold execHelloReceived
  repeat' (first
    | with_reducible assumption | with_reducible exact State.Keeps.refl _ | with_reducible apply State.raise_keeps
    | with_reducible apply State.setEkLane_keeps | with_reducible apply State.setLane_keeps
    | with_reducible apply State.laneComesUp_keeps | with_reducible apply State.KeepsNext.next
    | with_reducible apply State.Keeps.ite | split | dsimp only)

theorem State.relayBody_keeps {z s : State} {l : Nat} {b : EpkBody} (hk : z.Keeps s) : z.Keeps (s.relayBody l b).2 := by
  unfold State.relayBody
  split
  · exact State.drawBetween_keeps (lo := 0) (hi := 2500 * 65536) hk
  · exact hk

theorem State.relay_keeps {z s : State} {h : EpkHdr} {b : EpkBody} (hk : z.Keeps s) :
    z.Keeps (State.relay s h b) := by
  unfold State.relay
  repeat' (first
    | with_reducible assumption | with_reducible exact State.Keeps.refl _ | with_reducible apply State.emit_keeps
    | with_reducible apply State.relayBody_keeps | with_reducible apply State.Keeps.ite | split | dsimp only)

theorem State.epkIn_keeps {z s : State} {h : EpkHdr} {b : EpkBody} {f : State → State} (hk : z.Keeps s) (hf : ∀ u,
    z.Keeps u → z.Keeps (f u)) : z.Keeps (State.epkIn s h b f) := by
  unfold State.epkIn
  repeat' (first
    | with_reducible assumption | with_reducible exact State.Keeps.refl _ | with_reducible apply hf
    | with_reducible apply State.heardOn_keeps | with_reducible apply State.relay_keeps
    | with_reducible apply State.Keeps.ite | split | dsimp only)

theorem execMarkerSend_keeps {z s : State} (hk : z.Keeps s) : z.KeepsNext (execMarkerSend s) := by
  unfold execMarkerSend
  repeat' (first
    | with_reducible assumption | with_reducible exact State.Keeps.refl _
    | with_reducible apply State.setEkLane_keeps | with_reducible apply State.sendEpk_keeps
    | with_reducible apply State.KeepsNext.next | with_reducible apply forEach_keeps | (intro _ _ _) | (intro _ _)
    | dsimp only)

theorem State.dropMarkers_keeps {z s : State} (hk : z.Keeps s) : z.Keeps (State.dropMarkers s) := by
  unfold State.dropMarkers
  repeat' (first
    | with_reducible assumption | with_reducible exact State.Keeps.refl _ | with_reducible apply State.wr_keeps
    | with_reducible apply State.setQualified_keeps
    | fail_if_no_progress (first
        | refine State.Keeps.upd ?_ rfl (fun c => { c with })
        | refine State.Keeps.upd ?_ rfl (by
          intro c; cases c; constructor <;> repeat' first
            | assumption | exact Sparse.wf_put (by assumption) | exact Sparse.wf_ins (by assumption)
            | exact Sparse.wf_del (by assumption) | exact Sparse.wf_filter (by assumption) | rfl
            | (dsimp only; split) | split)))

theorem State.noteOrigin_keeps {z s : State} (hk : z.Keeps s) : z.Keeps (State.noteOrigin s) := by
  unfold State.noteOrigin
  repeat' (first
    | with_reducible assumption | with_reducible exact State.Keeps.refl _ | with_reducible apply State.wr_keeps
    | with_reducible apply State.wrB_keeps | with_reducible apply State.dropMarkers_keeps
    | with_reducible apply State.Keeps.ite | split | dsimp only)

theorem State.markerDelay_keeps {z s : State} {l lastSeq held : Nat} (hk : z.Keeps s) :
    z.Keeps (State.markerDelay s l lastSeq held) := by
  unfold State.markerDelay
  repeat' (first
    | with_reducible assumption | with_reducible exact State.Keeps.refl _ | with_reducible apply State.wr_keeps
    | with_reducible apply State.drawRound_keeps | with_reducible apply State.setEkLane_keeps
    | with_reducible apply foldl_keeps | with_reducible apply foldl_keeps_snd | (intro _ _ _) | (intro _ _) | split
    | dsimp only)

theorem State.markerError_keeps {z s : State} {l : Nat} {time correction : Int} (hk : z.Keeps s) :
    z.Keeps (State.markerError s l time correction) := by
  unfold State.markerError
  repeat' (first
    | with_reducible assumption | with_reducible exact State.Keeps.refl _ | with_reducible apply State.wr_keeps
    | with_reducible apply State.setQualified_keeps | with_reducible apply State.noteError_keeps
    | with_reducible apply State.tbPhase_keeps | with_reducible apply State.Keeps.ite
    | fail_if_no_progress (first
        | refine State.Keeps.upd ?_ rfl (fun c => { c with })
        | refine State.Keeps.upd ?_ rfl (by
          intro c; cases c; constructor <;> repeat' first
            | assumption | exact Sparse.wf_put (by assumption) | exact Sparse.wf_ins (by assumption)
            | exact Sparse.wf_del (by assumption) | exact Sparse.wf_filter (by assumption) | rfl
            | (dsimp only; split) | split))
    | split | dsimp only)

theorem State.useMarker_keeps {z s : State} {h : EpkHdr} {time correction : Int} {tbState source lastSeq held : Nat}
    (hk : z.Keeps s) : z.Keeps (State.useMarker s h time correction tbState source lastSeq held) := by
  unfold State.useMarker
  repeat' (first
    | with_reducible assumption | with_reducible exact State.Keeps.refl _
    | with_reducible apply State.setEkLane_keeps | with_reducible apply State.noteOrigin_keeps
    | with_reducible apply State.markerDelay_keeps | with_reducible apply State.markerError_keeps
    | with_reducible apply State.Keeps.ite
    | fail_if_no_progress (first
        | refine State.Keeps.upd ?_ rfl (fun c => { c with })
        | refine State.Keeps.upd ?_ rfl (by
          intro c; cases c; constructor <;> repeat' first
            | assumption | exact Sparse.wf_put (by assumption) | exact Sparse.wf_ins (by assumption)
            | exact Sparse.wf_del (by assumption) | exact Sparse.wf_filter (by assumption) | rfl
            | (dsimp only; split) | split))
    | split | dsimp only)

theorem execMarkerReceived_keeps {z s : State} (h : EpkHdr) (time correction : Int) (tbState source lastSeq held :
    Nat) (hk : z.Keeps s) : z.KeepsNext (execMarkerReceived h time correction tbState source lastSeq held s) := by
  unfold execMarkerReceived
  repeat' (first
    | with_reducible assumption | with_reducible exact State.Keeps.refl _ | with_reducible apply State.epkIn_keeps
    | with_reducible apply State.useMarker_keeps | with_reducible apply State.KeepsNext.next | (intro _ _)
    | dsimp only)

theorem execEpkTimeSourceLoss_keeps {z s : State} (hk : z.Keeps s) : z.KeepsNext (execEpkTimeSourceLoss s) := by
  unfold execEpkTimeSourceLoss
  repeat' (first
    | with_reducible assumption | with_reducible exact State.Keeps.refl _
    | with_reducible apply State.dropMarkers_keeps | with_reducible apply State.KeepsNext.next
    | with_reducible apply State.Keeps.ite | split)

theorem State.takeLease_keeps {z s : State} {v : Nat} (hk : z.Keeps s) : z.Keeps (State.takeLease s v) := by
  unfold State.takeLease
  repeat' (first
    | with_reducible assumption | with_reducible exact State.Keeps.refl _ | with_reducible apply State.wr_keeps
    | fail_if_no_progress (first
        | refine State.Keeps.upd ?_ rfl (fun c => { c with })
        | refine State.Keeps.upd ?_ rfl (by
          intro c; cases c; constructor <;> repeat' first
            | assumption | exact Sparse.wf_put (by assumption) | exact Sparse.wf_ins (by assumption)
            | exact Sparse.wf_del (by assumption) | exact Sparse.wf_filter (by assumption) | rfl
            | (dsimp only; split) | split)))

theorem State.grantLeases_keeps {z s : State} (hk : z.Keeps s) : z.Keeps (State.grantLeases s) := by
  unfold State.grantLeases
  repeat' (first
    | with_reducible assumption | with_reducible exact State.Keeps.refl _
    | with_reducible apply State.broadcast_keeps | with_reducible apply State.takeLease_keeps | dsimp only)

theorem execStkReportSend_keeps {z s : State} (hk : z.Keeps s) : z.KeepsNext (execStkReportSend s) := by
  unfold execStkReportSend
  repeat' (first
    | with_reducible assumption | with_reducible exact State.Keeps.refl _ | with_reducible apply State.wr_keeps
    | with_reducible apply State.sendEpk_keeps | with_reducible apply State.grantLeases_keeps
    | with_reducible apply State.KeepsNext.next | with_reducible apply State.Keeps.ite | split | dsimp only)

theorem execStkReportReceived_keeps {z s : State} (h : EpkHdr) (charge : Nat) (hk : z.Keeps s) :
    z.KeepsNext (execStkReportReceived h charge s) := by
  unfold execStkReportReceived
  repeat' (first
    | with_reducible assumption | with_reducible exact State.Keeps.refl _ | with_reducible apply State.epkIn_keeps
    | with_reducible apply State.grantLeases_keeps | with_reducible apply State.KeepsNext.next
    | with_reducible apply State.Keeps.ite
    | fail_if_no_progress (first
        | refine State.Keeps.upd ?_ rfl (fun c => { c with })
        | refine State.Keeps.upd ?_ rfl (by
          intro c; cases c; constructor <;> repeat' first
            | assumption | exact Sparse.wf_put (by assumption) | exact Sparse.wf_ins (by assumption)
            | exact Sparse.wf_del (by assumption) | exact Sparse.wf_filter (by assumption) | rfl
            | (dsimp only; split) | split))
    | (intro _ _) | split | dsimp only)

theorem execStkLeaseReceived_keeps {z s : State} (h : EpkHdr) (leases : List Nat) (hk : z.Keeps s) :
    z.KeepsNext (execStkLeaseReceived h leases s) := by
  unfold execStkLeaseReceived
  repeat' (first
    | with_reducible assumption | with_reducible exact State.Keeps.refl _ | with_reducible apply State.epkIn_keeps
    | with_reducible apply State.takeLease_keeps | with_reducible apply State.KeepsNext.next
    | with_reducible apply State.Keeps.ite | (intro _ _) | split | dsimp only)

theorem execProposeReceived_keeps {z s : State} (h : EpkHdr) (round : BitVec 8) (tc : Nat) (hk : z.Keeps s) :
    z.KeepsNext (execProposeReceived h round tc s) := by
  unfold execProposeReceived
  repeat' (first
    | with_reducible assumption | with_reducible exact State.Keeps.refl _
    | with_reducible apply State.broadcast_keeps | with_reducible apply State.takeRound_keeps
    | with_reducible apply State.propose_keeps | with_reducible apply State.epkIn_keeps
    | with_reducible apply State.KeepsNext.next | with_reducible apply State.Keeps.ite | (intro _ _) | split
    | dsimp only)

theorem execVoteReceived_keeps {z s : State} (h : EpkHdr) (round : BitVec 8) (yes : Bool) (hk : z.Keeps s) :
    z.KeepsNext (execVoteReceived h round yes s) := by
  unfold execVoteReceived
  repeat' (first
    | with_reducible assumption | with_reducible exact State.Keeps.refl _
    | with_reducible apply State.abortRound_keeps | with_reducible apply State.tryCommit_keeps
    | with_reducible apply State.epkIn_keeps | with_reducible apply State.KeepsNext.next
    | with_reducible apply State.Keeps.ite
    | fail_if_no_progress (first
        | refine State.Keeps.upd ?_ rfl (fun c => { c with })
        | refine State.Keeps.upd ?_ rfl (by
          intro c; cases c; constructor <;> repeat' first
            | assumption | exact Sparse.wf_put (by assumption) | exact Sparse.wf_ins (by assumption)
            | exact Sparse.wf_del (by assumption) | exact Sparse.wf_filter (by assumption) | rfl
            | (dsimp only; split) | split))
    | (intro _ _) | split | dsimp only)

theorem execCommitReceived_keeps {z s : State} (h : EpkHdr) (round : BitVec 8) (hk : z.Keeps s) :
    z.KeepsNext (execCommitReceived h round s) := by
  unfold execCommitReceived
  repeat' (first
    | with_reducible assumption | with_reducible exact State.Keeps.refl _ | with_reducible apply State.epkIn_keeps
    | with_reducible apply State.KeepsNext.next | with_reducible apply State.Keeps.ite
    | fail_if_no_progress (first
        | refine State.Keeps.upd ?_ rfl (fun c => { c with })
        | refine State.Keeps.upd ?_ rfl (by
          intro c; cases c; constructor <;> repeat' first
            | assumption | exact Sparse.wf_put (by assumption) | exact Sparse.wf_ins (by assumption)
            | exact Sparse.wf_del (by assumption) | exact Sparse.wf_filter (by assumption) | rfl
            | (dsimp only; split) | split))
    | (intro _ _) | split | dsimp only)

theorem execAbortReceived_keeps {z s : State} (h : EpkHdr) (round : BitVec 8) (stamp : Nat) (hk : z.Keeps s) :
    z.KeepsNext (execAbortReceived h round stamp s) := by
  unfold execAbortReceived
  repeat' (first
    | with_reducible assumption | with_reducible exact State.Keeps.refl _
    | with_reducible apply State.abortRound_keeps | with_reducible apply State.epkIn_keeps
    | with_reducible apply State.KeepsNext.next | with_reducible apply State.Keeps.ite | (intro _ _) | split
    | dsimp only)

theorem execWakeFrameReceived_keeps {z s : State} (h : EpkHdr) (plates : BitVec 8) (stamp : Nat) (hk : z.Keeps s) :
    z.KeepsNext (execWakeFrameReceived h plates stamp s) := by
  unfold execWakeFrameReceived
  repeat' (first
    | with_reducible assumption | with_reducible exact State.Keeps.refl _
    | with_reducible apply State.abortRound_keeps | with_reducible apply State.requestWake_keeps
    | with_reducible apply State.epkIn_keeps | with_reducible apply State.KeepsNext.next
    | with_reducible apply State.Keeps.ite | (intro _ _) | split | dsimp only)

theorem execNodeAbsent_keeps {z s : State} (n : Fin 8) (hk : z.Keeps s) : z.KeepsNext (execNodeAbsent n s) := by
  unfold execNodeAbsent
  repeat' (first
    | with_reducible assumption | with_reducible exact State.Keeps.refl _
    | with_reducible apply State.voteLinkDown_keeps | with_reducible apply State.noteMaster_keeps
    | with_reducible apply State.noteOrigin_keeps | with_reducible apply State.KeepsNext.next
    | with_reducible apply State.Keeps.ite
    | fail_if_no_progress (first
        | refine State.Keeps.upd ?_ rfl (fun c => { c with })
        | refine State.Keeps.upd ?_ rfl (by
          intro c; cases c; constructor <;> repeat' first
            | assumption | exact Sparse.wf_put (by assumption) | exact Sparse.wf_ins (by assumption)
            | exact Sparse.wf_del (by assumption) | exact Sparse.wf_filter (by assumption) | rfl
            | (dsimp only; split) | split))
    | split | dsimp only)

/-! ### Machine/Pairs.lean -/

theorem State.setRole_keeps {z s : State} {p r : Nat} (hk : z.Keeps s) : z.Keeps (State.setRole s p r) := by
  unfold State.setRole
  repeat' (first
    | with_reducible assumption | with_reducible exact State.Keeps.refl _ | with_reducible apply State.wr_keeps
    | with_reducible apply State.driveHighway_keeps)

theorem State.goActive_keeps {z s : State} {p : Nat} (hk : z.Keeps s) : z.Keeps (State.goActive s p) := by
  unfold State.goActive
  repeat' (first
    | with_reducible assumption | with_reducible exact State.Keeps.refl _ | with_reducible apply State.wr_keeps
    | with_reducible apply State.modPair_keeps | with_reducible apply State.dropProt_keeps
    | with_reducible apply State.sendRole_keeps | with_reducible apply State.setRole_keeps | (intro _ _) | split
    | dsimp only)

theorem State.goStandby_keeps {z s : State} {p : Nat} (hk : z.Keeps s) : z.Keeps (State.goStandby s p) := by
  unfold State.goStandby
  repeat' (first
    | with_reducible assumption | with_reducible exact State.Keeps.refl _ | with_reducible apply State.bumpSat_keeps
    | with_reducible apply State.raise_keeps | with_reducible apply State.modPair_keeps
    | with_reducible apply State.dropProt_keeps | with_reducible apply State.sendRole_keeps
    | with_reducible apply State.setRole_keeps | with_reducible apply State.Keeps.ite | (intro _ _) | split
    | dsimp only)

theorem State.dropMirror_keeps {z s : State} {g : Nat} (hk : z.Keeps s) : z.Keeps (s.dropMirror g) := by
  unfold State.dropMirror
  extract_lets a
  have ha : z.Keeps a := State.wr_keeps (State.wr_keeps (State.setPath_keeps (State.releaseChannel_keeps hk)))
  clear_value a
  exact State.modChan_keeps (State.Keeps.upd ha rfl (fun k => { k with mirrors := Sparse.wf_del k.mirrors }))

theorem State.unpair_keeps {z s : State} {p : Nat} (hk : z.Keeps s) : z.Keeps (State.unpair s p) := by
  unfold State.unpair
  repeat' (first
    | with_reducible assumption | with_reducible exact State.Keeps.refl _ | with_reducible apply State.modPair_keeps
    | with_reducible apply State.dropProt_keeps | with_reducible apply State.sendRole_keeps
    | with_reducible apply State.setRole_keeps | with_reducible apply State.dropMirror_keeps
    | with_reducible apply forEach_keeps | with_reducible apply State.Keeps.ite | (intro _ _ _) | (intro _ _) | split
    | dsimp only)

theorem State.settleRole_keeps {z s : State} {p : Nat} (hk : z.Keeps s) : z.Keeps (State.settleRole s p) := by
  unfold State.settleRole
  repeat' (first
    | with_reducible assumption | with_reducible exact State.Keeps.refl _ | with_reducible apply State.wr_keeps
    | with_reducible apply State.modPair_keeps | with_reducible apply State.setProt_keeps
    | with_reducible apply State.goActive_keeps | with_reducible apply State.goStandby_keeps
    | with_reducible apply State.unpair_keeps | with_reducible apply State.Keeps.ite | (intro _ _) | split
    | dsimp only)

theorem execRoleSend_keeps {z s : State} (hk : z.Keeps s) : z.KeepsNext (execRoleSend s) := by
  unfold execRoleSend
  repeat' (first
    | with_reducible assumption | with_reducible exact State.Keeps.refl _ | with_reducible apply State.sendRole_keeps
    | with_reducible apply State.KeepsNext.next)

theorem State.askSwitch_keeps {z s : State} {p other : Nat} (hk : z.Keeps s) :
    z.Keeps (State.askSwitch s p other) := by
  unfold State.askSwitch
  repeat' (first
    | with_reducible assumption | with_reducible exact State.Keeps.refl _ | with_reducible apply State.modPair_keeps
    | with_reducible apply State.Keeps.ite | (intro _ _) | split | dsimp only)

theorem State.takeEntry_keeps {z s : State} {p : Nat} {e : RoleEntry} (hk : z.Keeps s) :
    z.Keeps (State.takeEntry s p e) := by
  unfold State.takeEntry
  repeat' (first
    | with_reducible assumption | with_reducible exact State.Keeps.refl _ | with_reducible apply State.modPair_keeps
    | with_reducible apply State.settleRole_keeps | with_reducible apply State.askSwitch_keeps
    | with_reducible apply State.Keeps.ite | (intro _ _) | split | dsimp only)

theorem State.takeEntries_keeps {z s : State} {p : Nat} {l : List RoleEntry} (hk : z.Keeps s) :
    z.Keeps (s.takeEntries p l) := by
  induction l generalizing s p with
  | nil => exact hk
  | cons e l ih => exact State.Keeps.ite (ih (State.takeEntry_keeps hk)) hk

theorem State.takeNotice_keeps {z s : State} {p subtype : Nat} (hk : z.Keeps s) :
    z.Keeps (State.takeNotice s p subtype) := by
  unfold State.takeNotice
  repeat' (first
    | with_reducible assumption | with_reducible exact State.Keeps.refl _ | with_reducible apply State.modPair_keeps
    | with_reducible apply State.goActive_keeps | with_reducible apply State.Keeps.ite | (intro _ _) | split
    | dsimp only)

theorem execRoleReceived_keeps {z s : State} (h : EpkHdr) (subtype : Fin 3) (plates : List RoleEntry) (hk : z.Keeps s)
    : z.KeepsNext (execRoleReceived h subtype plates s) := by
  unfold execRoleReceived
  repeat' (first
    | with_reducible assumption | with_reducible exact State.Keeps.refl _ | with_reducible apply State.epkIn_keeps
    | with_reducible apply State.takeEntries_keeps | with_reducible apply State.takeNotice_keeps
    | with_reducible apply State.KeepsNext.next | with_reducible apply State.Keeps.ite | (intro _ _) | split
    | dsimp only)

theorem execPartnerLoss_keeps {z s : State} (hk : z.Keeps s) : z.KeepsNext (execPartnerLoss s) := by
  unfold execPartnerLoss
  refine .next (State.Keeps.ite ?_ hk)
  extract_lets a e b
  have ha : z.Keeps a := by
    unfold a
    refine forUpTo_keeps _ hk (fun p t hu => State.modPair_keeps ?_)
    split
    · split
      · exact State.modPair_keeps hu
      · exact State.unpair_keeps hu
    · split
      · exact State.dropProt_keeps hu
      · exact hu
  clear_value a
  have hb : z.Keeps b := State.Keeps.upd ha rfl (fun c => { c with })
  exact State.noteMaster_keeps (State.wr_keeps (State.wr_keeps hb))

theorem State.askImpression_keeps {z s : State} {p : Nat} (hk : z.Keeps s) : z.Keeps (State.askImpression s p) := by
  unfold State.askImpression
  repeat' (first
    | with_reducible assumption | with_reducible exact State.Keeps.refl _ | with_reducible apply State.ask_keeps
    | with_reducible apply State.Keeps.ite | (intro _ _) | split | dsimp only)

theorem execImpressionGrantRetry_keeps {z s : State} (p : Fin 8) (hk : z.Keeps s) :
    z.KeepsNext (execImpressionGrantRetry p s) := by
  unfold execImpressionGrantRetry
  repeat' (first
    | with_reducible assumption | with_reducible exact State.Keeps.refl _
    | with_reducible apply State.askImpression_keeps | with_reducible apply State.KeepsNext.next
    | with_reducible apply State.Keeps.ite | split)

theorem State.sendMirror_keeps {z s : State} {p : Nat} {impr : Bool} (hk : z.Keeps s) :
    z.Keeps (State.sendMirror s p impr) := by
  unfold State.sendMirror
  repeat' (first
    | with_reducible assumption | with_reducible exact State.Keeps.refl _ | with_reducible apply State.wr_keeps
    | with_reducible apply State.modPair_keeps | with_reducible apply State.sendEpk_keeps
    | with_reducible apply forEach_keeps | with_reducible apply forEach_keeps_snd
    | with_reducible apply State.Keeps.ite | (intro _ _ _) | (intro _ _) | split | dsimp only)

theorem State.sendImpression_keeps {z s : State} {p : Nat} (hk : z.Keeps s) : z.Keeps (State.sendImpression s p) := by
  unfold State.sendImpression
  repeat' (first
    | with_reducible assumption | with_reducible exact State.Keeps.refl _ | with_reducible apply State.wr_keeps
    | with_reducible apply State.setProt_keeps | with_reducible apply State.sendRole_keeps
    | with_reducible apply State.sendMirror_keeps | with_reducible apply forEach_keeps | (intro _ _ _) | (intro _ _)
    | dsimp only)

theorem State.sendProof_keeps {z s : State} {p : Nat} (hk : z.Keeps s) : z.Keeps (State.sendProof s p) := by
  unfold State.sendProof
  repeat' (first
    | with_reducible assumption | with_reducible exact State.Keeps.refl _ | with_reducible apply State.modPair_keeps
    | with_reducible apply State.sendRole_keeps | with_reducible apply State.sendMirror_keeps
    | with_reducible apply State.Keeps.ite | (intro _ _) | split | dsimp only)

theorem State.proofTick_keeps {z s : State} {p : Nat} (hk : z.Keeps s) : z.Keeps (State.proofTick s p) := by
  unfold State.proofTick
  repeat' (first
    | with_reducible assumption | with_reducible exact State.Keeps.refl _ | with_reducible apply State.dropProt_keeps
    | with_reducible apply State.sendRole_keeps | with_reducible apply State.askImpression_keeps
    | with_reducible apply State.sendImpression_keeps | with_reducible apply State.sendProof_keeps
    | with_reducible apply State.Keeps.ite | split | dsimp only)

theorem State.handedOver_keeps {z s : State} {p : Nat} (hk : z.Keeps s) : z.Keeps (State.handedOver s p) := by
  unfold State.handedOver
  repeat' (first
    | with_reducible assumption | with_reducible exact State.Keeps.refl _ | with_reducible apply State.modPair_keeps
    | with_reducible apply State.dropProt_keeps | with_reducible apply State.sendRole_keeps
    | with_reducible apply State.echoStop_keeps | with_reducible apply State.setRole_keeps
    | with_reducible apply forEach_keeps
    | fail_if_no_progress (first
        | refine State.Keeps.upd ?_ rfl (fun c => { c with })
        | refine State.Keeps.upd ?_ rfl (by
          intro c; cases c; constructor <;> repeat' first
            | assumption | exact Sparse.wf_put (by assumption) | exact Sparse.wf_ins (by assumption)
            | exact Sparse.wf_del (by assumption) | exact Sparse.wf_filter (by assumption) | rfl
            | (dsimp only; split) | split))
    | (intro _ _ _) | (intro _ _) | dsimp only)

theorem State.takeAck_keeps {z s : State} {p n : Nat} (hk : z.Keeps s) : z.Keeps (s.takeAck p n) := by
  unfold State.takeAck
  extract_lets x c w a b d
  have hb : z.Keeps b := State.modPair_keeps (forEach_keeps _ hk (fun _ _ hu =>
    forEach_keeps _ hu (fun _ _ hv => State.wr_keeps hv)))
  clear_value b
  have hd : z.Keeps d := by
    unfold d
    split
    · refine State.Keeps.ite ?_ hb
      exact State.sendRole_keeps (State.setProt_keeps
        (State.Keeps.upd hb rfl (fun k => { k with imprGrants := Sparse.wf_del k.imprGrants })))
    · exact hb
  clear_value d
  split
  · exact State.Keeps.ite (State.handedOver_keeps hd) hd
  · exact hd

theorem execAckReceived_keeps {z s : State} (h : EpkHdr) (number : BitVec 32) (hk : z.Keeps s) :
    z.KeepsNext (execAckReceived h number s) := by
  unfold execAckReceived
  repeat' (first
    | with_reducible assumption | with_reducible exact State.Keeps.refl _ | with_reducible apply State.epkIn_keeps
    | with_reducible apply State.takeAck_keeps | with_reducible apply State.KeepsNext.next
    | with_reducible apply State.Keeps.ite | (intro _ _) | split | dsimp only)

theorem State.pokeWord_keeps {z s : State} {g off v : Nat} (hk : z.Keeps s) : z.Keeps (State.pokeWord s g off v) := by
  unfold State.pokeWord
  repeat' (first
    | with_reducible assumption | with_reducible exact State.Keeps.refl _ | with_reducible apply State.wr_keeps
    | with_reducible apply State.modChan_keeps | with_reducible apply forEach_keeps
    | with_reducible apply State.Keeps.ite | (intro _ _ _) | (intro _ _) | split | dsimp only)

theorem State.chargeMirror_keeps {z s : State} {g : Nat} {changed : Bool} (hk : z.Keeps s) :
    z.Keeps (State.chargeMirror s g changed) := by
  unfold State.chargeMirror
  repeat' (first
    | with_reducible assumption | with_reducible exact State.Keeps.refl _ | with_reducible apply State.wr_keeps
    | with_reducible apply State.modChan_keeps | with_reducible apply State.ask_keeps
    | with_reducible apply State.withdraw_keeps | with_reducible apply State.Keeps.ite | (intro _ _) | split
    | dsimp only)

theorem State.setMirror_keeps {z s : State} {p n : Nat} {all : Bool} {m : MirrorChan} (hk : z.Keeps s) :
    z.Keeps (s.setMirror p n all m) := by
  unfold State.setMirror
  extract_lets g b fresh a l c e d f h k r u old quarters i
  have ha : z.Keeps a := forEach_keeps _ hk (fun _ _ hu => State.Keeps.ite (State.pokeWord_keeps hu) hu)
  have hl : z.Keeps l := State.Keeps.ite (State.writeHeader_keeps ha) ha
  have hc : z.Keeps c := State.noteBeyond_keeps (State.chargeMirror_keeps (State.modChan_keeps hl))
  have hd : z.Keeps d := State.setTd_keeps (State.setEcho_keeps hc)
  have hf : z.Keeps f :=
    State.wr_keeps (State.wr_keeps (State.wr_keeps (State.wr_keeps (State.setPhase_keeps hd))))
  have hh : z.Keeps h := State.modJitter_keeps hf
  have hm : z.Keeps k := State.modMedia_keeps hh
  have hr : z.Keeps r := State.wr_keeps (State.wr_keeps (State.wr_keeps (State.wr_keeps hm)))
  have hu : z.Keeps u := State.wr_keeps (State.wr_keeps (State.wr_keeps hr))
  clear_value u
  exact State.Keeps.upd hu rfl (fun k => { k with mirrors := Sparse.wf_ins k.mirrors })

theorem State.applyMirror_keeps {z s : State} {p n : Nat} {all : Bool} {chans : List MirrorChan} (hk : z.Keeps s) :
    z.Keeps (State.applyMirror s p n all chans) := by
  unfold State.applyMirror
  repeat' (first
    | with_reducible assumption | with_reducible exact State.Keeps.refl _ | with_reducible apply State.wr_keeps
    | with_reducible apply State.modPair_keeps | with_reducible apply State.dropMirror_keeps
    | with_reducible apply State.setMirror_keeps | with_reducible apply forEach_keeps | (intro _ _ _) | (intro _ _)
    | dsimp only)

theorem State.sendAck_keeps {z s : State} {p : Nat} (hk : z.Keeps s) : z.Keeps (State.sendAck s p) := by
  unfold State.sendAck
  repeat' (first
    | with_reducible assumption | with_reducible exact State.Keeps.refl _ | with_reducible apply State.sendEpk_keeps)

theorem State.applyProof_keeps {z s : State} {p n : Nat} {chans : List MirrorChan} (hk : z.Keeps s) :
    z.Keeps (State.applyProof s p n chans) := by
  unfold State.applyProof
  repeat' (first
    | with_reducible assumption | with_reducible exact State.Keeps.refl _ | with_reducible apply State.modPair_keeps
    | with_reducible apply State.applyMirror_keeps | with_reducible apply State.sendAck_keeps
    | with_reducible apply State.Keeps.ite | (intro _ _) | split | dsimp only)

theorem State.proofLost_keeps {z s : State} {n : Nat} (hk : z.Keeps s) : z.Keeps (State.proofLost s n) := by
  unfold State.proofLost
  repeat' (first
    | with_reducible assumption | with_reducible exact State.Keeps.refl _ | with_reducible apply State.bumpSat_keeps
    | with_reducible apply State.raise_keeps)

theorem State.proofBroken_keeps {z s : State} {p n : Nat} (hk : z.Keeps s) : z.Keeps (State.proofBroken s p n) := by
  unfold State.proofBroken
  repeat' (first
    | with_reducible assumption | with_reducible exact State.Keeps.refl _ | with_reducible apply State.proofLost_keeps
    | with_reducible apply State.modPair_keeps)

theorem State.takeProof_keeps {z s : State} {p n : Nat} {chans : List MirrorChan} (hk : z.Keeps s) :
    z.Keeps (State.takeProof s p n chans) := by
  unfold State.takeProof
  repeat' (first
    | with_reducible assumption | with_reducible exact State.Keeps.refl _ | with_reducible apply State.modPair_keeps
    | with_reducible apply State.applyProof_keeps | with_reducible apply State.proofLost_keeps
    | with_reducible apply State.Keeps.ite | (intro _ _) | split | dsimp only)

theorem execImpressionEndReceived_keeps {z s : State} (h : EpkHdr) (number : BitVec 32) (chans : List MirrorChan)
    (crcOk : Bool) (hk : z.Keeps s) : z.KeepsNext (execImpressionEndReceived h number chans crcOk s) := by
  unfold execImpressionEndReceived
  repeat' (first
    | with_reducible assumption | with_reducible exact State.Keeps.refl _ | with_reducible apply State.bumpSat_keeps
    | with_reducible apply State.modPair_keeps | with_reducible apply State.epkIn_keeps
    | with_reducible apply State.applyMirror_keeps | with_reducible apply State.sendAck_keeps
    | with_reducible apply State.takeProof_keeps | with_reducible apply State.KeepsNext.next
    | with_reducible apply forEach_keeps | with_reducible apply forEach_keeps_snd
    | with_reducible apply State.Keeps.ite
    | fail_if_no_progress (first
        | refine State.Keeps.upd ?_ rfl (fun c => { c with })
        | refine State.Keeps.upd ?_ rfl (by
          intro c; cases c; constructor <;> repeat' first
            | assumption | exact Sparse.wf_put (by assumption) | exact Sparse.wf_ins (by assumption)
            | exact Sparse.wf_del (by assumption) | exact Sparse.wf_filter (by assumption) | rfl
            | (dsimp only; split) | split))
    | (intro _ _ _) | (intro _ _) | split | dsimp only)

theorem execProofEndReceived_keeps {z s : State} (h : EpkHdr) (number : BitVec 32) (whole : Bool) (chans : List
    MirrorChan) (hk : z.Keeps s) : z.KeepsNext (execProofEndReceived h number whole chans s) := by
  unfold execProofEndReceived
  repeat' (first
    | with_reducible assumption | with_reducible exact State.Keeps.refl _ | with_reducible apply State.epkIn_keeps
    | with_reducible apply State.proofBroken_keeps | with_reducible apply State.takeProof_keeps
    | with_reducible apply State.KeepsNext.next | with_reducible apply State.Keeps.ite | (intro _ _) | split
    | dsimp only)

theorem State.resumeEcho_keeps {z s : State} {g : Nat} {m : MirrorInfo} {last : Nat} (hk : z.Keeps s) :
    z.Keeps (State.resumeEcho s g m last) := by
  unfold State.resumeEcho
  repeat' (first
    | with_reducible assumption | with_reducible exact State.Keeps.refl _ | with_reducible apply State.wr_keeps
    | with_reducible apply State.setEcho_keeps | with_reducible apply State.askFast_keeps
    | with_reducible apply State.setPhase_keeps | with_reducible apply State.refill_keeps
    | with_reducible apply foldl_keeps | with_reducible apply State.Keeps.ite | (intro _ _ _) | (intro _ _) | split
    | dsimp only)

theorem State.resumeJitter_keeps {z s : State} {g : Nat} {m : MirrorInfo} (hk : z.Keeps s) :
    z.Keeps (State.resumeJitter s g m) := by
  unfold State.resumeJitter
  repeat' (first
    | with_reducible assumption | with_reducible exact State.Keeps.refl _
    | with_reducible apply State.setJitter_keeps | with_reducible apply State.setSig_keeps
    | with_reducible apply State.dfEdge_keeps | with_reducible apply State.conceal_keeps | dsimp only)

theorem State.resumeRtp_keeps {z s : State} {g : Nat} {m : MirrorInfo} (hk : z.Keeps s) :
    z.Keeps (State.resumeRtp s g m) := by
  unfold State.resumeRtp
  repeat' (first
    | with_reducible assumption | with_reducible exact State.Keeps.refl _ | with_reducible apply State.wr_keeps
    | with_reducible apply State.setMedia_keeps | with_reducible apply State.Keeps.ite | split | dsimp only)

theorem State.resumeChannel_keeps {z s : State} {last g : Nat} (hk : z.Keeps s) : z.Keeps (State.resumeChannel s last g) := by
  unfold State.resumeChannel
  extract_lets b m a d e
  have ha : z.Keeps a := State.resumeRtp_keeps (State.resumeJitter_keeps (State.resumeEcho_keeps hk))
  clear_value a
  have hd : z.Keeps d := State.wr_keeps (State.wr_keeps (State.wr_keeps ha))
  clear_value d
  have he : z.Keeps e := State.Keeps.upd hd rfl (fun k => { k with mirrors := Sparse.wf_del k.mirrors })
  clear_value e
  exact State.Keeps.ite (State.dropMirror_keeps hk) (State.classifyReq_keeps (State.noteBeyond_keeps (State.modChan_keeps he)))

theorem State.takeOver_keeps {z s : State} {p cause : Nat} (hk : z.Keeps s) : z.Keeps (State.takeOver s p cause) := by
  unfold State.takeOver
  repeat' (first
    | with_reducible assumption | with_reducible exact State.Keeps.refl _ | with_reducible apply State.wr_keeps
    | with_reducible apply State.bumpSat_keeps | with_reducible apply State.raise_keeps
    | with_reducible apply State.goActive_keeps | with_reducible apply State.resumeChannel_keeps
    | with_reducible apply forEach_keeps | (intro _ _ _) | (intro _ _) | dsimp only)

theorem execTakeover_keeps {z s : State} (p : Fin 8) (hk : z.Keeps s) : z.KeepsNext (execTakeover p s) := by
  unfold execTakeover
  repeat' (first
    | with_reducible assumption | with_reducible exact State.Keeps.refl _ | with_reducible apply State.takeOver_keeps
    | with_reducible apply State.KeepsNext.next | with_reducible apply State.Keeps.ite | split)

theorem State.demoteTick_keeps {z s : State} {p : Nat} (hk : z.Keeps s) : z.Keeps (State.demoteTick s p) := by
  unfold State.demoteTick
  repeat' (first
    | with_reducible assumption | with_reducible exact State.Keeps.refl _ | with_reducible apply State.modPair_keeps
    | with_reducible apply State.dropMirror_keeps | with_reducible apply forEach_keeps
    | with_reducible apply State.Keeps.ite | (intro _ _ _) | (intro _ _) | split | dsimp only)

theorem State.endPairHold_keeps {z s : State} {p : Nat} (hk : z.Keeps s) : z.Keeps (State.endPairHold s p) := by
  unfold State.endPairHold
  repeat' (first
    | with_reducible assumption | with_reducible exact State.Keeps.refl _ | with_reducible apply State.wr_keeps
    | with_reducible apply State.modPair_keeps
    | fail_if_no_progress (first
        | refine State.Keeps.upd ?_ rfl (fun c => { c with })
        | refine State.Keeps.upd ?_ rfl (by
          intro c; cases c; constructor <;> repeat' first
            | assumption | exact Sparse.wf_put (by assumption) | exact Sparse.wf_ins (by assumption)
            | exact Sparse.wf_del (by assumption) | exact Sparse.wf_filter (by assumption) | rfl
            | (dsimp only; split) | split))
    | (intro _ _) | split | dsimp only)

theorem State.wantStored_keeps {z s : State} {p : Nat} (hk : z.Keeps s) : z.Keeps (State.wantStored s p) := by
  unfold State.wantStored
  repeat' (first
    | with_reducible assumption | with_reducible exact State.Keeps.refl _ | with_reducible apply State.sendRole_keeps
    | with_reducible apply State.driveHighway_keeps | with_reducible apply State.settleRole_keeps
    | with_reducible apply State.askSwitch_keeps | with_reducible apply State.Keeps.ite | split | dsimp only)

theorem State.ekPlateEffect_keeps {z s : State} {fn p data : Nat} (hk : z.Keeps s) :
    z.Keeps (State.ekPlateEffect s fn p data) := by
  unfold State.ekPlateEffect
  repeat' (first
    | with_reducible assumption | with_reducible exact State.Keeps.refl _
    | with_reducible apply State.storeWord_keeps | with_reducible apply State.endPairHold_keeps
    | with_reducible apply State.wantStored_keeps | with_reducible apply State.Keeps.ite | split)

theorem execSwitchoverRequest_keeps {z s : State} (fn : Fin 65) (p : Fin 8) (data : Word) (hk : z.Keeps s) :
    z.KeepsNext (execSwitchoverRequest fn p data s) := by
  unfold execSwitchoverRequest
  repeat' (first
    | with_reducible assumption | with_reducible exact State.Keeps.refl _
    | with_reducible apply State.mmioWrite_keeps | with_reducible apply State.ekPlateEffect_keeps
    | with_reducible apply State.KeepsNext.next | (intro _ _) | dsimp only)

theorem State.pairMiss_keeps {z s : State} {p : Nat} (hk : z.Keeps s) : z.Keeps (State.pairMiss s p) := by
  unfold State.pairMiss
  repeat' (first
    | with_reducible assumption | with_reducible exact State.Keeps.refl _ | with_reducible apply State.wr_keeps
    | with_reducible apply State.raise_keeps | with_reducible apply State.Keeps.ite | split | dsimp only)

theorem State.pairSample_keeps {z s : State} {p : Nat} (hk : z.Keeps s) : z.Keeps (State.pairSample s p) := by
  unfold State.pairSample
  repeat' (first
    | with_reducible assumption | with_reducible exact State.Keeps.refl _ | with_reducible apply State.wr_keeps
    | with_reducible apply State.modPair_keeps | with_reducible apply State.pairMiss_keeps
    | with_reducible apply State.Keeps.ite
    | fail_if_no_progress (first
        | refine State.Keeps.upd ?_ rfl (fun c => { c with })
        | refine State.Keeps.upd ?_ rfl (by
          intro c; cases c; constructor <;> repeat' first
            | assumption | exact Sparse.wf_put (by assumption) | exact Sparse.wf_ins (by assumption)
            | exact Sparse.wf_del (by assumption) | exact Sparse.wf_filter (by assumption) | rfl
            | (dsimp only; split) | split))
    | (intro _ _) | split | dsimp only)

theorem execPairTraceSample_keeps {z s : State} (p : Fin 8) (hk : z.Keeps s) :
    z.KeepsNext (execPairTraceSample p s) := by
  unfold execPairTraceSample
  repeat' (first
    | with_reducible assumption | with_reducible exact State.Keeps.refl _
    | with_reducible apply State.pairSample_keeps | with_reducible apply State.KeepsNext.next
    | with_reducible apply State.Keeps.ite | split)

theorem State.pairAccept_keeps {z s : State} {fn p : Nat} (hk : z.Keeps s) : z.Keeps (State.pairAccept s fn p) := by
  unfold State.pairAccept
  repeat' (first
    | with_reducible assumption | with_reducible exact State.Keeps.refl _ | with_reducible apply State.wr_keeps
    | with_reducible apply State.endPairHold_keeps | with_reducible apply State.wantStored_keeps
    | with_reducible apply State.Keeps.ite | split)

theorem execPairAcceptPath_keeps {z s : State} (fn : Fin 65) (p : Fin 8) (hk : z.Keeps s) :
    z.KeepsNext (execPairAcceptPath fn p s) := by
  unfold execPairAcceptPath
  repeat' (first
    | with_reducible assumption | with_reducible exact State.Keeps.refl _
    | with_reducible apply State.mmioWrite_keeps | with_reducible apply State.pairAccept_keeps
    | with_reducible apply State.KeepsNext.next | (intro _ _) | dsimp only)

theorem State.agentReset_keeps {z s : State} {fn data : Nat} (hk : z.Keeps s) :
    z.Keeps (State.agentReset s fn data) := by
  unfold State.agentReset
  repeat' (first
    | with_reducible assumption | with_reducible exact State.Keeps.refl _
    | with_reducible apply State.dropAllProt_keeps | with_reducible apply State.Keeps.ite
    | fail_if_no_progress (first
        | refine State.Keeps.upd ?_ rfl (fun c => { c with })
        | refine State.Keeps.upd ?_ rfl (by
          intro c; cases c; constructor <;> repeat' first
            | assumption | exact Sparse.wf_put (by assumption) | exact Sparse.wf_ins (by assumption)
            | exact Sparse.wf_del (by assumption) | exact Sparse.wf_filter (by assumption) | rfl
            | (dsimp only; split) | split))
    | split)

theorem execAgentReset_keeps {z s : State} (fn : Fin 65) (data : Word) (hk : z.Keeps s) :
    z.KeepsNext (execAgentReset fn data s) := by
  unfold execAgentReset
  repeat' (first
    | with_reducible assumption | with_reducible exact State.Keeps.refl _
    | with_reducible apply State.mmioWrite_keeps | with_reducible apply State.agentReset_keeps
    | with_reducible apply State.KeepsNext.next | (intro _ _) | dsimp only)

/-! ### Machine/Arbiter.lean -/

theorem State.countCall_keeps {z s : State} (hk : z.Keeps s) : z.Keeps (State.countCall s) := by
  unfold State.countCall
  repeat' (first
    | with_reducible assumption | with_reducible exact State.Keeps.refl _ | with_reducible apply State.bumpSat_keeps
    | with_reducible apply State.raise_keeps)

theorem State.countBurst_keeps {z s : State} (hk : z.Keeps s) : z.Keeps (State.countBurst s) := by
  unfold State.countBurst
  repeat' (first
    | with_reducible assumption | with_reducible exact State.Keeps.refl _ | with_reducible apply State.bumpSat_keeps
    | with_reducible apply State.raise_keeps)

theorem State.callGranted_keeps {z s : State} {g : Nat} (hk : z.Keeps s) : z.Keeps (State.callGranted s g) := by
  unfold State.callGranted
  repeat' (first
    | with_reducible assumption | with_reducible exact State.Keeps.refl _ | with_reducible apply State.wr_keeps
    | with_reducible apply State.modChan_keeps | with_reducible apply State.postAdmitted_keeps | (intro _ _) | split
    | dsimp only)

theorem State.callRefused_keeps {z s : State} {g : Nat} (hk : z.Keeps s) : z.Keeps (State.callRefused s g) := by
  unfold State.callRefused
  repeat' (first
    | with_reducible assumption | with_reducible exact State.Keeps.refl _ | with_reducible apply State.wr_keeps
    | with_reducible apply State.postRefused_keeps | with_reducible apply State.countCall_keeps | split)

theorem State.grantTaken_keeps {z s : State} {q : GrantReq} (hk : z.Keeps s) : z.Keeps (s.grantTaken q) := by
  cases q with
  | base => exact State.setPlate_keeps hk
  | lane => exact State.Keeps.upd hk rfl (fun c => { c with laneGrants := Sparse.wf_put c.laneGrants })
  | epkLane => exact State.refreshLanes_keeps (State.Keeps.upd hk rfl (fun c => { c with }))
  | call => exact State.callGranted_keeps hk
  | echo => exact State.burstGranted_keeps hk
  | impression => exact State.sendRole_keeps (State.modPair_keeps
    (State.Keeps.upd hk rfl (fun c => { c with imprGrants := Sparse.wf_put c.imprGrants })))

theorem State.grantRefused_keeps {z s : State} {q : GrantReq} (hk : z.Keeps s) : z.Keeps (s.grantRefused q) := by
  cases q <;> dsimp only [State.grantRefused]
  · exact State.raise_keeps (State.setPlate_keeps hk)
  · exact State.modPort_keeps hk
  · exact State.setEkLane_keeps hk
  · exact State.callRefused_keeps hk
  · exact State.burstRefused_keeps (State.countBurst_keeps hk)
  · exact State.modPair_keeps (State.countBurst_keeps hk)

theorem execArbiterAnswer_keeps {z s : State} (hk : z.Keeps s) : z.KeepsNext (execArbiterAnswer s) := by
  unfold execArbiterAnswer
  refine .next ?_
  generalize nextGrant s.arb = o
  cases o with
  | none => exact hk
  | some q =>
    exact State.noteCeiling_keeps (State.Keeps.ite (State.grantTaken_keeps (State.withdraw_keeps hk))
      (State.grantRefused_keeps (State.withdraw_keeps hk)))

theorem execBaseGrantRetry_keeps {z s : State} (p : Fin 8) (hk : z.Keeps s) :
    z.KeepsNext (execBaseGrantRetry p s) := by
  unfold execBaseGrantRetry
  repeat' (first
    | with_reducible assumption | with_reducible exact State.Keeps.refl _ | with_reducible apply State.ask_keeps
    | with_reducible apply State.KeepsNext.next | with_reducible apply State.Keeps.ite | split)

theorem execLaneGrantRetry_keeps {z s : State} (epk : Bool) (i : Fin 8) (hk : z.Keeps s) :
    z.KeepsNext (execLaneGrantRetry epk i s) := by
  unfold execLaneGrantRetry
  repeat' (first
    | with_reducible assumption | with_reducible exact State.Keeps.refl _ | with_reducible apply State.ask_keeps
    | with_reducible apply State.askLane_keeps | with_reducible apply State.KeepsNext.next
    | with_reducible apply State.Keeps.ite | split)

end Sys2Proof.Machine
end

