-- ==== Sys2Proof/Laws/KeepsChip.lean ====
section
/-! SUPPORT. Every definition of clocks, the life cycle, the metrology island, the watchdogs and the plates that changes the state keeps what `State.Keeps` says, one law each. -/

set_option linter.unusedTactic false
set_option linter.unreachableTactic false

namespace Sys2Proof.Machine

/-! ### Machine/Clocks.lean -/

theorem State.setSource_keeps {z s : State} {c : ClockSrc} {v : Source} (hk : z.Keeps s) :
    z.Keeps (State.setSource s c v) := by
  unfold State.setSource
  repeat' (first
    | with_reducible assumption | with_reducible exact State.Keeps.refl _ | with_reducible apply State.wrB_keeps
    | with_reducible apply State.chipReset_keeps | with_reducible apply State.Keeps.ite
    | fail_if_no_progress (first
        | refine State.Keeps.upd ?_ rfl (fun c => { c with })
        | refine State.Keeps.upd ?_ rfl (by
          intro c; cases c; constructor <;> repeat' first
            | assumption | exact Sparse.wf_put (by assumption) | exact Sparse.wf_ins (by assumption)
            | exact Sparse.wf_del (by assumption) | exact Sparse.wf_filter (by assumption) | rfl
            | (dsimp only; split) | split))
    | split)

theorem State.lanesLeaveIdle_keeps {z s : State} (hk : z.Keeps s) : z.Keeps (State.lanesLeaveIdle s) := by
  unfold State.lanesLeaveIdle
  repeat' (first
    | with_reducible assumption | with_reducible exact State.Keeps.refl _ | with_reducible apply forUpTo_keeps
    | with_reducible apply State.Keeps.ite
    | fail_if_no_progress (first
        | refine State.Keeps.upd ?_ rfl (fun c => { c with })
        | refine State.Keeps.upd ?_ rfl (by
          intro c; cases c; constructor <;> repeat' first
            | assumption | exact Sparse.wf_put (by assumption) | exact Sparse.wf_ins (by assumption)
            | exact Sparse.wf_del (by assumption) | exact Sparse.wf_filter (by assumption) | rfl
            | (dsimp only; split) | split))
    | (intro _ _ _) | (intro _ _) | split | dsimp only)

theorem State.moveTree_keeps {z s : State} {c : Nat} (hk : z.Keeps s) : z.Keeps (State.moveTree s c) := by
  unfold State.moveTree
  repeat' (first
    | with_reducible assumption | with_reducible exact State.Keeps.refl _ | with_reducible apply State.wr_keeps
    | with_reducible apply State.bumpSat_keeps | with_reducible apply State.raise_keeps
    | with_reducible apply State.lanesLeaveIdle_keeps | with_reducible apply State.Keeps.ite | split | dsimp only)

theorem State.treeFollows_keeps {z s : State} (hk : z.Keeps s) : z.Keeps (State.treeFollows s) := by
  unfold State.treeFollows
  repeat' (first
    | with_reducible assumption | with_reducible exact State.Keeps.refl _ | with_reducible apply State.moveTree_keeps
    | with_reducible apply State.Keeps.ite | split)

theorem State.tbPllFollows_keeps {z s : State} (hk : z.Keeps s) : z.Keeps (State.tbPllFollows s) := by
  unfold State.tbPllFollows
  repeat' (first
    | with_reducible assumption | with_reducible exact State.Keeps.refl _
    | with_reducible apply State.moveTbPll_keeps | with_reducible apply State.Keeps.ite | split | dsimp only)

theorem State.treePreferEffect_keeps {z s : State} {fn prefer : Nat} (hk : z.Keeps s) :
    z.Keeps (State.treePreferEffect s fn prefer) := by
  unfold State.treePreferEffect
  repeat' (first
    | with_reducible assumption | with_reducible exact State.Keeps.refl _ | with_reducible apply State.wr_keeps
    | with_reducible apply State.moveTree_keeps | with_reducible apply State.Keeps.ite | split | dsimp only)

theorem execTreePreferWrite_keeps {z s : State} (fn : Fin 65) (prefer : BitVec 2) (hk : z.Keeps s) :
    z.KeepsNext (execTreePreferWrite fn prefer s) := by
  unfold execTreePreferWrite
  repeat' (first
    | with_reducible assumption | with_reducible exact State.Keeps.refl _
    | with_reducible apply State.mmioWrite_keeps | with_reducible apply State.treePreferEffect_keeps
    | with_reducible apply State.KeepsNext.next | (intro _ _) | dsimp only)

theorem State.refclkGone_keeps {z s : State} (hk : z.Keeps s) : z.Keeps (State.refclkGone s) := by
  unfold State.refclkGone
  repeat' (first
    | with_reducible assumption | with_reducible exact State.Keeps.refl _ | with_reducible apply State.bump_keeps
    | with_reducible apply State.setOp_keeps | with_reducible apply State.hostPortReset_keeps
    | with_reducible apply State.linkGoesDown_keeps | with_reducible apply State.Keeps.ite | split)

theorem State.sourceGone_keeps {z s : State} {c : ClockSrc} (hk : z.Keeps s) : z.Keeps (State.sourceGone s c) := by
  unfold State.sourceGone
  repeat' (first
    | with_reducible assumption | with_reducible exact State.Keeps.refl _ | with_reducible apply State.raise_keeps
    | with_reducible apply State.clockSourceLost_keeps | with_reducible apply State.setSource_keeps
    | with_reducible apply State.refclkGone_keeps | with_reducible apply State.Keeps.ite | split | dsimp only)

theorem State.treeSourceGone_keeps {z s : State} {c : Nat} (hk : z.Keeps s) : z.Keeps (State.treeSourceGone s c) := by
  unfold State.treeSourceGone
  repeat' (first
    | with_reducible assumption | with_reducible exact State.Keeps.refl _
    | with_reducible apply State.sourceGone_keeps | with_reducible apply State.Keeps.ite | split)

theorem execTreeSourceLoss_keeps {z s : State} (hk : z.Keeps s) : z.KeepsNext (execTreeSourceLoss s) := by
  unfold execTreeSourceLoss
  repeat' (first
    | with_reducible assumption | with_reducible exact State.Keeps.refl _
    | with_reducible apply State.treeFollows_keeps | with_reducible apply State.treeSourceGone_keeps
    | with_reducible apply State.KeepsNext.next | with_reducible apply State.Keeps.ite | split)

theorem execTreeSourceReturn_keeps {z s : State} (src : ClockSrc) (hk : z.Keeps s) :
    z.KeepsNext (execTreeSourceReturn src s) := by
  unfold execTreeSourceReturn
  repeat' (first
    | with_reducible assumption | with_reducible exact State.Keeps.refl _ | with_reducible apply State.moveTree_keeps
    | with_reducible apply State.KeepsNext.next | with_reducible apply State.Keeps.ite | split)

theorem execTimebasePllSourceLoss_keeps {z s : State} (hk : z.Keeps s) :
    z.KeepsNext (execTimebasePllSourceLoss s) := by
  unfold execTimebasePllSourceLoss
  repeat' (first
    | with_reducible assumption | with_reducible exact State.Keeps.refl _
    | with_reducible apply State.tbPllFollows_keeps | with_reducible apply State.treeSourceGone_keeps
    | with_reducible apply State.KeepsNext.next | with_reducible apply State.Keeps.ite | split)

theorem execTimebasePllSourceReturn_keeps {z s : State} (src : ClockSrc) (hk : z.Keeps s) :
    z.KeepsNext (execTimebasePllSourceReturn src s) := by
  unfold execTimebasePllSourceReturn
  repeat' (first
    | with_reducible assumption | with_reducible exact State.Keeps.refl _
    | with_reducible apply State.moveTbPll_keeps | with_reducible apply State.KeepsNext.next
    | with_reducible apply State.Keeps.ite | split | dsimp only)

theorem execTimebasePllUnlock_keeps {z s : State} (hk : z.Keeps s) : z.KeepsNext (execTimebasePllUnlock s) := by
  unfold execTimebasePllUnlock
  repeat' (first
    | with_reducible assumption | with_reducible exact State.Keeps.refl _ | with_reducible apply State.wr_keeps
    | with_reducible apply State.raise_keeps | with_reducible apply State.KeepsNext.next
    | with_reducible apply State.Keeps.ite | split)

theorem execReferencePresent_keeps {z s : State} (src : ClockSrc) (at25 : Bool) (hk : z.Keeps s) :
    z.KeepsNext (execReferencePresent src at25 s) := by
  unfold execReferencePresent
  repeat' (first
    | with_reducible assumption | with_reducible exact State.Keeps.refl _ | with_reducible apply State.setOp_keeps
    | with_reducible apply State.setSource_keeps | with_reducible apply State.treeFollows_keeps
    | with_reducible apply State.KeepsNext.next | with_reducible apply State.Keeps.ite | split | dsimp only)

theorem execReferenceAbsent_keeps {z s : State} (src : ClockSrc) (hk : z.Keeps s) :
    z.KeepsNext (execReferenceAbsent src s) := by
  unfold execReferenceAbsent
  repeat' (first
    | with_reducible assumption | with_reducible exact State.Keeps.refl _
    | with_reducible apply State.sourceGone_keeps | with_reducible apply State.KeepsNext.next
    | with_reducible apply State.Keeps.ite | split)

theorem execRefclkLoss_keeps {z s : State} (hk : z.Keeps s) : z.KeepsNext (execRefclkLoss s) := by
  unfold execRefclkLoss
  repeat' (first
    | with_reducible assumption | with_reducible exact State.Keeps.refl _
    | with_reducible apply State.treeFollows_keeps | with_reducible apply State.sourceGone_keeps
    | with_reducible apply State.KeepsNext.next | with_reducible apply State.Keeps.ite | split | dsimp only)

theorem execPlatePllUnlock_keeps {z s : State} (p : Fin 8) (ns : Nat) (hk : z.Keeps s) :
    z.KeepsNext (execPlatePllUnlock p ns s) := by
  unfold execPlatePllUnlock
  repeat' (first
    | with_reducible assumption | with_reducible exact State.Keeps.refl _ | with_reducible apply State.raise_keeps
    | with_reducible apply State.plateReset_keeps | with_reducible apply State.KeepsNext.next
    | with_reducible apply State.Keeps.ite | split | dsimp only)

theorem State.startBoot_keeps {z s : State} {st : Straps} (hk : z.Keeps s) : z.Keeps (State.startBoot s st) := by
  unfold State.startBoot
  repeat' (first
    | with_reducible assumption | with_reducible exact State.Keeps.refl _ | with_reducible apply State.wr_keeps
    | with_reducible apply State.wrB_keeps | with_reducible apply State.bootSense_keeps
    | fail_if_no_progress (first
        | refine State.Keeps.upd ?_ rfl (fun c => { c with })
        | refine State.Keeps.upd ?_ rfl (by
          intro c; cases c; constructor <;> repeat' first
            | assumption | exact Sparse.wf_put (by assumption) | exact Sparse.wf_ins (by assumption)
            | exact Sparse.wf_del (by assumption) | exact Sparse.wf_filter (by assumption) | rfl
            | (dsimp only; split) | split))
    | dsimp only)

theorem execPorNAssert_keeps {z s : State} (hk : z.Keeps s) : z.KeepsNext (execPorNAssert s) := by
  unfold execPorNAssert
  repeat' (first
    | with_reducible assumption | with_reducible exact State.Keeps.refl _
    | with_reducible apply State.powerOnReset_keeps | with_reducible apply State.KeepsNext.next
    | fail_if_no_progress (first
        | refine State.Keeps.upd ?_ rfl (fun c => { c with })
        | refine State.Keeps.upd ?_ rfl (by
          intro c; cases c; constructor <;> repeat' first
            | assumption | exact Sparse.wf_put (by assumption) | exact Sparse.wf_ins (by assumption)
            | exact Sparse.wf_del (by assumption) | exact Sparse.wf_filter (by assumption) | rfl
            | (dsimp only; split) | split)))

theorem execPorNRelease_keeps {z s : State} (straps : Straps) (hk : z.Keeps s) :
    z.KeepsNext (execPorNRelease straps s) := by
  unfold execPorNRelease
  repeat' (first
    | with_reducible assumption | with_reducible exact State.Keeps.refl _
    | with_reducible apply State.startBoot_keeps | with_reducible apply State.KeepsNext.next
    | with_reducible apply State.Keeps.ite
    | fail_if_no_progress (first
        | refine State.Keeps.upd ?_ rfl (fun c => { c with })
        | refine State.Keeps.upd ?_ rfl (by
          intro c; cases c; constructor <;> repeat' first
            | assumption | exact Sparse.wf_put (by assumption) | exact Sparse.wf_ins (by assumption)
            | exact Sparse.wf_del (by assumption) | exact Sparse.wf_filter (by assumption) | rfl
            | (dsimp only; split) | split))
    | split | dsimp only)

theorem execVddAonLow_keeps {z s : State} (hk : z.Keeps s) : z.KeepsNext (execVddAonLow s) := by
  unfold execVddAonLow
  repeat' (first
    | with_reducible assumption | with_reducible exact State.Keeps.refl _
    | with_reducible apply State.powerOnReset_keeps | with_reducible apply State.KeepsNext.next
    | fail_if_no_progress (first
        | refine State.Keeps.upd ?_ rfl (fun c => { c with })
        | refine State.Keeps.upd ?_ rfl (by
          intro c; cases c; constructor <;> repeat' first
            | assumption | exact Sparse.wf_put (by assumption) | exact Sparse.wf_ins (by assumption)
            | exact Sparse.wf_del (by assumption) | exact Sparse.wf_filter (by assumption) | rfl
            | (dsimp only; split) | split)))

theorem execVddAonRecovered_keeps {z s : State} (straps : Straps) (hk : z.Keeps s) :
    z.KeepsNext (execVddAonRecovered straps s) := by
  unfold execVddAonRecovered
  repeat' (first
    | with_reducible assumption | with_reducible exact State.Keeps.refl _
    | with_reducible apply State.startBoot_keeps | with_reducible apply State.KeepsNext.next
    | with_reducible apply State.Keeps.ite
    | fail_if_no_progress (first
        | refine State.Keeps.upd ?_ rfl (fun c => { c with })
        | refine State.Keeps.upd ?_ rfl (by
          intro c; cases c; constructor <;> repeat' first
            | assumption | exact Sparse.wf_put (by assumption) | exact Sparse.wf_ins (by assumption)
            | exact Sparse.wf_del (by assumption) | exact Sparse.wf_filter (by assumption) | rfl
            | (dsimp only; split) | split))
    | split | dsimp only)

theorem execSupplyDip_keeps {z s : State} (hk : z.Keeps s) : z.KeepsNext (execSupplyDip s) := by
  unfold execSupplyDip
  repeat' (first
    | with_reducible assumption | with_reducible exact State.Keeps.refl _
    | with_reducible apply State.chipReset_keeps | with_reducible apply State.KeepsNext.next)

theorem State.resetRequestEffect_keeps {z s : State} {fn data : Nat} (hk : z.Keeps s) :
    z.Keeps (State.resetRequestEffect s fn data) := by
  unfold State.resetRequestEffect
  repeat' (first
    | with_reducible assumption | with_reducible exact State.Keeps.refl _
    | with_reducible apply State.plateReset_keeps | with_reducible apply State.chipReset_keeps
    | with_reducible apply forUpTo_keeps | with_reducible apply State.Keeps.ite | (intro _ _ _) | (intro _ _) | split
    | dsimp only)

theorem execChipResetRequest_keeps {z s : State} (fn : Fin 65) (data : Word) (hk : z.Keeps s) :
    z.KeepsNext (execChipResetRequest fn data s) := by
  unfold execChipResetRequest
  repeat' (first
    | with_reducible assumption | with_reducible exact State.Keeps.refl _
    | with_reducible apply State.mmioWrite_keeps | with_reducible apply State.resetRequestEffect_keeps
    | with_reducible apply State.KeepsNext.next | (intro _ _) | dsimp only)

theorem execPlateResetRequest_keeps {z s : State} (fn : Fin 65) (data : Word) (hk : z.Keeps s) :
    z.KeepsNext (execPlateResetRequest fn data s) := by
  unfold execPlateResetRequest
  repeat' (first
    | with_reducible assumption | with_reducible exact State.Keeps.refl _
    | with_reducible apply State.mmioWrite_keeps | with_reducible apply State.resetRequestEffect_keeps
    | with_reducible apply State.KeepsNext.next | (intro _ _) | dsimp only)

theorem execChipResetRelease_keeps {z s : State} (suppliesOk : Bool) (hk : z.Keeps s) :
    z.KeepsNext (execChipResetRelease suppliesOk s) := by
  unfold execChipResetRelease
  repeat' (first
    | with_reducible assumption | with_reducible exact State.Keeps.refl _ | with_reducible apply State.wr_keeps
    | with_reducible apply State.bootSense_keeps | with_reducible apply State.chipReset_keeps
    | with_reducible apply State.KeepsNext.next | with_reducible apply State.Keeps.ite
    | fail_if_no_progress (first
        | refine State.Keeps.upd ?_ rfl (fun c => { c with })
        | refine State.Keeps.upd ?_ rfl (by
          intro c; cases c; constructor <;> repeat' first
            | assumption | exact Sparse.wf_put (by assumption) | exact Sparse.wf_ins (by assumption)
            | exact Sparse.wf_del (by assumption) | exact Sparse.wf_filter (by assumption) | rfl
            | (dsimp only; split) | split))
    | split)

theorem execPerstNAssert_keeps {z s : State} (hk : z.Keeps s) : z.KeepsNext (execPerstNAssert s) := by
  unfold execPerstNAssert
  repeat' (first
    | with_reducible assumption | with_reducible exact State.Keeps.refl _ | with_reducible apply State.bump_keeps
    | with_reducible apply State.chipReset_keeps | with_reducible apply State.hostPortReset_keeps
    | with_reducible apply State.linkGoesDown_keeps | with_reducible apply State.KeepsNext.next
    | with_reducible apply State.Keeps.ite
    | fail_if_no_progress (first
        | refine State.Keeps.upd ?_ rfl (fun c => { c with })
        | refine State.Keeps.upd ?_ rfl (by
          intro c; cases c; constructor <;> repeat' first
            | assumption | exact Sparse.wf_put (by assumption) | exact Sparse.wf_ins (by assumption)
            | exact Sparse.wf_del (by assumption) | exact Sparse.wf_filter (by assumption) | rfl
            | (dsimp only; split) | split))
    | split | dsimp only)

theorem execPerstNRelease_keeps {z s : State} (hk : z.Keeps s) : z.KeepsNext (execPerstNRelease s) := by
  unfold execPerstNRelease
  repeat' (first
    | with_reducible assumption | with_reducible exact State.Keeps.refl _ | with_reducible apply State.setOp_keeps
    | with_reducible apply State.KeepsNext.next | with_reducible apply State.Keeps.ite
    | fail_if_no_progress (first
        | refine State.Keeps.upd ?_ rfl (fun c => { c with })
        | refine State.Keeps.upd ?_ rfl (by
          intro c; cases c; constructor <;> repeat' first
            | assumption | exact Sparse.wf_put (by assumption) | exact Sparse.wf_ins (by assumption)
            | exact Sparse.wf_del (by assumption) | exact Sparse.wf_filter (by assumption) | rfl
            | (dsimp only; split) | split))
    | split | dsimp only)

theorem execHotResetReceived_keeps {z s : State} (hk : z.Keeps s) : z.KeepsNext (execHotResetReceived s) := by
  unfold execHotResetReceived
  repeat' (first
    | with_reducible assumption | with_reducible exact State.Keeps.refl _ | with_reducible apply State.bump_keeps
    | with_reducible apply State.hostPortReset_keeps | with_reducible apply State.linkGoesDown_keeps
    | with_reducible apply State.KeepsNext.next | with_reducible apply State.Keeps.ite | split)

theorem execLinkDownReset_keeps {z s : State} (hk : z.Keeps s) : z.KeepsNext (execLinkDownReset s) := by
  unfold execLinkDownReset
  repeat' (first
    | with_reducible assumption | with_reducible exact State.Keeps.refl _ | with_reducible apply State.bump_keeps
    | with_reducible apply State.hostPortReset_keeps | with_reducible apply State.linkGoesDown_keeps
    | with_reducible apply State.KeepsNext.next | with_reducible apply State.Keeps.ite | split)

theorem State.measureSources_keeps {z s : State} (hk : z.Keeps s) : z.Keeps (State.measureSources s) := by
  unfold State.measureSources
  repeat' (first
    | with_reducible assumption | with_reducible exact State.Keeps.refl _
    | with_reducible apply State.setSource_keeps)

theorem State.flashRead_keeps {z s : State} (hk : z.Keeps s) : z.Keeps (State.flashRead s) := by
  unfold State.flashRead
  repeat' (first
    | with_reducible assumption | with_reducible exact State.Keeps.refl _ | with_reducible apply State.emit_keeps
    | with_reducible apply State.Keeps.ite
    | fail_if_no_progress (first
        | refine State.Keeps.upd ?_ rfl (fun c => { c with })
        | refine State.Keeps.upd ?_ rfl (by
          intro c; cases c; constructor <;> repeat' first
            | assumption | exact Sparse.wf_put (by assumption) | exact Sparse.wf_ins (by assumption)
            | exact Sparse.wf_del (by assumption) | exact Sparse.wf_filter (by assumption) | rfl
            | (dsimp only; split) | split))
    | split)

theorem execBootPllLock_keeps {z s : State} (hk : z.Keeps s) : z.KeepsNext (execBootPllLock s) := by
  unfold execBootPllLock
  repeat' (first
    | with_reducible assumption | with_reducible exact State.Keeps.refl _ | with_reducible apply State.wr_keeps
    | with_reducible apply State.setOp_keeps | with_reducible apply State.startTimebase_keeps
    | with_reducible apply State.measureSources_keeps | with_reducible apply State.flashRead_keeps
    | with_reducible apply State.KeepsNext.next | with_reducible apply State.Keeps.ite | split | dsimp only)

theorem execPlateWakeSlot_keeps {z s : State} (p : Fin 8) (hk : z.Keeps s) : z.KeepsNext (execPlateWakeSlot p s) := by
  unfold execPlateWakeSlot
  repeat' (first
    | with_reducible assumption | with_reducible exact State.Keeps.refl _ | with_reducible apply State.wr_keeps
    | with_reducible apply State.setPlate_keeps | with_reducible apply State.KeepsNext.next
    | with_reducible apply State.Keeps.ite
    | fail_if_no_progress (first
        | refine State.Keeps.upd ?_ rfl (fun c => { c with })
        | refine State.Keeps.upd ?_ rfl (by
          intro c; cases c; constructor <;> repeat' first
            | assumption | exact Sparse.wf_put (by assumption) | exact Sparse.wf_ins (by assumption)
            | exact Sparse.wf_del (by assumption) | exact Sparse.wf_filter (by assumption) | rfl
            | (dsimp only; split) | split))
    | split | dsimp only)

theorem execPlatePllLock_keeps {z s : State} (p : Fin 8) (hk : z.Keeps s) : z.KeepsNext (execPlatePllLock p s) := by
  unfold execPlatePllLock
  repeat' (first
    | with_reducible assumption | with_reducible exact State.Keeps.refl _ | with_reducible apply State.wr_keeps
    | with_reducible apply State.setPlate_keeps | with_reducible apply State.wakeFromQuiet_keeps
    | with_reducible apply State.KeepsNext.next | with_reducible apply State.Keeps.ite | split | dsimp only)

theorem State.storeZero_keeps {z s : State} {p : Nat} (hk : z.Keeps s) : z.Keeps (State.storeZero s p) := by
  unfold State.storeZero
  repeat' (first
    | with_reducible assumption | with_reducible exact State.Keeps.refl _
    | fail_if_no_progress (first
        | refine State.Keeps.upd ?_ rfl (fun c => { c with })
        | refine State.Keeps.upd ?_ rfl (by
          intro c; cases c; constructor <;> repeat' first
            | assumption | exact Sparse.wf_put (by assumption) | exact Sparse.wf_ins (by assumption)
            | exact Sparse.wf_del (by assumption) | exact Sparse.wf_filter (by assumption) | rfl
            | (dsimp only; split) | split)))

theorem execPlateStoreInitDone_keeps {z s : State} (p : Fin 8) (hk : z.Keeps s) :
    z.KeepsNext (execPlateStoreInitDone p s) := by
  unfold execPlateStoreInitDone
  repeat' (first
    | with_reducible assumption | with_reducible exact State.Keeps.refl _ | with_reducible apply State.setPlate_keeps
    | with_reducible apply State.storeZero_keeps | with_reducible apply State.KeepsNext.next
    | with_reducible apply State.Keeps.ite | split)

theorem State.hatchReady_keeps {z s : State} {p : Nat} (hk : z.Keeps s) : z.Keeps (State.hatchReady s p) := by
  unfold State.hatchReady
  repeat' (first
    | with_reducible assumption | with_reducible exact State.Keeps.refl _
    | fail_if_no_progress (first
        | refine State.Keeps.upd ?_ rfl (fun c => { c with })
        | refine State.Keeps.upd ?_ rfl (by
          intro c; cases c; constructor <;> repeat' first
            | assumption | exact Sparse.wf_put (by assumption) | exact Sparse.wf_ins (by assumption)
            | exact Sparse.wf_del (by assumption) | exact Sparse.wf_filter (by assumption) | rfl
            | (dsimp only; split) | split)))

theorem State.kernelReady_keeps {z s : State} {p : Nat} (hk : z.Keeps s) : z.Keeps (State.kernelReady s p) := by
  unfold State.kernelReady
  repeat' (first
    | with_reducible assumption | with_reducible exact State.Keeps.refl _ | with_reducible apply State.wr_keeps
    | with_reducible apply State.setPlate_keeps | with_reducible apply State.raise_keeps
    | with_reducible apply State.setOp_keeps | with_reducible apply State.hatchReady_keeps
    | with_reducible apply State.Keeps.ite | split | dsimp only)

theorem execPlateKernelInitDone_keeps {z s : State} (p : Fin 8) (fault : Option InitFault) (hk : z.Keeps s) :
    z.KeepsNext (execPlateKernelInitDone p fault s) := by
  unfold execPlateKernelInitDone
  repeat' (first
    | with_reducible assumption | with_reducible exact State.Keeps.refl _
    | with_reducible apply State.plateFault_keeps | with_reducible apply State.kernelReady_keeps
    | with_reducible apply State.KeepsNext.next | with_reducible apply State.Keeps.ite | split)

theorem execBootDone_keeps {z s : State} (hk : z.Keeps s) : z.KeepsNext (execBootDone s) := by
  unfold execBootDone
  repeat' (first
    | with_reducible assumption | with_reducible exact State.Keeps.refl _ | with_reducible apply State.wr_keeps
    | with_reducible apply State.raise_keeps | with_reducible apply State.KeepsNext.next
    | with_reducible apply State.Keeps.ite
    | fail_if_no_progress (first
        | refine State.Keeps.upd ?_ rfl (fun c => { c with })
        | refine State.Keeps.upd ?_ rfl (by
          intro c; cases c; constructor <;> repeat' first
            | assumption | exact Sparse.wf_put (by assumption) | exact Sparse.wf_ins (by assumption)
            | exact Sparse.wf_del (by assumption) | exact Sparse.wf_filter (by assumption) | rfl
            | (dsimp only; split) | split))
    | split | dsimp only)

theorem State.recordOverrun_keeps {z s : State} {m p us : Nat} (hk : z.Keeps s) :
    z.Keeps (State.recordOverrun s m p us) := by
  unfold State.recordOverrun
  repeat' (first
    | with_reducible assumption | with_reducible exact State.Keeps.refl _ | with_reducible apply State.wr_keeps
    | with_reducible apply State.bumpSat_keeps | with_reducible apply State.raise_keeps)

theorem State.recordHpFault_keeps {z s : State} {p us : Nat} (hk : z.Keeps s) :
    z.Keeps (State.recordHpFault s p us) := by
  unfold State.recordHpFault
  repeat' (first
    | with_reducible assumption | with_reducible exact State.Keeps.refl _ | with_reducible apply State.wr_keeps
    | with_reducible apply State.raise_keeps | with_reducible apply State.logAer_keeps)

theorem State.flrOverrun_keeps {z s : State} {m fn p us : Nat} (hk : z.Keeps s) :
    z.Keeps (State.flrOverrun s m fn p us) := by
  unfold State.flrOverrun
  repeat' (first
    | with_reducible assumption | with_reducible exact State.Keeps.refl _ | with_reducible apply State.flrDrain_keeps
    | with_reducible apply State.plateReset_keeps | with_reducible apply State.recordOverrun_keeps
    | with_reducible apply State.recordHpFault_keeps | with_reducible apply forEach_keeps
    | with_reducible apply State.Keeps.ite | (intro _ _ _) | (intro _ _) | split | dsimp only)

theorem execDrainOverrun_keeps {z s : State} (master : BitVec 8) (plate : Fin 8) (us : Nat) (hk : z.Keeps s) :
    z.KeepsNext (execDrainOverrun master plate us s) := by
  unfold execDrainOverrun
  repeat' (first
    | with_reducible assumption | with_reducible exact State.Keeps.refl _
    | with_reducible apply State.plateReset_keeps | with_reducible apply State.recordOverrun_keeps
    | with_reducible apply State.flrOverrun_keeps | with_reducible apply State.KeepsNext.next
    | with_reducible apply State.Keeps.ite
    | fail_if_no_progress (first
        | refine State.Keeps.upd ?_ rfl (fun c => { c with })
        | refine State.Keeps.upd ?_ rfl (by
          intro c; cases c; constructor <;> repeat' first
            | assumption | exact Sparse.wf_put (by assumption) | exact Sparse.wf_ins (by assumption)
            | exact Sparse.wf_del (by assumption) | exact Sparse.wf_filter (by assumption) | rfl
            | (dsimp only; split) | split))
    | split | dsimp only)

/-! ### Machine/LifeCycle.lean -/

theorem State.acceptReturn_keeps {z s : State} (hk : z.Keeps s) : z.Keeps (State.acceptReturn s) := by
  unfold State.acceptReturn
  repeat' (first
    | with_reducible assumption | with_reducible exact State.Keeps.refl _ | with_reducible apply State.wr_keeps
    | with_reducible apply State.clearRegs_keeps | with_reducible apply State.eraseHistory_keeps
    | fail_if_no_progress (first
        | refine State.Keeps.upd ?_ rfl (fun c => { c with })
        | refine State.Keeps.upd ?_ rfl (by
          intro c; cases c; constructor <;> repeat' first
            | assumption | exact Sparse.wf_put (by assumption) | exact Sparse.wf_ins (by assumption)
            | exact Sparse.wf_del (by assumption) | exact Sparse.wf_filter (by assumption) | rfl
            | (dsimp only; split) | split))
    | (intro _ _) | dsimp only)

theorem State.judgeRequest_keeps {z s : State} {target : Nat} (hk : z.Keeps s) : z.Keeps (s.judgeRequest target) := by
  have ha : ∀ r, z.Keeps ((s.wr lcB Reg.lcReqStatusResult r).raise lcB 2) := fun r =>
    State.raise_keeps (State.wr_keeps hk)
  unfold State.judgeRequest
  refine State.Keeps.ite (ha _) ?_
  dsimp only
  split
  · exact ha _
  · next hn =>
    refine State.Keeps.ite (ha _) ?_
    have ht : z.Keeps { s with life := { s.life with job := .transition target } } := by
      refine hk.setLife (fun i x hx => ?_)
      cases hx
      have := i.lcNext
      simp only [not_or, not_lt, ne_eq, not_not] at hn
      omega
    exact State.Keeps.ite (State.acceptReturn_keeps ht) ht

theorem State.reqWordEffect_keeps {z s : State} {fn w : Nat} (hk : z.Keeps s) :
    z.Keeps (State.reqWordEffect s fn w) := by
  unfold State.reqWordEffect
  repeat' (first
    | with_reducible assumption | with_reducible exact State.Keeps.refl _
    | with_reducible apply State.resetLcSequence_keeps | with_reducible apply State.judgeRequest_keeps
    | with_reducible apply State.Keeps.ite
    | fail_if_no_progress (first
        | refine State.Keeps.upd ?_ rfl (fun c => { c with })
        | refine State.Keeps.upd ?_ rfl (by
          intro c; cases c; constructor <;> repeat' first
            | assumption | exact Sparse.wf_put (by assumption) | exact Sparse.wf_ins (by assumption)
            | exact Sparse.wf_del (by assumption) | exact Sparse.wf_filter (by assumption) | rfl
            | (dsimp only; split) | split))
    | split | dsimp only)

theorem execLifecycleRequestWord_keeps {z s : State} (fn : Fin 65) (word : Word) (hk : z.Keeps s) :
    z.KeepsNext (execLifecycleRequestWord fn word s) := by
  unfold execLifecycleRequestWord
  repeat' (first
    | with_reducible assumption | with_reducible exact State.Keeps.refl _
    | with_reducible apply State.mmioWrite_keeps | with_reducible apply State.reqWordEffect_keeps
    | with_reducible apply State.KeepsNext.next | (intro _ _) | dsimp only)

theorem execLifecycleRequestTimeout_keeps {z s : State} (hk : z.Keeps s) :
    z.KeepsNext (execLifecycleRequestTimeout s) := by
  unfold execLifecycleRequestTimeout
  repeat' (first
    | with_reducible assumption | with_reducible exact State.Keeps.refl _
    | with_reducible apply State.resetLcSequence_keeps | with_reducible apply State.KeepsNext.next
    | with_reducible apply State.Keeps.ite | split)

theorem execTransitionFuseDone_keeps {z s : State} (ok : Bool) (hk : z.Keeps s) :
    z.KeepsNext (execTransitionFuseDone ok s) := by
  unfold execTransitionFuseDone
  split
  · next target hj =>
    have hb : z.Keeps { s with life := { s.life with job := .idle }, fusesBlown := { s.fusesBlown with lc := target } } := by
      refine State.Keeps.setLife (t := { s with fusesBlown := { s.fusesBlown with lc := target } }) (hk.setBlown ?_) ?_
      · intro i
        have := i.job target hj
        refine ⟨?_, this.2.1, this.2.2, ?_⟩
        · exact { Fuses.Within.refl s.fusesBlown with lc := this.1 }
        · intro x hx
          rw [hj] at hx
          cases hx
          exact Nat.le_refl _
      · intro _ x hx
        cases hx
    have hi : z.Keeps { s with life := { s.life with job := .idle } } := by
      refine hk.setLife ?_
      intro _ x hx
      cases hx
    dsimp only
    split
    · exact .next (State.raise_keeps (State.wr_keeps (State.wr_keeps (State.wr_keeps hb))))
    · exact .next (State.raise_keeps (State.wr_keeps (State.Keeps.ite (hb.setDraws (Nat.le_succ _))
        (State.drawBool_keeps hi))))
  · exact .next hk

theorem State.rtmImageEffect_keeps {z s : State} {fn w data : Nat} (hk : z.Keeps s) :
    z.Keeps (State.rtmImageEffect s fn w data) := by
  unfold State.rtmImageEffect
  repeat' (first
    | with_reducible assumption | with_reducible exact State.Keeps.refl _ | with_reducible apply State.wr_keeps
    | with_reducible apply State.storeField_keeps)

theorem execRtmImageWrite_keeps {z s : State} (fn : Fin 65) (w : Fin 32) (data : Word) (hk : z.Keeps s) :
    z.KeepsNext (execRtmImageWrite fn w data s) := by
  unfold execRtmImageWrite
  repeat' (first
    | with_reducible assumption | with_reducible exact State.Keeps.refl _
    | with_reducible apply State.mmioWrite_keeps | with_reducible apply State.rtmImageEffect_keeps
    | with_reducible apply State.KeepsNext.next | (intro _ _) | dsimp only)

theorem State.rtmGoEffect_keeps {z s : State} {fn : Nat} (hk : z.Keeps s) : z.Keeps (State.rtmGoEffect s fn) := by
  unfold State.rtmGoEffect
  repeat' (first
    | with_reducible assumption | with_reducible exact State.Keeps.refl _ | with_reducible apply State.wr_keeps
    | with_reducible apply State.Keeps.ite | split)

theorem execRtmVerifyGo_keeps {z s : State} (fn : Fin 65) (hk : z.Keeps s) : z.KeepsNext (execRtmVerifyGo fn s) := by
  unfold execRtmVerifyGo
  repeat' (first
    | with_reducible assumption | with_reducible exact State.Keeps.refl _
    | with_reducible apply State.mmioWrite_keeps | with_reducible apply State.rtmGoEffect_keeps
    | with_reducible apply State.KeepsNext.next | (intro _ _) | dsimp only)

theorem execRtmVerifyDone_keeps {z s : State} (hk : z.Keeps s) : z.KeepsNext (execRtmVerifyDone s) := by
  unfold execRtmVerifyDone
  repeat' (first
    | with_reducible assumption | with_reducible exact State.Keeps.refl _ | with_reducible apply State.wr_keeps
    | with_reducible apply State.raise_keeps | with_reducible apply State.KeepsNext.next
    | with_reducible apply State.Keeps.ite | split | dsimp only)

theorem State.fuseCmdEffect_keeps {z s : State} {fn data : Nat} (hk : z.Keeps s) : z.Keeps (s.fuseCmdEffect fn data) := by
  unfold State.fuseCmdEffect
  refine State.Keeps.ite hk (State.Keeps.ite (State.raise_keeps (State.wr_keeps (State.wr_keeps hk))) (State.wr_keeps ?_))
  refine (State.wr_keeps hk).setLife ?_
  intro _ x hx
  cases hx

theorem execFuseProgramCmd_keeps {z s : State} (fn : Fin 65) (data : Word) (hk : z.Keeps s) :
    z.KeepsNext (execFuseProgramCmd fn data s) := by
  unfold execFuseProgramCmd
  repeat' (first
    | with_reducible assumption | with_reducible exact State.Keeps.refl _
    | with_reducible apply State.mmioWrite_keeps | with_reducible apply State.fuseCmdEffect_keeps
    | with_reducible apply State.KeepsNext.next | (intro _ _) | dsimp only)

theorem Fuses.blow_within (f : Fuses) (g v : Nat) : f.Within (f.blow g v) ∧ (f.blow g v).lc = f.lc := by
  unfold Fuses.blow
  split <;> refine ⟨⟨?_, ?_, ?_, ?_, ?_, ?_, ?_, ?_, ?_, ?_⟩, rfl⟩ <;> simp +contextual [Nat.testBit_or]

theorem Fuses.blowPart_within (f : Fuses) (g v n : Nat) :
    f.Within (f.blowPart g v n) ∧ (f.blowPart g v n).lc = f.lc := by
  have h := (Fuses.blow_within f g v).2
  unfold Fuses.blowPart
  refine ⟨⟨?_, ?_, ?_, ?_, ?_, ?_, ?_, ?_, ?_, ?_⟩, h⟩ <;> simp +contextual [Nat.testBit_or, h]

theorem execFuseProgramDone_keeps {z s : State} (ok : Bool) (hk : z.Keeps s) : z.KeepsNext (execFuseProgramDone ok s) := by
  unfold execFuseProgramDone
  split
  · next g v hj =>
    have hi : z.Keeps { s with life := { s.life with job := .idle } } := by
      refine hk.setLife ?_
      intro _ x hx
      cases hx
    have hb : ∀ {t : State} {f : Fuses}, z.Keeps t → t.life.job = .idle → t.fusesBlown.Within f → f.lc = t.fusesBlown.lc →
        z.Keeps { t with fusesBlown := f } := by
      intro t f ht hid hw hl
      refine ht.setBlown (fun i => ⟨hw, hl ▸ i.lcNext, hl ▸ i.lcLegal, fun x hx => ?_⟩)
      rw [hid] at hx
      cases hx
    refine .next (State.raise_keeps (State.wr_keeps (State.wr_keeps ?_)))
    refine State.Keeps.ite ?_ (State.Keeps.ite ?_ hi)
    · exact hb hi rfl (Fuses.blow_within _ _ _).1 (Fuses.blow_within _ _ _).2
    · exact hb (State.drawNat_keeps hi) rfl (Fuses.blowPart_within _ _ _ _).1 (Fuses.blowPart_within _ _ _ _).2
  · exact .next hk

theorem State.takeBundle_keeps {z s : State} {readOk : Bool} {h payload : List Byte} (hk : z.Keeps s) :
    z.Keeps (State.takeBundle s readOk h payload) := by
  unfold State.takeBundle
  repeat' (first
    | with_reducible assumption | with_reducible exact State.Keeps.refl _ | with_reducible apply State.wr_keeps
    | with_reducible apply State.Keeps.ite
    | fail_if_no_progress (first
        | refine State.Keeps.upd ?_ rfl (fun c => { c with })
        | refine State.Keeps.upd ?_ rfl (by
          intro c; cases c; constructor <;> repeat' first
            | assumption | exact Sparse.wf_put (by assumption) | exact Sparse.wf_ins (by assumption)
            | exact Sparse.wf_del (by assumption) | exact Sparse.wf_filter (by assumption) | rfl
            | (dsimp only; split) | split))
    | (intro _ _) | split | dsimp only)

theorem State.sheetsBecomeReady_keeps {z s : State} (hk : z.Keeps s) : z.Keeps (State.sheetsBecomeReady s) := by
  unfold State.sheetsBecomeReady
  repeat' (first
    | with_reducible assumption | with_reducible exact State.Keeps.refl _ | with_reducible apply State.wr_keeps
    | with_reducible apply State.setPlate_keeps | with_reducible apply State.raise_keeps
    | with_reducible apply forUpTo_keeps | with_reducible apply State.Keeps.ite
    | fail_if_no_progress (first
        | refine State.Keeps.upd ?_ rfl (fun c => { c with })
        | refine State.Keeps.upd ?_ rfl (by
          intro c; cases c; constructor <;> repeat' first
            | assumption | exact Sparse.wf_put (by assumption) | exact Sparse.wf_ins (by assumption)
            | exact Sparse.wf_del (by assumption) | exact Sparse.wf_filter (by assumption) | rfl
            | (dsimp only; split) | split))
    | (intro _ _ _) | (intro _ _) | split | dsimp only)

theorem execBootBundleReadDone_keeps {z s : State} (readOk : Bool) (header payload : List Byte) (hk : z.Keeps s) :
    z.KeepsNext (execBootBundleReadDone readOk header payload s) := by
  unfold execBootBundleReadDone
  repeat' (first
    | with_reducible assumption | with_reducible exact State.Keeps.refl _
    | with_reducible apply State.takeBundle_keeps | with_reducible apply State.sheetsBecomeReady_keeps
    | with_reducible apply State.KeepsNext.next | with_reducible apply State.Keeps.ite
    | fail_if_no_progress (first
        | refine State.Keeps.upd ?_ rfl (fun c => { c with })
        | refine State.Keeps.upd ?_ rfl (by
          intro c; cases c; constructor <;> repeat' first
            | assumption | exact Sparse.wf_put (by assumption) | exact Sparse.wf_ins (by assumption)
            | exact Sparse.wf_del (by assumption) | exact Sparse.wf_filter (by assumption) | rfl
            | (dsimp only; split) | split))
    | split | dsimp only)

theorem State.tapSelect_keeps {z s : State} {i : TapInstr} (hk : z.Keeps s) : z.Keeps (State.tapSelect s i) := by
  unfold State.tapSelect
  repeat' (first
    | with_reducible assumption | with_reducible exact State.Keeps.refl _ | with_reducible apply State.Keeps.ite
    | fail_if_no_progress (first
        | refine State.Keeps.upd ?_ rfl (fun c => { c with })
        | refine State.Keeps.upd ?_ rfl (by
          intro c; cases c; constructor <;> repeat' first
            | assumption | exact Sparse.wf_put (by assumption) | exact Sparse.wf_ins (by assumption)
            | exact Sparse.wf_del (by assumption) | exact Sparse.wf_filter (by assumption) | rfl
            | (dsimp only; split) | split))
    | split)

theorem execTrstNAssert_keeps {z s : State} (hk : z.Keeps s) : z.KeepsNext (execTrstNAssert s) := by
  unfold execTrstNAssert
  repeat' (first
    | with_reducible assumption | with_reducible exact State.Keeps.refl _ | with_reducible apply State.KeepsNext.next
    | fail_if_no_progress (first
        | refine State.Keeps.upd ?_ rfl (fun c => { c with })
        | refine State.Keeps.upd ?_ rfl (by
          intro c; cases c; constructor <;> repeat' first
            | assumption | exact Sparse.wf_put (by assumption) | exact Sparse.wf_ins (by assumption)
            | exact Sparse.wf_del (by assumption) | exact Sparse.wf_filter (by assumption) | rfl
            | (dsimp only; split) | split)))

theorem execExtest_keeps {z s : State} (cells : List Bool) (hk : z.Keeps s) : z.KeepsNext (execExtest cells s) := by
  unfold execExtest
  repeat' (first
    | with_reducible assumption | with_reducible exact State.Keeps.refl _
    | with_reducible apply State.tapSelect_keeps | with_reducible apply State.KeepsNext.next
    | fail_if_no_progress (first
        | refine State.Keeps.upd ?_ rfl (fun c => { c with })
        | refine State.Keeps.upd ?_ rfl (by
          intro c; cases c; constructor <;> repeat' first
            | assumption | exact Sparse.wf_put (by assumption) | exact Sparse.wf_ins (by assumption)
            | exact Sparse.wf_del (by assumption) | exact Sparse.wf_filter (by assumption) | rfl
            | (dsimp only; split) | split))
    | dsimp only)

theorem execIdcode_keeps {z s : State} (hk : z.Keeps s) : z.KeepsNext (execIdcode s) := by
  unfold execIdcode
  repeat' (first
    | with_reducible assumption | with_reducible exact State.Keeps.refl _ | with_reducible apply State.emit_keeps
    | with_reducible apply State.tapSelect_keeps | with_reducible apply State.KeepsNext.next)

theorem execSamplePreload_keeps {z s : State} (balls cells : List Bool) (hk : z.Keeps s) :
    z.KeepsNext (execSamplePreload balls cells s) := by
  unfold execSamplePreload
  repeat' (first
    | with_reducible assumption | with_reducible exact State.Keeps.refl _ | with_reducible apply State.emit_keeps
    | with_reducible apply State.tapSelect_keeps | with_reducible apply State.KeepsNext.next
    | fail_if_no_progress (first
        | refine State.Keeps.upd ?_ rfl (fun c => { c with })
        | refine State.Keeps.upd ?_ rfl (by
          intro c; cases c; constructor <;> repeat' first
            | assumption | exact Sparse.wf_put (by assumption) | exact Sparse.wf_ins (by assumption)
            | exact Sparse.wf_del (by assumption) | exact Sparse.wf_filter (by assumption) | rfl
            | (dsimp only; split) | split))
    | dsimp only)

theorem execClamp_keeps {z s : State} (hk : z.Keeps s) : z.KeepsNext (execClamp s) := by
  unfold execClamp
  repeat' (first
    | with_reducible assumption | with_reducible exact State.Keeps.refl _
    | with_reducible apply State.tapSelect_keeps | with_reducible apply State.KeepsNext.next)

theorem execHighz_keeps {z s : State} (hk : z.Keeps s) : z.KeepsNext (execHighz s) := by
  unfold execHighz
  repeat' (first
    | with_reducible assumption | with_reducible exact State.Keeps.refl _
    | with_reducible apply State.tapSelect_keeps | with_reducible apply State.KeepsNext.next)

theorem execBypass_keeps {z s : State} (hk : z.Keeps s) : z.KeepsNext (execBypass s) := by
  unfold execBypass
  repeat' (first
    | with_reducible assumption | with_reducible exact State.Keeps.refl _
    | with_reducible apply State.tapSelect_keeps | with_reducible apply State.KeepsNext.next)

theorem execDebug_keeps {z s : State} (hk : z.Keeps s) : z.KeepsNext (execDebug s) := by
  unfold execDebug
  repeat' (first
    | with_reducible assumption | with_reducible exact State.Keeps.refl _
    | with_reducible apply State.tapSelect_keeps | with_reducible apply State.KeepsNext.next)

theorem execMakerTest_keeps {z s : State} (code : Fin 32) (hk : z.Keeps s) : z.KeepsNext (execMakerTest code s) := by
  unfold execMakerTest
  repeat' (first
    | with_reducible assumption | with_reducible exact State.Keeps.refl _
    | with_reducible apply State.tapSelect_keeps | with_reducible apply State.KeepsNext.next)

theorem execDebugHalt_keeps {z s : State} (p : Fin 8) (g : Fin 4) (hk : z.Keeps s) :
    z.KeepsNext (execDebugHalt p g s) := by
  unfold execDebugHalt
  repeat' (first
    | with_reducible assumption | with_reducible exact State.Keeps.refl _ | with_reducible apply State.drawNat_keeps
    | with_reducible apply State.setGraver_keeps | with_reducible apply State.KeepsNext.next
    | with_reducible apply State.Keeps.ite | split | dsimp only)

theorem execDebugResume_keeps {z s : State} (p : Fin 8) (g : Fin 4) (hk : z.Keeps s) :
    z.KeepsNext (execDebugResume p g s) := by
  unfold execDebugResume
  repeat' (first
    | with_reducible assumption | with_reducible exact State.Keeps.refl _
    | with_reducible apply State.setGraver_keeps | with_reducible apply State.KeepsNext.next
    | with_reducible apply State.Keeps.ite | split)

theorem execDebugSingleStep_keeps {z s : State} (p : Fin 8) (g : Fin 4) (hk : z.Keeps s) :
    z.KeepsNext (execDebugSingleStep p g s) := by
  unfold execDebugSingleStep
  repeat' (first
    | with_reducible assumption | with_reducible exact State.Keeps.refl _ | with_reducible apply State.drawNat_keeps
    | with_reducible apply State.setGraver_keeps | with_reducible apply State.KeepsNext.next
    | with_reducible apply State.Keeps.ite | split | dsimp only)

theorem State.debugAccess_keeps {z s : State} {p g : Nat} {target : DebugTarget} {write : Bool} (hk : z.Keeps s) :
    z.Keeps (State.debugAccess s p g target write) := by
  unfold State.debugAccess
  repeat' (first
    | with_reducible assumption | with_reducible exact State.Keeps.refl _ | with_reducible apply State.emit_keeps
    | with_reducible apply State.drawNat_keeps | with_reducible apply State.violate_keeps
    | with_reducible apply State.countRepeat_keeps | with_reducible apply State.answer_keeps
    | with_reducible apply State.settleGraver_keeps | with_reducible apply State.Keeps.ite | (intro _ _) | split
    | dsimp only)

theorem execDebugAccess_keeps {z s : State} (p : Fin 8) (g : Fin 4) (target : DebugTarget) (write : Bool) (hk :
    z.Keeps s) : z.KeepsNext (execDebugAccess p g target write s) := by
  unfold execDebugAccess
  repeat' (first
    | with_reducible assumption | with_reducible exact State.Keeps.refl _
    | with_reducible apply State.debugAccess_keeps | with_reducible apply State.KeepsNext.next
    | with_reducible apply State.Keeps.ite | split)

/-! ### Machine/Island.lean -/

theorem State.modIsland_keeps {z s : State} {f : Island → Island} (hk : z.Keeps s) :
    z.Keeps (State.modIsland s f) := by
  unfold State.modIsland
  repeat' (first
    | with_reducible assumption | with_reducible exact State.Keeps.refl _
    | fail_if_no_progress (first
        | refine State.Keeps.upd ?_ rfl (fun c => { c with })
        | refine State.Keeps.upd ?_ rfl (by
          intro c; cases c; constructor <;> repeat' first
            | assumption | exact Sparse.wf_put (by assumption) | exact Sparse.wf_ins (by assumption)
            | exact Sparse.wf_del (by assumption) | exact Sparse.wf_filter (by assumption) | rfl
            | (dsimp only; split) | split)))

theorem State.setFeed_keeps {z s : State} {k : Nat} {f : Feed} (hk : z.Keeps s) : z.Keeps (State.setFeed s k f) := by
  unfold State.setFeed
  repeat' (first
    | with_reducible assumption | with_reducible exact State.Keeps.refl _
    | with_reducible apply State.modIsland_keeps | (intro _ _) | dsimp only)

theorem State.audit_keeps {z s : State} {kind feed item old new : Nat} (hk : z.Keeps s) :
    z.Keeps (State.audit s kind feed item old new) := by
  unfold State.audit
  repeat' (first
    | with_reducible assumption | with_reducible exact State.Keeps.refl _
    | with_reducible apply State.modIsland_keeps | with_reducible apply State.Keeps.ite | (intro _ _) | split
    | dsimp only)

theorem State.sealEvent_keeps {z s : State} {kind feed item old new : Nat} (hk : z.Keeps s) :
    z.Keeps (State.sealEvent s kind feed item old new) := by
  unfold State.sealEvent
  repeat' (first
    | with_reducible assumption | with_reducible exact State.Keeps.refl _
    | with_reducible apply State.modIsland_keeps | with_reducible apply State.audit_keeps | (intro _ _) | dsimp only)

theorem State.blockOf_keeps {z s : State} {k : Nat} (hk : z.Keeps s) : z.Keeps (State.blockOf s k).2 := by
  unfold State.blockOf
  repeat' (first
    | with_reducible assumption | with_reducible exact State.Keeps.refl _
    | with_reducible apply State.drawRound_keeps | with_reducible apply State.Keeps.ite | split | dsimp only)

theorem State.blocks_keeps {z s : State} (hk : z.Keeps s) : z.Keeps s.blocks.2 :=
  foldl_keeps_snd _ hk (fun _ _ hu => State.blockOf_keeps hu)

theorem State.publication_keeps {z s : State} (hk : z.Keeps s) : z.Keeps (State.publication s).2 := by
  unfold State.publication
  repeat' (first
    | with_reducible assumption | with_reducible exact State.Keeps.refl _
    | with_reducible apply State.drawRound_keeps | with_reducible apply State.blocks_keeps | split | dsimp only)

/-! ### Machine/Metrology.lean -/

theorem State.tpStart_keeps {z s : State} (hk : z.Keeps s) : z.Keeps (State.tpStart s) := by
  unfold State.tpStart
  repeat' (first
    | with_reducible assumption | with_reducible exact State.Keeps.refl _
    | with_reducible apply State.modIsland_keeps | with_reducible apply State.Keeps.ite | (intro _ _) | split
    | dsimp only)

theorem State.tpCross_keeps {z s : State} {k : Nat} {old new : FeedEnergy} (hk : z.Keeps s) :
    z.Keeps (State.tpCross s k old new) := by
  unfold State.tpCross
  repeat' (first
    | with_reducible assumption | with_reducible exact State.Keeps.refl _
    | with_reducible apply State.modIsland_keeps | with_reducible apply State.tpStart_keeps
    | with_reducible apply State.Keeps.ite | (intro _ _) | split | dsimp only)

theorem execTestPulseEnd_keeps {z s : State} (hk : z.Keeps s) : z.KeepsNext (execTestPulseEnd s) := by
  unfold execTestPulseEnd
  repeat' (first
    | with_reducible assumption | with_reducible exact State.Keeps.refl _
    | with_reducible apply State.modIsland_keeps | with_reducible apply State.tpStart_keeps
    | with_reducible apply State.KeepsNext.next | with_reducible apply State.Keeps.ite | (intro _ _) | split
    | dsimp only)

theorem State.interval_keeps {z s : State} {k : Nat} {si : Int} {sv : List Int} {quad : Int} (hk : z.Keeps s) :
    z.Keeps (State.interval s k si sv quad) := by
  unfold State.interval
  repeat' (first
    | with_reducible assumption | with_reducible exact State.Keeps.refl _
    | with_reducible apply State.drawRound_keeps | with_reducible apply State.setFeed_keeps
    | with_reducible apply State.tpCross_keeps | with_reducible apply foldl_keeps
    | with_reducible apply foldl_keeps_snd | with_reducible apply State.Keeps.ite | split | dsimp only)

theorem State.islandWordsOf_keeps {z s : State} {n : Nat} {x : Converted} {count : Nat} (hk : z.Keeps s) :
    z.Keeps (State.islandWordsOf s n x count).2 := by
  unfold State.islandWordsOf
  repeat' (first
    | with_reducible assumption | with_reducible exact State.Keeps.refl _
    | with_reducible apply State.modIsland_keeps
    | fail_if_no_progress (first
        | refine State.Keeps.upd ?_ rfl (fun c => { c with })
        | refine State.Keeps.upd ?_ rfl (by
          intro c; cases c; constructor <;> repeat' first
            | assumption | exact Sparse.wf_put (by assumption) | exact Sparse.wf_ins (by assumption)
            | exact Sparse.wf_del (by assumption) | exact Sparse.wf_filter (by assumption) | rfl
            | (dsimp only; split) | split))
    | (intro _ _) | dsimp only)

theorem State.islandConvert_keeps {z s : State} {n : Nat} {x : Converted} (hk : z.Keeps s) :
    z.Keeps (State.islandConvert s n x).2 := by
  unfold State.islandConvert
  repeat' (first
    | with_reducible assumption | with_reducible exact State.Keeps.refl _
    | with_reducible apply State.modIsland_keeps
    | fail_if_no_progress (first
        | refine State.Keeps.upd ?_ rfl (fun c => { c with })
        | refine State.Keeps.upd ?_ rfl (by
          intro c; cases c; constructor <;> repeat' first
            | assumption | exact Sparse.wf_put (by assumption) | exact Sparse.wf_ins (by assumption)
            | exact Sparse.wf_del (by assumption) | exact Sparse.wf_filter (by assumption) | rfl
            | (dsimp only; split) | split))
    | (intro _ _) | dsimp only)

theorem State.intervalOf_keeps {z s : State} {k : Nat} {current volts : List Int} (hk : z.Keeps s) :
    z.Keeps (State.intervalOf s k current volts) := by
  unfold State.intervalOf
  repeat' (first
    | with_reducible assumption | with_reducible exact State.Keeps.refl _ | with_reducible apply State.interval_keeps
    | with_reducible apply State.islandWordsOf_keeps | dsimp only)

theorem execIslandInterval_keeps {z s : State} (k : Fin 8) (current volts : List Int) (hk : z.Keeps s) :
    z.KeepsNext (execIslandInterval k current volts s) := by
  unfold execIslandInterval
  repeat' (first
    | with_reducible assumption | with_reducible exact State.Keeps.refl _
    | with_reducible apply State.intervalOf_keeps | with_reducible apply State.KeepsNext.next
    | with_reducible apply State.Keeps.ite | split | dsimp only)

theorem State.dieConvert_keeps {z s : State} {die : Int} (hk : z.Keeps s) : z.Keeps (State.dieConvert s die) := by
  unfold State.dieConvert
  repeat' (first
    | with_reducible assumption | with_reducible exact State.Keeps.refl _
    | with_reducible apply State.modIsland_keeps | with_reducible apply State.islandConvert_keeps
    | with_reducible apply State.Keeps.ite | (intro _ _) | split | dsimp only)

theorem State.feedTemp_keeps {z s : State} {k : Nat} {x : Int} (hk : z.Keeps s) : z.Keeps (State.feedTemp s k x) := by
  unfold State.feedTemp
  repeat' (first
    | with_reducible assumption | with_reducible exact State.Keeps.refl _ | with_reducible apply State.setFeed_keeps
    | with_reducible apply State.Keeps.ite | split | dsimp only)

theorem execIslandTempReading_keeps {z s : State} (k : Fin 8) (th : Bridge) (die : Int) (hk : z.Keeps s) :
    z.KeepsNext (execIslandTempReading k th die s) := by
  unfold execIslandTempReading
  repeat' (first
    | with_reducible assumption | with_reducible exact State.Keeps.refl _
    | with_reducible apply State.islandConvert_keeps | with_reducible apply State.dieConvert_keeps
    | with_reducible apply State.feedTemp_keeps | with_reducible apply State.KeepsNext.next
    | with_reducible apply State.Keeps.ite | split | dsimp only)

theorem execFluxDriveLimit_keeps {z s : State} (k : Fin 8) (limited : Bool) (hk : z.Keeps s) :
    z.KeepsNext (execFluxDriveLimit k limited s) := by
  unfold execFluxDriveLimit
  repeat' (first
    | with_reducible assumption | with_reducible exact State.Keeps.refl _ | with_reducible apply State.setFeed_keeps
    | with_reducible apply State.KeepsNext.next | with_reducible apply State.Keeps.ite | split)

theorem State.receivePub_keeps {z s : State} {p : Publication} (hk : z.Keeps s) : z.Keeps (State.receivePub s p) := by
  unfold State.receivePub
  repeat' (first
    | with_reducible assumption | with_reducible exact State.Keeps.refl _ | with_reducible apply State.bumpSat_keeps
    | with_reducible apply State.raise_keeps | with_reducible apply State.setOp_keeps
    | with_reducible apply State.Keeps.ite
    | fail_if_no_progress (first
        | refine State.Keeps.upd ?_ rfl (fun c => { c with })
        | refine State.Keeps.upd ?_ rfl (by
          intro c; cases c; constructor <;> repeat' first
            | assumption | exact Sparse.wf_put (by assumption) | exact Sparse.wf_ins (by assumption)
            | exact Sparse.wf_del (by assumption) | exact Sparse.wf_filter (by assumption) | rfl
            | (dsimp only; split) | split))
    | (intro _ _) | split | dsimp only)

theorem execIslandWindowPublish_keeps {z s : State} (arrives : Bool) (hk : z.Keeps s) :
    z.KeepsNext (execIslandWindowPublish arrives s) := by
  unfold execIslandWindowPublish
  repeat' (first
    | with_reducible assumption | with_reducible exact State.Keeps.refl _
    | with_reducible apply State.modIsland_keeps | with_reducible apply State.publication_keeps
    | with_reducible apply State.receivePub_keeps | with_reducible apply State.KeepsNext.next
    | with_reducible apply State.Keeps.ite | (intro _ _) | split | dsimp only)

theorem execIslandLost_keeps {z s : State} (hk : z.Keeps s) : z.KeepsNext (execIslandLost s) := by
  unfold execIslandLost
  repeat' (first
    | with_reducible assumption | with_reducible exact State.Keeps.refl _ | with_reducible apply State.raise_keeps
    | with_reducible apply State.setOp_keeps | with_reducible apply State.KeepsNext.next
    | with_reducible apply State.Keeps.ite | split)

theorem State.mbSeqEffect_keeps {z s : State} (hk : z.Keeps s) : z.Keeps (State.mbSeqEffect s).2 := by
  unfold State.mbSeqEffect
  repeat' (first
    | with_reducible assumption | with_reducible exact State.Keeps.refl _ | with_reducible apply State.wr_keeps
    | fail_if_no_progress (first
        | refine State.Keeps.upd ?_ rfl (fun c => { c with })
        | refine State.Keeps.upd ?_ rfl (by
          intro c; cases c; constructor <;> repeat' first
            | assumption | exact Sparse.wf_put (by assumption) | exact Sparse.wf_ins (by assumption)
            | exact Sparse.wf_del (by assumption) | exact Sparse.wf_filter (by assumption) | rfl
            | (dsimp only; split) | split))
    | split | dsimp only)

theorem execMbSeqRead_keeps {z s : State} (fn : Fin 65) (hk : z.Keeps s) : z.KeepsNext (execMbSeqRead fn s) := by
  unfold execMbSeqRead
  repeat' (first
    | with_reducible assumption | with_reducible exact State.Keeps.refl _ | with_reducible apply State.mmioRead_keeps
    | with_reducible apply State.mbSeqEffect_keeps | with_reducible apply State.KeepsNext.next | (intro _ _)
    | dsimp only)

theorem execSealEnChange_keeps {z s : State} (level : Bool) (hk : z.Keeps s) :
    z.KeepsNext (execSealEnChange level s) := by
  unfold execSealEnChange
  repeat' (first
    | with_reducible assumption | with_reducible exact State.Keeps.refl _
    | with_reducible apply State.modIsland_keeps | with_reducible apply State.audit_keeps
    | with_reducible apply State.KeepsNext.next | with_reducible apply State.Keeps.ite | (intro _ _) | split
    | dsimp only)

theorem State.checkpoint_keeps {z s : State} {periodic : Bool} (hk : z.Keeps s) :
    z.Keeps (State.checkpoint s periodic) := by
  unfold State.checkpoint
  repeat' (first
    | with_reducible assumption | with_reducible exact State.Keeps.refl _
    | with_reducible apply State.modIsland_keeps | (intro _ _) | dsimp only)

theorem execIslandCheckpoint_keeps {z s : State} (hk : z.Keeps s) : z.KeepsNext (execIslandCheckpoint s) := by
  unfold execIslandCheckpoint
  repeat' (first
    | with_reducible assumption | with_reducible exact State.Keeps.refl _
    | with_reducible apply State.modIsland_keeps | with_reducible apply State.checkpoint_keeps
    | with_reducible apply State.KeepsNext.next | with_reducible apply State.Keeps.ite | (intro _ _) | split
    | dsimp only)

theorem State.islandReset_keeps {z s : State} (hk : z.Keeps s) : z.Keeps (State.islandReset s) := by
  unfold State.islandReset
  repeat' (first
    | with_reducible assumption | with_reducible exact State.Keeps.refl _
    | with_reducible apply State.modIsland_keeps | (intro _ _) | dsimp only)

theorem execVddIslLow_keeps {z s : State} (reset holdUp : Bool) (hk : z.Keeps s) :
    z.KeepsNext (execVddIslLow reset holdUp s) := by
  unfold execVddIslLow
  repeat' (first
    | with_reducible assumption | with_reducible exact State.Keeps.refl _
    | with_reducible apply State.modIsland_keeps | with_reducible apply State.checkpoint_keeps
    | with_reducible apply State.islandReset_keeps | with_reducible apply State.KeepsNext.next
    | with_reducible apply State.Keeps.ite | (intro _ _) | split | dsimp only)

theorem execIslPorNAssert_keeps {z s : State} (hk : z.Keeps s) : z.KeepsNext (execIslPorNAssert s) := by
  unfold execIslPorNAssert
  repeat' (first
    | with_reducible assumption | with_reducible exact State.Keeps.refl _
    | with_reducible apply State.checkpoint_keeps | with_reducible apply State.islandReset_keeps
    | with_reducible apply State.KeepsNext.next | with_reducible apply State.Keeps.ite | split)

theorem execIslandResetRelease_keeps {z s : State} (hk : z.Keeps s) : z.KeepsNext (execIslandResetRelease s) := by
  unfold execIslandResetRelease
  repeat' (first
    | with_reducible assumption | with_reducible exact State.Keeps.refl _
    | with_reducible apply State.modIsland_keeps | with_reducible apply State.setFeed_keeps
    | with_reducible apply State.KeepsNext.next | with_reducible apply forUpTo_keeps
    | with_reducible apply State.Keeps.ite | (intro _ _ _) | (intro _ _) | split | dsimp only)

theorem execCrystalFail_keeps {z s : State} (hk : z.Keeps s) : z.KeepsNext (execCrystalFail s) := by
  unfold execCrystalFail
  repeat' (first
    | with_reducible assumption | with_reducible exact State.Keeps.refl _
    | with_reducible apply State.modIsland_keeps | with_reducible apply State.KeepsNext.next
    | with_reducible apply State.Keeps.ite | (intro _ _) | split | dsimp only)

theorem execCrystalResume_keeps {z s : State} (hk : z.Keeps s) : z.KeepsNext (execCrystalResume s) := by
  unfold execCrystalResume
  repeat' (first
    | with_reducible assumption | with_reducible exact State.Keeps.refl _
    | with_reducible apply State.modIsland_keeps | with_reducible apply State.KeepsNext.next
    | with_reducible apply State.Keeps.ite | (intro _ _) | split | dsimp only)

theorem State.uartAnswer_keeps {z s : State} {cmd status : Nat} {payload : List Byte} (hk : z.Keeps s) :
    z.Keeps (State.uartAnswer s cmd status payload) := by
  unfold State.uartAnswer
  repeat' (first
    | with_reducible assumption | with_reducible exact State.Keeps.refl _ | with_reducible apply State.emit_keeps)

theorem execUartIdent_keeps {z s : State} (hk : z.Keeps s) : z.KeepsNext (execUartIdent s) := by
  unfold execUartIdent
  repeat' (first
    | with_reducible assumption | with_reducible exact State.Keeps.refl _
    | with_reducible apply State.uartAnswer_keeps | with_reducible apply State.KeepsNext.next
    | with_reducible apply State.Keeps.ite | split)

theorem execUartReadParam_keeps {z s : State} (item : BitVec 16) (hk : z.Keeps s) :
    z.KeepsNext (execUartReadParam item s) := by
  unfold execUartReadParam
  repeat' (first
    | with_reducible assumption | with_reducible exact State.Keeps.refl _
    | with_reducible apply State.uartAnswer_keeps | with_reducible apply State.KeepsNext.next
    | with_reducible apply State.Keeps.ite | split)

theorem State.dropConvs_keeps {z s : State} {k : Nat} (hk : z.Keeps s) : z.Keeps (State.dropConvs s k) := by
  unfold State.dropConvs
  repeat' (first
    | with_reducible assumption | with_reducible exact State.Keeps.refl _
    | with_reducible apply State.modIsland_keeps | with_reducible apply foldl_keeps
    | fail_if_no_progress (first
        | refine State.Keeps.upd ?_ rfl (fun c => { c with })
        | refine State.Keeps.upd ?_ rfl (by
          intro c; cases c; constructor <;> repeat' first
            | assumption | exact Sparse.wf_put (by assumption) | exact Sparse.wf_ins (by assumption)
            | exact Sparse.wf_del (by assumption) | exact Sparse.wf_filter (by assumption) | rfl
            | (dsimp only; split) | split))
    | (intro _ _ _) | (intro _ _) | dsimp only)

theorem State.writeParam_keeps {z s : State} {item v : Nat} {nvmOk : Bool} (hk : z.Keeps s) :
    z.Keeps (State.writeParam s item v nvmOk).2 := by
  unfold State.writeParam
  repeat' (first
    | with_reducible assumption | with_reducible exact State.Keeps.refl _
    | with_reducible apply State.modIsland_keeps | with_reducible apply State.setFeed_keeps
    | with_reducible apply State.sealEvent_keeps | with_reducible apply State.dropConvs_keeps
    | with_reducible apply State.Keeps.ite | (intro _ _) | split | dsimp only)

theorem execUartWriteParam_keeps {z s : State} (item : BitVec 16) (value : Word) (nvmOk : Bool) (hk : z.Keeps s) :
    z.KeepsNext (execUartWriteParam item value nvmOk s) := by
  unfold execUartWriteParam
  repeat' (first
    | with_reducible assumption | with_reducible exact State.Keeps.refl _
    | with_reducible apply State.uartAnswer_keeps | with_reducible apply State.writeParam_keeps
    | with_reducible apply State.KeepsNext.next | with_reducible apply State.Keeps.ite | split | dsimp only)

theorem State.commitOne_keeps {z : State} {nvmOk : Bool} {k m : Nat} {a : Nat × State} (hk : z.Keeps a.2) :
    z.Keeps (State.commitOne nvmOk k m a).2 := by
  unfold State.commitOne
  dsimp only
  split
  · exact hk
  · split
    · exact State.setFeed_keeps hk
    · split
      · exact hk
      · split
        · exact State.modIsland_keeps (z := z) (s := a.2) (f := fun d => { d with nvmFault := true }) hk
        · have ht : z.Keeps (a.2.sealEvent 4 k (256 * k + 0x10 + m) (setCrc (a.2.feed k).active m)
              (setCrc (a.2.feed k).shadow m)) := State.sealEvent_keeps hk
          exact State.setFeed_keeps ht

theorem execUartCommit_keeps {z s : State} (feed mask : BitVec 8) (nvmOk : Bool) (hk : z.Keeps s) :
    z.KeepsNext (execUartCommit feed mask nvmOk s) := by
  unfold execUartCommit
  refine .next (State.Keeps.ite hk (State.Keeps.ite (State.uartAnswer_keeps hk) (State.Keeps.ite
    (State.uartAnswer_keeps hk) ?_)))
  have hr := foldl_keeps_snd (z := z) (t := ((0 : Nat), s))
    (f := fun a m => if bitAt mask.toNat m then State.commitOne nvmOk feed.toNat m a else a) [0, 1, 2] hk (fun u a hu => by
      split
      · exact State.commitOne_keeps hu
      · exact hu)
  exact State.Keeps.ite (State.uartAnswer_keeps hr) (State.uartAnswer_keeps hr)

theorem execUartReadLog_keeps {z s : State} (index : Word) (hk : z.Keeps s) :
    z.KeepsNext (execUartReadLog index s) := by
  unfold execUartReadLog
  repeat' (first
    | with_reducible assumption | with_reducible exact State.Keeps.refl _ | with_reducible apply State.record_keeps
    | with_reducible apply State.uartAnswer_keeps | with_reducible apply State.KeepsNext.next
    | with_reducible apply State.Keeps.ite | split)

theorem execUartStream_keeps {z s : State} (feed : BitVec 8) (period : BitVec 16) (hk : z.Keeps s) :
    z.KeepsNext (execUartStream feed period s) := by
  unfold execUartStream
  repeat' (first
    | with_reducible assumption | with_reducible exact State.Keeps.refl _
    | with_reducible apply State.modIsland_keeps | with_reducible apply State.uartAnswer_keeps
    | with_reducible apply State.KeepsNext.next | with_reducible apply State.Keeps.ite | (intro _ _) | split
    | dsimp only)

theorem execStreamFeedSend_keeps {z s : State} (k : Fin 8) (hk : z.Keeps s) :
    z.KeepsNext (execStreamFeedSend k s) := by
  unfold execStreamFeedSend
  repeat' (first
    | with_reducible assumption | with_reducible exact State.Keeps.refl _ | with_reducible apply State.emit_keeps
    | with_reducible apply State.modIsland_keeps | with_reducible apply State.KeepsNext.next
    | with_reducible apply State.Keeps.ite | (intro _ _) | split | dsimp only)

theorem execUartTpSet_keeps {z s : State} (feed : BitVec 8) (direction constant enable : BitVec 8) (hk : z.Keeps s) :
    z.KeepsNext (execUartTpSet feed direction constant enable s) := by
  unfold execUartTpSet
  repeat' (first
    | with_reducible assumption | with_reducible exact State.Keeps.refl _
    | with_reducible apply State.modIsland_keeps | with_reducible apply State.uartAnswer_keeps
    | with_reducible apply State.KeepsNext.next | with_reducible apply State.Keeps.ite | (intro _ _) | split
    | dsimp only)

theorem execUartReadFeed_keeps {z s : State} (feed : BitVec 8) (hk : z.Keeps s) :
    z.KeepsNext (execUartReadFeed feed s) := by
  unfold execUartReadFeed
  repeat' (first
    | with_reducible assumption | with_reducible exact State.Keeps.refl _
    | with_reducible apply State.uartAnswer_keeps | with_reducible apply State.KeepsNext.next
    | with_reducible apply State.Keeps.ite | split)

theorem execUartBadFrame_keeps {z s : State} (bytes : List Byte) (gap : Bool) (hk : z.Keeps s) :
    z.KeepsNext (execUartBadFrame bytes gap s) := by
  unfold execUartBadFrame
  repeat' (first
    | with_reducible assumption | with_reducible exact State.Keeps.refl _
    | with_reducible apply State.modIsland_keeps | with_reducible apply State.uartAnswer_keeps
    | with_reducible apply State.KeepsNext.next | with_reducible apply State.Keeps.ite | (intro _ _) | split
    | dsimp only)

/-! ### Machine/Watchdog.lean -/

theorem State.graverPc_keeps {z s : State} {p g : Nat} (hk : z.Keeps s) : z.Keeps (s.graverPc p g).2 := by
  unfold State.graverPc
  split
  · exact hk.setDraws (Nat.le_succ _)
  · exact hk

theorem State.wdEvidence_keeps {z s : State} {c cause : Nat} (hk : z.Keeps s) :
    z.Keeps (State.wdEvidence s c cause) := by
  unfold State.wdEvidence
  repeat' (first
    | with_reducible assumption | with_reducible exact State.Keeps.refl _ | with_reducible apply State.wr_keeps
    | with_reducible apply State.wrB_keeps | with_reducible apply State.raise_keeps
    | with_reducible apply State.graverPc_keeps | with_reducible apply forUpTo_keeps
    | with_reducible apply forUpTo_keeps_snd | with_reducible apply State.Keeps.ite | (intro _ _ _) | (intro _ _)
    | split | dsimp only)

theorem State.wdFail_keeps {z s : State} {c cause : Nat} (hk : z.Keeps s) : z.Keeps (State.wdFail s c cause) := by
  unfold State.wdFail
  repeat' (first
    | with_reducible assumption | with_reducible exact State.Keeps.refl _
    | with_reducible apply State.wdStartState_keeps | with_reducible apply State.requestWake_keeps
    | with_reducible apply State.plateReset_keeps | with_reducible apply State.chipReset_keeps
    | with_reducible apply State.wdEvidence_keeps | with_reducible apply State.Keeps.ite | split | dsimp only)

theorem execWatchdogExpiry_keeps {z s : State} (c : Fin 9) (hk : z.Keeps s) :
    z.KeepsNext (execWatchdogExpiry c s) := by
  unfold execWatchdogExpiry
  repeat' (first
    | with_reducible assumption | with_reducible exact State.Keeps.refl _ | with_reducible apply State.wdFail_keeps
    | with_reducible apply State.KeepsNext.next | with_reducible apply State.Keeps.ite | split)

theorem State.wdGood_keeps {z s : State} {c : Nat} (hk : z.Keeps s) : z.Keeps (State.wdGood s c) := by
  unfold State.wdGood
  repeat' (first
    | with_reducible assumption | with_reducible exact State.Keeps.refl _ | with_reducible apply State.bumpSat_keeps
    | with_reducible apply State.drawNat_keeps | with_reducible apply State.setWd_keeps | dsimp only)

theorem State.wdIgnored_keeps {z s : State} {c : Nat} (hk : z.Keeps s) : z.Keeps (State.wdIgnored s c) := by
  unfold State.wdIgnored
  repeat' (first
    | with_reducible assumption | with_reducible exact State.Keeps.refl _ | with_reducible apply State.bumpSat_keeps)

theorem State.wdService_keeps {z s : State} {c token : Nat} (hk : z.Keeps s) :
    z.Keeps (State.wdService s c token) := by
  unfold State.wdService
  repeat' (first
    | with_reducible assumption | with_reducible exact State.Keeps.refl _ | with_reducible apply State.wdFail_keeps
    | with_reducible apply State.wdGood_keeps | with_reducible apply State.wdIgnored_keeps
    | with_reducible apply State.Keeps.ite | split | dsimp only)

theorem execWatchdogService_keeps {z s : State} (fn : Fin 65) (c : Fin 9) (data : Word) (hk : z.Keeps s) :
    z.KeepsNext (execWatchdogService fn c data s) := by
  unfold execWatchdogService
  repeat' (first
    | with_reducible assumption | with_reducible exact State.Keeps.refl _
    | with_reducible apply State.mmioWrite_keeps | with_reducible apply State.wdService_keeps
    | with_reducible apply State.KeepsNext.next | (intro _ _) | dsimp only)

theorem State.wdKernel_keeps {z s : State} {p : Nat} (hk : z.Keeps s) : z.Keeps (State.wdKernel s p) := by
  unfold State.wdKernel
  repeat' (first
    | with_reducible assumption | with_reducible exact State.Keeps.refl _ | with_reducible apply State.wdGood_keeps
    | with_reducible apply State.Keeps.ite | (intro _ _) | split | dsimp only)

theorem State.wdConfigEffect_keeps {z s : State} {fn c off data : Nat} (hk : z.Keeps s) :
    z.Keeps (State.wdConfigEffect s fn c off data) := by
  unfold State.wdConfigEffect
  repeat' (first
    | with_reducible assumption | with_reducible exact State.Keeps.refl _ | with_reducible apply State.wr_keeps
    | with_reducible apply State.violateWrite_keeps | with_reducible apply forEach_keeps
    | with_reducible apply State.Keeps.ite | (intro _ _ _) | (intro _ _) | split | dsimp only)

theorem State.wdStart_keeps {z s : State} {fn c data : Nat} (hk : z.Keeps s) :
    z.Keeps (State.wdStart s fn c data) := by
  unfold State.wdStart
  repeat' (first
    | with_reducible assumption | with_reducible exact State.Keeps.refl _ | with_reducible apply State.wdBegin_keeps
    | with_reducible apply State.Keeps.ite | split)

theorem State.wdCtrlEffect_keeps {z s : State} {fn c data : Nat} (hk : z.Keeps s) :
    z.Keeps (State.wdCtrlEffect s fn c data) := by
  unfold State.wdCtrlEffect
  repeat' (first
    | with_reducible assumption | with_reducible exact State.Keeps.refl _
    | with_reducible apply State.wdConfigEffect_keeps | with_reducible apply State.wdStart_keeps)

theorem execWatchdogStart_keeps {z s : State} (fn : Fin 65) (c : Fin 9) (data : Word) (hk : z.Keeps s) :
    z.KeepsNext (execWatchdogStart fn c data s) := by
  unfold execWatchdogStart
  repeat' (first
    | with_reducible assumption | with_reducible exact State.Keeps.refl _
    | with_reducible apply State.mmioWrite_keeps | with_reducible apply State.wdCtrlEffect_keeps
    | with_reducible apply State.KeepsNext.next | (intro _ _) | dsimp only)

theorem State.wdKeyEffect_keeps {z s : State} {c key : Nat} (hk : z.Keeps s) :
    z.Keeps (State.wdKeyEffect s c key) := by
  unfold State.wdKeyEffect
  repeat' (first
    | with_reducible assumption | with_reducible exact State.Keeps.refl _ | with_reducible apply State.setWd_keeps
    | with_reducible apply State.wdIgnored_keeps | with_reducible apply State.Keeps.ite | split | dsimp only)

theorem execWatchdogKeyWrite_keeps {z s : State} (fn : Fin 65) (c : Fin 9) (data : Word) (hk : z.Keeps s) :
    z.KeepsNext (execWatchdogKeyWrite fn c data s) := by
  unfold execWatchdogKeyWrite
  repeat' (first
    | with_reducible assumption | with_reducible exact State.Keeps.refl _
    | with_reducible apply State.mmioWrite_keeps | with_reducible apply State.wdKeyEffect_keeps
    | with_reducible apply State.KeepsNext.next | (intro _ _) | dsimp only)

theorem State.wdHoldEffect_keeps {z s : State} {fn c : Nat} {hold : Bool} (hk : z.Keeps s) :
    z.Keeps (State.wdHoldEffect s fn c hold) := by
  unfold State.wdHoldEffect
  repeat' (first
    | with_reducible assumption | with_reducible exact State.Keeps.refl _ | with_reducible apply State.wrB_keeps
    | with_reducible apply State.setWd_keeps | with_reducible apply State.Keeps.ite | split | dsimp only)

theorem execWatchdogDebugHold_keeps {z s : State} (fn : Fin 65) (c : Fin 9) (hk : z.Keeps s) :
    z.KeepsNext (execWatchdogDebugHold fn c s) := by
  unfold execWatchdogDebugHold
  repeat' (first
    | with_reducible assumption | with_reducible exact State.Keeps.refl _
    | with_reducible apply State.mmioWrite_keeps | with_reducible apply State.wdHoldEffect_keeps
    | with_reducible apply State.KeepsNext.next | (intro _ _) | dsimp only)

theorem execWatchdogDebugRelease_keeps {z s : State} (fn : Fin 65) (c : Fin 9) (hk : z.Keeps s) :
    z.KeepsNext (execWatchdogDebugRelease fn c s) := by
  unfold execWatchdogDebugRelease
  repeat' (first
    | with_reducible assumption | with_reducible exact State.Keeps.refl _
    | with_reducible apply State.mmioWrite_keeps | with_reducible apply State.wdHoldEffect_keeps
    | with_reducible apply State.KeepsNext.next | (intro _ _) | dsimp only)

theorem execWatchdogWindowOpen_keeps {z s : State} (c : Fin 9) (hk : z.Keeps s) :
    z.KeepsNext (execWatchdogWindowOpen c s) := by
  unfold execWatchdogWindowOpen
  repeat' (first
    | with_reducible assumption | with_reducible exact State.Keeps.refl _ | with_reducible apply State.raise_keeps
    | with_reducible apply State.setWd_keeps | with_reducible apply State.KeepsNext.next
    | with_reducible apply State.Keeps.ite | split)

theorem execWatchdogWakeLatch_keeps {z s : State} (c : Fin 9) (hk : z.Keeps s) :
    z.KeepsNext (execWatchdogWakeLatch c s) := by
  unfold execWatchdogWakeLatch
  repeat' (first
    | with_reducible assumption | with_reducible exact State.Keeps.refl _ | with_reducible apply State.setWd_keeps
    | with_reducible apply State.requestWake_keeps | with_reducible apply State.KeepsNext.next
    | with_reducible apply State.Keeps.ite | split | dsimp only)

theorem State.wdClearEvidence_keeps {z s : State} {c : Nat} (hk : z.Keeps s) :
    z.Keeps (State.wdClearEvidence s c) := by
  unfold State.wdClearEvidence
  repeat' (first
    | with_reducible assumption | with_reducible exact State.Keeps.refl _
    | with_reducible apply State.clearRegs_keeps | (intro _ _) | dsimp only)

theorem execEvidenceClear_keeps {z s : State} (fn : Fin 65) (c : Fin 9) (hk : z.Keeps s) :
    z.KeepsNext (execEvidenceClear fn c s) := by
  unfold execEvidenceClear
  repeat' (first
    | with_reducible assumption | with_reducible exact State.Keeps.refl _
    | with_reducible apply State.mmioWrite_keeps | with_reducible apply State.wdClearEvidence_keeps
    | with_reducible apply State.KeepsNext.next | (intro _ _) | dsimp only)

theorem execTickMeasure_keeps {z s : State} (ns : Nat) (hk : z.Keeps s) : z.KeepsNext (execTickMeasure ns s) := by
  unfold execTickMeasure
  repeat' (first
    | with_reducible assumption | with_reducible exact State.Keeps.refl _ | with_reducible apply State.wr_keeps
    | with_reducible apply State.KeepsNext.next | with_reducible apply forUpTo_keeps
    | with_reducible apply State.Keeps.ite | (intro _ _ _) | (intro _ _) | split | dsimp only)

/-! ### Machine/Plates.lean -/

theorem State.plateStart_keeps {z s : State} {p : Nat} (hk : z.Keeps s) : z.Keeps (State.plateStart s p) := by
  unfold State.plateStart
  repeat' (first
    | with_reducible assumption | with_reducible exact State.Keeps.refl _
    | with_reducible apply State.setPlateOp_keeps | with_reducible apply State.tkStarts_keeps
    | with_reducible apply State.ask_keeps | with_reducible apply State.adopt_keeps
    | with_reducible apply State.Keeps.ite | split | dsimp only)

theorem State.plateStartEnds_keeps {z s : State} {p : Nat} (hk : z.Keeps s) : z.Keeps (State.plateStartEnds s p) := by
  unfold State.plateStartEnds
  repeat' (first
    | with_reducible assumption | with_reducible exact State.Keeps.refl _ | with_reducible apply State.wr_keeps
    | with_reducible apply State.setPlate_keeps | with_reducible apply State.setPlateOp_keeps
    | with_reducible apply State.withdraw_keeps
    | fail_if_no_progress (first
        | refine State.Keeps.upd ?_ rfl (fun c => { c with })
        | refine State.Keeps.upd ?_ rfl (by
          intro c; cases c; constructor <;> repeat' first
            | assumption | exact Sparse.wf_put (by assumption) | exact Sparse.wf_ins (by assumption)
            | exact Sparse.wf_del (by assumption) | exact Sparse.wf_filter (by assumption) | rfl
            | (dsimp only; split) | split))
    | dsimp only)

theorem State.endQuietRequest_keeps {z s : State} {p : Nat} (hk : z.Keeps s) :
    z.Keeps (State.endQuietRequest s p) := by
  unfold State.endQuietRequest
  repeat' (first
    | with_reducible assumption | with_reducible exact State.Keeps.refl _
    | with_reducible apply State.stirRound_keeps | with_reducible apply State.Keeps.ite
    | fail_if_no_progress (first
        | refine State.Keeps.upd ?_ rfl (fun c => { c with })
        | refine State.Keeps.upd ?_ rfl (by
          intro c; cases c; constructor <;> repeat' first
            | assumption | exact Sparse.wf_put (by assumption) | exact Sparse.wf_ins (by assumption)
            | exact Sparse.wf_del (by assumption) | exact Sparse.wf_filter (by assumption) | rfl
            | (dsimp only; split) | split))
    | split | dsimp only)

theorem State.plateWritten_keeps {z s : State} {p op : Nat} (hk : z.Keeps s) :
    z.Keeps (State.plateWritten s p op) := by
  unfold State.plateWritten
  have ha := State.setPlateOp_keeps (p := p) (op := opStopping) (State.releasePlate_keeps (p := p) hk)
  exact State.Keeps.ite
    (State.Keeps.ite (State.plateStart_keeps hk) (State.Keeps.ite
      (State.cancelQuiet_keeps (State.Keeps.ite (State.stirRound_keeps hk) hk))
      (State.Keeps.ite (State.requestWake_keeps hk) hk)))
    (State.Keeps.ite
      (State.Keeps.ite (State.plateStartEnds_keeps hk) (State.Keeps.ite ha
        (State.Keeps.ite (State.endQuietRequest_keeps hk) hk)))
      (State.Keeps.ite (State.Keeps.upd ha rfl (fun c => { c with quietReqs := Sparse.wf_ins c.quietReqs })) hk))

theorem State.plateIntent_keeps {z s : State} {fn p data : Nat} (hk : z.Keeps s) :
    z.Keeps (State.plateIntent s fn p data) := by
  unfold State.plateIntent
  repeat' (first
    | with_reducible assumption | with_reducible exact State.Keeps.refl _
    | with_reducible apply State.storeIntent_keeps | with_reducible apply State.plateWritten_keeps
    | with_reducible apply State.Keeps.ite | split)

theorem execPlateHostStateWrite_keeps {z s : State} (fn : Fin 65) (p : Fin 8) (data : Word) (hk : z.Keeps s) :
    z.KeepsNext (execPlateHostStateWrite fn p data s) := by
  unfold execPlateHostStateWrite
  repeat' (first
    | with_reducible assumption | with_reducible exact State.Keeps.refl _
    | with_reducible apply State.mmioWrite_keeps | with_reducible apply State.plateIntent_keeps
    | with_reducible apply State.KeepsNext.next | (intro _ _) | dsimp only)

theorem execPlateStopComplete_keeps {z s : State} (p : Fin 8) (hk : z.Keeps s) :
    z.KeepsNext (execPlateStopComplete p s) := by
  unfold execPlateStopComplete
  repeat' (first
    | with_reducible assumption | with_reducible exact State.Keeps.refl _ | with_reducible apply State.setPlate_keeps
    | with_reducible apply State.setPlateOp_keeps | with_reducible apply State.haltGravers_keeps
    | with_reducible apply State.plateStart_keeps | with_reducible apply State.KeepsNext.next
    | with_reducible apply State.Keeps.ite | split | dsimp only)

theorem State.clusterIntent_keeps {z s : State} {fn p data : Nat} (hk : z.Keeps s) :
    z.Keeps (State.clusterIntent s fn p data) := by
  unfold State.clusterIntent
  repeat' (first
    | with_reducible assumption | with_reducible exact State.Keeps.refl _
    | with_reducible apply State.storeIntent_keeps | with_reducible apply State.Keeps.ite | split)

theorem execGraverClusterHostStateWrite_keeps {z s : State} (fn : Fin 65) (p : Fin 8) (data : Word) (hk : z.Keeps s) :
    z.KeepsNext (execGraverClusterHostStateWrite fn p data s) := by
  unfold execGraverClusterHostStateWrite
  repeat' (first
    | with_reducible assumption | with_reducible exact State.Keeps.refl _
    | with_reducible apply State.mmioWrite_keeps | with_reducible apply State.clusterIntent_keeps
    | with_reducible apply State.KeepsNext.next | (intro _ _) | dsimp only)

theorem State.debugHalt_keeps {z s : State} {fn p data : Nat} (hk : z.Keeps s) :
    z.Keeps (State.debugHalt s fn p data) := by
  unfold State.debugHalt
  repeat' (first
    | with_reducible assumption | with_reducible exact State.Keeps.refl _ | with_reducible apply State.wr_keeps
    | with_reducible apply State.holdPc_keeps | with_reducible apply forUpTo_keeps
    | with_reducible apply State.Keeps.ite | (intro _ _ _) | (intro _ _) | split | dsimp only)

theorem execGraverDebugHaltWrite_keeps {z s : State} (fn : Fin 65) (p : Fin 8) (data : Word) (hk : z.Keeps s) :
    z.KeepsNext (execGraverDebugHaltWrite fn p data s) := by
  unfold execGraverDebugHaltWrite
  repeat' (first
    | with_reducible assumption | with_reducible exact State.Keeps.refl _
    | with_reducible apply State.mmioWrite_keeps | with_reducible apply State.debugHalt_keeps
    | with_reducible apply State.KeepsNext.next | (intro _ _) | dsimp only)

theorem State.setLineErr_keeps {z s : State} {p line v : Nat} (hk : z.Keeps s) :
    z.Keeps (State.setLineErr s p line v) := by
  unfold State.setLineErr
  repeat' (first
    | with_reducible assumption | with_reducible exact State.Keeps.refl _
    | fail_if_no_progress (first
        | refine State.Keeps.upd ?_ rfl (fun c => { c with })
        | refine State.Keeps.upd ?_ rfl (by
          intro c; cases c; constructor <;> repeat' first
            | assumption | exact Sparse.wf_put (by assumption) | exact Sparse.wf_ins (by assumption)
            | exact Sparse.wf_del (by assumption) | exact Sparse.wf_filter (by assumption) | rfl
            | (dsimp only; split) | split)))

theorem State.flipLine_keeps {z s : State} {p line flips : Nat} (hk : z.Keeps s) :
    z.Keeps (State.flipLine s p line flips) := by
  unfold State.flipLine
  repeat' (first
    | with_reducible assumption | with_reducible exact State.Keeps.refl _
    | with_reducible apply State.setLineErr_keeps)

theorem State.zeroLine_keeps {z s : State} {p line c : Nat} (hk : z.Keeps s) :
    z.Keeps (State.zeroLine s p line c) := by
  unfold State.zeroLine
  repeat' (first
    | with_reducible assumption | with_reducible exact State.Keeps.refl _ | with_reducible apply State.modChan_keeps
    | with_reducible apply State.setLineErr_keeps | with_reducible apply State.Keeps.ite | (intro _ _) | split
    | dsimp only)

theorem State.storeLost_keeps {z s : State} {p line : Nat} (hk : z.Keeps s) : z.Keeps (State.storeLost s p line) := by
  unfold State.storeLost
  repeat' (first
    | with_reducible assumption | with_reducible exact State.Keeps.refl _ | with_reducible apply State.wr_keeps
    | with_reducible apply State.plateFault_keeps | with_reducible apply State.chFault_keeps
    | with_reducible apply State.zeroLine_keeps | with_reducible apply State.Keeps.ite | split | dsimp only)

theorem State.readLine_keeps {z s : State} {p line : Nat} {burnish : Bool} (hk : z.Keeps s) :
    z.Keeps (State.readLine s p line burnish) := by
  unfold State.readLine
  repeat' (first
    | with_reducible assumption | with_reducible exact State.Keeps.refl _ | with_reducible apply State.wr_keeps
    | with_reducible apply State.wrB_keeps | with_reducible apply State.bump_keeps
    | with_reducible apply State.raise_keeps | with_reducible apply State.setLineErr_keeps
    | with_reducible apply State.storeLost_keeps | with_reducible apply State.Keeps.ite | split | dsimp only)

theorem State.burnish_keeps {z s : State} {p flips : Nat} (hk : z.Keeps s) : z.Keeps (State.burnish s p flips) := by
  unfold State.burnish
  repeat' (first
    | with_reducible assumption | with_reducible exact State.Keeps.refl _ | with_reducible apply State.wr_keeps
    | with_reducible apply State.setPlate_keeps | with_reducible apply State.flipLine_keeps
    | with_reducible apply State.readLine_keeps | with_reducible apply State.Keeps.ite | split | dsimp only)

theorem execBurnishRead_keeps {z s : State} (p : Fin 8) (flips : BitVec 44) (hk : z.Keeps s) :
    z.KeepsNext (execBurnishRead p flips s) := by
  unfold execBurnishRead
  repeat' (first
    | with_reducible assumption | with_reducible exact State.Keeps.refl _ | with_reducible apply State.burnish_keeps
    | with_reducible apply State.KeepsNext.next | with_reducible apply State.Keeps.ite | split)

theorem State.burnishWrite_keeps {z s : State} {fn p data : Nat} (hk : z.Keeps s) :
    z.Keeps (State.burnishWrite s fn p data) := by
  unfold State.burnishWrite
  repeat' (first
    | with_reducible assumption | with_reducible exact State.Keeps.refl _ | with_reducible apply State.setPlate_keeps
    | with_reducible apply State.storeWord_keeps | with_reducible apply State.Keeps.ite | split | dsimp only)

theorem State.skipPackets_keeps {z s : State} {g : Nat} (hk : z.Keeps s) : z.Keeps (State.skipPackets s g) := by
  unfold State.skipPackets
  repeat' (first
    | with_reducible assumption | with_reducible exact State.Keeps.refl _ | with_reducible apply State.wr_keeps
    | with_reducible apply State.setQueue_keeps | with_reducible apply State.modMedia_keeps
    | with_reducible apply foldl_keeps | (intro _ _ _) | (intro _ _) | dsimp only)

theorem State.countOverrun_keeps {z s : State} {p v : Nat} (hk : z.Keeps s) : z.Keeps (State.countOverrun s p v) := by
  unfold State.countOverrun
  repeat' (first
    | with_reducible assumption | with_reducible exact State.Keeps.refl _ | with_reducible apply State.bumpSat_keeps
    | with_reducible apply State.setGraver_keeps | with_reducible apply State.raise_keeps
    | with_reducible apply State.Keeps.ite | split | dsimp only)

theorem State.overrunLimit_keeps {z s : State} {p v : Nat} (hk : z.Keeps s) : z.Keeps (State.overrunLimit s p v) := by
  unfold State.overrunLimit
  repeat' (first
    | with_reducible assumption | with_reducible exact State.Keeps.refl _
    | with_reducible apply State.plateFault_keeps | with_reducible apply State.Keeps.ite | split | dsimp only)

theorem State.overrun_keeps {z s : State} {p v g : Nat} (hk : z.Keeps s) : z.Keeps (State.overrun s p v g) := by
  unfold State.overrun
  repeat' (first
    | with_reducible assumption | with_reducible exact State.Keeps.refl _
    | with_reducible apply State.repeatFrame_keeps | with_reducible apply State.skipPackets_keeps
    | with_reducible apply State.countOverrun_keeps | with_reducible apply State.overrunLimit_keeps)

theorem execGraverOverrun_keeps {z s : State} (p : Fin 8) (v : Fin 4) (ch : Fin 256) (hk : z.Keeps s) :
    z.KeepsNext (execGraverOverrun p v ch s) := by
  unfold execGraverOverrun
  repeat' (first
    | with_reducible assumption | with_reducible exact State.Keeps.refl _ | with_reducible apply State.overrun_keeps
    | with_reducible apply State.KeepsNext.next | with_reducible apply State.Keeps.ite | split | dsimp only)

theorem State.overrunTick_keeps {z s : State} {p : Nat} (hk : z.Keeps s) : z.Keeps (State.overrunTick s p) := by
  unfold State.overrunTick
  repeat' (first
    | with_reducible assumption | with_reducible exact State.Keeps.refl _
    | with_reducible apply State.setGraver_keeps | with_reducible apply forUpTo_keeps
    | with_reducible apply State.Keeps.ite | (intro _ _ _) | (intro _ _) | split | dsimp only)

theorem State.releaseGravers_keeps {z s : State} {p : Nat} (hk : z.Keeps s) : z.Keeps (State.releaseGravers s p) := by
  unfold State.releaseGravers
  repeat' (first
    | with_reducible assumption | with_reducible exact State.Keeps.refl _ | with_reducible apply State.setPlate_keeps
    | with_reducible apply State.setPlateOp_keeps | with_reducible apply State.modPair_keeps
    | with_reducible apply State.sendRole_keeps | with_reducible apply State.wakeDone_keeps
    | with_reducible apply State.wakeHighway_keeps | with_reducible apply State.wakeHatch_keeps
    | with_reducible apply State.wakePort_keeps | with_reducible apply State.Keeps.ite | (intro _ _) | split
    | dsimp only)

theorem State.resumeGravers_keeps {z s : State} {p : Nat} (hk : z.Keeps s) : z.Keeps (State.resumeGravers s p) := by
  unfold State.resumeGravers
  repeat' (first
    | with_reducible assumption | with_reducible exact State.Keeps.refl _
    | with_reducible apply State.setGraver_keeps | with_reducible apply State.settleGraver_keeps
    | with_reducible apply State.jbRestart_keeps | with_reducible apply forEach_keeps
    | with_reducible apply forUpTo_keeps | with_reducible apply State.Keeps.ite | (intro _ _ _) | (intro _ _) | split
    | dsimp only)

theorem State.processChannel_keeps {z s before : State} {p v g : Nat} {idle : Bool} {f : FrameIn} (hk : z.Keeps s) :
    z.Keeps (State.processChannel s before p v g idle f) := by
  unfold State.processChannel
  repeat' (first
    | with_reducible assumption | with_reducible exact State.Keeps.refl _
    | with_reducible apply State.plateFault_keeps | with_reducible apply State.jbCommands_keeps
    | with_reducible apply State.ingress_keeps | with_reducible apply State.toneCadence_keeps
    | with_reducible apply State.channelFrame_keeps | with_reducible apply State.choose_keeps
    | with_reducible apply State.Keeps.ite | split | dsimp only)

theorem State.mediaTick_keeps {z s : State} {p : Nat} {media : List FrameIn} (hk : z.Keeps s) :
    z.Keeps (State.mediaTick s p media) := by
  unfold State.mediaTick
  repeat' (first
    | with_reducible assumption | with_reducible exact State.Keeps.refl _
    | with_reducible apply State.processChannel_keeps | with_reducible apply forEach_keeps | (intro _ _ _)
    | (intro _ _) | dsimp only)

theorem State.haltedOverruns_keeps {z s : State} {p : Nat} (hk : z.Keeps s) : z.Keeps (State.haltedOverruns s p) := by
  unfold State.haltedOverruns
  repeat' (first
    | with_reducible assumption | with_reducible exact State.Keeps.refl _
    | with_reducible apply State.repeatFrame_keeps | with_reducible apply State.countOverrun_keeps
    | with_reducible apply State.overrunLimit_keeps | with_reducible apply forEach_keeps
    | with_reducible apply State.Keeps.ite | (intro _ _ _) | (intro _ _) | split | dsimp only)

theorem State.placementCheck_keeps {z s : State} {p : Nat} (hk : z.Keeps s) : z.Keeps (State.placementCheck s p) := by
  unfold State.placementCheck
  repeat' (first
    | with_reducible assumption | with_reducible exact State.Keeps.refl _
    | with_reducible apply State.plateFault_keeps | with_reducible apply State.Keeps.ite | (intro _ _) | split
    | dsimp only)

theorem State.loadTick_keeps {z s : State} {p : Nat} (hk : z.Keeps s) : z.Keeps (State.loadTick s p) := by
  unfold State.loadTick
  repeat' (first
    | with_reducible assumption | with_reducible exact State.Keeps.refl _ | with_reducible apply State.wr_keeps
    | with_reducible apply State.drawNat_keeps | with_reducible apply forUpTo_keeps
    | with_reducible apply forUpTo_keeps_snd | with_reducible apply State.Keeps.ite | (intro _ _ _) | (intro _ _)
    | split | dsimp only)

theorem State.kernelFault_keeps {z s : State} {p : Nat} {f : KernelFault} (hk : z.Keeps s) : z.Keeps (s.kernelFault p f) := by
  cases f with
  | access => exact State.settleGraver_keeps (State.violate_keeps hk)
  | header => exact hk
  | patchRam => exact State.plateFault_keeps hk
  | store => exact State.readLine_keeps (State.flipLine_keeps hk)

theorem State.headerChanges_keeps {z s : State} {p : Nat} {fault : Option KernelFault} (hk : z.Keeps s) :
    z.Keeps (State.headerChanges s p fault) := by
  unfold State.headerChanges
  repeat' (first
    | with_reducible assumption | with_reducible exact State.Keeps.refl _ | with_reducible apply State.modChan_keeps
    | with_reducible apply State.Keeps.ite | (intro _ _) | split | dsimp only)

theorem State.stopTick_keeps {z s : State} {p : Nat} (hk : z.Keeps s) : z.Keeps (State.stopTick s p) := by
  unfold State.stopTick
  repeat' (first
    | with_reducible assumption | with_reducible exact State.Keeps.refl _
    | with_reducible apply State.stopChannel_keeps | with_reducible apply forEach_keeps
    | with_reducible apply State.Keeps.ite | (intro _ _ _) | (intro _ _) | split | dsimp only)

theorem State.tickStart_keeps {z s : State} {p : Nat} {media : List FrameIn} (hk : z.Keeps s) :
    z.Keeps (State.tickStart s p media) := by
  unfold State.tickStart
  repeat' (first
    | with_reducible assumption | with_reducible exact State.Keeps.refl _ | with_reducible apply State.setPlate_keeps
    | with_reducible apply State.vec2Tick_keeps | with_reducible apply State.highwayTick_keeps
    | with_reducible apply State.highwayLine_keeps | with_reducible apply State.serveTick_keeps
    | with_reducible apply State.idleTick_keeps | with_reducible apply State.demoteTick_keeps
    | with_reducible apply State.overrunTick_keeps | with_reducible apply State.releaseGravers_keeps
    | with_reducible apply State.resumeGravers_keeps | with_reducible apply State.stopTick_keeps
    | with_reducible apply State.Keeps.ite | split | dsimp only)

theorem State.tickFrame_keeps {z s : State} {p : Nat} {media : List FrameIn} {fault : Option KernelFault} (hk :
    z.Keeps s) : z.Keeps (State.tickFrame s p media fault) := by
  unfold State.tickFrame
  repeat' (first
    | with_reducible assumption | with_reducible exact State.Keeps.refl _
    | with_reducible apply State.commitHighway_keeps | with_reducible apply State.postTick_keeps
    | with_reducible apply State.pauseCheck_keeps | with_reducible apply State.choose_keeps
    | with_reducible apply State.proofTick_keeps | with_reducible apply State.wdKernel_keeps
    | with_reducible apply State.mediaTick_keeps | with_reducible apply State.haltedOverruns_keeps
    | with_reducible apply State.placementCheck_keeps | with_reducible apply State.loadTick_keeps
    | with_reducible apply State.kernelFault_keeps | with_reducible apply State.headerChanges_keeps
    | with_reducible apply State.Keeps.ite | split | dsimp only)

theorem execFrameTick_keeps {z s : State} (p : Fin 8) (media : List FrameIn) (fault : Option KernelFault) (hk :
    z.Keeps s) : z.KeepsNext (execFrameTick p media fault s) := by
  unfold execFrameTick
  repeat' (first
    | with_reducible assumption | with_reducible exact State.Keeps.refl _
    | with_reducible apply State.enterQuiet_keeps | with_reducible apply State.tickStart_keeps
    | with_reducible apply State.tickFrame_keeps | with_reducible apply State.KeepsNext.next
    | with_reducible apply State.Keeps.ite | split | dsimp only)

end Sys2Proof.Machine
end

