-- ==== Sys2Proof/Laws/KeepsAccess.lean ====
section
/-! SUPPORT. Every definition of register accesses that changes the state keeps what `State.Keeps` says, one law each. -/

set_option linter.unusedTactic false
set_option linter.unreachableTactic false

namespace Sys2Proof.Machine

/-! ### Machine/Title.lean -/

theorem State.eventEnableEffect_keeps {z s : State} {b : Nat} {data : Nat} (hk : z.Keeps s) :
    z.Keeps (State.eventEnableEffect s b data) := by
  unfold State.eventEnableEffect
  repeat' (first
    | with_reducible assumption | with_reducible exact State.Keeps.refl _
    | with_reducible apply State.enableEvents_keeps | split)

theorem execEventEnableWrite_keeps {z s : State} (fn : Fin 65) (sheet : Nat) (data : Word) (hk : z.Keeps s) :
    z.KeepsNext (execEventEnableWrite fn sheet data s) := by
  unfold execEventEnableWrite
  repeat' (first
    | with_reducible assumption | with_reducible exact State.Keeps.refl _
    | with_reducible apply State.mmioWrite_keeps | with_reducible apply State.eventEnableEffect_keeps
    | with_reducible apply State.KeepsNext.next | (intro _ _) | dsimp only)

theorem State.lockWriteEffect_keeps {z s : State} {fn b claim : Nat} {clr : Bool} (hk : z.Keeps s) :
    z.Keeps (State.lockWriteEffect s fn b claim clr) := by
  unfold State.lockWriteEffect
  repeat' (first
    | with_reducible assumption | with_reducible exact State.Keeps.refl _ | with_reducible apply State.wr_keeps
    | with_reducible apply State.acquire_keeps | with_reducible apply State.release_keeps
    | with_reducible apply State.violateWrite_keeps | with_reducible apply State.Keeps.ite | split | dsimp only)

theorem execLockClaim_keeps {z s : State} (fn : Fin 65) (sheet : Nat) (claim : BitVec 8) (hk : z.Keeps s) :
    z.KeepsNext (execLockClaim fn sheet claim s) := by
  unfold execLockClaim
  repeat' (first
    | with_reducible assumption | with_reducible exact State.Keeps.refl _
    | with_reducible apply State.mmioWrite_keeps | with_reducible apply State.lockWriteEffect_keeps
    | with_reducible apply State.KeepsNext.next | (intro _ _) | dsimp only)

theorem execLockRelease_keeps {z s : State} (fn : Fin 65) (sheet : Nat) (hk : z.Keeps s) :
    z.KeepsNext (execLockRelease fn sheet s) := by
  unfold execLockRelease
  repeat' (first
    | with_reducible assumption | with_reducible exact State.Keeps.refl _
    | with_reducible apply State.mmioWrite_keeps | with_reducible apply State.lockWriteEffect_keeps
    | with_reducible apply State.KeepsNext.next | (intro _ _) | dsimp only)

theorem execLockBrokenClear_keeps {z s : State} (fn : Fin 65) (sheet : Nat) (claim : BitVec 8) (hk : z.Keeps s) :
    z.KeepsNext (execLockBrokenClear fn sheet claim s) := by
  unfold execLockBrokenClear
  repeat' (first
    | with_reducible assumption | with_reducible exact State.Keeps.refl _
    | with_reducible apply State.mmioWrite_keeps | with_reducible apply State.lockWriteEffect_keeps
    | with_reducible apply State.KeepsNext.next | (intro _ _) | dsimp only)

theorem State.lockOverrunStep_keeps {z s : State} {b : Nat} (hk : z.Keeps s) :
    z.Keeps (State.lockOverrunStep s b) := by
  unfold State.lockOverrunStep
  repeat' (first
    | with_reducible assumption | with_reducible exact State.Keeps.refl _ | with_reducible apply State.violate_keeps
    | with_reducible apply State.Keeps.ite | split | dsimp only)

theorem execLockOverrun_keeps {z s : State} (sheet : Nat) (hk : z.Keeps s) :
    z.KeepsNext (execLockOverrun sheet s) := by
  unfold execLockOverrun
  repeat' (first
    | with_reducible assumption | with_reducible exact State.Keeps.refl _
    | with_reducible apply State.lockOverrunStep_keeps | with_reducible apply State.KeepsNext.next)

theorem execTraceSample_keeps {z s : State} (sheet : Nat) (hk : z.Keeps s) :
    z.KeepsNext (execTraceSample sheet s) := by
  unfold execTraceSample
  repeat' (first
    | with_reducible assumption | with_reducible exact State.Keeps.refl _
    | with_reducible apply State.traceStep_keeps | with_reducible apply State.KeepsNext.next | split)

theorem State.restorePath_keeps {z s : State} {k : SheetKind} {inst b op : Nat} (hk : z.Keeps s) :
    z.Keeps (State.restorePath s k inst b op) := by
  unfold State.restorePath
  repeat' (first
    | with_reducible assumption | with_reducible exact State.Keeps.refl _
    | with_reducible apply State.setPlateOp_keeps | with_reducible apply State.setOp_keeps
    | with_reducible apply State.Keeps.ite | split)

theorem State.acceptPathEffect_keeps {z s : State} {fn b : Nat} (hk : z.Keeps s) :
    z.Keeps (State.acceptPathEffect s fn b) := by
  unfold State.acceptPathEffect
  repeat' (first
    | with_reducible assumption | with_reducible exact State.Keeps.refl _
    | with_reducible apply State.storeIntent_keeps | with_reducible apply State.restorePath_keeps
    | with_reducible apply State.Keeps.ite | split)

theorem execAcceptPathWrite_keeps {z s : State} (fn : Fin 65) (sheet : Nat) (hk : z.Keeps s) :
    z.KeepsNext (execAcceptPathWrite fn sheet s) := by
  unfold execAcceptPathWrite
  repeat' (first
    | with_reducible assumption | with_reducible exact State.Keeps.refl _
    | with_reducible apply State.mmioWrite_keeps | with_reducible apply State.acceptPathEffect_keeps
    | with_reducible apply State.KeepsNext.next | (intro _ _) | dsimp only)

theorem State.compatPrevEffect_keeps {z s : State} {fn b : Nat} {prev : Bool} (hk : z.Keeps s) :
    z.Keeps (State.compatPrevEffect s fn b prev) := by
  unfold State.compatPrevEffect
  repeat' (first
    | with_reducible assumption | with_reducible exact State.Keeps.refl _ | with_reducible apply State.wrB_keeps
    | with_reducible apply State.Keeps.ite | split | dsimp only)

theorem execCompatPrevWrite_keeps {z s : State} (fn : Fin 65) (sheet : Nat) (prev : Bool) (hk : z.Keeps s) :
    z.KeepsNext (execCompatPrevWrite fn sheet prev s) := by
  unfold execCompatPrevWrite
  repeat' (first
    | with_reducible assumption | with_reducible exact State.Keeps.refl _
    | with_reducible apply State.mmioWrite_keeps | with_reducible apply State.compatPrevEffect_keeps
    | with_reducible apply State.KeepsNext.next | (intro _ _) | dsimp only)

/-! ### Machine/ConfigSpace.lean -/

theorem State.cfgRead_keeps {z s : State} {fn off : Nat} (hk : z.Keeps s) : z.Keeps (State.cfgRead s fn off) := by
  unfold State.cfgRead
  repeat' (first
    | with_reducible assumption | with_reducible exact State.Keeps.refl _ | with_reducible apply State.emit_keeps
    | with_reducible apply State.cfgRequest_keeps | with_reducible apply State.Keeps.ite | (intro _ _) | split
    | dsimp only)

theorem State.setPfWord_keeps {z s : State} {off mask data : Nat} (hk : z.Keeps s) :
    z.Keeps (State.setPfWord s off mask data) := by
  unfold State.setPfWord
  repeat' (first
    | with_reducible assumption | with_reducible exact State.Keeps.refl _
    | fail_if_no_progress (first
        | refine State.Keeps.upd ?_ rfl (fun c => { c with })
        | refine State.Keeps.upd ?_ rfl (by
          intro c; cases c; constructor <;> repeat' first
            | assumption | exact Sparse.wf_put (by assumption) | exact Sparse.wf_ins (by assumption)
            | exact Sparse.wf_del (by assumption) | exact Sparse.wf_filter (by assumption) | rfl
            | (dsimp only; split) | split)))

theorem State.devCtlWrite_keeps {z s : State} {data : Nat} (hk : z.Keeps s) : z.Keeps (State.devCtlWrite s data) := by
  unfold State.devCtlWrite
  repeat' (first
    | with_reducible assumption | with_reducible exact State.Keeps.refl _ | with_reducible apply State.setAer_keeps
    | with_reducible apply State.pfFlrBegin_keeps | with_reducible apply State.setPfWord_keeps
    | with_reducible apply State.Keeps.ite
    | fail_if_no_progress (first
        | refine State.Keeps.upd ?_ rfl (fun c => { c with })
        | refine State.Keeps.upd ?_ rfl (by
          intro c; cases c; constructor <;> repeat' first
            | assumption | exact Sparse.wf_put (by assumption) | exact Sparse.wf_ins (by assumption)
            | exact Sparse.wf_del (by assumption) | exact Sparse.wf_filter (by assumption) | rfl
            | (dsimp only; split) | split))
    | split | dsimp only)

theorem State.sriovWrite_keeps {z s : State} {data : Nat} (hk : z.Keeps s) : z.Keeps (State.sriovWrite s data) := by
  unfold State.sriovWrite
  repeat' (first
    | with_reducible assumption | with_reducible exact State.Keeps.refl _
    | with_reducible apply State.vfEnableOff_keeps | with_reducible apply State.vfEnableOn_keeps
    | with_reducible apply State.Keeps.ite
    | fail_if_no_progress (first
        | refine State.Keeps.upd ?_ rfl (fun c => { c with })
        | refine State.Keeps.upd ?_ rfl (by
          intro c; cases c; constructor <;> repeat' first
            | assumption | exact Sparse.wf_put (by assumption) | exact Sparse.wf_ins (by assumption)
            | exact Sparse.wf_del (by assumption) | exact Sparse.wf_filter (by assumption) | rfl
            | (dsimp only; split) | split))
    | split | dsimp only)

theorem State.aerWrite_keeps {z s : State} {fn off data : Nat} (hk : z.Keeps s) :
    z.Keeps (State.aerWrite s fn off data) := by
  unfold State.aerWrite
  repeat' (first
    | with_reducible assumption | with_reducible exact State.Keeps.refl _ | with_reducible apply State.setAer_keeps
    | with_reducible apply State.Keeps.ite | split | dsimp only)

theorem State.pfCfgWrite_keeps {z s : State} {off data : Nat} (hk : z.Keeps s) :
    z.Keeps (State.pfCfgWrite s off data) := by
  unfold State.pfCfgWrite
  repeat' (first
    | with_reducible assumption | with_reducible exact State.Keeps.refl _
    | with_reducible apply State.numVfsEffect_keeps | with_reducible apply State.sendPending_keeps
    | with_reducible apply State.toD3hot_keeps | with_reducible apply State.toD0_keeps
    | with_reducible apply State.setPfWord_keeps | with_reducible apply State.devCtlWrite_keeps
    | with_reducible apply State.sriovWrite_keeps | with_reducible apply State.aerWrite_keeps
    | with_reducible apply State.Keeps.ite
    | fail_if_no_progress (first
        | refine State.Keeps.upd ?_ rfl (fun c => { c with })
        | refine State.Keeps.upd ?_ rfl (by
          intro c; cases c; constructor <;> repeat' first
            | assumption | exact Sparse.wf_put (by assumption) | exact Sparse.wf_ins (by assumption)
            | exact Sparse.wf_del (by assumption) | exact Sparse.wf_filter (by assumption) | rfl
            | (dsimp only; split) | split))
    | split)

theorem State.vfCfgWrite_keeps {z s : State} {n off data : Nat} (hk : z.Keeps s) :
    z.Keeps (State.vfCfgWrite s n off data) := by
  unfold State.vfCfgWrite
  repeat' (first
    | with_reducible assumption | with_reducible exact State.Keeps.refl _ | with_reducible apply State.setAer_keeps
    | with_reducible apply State.flrBegin_keeps | with_reducible apply State.sendPending_keeps
    | with_reducible apply State.aerWrite_keeps | with_reducible apply State.Keeps.ite
    | fail_if_no_progress (first
        | refine State.Keeps.upd ?_ rfl (fun c => { c with })
        | refine State.Keeps.upd ?_ rfl (by
          intro c; cases c; constructor <;> repeat' first
            | assumption | exact Sparse.wf_put (by assumption) | exact Sparse.wf_ins (by assumption)
            | exact Sparse.wf_del (by assumption) | exact Sparse.wf_filter (by assumption) | rfl
            | (dsimp only; split) | split))
    | split | dsimp only)

theorem State.cfgWrite_keeps {z s : State} {fn off data : Nat} (hk : z.Keeps s) :
    z.Keeps (State.cfgWrite s fn off data) := by
  unfold State.cfgWrite
  repeat' (first
    | with_reducible assumption | with_reducible exact State.Keeps.refl _
    | with_reducible apply State.cfgRequest_keeps | with_reducible apply State.pfCfgWrite_keeps
    | with_reducible apply State.vfCfgWrite_keeps | with_reducible apply State.Keeps.ite | (intro _ _) | split
    | dsimp only)

theorem State.bar2Read_keeps {z s : State} {fn off : Nat} (hk : z.Keeps s) : z.Keeps (State.bar2Read s fn off) := by
  unfold State.bar2Read
  repeat' (first
    | with_reducible assumption | with_reducible exact State.Keeps.refl _
    | with_reducible apply State.refuseRequest_keeps | with_reducible apply State.countAccess_keeps
    | with_reducible apply State.answer_keeps | with_reducible apply State.Keeps.ite | split)

theorem State.msixEntryWrite_keeps {z s : State} {fn vec w data : Nat} (hk : z.Keeps s) :
    z.Keeps (State.msixEntryWrite s fn vec w data) := by
  unfold State.msixEntryWrite
  repeat' (first
    | with_reducible assumption | with_reducible exact State.Keeps.refl _
    | with_reducible apply State.setVector_keeps | with_reducible apply State.msixUnmaskEffect_keeps
    | with_reducible apply State.Keeps.ite | split | dsimp only)

theorem State.bar2Write_keeps {z s : State} {fn off data : Nat} (hk : z.Keeps s) :
    z.Keeps (State.bar2Write s fn off data) := by
  unfold State.bar2Write
  repeat' (first
    | with_reducible assumption | with_reducible exact State.Keeps.refl _
    | with_reducible apply State.countRepeat_keeps | with_reducible apply State.refuseRequest_keeps
    | with_reducible apply State.msixEntryWrite_keeps | with_reducible apply State.Keeps.ite | split)

/-! ### Machine/Views.lean -/

theorem State.wtrLeft_keeps {z s : State} (hk : z.Keeps s) : z.Keeps (State.wtrLeft s).2 := by
  unfold State.wtrLeft
  repeat' (first
    | with_reducible assumption | with_reducible exact State.Keeps.refl _
    | with_reducible apply State.drawRound_keeps | with_reducible apply foldl_keeps
    | with_reducible apply foldl_keeps_snd | with_reducible apply State.Keeps.ite | (intro _ _ _) | (intro _ _)
    | split | dsimp only)

theorem State.refStat_keeps {z s : State} (hk : z.Keeps s) : z.Keeps (State.refStat s).2 := by
  unfold State.refStat
  repeat' (first
    | with_reducible assumption | with_reducible exact State.Keeps.refl _ | with_reducible apply State.drawNat_keeps
    | with_reducible apply State.wtrLeft_keeps | dsimp only)

theorem State.restartPeaks_keeps {z s : State} {k : SheetKind} {inst off : Nat} (hk : z.Keeps s) :
    z.Keeps (State.restartPeaks s k inst off) := by
  unfold State.restartPeaks
  repeat' (first
    | with_reducible assumption | with_reducible exact State.Keeps.refl _ | with_reducible apply State.wr_keeps
    | with_reducible apply State.Keeps.ite | split)

theorem State.counterLowRead_keeps {z s : State} {b a : Nat} (hk : z.Keeps s) :
    z.Keeps (State.counterLowRead s b a).2 := by
  unfold State.counterLowRead
  repeat' (first
    | with_reducible assumption | with_reducible exact State.Keeps.refl _ | with_reducible apply State.Keeps.ite
    | fail_if_no_progress (first
        | refine State.Keeps.upd ?_ rfl (fun c => { c with })
        | refine State.Keeps.upd ?_ rfl (by
          intro c; cases c; constructor <;> repeat' first
            | assumption | exact Sparse.wf_put (by assumption) | exact Sparse.wf_ins (by assumption)
            | exact Sparse.wf_del (by assumption) | exact Sparse.wf_filter (by assumption) | rfl
            | (dsimp only; split) | split))
    | split | dsimp only)

theorem State.counterRead_keeps {z s : State} {b off : Nat} (hk : z.Keeps s) :
    z.Keeps (State.counterRead s b off).2 := by
  unfold State.counterRead
  repeat' (first
    | with_reducible assumption | with_reducible exact State.Keeps.refl _
    | with_reducible apply State.counterLowRead_keeps | with_reducible apply State.Keeps.ite | split | dsimp only)

theorem State.pcRead_keeps {z s : State} {p g : Nat} (hk : z.Keeps s) : z.Keeps (State.pcRead s p g).2 := by
  unfold State.pcRead
  repeat' (first
    | with_reducible assumption | with_reducible exact State.Keeps.refl _ | with_reducible apply State.graverPc_keeps
    | dsimp only)

theorem State.hpReadSpecial_keeps {z s : State} {off : Nat} {r : Nat × State} (hk : z.Keeps s)
    (hr : s.hpReadSpecial off = some r) : z.Keeps r.2 := by
  unfold State.hpReadSpecial at hr
  repeat' split at hr
  all_goals simp only [Option.some.injEq, reduceCtorEq] at hr
  all_goals subst hr
  all_goals repeat' (first
    | with_reducible exact hk
    | with_reducible apply State.pairLoEffect_keeps
    | with_reducible apply State.Keeps.ite)

theorem State.fzReadSpecial_keeps {z s : State} {off : Nat} {r : Nat × State} (hk : z.Keeps s)
    (hr : s.fzReadSpecial off = some r) : z.Keeps r.2 := by
  unfold State.fzReadSpecial at hr
  repeat' split at hr
  all_goals simp only [Option.some.injEq, reduceCtorEq] at hr
  all_goals subst hr
  all_goals repeat' (first
    | with_reducible exact hk
    | with_reducible apply State.recordReadEffect_keeps
    | with_reducible apply State.Keeps.ite)

theorem State.tbReadSpecial_keeps {z s : State} {off : Nat} {r : Nat × State} (hk : z.Keeps s)
    (hr : s.tbReadSpecial off = some r) : z.Keeps r.2 := by
  unfold State.tbReadSpecial at hr
  repeat' split at hr
  all_goals simp only [Option.some.injEq, reduceCtorEq] at hr
  all_goals subst hr
  all_goals repeat' (first
    | with_reducible exact hk
    | with_reducible apply State.siteCapture_keeps | with_reducible apply State.refStat_keeps
    | with_reducible apply State.Keeps.ite)

theorem State.specialRead_keeps {z s : State} {k : SheetKind} {inst b off : Nat} {r : Nat × State} (hk : z.Keeps s)
    (hr : s.specialRead k inst b off = some r) : z.Keeps r.2 := by
  unfold State.specialRead at hr
  split at hr
  · exact State.hpReadSpecial_keeps hk hr
  · exact State.fzReadSpecial_keeps hk hr
  · exact State.tbReadSpecial_keeps hk hr
  all_goals (repeat' (first | (cases hr; done) | split at hr))
  all_goals cases hr
  · exact State.plateCapture_keeps hk
  · exact State.mbSeqEffect_keeps hk
  · exact State.txtsPopEffect_keeps hk
  · exact State.pcRead_keeps hk
  · exact State.counterRead_keeps hk

theorem State.sheetRead_keeps {z s : State} {k : SheetKind} {inst b off : Nat} (hk : z.Keeps s) :
    z.Keeps (s.sheetRead k inst b off).2 := by
  unfold State.sheetRead
  split
  · exact hk
  · split
    · next r hr => exact State.specialRead_keeps hk hr
    · split
      · exact hk
      · exact State.restartPeaks_keeps (State.clearOnRead_keeps hk)

theorem State.queueDescRead_keeps {z s : State} {p q off : Nat} (hk : z.Keeps s) :
    z.Keeps (State.queueDescRead s p q off).2 := by
  unfold State.queueDescRead
  repeat' (first
    | with_reducible assumption | with_reducible exact State.Keeps.refl _ | with_reducible apply State.wr_keeps
    | with_reducible apply State.Keeps.ite | split | dsimp only)

theorem State.readEffect_keeps {z s : State} {fn a : Nat} (hk : z.Keeps s) : z.Keeps (State.readEffect s fn a).2 := by
  unfold State.readEffect
  repeat' (first
    | with_reducible assumption | with_reducible exact State.Keeps.refl _
    | with_reducible apply State.clearOnRead_keeps | with_reducible apply State.sheetRead_keeps
    | with_reducible apply State.queueDescRead_keeps | with_reducible apply State.Keeps.ite | split | dsimp only)

/-! ### Machine/RegisterAccess.lean -/

theorem State.intentWrite_keeps {z s : State} {fn : Nat} {k : SheetKind} {inst data : Nat} (hk : z.Keeps s) :
    z.Keeps (State.intentWrite s fn k inst data) := by
  unfold State.intentWrite
  repeat' (first
    | with_reducible assumption | with_reducible exact State.Keeps.refl _ | with_reducible apply State.tbIntent_keeps
    | with_reducible apply State.quietIntent_keeps | with_reducible apply State.hostPortIntent_keeps
    | with_reducible apply State.tenantIntent_keeps | with_reducible apply State.thIntent_keeps
    | with_reducible apply State.hsIntent_keeps | with_reducible apply State.macIntent_keeps
    | with_reducible apply State.dmaIntent_keeps | with_reducible apply State.feIntent_keeps
    | with_reducible apply State.tkIntent_keeps | with_reducible apply State.epkIntent_keeps
    | with_reducible apply State.plateIntent_keeps | with_reducible apply State.clusterIntent_keeps | split)

theorem State.titleWrite_keeps {z s : State} {fn : Nat} {k : SheetKind} {inst b off data : Nat} (hk : z.Keeps s) :
    z.Keeps (State.titleWrite s fn k inst b off data) := by
  unfold State.titleWrite
  repeat' (first
    | with_reducible assumption | with_reducible exact State.Keeps.refl _
    | with_reducible apply State.clearEvents_keeps | with_reducible apply State.eventEnableEffect_keeps
    | with_reducible apply State.lockWriteEffect_keeps | with_reducible apply State.acceptPathEffect_keeps
    | with_reducible apply State.compatPrevEffect_keeps | with_reducible apply State.intentWrite_keeps
    | with_reducible apply State.Keeps.ite | split)

theorem State.clearNotes_keeps {z s : State} {hi data : Nat} (hk : z.Keeps s) :
    z.Keeps (State.clearNotes s hi data) := by
  unfold State.clearNotes
  repeat' (first
    | with_reducible assumption | with_reducible exact State.Keeps.refl _
    | fail_if_no_progress (first
        | refine State.Keeps.upd ?_ rfl (fun c => { c with })
        | refine State.Keeps.upd ?_ rfl (by
          intro c; cases c; constructor <;> repeat' first
            | assumption | exact Sparse.wf_put (by assumption) | exact Sparse.wf_ins (by assumption)
            | exact Sparse.wf_del (by assumption) | exact Sparse.wf_filter (by assumption) | rfl
            | (dsimp only; split) | split)))

theorem State.selWrite_keeps {z s : State} {data : Nat} (hk : z.Keeps s) : z.Keeps (State.selWrite s data) := by
  unfold State.selWrite
  repeat' (first
    | with_reducible assumption | with_reducible exact State.Keeps.refl _ | with_reducible apply State.wr_keeps
    | with_reducible apply State.Keeps.ite | split)

theorem State.keyWrite_keeps {z s : State} {fn i data : Nat} (hk : z.Keeps s) :
    z.Keeps (State.keyWrite s fn i data) := by
  unfold State.keyWrite
  repeat' (first
    | with_reducible assumption | with_reducible exact State.Keeps.refl _
    | with_reducible apply State.storeField_keeps | with_reducible apply State.Keeps.ite | split)

theorem State.winSizeWrite_keeps {z s : State} {fn t data : Nat} (hk : z.Keeps s) :
    z.Keeps (State.winSizeWrite s fn t data) := by
  unfold State.winSizeWrite
  repeat' (first
    | with_reducible assumption | with_reducible exact State.Keeps.refl _
    | with_reducible apply State.storeField_keeps)

theorem State.tbPriWrite_keeps {z s : State} {fn data : Nat} (hk : z.Keeps s) :
    z.Keeps (State.tbPriWrite s fn data) := by
  unfold State.tbPriWrite
  repeat' (first
    | with_reducible assumption | with_reducible exact State.Keeps.refl _
    | with_reducible apply State.storeWord_keeps | with_reducible apply State.tbReselect_keeps
    | with_reducible apply State.dropFreq_keeps | with_reducible apply State.Keeps.ite | split | dsimp only)

theorem State.ptpCfgWrite_keeps {z s : State} {fn data : Nat} (hk : z.Keeps s) :
    z.Keeps (State.ptpCfgWrite s fn data) := by
  unfold State.ptpCfgWrite
  repeat' (first
    | with_reducible assumption | with_reducible exact State.Keeps.refl _
    | with_reducible apply State.storeWord_keeps | with_reducible apply State.setQualified_keeps
    | with_reducible apply State.Keeps.ite | split | dsimp only)

theorem State.freqCfgWrite_keeps {z s : State} {fn data : Nat} (hk : z.Keeps s) :
    z.Keeps (State.freqCfgWrite s fn data) := by
  unfold State.freqCfgWrite
  repeat' (first
    | with_reducible assumption | with_reducible exact State.Keeps.refl _
    | with_reducible apply State.storeWord_keeps | with_reducible apply State.dropFreq_keeps
    | with_reducible apply State.Keeps.ite | split | dsimp only)

theorem State.bankWrite_keeps {z s : State} {fn p off data : Nat} (hk : z.Keeps s) :
    z.Keeps (State.bankWrite s fn p off data) := by
  unfold State.bankWrite
  repeat' (first
    | with_reducible assumption | with_reducible exact State.Keeps.refl _
    | with_reducible apply State.storeWord_keeps | with_reducible apply State.Keeps.ite | split)

theorem State.hpWriteSpecial_keeps {z s r : State} {off data : Nat} (hk : z.Keeps s)
    (hr : s.hpWriteSpecial off data = some r) : z.Keeps r := by
  unfold State.hpWriteSpecial at hr
  repeat' split at hr
  all_goals simp only [Option.some.injEq, reduceCtorEq] at hr
  all_goals subst hr
  all_goals repeat' (first
    | with_reducible exact hk
    | with_reducible apply State.clearNotes_keeps
    | with_reducible apply State.Keeps.ite)

theorem State.crWriteSpecial_keeps {z s r : State} {fn off data : Nat} (hk : z.Keeps s)
    (hr : s.crWriteSpecial fn off data = some r) : z.Keeps r := by
  unfold State.crWriteSpecial at hr
  repeat' split at hr
  all_goals simp only [Option.some.injEq, reduceCtorEq] at hr
  all_goals subst hr
  all_goals repeat' (first
    | with_reducible exact hk
    | with_reducible apply State.treePreferEffect_keeps | with_reducible apply State.resetRequestEffect_keeps
    | with_reducible apply State.Keeps.ite)

theorem State.lcWriteSpecial_keeps {z s r : State} {fn off data : Nat} (hk : z.Keeps s)
    (hr : s.lcWriteSpecial fn off data = some r) : z.Keeps r := by
  unfold State.lcWriteSpecial at hr
  repeat' split at hr
  all_goals simp only [Option.some.injEq, reduceCtorEq] at hr
  all_goals subst hr
  all_goals repeat' (first
    | with_reducible exact hk
    | with_reducible apply State.reqWordEffect_keeps | with_reducible apply State.fuseCmdEffect_keeps
    | with_reducible apply State.rtmGoEffect_keeps | with_reducible apply State.rtmImageEffect_keeps
    | with_reducible apply State.keyWrite_keeps
    | with_reducible apply State.Keeps.ite)

theorem State.tbCtrlWrite_keeps {z s : State} {fn data : Nat} (hk : z.Keeps s) :
    z.Keeps (State.tbCtrlWrite s fn data) := by
  unfold State.tbCtrlWrite
  repeat' (first
    | with_reducible assumption | with_reducible exact State.Keeps.refl _
    | with_reducible apply State.storeWord_keeps | with_reducible apply State.ppsOutCut_keeps)

theorem State.tbWriteSpecial_keeps {z s r : State} {fn off data : Nat} (hk : z.Keeps s)
    (hr : s.tbWriteSpecial fn off data = some r) : z.Keeps r := by
  unfold State.tbWriteSpecial at hr
  repeat' split at hr
  all_goals simp only [Option.some.injEq, reduceCtorEq] at hr
  all_goals subst hr
  all_goals repeat' (first
    | with_reducible exact hk
    | with_reducible apply State.tbCtrlWrite_keeps | with_reducible apply State.tbPriWrite_keeps
    | with_reducible apply State.ptpCfgWrite_keeps | with_reducible apply State.ptpWrite_keeps
    | with_reducible apply State.freqCfgWrite_keeps | with_reducible apply State.extFreq_keeps
    | with_reducible apply State.extState_keeps | with_reducible apply State.timeSet_keeps
    | with_reducible apply State.todArm_keeps
    | with_reducible apply State.Keeps.ite)

theorem State.hmWriteSpecial_keeps {z s r : State} {fn off data : Nat} (hk : z.Keeps s)
    (hr : s.hmWriteSpecial fn off data = some r) : z.Keeps r := by
  unfold State.hmWriteSpecial at hr
  repeat' split at hr
  all_goals simp only [Option.some.injEq, reduceCtorEq] at hr
  all_goals subst hr
  all_goals repeat' (first
    | with_reducible exact hk
    | with_reducible apply State.modelCmd_keeps
    | with_reducible apply State.Keeps.ite)

theorem State.feWriteSpecial_keeps {z s r : State} {fn off data : Nat} (hk : z.Keeps s)
    (hr : s.feWriteSpecial fn off data = some r) : z.Keeps r := by
  unfold State.feWriteSpecial at hr
  repeat' split at hr
  all_goals simp only [Option.some.injEq, reduceCtorEq] at hr
  all_goals subst hr
  all_goals repeat' (first
    | with_reducible exact hk
    | with_reducible apply State.feCtrlEffect_keeps | with_reducible apply State.feLoadEffect_keeps
    | with_reducible apply State.efcManualEffect_keeps
    | with_reducible apply State.Keeps.ite)

theorem State.paWriteSpecial_keeps {z s r : State} {fn off data : Nat} (hk : z.Keeps s)
    (hr : s.paWriteSpecial fn off data = some r) : z.Keeps r := by
  unfold State.paWriteSpecial at hr
  repeat' split at hr
  all_goals simp only [Option.some.injEq, reduceCtorEq] at hr
  all_goals subst hr
  all_goals repeat' (first
    | with_reducible exact hk
    | with_reducible apply State.ceilingEffect_keeps
    | with_reducible apply State.Keeps.ite)

theorem State.qmWriteSpecial_keeps {z s r : State} {off data : Nat} (hk : z.Keeps s)
    (hr : s.qmWriteSpecial off data = some r) : z.Keeps r := by
  unfold State.qmWriteSpecial at hr
  repeat' split at hr
  all_goals simp only [Option.some.injEq, reduceCtorEq] at hr
  all_goals subst hr
  all_goals repeat' (first
    | with_reducible exact hk
    | with_reducible apply State.requestWake_keeps
    | with_reducible apply State.Keeps.ite)

theorem State.fzWriteSpecial_keeps {z s r : State} {fn off data : Nat} (hk : z.Keeps s)
    (hr : s.fzWriteSpecial fn off data = some r) : z.Keeps r := by
  unfold State.fzWriteSpecial at hr
  repeat' split at hr
  all_goals simp only [Option.some.injEq, reduceCtorEq] at hr
  all_goals subst hr
  all_goals repeat' (first
    | with_reducible exact hk
    | with_reducible apply State.selWrite_keeps | with_reducible apply State.unfreezeEffect_keeps
    | with_reducible apply State.Keeps.ite)

theorem State.ekWriteSpecial_keeps {z s r : State} {fn off data : Nat} (hk : z.Keeps s)
    (hr : s.ekWriteSpecial fn off data = some r) : z.Keeps r := by
  unfold State.ekWriteSpecial at hr
  repeat' split at hr
  all_goals simp only [Option.some.injEq, reduceCtorEq] at hr
  all_goals subst hr
  all_goals repeat' (first
    | with_reducible exact hk
    | with_reducible apply State.storeWord_keeps | with_reducible apply State.refreshLanes_keeps
    | with_reducible apply State.agentReset_keeps | with_reducible apply State.ekPlateEffect_keeps
    | with_reducible apply State.pairAccept_keeps
    | with_reducible apply State.Keeps.ite)

theorem State.wdWriteSpecial_keeps {z s r : State} {fn inst off data : Nat} (hk : z.Keeps s)
    (hr : s.wdWriteSpecial fn inst off data = some r) : z.Keeps r := by
  unfold State.wdWriteSpecial at hr
  repeat' split at hr
  all_goals simp only [Option.some.injEq, reduceCtorEq] at hr
  all_goals subst hr
  all_goals repeat' (first
    | with_reducible exact hk
    | with_reducible apply State.wdCtrlEffect_keeps | with_reducible apply State.wdConfigEffect_keeps
    | with_reducible apply State.wdKeyEffect_keeps | with_reducible apply State.wdService_keeps
    | with_reducible apply State.wdHoldEffect_keeps | with_reducible apply State.wdClearEvidence_keeps
    | with_reducible apply State.Keeps.ite)

theorem State.gcWriteSpecial_keeps {z s r : State} {fn inst off data : Nat} (hk : z.Keeps s)
    (hr : s.gcWriteSpecial fn inst off data = some r) : z.Keeps r := by
  unfold State.gcWriteSpecial at hr
  repeat' split at hr
  all_goals simp only [Option.some.injEq, reduceCtorEq] at hr
  all_goals subst hr
  all_goals repeat' (first
    | with_reducible exact hk
    | with_reducible apply State.debugHalt_keeps
    | with_reducible apply State.Keeps.ite)

theorem State.psWriteSpecial_keeps {z s r : State} {fn inst off data : Nat} (hk : z.Keeps s)
    (hr : s.psWriteSpecial fn inst off data = some r) : z.Keeps r := by
  unfold State.psWriteSpecial at hr
  repeat' split at hr
  all_goals simp only [Option.some.injEq, reduceCtorEq] at hr
  all_goals subst hr
  all_goals repeat' (first
    | with_reducible exact hk
    | with_reducible apply State.burnishWrite_keeps
    | with_reducible apply State.Keeps.ite)

theorem State.qgWriteSpecial_keeps {z s r : State} {fn inst off data : Nat} (hk : z.Keeps s)
    (hr : s.qgWriteSpecial fn inst off data = some r) : z.Keeps r := by
  unfold State.qgWriteSpecial at hr
  repeat' split at hr
  all_goals simp only [Option.some.injEq, reduceCtorEq] at hr
  all_goals subst hr
  all_goals repeat' (first
    | with_reducible exact hk
    | with_reducible apply State.storeWord_keeps | with_reducible apply State.graceEnd_keeps
    | with_reducible apply State.pauseCheck_keeps
    | with_reducible apply State.Keeps.ite)

theorem State.macWriteSpecial_keeps {z s r : State} {fn inst off data : Nat} (hk : z.Keeps s)
    (hr : s.macWriteSpecial fn inst off data = some r) : z.Keeps r := by
  unfold State.macWriteSpecial at hr
  repeat' split at hr
  all_goals simp only [Option.some.injEq, reduceCtorEq] at hr
  all_goals subst hr
  all_goals repeat' (first
    | with_reducible exact hk
    | with_reducible apply State.storeWord_keeps | with_reducible apply State.graceEnd_keeps
    | with_reducible apply State.pauseCheck_keeps
    | with_reducible apply State.Keeps.ite)

theorem State.hsWriteSpecial_keeps {z s r : State} {fn inst off data : Nat} (hk : z.Keeps s)
    (hr : s.hsWriteSpecial fn inst off data = some r) : z.Keeps r := by
  unfold State.hsWriteSpecial at hr
  repeat' split at hr
  all_goals simp only [Option.some.injEq, reduceCtorEq] at hr
  all_goals subst hr
  all_goals repeat' (first
    | with_reducible exact hk
    | with_reducible apply State.swapEffect_keeps | with_reducible apply State.bankWrite_keeps
    | with_reducible apply State.Keeps.ite)

theorem State.shWriteSpecial_keeps {z s r : State} {fn inst off data : Nat} (hk : z.Keeps s)
    (hr : s.shWriteSpecial fn inst off data = some r) : z.Keeps r := by
  unfold State.shWriteSpecial at hr
  repeat' split at hr
  all_goals simp only [Option.some.injEq, reduceCtorEq] at hr
  all_goals subst hr
  all_goals repeat' (first
    | with_reducible exact hk
    | with_reducible apply State.shaperReset_keeps
    | with_reducible apply State.Keeps.ite)

theorem State.tenWriteSpecial_keeps {z s r : State} {fn inst off data : Nat} (hk : z.Keeps s)
    (hr : s.tenWriteSpecial fn inst off data = some r) : z.Keeps r := by
  unfold State.tenWriteSpecial at hr
  repeat' split at hr
  all_goals simp only [Option.some.injEq, reduceCtorEq] at hr
  all_goals subst hr
  all_goals repeat' (first
    | with_reducible exact hk
    | with_reducible apply State.winSizeWrite_keeps | with_reducible apply State.dmaEnableEffect_keeps
    | with_reducible apply State.pfNoteEffect_keeps | with_reducible apply State.vfNoteEffect_keeps
    | with_reducible apply State.Keeps.ite)

theorem State.thWriteSpecial_keeps {z s r : State} {fn inst off data : Nat} (hk : z.Keeps s)
    (hr : s.thWriteSpecial fn inst off data = some r) : z.Keeps r := by
  unfold State.thWriteSpecial at hr
  repeat' split at hr
  all_goals simp only [Option.some.injEq, reduceCtorEq] at hr
  all_goals subst hr
  all_goals repeat' (first
    | with_reducible exact hk
    | with_reducible apply State.storeWord_keeps | with_reducible apply State.noteLoop_keeps
    | with_reducible apply State.Keeps.ite)

theorem State.specialWrite_keeps {z s v : State} {fn : Nat} {k : SheetKind} {inst off data : Nat} (hk : z.Keeps s)
    (hv : s.specialWrite fn k inst off data = some v) : z.Keeps v := by
  unfold State.specialWrite at hv
  split at hv
  · exact State.hpWriteSpecial_keeps hk hv
  · exact State.crWriteSpecial_keeps hk hv
  · exact State.lcWriteSpecial_keeps hk hv
  · exact State.tbWriteSpecial_keeps hk hv
  · exact State.hmWriteSpecial_keeps hk hv
  · exact State.feWriteSpecial_keeps hk hv
  · exact State.paWriteSpecial_keeps hk hv
  · exact State.qmWriteSpecial_keeps hk hv
  · exact State.fzWriteSpecial_keeps hk hv
  · exact State.ekWriteSpecial_keeps hk hv
  · exact State.wdWriteSpecial_keeps hk hv
  · exact State.gcWriteSpecial_keeps hk hv
  · exact State.psWriteSpecial_keeps hk hv
  · exact State.qgWriteSpecial_keeps hk hv
  · exact State.macWriteSpecial_keeps hk hv
  · exact State.hsWriteSpecial_keeps hk hv
  · exact State.shWriteSpecial_keeps hk hv
  · exact State.tenWriteSpecial_keeps hk hv
  · exact State.thWriteSpecial_keeps hk hv
  · cases hv

theorem State.sheetWrite_keeps {z s : State} {fn : Nat} {k : SheetKind} {inst b off data : Nat} (hk : z.Keeps s) :
    z.Keeps (s.sheetWrite fn k inst b off data) := by
  unfold State.sheetWrite
  refine State.Keeps.ite (State.titleWrite_keeps hk) ?_
  split
  · next t ht => exact State.specialWrite_keeps hk ht
  · exact State.storeWord_keeps hk

theorem State.descriptorWrite_keeps {z s : State} {fn g off data : Nat} (hk : z.Keeps s) :
    z.Keeps (State.descriptorWrite s fn g off data) := by
  unfold State.descriptorWrite
  repeat' (first
    | with_reducible assumption | with_reducible exact State.Keeps.refl _
    | with_reducible apply State.storeWord_keeps | with_reducible apply State.chEnable_keeps
    | with_reducible apply State.ecCommand_keeps | with_reducible apply State.jbCommand_keeps
    | with_reducible apply State.evSendEffect_keeps | with_reducible apply State.tgEffect_keeps
    | with_reducible apply State.chIntentEffect_keeps | with_reducible apply State.chOwnerEffect_keeps
    | with_reducible apply State.chAccept_keeps | with_reducible apply State.Keeps.ite | split)

theorem State.writeEffect_keeps {z s : State} {fn a data : Nat} (hk : z.Keeps s) :
    z.Keeps (State.writeEffect s fn a data) := by
  unfold State.writeEffect
  repeat' (first
    | with_reducible assumption | with_reducible exact State.Keeps.refl _
    | with_reducible apply State.queueOwnerEffect_keeps | with_reducible apply State.queueCtrlEffect_keeps
    | with_reducible apply State.hatchWrite_keeps | with_reducible apply State.pauseCheck_keeps
    | with_reducible apply State.sheetWrite_keeps | with_reducible apply State.descriptorWrite_keeps | split)

theorem State.bar0Write_keeps {z s : State} {fn off data : Nat} (hk : z.Keeps s) :
    z.Keeps (State.bar0Write s fn off data) := by
  unfold State.bar0Write
  repeat' (first
    | with_reducible assumption | with_reducible exact State.Keeps.refl _
    | with_reducible apply State.refuseRequest_keeps | with_reducible apply State.writeAt_keeps
    | with_reducible apply State.writeEffect_keeps | with_reducible apply State.Keeps.ite | (intro _ _) | split
    | dsimp only)

theorem State.bar0Read_keeps {z s : State} {fn off : Nat} (hk : z.Keeps s) : z.Keeps (State.bar0Read s fn off) := by
  unfold State.bar0Read
  repeat' (first
    | with_reducible assumption | with_reducible exact State.Keeps.refl _
    | with_reducible apply State.refuseRequest_keeps | with_reducible apply State.countAccess_keeps
    | with_reducible apply State.answer_keeps | with_reducible apply State.readAt_keeps
    | with_reducible apply State.readEffect_keeps | with_reducible apply State.Keeps.ite | (intro _ _) | split
    | dsimp only)

theorem execRegisterWrite_keeps {z s : State} (fn : Fin 65) (sp : Space) (off : Nat) (data : Word) (hk : z.Keeps s) :
    z.KeepsNext (execRegisterWrite fn sp off data s) := by
  unfold execRegisterWrite
  repeat' (first
    | with_reducible assumption | with_reducible exact State.Keeps.refl _ | with_reducible apply State.cfgWrite_keeps
    | with_reducible apply State.bar2Write_keeps | with_reducible apply State.bar0Write_keeps
    | with_reducible apply State.KeepsNext.next | with_reducible apply State.Keeps.ite | split)

theorem execReadClear_keeps {z s : State} (fn : Fin 65) (sp : Space) (off : Nat) (hk : z.Keeps s) :
    z.KeepsNext (execReadClear fn sp off s) := by
  unfold execReadClear
  repeat' (first
    | with_reducible assumption | with_reducible exact State.Keeps.refl _ | with_reducible apply State.cfgRead_keeps
    | with_reducible apply State.bar2Read_keeps | with_reducible apply State.bar0Read_keeps
    | with_reducible apply State.KeepsNext.next | with_reducible apply State.Keeps.ite | split)

theorem State.readTimesOut_keeps {z s : State} {fn off : Nat} (hk : z.Keeps s) :
    z.Keeps (State.readTimesOut s fn off) := by
  unfold State.readTimesOut
  repeat' (first
    | with_reducible assumption | with_reducible exact State.Keeps.refl _ | with_reducible apply State.bump_keeps
    | with_reducible apply State.drawBool_keeps | with_reducible apply State.raise_keeps
    | with_reducible apply State.countAccess_keeps | with_reducible apply State.answer_keeps
    | with_reducible apply State.readEffect_keeps | with_reducible apply State.Keeps.ite | split | dsimp only)

theorem execMmioReadTimeout_keeps {z s : State} (fn : Fin 65) (off : Nat) (hk : z.Keeps s) :
    z.KeepsNext (execMmioReadTimeout fn off s) := by
  unfold execMmioReadTimeout
  repeat' (first
    | with_reducible assumption | with_reducible exact State.Keeps.refl _
    | with_reducible apply State.readTimesOut_keeps | with_reducible apply State.KeepsNext.next
    | with_reducible apply State.Keeps.ite | split)

theorem execCounter48LowRead_keeps {z s : State} (fn : Fin 65) (off : Nat) (hk : z.Keeps s) :
    z.KeepsNext (execCounter48LowRead fn off s) := by
  unfold execCounter48LowRead
  repeat' (first
    | with_reducible assumption | with_reducible exact State.Keeps.refl _ | with_reducible apply State.bar0Read_keeps
    | with_reducible apply State.KeepsNext.next | with_reducible apply State.Keeps.ite | split)

theorem State.answerAll_keeps {z s : State} {fn w dws : Nat} (hk : z.Keeps s) :
    z.Keeps (State.answerAll s fn w dws) := by
  unfold State.answerAll
  repeat' (first
    | with_reducible assumption | with_reducible exact State.Keeps.refl _ | with_reducible apply State.answer_keeps
    | with_reducible apply forUpTo_keeps | (intro _ _ _) | (intro _ _) | dsimp only)

theorem State.misalignedHit_keeps {z s : State} {fn bar off : Nat} {be : BitVec 4} {dws : Nat} {write : Bool} {plate :
    Option Nat} (hk : z.Keeps s) : z.Keeps (State.misalignedHit s fn bar off be dws write plate) := by
  unfold State.misalignedHit
  repeat' (first
    | with_reducible assumption | with_reducible exact State.Keeps.refl _ | with_reducible apply State.violate_keeps
    | with_reducible apply State.countAccess_keeps | with_reducible apply State.answerAll_keeps
    | with_reducible apply State.Keeps.ite | split | dsimp only)

theorem State.misalignedBar0_keeps {z s : State} {fn off a : Nat} {be : BitVec 4} {dws : Nat} {write : Bool} (hk :
    z.Keeps s) : z.Keeps (State.misalignedBar0 s fn off a be dws write) := by
  unfold State.misalignedBar0
  repeat' (first
    | with_reducible assumption | with_reducible exact State.Keeps.refl _
    | with_reducible apply State.countAccess_keeps | with_reducible apply State.answerAll_keeps
    | with_reducible apply State.misalignedHit_keeps | with_reducible apply State.Keeps.ite | split | dsimp only)

theorem State.misalignedAccess_keeps {z s : State} {fn bar off : Nat} {be : BitVec 4} {dws : Nat} {write : Bool} (hk :
    z.Keeps s) : z.Keeps (State.misalignedAccess s fn bar off be dws write) := by
  unfold State.misalignedAccess
  repeat' (first
    | with_reducible assumption | with_reducible exact State.Keeps.refl _
    | with_reducible apply State.refuseRequest_keeps | with_reducible apply State.countAccess_keeps
    | with_reducible apply State.answerAll_keeps | with_reducible apply State.misalignedHit_keeps
    | with_reducible apply State.misalignedBar0_keeps | with_reducible apply State.Keeps.ite | split | dsimp only)

theorem execMisalignedMmioAccess_keeps {z s : State} (fn : Fin 65) (bar : Fin 6) (off : Nat) (be : BitVec 4) (dws :
    Nat) (write : Bool) (hk : z.Keeps s) : z.KeepsNext (execMisalignedMmioAccess fn bar off be dws write s) := by
  unfold execMisalignedMmioAccess
  repeat' (first
    | with_reducible assumption | with_reducible exact State.Keeps.refl _
    | with_reducible apply State.misalignedAccess_keeps | with_reducible apply State.KeepsNext.next)

end Sys2Proof.Machine
end

