-- ==== Sys2Proof/Laws/Exec.lean ====
section
/-! SUPPORT. What every command keeps: one law over the whole of `exec`. -/

namespace Sys2Proof.Machine

/-- Every command ends in a next state, which keeps what `State.Keeps` says. -/
theorem exec_keeps (s : State) : ∀ c, s.KeepsNext (exec c s)
  | .registerWrite fn sp off data =>
    show s.KeepsNext (execRegisterWrite fn sp off data s) from
      execRegisterWrite_keeps fn sp off data (.refl s)
  | .readClear fn sp off => show s.KeepsNext (execReadClear fn sp off s) from execReadClear_keeps fn sp off (.refl s)
  | .counter48LowRead fn off =>
    show s.KeepsNext (execCounter48LowRead fn off s) from
      execCounter48LowRead_keeps fn off (.refl s)
  | .misalignedMmioAccess fn bar off be dws write =>
    show s.KeepsNext (execMisalignedMmioAccess fn bar off be dws write s) from
      execMisalignedMmioAccess_keeps fn bar off be dws write (.refl s)
  | .eventEnableWrite fn sheet data =>
    show s.KeepsNext (execEventEnableWrite fn sheet data s) from
      execEventEnableWrite_keeps fn sheet data (.refl s)
  | .lockClaim fn sheet claim =>
    show s.KeepsNext (execLockClaim fn sheet claim s) from
      execLockClaim_keeps fn sheet claim (.refl s)
  | .lockRelease fn sheet =>
    show s.KeepsNext (execLockRelease fn sheet s) from
      execLockRelease_keeps fn sheet (.refl s)
  | .lockBrokenClear fn sheet claim =>
    show s.KeepsNext (execLockBrokenClear fn sheet claim s) from
      execLockBrokenClear_keeps fn sheet claim (.refl s)
  | .lockOverrun sheet => show s.KeepsNext (execLockOverrun sheet s) from execLockOverrun_keeps sheet (.refl s)
  | .traceSample sheet => show s.KeepsNext (execTraceSample sheet s) from execTraceSample_keeps sheet (.refl s)
  | .acceptPathWrite fn sheet =>
    show s.KeepsNext (execAcceptPathWrite fn sheet s) from
      execAcceptPathWrite_keeps fn sheet (.refl s)
  | .compatPrevWrite fn sheet prev =>
    show s.KeepsNext (execCompatPrevWrite fn sheet prev s) from
      execCompatPrevWrite_keeps fn sheet prev (.refl s)
  | .hostPortHostStateWrite fn data =>
    show s.KeepsNext (execHostPortHostStateWrite fn data s) from
      execHostPortHostStateWrite_keeps fn data (.refl s)
  | .tenantHostStateWrite fn t data =>
    show s.KeepsNext (execTenantHostStateWrite fn t data s) from
      execTenantHostStateWrite_keeps fn t data (.refl s)
  | .numvfsWrite n => show s.KeepsNext (execNumvfsWrite n s) from execNumvfsWrite_keeps n (.refl s)
  | .vfFlr t => show s.KeepsNext (execVfFlr t s) from execVfFlr_keeps t (.refl s)
  | .flrDrainComplete fn => show s.KeepsNext (execFlrDrainComplete fn s) from execFlrDrainComplete_keeps fn (.refl s)
  | .flrComplete fn => show s.KeepsNext (execFlrComplete fn s) from execFlrComplete_keeps fn (.refl s)
  | .dmaReadCompletion t idx off data =>
    show s.KeepsNext (execDmaReadCompletion t idx off data s) from
      execDmaReadCompletion_keeps t idx off data (.refl s)
  | .completionTimeout t idx =>
    show s.KeepsNext (execCompletionTimeout t idx s) from
      execCompletionTimeout_keeps t idx (.refl s)
  | .mmioReadTimeout fn off =>
    show s.KeepsNext (execMmioReadTimeout fn off s) from
      execMmioReadTimeout_keeps fn off (.refl s)
  | .poisonedTlpReceived tlp =>
    show s.KeepsNext (execPoisonedTlpReceived tlp s) from
      execPoisonedTlpReceived_keeps tlp (.refl s)
  | .ecrcError tlp => show s.KeepsNext (execEcrcError tlp s) from execEcrcError_keeps tlp (.refl s)
  | .malformedTlp overflow =>
    show s.KeepsNext (execMalformedTlp overflow s) from
      execMalformedTlp_keeps overflow (.refl s)
  | .linkTrained width speed =>
    show s.KeepsNext (execLinkTrained width speed s) from
      execLinkTrained_keeps width speed (.refl s)
  | .msixUnmask fn vec => show s.KeepsNext (execMsixUnmask fn vec s) from execMsixUnmask_keeps fn vec (.refl s)
  | .vfNoteWrite t note => show s.KeepsNext (execVfNoteWrite t note s) from execVfNoteWrite_keeps t note (.refl s)
  | .pfNoteWrite t note => show s.KeepsNext (execPfNoteWrite t note s) from execPfNoteWrite_keeps t note (.refl s)
  | .hpPairLoRead fn pair =>
    show s.KeepsNext (execHpPairLoRead fn pair s) from
      execHpPairLoRead_keeps fn pair (.refl s)
  | .treePreferWrite fn prefer =>
    show s.KeepsNext (execTreePreferWrite fn prefer s) from
      execTreePreferWrite_keeps fn prefer (.refl s)
  | .treeSourceReturn src =>
    show s.KeepsNext (execTreeSourceReturn src s) from
      execTreeSourceReturn_keeps src (.refl s)
  | .timebasePllSourceReturn src =>
    show s.KeepsNext (execTimebasePllSourceReturn src s) from
      execTimebasePllSourceReturn_keeps src (.refl s)
  | .platePllUnlock p ns => show s.KeepsNext (execPlatePllUnlock p ns s) from execPlatePllUnlock_keeps p ns (.refl s)
  | .porNRelease straps => show s.KeepsNext (execPorNRelease straps s) from execPorNRelease_keeps straps (.refl s)
  | .vddAonRecovered straps =>
    show s.KeepsNext (execVddAonRecovered straps s) from
      execVddAonRecovered_keeps straps (.refl s)
  | .chipResetRequest fn data =>
    show s.KeepsNext (execChipResetRequest fn data s) from
      execChipResetRequest_keeps fn data (.refl s)
  | .plateResetRequest fn data =>
    show s.KeepsNext (execPlateResetRequest fn data s) from
      execPlateResetRequest_keeps fn data (.refl s)
  | .chipResetRelease suppliesOk =>
    show s.KeepsNext (execChipResetRelease suppliesOk s) from
      execChipResetRelease_keeps suppliesOk (.refl s)
  | .plateWakeSlot p => show s.KeepsNext (execPlateWakeSlot p s) from execPlateWakeSlot_keeps p (.refl s)
  | .platePllLock p => show s.KeepsNext (execPlatePllLock p s) from execPlatePllLock_keeps p (.refl s)
  | .plateStoreInitDone p =>
    show s.KeepsNext (execPlateStoreInitDone p s) from
      execPlateStoreInitDone_keeps p (.refl s)
  | .plateKernelInitDone p fault =>
    show s.KeepsNext (execPlateKernelInitDone p fault s) from
      execPlateKernelInitDone_keeps p fault (.refl s)
  | .bootBundleReadDone readOk header payload =>
    show s.KeepsNext (execBootBundleReadDone readOk header payload s) from
      execBootBundleReadDone_keeps readOk header payload (.refl s)
  | .frameTick p media fault =>
    show s.KeepsNext (execFrameTick p media fault s) from
      execFrameTick_keeps p media fault (.refl s)
  | .graverOverrun p v ch =>
    show s.KeepsNext (execGraverOverrun p v ch s) from
      execGraverOverrun_keeps p v ch (.refl s)
  | .burnishRead p flips => show s.KeepsNext (execBurnishRead p flips s) from execBurnishRead_keeps p flips (.refl s)
  | .plateHostStateWrite fn p data =>
    show s.KeepsNext (execPlateHostStateWrite fn p data s) from
      execPlateHostStateWrite_keeps fn p data (.refl s)
  | .plateStopComplete p => show s.KeepsNext (execPlateStopComplete p s) from execPlateStopComplete_keeps p (.refl s)
  | .baseGrantRetry p => show s.KeepsNext (execBaseGrantRetry p s) from execBaseGrantRetry_keeps p (.refl s)
  | .graverClusterHostStateWrite fn p data =>
    show s.KeepsNext (execGraverClusterHostStateWrite fn p data s) from
      execGraverClusterHostStateWrite_keeps fn p data (.refl s)
  | .graverDebugHaltWrite fn p data =>
    show s.KeepsNext (execGraverDebugHaltWrite fn p data s) from
      execGraverDebugHaltWrite_keeps fn p data (.refl s)
  | .dmaHostStateWrite fn p data =>
    show s.KeepsNext (execDmaHostStateWrite fn p data s) from
      execDmaHostStateWrite_keeps fn p data (.refl s)
  | .dmaEnableWrite fn t data =>
    show s.KeepsNext (execDmaEnableWrite fn t data s) from
      execDmaEnableWrite_keeps fn t data (.refl s)
  | .dmaRingPoll t header =>
    show s.KeepsNext (execDmaRingPoll t header s) from
      execDmaRingPoll_keeps t header (.refl s)
  | .dmaDescriptorRead t desc =>
    show s.KeepsNext (execDmaDescriptorRead t desc s) from
      execDmaDescriptorRead_keeps t desc (.refl s)
  | .dmaOperationStart p => show s.KeepsNext (execDmaOperationStart p s) from execDmaOperationStart_keeps p (.refl s)
  | .dmaStatusWrite t => show s.KeepsNext (execDmaStatusWrite t s) from execDmaStatusWrite_keeps t (.refl s)
  | .chIntentWrite fn g data =>
    show s.KeepsNext (execChIntentWrite fn g data s) from
      execChIntentWrite_keeps fn g data (.refl s)
  | .chOwnerWrite fn g data =>
    show s.KeepsNext (execChOwnerWrite fn g data s) from
      execChOwnerWrite_keeps fn g data (.refl s)
  | .wakeTimeout g => show s.KeepsNext (execWakeTimeout g s) from execWakeTimeout_keeps g (.refl s)
  | .channelTraceSample g =>
    show s.KeepsNext (execChannelTraceSample g s) from
      execChannelTraceSample_keeps g (.refl s)
  | .channelAcceptPath fn g =>
    show s.KeepsNext (execChannelAcceptPath fn g s) from
      execChannelAcceptPath_keeps fn g (.refl s)
  | .ecFastTimeout g => show s.KeepsNext (execEcFastTimeout g s) from execEcFastTimeout_keeps g (.refl s)
  | .ecResetCoef fn g => show s.KeepsNext (execEcResetCoef fn g s) from execEcResetCoef_keeps fn g (.refl s)
  | .ecTdForce fn g => show s.KeepsNext (execEcTdForce fn g s) from execEcTdForce_keeps fn g (.refl s)
  | .ecTdRelease fn g => show s.KeepsNext (execEcTdRelease fn g s) from execEcTdRelease_keeps fn g (.refl s)
  | .ecFastRetry p => show s.KeepsNext (execEcFastRetry p s) from execEcFastRetry_keeps p (.refl s)
  | .doubleTalkHangEnd g => show s.KeepsNext (execDoubleTalkHangEnd g s) from execDoubleTalkHangEnd_keeps g (.refl s)
  | .toneDisablerRelease g =>
    show s.KeepsNext (execToneDisablerRelease g s) from
      execToneDisablerRelease_keeps g (.refl s)
  | .rtcpSend g => show s.KeepsNext (execRtcpSend g s) from execRtcpSend_keeps g (.refl s)
  | .eventSendWrite fn g data =>
    show s.KeepsNext (execEventSendWrite fn g data s) from
      execEventSendWrite_keeps fn g data (.refl s)
  | .eventUpdateSend g => show s.KeepsNext (execEventUpdateSend g s) from execEventUpdateSend_keeps g (.refl s)
  | .eventEndSend g => show s.KeepsNext (execEventEndSend g s) from execEventEndSend_keeps g (.refl s)
  | .eventPlayTimeout g => show s.KeepsNext (execEventPlayTimeout g s) from execEventPlayTimeout_keeps g (.refl s)
  | .toneGenCommand fn g data =>
    show s.KeepsNext (execToneGenCommand fn g data s) from
      execToneGenCommand_keeps fn g data (.refl s)
  | .jitterSecondUpdate g =>
    show s.KeepsNext (execJitterSecondUpdate g s) from
      execJitterSecondUpdate_keeps g (.refl s)
  | .jbResyncCommand fn g =>
    show s.KeepsNext (execJbResyncCommand fn g s) from
      execJbResyncCommand_keeps fn g (.refl s)
  | .dfResetCommand fn g => show s.KeepsNext (execDfResetCommand fn g s) from execDfResetCommand_keeps fn g (.refl s)
  | .queueFlush fn p q => show s.KeepsNext (execQueueFlush fn p q s) from execQueueFlush_keeps fn p q (.refl s)
  | .queueOwnerWrite fn p q data =>
    show s.KeepsNext (execQueueOwnerWrite fn p q data s) from
      execQueueOwnerWrite_keeps fn p q data (.refl s)
  | .steeringRelay p q => show s.KeepsNext (execSteeringRelay p q s) from execSteeringRelay_keeps p q (.refl s)
  | .macHostStateWrite fn p data =>
    show s.KeepsNext (execMacHostStateWrite fn p data s) from
      execMacHostStateWrite_keeps fn p data (.refl s)
  | .moduleAbsent p high => show s.KeepsNext (execModuleAbsent p high s) from execModuleAbsent_keeps p high (.refl s)
  | .moduleTxFault p high ns =>
    show s.KeepsNext (execModuleTxFault p high ns s) from
      execModuleTxFault_keeps p high ns (.refl s)
  | .linkUpDeclare p speed heldNs =>
    show s.KeepsNext (execLinkUpDeclare p speed heldNs s) from
      execLinkUpDeclare_keeps p speed heldNs (.refl s)
  | .linkDownDeclare p remote =>
    show s.KeepsNext (execLinkDownDeclare p remote s) from
      execLinkDownDeclare_keeps p remote (.refl s)
  | .flapGraceExpire p => show s.KeepsNext (execFlapGraceExpire p s) from execFlapGraceExpire_keeps p (.refl s)
  | .txEntryExpire p q => show s.KeepsNext (execTxEntryExpire p q s) from execTxEntryExpire_keeps p q (.refl s)
  | .frameFirstByte p head =>
    show s.KeepsNext (execFrameFirstByte p head s) from
      execFrameFirstByte_keeps p head (.refl s)
  | .frameReceived p bytes align fcsOk =>
    show s.KeepsNext (execFrameReceived p bytes align fcsOk s) from
      execFrameReceived_keeps p bytes align fcsOk (.refl s)
  | .pauseFrameReceived p quanta =>
    show s.KeepsNext (execPauseFrameReceived p quanta s) from
      execPauseFrameReceived_keeps p quanta (.refl s)
  | .pauseTimerExpire p => show s.KeepsNext (execPauseTimerExpire p s) from execPauseTimerExpire_keeps p (.refl s)
  | .pauseGuardExpire p => show s.KeepsNext (execPauseGuardExpire p s) from execPauseGuardExpire_keeps p (.refl s)
  | .pauseHoldEnd p => show s.KeepsNext (execPauseHoldEnd p s) from execPauseHoldEnd_keeps p (.refl s)
  | .pauseTxRepeat p => show s.KeepsNext (execPauseTxRepeat p s) from execPauseTxRepeat_keeps p (.refl s)
  | .transmitChoice p => show s.KeepsNext (execTransmitChoice p s) from execTransmitChoice_keeps p (.refl s)
  | .transmitEnd p => show s.KeepsNext (execTransmitEnd p s) from execTransmitEnd_keeps p (.refl s)
  | .txUnderrun p sent => show s.KeepsNext (execTxUnderrun p sent s) from execTxUnderrun_keeps p sent (.refl s)
  | .txtsPopRead fn p => show s.KeepsNext (execTxtsPopRead fn p s) from execTxtsPopRead_keeps fn p (.refl s)
  | .hatchHostStateWrite fn p data =>
    show s.KeepsNext (execHatchHostStateWrite fn p data s) from
      execHatchHostStateWrite_keeps fn p data (.refl s)
  | .hatchCycleBoundary p =>
    show s.KeepsNext (execHatchCycleBoundary p s) from
      execHatchCycleBoundary_keeps p (.refl s)
  | .gateEdge p => show s.KeepsNext (execGateEdge p s) from execGateEdge_keeps p (.refl s)
  | .refillTick p => show s.KeepsNext (execRefillTick p s) from execRefillTick_keeps p (.refl s)
  | .hatchSwapGo fn p bank =>
    show s.KeepsNext (execHatchSwapGo fn p bank s) from
      execHatchSwapGo_keeps fn p bank (.refl s)
  | .hatchSwapCancel fn p =>
    show s.KeepsNext (execHatchSwapCancel fn p s) from
      execHatchSwapCancel_keeps fn p (.refl s)
  | .shaperReset fn p data =>
    show s.KeepsNext (execShaperReset fn p data s) from
      execShaperReset_keeps fn p data (.refl s)
  | .tdmHostStateWrite fn p data =>
    show s.KeepsNext (execTdmHostStateWrite fn p data s) from
      execTdmHostStateWrite_keeps fn p data (.refl s)
  | .elasticSlip p rx deleted =>
    show s.KeepsNext (execElasticSlip p rx deleted s) from
      execElasticSlip_keeps p rx deleted (.refl s)
  | .tdmClockLost p => show s.KeepsNext (execTdmClockLost p s) from execTdmClockLost_keeps p (.refl s)
  | .tdmClockBack p => show s.KeepsNext (execTdmClockBack p s) from execTdmClockBack_keeps p (.refl s)
  | .tdmFsError p => show s.KeepsNext (execTdmFsError p s) from execTdmFsError_keeps p (.refl s)
  | .tdmRealign p => show s.KeepsNext (execTdmRealign p s) from execTdmRealign_keeps p (.refl s)
  | .timebaseHostStateWrite fn data =>
    show s.KeepsNext (execTimebaseHostStateWrite fn data s) from
      execTimebaseHostStateWrite_keeps fn data (.refl s)
  | .ppsEdge falling width =>
    show s.KeepsNext (execPpsEdge falling width s) from
      execPpsEdge_keeps falling width (.refl s)
  | .ptpSubmit fn data => show s.KeepsNext (execPtpSubmit fn data s) from execPtpSubmit_keeps fn data (.refl s)
  | .todNextArm fn data => show s.KeepsNext (execTodNextArm fn data s) from execTodNextArm_keeps fn data (.refl s)
  | .freqSourceSecond refIn samples =>
    show s.KeepsNext (execFreqSourceSecond refIn samples s) from
      execFreqSourceSecond_keeps refIn samples (.refl s)
  | .sourceQualifyTimer refIn =>
    show s.KeepsNext (execSourceQualifyTimer refIn s) from
      execSourceQualifyTimer_keeps refIn (.refl s)
  | .timeSetGo fn data => show s.KeepsNext (execTimeSetGo fn data s) from execTimeSetGo_keeps fn data (.refl s)
  | .extFreqWrite fn data =>
    show s.KeepsNext (execExtFreqWrite fn data s) from
      execExtFreqWrite_keeps fn data (.refl s)
  | .extStateWrite fn data =>
    show s.KeepsNext (execExtStateWrite fn data s) from
      execExtStateWrite_keeps fn data (.refl s)
  | .modelReset fn => show s.KeepsNext (execModelReset fn s) from execModelReset_keeps fn (.refl s)
  | .modelExport fn => show s.KeepsNext (execModelExport fn s) from execModelExport_keeps fn (.refl s)
  | .modelImport fn => show s.KeepsNext (execModelImport fn s) from execModelImport_keeps fn (.refl s)
  | .timeCaptureRead fn plate =>
    show s.KeepsNext (execTimeCaptureRead fn plate s) from
      execTimeCaptureRead_keeps fn plate (.refl s)
  | .broadcastWord bad => show s.KeepsNext (execBroadcastWord bad s) from execBroadcastWord_keeps bad (.refl s)
  | .broadcastLoss p => show s.KeepsNext (execBroadcastLoss p s) from execBroadcastLoss_keeps p (.refl s)
  | .broadcastBack p => show s.KeepsNext (execBroadcastBack p s) from execBroadcastBack_keeps p (.refl s)
  | .rejoinAdopt p => show s.KeepsNext (execRejoinAdopt p s) from execRejoinAdopt_keeps p (.refl s)
  | .timekeeperHostStateWrite fn p data =>
    show s.KeepsNext (execTimekeeperHostStateWrite fn p data s) from
      execTimekeeperHostStateWrite_keeps fn p data (.refl s)
  | .frontEndHostStateWrite fn data =>
    show s.KeepsNext (execFrontEndHostStateWrite fn data s) from
      execFrontEndHostStateWrite_keeps fn data (.refl s)
  | .frontEndReading th0 th1 die =>
    show s.KeepsNext (execFrontEndReading th0 th1 die s) from
      execFrontEndReading_keeps th0 th1 die (.refl s)
  | .frontEndRateSecond n =>
    show s.KeepsNext (execFrontEndRateSecond n s) from
      execFrontEndRateSecond_keeps n (.refl s)
  | .coefLoadWrite fn data =>
    show s.KeepsNext (execCoefLoadWrite fn data s) from
      execCoefLoadWrite_keeps fn data (.refl s)
  | .efcRefMeasure mv => show s.KeepsNext (execEfcRefMeasure mv s) from execEfcRefMeasure_keeps mv (.refl s)
  | .efcManualWrite fn data =>
    show s.KeepsNext (execEfcManualWrite fn data s) from
      execEfcManualWrite_keeps fn data (.refl s)
  | .islandInterval k current volts =>
    show s.KeepsNext (execIslandInterval k current volts s) from
      execIslandInterval_keeps k current volts (.refl s)
  | .islandWindowPublish arrives =>
    show s.KeepsNext (execIslandWindowPublish arrives s) from
      execIslandWindowPublish_keeps arrives (.refl s)
  | .islandTempReading k th die =>
    show s.KeepsNext (execIslandTempReading k th die s) from
      execIslandTempReading_keeps k th die (.refl s)
  | .fluxDriveLimit k limited =>
    show s.KeepsNext (execFluxDriveLimit k limited s) from
      execFluxDriveLimit_keeps k limited (.refl s)
  | .sealEnChange level => show s.KeepsNext (execSealEnChange level s) from execSealEnChange_keeps level (.refl s)
  | .uartReadParam item => show s.KeepsNext (execUartReadParam item s) from execUartReadParam_keeps item (.refl s)
  | .uartWriteParam item value nvmOk =>
    show s.KeepsNext (execUartWriteParam item value nvmOk s) from
      execUartWriteParam_keeps item value nvmOk (.refl s)
  | .uartCommit feed mask nvmOk =>
    show s.KeepsNext (execUartCommit feed mask nvmOk s) from
      execUartCommit_keeps feed mask nvmOk (.refl s)
  | .uartReadLog index => show s.KeepsNext (execUartReadLog index s) from execUartReadLog_keeps index (.refl s)
  | .uartStream feed period =>
    show s.KeepsNext (execUartStream feed period s) from
      execUartStream_keeps feed period (.refl s)
  | .streamFeedSend k => show s.KeepsNext (execStreamFeedSend k s) from execStreamFeedSend_keeps k (.refl s)
  | .uartTpSet feed direction constant enable =>
    show s.KeepsNext (execUartTpSet feed direction constant enable s) from
      execUartTpSet_keeps feed direction constant enable (.refl s)
  | .uartReadFeed feed => show s.KeepsNext (execUartReadFeed feed s) from execUartReadFeed_keeps feed (.refl s)
  | .uartBadFrame bytes gap =>
    show s.KeepsNext (execUartBadFrame bytes gap s) from
      execUartBadFrame_keeps bytes gap (.refl s)
  | .vddIslLow reset holdUp =>
    show s.KeepsNext (execVddIslLow reset holdUp s) from
      execVddIslLow_keeps reset holdUp (.refl s)
  | .mbSeqRead fn => show s.KeepsNext (execMbSeqRead fn s) from execMbSeqRead_keeps fn (.refl s)
  | .unfreezeWrite fn data =>
    show s.KeepsNext (execUnfreezeWrite fn data s) from
      execUnfreezeWrite_keeps fn data (.refl s)
  | .freezeRecordRead fn sel =>
    show s.KeepsNext (execFreezeRecordRead fn sel s) from
      execFreezeRecordRead_keeps fn sel (.refl s)
  | .drainOverrun master plate us =>
    show s.KeepsNext (execDrainOverrun master plate us s) from
      execDrainOverrun_keeps master plate us (.refl s)
  | .watchdogService fn c data =>
    show s.KeepsNext (execWatchdogService fn c data s) from
      execWatchdogService_keeps fn c data (.refl s)
  | .watchdogExpiry c => show s.KeepsNext (execWatchdogExpiry c s) from execWatchdogExpiry_keeps c (.refl s)
  | .watchdogStart fn c data =>
    show s.KeepsNext (execWatchdogStart fn c data s) from
      execWatchdogStart_keeps fn c data (.refl s)
  | .watchdogKeyWrite fn c data =>
    show s.KeepsNext (execWatchdogKeyWrite fn c data s) from
      execWatchdogKeyWrite_keeps fn c data (.refl s)
  | .watchdogDebugHold fn c =>
    show s.KeepsNext (execWatchdogDebugHold fn c s) from
      execWatchdogDebugHold_keeps fn c (.refl s)
  | .watchdogDebugRelease fn c =>
    show s.KeepsNext (execWatchdogDebugRelease fn c s) from
      execWatchdogDebugRelease_keeps fn c (.refl s)
  | .watchdogWindowOpen c =>
    show s.KeepsNext (execWatchdogWindowOpen c s) from
      execWatchdogWindowOpen_keeps c (.refl s)
  | .watchdogWakeLatch c => show s.KeepsNext (execWatchdogWakeLatch c s) from execWatchdogWakeLatch_keeps c (.refl s)
  | .evidenceClear fn c => show s.KeepsNext (execEvidenceClear fn c s) from execEvidenceClear_keeps fn c (.refl s)
  | .tickMeasure ns => show s.KeepsNext (execTickMeasure ns s) from execTickMeasure_keeps ns (.refl s)
  | .lifecycleRequestWord fn word =>
    show s.KeepsNext (execLifecycleRequestWord fn word s) from
      execLifecycleRequestWord_keeps fn word (.refl s)
  | .transitionFuseDone ok =>
    show s.KeepsNext (execTransitionFuseDone ok s) from
      execTransitionFuseDone_keeps ok (.refl s)
  | .rtmImageWrite fn w data =>
    show s.KeepsNext (execRtmImageWrite fn w data s) from
      execRtmImageWrite_keeps fn w data (.refl s)
  | .rtmVerifyGo fn => show s.KeepsNext (execRtmVerifyGo fn s) from execRtmVerifyGo_keeps fn (.refl s)
  | .fuseProgramCmd fn data =>
    show s.KeepsNext (execFuseProgramCmd fn data s) from
      execFuseProgramCmd_keeps fn data (.refl s)
  | .fuseProgramDone ok => show s.KeepsNext (execFuseProgramDone ok s) from execFuseProgramDone_keeps ok (.refl s)
  | .extest cells => show s.KeepsNext (execExtest cells s) from execExtest_keeps cells (.refl s)
  | .samplePreload balls cells =>
    show s.KeepsNext (execSamplePreload balls cells s) from
      execSamplePreload_keeps balls cells (.refl s)
  | .makerTest code => show s.KeepsNext (execMakerTest code s) from execMakerTest_keeps code (.refl s)
  | .debugHalt p g => show s.KeepsNext (execDebugHalt p g s) from execDebugHalt_keeps p g (.refl s)
  | .debugResume p g => show s.KeepsNext (execDebugResume p g s) from execDebugResume_keeps p g (.refl s)
  | .debugSingleStep p g => show s.KeepsNext (execDebugSingleStep p g s) from execDebugSingleStep_keeps p g (.refl s)
  | .debugAccess p g target write =>
    show s.KeepsNext (execDebugAccess p g target write s) from
      execDebugAccess_keeps p g target write (.refl s)
  | .laneGrantRetry epk port =>
    show s.KeepsNext (execLaneGrantRetry epk port s) from
      execLaneGrantRetry_keeps epk port (.refl s)
  | .quietLapse p => show s.KeepsNext (execQuietLapse p s) from execQuietLapse_keeps p (.refl s)
  | .quietHostStateWrite fn data =>
    show s.KeepsNext (execQuietHostStateWrite fn data s) from
      execQuietHostStateWrite_keeps fn data (.refl s)
  | .wakeRequestWrite fn data =>
    show s.KeepsNext (execWakeRequestWrite fn data s) from
      execWakeRequestWrite_keeps fn data (.refl s)
  | .siteInSample input pin =>
    show s.KeepsNext (execSiteInSample input pin s) from
      execSiteInSample_keeps input pin (.refl s)
  | .siteInStuck input => show s.KeepsNext (execSiteInStuck input s) from execSiteInStuck_keeps input (.refl s)
  | .proposeReceived h round tc =>
    show s.KeepsNext (execProposeReceived h round tc s) from
      execProposeReceived_keeps h round tc (.refl s)
  | .voteReceived h round yes =>
    show s.KeepsNext (execVoteReceived h round yes s) from
      execVoteReceived_keeps h round yes (.refl s)
  | .commitReceived h round =>
    show s.KeepsNext (execCommitReceived h round s) from
      execCommitReceived_keeps h round (.refl s)
  | .abortReceived h round stamp =>
    show s.KeepsNext (execAbortReceived h round stamp s) from
      execAbortReceived_keeps h round stamp (.refl s)
  | .epkHostStateWrite fn data =>
    show s.KeepsNext (execEpkHostStateWrite fn data s) from
      execEpkHostStateWrite_keeps fn data (.refl s)
  | .laneBlockLock l => show s.KeepsNext (execLaneBlockLock l s) from execLaneBlockLock_keeps l (.refl s)
  | .helloSend l => show s.KeepsNext (execHelloSend l s) from execHelloSend_keeps l (.refl s)
  | .helloReceived l peer device sid pairEn lane node =>
    show s.KeepsNext (execHelloReceived l peer device sid pairEn lane node s) from
      execHelloReceived_keeps l peer device sid pairEn lane node (.refl s)
  | .laneTrainTimeout l => show s.KeepsNext (execLaneTrainTimeout l s) from execLaneTrainTimeout_keeps l (.refl s)
  | .laneLoss l blockLock =>
    show s.KeepsNext (execLaneLoss l blockLock s) from
      execLaneLoss_keeps l blockLock (.refl s)
  | .epkBadFrame l => show s.KeepsNext (execEpkBadFrame l s) from execEpkBadFrame_keeps l (.refl s)
  | .markerReceived h time correction tbState source lastSeq held =>
    show s.KeepsNext (execMarkerReceived h time correction tbState source lastSeq held s) from
      execMarkerReceived_keeps h time correction tbState source lastSeq held (.refl s)
  | .roleReceived h subtype plates =>
    show s.KeepsNext (execRoleReceived h subtype plates s) from
      execRoleReceived_keeps h subtype plates (.refl s)
  | .takeover p => show s.KeepsNext (execTakeover p s) from execTakeover_keeps p (.refl s)
  | .impressionGrantRetry p =>
    show s.KeepsNext (execImpressionGrantRetry p s) from
      execImpressionGrantRetry_keeps p (.refl s)
  | .impressionEndReceived h number chans crcOk =>
    show s.KeepsNext (execImpressionEndReceived h number chans crcOk s) from
      execImpressionEndReceived_keeps h number chans crcOk (.refl s)
  | .proofEndReceived h number whole chans =>
    show s.KeepsNext (execProofEndReceived h number whole chans s) from
      execProofEndReceived_keeps h number whole chans (.refl s)
  | .ackReceived h number =>
    show s.KeepsNext (execAckReceived h number s) from
      execAckReceived_keeps h number (.refl s)
  | .switchoverRequest fn p data =>
    show s.KeepsNext (execSwitchoverRequest fn p data s) from
      execSwitchoverRequest_keeps fn p data (.refl s)
  | .pairTraceSample p => show s.KeepsNext (execPairTraceSample p s) from execPairTraceSample_keeps p (.refl s)
  | .pairAcceptPath fn p => show s.KeepsNext (execPairAcceptPath fn p s) from execPairAcceptPath_keeps fn p (.refl s)
  | .stkReportReceived h charge =>
    show s.KeepsNext (execStkReportReceived h charge s) from
      execStkReportReceived_keeps h charge (.refl s)
  | .stkLeaseReceived h leases =>
    show s.KeepsNext (execStkLeaseReceived h leases s) from
      execStkLeaseReceived_keeps h leases (.refl s)
  | .wakeFrameReceived h plates stamp =>
    show s.KeepsNext (execWakeFrameReceived h plates stamp s) from
      execWakeFrameReceived_keeps h plates stamp (.refl s)
  | .agentReset fn data => show s.KeepsNext (execAgentReset fn data s) from execAgentReset_keeps fn data (.refl s)
  | .referencePresent src at25 =>
    show s.KeepsNext (execReferencePresent src at25 s) from
      execReferencePresent_keeps src at25 (.refl s)
  | .referenceAbsent src => show s.KeepsNext (execReferenceAbsent src s) from execReferenceAbsent_keeps src (.refl s)
  | .masterFsStart p => show s.KeepsNext (execMasterFsStart p s) from execMasterFsStart_keeps p (.refl s)
  | .highwayFreqUpdate p ppb =>
    show s.KeepsNext (execHighwayFreqUpdate p ppb s) from
      execHighwayFreqUpdate_keeps p ppb (.refl s)
  | .nodeAbsent n => show s.KeepsNext (execNodeAbsent n s) from execNodeAbsent_keeps n (.refl s)
  | .vfEnableClear => show s.KeepsNext (execVfEnableClear s) from execVfEnableClear_keeps (.refl s)
  | .pfFlr => show s.KeepsNext (execPfFlr s) from execPfFlr_keeps (.refl s)
  | .d3hotEntry => show s.KeepsNext (execD3hotEntry s) from execD3hotEntry_keeps (.refl s)
  | .d0Return => show s.KeepsNext (execD0Return s) from execD0Return_keeps (.refl s)
  | .linkProtocolError error =>
    show s.KeepsNext (execLinkProtocolError error s) from
      execLinkProtocolError_keeps error (.refl s)
  | .linkDownReset => show s.KeepsNext (execLinkDownReset s) from execLinkDownReset_keeps (.refl s)
  | .hotResetReceived => show s.KeepsNext (execHotResetReceived s) from execHotResetReceived_keeps (.refl s)
  | .refclkLoss => show s.KeepsNext (execRefclkLoss s) from execRefclkLoss_keeps (.refl s)
  | .l1Exit => show s.KeepsNext (execL1Exit s) from execL1Exit_keeps (.refl s)
  | .treeSourceLoss => show s.KeepsNext (execTreeSourceLoss s) from execTreeSourceLoss_keeps (.refl s)
  | .timebasePllSourceLoss =>
    show s.KeepsNext (execTimebasePllSourceLoss s) from
      execTimebasePllSourceLoss_keeps (.refl s)
  | .timebasePllUnlock => show s.KeepsNext (execTimebasePllUnlock s) from execTimebasePllUnlock_keeps (.refl s)
  | .porNAssert => show s.KeepsNext (execPorNAssert s) from execPorNAssert_keeps (.refl s)
  | .vddAonLow => show s.KeepsNext (execVddAonLow s) from execVddAonLow_keeps (.refl s)
  | .supplyDip => show s.KeepsNext (execSupplyDip s) from execSupplyDip_keeps (.refl s)
  | .perstNAssert => show s.KeepsNext (execPerstNAssert s) from execPerstNAssert_keeps (.refl s)
  | .perstNRelease => show s.KeepsNext (execPerstNRelease s) from execPerstNRelease_keeps (.refl s)
  | .bootDone => show s.KeepsNext (execBootDone s) from execBootDone_keeps (.refl s)
  | .arbiterAnswer => show s.KeepsNext (execArbiterAnswer s) from execArbiterAnswer_keeps (.refl s)
  | .ppsPeriodFault => show s.KeepsNext (execPpsPeriodFault s) from execPpsPeriodFault_keeps (.refl s)
  | .ppsStuck => show s.KeepsNext (execPpsStuck s) from execPpsStuck_keeps (.refl s)
  | .ptpSourceTimeout => show s.KeepsNext (execPtpSourceTimeout s) from execPtpSourceTimeout_keeps (.refl s)
  | .wtrExpire => show s.KeepsNext (execWtrExpire s) from execWtrExpire_keeps (.refl s)
  | .efcUpdate osc => show s.KeepsNext (execEfcUpdate osc s) from execEfcUpdate_keeps osc (.refl s)
  | .slewProfileEnd => show s.KeepsNext (execSlewProfileEnd s) from execSlewProfileEnd_keeps (.refl s)
  | .holdoverEval => show s.KeepsNext (execHoldoverEval s) from execHoldoverEval_keeps (.refl s)
  | .extTimeout => show s.KeepsNext (execExtTimeout s) from execExtTimeout_keeps (.refl s)
  | .learnSample => show s.KeepsNext (execLearnSample s) from execLearnSample_keeps (.refl s)
  | .ppsOutPulse => show s.KeepsNext (execPpsOutPulse s) from execPpsOutPulse_keeps (.refl s)
  | .excitationFault => show s.KeepsNext (execExcitationFault s) from execExcitationFault_keeps (.refl s)
  | .excitationRetry => show s.KeepsNext (execExcitationRetry s) from execExcitationRetry_keeps (.refl s)
  | .testPulseEnd => show s.KeepsNext (execTestPulseEnd s) from execTestPulseEnd_keeps (.refl s)
  | .uartIdent => show s.KeepsNext (execUartIdent s) from execUartIdent_keeps (.refl s)
  | .islandCheckpoint => show s.KeepsNext (execIslandCheckpoint s) from execIslandCheckpoint_keeps (.refl s)
  | .islPorNAssert => show s.KeepsNext (execIslPorNAssert s) from execIslPorNAssert_keeps (.refl s)
  | .islandResetRelease => show s.KeepsNext (execIslandResetRelease s) from execIslandResetRelease_keeps (.refl s)
  | .crystalFail => show s.KeepsNext (execCrystalFail s) from execCrystalFail_keeps (.refl s)
  | .crystalResume => show s.KeepsNext (execCrystalResume s) from execCrystalResume_keeps (.refl s)
  | .islandLost => show s.KeepsNext (execIslandLost s) from execIslandLost_keeps (.refl s)
  | .pfFreezeExpire => show s.KeepsNext (execPfFreezeExpire s) from execPfFreezeExpire_keeps (.refl s)
  | .lifecycleRequestTimeout =>
    show s.KeepsNext (execLifecycleRequestTimeout s) from
      execLifecycleRequestTimeout_keeps (.refl s)
  | .rtmVerifyDone => show s.KeepsNext (execRtmVerifyDone s) from execRtmVerifyDone_keeps (.refl s)
  | .trstNAssert => show s.KeepsNext (execTrstNAssert s) from execTrstNAssert_keeps (.refl s)
  | .idcode => show s.KeepsNext (execIdcode s) from execIdcode_keeps (.refl s)
  | .clamp => show s.KeepsNext (execClamp s) from execClamp_keeps (.refl s)
  | .highz => show s.KeepsNext (execHighz s) from execHighz_keeps (.refl s)
  | .bypass => show s.KeepsNext (execBypass s) from execBypass_keeps (.refl s)
  | .debug => show s.KeepsNext (execDebug s) from execDebug_keeps (.refl s)
  | .votePropose => show s.KeepsNext (execVotePropose s) from execVotePropose_keeps (.refl s)
  | .voteWindowTimeout => show s.KeepsNext (execVoteWindowTimeout s) from execVoteWindowTimeout_keeps (.refl s)
  | .commitWaitTimeout => show s.KeepsNext (execCommitWaitTimeout s) from execCommitWaitTimeout_keeps (.refl s)
  | .commitInstant => show s.KeepsNext (execCommitInstant s) from execCommitInstant_keeps (.refl s)
  | .markerSend => show s.KeepsNext (execMarkerSend s) from execMarkerSend_keeps (.refl s)
  | .epkTimeSourceLoss => show s.KeepsNext (execEpkTimeSourceLoss s) from execEpkTimeSourceLoss_keeps (.refl s)
  | .partnerLoss => show s.KeepsNext (execPartnerLoss s) from execPartnerLoss_keeps (.refl s)
  | .roleSend => show s.KeepsNext (execRoleSend s) from execRoleSend_keeps (.refl s)
  | .stkReportSend => show s.KeepsNext (execStkReportSend s) from execStkReportSend_keeps (.refl s)
  | .aspmL1Entry => show s.KeepsNext (execAspmL1Entry s) from execAspmL1Entry_keeps (.refl s)
  | .vfEnableSet => show s.KeepsNext (execVfEnableSet s) from execVfEnableSet_keeps (.refl s)
  | .bootPllLock => show s.KeepsNext (execBootPllLock s) from execBootPllLock_keeps (.refl s)

end Sys2Proof.Machine
end

