-- ==== Sys2Proof/Laws/State.lean ====
section
/-! SUPPORT. What each elementary update of the state leaves in each field: one rewriting lemma per field and update, so
that no proof unfolds a record update. -/

namespace Sys2Proof.Machine

/-! ### wr -/

@[simp] theorem State.wr_pending (s : State) (b : Nat) (r : Row) (v i : Nat) : (s.wr b r v i).pending = s.pending := rfl
@[simp] theorem State.wr_now (s : State) (b : Nat) (r : Row) (v i : Nat) : (s.wr b r v i).now = s.now := rfl
@[simp] theorem State.wr_draws (s : State) (b : Nat) (r : Row) (v i : Nat) : (s.wr b r v i).draws = s.draws := rfl
@[simp] theorem State.wr_out (s : State) (b : Nat) (r : Row) (v i : Nat) : (s.wr b r v i).out = s.out := rfl
@[simp] theorem State.wr_pf (s : State) (b : Nat) (r : Row) (v i : Nat) : (s.wr b r v i).pf = s.pf := rfl
@[simp] theorem State.wr_vfs (s : State) (b : Nat) (r : Row) (v i : Nat) : (s.wr b r v i).vfs = s.vfs := rfl
@[simp] theorem State.wr_msix (s : State) (b : Nat) (r : Row) (v i : Nat) : (s.wr b r v i).msix = s.msix := rfl
@[simp] theorem State.wr_aer (s : State) (b : Nat) (r : Row) (v i : Nat) : (s.wr b r v i).aer = s.aer := rfl
@[simp] theorem State.wr_aers (s : State) (b : Nat) (r : Row) (v i : Nat) : (s.wr b r v i).aers = s.aers := rfl
@[simp] theorem State.wr_flrs (s : State) (b : Nat) (r : Row) (v i : Nat) : (s.wr b r v i).flrs = s.flrs := rfl
@[simp] theorem State.wr_pairHi (s : State) (b : Nat) (r : Row) (v i : Nat) : (s.wr b r v i).pairHi = s.pairHi := rfl
@[simp] theorem State.wr_notes (s : State) (b : Nat) (r : Row) (v i : Nat) : (s.wr b r v i).notes = s.notes := rfl
@[simp] theorem State.wr_lockSince (s : State) (b : Nat) (r : Row) (v i : Nat) : (s.wr b r v i).lockSince = s.lockSince := rfl
@[simp] theorem State.wr_agreeSince (s : State) (b : Nat) (r : Row) (v i : Nat) : (s.wr b r v i).agreeSince = s.agreeSince := rfl
@[simp] theorem State.wr_shadow48 (s : State) (b : Nat) (r : Row) (v i : Nat) : (s.wr b r v i).shadow48 = s.shadow48 := rfl
@[simp] theorem State.wr_cnt48 (s : State) (b : Nat) (r : Row) (v i : Nat) : (s.wr b r v i).cnt48 = s.cnt48 := rfl
@[simp] theorem State.wr_frozen (s : State) (b : Nat) (r : Row) (v i : Nat) : (s.wr b r v i).frozen = s.frozen := rfl
@[simp] theorem State.wr_frzCur (s : State) (b : Nat) (r : Row) (v i : Nat) : (s.wr b r v i).frzCur = s.frzCur := rfl
@[simp] theorem State.wr_frzHist (s : State) (b : Nat) (r : Row) (v i : Nat) : (s.wr b r v i).frzHist = s.frzHist := rfl
@[simp] theorem State.wr_frzSeq (s : State) (b : Nat) (r : Row) (v i : Nat) : (s.wr b r v i).frzSeq = s.frzSeq := rfl
@[simp] theorem State.wr_frzCap (s : State) (b : Nat) (r : Row) (v i : Nat) : (s.wr b r v i).frzCap = s.frzCap := rfl
@[simp] theorem State.wr_frzHistCap (s : State) (b : Nat) (r : Row) (v i : Nat) : (s.wr b r v i).frzHistCap = s.frzHistCap := rfl
@[simp] theorem State.wr_pfFrozenTick (s : State) (b : Nat) (r : Row) (v i : Nat) : (s.wr b r v i).pfFrozenTick = s.pfFrozenTick := rfl
@[simp] theorem State.wr_pins (s : State) (b : Nat) (r : Row) (v i : Nat) : (s.wr b r v i).pins = s.pins := rfl
@[simp] theorem State.wr_chip (s : State) (b : Nat) (r : Row) (v i : Nat) : (s.wr b r v i).chip = s.chip := rfl
@[simp] theorem State.wr_plates (s : State) (b : Nat) (r : Row) (v i : Nat) : (s.wr b r v i).plates = s.plates := rfl
@[simp] theorem State.wr_storeErrs (s : State) (b : Nat) (r : Row) (v i : Nat) : (s.wr b r v i).storeErrs = s.storeErrs := rfl
@[simp] theorem State.wr_gravers (s : State) (b : Nat) (r : Row) (v i : Nat) : (s.wr b r v i).gravers = s.gravers := rfl
@[simp] theorem State.wr_dmaTens (s : State) (b : Nat) (r : Row) (v i : Nat) : (s.wr b r v i).dmaTens = s.dmaTens := rfl
@[simp] theorem State.wr_dmaLast (s : State) (b : Nat) (r : Row) (v i : Nat) : (s.wr b r v i).dmaLast = s.dmaLast := rfl
@[simp] theorem State.wr_fusesBlown (s : State) (b : Nat) (r : Row) (v i : Nat) : (s.wr b r v i).fusesBlown = s.fusesBlown := rfl
@[simp] theorem State.wr_fuses (s : State) (b : Nat) (r : Row) (v i : Nat) : (s.wr b r v i).fuses = s.fuses := rfl
@[simp] theorem State.wr_life (s : State) (b : Nat) (r : Row) (v i : Nat) : (s.wr b r v i).life = s.life := rfl
@[simp] theorem State.wr_tap (s : State) (b : Nat) (r : Row) (v i : Nat) : (s.wr b r v i).tap = s.tap := rfl
@[simp] theorem State.wr_tb (s : State) (b : Nat) (r : Row) (v i : Nat) : (s.wr b r v i).tb = s.tb := rfl
@[simp] theorem State.wr_chans (s : State) (b : Nat) (r : Row) (v i : Nat) : (s.wr b r v i).chans = s.chans := rfl
@[simp] theorem State.wr_vec2 (s : State) (b : Nat) (r : Row) (v i : Nat) : (s.wr b r v i).vec2 = s.vec2 := rfl
@[simp] theorem State.wr_arb (s : State) (b : Nat) (r : Row) (v i : Nat) : (s.wr b r v i).arb = s.arb := rfl
@[simp] theorem State.wr_laneGrants (s : State) (b : Nat) (r : Row) (v i : Nat) : (s.wr b r v i).laneGrants = s.laneGrants := rfl
@[simp] theorem State.wr_epkGrants (s : State) (b : Nat) (r : Row) (v i : Nat) : (s.wr b r v i).epkGrants = s.epkGrants := rfl
@[simp] theorem State.wr_imprGrants (s : State) (b : Nat) (r : Row) (v i : Nat) : (s.wr b r v i).imprGrants = s.imprGrants := rfl
@[simp] theorem State.wr_quietReqs (s : State) (b : Nat) (r : Row) (v i : Nat) : (s.wr b r v i).quietReqs = s.quietReqs := rfl
@[simp] theorem State.wr_wakes (s : State) (b : Nat) (r : Row) (v i : Nat) : (s.wr b r v i).wakes = s.wakes := rfl
@[simp] theorem State.wr_quiet (s : State) (b : Nat) (r : Row) (v i : Nat) : (s.wr b r v i).quiet = s.quiet := rfl
@[simp] theorem State.wr_siteIns (s : State) (b : Nat) (r : Row) (v i : Nat) : (s.wr b r v i).siteIns = s.siteIns := rfl
@[simp] theorem State.wr_echos (s : State) (b : Nat) (r : Row) (v i : Nat) : (s.wr b r v i).echos = s.echos := rfl
@[simp] theorem State.wr_fastRetry (s : State) (b : Nat) (r : Row) (v i : Nat) : (s.wr b r v i).fastRetry = s.fastRetry := rfl
@[simp] theorem State.wr_medias (s : State) (b : Nat) (r : Row) (v i : Nat) : (s.wr b r v i).medias = s.medias := rfl
@[simp] theorem State.wr_jitters (s : State) (b : Nat) (r : Row) (v i : Nat) : (s.wr b r v i).jitters = s.jitters := rfl
@[simp] theorem State.wr_sigs (s : State) (b : Nat) (r : Row) (v i : Nat) : (s.wr b r v i).sigs = s.sigs := rfl
@[simp] theorem State.wr_queues (s : State) (b : Nat) (r : Row) (v i : Nat) : (s.wr b r v i).queues = s.queues := rfl
@[simp] theorem State.wr_ports (s : State) (b : Nat) (r : Row) (v i : Nat) : (s.wr b r v i).ports = s.ports := rfl
@[simp] theorem State.wr_hatches (s : State) (b : Nat) (r : Row) (v i : Nat) : (s.wr b r v i).hatches = s.hatches := rfl
@[simp] theorem State.wr_hatchMem (s : State) (b : Nat) (r : Row) (v i : Nat) : (s.wr b r v i).hatchMem = s.hatchMem := rfl
@[simp] theorem State.wr_shapers (s : State) (b : Nat) (r : Row) (v i : Nat) : (s.wr b r v i).shapers = s.shapers := rfl
@[simp] theorem State.wr_shRates (s : State) (b : Nat) (r : Row) (v i : Nat) : (s.wr b r v i).shRates = s.shRates := rfl
@[simp] theorem State.wr_highways (s : State) (b : Nat) (r : Row) (v i : Nat) : (s.wr b r v i).highways = s.highways := rfl
@[simp] theorem State.wr_tks (s : State) (b : Nat) (r : Row) (v i : Nat) : (s.wr b r v i).tks = s.tks := rfl
@[simp] theorem State.wr_hold (s : State) (b : Nat) (r : Row) (v i : Nat) : (s.wr b r v i).hold = s.hold := rfl
@[simp] theorem State.wr_therms (s : State) (b : Nat) (r : Row) (v i : Nat) : (s.wr b r v i).therms = s.therms := rfl
@[simp] theorem State.wr_feAt (s : State) (b : Nat) (r : Row) (v i : Nat) : (s.wr b r v i).feAt = s.feAt := rfl
@[simp] theorem State.wr_convs (s : State) (b : Nat) (r : Row) (v i : Nat) : (s.wr b r v i).convs = s.convs := rfl
@[simp] theorem State.wr_ptCaps (s : State) (b : Nat) (r : Row) (v i : Nat) : (s.wr b r v i).ptCaps = s.ptCaps := rfl
@[simp] theorem State.wr_island (s : State) (b : Nat) (r : Row) (v i : Nat) : (s.wr b r v i).island = s.island := rfl
@[simp] theorem State.wr_mailbox (s : State) (b : Nat) (r : Row) (v i : Nat) : (s.wr b r v i).mailbox = s.mailbox := rfl
@[simp] theorem State.wr_wds (s : State) (b : Nat) (r : Row) (v i : Nat) : (s.wr b r v i).wds = s.wds := rfl
@[simp] theorem State.wr_ekLanes (s : State) (b : Nat) (r : Row) (v i : Nat) : (s.wr b r v i).ekLanes = s.ekLanes := rfl
@[simp] theorem State.wr_pairs (s : State) (b : Nat) (r : Row) (v i : Nat) : (s.wr b r v i).pairs = s.pairs := rfl
@[simp] theorem State.wr_mirrors (s : State) (b : Nat) (r : Row) (v i : Nat) : (s.wr b r v i).mirrors = s.mirrors := rfl
@[simp] theorem State.wr_epk (s : State) (b : Nat) (r : Row) (v i : Nat) : (s.wr b r v i).epk = s.epk := rfl

/-! ### emit -/

@[simp] theorem State.emit_pending (s : State) (o : Output) : (s.emit o).pending = s.pending := rfl
@[simp] theorem State.emit_now (s : State) (o : Output) : (s.emit o).now = s.now := rfl
@[simp] theorem State.emit_draws (s : State) (o : Output) : (s.emit o).draws = s.draws := rfl
@[simp] theorem State.emit_out (s : State) (o : Output) : (s.emit o).out = o :: s.outBefore o := rfl
@[simp] theorem State.emit_regs (s : State) (o : Output) : (s.emit o).regs = s.regs := rfl
@[simp] theorem State.emit_pf (s : State) (o : Output) : (s.emit o).pf = s.pf := rfl
@[simp] theorem State.emit_vfs (s : State) (o : Output) : (s.emit o).vfs = s.vfs := rfl
@[simp] theorem State.emit_msix (s : State) (o : Output) : (s.emit o).msix = s.msix := rfl
@[simp] theorem State.emit_aer (s : State) (o : Output) : (s.emit o).aer = s.aer := rfl
@[simp] theorem State.emit_aers (s : State) (o : Output) : (s.emit o).aers = s.aers := rfl
@[simp] theorem State.emit_flrs (s : State) (o : Output) : (s.emit o).flrs = s.flrs := rfl
@[simp] theorem State.emit_pairHi (s : State) (o : Output) : (s.emit o).pairHi = s.pairHi := rfl
@[simp] theorem State.emit_notes (s : State) (o : Output) : (s.emit o).notes = s.notes := rfl
@[simp] theorem State.emit_lockSince (s : State) (o : Output) : (s.emit o).lockSince = s.lockSince := rfl
@[simp] theorem State.emit_agreeSince (s : State) (o : Output) : (s.emit o).agreeSince = s.agreeSince := rfl
@[simp] theorem State.emit_shadow48 (s : State) (o : Output) : (s.emit o).shadow48 = s.shadow48 := rfl
@[simp] theorem State.emit_cnt48 (s : State) (o : Output) : (s.emit o).cnt48 = s.cnt48 := rfl
@[simp] theorem State.emit_frozen (s : State) (o : Output) : (s.emit o).frozen = s.frozen := rfl
@[simp] theorem State.emit_frzCur (s : State) (o : Output) : (s.emit o).frzCur = s.frzCur := rfl
@[simp] theorem State.emit_frzHist (s : State) (o : Output) : (s.emit o).frzHist = s.frzHist := rfl
@[simp] theorem State.emit_frzSeq (s : State) (o : Output) : (s.emit o).frzSeq = s.frzSeq := rfl
@[simp] theorem State.emit_frzCap (s : State) (o : Output) : (s.emit o).frzCap = s.frzCap := rfl
@[simp] theorem State.emit_frzHistCap (s : State) (o : Output) : (s.emit o).frzHistCap = s.frzHistCap := rfl
@[simp] theorem State.emit_pfFrozenTick (s : State) (o : Output) : (s.emit o).pfFrozenTick = s.pfFrozenTick := rfl
@[simp] theorem State.emit_pins (s : State) (o : Output) : (s.emit o).pins = s.pins := rfl
@[simp] theorem State.emit_chip (s : State) (o : Output) : (s.emit o).chip = s.chip := rfl
@[simp] theorem State.emit_plates (s : State) (o : Output) : (s.emit o).plates = s.plates := rfl
@[simp] theorem State.emit_storeErrs (s : State) (o : Output) : (s.emit o).storeErrs = s.storeErrs := rfl
@[simp] theorem State.emit_gravers (s : State) (o : Output) : (s.emit o).gravers = s.gravers := rfl
@[simp] theorem State.emit_dmaTens (s : State) (o : Output) : (s.emit o).dmaTens = s.dmaTens := rfl
@[simp] theorem State.emit_dmaLast (s : State) (o : Output) : (s.emit o).dmaLast = s.dmaLast := rfl
@[simp] theorem State.emit_fusesBlown (s : State) (o : Output) : (s.emit o).fusesBlown = s.fusesBlown := rfl
@[simp] theorem State.emit_fuses (s : State) (o : Output) : (s.emit o).fuses = s.fuses := rfl
@[simp] theorem State.emit_life (s : State) (o : Output) : (s.emit o).life = s.life := rfl
@[simp] theorem State.emit_tap (s : State) (o : Output) : (s.emit o).tap = s.tap := rfl
@[simp] theorem State.emit_tb (s : State) (o : Output) : (s.emit o).tb = s.tb := rfl
@[simp] theorem State.emit_chans (s : State) (o : Output) : (s.emit o).chans = s.chans := rfl
@[simp] theorem State.emit_vec2 (s : State) (o : Output) : (s.emit o).vec2 = s.vec2 := rfl
@[simp] theorem State.emit_arb (s : State) (o : Output) : (s.emit o).arb = s.arb := rfl
@[simp] theorem State.emit_laneGrants (s : State) (o : Output) : (s.emit o).laneGrants = s.laneGrants := rfl
@[simp] theorem State.emit_epkGrants (s : State) (o : Output) : (s.emit o).epkGrants = s.epkGrants := rfl
@[simp] theorem State.emit_imprGrants (s : State) (o : Output) : (s.emit o).imprGrants = s.imprGrants := rfl
@[simp] theorem State.emit_quietReqs (s : State) (o : Output) : (s.emit o).quietReqs = s.quietReqs := rfl
@[simp] theorem State.emit_wakes (s : State) (o : Output) : (s.emit o).wakes = s.wakes := rfl
@[simp] theorem State.emit_quiet (s : State) (o : Output) : (s.emit o).quiet = s.quiet := rfl
@[simp] theorem State.emit_siteIns (s : State) (o : Output) : (s.emit o).siteIns = s.siteIns := rfl
@[simp] theorem State.emit_echos (s : State) (o : Output) : (s.emit o).echos = s.echos := rfl
@[simp] theorem State.emit_fastRetry (s : State) (o : Output) : (s.emit o).fastRetry = s.fastRetry := rfl
@[simp] theorem State.emit_medias (s : State) (o : Output) : (s.emit o).medias = s.medias := rfl
@[simp] theorem State.emit_jitters (s : State) (o : Output) : (s.emit o).jitters = s.jitters := rfl
@[simp] theorem State.emit_sigs (s : State) (o : Output) : (s.emit o).sigs = s.sigs := rfl
@[simp] theorem State.emit_queues (s : State) (o : Output) : (s.emit o).queues = s.queues := rfl
@[simp] theorem State.emit_ports (s : State) (o : Output) : (s.emit o).ports = s.ports := rfl
@[simp] theorem State.emit_hatches (s : State) (o : Output) : (s.emit o).hatches = s.hatches := rfl
@[simp] theorem State.emit_hatchMem (s : State) (o : Output) : (s.emit o).hatchMem = s.hatchMem := rfl
@[simp] theorem State.emit_shapers (s : State) (o : Output) : (s.emit o).shapers = s.shapers := rfl
@[simp] theorem State.emit_shRates (s : State) (o : Output) : (s.emit o).shRates = s.shRates := rfl
@[simp] theorem State.emit_highways (s : State) (o : Output) : (s.emit o).highways = s.highways := rfl
@[simp] theorem State.emit_tks (s : State) (o : Output) : (s.emit o).tks = s.tks := rfl
@[simp] theorem State.emit_hold (s : State) (o : Output) : (s.emit o).hold = s.hold := rfl
@[simp] theorem State.emit_therms (s : State) (o : Output) : (s.emit o).therms = s.therms := rfl
@[simp] theorem State.emit_feAt (s : State) (o : Output) : (s.emit o).feAt = s.feAt := rfl
@[simp] theorem State.emit_convs (s : State) (o : Output) : (s.emit o).convs = s.convs := rfl
@[simp] theorem State.emit_ptCaps (s : State) (o : Output) : (s.emit o).ptCaps = s.ptCaps := rfl
@[simp] theorem State.emit_island (s : State) (o : Output) : (s.emit o).island = s.island := rfl
@[simp] theorem State.emit_mailbox (s : State) (o : Output) : (s.emit o).mailbox = s.mailbox := rfl
@[simp] theorem State.emit_wds (s : State) (o : Output) : (s.emit o).wds = s.wds := rfl
@[simp] theorem State.emit_ekLanes (s : State) (o : Output) : (s.emit o).ekLanes = s.ekLanes := rfl
@[simp] theorem State.emit_pairs (s : State) (o : Output) : (s.emit o).pairs = s.pairs := rfl
@[simp] theorem State.emit_mirrors (s : State) (o : Output) : (s.emit o).mirrors = s.mirrors := rfl
@[simp] theorem State.emit_epk (s : State) (o : Output) : (s.emit o).epk = s.epk := rfl

/-! ### setPlate -/

@[simp] theorem State.setPlate_pending (s : State) (p : Nat) (v : PlateInt) : (s.setPlate p v).pending = s.pending := rfl
@[simp] theorem State.setPlate_now (s : State) (p : Nat) (v : PlateInt) : (s.setPlate p v).now = s.now := rfl
@[simp] theorem State.setPlate_draws (s : State) (p : Nat) (v : PlateInt) : (s.setPlate p v).draws = s.draws := rfl
@[simp] theorem State.setPlate_out (s : State) (p : Nat) (v : PlateInt) : (s.setPlate p v).out = s.out := rfl
@[simp] theorem State.setPlate_regs (s : State) (p : Nat) (v : PlateInt) : (s.setPlate p v).regs = s.regs := rfl
@[simp] theorem State.setPlate_pf (s : State) (p : Nat) (v : PlateInt) : (s.setPlate p v).pf = s.pf := rfl
@[simp] theorem State.setPlate_vfs (s : State) (p : Nat) (v : PlateInt) : (s.setPlate p v).vfs = s.vfs := rfl
@[simp] theorem State.setPlate_msix (s : State) (p : Nat) (v : PlateInt) : (s.setPlate p v).msix = s.msix := rfl
@[simp] theorem State.setPlate_aer (s : State) (p : Nat) (v : PlateInt) : (s.setPlate p v).aer = s.aer := rfl
@[simp] theorem State.setPlate_aers (s : State) (p : Nat) (v : PlateInt) : (s.setPlate p v).aers = s.aers := rfl
@[simp] theorem State.setPlate_flrs (s : State) (p : Nat) (v : PlateInt) : (s.setPlate p v).flrs = s.flrs := rfl
@[simp] theorem State.setPlate_pairHi (s : State) (p : Nat) (v : PlateInt) : (s.setPlate p v).pairHi = s.pairHi := rfl
@[simp] theorem State.setPlate_notes (s : State) (p : Nat) (v : PlateInt) : (s.setPlate p v).notes = s.notes := rfl
@[simp] theorem State.setPlate_lockSince (s : State) (p : Nat) (v : PlateInt) : (s.setPlate p v).lockSince = s.lockSince := rfl
@[simp] theorem State.setPlate_agreeSince (s : State) (p : Nat) (v : PlateInt) : (s.setPlate p v).agreeSince = s.agreeSince := rfl
@[simp] theorem State.setPlate_shadow48 (s : State) (p : Nat) (v : PlateInt) : (s.setPlate p v).shadow48 = s.shadow48 := rfl
@[simp] theorem State.setPlate_cnt48 (s : State) (p : Nat) (v : PlateInt) : (s.setPlate p v).cnt48 = s.cnt48 := rfl
@[simp] theorem State.setPlate_frozen (s : State) (p : Nat) (v : PlateInt) : (s.setPlate p v).frozen = s.frozen := rfl
@[simp] theorem State.setPlate_frzCur (s : State) (p : Nat) (v : PlateInt) : (s.setPlate p v).frzCur = s.frzCur := rfl
@[simp] theorem State.setPlate_frzHist (s : State) (p : Nat) (v : PlateInt) : (s.setPlate p v).frzHist = s.frzHist := rfl
@[simp] theorem State.setPlate_frzSeq (s : State) (p : Nat) (v : PlateInt) : (s.setPlate p v).frzSeq = s.frzSeq := rfl
@[simp] theorem State.setPlate_frzCap (s : State) (p : Nat) (v : PlateInt) : (s.setPlate p v).frzCap = s.frzCap := rfl
@[simp] theorem State.setPlate_frzHistCap (s : State) (p : Nat) (v : PlateInt) : (s.setPlate p v).frzHistCap = s.frzHistCap := rfl
@[simp] theorem State.setPlate_pfFrozenTick (s : State) (p : Nat) (v : PlateInt) : (s.setPlate p v).pfFrozenTick = s.pfFrozenTick := rfl
@[simp] theorem State.setPlate_pins (s : State) (p : Nat) (v : PlateInt) : (s.setPlate p v).pins = s.pins := rfl
@[simp] theorem State.setPlate_chip (s : State) (p : Nat) (v : PlateInt) : (s.setPlate p v).chip = s.chip := rfl
@[simp] theorem State.setPlate_plates (s : State) (p : Nat) (v : PlateInt) : (s.setPlate p v).plates = Sparse.put {} s.plates p v := rfl
@[simp] theorem State.setPlate_storeErrs (s : State) (p : Nat) (v : PlateInt) : (s.setPlate p v).storeErrs = s.storeErrs := rfl
@[simp] theorem State.setPlate_gravers (s : State) (p : Nat) (v : PlateInt) : (s.setPlate p v).gravers = s.gravers := rfl
@[simp] theorem State.setPlate_dmaTens (s : State) (p : Nat) (v : PlateInt) : (s.setPlate p v).dmaTens = s.dmaTens := rfl
@[simp] theorem State.setPlate_dmaLast (s : State) (p : Nat) (v : PlateInt) : (s.setPlate p v).dmaLast = s.dmaLast := rfl
@[simp] theorem State.setPlate_fusesBlown (s : State) (p : Nat) (v : PlateInt) : (s.setPlate p v).fusesBlown = s.fusesBlown := rfl
@[simp] theorem State.setPlate_fuses (s : State) (p : Nat) (v : PlateInt) : (s.setPlate p v).fuses = s.fuses := rfl
@[simp] theorem State.setPlate_life (s : State) (p : Nat) (v : PlateInt) : (s.setPlate p v).life = s.life := rfl
@[simp] theorem State.setPlate_tap (s : State) (p : Nat) (v : PlateInt) : (s.setPlate p v).tap = s.tap := rfl
@[simp] theorem State.setPlate_tb (s : State) (p : Nat) (v : PlateInt) : (s.setPlate p v).tb = s.tb := rfl
@[simp] theorem State.setPlate_chans (s : State) (p : Nat) (v : PlateInt) : (s.setPlate p v).chans = s.chans := rfl
@[simp] theorem State.setPlate_vec2 (s : State) (p : Nat) (v : PlateInt) : (s.setPlate p v).vec2 = s.vec2 := rfl
@[simp] theorem State.setPlate_arb (s : State) (p : Nat) (v : PlateInt) : (s.setPlate p v).arb = s.arb := rfl
@[simp] theorem State.setPlate_laneGrants (s : State) (p : Nat) (v : PlateInt) : (s.setPlate p v).laneGrants = s.laneGrants := rfl
@[simp] theorem State.setPlate_epkGrants (s : State) (p : Nat) (v : PlateInt) : (s.setPlate p v).epkGrants = s.epkGrants := rfl
@[simp] theorem State.setPlate_imprGrants (s : State) (p : Nat) (v : PlateInt) : (s.setPlate p v).imprGrants = s.imprGrants := rfl
@[simp] theorem State.setPlate_quietReqs (s : State) (p : Nat) (v : PlateInt) : (s.setPlate p v).quietReqs = s.quietReqs := rfl
@[simp] theorem State.setPlate_wakes (s : State) (p : Nat) (v : PlateInt) : (s.setPlate p v).wakes = s.wakes := rfl
@[simp] theorem State.setPlate_quiet (s : State) (p : Nat) (v : PlateInt) : (s.setPlate p v).quiet = s.quiet := rfl
@[simp] theorem State.setPlate_siteIns (s : State) (p : Nat) (v : PlateInt) : (s.setPlate p v).siteIns = s.siteIns := rfl
@[simp] theorem State.setPlate_echos (s : State) (p : Nat) (v : PlateInt) : (s.setPlate p v).echos = s.echos := rfl
@[simp] theorem State.setPlate_fastRetry (s : State) (p : Nat) (v : PlateInt) : (s.setPlate p v).fastRetry = s.fastRetry := rfl
@[simp] theorem State.setPlate_medias (s : State) (p : Nat) (v : PlateInt) : (s.setPlate p v).medias = s.medias := rfl
@[simp] theorem State.setPlate_jitters (s : State) (p : Nat) (v : PlateInt) : (s.setPlate p v).jitters = s.jitters := rfl
@[simp] theorem State.setPlate_sigs (s : State) (p : Nat) (v : PlateInt) : (s.setPlate p v).sigs = s.sigs := rfl
@[simp] theorem State.setPlate_queues (s : State) (p : Nat) (v : PlateInt) : (s.setPlate p v).queues = s.queues := rfl
@[simp] theorem State.setPlate_ports (s : State) (p : Nat) (v : PlateInt) : (s.setPlate p v).ports = s.ports := rfl
@[simp] theorem State.setPlate_hatches (s : State) (p : Nat) (v : PlateInt) : (s.setPlate p v).hatches = s.hatches := rfl
@[simp] theorem State.setPlate_hatchMem (s : State) (p : Nat) (v : PlateInt) : (s.setPlate p v).hatchMem = s.hatchMem := rfl
@[simp] theorem State.setPlate_shapers (s : State) (p : Nat) (v : PlateInt) : (s.setPlate p v).shapers = s.shapers := rfl
@[simp] theorem State.setPlate_shRates (s : State) (p : Nat) (v : PlateInt) : (s.setPlate p v).shRates = s.shRates := rfl
@[simp] theorem State.setPlate_highways (s : State) (p : Nat) (v : PlateInt) : (s.setPlate p v).highways = s.highways := rfl
@[simp] theorem State.setPlate_tks (s : State) (p : Nat) (v : PlateInt) : (s.setPlate p v).tks = s.tks := rfl
@[simp] theorem State.setPlate_hold (s : State) (p : Nat) (v : PlateInt) : (s.setPlate p v).hold = s.hold := rfl
@[simp] theorem State.setPlate_therms (s : State) (p : Nat) (v : PlateInt) : (s.setPlate p v).therms = s.therms := rfl
@[simp] theorem State.setPlate_feAt (s : State) (p : Nat) (v : PlateInt) : (s.setPlate p v).feAt = s.feAt := rfl
@[simp] theorem State.setPlate_convs (s : State) (p : Nat) (v : PlateInt) : (s.setPlate p v).convs = s.convs := rfl
@[simp] theorem State.setPlate_ptCaps (s : State) (p : Nat) (v : PlateInt) : (s.setPlate p v).ptCaps = s.ptCaps := rfl
@[simp] theorem State.setPlate_island (s : State) (p : Nat) (v : PlateInt) : (s.setPlate p v).island = s.island := rfl
@[simp] theorem State.setPlate_mailbox (s : State) (p : Nat) (v : PlateInt) : (s.setPlate p v).mailbox = s.mailbox := rfl
@[simp] theorem State.setPlate_wds (s : State) (p : Nat) (v : PlateInt) : (s.setPlate p v).wds = s.wds := rfl
@[simp] theorem State.setPlate_ekLanes (s : State) (p : Nat) (v : PlateInt) : (s.setPlate p v).ekLanes = s.ekLanes := rfl
@[simp] theorem State.setPlate_pairs (s : State) (p : Nat) (v : PlateInt) : (s.setPlate p v).pairs = s.pairs := rfl
@[simp] theorem State.setPlate_mirrors (s : State) (p : Nat) (v : PlateInt) : (s.setPlate p v).mirrors = s.mirrors := rfl
@[simp] theorem State.setPlate_epk (s : State) (p : Nat) (v : PlateInt) : (s.setPlate p v).epk = s.epk := rfl

/-! ### setGraver -/

@[simp] theorem State.setGraver_pending (s : State) (p g : Nat) (v : Graver) : (s.setGraver p g v).pending = s.pending := rfl
@[simp] theorem State.setGraver_now (s : State) (p g : Nat) (v : Graver) : (s.setGraver p g v).now = s.now := rfl
@[simp] theorem State.setGraver_draws (s : State) (p g : Nat) (v : Graver) : (s.setGraver p g v).draws = s.draws := rfl
@[simp] theorem State.setGraver_out (s : State) (p g : Nat) (v : Graver) : (s.setGraver p g v).out = s.out := rfl
@[simp] theorem State.setGraver_regs (s : State) (p g : Nat) (v : Graver) : (s.setGraver p g v).regs = s.regs := rfl
@[simp] theorem State.setGraver_pf (s : State) (p g : Nat) (v : Graver) : (s.setGraver p g v).pf = s.pf := rfl
@[simp] theorem State.setGraver_vfs (s : State) (p g : Nat) (v : Graver) : (s.setGraver p g v).vfs = s.vfs := rfl
@[simp] theorem State.setGraver_msix (s : State) (p g : Nat) (v : Graver) : (s.setGraver p g v).msix = s.msix := rfl
@[simp] theorem State.setGraver_aer (s : State) (p g : Nat) (v : Graver) : (s.setGraver p g v).aer = s.aer := rfl
@[simp] theorem State.setGraver_aers (s : State) (p g : Nat) (v : Graver) : (s.setGraver p g v).aers = s.aers := rfl
@[simp] theorem State.setGraver_flrs (s : State) (p g : Nat) (v : Graver) : (s.setGraver p g v).flrs = s.flrs := rfl
@[simp] theorem State.setGraver_pairHi (s : State) (p g : Nat) (v : Graver) : (s.setGraver p g v).pairHi = s.pairHi := rfl
@[simp] theorem State.setGraver_notes (s : State) (p g : Nat) (v : Graver) : (s.setGraver p g v).notes = s.notes := rfl
@[simp] theorem State.setGraver_lockSince (s : State) (p g : Nat) (v : Graver) : (s.setGraver p g v).lockSince = s.lockSince := rfl
@[simp] theorem State.setGraver_agreeSince (s : State) (p g : Nat) (v : Graver) : (s.setGraver p g v).agreeSince = s.agreeSince := rfl
@[simp] theorem State.setGraver_shadow48 (s : State) (p g : Nat) (v : Graver) : (s.setGraver p g v).shadow48 = s.shadow48 := rfl
@[simp] theorem State.setGraver_cnt48 (s : State) (p g : Nat) (v : Graver) : (s.setGraver p g v).cnt48 = s.cnt48 := rfl
@[simp] theorem State.setGraver_frozen (s : State) (p g : Nat) (v : Graver) : (s.setGraver p g v).frozen = s.frozen := rfl
@[simp] theorem State.setGraver_frzCur (s : State) (p g : Nat) (v : Graver) : (s.setGraver p g v).frzCur = s.frzCur := rfl
@[simp] theorem State.setGraver_frzHist (s : State) (p g : Nat) (v : Graver) : (s.setGraver p g v).frzHist = s.frzHist := rfl
@[simp] theorem State.setGraver_frzSeq (s : State) (p g : Nat) (v : Graver) : (s.setGraver p g v).frzSeq = s.frzSeq := rfl
@[simp] theorem State.setGraver_frzCap (s : State) (p g : Nat) (v : Graver) : (s.setGraver p g v).frzCap = s.frzCap := rfl
@[simp] theorem State.setGraver_frzHistCap (s : State) (p g : Nat) (v : Graver) : (s.setGraver p g v).frzHistCap = s.frzHistCap := rfl
@[simp] theorem State.setGraver_pfFrozenTick (s : State) (p g : Nat) (v : Graver) : (s.setGraver p g v).pfFrozenTick = s.pfFrozenTick := rfl
@[simp] theorem State.setGraver_pins (s : State) (p g : Nat) (v : Graver) : (s.setGraver p g v).pins = s.pins := rfl
@[simp] theorem State.setGraver_chip (s : State) (p g : Nat) (v : Graver) : (s.setGraver p g v).chip = s.chip := rfl
@[simp] theorem State.setGraver_plates (s : State) (p g : Nat) (v : Graver) : (s.setGraver p g v).plates = s.plates := rfl
@[simp] theorem State.setGraver_storeErrs (s : State) (p g : Nat) (v : Graver) : (s.setGraver p g v).storeErrs = s.storeErrs := rfl
@[simp] theorem State.setGraver_gravers (s : State) (p g : Nat) (v : Graver) : (s.setGraver p g v).gravers = Sparse.put {} s.gravers (4 * p + g) v := rfl
@[simp] theorem State.setGraver_dmaTens (s : State) (p g : Nat) (v : Graver) : (s.setGraver p g v).dmaTens = s.dmaTens := rfl
@[simp] theorem State.setGraver_dmaLast (s : State) (p g : Nat) (v : Graver) : (s.setGraver p g v).dmaLast = s.dmaLast := rfl
@[simp] theorem State.setGraver_fusesBlown (s : State) (p g : Nat) (v : Graver) : (s.setGraver p g v).fusesBlown = s.fusesBlown := rfl
@[simp] theorem State.setGraver_fuses (s : State) (p g : Nat) (v : Graver) : (s.setGraver p g v).fuses = s.fuses := rfl
@[simp] theorem State.setGraver_life (s : State) (p g : Nat) (v : Graver) : (s.setGraver p g v).life = s.life := rfl
@[simp] theorem State.setGraver_tap (s : State) (p g : Nat) (v : Graver) : (s.setGraver p g v).tap = s.tap := rfl
@[simp] theorem State.setGraver_tb (s : State) (p g : Nat) (v : Graver) : (s.setGraver p g v).tb = s.tb := rfl
@[simp] theorem State.setGraver_chans (s : State) (p g : Nat) (v : Graver) : (s.setGraver p g v).chans = s.chans := rfl
@[simp] theorem State.setGraver_vec2 (s : State) (p g : Nat) (v : Graver) : (s.setGraver p g v).vec2 = s.vec2 := rfl
@[simp] theorem State.setGraver_arb (s : State) (p g : Nat) (v : Graver) : (s.setGraver p g v).arb = s.arb := rfl
@[simp] theorem State.setGraver_laneGrants (s : State) (p g : Nat) (v : Graver) : (s.setGraver p g v).laneGrants = s.laneGrants := rfl
@[simp] theorem State.setGraver_epkGrants (s : State) (p g : Nat) (v : Graver) : (s.setGraver p g v).epkGrants = s.epkGrants := rfl
@[simp] theorem State.setGraver_imprGrants (s : State) (p g : Nat) (v : Graver) : (s.setGraver p g v).imprGrants = s.imprGrants := rfl
@[simp] theorem State.setGraver_quietReqs (s : State) (p g : Nat) (v : Graver) : (s.setGraver p g v).quietReqs = s.quietReqs := rfl
@[simp] theorem State.setGraver_wakes (s : State) (p g : Nat) (v : Graver) : (s.setGraver p g v).wakes = s.wakes := rfl
@[simp] theorem State.setGraver_quiet (s : State) (p g : Nat) (v : Graver) : (s.setGraver p g v).quiet = s.quiet := rfl
@[simp] theorem State.setGraver_siteIns (s : State) (p g : Nat) (v : Graver) : (s.setGraver p g v).siteIns = s.siteIns := rfl
@[simp] theorem State.setGraver_echos (s : State) (p g : Nat) (v : Graver) : (s.setGraver p g v).echos = s.echos := rfl
@[simp] theorem State.setGraver_fastRetry (s : State) (p g : Nat) (v : Graver) : (s.setGraver p g v).fastRetry = s.fastRetry := rfl
@[simp] theorem State.setGraver_medias (s : State) (p g : Nat) (v : Graver) : (s.setGraver p g v).medias = s.medias := rfl
@[simp] theorem State.setGraver_jitters (s : State) (p g : Nat) (v : Graver) : (s.setGraver p g v).jitters = s.jitters := rfl
@[simp] theorem State.setGraver_sigs (s : State) (p g : Nat) (v : Graver) : (s.setGraver p g v).sigs = s.sigs := rfl
@[simp] theorem State.setGraver_queues (s : State) (p g : Nat) (v : Graver) : (s.setGraver p g v).queues = s.queues := rfl
@[simp] theorem State.setGraver_ports (s : State) (p g : Nat) (v : Graver) : (s.setGraver p g v).ports = s.ports := rfl
@[simp] theorem State.setGraver_hatches (s : State) (p g : Nat) (v : Graver) : (s.setGraver p g v).hatches = s.hatches := rfl
@[simp] theorem State.setGraver_hatchMem (s : State) (p g : Nat) (v : Graver) : (s.setGraver p g v).hatchMem = s.hatchMem := rfl
@[simp] theorem State.setGraver_shapers (s : State) (p g : Nat) (v : Graver) : (s.setGraver p g v).shapers = s.shapers := rfl
@[simp] theorem State.setGraver_shRates (s : State) (p g : Nat) (v : Graver) : (s.setGraver p g v).shRates = s.shRates := rfl
@[simp] theorem State.setGraver_highways (s : State) (p g : Nat) (v : Graver) : (s.setGraver p g v).highways = s.highways := rfl
@[simp] theorem State.setGraver_tks (s : State) (p g : Nat) (v : Graver) : (s.setGraver p g v).tks = s.tks := rfl
@[simp] theorem State.setGraver_hold (s : State) (p g : Nat) (v : Graver) : (s.setGraver p g v).hold = s.hold := rfl
@[simp] theorem State.setGraver_therms (s : State) (p g : Nat) (v : Graver) : (s.setGraver p g v).therms = s.therms := rfl
@[simp] theorem State.setGraver_feAt (s : State) (p g : Nat) (v : Graver) : (s.setGraver p g v).feAt = s.feAt := rfl
@[simp] theorem State.setGraver_convs (s : State) (p g : Nat) (v : Graver) : (s.setGraver p g v).convs = s.convs := rfl
@[simp] theorem State.setGraver_ptCaps (s : State) (p g : Nat) (v : Graver) : (s.setGraver p g v).ptCaps = s.ptCaps := rfl
@[simp] theorem State.setGraver_island (s : State) (p g : Nat) (v : Graver) : (s.setGraver p g v).island = s.island := rfl
@[simp] theorem State.setGraver_mailbox (s : State) (p g : Nat) (v : Graver) : (s.setGraver p g v).mailbox = s.mailbox := rfl
@[simp] theorem State.setGraver_wds (s : State) (p g : Nat) (v : Graver) : (s.setGraver p g v).wds = s.wds := rfl
@[simp] theorem State.setGraver_ekLanes (s : State) (p g : Nat) (v : Graver) : (s.setGraver p g v).ekLanes = s.ekLanes := rfl
@[simp] theorem State.setGraver_pairs (s : State) (p g : Nat) (v : Graver) : (s.setGraver p g v).pairs = s.pairs := rfl
@[simp] theorem State.setGraver_mirrors (s : State) (p g : Nat) (v : Graver) : (s.setGraver p g v).mirrors = s.mirrors := rfl
@[simp] theorem State.setGraver_epk (s : State) (p g : Nat) (v : Graver) : (s.setGraver p g v).epk = s.epk := rfl

/-! ### setRing -/

@[simp] theorem State.setRing_pending (s : State) (t : Nat) (v : DmaTen) : (s.setRing t v).pending = s.pending := rfl
@[simp] theorem State.setRing_now (s : State) (t : Nat) (v : DmaTen) : (s.setRing t v).now = s.now := rfl
@[simp] theorem State.setRing_draws (s : State) (t : Nat) (v : DmaTen) : (s.setRing t v).draws = s.draws := rfl
@[simp] theorem State.setRing_out (s : State) (t : Nat) (v : DmaTen) : (s.setRing t v).out = s.out := rfl
@[simp] theorem State.setRing_regs (s : State) (t : Nat) (v : DmaTen) : (s.setRing t v).regs = s.regs := rfl
@[simp] theorem State.setRing_pf (s : State) (t : Nat) (v : DmaTen) : (s.setRing t v).pf = s.pf := rfl
@[simp] theorem State.setRing_vfs (s : State) (t : Nat) (v : DmaTen) : (s.setRing t v).vfs = s.vfs := rfl
@[simp] theorem State.setRing_msix (s : State) (t : Nat) (v : DmaTen) : (s.setRing t v).msix = s.msix := rfl
@[simp] theorem State.setRing_aer (s : State) (t : Nat) (v : DmaTen) : (s.setRing t v).aer = s.aer := rfl
@[simp] theorem State.setRing_aers (s : State) (t : Nat) (v : DmaTen) : (s.setRing t v).aers = s.aers := rfl
@[simp] theorem State.setRing_flrs (s : State) (t : Nat) (v : DmaTen) : (s.setRing t v).flrs = s.flrs := rfl
@[simp] theorem State.setRing_pairHi (s : State) (t : Nat) (v : DmaTen) : (s.setRing t v).pairHi = s.pairHi := rfl
@[simp] theorem State.setRing_notes (s : State) (t : Nat) (v : DmaTen) : (s.setRing t v).notes = s.notes := rfl
@[simp] theorem State.setRing_lockSince (s : State) (t : Nat) (v : DmaTen) : (s.setRing t v).lockSince = s.lockSince := rfl
@[simp] theorem State.setRing_agreeSince (s : State) (t : Nat) (v : DmaTen) : (s.setRing t v).agreeSince = s.agreeSince := rfl
@[simp] theorem State.setRing_shadow48 (s : State) (t : Nat) (v : DmaTen) : (s.setRing t v).shadow48 = s.shadow48 := rfl
@[simp] theorem State.setRing_cnt48 (s : State) (t : Nat) (v : DmaTen) : (s.setRing t v).cnt48 = s.cnt48 := rfl
@[simp] theorem State.setRing_frozen (s : State) (t : Nat) (v : DmaTen) : (s.setRing t v).frozen = s.frozen := rfl
@[simp] theorem State.setRing_frzCur (s : State) (t : Nat) (v : DmaTen) : (s.setRing t v).frzCur = s.frzCur := rfl
@[simp] theorem State.setRing_frzHist (s : State) (t : Nat) (v : DmaTen) : (s.setRing t v).frzHist = s.frzHist := rfl
@[simp] theorem State.setRing_frzSeq (s : State) (t : Nat) (v : DmaTen) : (s.setRing t v).frzSeq = s.frzSeq := rfl
@[simp] theorem State.setRing_frzCap (s : State) (t : Nat) (v : DmaTen) : (s.setRing t v).frzCap = s.frzCap := rfl
@[simp] theorem State.setRing_frzHistCap (s : State) (t : Nat) (v : DmaTen) : (s.setRing t v).frzHistCap = s.frzHistCap := rfl
@[simp] theorem State.setRing_pfFrozenTick (s : State) (t : Nat) (v : DmaTen) : (s.setRing t v).pfFrozenTick = s.pfFrozenTick := rfl
@[simp] theorem State.setRing_pins (s : State) (t : Nat) (v : DmaTen) : (s.setRing t v).pins = s.pins := rfl
@[simp] theorem State.setRing_chip (s : State) (t : Nat) (v : DmaTen) : (s.setRing t v).chip = s.chip := rfl
@[simp] theorem State.setRing_plates (s : State) (t : Nat) (v : DmaTen) : (s.setRing t v).plates = s.plates := rfl
@[simp] theorem State.setRing_storeErrs (s : State) (t : Nat) (v : DmaTen) : (s.setRing t v).storeErrs = s.storeErrs := rfl
@[simp] theorem State.setRing_gravers (s : State) (t : Nat) (v : DmaTen) : (s.setRing t v).gravers = s.gravers := rfl
@[simp] theorem State.setRing_dmaTens (s : State) (t : Nat) (v : DmaTen) : (s.setRing t v).dmaTens = Sparse.put {} s.dmaTens t v := rfl
@[simp] theorem State.setRing_dmaLast (s : State) (t : Nat) (v : DmaTen) : (s.setRing t v).dmaLast = s.dmaLast := rfl
@[simp] theorem State.setRing_fusesBlown (s : State) (t : Nat) (v : DmaTen) : (s.setRing t v).fusesBlown = s.fusesBlown := rfl
@[simp] theorem State.setRing_fuses (s : State) (t : Nat) (v : DmaTen) : (s.setRing t v).fuses = s.fuses := rfl
@[simp] theorem State.setRing_life (s : State) (t : Nat) (v : DmaTen) : (s.setRing t v).life = s.life := rfl
@[simp] theorem State.setRing_tap (s : State) (t : Nat) (v : DmaTen) : (s.setRing t v).tap = s.tap := rfl
@[simp] theorem State.setRing_tb (s : State) (t : Nat) (v : DmaTen) : (s.setRing t v).tb = s.tb := rfl
@[simp] theorem State.setRing_chans (s : State) (t : Nat) (v : DmaTen) : (s.setRing t v).chans = s.chans := rfl
@[simp] theorem State.setRing_vec2 (s : State) (t : Nat) (v : DmaTen) : (s.setRing t v).vec2 = s.vec2 := rfl
@[simp] theorem State.setRing_arb (s : State) (t : Nat) (v : DmaTen) : (s.setRing t v).arb = s.arb := rfl
@[simp] theorem State.setRing_laneGrants (s : State) (t : Nat) (v : DmaTen) : (s.setRing t v).laneGrants = s.laneGrants := rfl
@[simp] theorem State.setRing_epkGrants (s : State) (t : Nat) (v : DmaTen) : (s.setRing t v).epkGrants = s.epkGrants := rfl
@[simp] theorem State.setRing_imprGrants (s : State) (t : Nat) (v : DmaTen) : (s.setRing t v).imprGrants = s.imprGrants := rfl
@[simp] theorem State.setRing_quietReqs (s : State) (t : Nat) (v : DmaTen) : (s.setRing t v).quietReqs = s.quietReqs := rfl
@[simp] theorem State.setRing_wakes (s : State) (t : Nat) (v : DmaTen) : (s.setRing t v).wakes = s.wakes := rfl
@[simp] theorem State.setRing_quiet (s : State) (t : Nat) (v : DmaTen) : (s.setRing t v).quiet = s.quiet := rfl
@[simp] theorem State.setRing_siteIns (s : State) (t : Nat) (v : DmaTen) : (s.setRing t v).siteIns = s.siteIns := rfl
@[simp] theorem State.setRing_echos (s : State) (t : Nat) (v : DmaTen) : (s.setRing t v).echos = s.echos := rfl
@[simp] theorem State.setRing_fastRetry (s : State) (t : Nat) (v : DmaTen) : (s.setRing t v).fastRetry = s.fastRetry := rfl
@[simp] theorem State.setRing_medias (s : State) (t : Nat) (v : DmaTen) : (s.setRing t v).medias = s.medias := rfl
@[simp] theorem State.setRing_jitters (s : State) (t : Nat) (v : DmaTen) : (s.setRing t v).jitters = s.jitters := rfl
@[simp] theorem State.setRing_sigs (s : State) (t : Nat) (v : DmaTen) : (s.setRing t v).sigs = s.sigs := rfl
@[simp] theorem State.setRing_queues (s : State) (t : Nat) (v : DmaTen) : (s.setRing t v).queues = s.queues := rfl
@[simp] theorem State.setRing_ports (s : State) (t : Nat) (v : DmaTen) : (s.setRing t v).ports = s.ports := rfl
@[simp] theorem State.setRing_hatches (s : State) (t : Nat) (v : DmaTen) : (s.setRing t v).hatches = s.hatches := rfl
@[simp] theorem State.setRing_hatchMem (s : State) (t : Nat) (v : DmaTen) : (s.setRing t v).hatchMem = s.hatchMem := rfl
@[simp] theorem State.setRing_shapers (s : State) (t : Nat) (v : DmaTen) : (s.setRing t v).shapers = s.shapers := rfl
@[simp] theorem State.setRing_shRates (s : State) (t : Nat) (v : DmaTen) : (s.setRing t v).shRates = s.shRates := rfl
@[simp] theorem State.setRing_highways (s : State) (t : Nat) (v : DmaTen) : (s.setRing t v).highways = s.highways := rfl
@[simp] theorem State.setRing_tks (s : State) (t : Nat) (v : DmaTen) : (s.setRing t v).tks = s.tks := rfl
@[simp] theorem State.setRing_hold (s : State) (t : Nat) (v : DmaTen) : (s.setRing t v).hold = s.hold := rfl
@[simp] theorem State.setRing_therms (s : State) (t : Nat) (v : DmaTen) : (s.setRing t v).therms = s.therms := rfl
@[simp] theorem State.setRing_feAt (s : State) (t : Nat) (v : DmaTen) : (s.setRing t v).feAt = s.feAt := rfl
@[simp] theorem State.setRing_convs (s : State) (t : Nat) (v : DmaTen) : (s.setRing t v).convs = s.convs := rfl
@[simp] theorem State.setRing_ptCaps (s : State) (t : Nat) (v : DmaTen) : (s.setRing t v).ptCaps = s.ptCaps := rfl
@[simp] theorem State.setRing_island (s : State) (t : Nat) (v : DmaTen) : (s.setRing t v).island = s.island := rfl
@[simp] theorem State.setRing_mailbox (s : State) (t : Nat) (v : DmaTen) : (s.setRing t v).mailbox = s.mailbox := rfl
@[simp] theorem State.setRing_wds (s : State) (t : Nat) (v : DmaTen) : (s.setRing t v).wds = s.wds := rfl
@[simp] theorem State.setRing_ekLanes (s : State) (t : Nat) (v : DmaTen) : (s.setRing t v).ekLanes = s.ekLanes := rfl
@[simp] theorem State.setRing_pairs (s : State) (t : Nat) (v : DmaTen) : (s.setRing t v).pairs = s.pairs := rfl
@[simp] theorem State.setRing_mirrors (s : State) (t : Nat) (v : DmaTen) : (s.setRing t v).mirrors = s.mirrors := rfl
@[simp] theorem State.setRing_epk (s : State) (t : Nat) (v : DmaTen) : (s.setRing t v).epk = s.epk := rfl

/-! ### setVector -/

@[simp] theorem State.setVector_pending (s : State) (fn vec : Nat) (e : MsixEntry) : (s.setVector fn vec e).pending = s.pending := rfl
@[simp] theorem State.setVector_now (s : State) (fn vec : Nat) (e : MsixEntry) : (s.setVector fn vec e).now = s.now := rfl
@[simp] theorem State.setVector_draws (s : State) (fn vec : Nat) (e : MsixEntry) : (s.setVector fn vec e).draws = s.draws := rfl
@[simp] theorem State.setVector_out (s : State) (fn vec : Nat) (e : MsixEntry) : (s.setVector fn vec e).out = s.out := rfl
@[simp] theorem State.setVector_regs (s : State) (fn vec : Nat) (e : MsixEntry) : (s.setVector fn vec e).regs = s.regs := rfl
@[simp] theorem State.setVector_pf (s : State) (fn vec : Nat) (e : MsixEntry) : (s.setVector fn vec e).pf = s.pf := rfl
@[simp] theorem State.setVector_vfs (s : State) (fn vec : Nat) (e : MsixEntry) : (s.setVector fn vec e).vfs = s.vfs := rfl
@[simp] theorem State.setVector_msix (s : State) (fn vec : Nat) (e : MsixEntry) : (s.setVector fn vec e).msix = Sparse.put {} s.msix (64 * fn + vec) e := rfl
@[simp] theorem State.setVector_aer (s : State) (fn vec : Nat) (e : MsixEntry) : (s.setVector fn vec e).aer = s.aer := rfl
@[simp] theorem State.setVector_aers (s : State) (fn vec : Nat) (e : MsixEntry) : (s.setVector fn vec e).aers = s.aers := rfl
@[simp] theorem State.setVector_flrs (s : State) (fn vec : Nat) (e : MsixEntry) : (s.setVector fn vec e).flrs = s.flrs := rfl
@[simp] theorem State.setVector_pairHi (s : State) (fn vec : Nat) (e : MsixEntry) : (s.setVector fn vec e).pairHi = s.pairHi := rfl
@[simp] theorem State.setVector_notes (s : State) (fn vec : Nat) (e : MsixEntry) : (s.setVector fn vec e).notes = s.notes := rfl
@[simp] theorem State.setVector_lockSince (s : State) (fn vec : Nat) (e : MsixEntry) : (s.setVector fn vec e).lockSince = s.lockSince := rfl
@[simp] theorem State.setVector_agreeSince (s : State) (fn vec : Nat) (e : MsixEntry) : (s.setVector fn vec e).agreeSince = s.agreeSince := rfl
@[simp] theorem State.setVector_shadow48 (s : State) (fn vec : Nat) (e : MsixEntry) : (s.setVector fn vec e).shadow48 = s.shadow48 := rfl
@[simp] theorem State.setVector_cnt48 (s : State) (fn vec : Nat) (e : MsixEntry) : (s.setVector fn vec e).cnt48 = s.cnt48 := rfl
@[simp] theorem State.setVector_frozen (s : State) (fn vec : Nat) (e : MsixEntry) : (s.setVector fn vec e).frozen = s.frozen := rfl
@[simp] theorem State.setVector_frzCur (s : State) (fn vec : Nat) (e : MsixEntry) : (s.setVector fn vec e).frzCur = s.frzCur := rfl
@[simp] theorem State.setVector_frzHist (s : State) (fn vec : Nat) (e : MsixEntry) : (s.setVector fn vec e).frzHist = s.frzHist := rfl
@[simp] theorem State.setVector_frzSeq (s : State) (fn vec : Nat) (e : MsixEntry) : (s.setVector fn vec e).frzSeq = s.frzSeq := rfl
@[simp] theorem State.setVector_frzCap (s : State) (fn vec : Nat) (e : MsixEntry) : (s.setVector fn vec e).frzCap = s.frzCap := rfl
@[simp] theorem State.setVector_frzHistCap (s : State) (fn vec : Nat) (e : MsixEntry) : (s.setVector fn vec e).frzHistCap = s.frzHistCap := rfl
@[simp] theorem State.setVector_pfFrozenTick (s : State) (fn vec : Nat) (e : MsixEntry) : (s.setVector fn vec e).pfFrozenTick = s.pfFrozenTick := rfl
@[simp] theorem State.setVector_pins (s : State) (fn vec : Nat) (e : MsixEntry) : (s.setVector fn vec e).pins = s.pins := rfl
@[simp] theorem State.setVector_chip (s : State) (fn vec : Nat) (e : MsixEntry) : (s.setVector fn vec e).chip = s.chip := rfl
@[simp] theorem State.setVector_plates (s : State) (fn vec : Nat) (e : MsixEntry) : (s.setVector fn vec e).plates = s.plates := rfl
@[simp] theorem State.setVector_storeErrs (s : State) (fn vec : Nat) (e : MsixEntry) : (s.setVector fn vec e).storeErrs = s.storeErrs := rfl
@[simp] theorem State.setVector_gravers (s : State) (fn vec : Nat) (e : MsixEntry) : (s.setVector fn vec e).gravers = s.gravers := rfl
@[simp] theorem State.setVector_dmaTens (s : State) (fn vec : Nat) (e : MsixEntry) : (s.setVector fn vec e).dmaTens = s.dmaTens := rfl
@[simp] theorem State.setVector_dmaLast (s : State) (fn vec : Nat) (e : MsixEntry) : (s.setVector fn vec e).dmaLast = s.dmaLast := rfl
@[simp] theorem State.setVector_fusesBlown (s : State) (fn vec : Nat) (e : MsixEntry) : (s.setVector fn vec e).fusesBlown = s.fusesBlown := rfl
@[simp] theorem State.setVector_fuses (s : State) (fn vec : Nat) (e : MsixEntry) : (s.setVector fn vec e).fuses = s.fuses := rfl
@[simp] theorem State.setVector_life (s : State) (fn vec : Nat) (e : MsixEntry) : (s.setVector fn vec e).life = s.life := rfl
@[simp] theorem State.setVector_tap (s : State) (fn vec : Nat) (e : MsixEntry) : (s.setVector fn vec e).tap = s.tap := rfl
@[simp] theorem State.setVector_tb (s : State) (fn vec : Nat) (e : MsixEntry) : (s.setVector fn vec e).tb = s.tb := rfl
@[simp] theorem State.setVector_chans (s : State) (fn vec : Nat) (e : MsixEntry) : (s.setVector fn vec e).chans = s.chans := rfl
@[simp] theorem State.setVector_vec2 (s : State) (fn vec : Nat) (e : MsixEntry) : (s.setVector fn vec e).vec2 = s.vec2 := rfl
@[simp] theorem State.setVector_arb (s : State) (fn vec : Nat) (e : MsixEntry) : (s.setVector fn vec e).arb = s.arb := rfl
@[simp] theorem State.setVector_laneGrants (s : State) (fn vec : Nat) (e : MsixEntry) : (s.setVector fn vec e).laneGrants = s.laneGrants := rfl
@[simp] theorem State.setVector_epkGrants (s : State) (fn vec : Nat) (e : MsixEntry) : (s.setVector fn vec e).epkGrants = s.epkGrants := rfl
@[simp] theorem State.setVector_imprGrants (s : State) (fn vec : Nat) (e : MsixEntry) : (s.setVector fn vec e).imprGrants = s.imprGrants := rfl
@[simp] theorem State.setVector_quietReqs (s : State) (fn vec : Nat) (e : MsixEntry) : (s.setVector fn vec e).quietReqs = s.quietReqs := rfl
@[simp] theorem State.setVector_wakes (s : State) (fn vec : Nat) (e : MsixEntry) : (s.setVector fn vec e).wakes = s.wakes := rfl
@[simp] theorem State.setVector_quiet (s : State) (fn vec : Nat) (e : MsixEntry) : (s.setVector fn vec e).quiet = s.quiet := rfl
@[simp] theorem State.setVector_siteIns (s : State) (fn vec : Nat) (e : MsixEntry) : (s.setVector fn vec e).siteIns = s.siteIns := rfl
@[simp] theorem State.setVector_echos (s : State) (fn vec : Nat) (e : MsixEntry) : (s.setVector fn vec e).echos = s.echos := rfl
@[simp] theorem State.setVector_fastRetry (s : State) (fn vec : Nat) (e : MsixEntry) : (s.setVector fn vec e).fastRetry = s.fastRetry := rfl
@[simp] theorem State.setVector_medias (s : State) (fn vec : Nat) (e : MsixEntry) : (s.setVector fn vec e).medias = s.medias := rfl
@[simp] theorem State.setVector_jitters (s : State) (fn vec : Nat) (e : MsixEntry) : (s.setVector fn vec e).jitters = s.jitters := rfl
@[simp] theorem State.setVector_sigs (s : State) (fn vec : Nat) (e : MsixEntry) : (s.setVector fn vec e).sigs = s.sigs := rfl
@[simp] theorem State.setVector_queues (s : State) (fn vec : Nat) (e : MsixEntry) : (s.setVector fn vec e).queues = s.queues := rfl
@[simp] theorem State.setVector_ports (s : State) (fn vec : Nat) (e : MsixEntry) : (s.setVector fn vec e).ports = s.ports := rfl
@[simp] theorem State.setVector_hatches (s : State) (fn vec : Nat) (e : MsixEntry) : (s.setVector fn vec e).hatches = s.hatches := rfl
@[simp] theorem State.setVector_hatchMem (s : State) (fn vec : Nat) (e : MsixEntry) : (s.setVector fn vec e).hatchMem = s.hatchMem := rfl
@[simp] theorem State.setVector_shapers (s : State) (fn vec : Nat) (e : MsixEntry) : (s.setVector fn vec e).shapers = s.shapers := rfl
@[simp] theorem State.setVector_shRates (s : State) (fn vec : Nat) (e : MsixEntry) : (s.setVector fn vec e).shRates = s.shRates := rfl
@[simp] theorem State.setVector_highways (s : State) (fn vec : Nat) (e : MsixEntry) : (s.setVector fn vec e).highways = s.highways := rfl
@[simp] theorem State.setVector_tks (s : State) (fn vec : Nat) (e : MsixEntry) : (s.setVector fn vec e).tks = s.tks := rfl
@[simp] theorem State.setVector_hold (s : State) (fn vec : Nat) (e : MsixEntry) : (s.setVector fn vec e).hold = s.hold := rfl
@[simp] theorem State.setVector_therms (s : State) (fn vec : Nat) (e : MsixEntry) : (s.setVector fn vec e).therms = s.therms := rfl
@[simp] theorem State.setVector_feAt (s : State) (fn vec : Nat) (e : MsixEntry) : (s.setVector fn vec e).feAt = s.feAt := rfl
@[simp] theorem State.setVector_convs (s : State) (fn vec : Nat) (e : MsixEntry) : (s.setVector fn vec e).convs = s.convs := rfl
@[simp] theorem State.setVector_ptCaps (s : State) (fn vec : Nat) (e : MsixEntry) : (s.setVector fn vec e).ptCaps = s.ptCaps := rfl
@[simp] theorem State.setVector_island (s : State) (fn vec : Nat) (e : MsixEntry) : (s.setVector fn vec e).island = s.island := rfl
@[simp] theorem State.setVector_mailbox (s : State) (fn vec : Nat) (e : MsixEntry) : (s.setVector fn vec e).mailbox = s.mailbox := rfl
@[simp] theorem State.setVector_wds (s : State) (fn vec : Nat) (e : MsixEntry) : (s.setVector fn vec e).wds = s.wds := rfl
@[simp] theorem State.setVector_ekLanes (s : State) (fn vec : Nat) (e : MsixEntry) : (s.setVector fn vec e).ekLanes = s.ekLanes := rfl
@[simp] theorem State.setVector_pairs (s : State) (fn vec : Nat) (e : MsixEntry) : (s.setVector fn vec e).pairs = s.pairs := rfl
@[simp] theorem State.setVector_mirrors (s : State) (fn vec : Nat) (e : MsixEntry) : (s.setVector fn vec e).mirrors = s.mirrors := rfl
@[simp] theorem State.setVector_epk (s : State) (fn vec : Nat) (e : MsixEntry) : (s.setVector fn vec e).epk = s.epk := rfl

/-! ### setTk -/

@[simp] theorem State.setTk_pending (s : State) (p : Nat) (v : Timekeeper) : (s.setTk p v).pending = s.pending := rfl
@[simp] theorem State.setTk_now (s : State) (p : Nat) (v : Timekeeper) : (s.setTk p v).now = s.now := rfl
@[simp] theorem State.setTk_draws (s : State) (p : Nat) (v : Timekeeper) : (s.setTk p v).draws = s.draws := rfl
@[simp] theorem State.setTk_out (s : State) (p : Nat) (v : Timekeeper) : (s.setTk p v).out = s.out := rfl
@[simp] theorem State.setTk_regs (s : State) (p : Nat) (v : Timekeeper) : (s.setTk p v).regs = s.regs := rfl
@[simp] theorem State.setTk_pf (s : State) (p : Nat) (v : Timekeeper) : (s.setTk p v).pf = s.pf := rfl
@[simp] theorem State.setTk_vfs (s : State) (p : Nat) (v : Timekeeper) : (s.setTk p v).vfs = s.vfs := rfl
@[simp] theorem State.setTk_msix (s : State) (p : Nat) (v : Timekeeper) : (s.setTk p v).msix = s.msix := rfl
@[simp] theorem State.setTk_aer (s : State) (p : Nat) (v : Timekeeper) : (s.setTk p v).aer = s.aer := rfl
@[simp] theorem State.setTk_aers (s : State) (p : Nat) (v : Timekeeper) : (s.setTk p v).aers = s.aers := rfl
@[simp] theorem State.setTk_flrs (s : State) (p : Nat) (v : Timekeeper) : (s.setTk p v).flrs = s.flrs := rfl
@[simp] theorem State.setTk_pairHi (s : State) (p : Nat) (v : Timekeeper) : (s.setTk p v).pairHi = s.pairHi := rfl
@[simp] theorem State.setTk_notes (s : State) (p : Nat) (v : Timekeeper) : (s.setTk p v).notes = s.notes := rfl
@[simp] theorem State.setTk_lockSince (s : State) (p : Nat) (v : Timekeeper) : (s.setTk p v).lockSince = s.lockSince := rfl
@[simp] theorem State.setTk_agreeSince (s : State) (p : Nat) (v : Timekeeper) : (s.setTk p v).agreeSince = s.agreeSince := rfl
@[simp] theorem State.setTk_shadow48 (s : State) (p : Nat) (v : Timekeeper) : (s.setTk p v).shadow48 = s.shadow48 := rfl
@[simp] theorem State.setTk_cnt48 (s : State) (p : Nat) (v : Timekeeper) : (s.setTk p v).cnt48 = s.cnt48 := rfl
@[simp] theorem State.setTk_frozen (s : State) (p : Nat) (v : Timekeeper) : (s.setTk p v).frozen = s.frozen := rfl
@[simp] theorem State.setTk_frzCur (s : State) (p : Nat) (v : Timekeeper) : (s.setTk p v).frzCur = s.frzCur := rfl
@[simp] theorem State.setTk_frzHist (s : State) (p : Nat) (v : Timekeeper) : (s.setTk p v).frzHist = s.frzHist := rfl
@[simp] theorem State.setTk_frzSeq (s : State) (p : Nat) (v : Timekeeper) : (s.setTk p v).frzSeq = s.frzSeq := rfl
@[simp] theorem State.setTk_frzCap (s : State) (p : Nat) (v : Timekeeper) : (s.setTk p v).frzCap = s.frzCap := rfl
@[simp] theorem State.setTk_frzHistCap (s : State) (p : Nat) (v : Timekeeper) : (s.setTk p v).frzHistCap = s.frzHistCap := rfl
@[simp] theorem State.setTk_pfFrozenTick (s : State) (p : Nat) (v : Timekeeper) : (s.setTk p v).pfFrozenTick = s.pfFrozenTick := rfl
@[simp] theorem State.setTk_pins (s : State) (p : Nat) (v : Timekeeper) : (s.setTk p v).pins = s.pins := rfl
@[simp] theorem State.setTk_chip (s : State) (p : Nat) (v : Timekeeper) : (s.setTk p v).chip = s.chip := rfl
@[simp] theorem State.setTk_plates (s : State) (p : Nat) (v : Timekeeper) : (s.setTk p v).plates = s.plates := rfl
@[simp] theorem State.setTk_storeErrs (s : State) (p : Nat) (v : Timekeeper) : (s.setTk p v).storeErrs = s.storeErrs := rfl
@[simp] theorem State.setTk_gravers (s : State) (p : Nat) (v : Timekeeper) : (s.setTk p v).gravers = s.gravers := rfl
@[simp] theorem State.setTk_dmaTens (s : State) (p : Nat) (v : Timekeeper) : (s.setTk p v).dmaTens = s.dmaTens := rfl
@[simp] theorem State.setTk_dmaLast (s : State) (p : Nat) (v : Timekeeper) : (s.setTk p v).dmaLast = s.dmaLast := rfl
@[simp] theorem State.setTk_fusesBlown (s : State) (p : Nat) (v : Timekeeper) : (s.setTk p v).fusesBlown = s.fusesBlown := rfl
@[simp] theorem State.setTk_fuses (s : State) (p : Nat) (v : Timekeeper) : (s.setTk p v).fuses = s.fuses := rfl
@[simp] theorem State.setTk_life (s : State) (p : Nat) (v : Timekeeper) : (s.setTk p v).life = s.life := rfl
@[simp] theorem State.setTk_tap (s : State) (p : Nat) (v : Timekeeper) : (s.setTk p v).tap = s.tap := rfl
@[simp] theorem State.setTk_tb (s : State) (p : Nat) (v : Timekeeper) : (s.setTk p v).tb = s.tb := rfl
@[simp] theorem State.setTk_chans (s : State) (p : Nat) (v : Timekeeper) : (s.setTk p v).chans = s.chans := rfl
@[simp] theorem State.setTk_vec2 (s : State) (p : Nat) (v : Timekeeper) : (s.setTk p v).vec2 = s.vec2 := rfl
@[simp] theorem State.setTk_arb (s : State) (p : Nat) (v : Timekeeper) : (s.setTk p v).arb = s.arb := rfl
@[simp] theorem State.setTk_laneGrants (s : State) (p : Nat) (v : Timekeeper) : (s.setTk p v).laneGrants = s.laneGrants := rfl
@[simp] theorem State.setTk_epkGrants (s : State) (p : Nat) (v : Timekeeper) : (s.setTk p v).epkGrants = s.epkGrants := rfl
@[simp] theorem State.setTk_imprGrants (s : State) (p : Nat) (v : Timekeeper) : (s.setTk p v).imprGrants = s.imprGrants := rfl
@[simp] theorem State.setTk_quietReqs (s : State) (p : Nat) (v : Timekeeper) : (s.setTk p v).quietReqs = s.quietReqs := rfl
@[simp] theorem State.setTk_wakes (s : State) (p : Nat) (v : Timekeeper) : (s.setTk p v).wakes = s.wakes := rfl
@[simp] theorem State.setTk_quiet (s : State) (p : Nat) (v : Timekeeper) : (s.setTk p v).quiet = s.quiet := rfl
@[simp] theorem State.setTk_siteIns (s : State) (p : Nat) (v : Timekeeper) : (s.setTk p v).siteIns = s.siteIns := rfl
@[simp] theorem State.setTk_echos (s : State) (p : Nat) (v : Timekeeper) : (s.setTk p v).echos = s.echos := rfl
@[simp] theorem State.setTk_fastRetry (s : State) (p : Nat) (v : Timekeeper) : (s.setTk p v).fastRetry = s.fastRetry := rfl
@[simp] theorem State.setTk_medias (s : State) (p : Nat) (v : Timekeeper) : (s.setTk p v).medias = s.medias := rfl
@[simp] theorem State.setTk_jitters (s : State) (p : Nat) (v : Timekeeper) : (s.setTk p v).jitters = s.jitters := rfl
@[simp] theorem State.setTk_sigs (s : State) (p : Nat) (v : Timekeeper) : (s.setTk p v).sigs = s.sigs := rfl
@[simp] theorem State.setTk_queues (s : State) (p : Nat) (v : Timekeeper) : (s.setTk p v).queues = s.queues := rfl
@[simp] theorem State.setTk_ports (s : State) (p : Nat) (v : Timekeeper) : (s.setTk p v).ports = s.ports := rfl
@[simp] theorem State.setTk_hatches (s : State) (p : Nat) (v : Timekeeper) : (s.setTk p v).hatches = s.hatches := rfl
@[simp] theorem State.setTk_hatchMem (s : State) (p : Nat) (v : Timekeeper) : (s.setTk p v).hatchMem = s.hatchMem := rfl
@[simp] theorem State.setTk_shapers (s : State) (p : Nat) (v : Timekeeper) : (s.setTk p v).shapers = s.shapers := rfl
@[simp] theorem State.setTk_shRates (s : State) (p : Nat) (v : Timekeeper) : (s.setTk p v).shRates = s.shRates := rfl
@[simp] theorem State.setTk_highways (s : State) (p : Nat) (v : Timekeeper) : (s.setTk p v).highways = s.highways := rfl
@[simp] theorem State.setTk_tks (s : State) (p : Nat) (v : Timekeeper) : (s.setTk p v).tks = Sparse.put {} s.tks p v := rfl
@[simp] theorem State.setTk_hold (s : State) (p : Nat) (v : Timekeeper) : (s.setTk p v).hold = s.hold := rfl
@[simp] theorem State.setTk_therms (s : State) (p : Nat) (v : Timekeeper) : (s.setTk p v).therms = s.therms := rfl
@[simp] theorem State.setTk_feAt (s : State) (p : Nat) (v : Timekeeper) : (s.setTk p v).feAt = s.feAt := rfl
@[simp] theorem State.setTk_convs (s : State) (p : Nat) (v : Timekeeper) : (s.setTk p v).convs = s.convs := rfl
@[simp] theorem State.setTk_ptCaps (s : State) (p : Nat) (v : Timekeeper) : (s.setTk p v).ptCaps = s.ptCaps := rfl
@[simp] theorem State.setTk_island (s : State) (p : Nat) (v : Timekeeper) : (s.setTk p v).island = s.island := rfl
@[simp] theorem State.setTk_mailbox (s : State) (p : Nat) (v : Timekeeper) : (s.setTk p v).mailbox = s.mailbox := rfl
@[simp] theorem State.setTk_wds (s : State) (p : Nat) (v : Timekeeper) : (s.setTk p v).wds = s.wds := rfl
@[simp] theorem State.setTk_ekLanes (s : State) (p : Nat) (v : Timekeeper) : (s.setTk p v).ekLanes = s.ekLanes := rfl
@[simp] theorem State.setTk_pairs (s : State) (p : Nat) (v : Timekeeper) : (s.setTk p v).pairs = s.pairs := rfl
@[simp] theorem State.setTk_mirrors (s : State) (p : Nat) (v : Timekeeper) : (s.setTk p v).mirrors = s.mirrors := rfl
@[simp] theorem State.setTk_epk (s : State) (p : Nat) (v : Timekeeper) : (s.setTk p v).epk = s.epk := rfl

/-! ### setChan -/

@[simp] theorem State.setChan_pending (s : State) (g : Nat) (c : Chan) : (s.setChan g c).pending = s.pending := rfl
@[simp] theorem State.setChan_now (s : State) (g : Nat) (c : Chan) : (s.setChan g c).now = s.now := rfl
@[simp] theorem State.setChan_draws (s : State) (g : Nat) (c : Chan) : (s.setChan g c).draws = s.draws := rfl
@[simp] theorem State.setChan_out (s : State) (g : Nat) (c : Chan) : (s.setChan g c).out = s.out := rfl
@[simp] theorem State.setChan_regs (s : State) (g : Nat) (c : Chan) : (s.setChan g c).regs = s.regs := rfl
@[simp] theorem State.setChan_pf (s : State) (g : Nat) (c : Chan) : (s.setChan g c).pf = s.pf := rfl
@[simp] theorem State.setChan_vfs (s : State) (g : Nat) (c : Chan) : (s.setChan g c).vfs = s.vfs := rfl
@[simp] theorem State.setChan_msix (s : State) (g : Nat) (c : Chan) : (s.setChan g c).msix = s.msix := rfl
@[simp] theorem State.setChan_aer (s : State) (g : Nat) (c : Chan) : (s.setChan g c).aer = s.aer := rfl
@[simp] theorem State.setChan_aers (s : State) (g : Nat) (c : Chan) : (s.setChan g c).aers = s.aers := rfl
@[simp] theorem State.setChan_flrs (s : State) (g : Nat) (c : Chan) : (s.setChan g c).flrs = s.flrs := rfl
@[simp] theorem State.setChan_pairHi (s : State) (g : Nat) (c : Chan) : (s.setChan g c).pairHi = s.pairHi := rfl
@[simp] theorem State.setChan_notes (s : State) (g : Nat) (c : Chan) : (s.setChan g c).notes = s.notes := rfl
@[simp] theorem State.setChan_lockSince (s : State) (g : Nat) (c : Chan) : (s.setChan g c).lockSince = s.lockSince := rfl
@[simp] theorem State.setChan_agreeSince (s : State) (g : Nat) (c : Chan) : (s.setChan g c).agreeSince = s.agreeSince := rfl
@[simp] theorem State.setChan_shadow48 (s : State) (g : Nat) (c : Chan) : (s.setChan g c).shadow48 = s.shadow48 := rfl
@[simp] theorem State.setChan_cnt48 (s : State) (g : Nat) (c : Chan) : (s.setChan g c).cnt48 = s.cnt48 := rfl
@[simp] theorem State.setChan_frozen (s : State) (g : Nat) (c : Chan) : (s.setChan g c).frozen = s.frozen := rfl
@[simp] theorem State.setChan_frzCur (s : State) (g : Nat) (c : Chan) : (s.setChan g c).frzCur = s.frzCur := rfl
@[simp] theorem State.setChan_frzHist (s : State) (g : Nat) (c : Chan) : (s.setChan g c).frzHist = s.frzHist := rfl
@[simp] theorem State.setChan_frzSeq (s : State) (g : Nat) (c : Chan) : (s.setChan g c).frzSeq = s.frzSeq := rfl
@[simp] theorem State.setChan_frzCap (s : State) (g : Nat) (c : Chan) : (s.setChan g c).frzCap = s.frzCap := rfl
@[simp] theorem State.setChan_frzHistCap (s : State) (g : Nat) (c : Chan) : (s.setChan g c).frzHistCap = s.frzHistCap := rfl
@[simp] theorem State.setChan_pfFrozenTick (s : State) (g : Nat) (c : Chan) : (s.setChan g c).pfFrozenTick = s.pfFrozenTick := rfl
@[simp] theorem State.setChan_pins (s : State) (g : Nat) (c : Chan) : (s.setChan g c).pins = s.pins := rfl
@[simp] theorem State.setChan_chip (s : State) (g : Nat) (c : Chan) : (s.setChan g c).chip = s.chip := rfl
@[simp] theorem State.setChan_plates (s : State) (g : Nat) (c : Chan) : (s.setChan g c).plates = s.plates := rfl
@[simp] theorem State.setChan_storeErrs (s : State) (g : Nat) (c : Chan) : (s.setChan g c).storeErrs = s.storeErrs := rfl
@[simp] theorem State.setChan_gravers (s : State) (g : Nat) (c : Chan) : (s.setChan g c).gravers = s.gravers := rfl
@[simp] theorem State.setChan_dmaTens (s : State) (g : Nat) (c : Chan) : (s.setChan g c).dmaTens = s.dmaTens := rfl
@[simp] theorem State.setChan_dmaLast (s : State) (g : Nat) (c : Chan) : (s.setChan g c).dmaLast = s.dmaLast := rfl
@[simp] theorem State.setChan_fusesBlown (s : State) (g : Nat) (c : Chan) : (s.setChan g c).fusesBlown = s.fusesBlown := rfl
@[simp] theorem State.setChan_fuses (s : State) (g : Nat) (c : Chan) : (s.setChan g c).fuses = s.fuses := rfl
@[simp] theorem State.setChan_life (s : State) (g : Nat) (c : Chan) : (s.setChan g c).life = s.life := rfl
@[simp] theorem State.setChan_tap (s : State) (g : Nat) (c : Chan) : (s.setChan g c).tap = s.tap := rfl
@[simp] theorem State.setChan_tb (s : State) (g : Nat) (c : Chan) : (s.setChan g c).tb = s.tb := rfl
@[simp] theorem State.setChan_chans (s : State) (g : Nat) (c : Chan) : (s.setChan g c).chans = Sparse.put {} s.chans g c := rfl
@[simp] theorem State.setChan_vec2 (s : State) (g : Nat) (c : Chan) : (s.setChan g c).vec2 = s.vec2 := rfl
@[simp] theorem State.setChan_arb (s : State) (g : Nat) (c : Chan) : (s.setChan g c).arb = s.arb := rfl
@[simp] theorem State.setChan_laneGrants (s : State) (g : Nat) (c : Chan) : (s.setChan g c).laneGrants = s.laneGrants := rfl
@[simp] theorem State.setChan_epkGrants (s : State) (g : Nat) (c : Chan) : (s.setChan g c).epkGrants = s.epkGrants := rfl
@[simp] theorem State.setChan_imprGrants (s : State) (g : Nat) (c : Chan) : (s.setChan g c).imprGrants = s.imprGrants := rfl
@[simp] theorem State.setChan_quietReqs (s : State) (g : Nat) (c : Chan) : (s.setChan g c).quietReqs = s.quietReqs := rfl
@[simp] theorem State.setChan_wakes (s : State) (g : Nat) (c : Chan) : (s.setChan g c).wakes = s.wakes := rfl
@[simp] theorem State.setChan_quiet (s : State) (g : Nat) (c : Chan) : (s.setChan g c).quiet = s.quiet := rfl
@[simp] theorem State.setChan_siteIns (s : State) (g : Nat) (c : Chan) : (s.setChan g c).siteIns = s.siteIns := rfl
@[simp] theorem State.setChan_echos (s : State) (g : Nat) (c : Chan) : (s.setChan g c).echos = s.echos := rfl
@[simp] theorem State.setChan_fastRetry (s : State) (g : Nat) (c : Chan) : (s.setChan g c).fastRetry = s.fastRetry := rfl
@[simp] theorem State.setChan_medias (s : State) (g : Nat) (c : Chan) : (s.setChan g c).medias = s.medias := rfl
@[simp] theorem State.setChan_jitters (s : State) (g : Nat) (c : Chan) : (s.setChan g c).jitters = s.jitters := rfl
@[simp] theorem State.setChan_sigs (s : State) (g : Nat) (c : Chan) : (s.setChan g c).sigs = s.sigs := rfl
@[simp] theorem State.setChan_queues (s : State) (g : Nat) (c : Chan) : (s.setChan g c).queues = s.queues := rfl
@[simp] theorem State.setChan_ports (s : State) (g : Nat) (c : Chan) : (s.setChan g c).ports = s.ports := rfl
@[simp] theorem State.setChan_hatches (s : State) (g : Nat) (c : Chan) : (s.setChan g c).hatches = s.hatches := rfl
@[simp] theorem State.setChan_hatchMem (s : State) (g : Nat) (c : Chan) : (s.setChan g c).hatchMem = s.hatchMem := rfl
@[simp] theorem State.setChan_shapers (s : State) (g : Nat) (c : Chan) : (s.setChan g c).shapers = s.shapers := rfl
@[simp] theorem State.setChan_shRates (s : State) (g : Nat) (c : Chan) : (s.setChan g c).shRates = s.shRates := rfl
@[simp] theorem State.setChan_highways (s : State) (g : Nat) (c : Chan) : (s.setChan g c).highways = s.highways := rfl
@[simp] theorem State.setChan_tks (s : State) (g : Nat) (c : Chan) : (s.setChan g c).tks = s.tks := rfl
@[simp] theorem State.setChan_hold (s : State) (g : Nat) (c : Chan) : (s.setChan g c).hold = s.hold := rfl
@[simp] theorem State.setChan_therms (s : State) (g : Nat) (c : Chan) : (s.setChan g c).therms = s.therms := rfl
@[simp] theorem State.setChan_feAt (s : State) (g : Nat) (c : Chan) : (s.setChan g c).feAt = s.feAt := rfl
@[simp] theorem State.setChan_convs (s : State) (g : Nat) (c : Chan) : (s.setChan g c).convs = s.convs := rfl
@[simp] theorem State.setChan_ptCaps (s : State) (g : Nat) (c : Chan) : (s.setChan g c).ptCaps = s.ptCaps := rfl
@[simp] theorem State.setChan_island (s : State) (g : Nat) (c : Chan) : (s.setChan g c).island = s.island := rfl
@[simp] theorem State.setChan_mailbox (s : State) (g : Nat) (c : Chan) : (s.setChan g c).mailbox = s.mailbox := rfl
@[simp] theorem State.setChan_wds (s : State) (g : Nat) (c : Chan) : (s.setChan g c).wds = s.wds := rfl
@[simp] theorem State.setChan_ekLanes (s : State) (g : Nat) (c : Chan) : (s.setChan g c).ekLanes = s.ekLanes := rfl
@[simp] theorem State.setChan_pairs (s : State) (g : Nat) (c : Chan) : (s.setChan g c).pairs = s.pairs := rfl
@[simp] theorem State.setChan_mirrors (s : State) (g : Nat) (c : Chan) : (s.setChan g c).mirrors = s.mirrors := rfl
@[simp] theorem State.setChan_epk (s : State) (g : Nat) (c : Chan) : (s.setChan g c).epk = s.epk := rfl

/-! ### setEcho -/

@[simp] theorem State.setEcho_pending (s : State) (g : Nat) (e : Echo) : (s.setEcho g e).pending = s.pending := rfl
@[simp] theorem State.setEcho_now (s : State) (g : Nat) (e : Echo) : (s.setEcho g e).now = s.now := rfl
@[simp] theorem State.setEcho_draws (s : State) (g : Nat) (e : Echo) : (s.setEcho g e).draws = s.draws := rfl
@[simp] theorem State.setEcho_out (s : State) (g : Nat) (e : Echo) : (s.setEcho g e).out = s.out := rfl
@[simp] theorem State.setEcho_regs (s : State) (g : Nat) (e : Echo) : (s.setEcho g e).regs = s.regs := rfl
@[simp] theorem State.setEcho_pf (s : State) (g : Nat) (e : Echo) : (s.setEcho g e).pf = s.pf := rfl
@[simp] theorem State.setEcho_vfs (s : State) (g : Nat) (e : Echo) : (s.setEcho g e).vfs = s.vfs := rfl
@[simp] theorem State.setEcho_msix (s : State) (g : Nat) (e : Echo) : (s.setEcho g e).msix = s.msix := rfl
@[simp] theorem State.setEcho_aer (s : State) (g : Nat) (e : Echo) : (s.setEcho g e).aer = s.aer := rfl
@[simp] theorem State.setEcho_aers (s : State) (g : Nat) (e : Echo) : (s.setEcho g e).aers = s.aers := rfl
@[simp] theorem State.setEcho_flrs (s : State) (g : Nat) (e : Echo) : (s.setEcho g e).flrs = s.flrs := rfl
@[simp] theorem State.setEcho_pairHi (s : State) (g : Nat) (e : Echo) : (s.setEcho g e).pairHi = s.pairHi := rfl
@[simp] theorem State.setEcho_notes (s : State) (g : Nat) (e : Echo) : (s.setEcho g e).notes = s.notes := rfl
@[simp] theorem State.setEcho_lockSince (s : State) (g : Nat) (e : Echo) : (s.setEcho g e).lockSince = s.lockSince := rfl
@[simp] theorem State.setEcho_agreeSince (s : State) (g : Nat) (e : Echo) : (s.setEcho g e).agreeSince = s.agreeSince := rfl
@[simp] theorem State.setEcho_shadow48 (s : State) (g : Nat) (e : Echo) : (s.setEcho g e).shadow48 = s.shadow48 := rfl
@[simp] theorem State.setEcho_cnt48 (s : State) (g : Nat) (e : Echo) : (s.setEcho g e).cnt48 = s.cnt48 := rfl
@[simp] theorem State.setEcho_frozen (s : State) (g : Nat) (e : Echo) : (s.setEcho g e).frozen = s.frozen := rfl
@[simp] theorem State.setEcho_frzCur (s : State) (g : Nat) (e : Echo) : (s.setEcho g e).frzCur = s.frzCur := rfl
@[simp] theorem State.setEcho_frzHist (s : State) (g : Nat) (e : Echo) : (s.setEcho g e).frzHist = s.frzHist := rfl
@[simp] theorem State.setEcho_frzSeq (s : State) (g : Nat) (e : Echo) : (s.setEcho g e).frzSeq = s.frzSeq := rfl
@[simp] theorem State.setEcho_frzCap (s : State) (g : Nat) (e : Echo) : (s.setEcho g e).frzCap = s.frzCap := rfl
@[simp] theorem State.setEcho_frzHistCap (s : State) (g : Nat) (e : Echo) : (s.setEcho g e).frzHistCap = s.frzHistCap := rfl
@[simp] theorem State.setEcho_pfFrozenTick (s : State) (g : Nat) (e : Echo) : (s.setEcho g e).pfFrozenTick = s.pfFrozenTick := rfl
@[simp] theorem State.setEcho_pins (s : State) (g : Nat) (e : Echo) : (s.setEcho g e).pins = s.pins := rfl
@[simp] theorem State.setEcho_chip (s : State) (g : Nat) (e : Echo) : (s.setEcho g e).chip = s.chip := rfl
@[simp] theorem State.setEcho_plates (s : State) (g : Nat) (e : Echo) : (s.setEcho g e).plates = s.plates := rfl
@[simp] theorem State.setEcho_storeErrs (s : State) (g : Nat) (e : Echo) : (s.setEcho g e).storeErrs = s.storeErrs := rfl
@[simp] theorem State.setEcho_gravers (s : State) (g : Nat) (e : Echo) : (s.setEcho g e).gravers = s.gravers := rfl
@[simp] theorem State.setEcho_dmaTens (s : State) (g : Nat) (e : Echo) : (s.setEcho g e).dmaTens = s.dmaTens := rfl
@[simp] theorem State.setEcho_dmaLast (s : State) (g : Nat) (e : Echo) : (s.setEcho g e).dmaLast = s.dmaLast := rfl
@[simp] theorem State.setEcho_fusesBlown (s : State) (g : Nat) (e : Echo) : (s.setEcho g e).fusesBlown = s.fusesBlown := rfl
@[simp] theorem State.setEcho_fuses (s : State) (g : Nat) (e : Echo) : (s.setEcho g e).fuses = s.fuses := rfl
@[simp] theorem State.setEcho_life (s : State) (g : Nat) (e : Echo) : (s.setEcho g e).life = s.life := rfl
@[simp] theorem State.setEcho_tap (s : State) (g : Nat) (e : Echo) : (s.setEcho g e).tap = s.tap := rfl
@[simp] theorem State.setEcho_tb (s : State) (g : Nat) (e : Echo) : (s.setEcho g e).tb = s.tb := rfl
@[simp] theorem State.setEcho_chans (s : State) (g : Nat) (e : Echo) : (s.setEcho g e).chans = s.chans := rfl
@[simp] theorem State.setEcho_vec2 (s : State) (g : Nat) (e : Echo) : (s.setEcho g e).vec2 = s.vec2 := rfl
@[simp] theorem State.setEcho_arb (s : State) (g : Nat) (e : Echo) : (s.setEcho g e).arb = s.arb := rfl
@[simp] theorem State.setEcho_laneGrants (s : State) (g : Nat) (e : Echo) : (s.setEcho g e).laneGrants = s.laneGrants := rfl
@[simp] theorem State.setEcho_epkGrants (s : State) (g : Nat) (e : Echo) : (s.setEcho g e).epkGrants = s.epkGrants := rfl
@[simp] theorem State.setEcho_imprGrants (s : State) (g : Nat) (e : Echo) : (s.setEcho g e).imprGrants = s.imprGrants := rfl
@[simp] theorem State.setEcho_quietReqs (s : State) (g : Nat) (e : Echo) : (s.setEcho g e).quietReqs = s.quietReqs := rfl
@[simp] theorem State.setEcho_wakes (s : State) (g : Nat) (e : Echo) : (s.setEcho g e).wakes = s.wakes := rfl
@[simp] theorem State.setEcho_quiet (s : State) (g : Nat) (e : Echo) : (s.setEcho g e).quiet = s.quiet := rfl
@[simp] theorem State.setEcho_siteIns (s : State) (g : Nat) (e : Echo) : (s.setEcho g e).siteIns = s.siteIns := rfl
@[simp] theorem State.setEcho_echos (s : State) (g : Nat) (e : Echo) : (s.setEcho g e).echos = Sparse.put {} s.echos g e := rfl
@[simp] theorem State.setEcho_fastRetry (s : State) (g : Nat) (e : Echo) : (s.setEcho g e).fastRetry = s.fastRetry := rfl
@[simp] theorem State.setEcho_medias (s : State) (g : Nat) (e : Echo) : (s.setEcho g e).medias = s.medias := rfl
@[simp] theorem State.setEcho_jitters (s : State) (g : Nat) (e : Echo) : (s.setEcho g e).jitters = s.jitters := rfl
@[simp] theorem State.setEcho_sigs (s : State) (g : Nat) (e : Echo) : (s.setEcho g e).sigs = s.sigs := rfl
@[simp] theorem State.setEcho_queues (s : State) (g : Nat) (e : Echo) : (s.setEcho g e).queues = s.queues := rfl
@[simp] theorem State.setEcho_ports (s : State) (g : Nat) (e : Echo) : (s.setEcho g e).ports = s.ports := rfl
@[simp] theorem State.setEcho_hatches (s : State) (g : Nat) (e : Echo) : (s.setEcho g e).hatches = s.hatches := rfl
@[simp] theorem State.setEcho_hatchMem (s : State) (g : Nat) (e : Echo) : (s.setEcho g e).hatchMem = s.hatchMem := rfl
@[simp] theorem State.setEcho_shapers (s : State) (g : Nat) (e : Echo) : (s.setEcho g e).shapers = s.shapers := rfl
@[simp] theorem State.setEcho_shRates (s : State) (g : Nat) (e : Echo) : (s.setEcho g e).shRates = s.shRates := rfl
@[simp] theorem State.setEcho_highways (s : State) (g : Nat) (e : Echo) : (s.setEcho g e).highways = s.highways := rfl
@[simp] theorem State.setEcho_tks (s : State) (g : Nat) (e : Echo) : (s.setEcho g e).tks = s.tks := rfl
@[simp] theorem State.setEcho_hold (s : State) (g : Nat) (e : Echo) : (s.setEcho g e).hold = s.hold := rfl
@[simp] theorem State.setEcho_therms (s : State) (g : Nat) (e : Echo) : (s.setEcho g e).therms = s.therms := rfl
@[simp] theorem State.setEcho_feAt (s : State) (g : Nat) (e : Echo) : (s.setEcho g e).feAt = s.feAt := rfl
@[simp] theorem State.setEcho_convs (s : State) (g : Nat) (e : Echo) : (s.setEcho g e).convs = s.convs := rfl
@[simp] theorem State.setEcho_ptCaps (s : State) (g : Nat) (e : Echo) : (s.setEcho g e).ptCaps = s.ptCaps := rfl
@[simp] theorem State.setEcho_island (s : State) (g : Nat) (e : Echo) : (s.setEcho g e).island = s.island := rfl
@[simp] theorem State.setEcho_mailbox (s : State) (g : Nat) (e : Echo) : (s.setEcho g e).mailbox = s.mailbox := rfl
@[simp] theorem State.setEcho_wds (s : State) (g : Nat) (e : Echo) : (s.setEcho g e).wds = s.wds := rfl
@[simp] theorem State.setEcho_ekLanes (s : State) (g : Nat) (e : Echo) : (s.setEcho g e).ekLanes = s.ekLanes := rfl
@[simp] theorem State.setEcho_pairs (s : State) (g : Nat) (e : Echo) : (s.setEcho g e).pairs = s.pairs := rfl
@[simp] theorem State.setEcho_mirrors (s : State) (g : Nat) (e : Echo) : (s.setEcho g e).mirrors = s.mirrors := rfl
@[simp] theorem State.setEcho_epk (s : State) (g : Nat) (e : Echo) : (s.setEcho g e).epk = s.epk := rfl

/-! ### setSig -/

@[simp] theorem State.setSig_pending (s : State) (g : Nat) (v : Sig) : (s.setSig g v).pending = s.pending := rfl
@[simp] theorem State.setSig_now (s : State) (g : Nat) (v : Sig) : (s.setSig g v).now = s.now := rfl
@[simp] theorem State.setSig_draws (s : State) (g : Nat) (v : Sig) : (s.setSig g v).draws = s.draws := rfl
@[simp] theorem State.setSig_out (s : State) (g : Nat) (v : Sig) : (s.setSig g v).out = s.out := rfl
@[simp] theorem State.setSig_regs (s : State) (g : Nat) (v : Sig) : (s.setSig g v).regs = s.regs := rfl
@[simp] theorem State.setSig_pf (s : State) (g : Nat) (v : Sig) : (s.setSig g v).pf = s.pf := rfl
@[simp] theorem State.setSig_vfs (s : State) (g : Nat) (v : Sig) : (s.setSig g v).vfs = s.vfs := rfl
@[simp] theorem State.setSig_msix (s : State) (g : Nat) (v : Sig) : (s.setSig g v).msix = s.msix := rfl
@[simp] theorem State.setSig_aer (s : State) (g : Nat) (v : Sig) : (s.setSig g v).aer = s.aer := rfl
@[simp] theorem State.setSig_aers (s : State) (g : Nat) (v : Sig) : (s.setSig g v).aers = s.aers := rfl
@[simp] theorem State.setSig_flrs (s : State) (g : Nat) (v : Sig) : (s.setSig g v).flrs = s.flrs := rfl
@[simp] theorem State.setSig_pairHi (s : State) (g : Nat) (v : Sig) : (s.setSig g v).pairHi = s.pairHi := rfl
@[simp] theorem State.setSig_notes (s : State) (g : Nat) (v : Sig) : (s.setSig g v).notes = s.notes := rfl
@[simp] theorem State.setSig_lockSince (s : State) (g : Nat) (v : Sig) : (s.setSig g v).lockSince = s.lockSince := rfl
@[simp] theorem State.setSig_agreeSince (s : State) (g : Nat) (v : Sig) : (s.setSig g v).agreeSince = s.agreeSince := rfl
@[simp] theorem State.setSig_shadow48 (s : State) (g : Nat) (v : Sig) : (s.setSig g v).shadow48 = s.shadow48 := rfl
@[simp] theorem State.setSig_cnt48 (s : State) (g : Nat) (v : Sig) : (s.setSig g v).cnt48 = s.cnt48 := rfl
@[simp] theorem State.setSig_frozen (s : State) (g : Nat) (v : Sig) : (s.setSig g v).frozen = s.frozen := rfl
@[simp] theorem State.setSig_frzCur (s : State) (g : Nat) (v : Sig) : (s.setSig g v).frzCur = s.frzCur := rfl
@[simp] theorem State.setSig_frzHist (s : State) (g : Nat) (v : Sig) : (s.setSig g v).frzHist = s.frzHist := rfl
@[simp] theorem State.setSig_frzSeq (s : State) (g : Nat) (v : Sig) : (s.setSig g v).frzSeq = s.frzSeq := rfl
@[simp] theorem State.setSig_frzCap (s : State) (g : Nat) (v : Sig) : (s.setSig g v).frzCap = s.frzCap := rfl
@[simp] theorem State.setSig_frzHistCap (s : State) (g : Nat) (v : Sig) : (s.setSig g v).frzHistCap = s.frzHistCap := rfl
@[simp] theorem State.setSig_pfFrozenTick (s : State) (g : Nat) (v : Sig) : (s.setSig g v).pfFrozenTick = s.pfFrozenTick := rfl
@[simp] theorem State.setSig_pins (s : State) (g : Nat) (v : Sig) : (s.setSig g v).pins = s.pins := rfl
@[simp] theorem State.setSig_chip (s : State) (g : Nat) (v : Sig) : (s.setSig g v).chip = s.chip := rfl
@[simp] theorem State.setSig_plates (s : State) (g : Nat) (v : Sig) : (s.setSig g v).plates = s.plates := rfl
@[simp] theorem State.setSig_storeErrs (s : State) (g : Nat) (v : Sig) : (s.setSig g v).storeErrs = s.storeErrs := rfl
@[simp] theorem State.setSig_gravers (s : State) (g : Nat) (v : Sig) : (s.setSig g v).gravers = s.gravers := rfl
@[simp] theorem State.setSig_dmaTens (s : State) (g : Nat) (v : Sig) : (s.setSig g v).dmaTens = s.dmaTens := rfl
@[simp] theorem State.setSig_dmaLast (s : State) (g : Nat) (v : Sig) : (s.setSig g v).dmaLast = s.dmaLast := rfl
@[simp] theorem State.setSig_fusesBlown (s : State) (g : Nat) (v : Sig) : (s.setSig g v).fusesBlown = s.fusesBlown := rfl
@[simp] theorem State.setSig_fuses (s : State) (g : Nat) (v : Sig) : (s.setSig g v).fuses = s.fuses := rfl
@[simp] theorem State.setSig_life (s : State) (g : Nat) (v : Sig) : (s.setSig g v).life = s.life := rfl
@[simp] theorem State.setSig_tap (s : State) (g : Nat) (v : Sig) : (s.setSig g v).tap = s.tap := rfl
@[simp] theorem State.setSig_tb (s : State) (g : Nat) (v : Sig) : (s.setSig g v).tb = s.tb := rfl
@[simp] theorem State.setSig_chans (s : State) (g : Nat) (v : Sig) : (s.setSig g v).chans = s.chans := rfl
@[simp] theorem State.setSig_vec2 (s : State) (g : Nat) (v : Sig) : (s.setSig g v).vec2 = s.vec2 := rfl
@[simp] theorem State.setSig_arb (s : State) (g : Nat) (v : Sig) : (s.setSig g v).arb = s.arb := rfl
@[simp] theorem State.setSig_laneGrants (s : State) (g : Nat) (v : Sig) : (s.setSig g v).laneGrants = s.laneGrants := rfl
@[simp] theorem State.setSig_epkGrants (s : State) (g : Nat) (v : Sig) : (s.setSig g v).epkGrants = s.epkGrants := rfl
@[simp] theorem State.setSig_imprGrants (s : State) (g : Nat) (v : Sig) : (s.setSig g v).imprGrants = s.imprGrants := rfl
@[simp] theorem State.setSig_quietReqs (s : State) (g : Nat) (v : Sig) : (s.setSig g v).quietReqs = s.quietReqs := rfl
@[simp] theorem State.setSig_wakes (s : State) (g : Nat) (v : Sig) : (s.setSig g v).wakes = s.wakes := rfl
@[simp] theorem State.setSig_quiet (s : State) (g : Nat) (v : Sig) : (s.setSig g v).quiet = s.quiet := rfl
@[simp] theorem State.setSig_siteIns (s : State) (g : Nat) (v : Sig) : (s.setSig g v).siteIns = s.siteIns := rfl
@[simp] theorem State.setSig_echos (s : State) (g : Nat) (v : Sig) : (s.setSig g v).echos = s.echos := rfl
@[simp] theorem State.setSig_fastRetry (s : State) (g : Nat) (v : Sig) : (s.setSig g v).fastRetry = s.fastRetry := rfl
@[simp] theorem State.setSig_medias (s : State) (g : Nat) (v : Sig) : (s.setSig g v).medias = s.medias := rfl
@[simp] theorem State.setSig_jitters (s : State) (g : Nat) (v : Sig) : (s.setSig g v).jitters = s.jitters := rfl
@[simp] theorem State.setSig_sigs (s : State) (g : Nat) (v : Sig) : (s.setSig g v).sigs = Sparse.put {} s.sigs g v := rfl
@[simp] theorem State.setSig_queues (s : State) (g : Nat) (v : Sig) : (s.setSig g v).queues = s.queues := rfl
@[simp] theorem State.setSig_ports (s : State) (g : Nat) (v : Sig) : (s.setSig g v).ports = s.ports := rfl
@[simp] theorem State.setSig_hatches (s : State) (g : Nat) (v : Sig) : (s.setSig g v).hatches = s.hatches := rfl
@[simp] theorem State.setSig_hatchMem (s : State) (g : Nat) (v : Sig) : (s.setSig g v).hatchMem = s.hatchMem := rfl
@[simp] theorem State.setSig_shapers (s : State) (g : Nat) (v : Sig) : (s.setSig g v).shapers = s.shapers := rfl
@[simp] theorem State.setSig_shRates (s : State) (g : Nat) (v : Sig) : (s.setSig g v).shRates = s.shRates := rfl
@[simp] theorem State.setSig_highways (s : State) (g : Nat) (v : Sig) : (s.setSig g v).highways = s.highways := rfl
@[simp] theorem State.setSig_tks (s : State) (g : Nat) (v : Sig) : (s.setSig g v).tks = s.tks := rfl
@[simp] theorem State.setSig_hold (s : State) (g : Nat) (v : Sig) : (s.setSig g v).hold = s.hold := rfl
@[simp] theorem State.setSig_therms (s : State) (g : Nat) (v : Sig) : (s.setSig g v).therms = s.therms := rfl
@[simp] theorem State.setSig_feAt (s : State) (g : Nat) (v : Sig) : (s.setSig g v).feAt = s.feAt := rfl
@[simp] theorem State.setSig_convs (s : State) (g : Nat) (v : Sig) : (s.setSig g v).convs = s.convs := rfl
@[simp] theorem State.setSig_ptCaps (s : State) (g : Nat) (v : Sig) : (s.setSig g v).ptCaps = s.ptCaps := rfl
@[simp] theorem State.setSig_island (s : State) (g : Nat) (v : Sig) : (s.setSig g v).island = s.island := rfl
@[simp] theorem State.setSig_mailbox (s : State) (g : Nat) (v : Sig) : (s.setSig g v).mailbox = s.mailbox := rfl
@[simp] theorem State.setSig_wds (s : State) (g : Nat) (v : Sig) : (s.setSig g v).wds = s.wds := rfl
@[simp] theorem State.setSig_ekLanes (s : State) (g : Nat) (v : Sig) : (s.setSig g v).ekLanes = s.ekLanes := rfl
@[simp] theorem State.setSig_pairs (s : State) (g : Nat) (v : Sig) : (s.setSig g v).pairs = s.pairs := rfl
@[simp] theorem State.setSig_mirrors (s : State) (g : Nat) (v : Sig) : (s.setSig g v).mirrors = s.mirrors := rfl
@[simp] theorem State.setSig_epk (s : State) (g : Nat) (v : Sig) : (s.setSig g v).epk = s.epk := rfl

/-! ### setAer -/

@[simp] theorem State.setAer_pending (s : State) (fn : Nat) (a : Aer) : (s.setAer fn a).pending = s.pending := rfl
@[simp] theorem State.setAer_now (s : State) (fn : Nat) (a : Aer) : (s.setAer fn a).now = s.now := rfl
@[simp] theorem State.setAer_draws (s : State) (fn : Nat) (a : Aer) : (s.setAer fn a).draws = s.draws := rfl
@[simp] theorem State.setAer_out (s : State) (fn : Nat) (a : Aer) : (s.setAer fn a).out = s.out := rfl
@[simp] theorem State.setAer_regs (s : State) (fn : Nat) (a : Aer) : (s.setAer fn a).regs = s.regs := rfl
@[simp] theorem State.setAer_pf (s : State) (fn : Nat) (a : Aer) : (s.setAer fn a).pf = s.pf := rfl
@[simp] theorem State.setAer_vfs (s : State) (fn : Nat) (a : Aer) : (s.setAer fn a).vfs = s.vfs := rfl
@[simp] theorem State.setAer_msix (s : State) (fn : Nat) (a : Aer) : (s.setAer fn a).msix = s.msix := rfl
@[simp] theorem State.setAer_aer (s : State) (fn : Nat) (a : Aer) : (s.setAer fn a).aer = s.aer := rfl
@[simp] theorem State.setAer_aers (s : State) (fn : Nat) (a : Aer) : (s.setAer fn a).aers = Sparse.put {} s.aers fn a := rfl
@[simp] theorem State.setAer_flrs (s : State) (fn : Nat) (a : Aer) : (s.setAer fn a).flrs = s.flrs := rfl
@[simp] theorem State.setAer_pairHi (s : State) (fn : Nat) (a : Aer) : (s.setAer fn a).pairHi = s.pairHi := rfl
@[simp] theorem State.setAer_notes (s : State) (fn : Nat) (a : Aer) : (s.setAer fn a).notes = s.notes := rfl
@[simp] theorem State.setAer_lockSince (s : State) (fn : Nat) (a : Aer) : (s.setAer fn a).lockSince = s.lockSince := rfl
@[simp] theorem State.setAer_agreeSince (s : State) (fn : Nat) (a : Aer) : (s.setAer fn a).agreeSince = s.agreeSince := rfl
@[simp] theorem State.setAer_shadow48 (s : State) (fn : Nat) (a : Aer) : (s.setAer fn a).shadow48 = s.shadow48 := rfl
@[simp] theorem State.setAer_cnt48 (s : State) (fn : Nat) (a : Aer) : (s.setAer fn a).cnt48 = s.cnt48 := rfl
@[simp] theorem State.setAer_frozen (s : State) (fn : Nat) (a : Aer) : (s.setAer fn a).frozen = s.frozen := rfl
@[simp] theorem State.setAer_frzCur (s : State) (fn : Nat) (a : Aer) : (s.setAer fn a).frzCur = s.frzCur := rfl
@[simp] theorem State.setAer_frzHist (s : State) (fn : Nat) (a : Aer) : (s.setAer fn a).frzHist = s.frzHist := rfl
@[simp] theorem State.setAer_frzSeq (s : State) (fn : Nat) (a : Aer) : (s.setAer fn a).frzSeq = s.frzSeq := rfl
@[simp] theorem State.setAer_frzCap (s : State) (fn : Nat) (a : Aer) : (s.setAer fn a).frzCap = s.frzCap := rfl
@[simp] theorem State.setAer_frzHistCap (s : State) (fn : Nat) (a : Aer) : (s.setAer fn a).frzHistCap = s.frzHistCap := rfl
@[simp] theorem State.setAer_pfFrozenTick (s : State) (fn : Nat) (a : Aer) : (s.setAer fn a).pfFrozenTick = s.pfFrozenTick := rfl
@[simp] theorem State.setAer_pins (s : State) (fn : Nat) (a : Aer) : (s.setAer fn a).pins = s.pins := rfl
@[simp] theorem State.setAer_chip (s : State) (fn : Nat) (a : Aer) : (s.setAer fn a).chip = s.chip := rfl
@[simp] theorem State.setAer_plates (s : State) (fn : Nat) (a : Aer) : (s.setAer fn a).plates = s.plates := rfl
@[simp] theorem State.setAer_storeErrs (s : State) (fn : Nat) (a : Aer) : (s.setAer fn a).storeErrs = s.storeErrs := rfl
@[simp] theorem State.setAer_gravers (s : State) (fn : Nat) (a : Aer) : (s.setAer fn a).gravers = s.gravers := rfl
@[simp] theorem State.setAer_dmaTens (s : State) (fn : Nat) (a : Aer) : (s.setAer fn a).dmaTens = s.dmaTens := rfl
@[simp] theorem State.setAer_dmaLast (s : State) (fn : Nat) (a : Aer) : (s.setAer fn a).dmaLast = s.dmaLast := rfl
@[simp] theorem State.setAer_fusesBlown (s : State) (fn : Nat) (a : Aer) : (s.setAer fn a).fusesBlown = s.fusesBlown := rfl
@[simp] theorem State.setAer_fuses (s : State) (fn : Nat) (a : Aer) : (s.setAer fn a).fuses = s.fuses := rfl
@[simp] theorem State.setAer_life (s : State) (fn : Nat) (a : Aer) : (s.setAer fn a).life = s.life := rfl
@[simp] theorem State.setAer_tap (s : State) (fn : Nat) (a : Aer) : (s.setAer fn a).tap = s.tap := rfl
@[simp] theorem State.setAer_tb (s : State) (fn : Nat) (a : Aer) : (s.setAer fn a).tb = s.tb := rfl
@[simp] theorem State.setAer_chans (s : State) (fn : Nat) (a : Aer) : (s.setAer fn a).chans = s.chans := rfl
@[simp] theorem State.setAer_vec2 (s : State) (fn : Nat) (a : Aer) : (s.setAer fn a).vec2 = s.vec2 := rfl
@[simp] theorem State.setAer_arb (s : State) (fn : Nat) (a : Aer) : (s.setAer fn a).arb = s.arb := rfl
@[simp] theorem State.setAer_laneGrants (s : State) (fn : Nat) (a : Aer) : (s.setAer fn a).laneGrants = s.laneGrants := rfl
@[simp] theorem State.setAer_epkGrants (s : State) (fn : Nat) (a : Aer) : (s.setAer fn a).epkGrants = s.epkGrants := rfl
@[simp] theorem State.setAer_imprGrants (s : State) (fn : Nat) (a : Aer) : (s.setAer fn a).imprGrants = s.imprGrants := rfl
@[simp] theorem State.setAer_quietReqs (s : State) (fn : Nat) (a : Aer) : (s.setAer fn a).quietReqs = s.quietReqs := rfl
@[simp] theorem State.setAer_wakes (s : State) (fn : Nat) (a : Aer) : (s.setAer fn a).wakes = s.wakes := rfl
@[simp] theorem State.setAer_quiet (s : State) (fn : Nat) (a : Aer) : (s.setAer fn a).quiet = s.quiet := rfl
@[simp] theorem State.setAer_siteIns (s : State) (fn : Nat) (a : Aer) : (s.setAer fn a).siteIns = s.siteIns := rfl
@[simp] theorem State.setAer_echos (s : State) (fn : Nat) (a : Aer) : (s.setAer fn a).echos = s.echos := rfl
@[simp] theorem State.setAer_fastRetry (s : State) (fn : Nat) (a : Aer) : (s.setAer fn a).fastRetry = s.fastRetry := rfl
@[simp] theorem State.setAer_medias (s : State) (fn : Nat) (a : Aer) : (s.setAer fn a).medias = s.medias := rfl
@[simp] theorem State.setAer_jitters (s : State) (fn : Nat) (a : Aer) : (s.setAer fn a).jitters = s.jitters := rfl
@[simp] theorem State.setAer_sigs (s : State) (fn : Nat) (a : Aer) : (s.setAer fn a).sigs = s.sigs := rfl
@[simp] theorem State.setAer_queues (s : State) (fn : Nat) (a : Aer) : (s.setAer fn a).queues = s.queues := rfl
@[simp] theorem State.setAer_ports (s : State) (fn : Nat) (a : Aer) : (s.setAer fn a).ports = s.ports := rfl
@[simp] theorem State.setAer_hatches (s : State) (fn : Nat) (a : Aer) : (s.setAer fn a).hatches = s.hatches := rfl
@[simp] theorem State.setAer_hatchMem (s : State) (fn : Nat) (a : Aer) : (s.setAer fn a).hatchMem = s.hatchMem := rfl
@[simp] theorem State.setAer_shapers (s : State) (fn : Nat) (a : Aer) : (s.setAer fn a).shapers = s.shapers := rfl
@[simp] theorem State.setAer_shRates (s : State) (fn : Nat) (a : Aer) : (s.setAer fn a).shRates = s.shRates := rfl
@[simp] theorem State.setAer_highways (s : State) (fn : Nat) (a : Aer) : (s.setAer fn a).highways = s.highways := rfl
@[simp] theorem State.setAer_tks (s : State) (fn : Nat) (a : Aer) : (s.setAer fn a).tks = s.tks := rfl
@[simp] theorem State.setAer_hold (s : State) (fn : Nat) (a : Aer) : (s.setAer fn a).hold = s.hold := rfl
@[simp] theorem State.setAer_therms (s : State) (fn : Nat) (a : Aer) : (s.setAer fn a).therms = s.therms := rfl
@[simp] theorem State.setAer_feAt (s : State) (fn : Nat) (a : Aer) : (s.setAer fn a).feAt = s.feAt := rfl
@[simp] theorem State.setAer_convs (s : State) (fn : Nat) (a : Aer) : (s.setAer fn a).convs = s.convs := rfl
@[simp] theorem State.setAer_ptCaps (s : State) (fn : Nat) (a : Aer) : (s.setAer fn a).ptCaps = s.ptCaps := rfl
@[simp] theorem State.setAer_island (s : State) (fn : Nat) (a : Aer) : (s.setAer fn a).island = s.island := rfl
@[simp] theorem State.setAer_mailbox (s : State) (fn : Nat) (a : Aer) : (s.setAer fn a).mailbox = s.mailbox := rfl
@[simp] theorem State.setAer_wds (s : State) (fn : Nat) (a : Aer) : (s.setAer fn a).wds = s.wds := rfl
@[simp] theorem State.setAer_ekLanes (s : State) (fn : Nat) (a : Aer) : (s.setAer fn a).ekLanes = s.ekLanes := rfl
@[simp] theorem State.setAer_pairs (s : State) (fn : Nat) (a : Aer) : (s.setAer fn a).pairs = s.pairs := rfl
@[simp] theorem State.setAer_mirrors (s : State) (fn : Nat) (a : Aer) : (s.setAer fn a).mirrors = s.mirrors := rfl
@[simp] theorem State.setAer_epk (s : State) (fn : Nat) (a : Aer) : (s.setAer fn a).epk = s.epk := rfl

/-! ### setEkLane -/

@[simp] theorem State.setEkLane_pending (s : State) (l : Nat) (v : EkLane) : (s.setEkLane l v).pending = s.pending := rfl
@[simp] theorem State.setEkLane_now (s : State) (l : Nat) (v : EkLane) : (s.setEkLane l v).now = s.now := rfl
@[simp] theorem State.setEkLane_draws (s : State) (l : Nat) (v : EkLane) : (s.setEkLane l v).draws = s.draws := rfl
@[simp] theorem State.setEkLane_out (s : State) (l : Nat) (v : EkLane) : (s.setEkLane l v).out = s.out := rfl
@[simp] theorem State.setEkLane_regs (s : State) (l : Nat) (v : EkLane) : (s.setEkLane l v).regs = s.regs := rfl
@[simp] theorem State.setEkLane_pf (s : State) (l : Nat) (v : EkLane) : (s.setEkLane l v).pf = s.pf := rfl
@[simp] theorem State.setEkLane_vfs (s : State) (l : Nat) (v : EkLane) : (s.setEkLane l v).vfs = s.vfs := rfl
@[simp] theorem State.setEkLane_msix (s : State) (l : Nat) (v : EkLane) : (s.setEkLane l v).msix = s.msix := rfl
@[simp] theorem State.setEkLane_aer (s : State) (l : Nat) (v : EkLane) : (s.setEkLane l v).aer = s.aer := rfl
@[simp] theorem State.setEkLane_aers (s : State) (l : Nat) (v : EkLane) : (s.setEkLane l v).aers = s.aers := rfl
@[simp] theorem State.setEkLane_flrs (s : State) (l : Nat) (v : EkLane) : (s.setEkLane l v).flrs = s.flrs := rfl
@[simp] theorem State.setEkLane_pairHi (s : State) (l : Nat) (v : EkLane) : (s.setEkLane l v).pairHi = s.pairHi := rfl
@[simp] theorem State.setEkLane_notes (s : State) (l : Nat) (v : EkLane) : (s.setEkLane l v).notes = s.notes := rfl
@[simp] theorem State.setEkLane_lockSince (s : State) (l : Nat) (v : EkLane) : (s.setEkLane l v).lockSince = s.lockSince := rfl
@[simp] theorem State.setEkLane_agreeSince (s : State) (l : Nat) (v : EkLane) : (s.setEkLane l v).agreeSince = s.agreeSince := rfl
@[simp] theorem State.setEkLane_shadow48 (s : State) (l : Nat) (v : EkLane) : (s.setEkLane l v).shadow48 = s.shadow48 := rfl
@[simp] theorem State.setEkLane_cnt48 (s : State) (l : Nat) (v : EkLane) : (s.setEkLane l v).cnt48 = s.cnt48 := rfl
@[simp] theorem State.setEkLane_frozen (s : State) (l : Nat) (v : EkLane) : (s.setEkLane l v).frozen = s.frozen := rfl
@[simp] theorem State.setEkLane_frzCur (s : State) (l : Nat) (v : EkLane) : (s.setEkLane l v).frzCur = s.frzCur := rfl
@[simp] theorem State.setEkLane_frzHist (s : State) (l : Nat) (v : EkLane) : (s.setEkLane l v).frzHist = s.frzHist := rfl
@[simp] theorem State.setEkLane_frzSeq (s : State) (l : Nat) (v : EkLane) : (s.setEkLane l v).frzSeq = s.frzSeq := rfl
@[simp] theorem State.setEkLane_frzCap (s : State) (l : Nat) (v : EkLane) : (s.setEkLane l v).frzCap = s.frzCap := rfl
@[simp] theorem State.setEkLane_frzHistCap (s : State) (l : Nat) (v : EkLane) : (s.setEkLane l v).frzHistCap = s.frzHistCap := rfl
@[simp] theorem State.setEkLane_pfFrozenTick (s : State) (l : Nat) (v : EkLane) : (s.setEkLane l v).pfFrozenTick = s.pfFrozenTick := rfl
@[simp] theorem State.setEkLane_pins (s : State) (l : Nat) (v : EkLane) : (s.setEkLane l v).pins = s.pins := rfl
@[simp] theorem State.setEkLane_chip (s : State) (l : Nat) (v : EkLane) : (s.setEkLane l v).chip = s.chip := rfl
@[simp] theorem State.setEkLane_plates (s : State) (l : Nat) (v : EkLane) : (s.setEkLane l v).plates = s.plates := rfl
@[simp] theorem State.setEkLane_storeErrs (s : State) (l : Nat) (v : EkLane) : (s.setEkLane l v).storeErrs = s.storeErrs := rfl
@[simp] theorem State.setEkLane_gravers (s : State) (l : Nat) (v : EkLane) : (s.setEkLane l v).gravers = s.gravers := rfl
@[simp] theorem State.setEkLane_dmaTens (s : State) (l : Nat) (v : EkLane) : (s.setEkLane l v).dmaTens = s.dmaTens := rfl
@[simp] theorem State.setEkLane_dmaLast (s : State) (l : Nat) (v : EkLane) : (s.setEkLane l v).dmaLast = s.dmaLast := rfl
@[simp] theorem State.setEkLane_fusesBlown (s : State) (l : Nat) (v : EkLane) : (s.setEkLane l v).fusesBlown = s.fusesBlown := rfl
@[simp] theorem State.setEkLane_fuses (s : State) (l : Nat) (v : EkLane) : (s.setEkLane l v).fuses = s.fuses := rfl
@[simp] theorem State.setEkLane_life (s : State) (l : Nat) (v : EkLane) : (s.setEkLane l v).life = s.life := rfl
@[simp] theorem State.setEkLane_tap (s : State) (l : Nat) (v : EkLane) : (s.setEkLane l v).tap = s.tap := rfl
@[simp] theorem State.setEkLane_tb (s : State) (l : Nat) (v : EkLane) : (s.setEkLane l v).tb = s.tb := rfl
@[simp] theorem State.setEkLane_chans (s : State) (l : Nat) (v : EkLane) : (s.setEkLane l v).chans = s.chans := rfl
@[simp] theorem State.setEkLane_vec2 (s : State) (l : Nat) (v : EkLane) : (s.setEkLane l v).vec2 = s.vec2 := rfl
@[simp] theorem State.setEkLane_arb (s : State) (l : Nat) (v : EkLane) : (s.setEkLane l v).arb = s.arb := rfl
@[simp] theorem State.setEkLane_laneGrants (s : State) (l : Nat) (v : EkLane) : (s.setEkLane l v).laneGrants = s.laneGrants := rfl
@[simp] theorem State.setEkLane_epkGrants (s : State) (l : Nat) (v : EkLane) : (s.setEkLane l v).epkGrants = s.epkGrants := rfl
@[simp] theorem State.setEkLane_imprGrants (s : State) (l : Nat) (v : EkLane) : (s.setEkLane l v).imprGrants = s.imprGrants := rfl
@[simp] theorem State.setEkLane_quietReqs (s : State) (l : Nat) (v : EkLane) : (s.setEkLane l v).quietReqs = s.quietReqs := rfl
@[simp] theorem State.setEkLane_wakes (s : State) (l : Nat) (v : EkLane) : (s.setEkLane l v).wakes = s.wakes := rfl
@[simp] theorem State.setEkLane_quiet (s : State) (l : Nat) (v : EkLane) : (s.setEkLane l v).quiet = s.quiet := rfl
@[simp] theorem State.setEkLane_siteIns (s : State) (l : Nat) (v : EkLane) : (s.setEkLane l v).siteIns = s.siteIns := rfl
@[simp] theorem State.setEkLane_echos (s : State) (l : Nat) (v : EkLane) : (s.setEkLane l v).echos = s.echos := rfl
@[simp] theorem State.setEkLane_fastRetry (s : State) (l : Nat) (v : EkLane) : (s.setEkLane l v).fastRetry = s.fastRetry := rfl
@[simp] theorem State.setEkLane_medias (s : State) (l : Nat) (v : EkLane) : (s.setEkLane l v).medias = s.medias := rfl
@[simp] theorem State.setEkLane_jitters (s : State) (l : Nat) (v : EkLane) : (s.setEkLane l v).jitters = s.jitters := rfl
@[simp] theorem State.setEkLane_sigs (s : State) (l : Nat) (v : EkLane) : (s.setEkLane l v).sigs = s.sigs := rfl
@[simp] theorem State.setEkLane_queues (s : State) (l : Nat) (v : EkLane) : (s.setEkLane l v).queues = s.queues := rfl
@[simp] theorem State.setEkLane_ports (s : State) (l : Nat) (v : EkLane) : (s.setEkLane l v).ports = s.ports := rfl
@[simp] theorem State.setEkLane_hatches (s : State) (l : Nat) (v : EkLane) : (s.setEkLane l v).hatches = s.hatches := rfl
@[simp] theorem State.setEkLane_hatchMem (s : State) (l : Nat) (v : EkLane) : (s.setEkLane l v).hatchMem = s.hatchMem := rfl
@[simp] theorem State.setEkLane_shapers (s : State) (l : Nat) (v : EkLane) : (s.setEkLane l v).shapers = s.shapers := rfl
@[simp] theorem State.setEkLane_shRates (s : State) (l : Nat) (v : EkLane) : (s.setEkLane l v).shRates = s.shRates := rfl
@[simp] theorem State.setEkLane_highways (s : State) (l : Nat) (v : EkLane) : (s.setEkLane l v).highways = s.highways := rfl
@[simp] theorem State.setEkLane_tks (s : State) (l : Nat) (v : EkLane) : (s.setEkLane l v).tks = s.tks := rfl
@[simp] theorem State.setEkLane_hold (s : State) (l : Nat) (v : EkLane) : (s.setEkLane l v).hold = s.hold := rfl
@[simp] theorem State.setEkLane_therms (s : State) (l : Nat) (v : EkLane) : (s.setEkLane l v).therms = s.therms := rfl
@[simp] theorem State.setEkLane_feAt (s : State) (l : Nat) (v : EkLane) : (s.setEkLane l v).feAt = s.feAt := rfl
@[simp] theorem State.setEkLane_convs (s : State) (l : Nat) (v : EkLane) : (s.setEkLane l v).convs = s.convs := rfl
@[simp] theorem State.setEkLane_ptCaps (s : State) (l : Nat) (v : EkLane) : (s.setEkLane l v).ptCaps = s.ptCaps := rfl
@[simp] theorem State.setEkLane_island (s : State) (l : Nat) (v : EkLane) : (s.setEkLane l v).island = s.island := rfl
@[simp] theorem State.setEkLane_mailbox (s : State) (l : Nat) (v : EkLane) : (s.setEkLane l v).mailbox = s.mailbox := rfl
@[simp] theorem State.setEkLane_wds (s : State) (l : Nat) (v : EkLane) : (s.setEkLane l v).wds = s.wds := rfl
@[simp] theorem State.setEkLane_ekLanes (s : State) (l : Nat) (v : EkLane) : (s.setEkLane l v).ekLanes = Sparse.put {} s.ekLanes l v := rfl
@[simp] theorem State.setEkLane_pairs (s : State) (l : Nat) (v : EkLane) : (s.setEkLane l v).pairs = s.pairs := rfl
@[simp] theorem State.setEkLane_mirrors (s : State) (l : Nat) (v : EkLane) : (s.setEkLane l v).mirrors = s.mirrors := rfl
@[simp] theorem State.setEkLane_epk (s : State) (l : Nat) (v : EkLane) : (s.setEkLane l v).epk = s.epk := rfl

/-! ### setPair -/

@[simp] theorem State.setPair_pending (s : State) (p : Nat) (v : PairPlate) : (s.setPair p v).pending = s.pending := rfl
@[simp] theorem State.setPair_now (s : State) (p : Nat) (v : PairPlate) : (s.setPair p v).now = s.now := rfl
@[simp] theorem State.setPair_draws (s : State) (p : Nat) (v : PairPlate) : (s.setPair p v).draws = s.draws := rfl
@[simp] theorem State.setPair_out (s : State) (p : Nat) (v : PairPlate) : (s.setPair p v).out = s.out := rfl
@[simp] theorem State.setPair_regs (s : State) (p : Nat) (v : PairPlate) : (s.setPair p v).regs = s.regs := rfl
@[simp] theorem State.setPair_pf (s : State) (p : Nat) (v : PairPlate) : (s.setPair p v).pf = s.pf := rfl
@[simp] theorem State.setPair_vfs (s : State) (p : Nat) (v : PairPlate) : (s.setPair p v).vfs = s.vfs := rfl
@[simp] theorem State.setPair_msix (s : State) (p : Nat) (v : PairPlate) : (s.setPair p v).msix = s.msix := rfl
@[simp] theorem State.setPair_aer (s : State) (p : Nat) (v : PairPlate) : (s.setPair p v).aer = s.aer := rfl
@[simp] theorem State.setPair_aers (s : State) (p : Nat) (v : PairPlate) : (s.setPair p v).aers = s.aers := rfl
@[simp] theorem State.setPair_flrs (s : State) (p : Nat) (v : PairPlate) : (s.setPair p v).flrs = s.flrs := rfl
@[simp] theorem State.setPair_pairHi (s : State) (p : Nat) (v : PairPlate) : (s.setPair p v).pairHi = s.pairHi := rfl
@[simp] theorem State.setPair_notes (s : State) (p : Nat) (v : PairPlate) : (s.setPair p v).notes = s.notes := rfl
@[simp] theorem State.setPair_lockSince (s : State) (p : Nat) (v : PairPlate) : (s.setPair p v).lockSince = s.lockSince := rfl
@[simp] theorem State.setPair_agreeSince (s : State) (p : Nat) (v : PairPlate) : (s.setPair p v).agreeSince = s.agreeSince := rfl
@[simp] theorem State.setPair_shadow48 (s : State) (p : Nat) (v : PairPlate) : (s.setPair p v).shadow48 = s.shadow48 := rfl
@[simp] theorem State.setPair_cnt48 (s : State) (p : Nat) (v : PairPlate) : (s.setPair p v).cnt48 = s.cnt48 := rfl
@[simp] theorem State.setPair_frozen (s : State) (p : Nat) (v : PairPlate) : (s.setPair p v).frozen = s.frozen := rfl
@[simp] theorem State.setPair_frzCur (s : State) (p : Nat) (v : PairPlate) : (s.setPair p v).frzCur = s.frzCur := rfl
@[simp] theorem State.setPair_frzHist (s : State) (p : Nat) (v : PairPlate) : (s.setPair p v).frzHist = s.frzHist := rfl
@[simp] theorem State.setPair_frzSeq (s : State) (p : Nat) (v : PairPlate) : (s.setPair p v).frzSeq = s.frzSeq := rfl
@[simp] theorem State.setPair_frzCap (s : State) (p : Nat) (v : PairPlate) : (s.setPair p v).frzCap = s.frzCap := rfl
@[simp] theorem State.setPair_frzHistCap (s : State) (p : Nat) (v : PairPlate) : (s.setPair p v).frzHistCap = s.frzHistCap := rfl
@[simp] theorem State.setPair_pfFrozenTick (s : State) (p : Nat) (v : PairPlate) : (s.setPair p v).pfFrozenTick = s.pfFrozenTick := rfl
@[simp] theorem State.setPair_pins (s : State) (p : Nat) (v : PairPlate) : (s.setPair p v).pins = s.pins := rfl
@[simp] theorem State.setPair_chip (s : State) (p : Nat) (v : PairPlate) : (s.setPair p v).chip = s.chip := rfl
@[simp] theorem State.setPair_plates (s : State) (p : Nat) (v : PairPlate) : (s.setPair p v).plates = s.plates := rfl
@[simp] theorem State.setPair_storeErrs (s : State) (p : Nat) (v : PairPlate) : (s.setPair p v).storeErrs = s.storeErrs := rfl
@[simp] theorem State.setPair_gravers (s : State) (p : Nat) (v : PairPlate) : (s.setPair p v).gravers = s.gravers := rfl
@[simp] theorem State.setPair_dmaTens (s : State) (p : Nat) (v : PairPlate) : (s.setPair p v).dmaTens = s.dmaTens := rfl
@[simp] theorem State.setPair_dmaLast (s : State) (p : Nat) (v : PairPlate) : (s.setPair p v).dmaLast = s.dmaLast := rfl
@[simp] theorem State.setPair_fusesBlown (s : State) (p : Nat) (v : PairPlate) : (s.setPair p v).fusesBlown = s.fusesBlown := rfl
@[simp] theorem State.setPair_fuses (s : State) (p : Nat) (v : PairPlate) : (s.setPair p v).fuses = s.fuses := rfl
@[simp] theorem State.setPair_life (s : State) (p : Nat) (v : PairPlate) : (s.setPair p v).life = s.life := rfl
@[simp] theorem State.setPair_tap (s : State) (p : Nat) (v : PairPlate) : (s.setPair p v).tap = s.tap := rfl
@[simp] theorem State.setPair_tb (s : State) (p : Nat) (v : PairPlate) : (s.setPair p v).tb = s.tb := rfl
@[simp] theorem State.setPair_chans (s : State) (p : Nat) (v : PairPlate) : (s.setPair p v).chans = s.chans := rfl
@[simp] theorem State.setPair_vec2 (s : State) (p : Nat) (v : PairPlate) : (s.setPair p v).vec2 = s.vec2 := rfl
@[simp] theorem State.setPair_arb (s : State) (p : Nat) (v : PairPlate) : (s.setPair p v).arb = s.arb := rfl
@[simp] theorem State.setPair_laneGrants (s : State) (p : Nat) (v : PairPlate) : (s.setPair p v).laneGrants = s.laneGrants := rfl
@[simp] theorem State.setPair_epkGrants (s : State) (p : Nat) (v : PairPlate) : (s.setPair p v).epkGrants = s.epkGrants := rfl
@[simp] theorem State.setPair_imprGrants (s : State) (p : Nat) (v : PairPlate) : (s.setPair p v).imprGrants = s.imprGrants := rfl
@[simp] theorem State.setPair_quietReqs (s : State) (p : Nat) (v : PairPlate) : (s.setPair p v).quietReqs = s.quietReqs := rfl
@[simp] theorem State.setPair_wakes (s : State) (p : Nat) (v : PairPlate) : (s.setPair p v).wakes = s.wakes := rfl
@[simp] theorem State.setPair_quiet (s : State) (p : Nat) (v : PairPlate) : (s.setPair p v).quiet = s.quiet := rfl
@[simp] theorem State.setPair_siteIns (s : State) (p : Nat) (v : PairPlate) : (s.setPair p v).siteIns = s.siteIns := rfl
@[simp] theorem State.setPair_echos (s : State) (p : Nat) (v : PairPlate) : (s.setPair p v).echos = s.echos := rfl
@[simp] theorem State.setPair_fastRetry (s : State) (p : Nat) (v : PairPlate) : (s.setPair p v).fastRetry = s.fastRetry := rfl
@[simp] theorem State.setPair_medias (s : State) (p : Nat) (v : PairPlate) : (s.setPair p v).medias = s.medias := rfl
@[simp] theorem State.setPair_jitters (s : State) (p : Nat) (v : PairPlate) : (s.setPair p v).jitters = s.jitters := rfl
@[simp] theorem State.setPair_sigs (s : State) (p : Nat) (v : PairPlate) : (s.setPair p v).sigs = s.sigs := rfl
@[simp] theorem State.setPair_queues (s : State) (p : Nat) (v : PairPlate) : (s.setPair p v).queues = s.queues := rfl
@[simp] theorem State.setPair_ports (s : State) (p : Nat) (v : PairPlate) : (s.setPair p v).ports = s.ports := rfl
@[simp] theorem State.setPair_hatches (s : State) (p : Nat) (v : PairPlate) : (s.setPair p v).hatches = s.hatches := rfl
@[simp] theorem State.setPair_hatchMem (s : State) (p : Nat) (v : PairPlate) : (s.setPair p v).hatchMem = s.hatchMem := rfl
@[simp] theorem State.setPair_shapers (s : State) (p : Nat) (v : PairPlate) : (s.setPair p v).shapers = s.shapers := rfl
@[simp] theorem State.setPair_shRates (s : State) (p : Nat) (v : PairPlate) : (s.setPair p v).shRates = s.shRates := rfl
@[simp] theorem State.setPair_highways (s : State) (p : Nat) (v : PairPlate) : (s.setPair p v).highways = s.highways := rfl
@[simp] theorem State.setPair_tks (s : State) (p : Nat) (v : PairPlate) : (s.setPair p v).tks = s.tks := rfl
@[simp] theorem State.setPair_hold (s : State) (p : Nat) (v : PairPlate) : (s.setPair p v).hold = s.hold := rfl
@[simp] theorem State.setPair_therms (s : State) (p : Nat) (v : PairPlate) : (s.setPair p v).therms = s.therms := rfl
@[simp] theorem State.setPair_feAt (s : State) (p : Nat) (v : PairPlate) : (s.setPair p v).feAt = s.feAt := rfl
@[simp] theorem State.setPair_convs (s : State) (p : Nat) (v : PairPlate) : (s.setPair p v).convs = s.convs := rfl
@[simp] theorem State.setPair_ptCaps (s : State) (p : Nat) (v : PairPlate) : (s.setPair p v).ptCaps = s.ptCaps := rfl
@[simp] theorem State.setPair_island (s : State) (p : Nat) (v : PairPlate) : (s.setPair p v).island = s.island := rfl
@[simp] theorem State.setPair_mailbox (s : State) (p : Nat) (v : PairPlate) : (s.setPair p v).mailbox = s.mailbox := rfl
@[simp] theorem State.setPair_wds (s : State) (p : Nat) (v : PairPlate) : (s.setPair p v).wds = s.wds := rfl
@[simp] theorem State.setPair_ekLanes (s : State) (p : Nat) (v : PairPlate) : (s.setPair p v).ekLanes = s.ekLanes := rfl
@[simp] theorem State.setPair_pairs (s : State) (p : Nat) (v : PairPlate) : (s.setPair p v).pairs = Sparse.put {} s.pairs p v := rfl
@[simp] theorem State.setPair_mirrors (s : State) (p : Nat) (v : PairPlate) : (s.setPair p v).mirrors = s.mirrors := rfl
@[simp] theorem State.setPair_epk (s : State) (p : Nat) (v : PairPlate) : (s.setPair p v).epk = s.epk := rfl

/-! ### setTherm -/

@[simp] theorem State.setTherm_pending (s : State) (n : Nat) (t : Therm) : (s.setTherm n t).pending = s.pending := rfl
@[simp] theorem State.setTherm_now (s : State) (n : Nat) (t : Therm) : (s.setTherm n t).now = s.now := rfl
@[simp] theorem State.setTherm_draws (s : State) (n : Nat) (t : Therm) : (s.setTherm n t).draws = s.draws := rfl
@[simp] theorem State.setTherm_out (s : State) (n : Nat) (t : Therm) : (s.setTherm n t).out = s.out := rfl
@[simp] theorem State.setTherm_regs (s : State) (n : Nat) (t : Therm) : (s.setTherm n t).regs = s.regs := rfl
@[simp] theorem State.setTherm_pf (s : State) (n : Nat) (t : Therm) : (s.setTherm n t).pf = s.pf := rfl
@[simp] theorem State.setTherm_vfs (s : State) (n : Nat) (t : Therm) : (s.setTherm n t).vfs = s.vfs := rfl
@[simp] theorem State.setTherm_msix (s : State) (n : Nat) (t : Therm) : (s.setTherm n t).msix = s.msix := rfl
@[simp] theorem State.setTherm_aer (s : State) (n : Nat) (t : Therm) : (s.setTherm n t).aer = s.aer := rfl
@[simp] theorem State.setTherm_aers (s : State) (n : Nat) (t : Therm) : (s.setTherm n t).aers = s.aers := rfl
@[simp] theorem State.setTherm_flrs (s : State) (n : Nat) (t : Therm) : (s.setTherm n t).flrs = s.flrs := rfl
@[simp] theorem State.setTherm_pairHi (s : State) (n : Nat) (t : Therm) : (s.setTherm n t).pairHi = s.pairHi := rfl
@[simp] theorem State.setTherm_notes (s : State) (n : Nat) (t : Therm) : (s.setTherm n t).notes = s.notes := rfl
@[simp] theorem State.setTherm_lockSince (s : State) (n : Nat) (t : Therm) : (s.setTherm n t).lockSince = s.lockSince := rfl
@[simp] theorem State.setTherm_agreeSince (s : State) (n : Nat) (t : Therm) : (s.setTherm n t).agreeSince = s.agreeSince := rfl
@[simp] theorem State.setTherm_shadow48 (s : State) (n : Nat) (t : Therm) : (s.setTherm n t).shadow48 = s.shadow48 := rfl
@[simp] theorem State.setTherm_cnt48 (s : State) (n : Nat) (t : Therm) : (s.setTherm n t).cnt48 = s.cnt48 := rfl
@[simp] theorem State.setTherm_frozen (s : State) (n : Nat) (t : Therm) : (s.setTherm n t).frozen = s.frozen := rfl
@[simp] theorem State.setTherm_frzCur (s : State) (n : Nat) (t : Therm) : (s.setTherm n t).frzCur = s.frzCur := rfl
@[simp] theorem State.setTherm_frzHist (s : State) (n : Nat) (t : Therm) : (s.setTherm n t).frzHist = s.frzHist := rfl
@[simp] theorem State.setTherm_frzSeq (s : State) (n : Nat) (t : Therm) : (s.setTherm n t).frzSeq = s.frzSeq := rfl
@[simp] theorem State.setTherm_frzCap (s : State) (n : Nat) (t : Therm) : (s.setTherm n t).frzCap = s.frzCap := rfl
@[simp] theorem State.setTherm_frzHistCap (s : State) (n : Nat) (t : Therm) : (s.setTherm n t).frzHistCap = s.frzHistCap := rfl
@[simp] theorem State.setTherm_pfFrozenTick (s : State) (n : Nat) (t : Therm) : (s.setTherm n t).pfFrozenTick = s.pfFrozenTick := rfl
@[simp] theorem State.setTherm_pins (s : State) (n : Nat) (t : Therm) : (s.setTherm n t).pins = s.pins := rfl
@[simp] theorem State.setTherm_chip (s : State) (n : Nat) (t : Therm) : (s.setTherm n t).chip = s.chip := rfl
@[simp] theorem State.setTherm_plates (s : State) (n : Nat) (t : Therm) : (s.setTherm n t).plates = s.plates := rfl
@[simp] theorem State.setTherm_storeErrs (s : State) (n : Nat) (t : Therm) : (s.setTherm n t).storeErrs = s.storeErrs := rfl
@[simp] theorem State.setTherm_gravers (s : State) (n : Nat) (t : Therm) : (s.setTherm n t).gravers = s.gravers := rfl
@[simp] theorem State.setTherm_dmaTens (s : State) (n : Nat) (t : Therm) : (s.setTherm n t).dmaTens = s.dmaTens := rfl
@[simp] theorem State.setTherm_dmaLast (s : State) (n : Nat) (t : Therm) : (s.setTherm n t).dmaLast = s.dmaLast := rfl
@[simp] theorem State.setTherm_fusesBlown (s : State) (n : Nat) (t : Therm) : (s.setTherm n t).fusesBlown = s.fusesBlown := rfl
@[simp] theorem State.setTherm_fuses (s : State) (n : Nat) (t : Therm) : (s.setTherm n t).fuses = s.fuses := rfl
@[simp] theorem State.setTherm_life (s : State) (n : Nat) (t : Therm) : (s.setTherm n t).life = s.life := rfl
@[simp] theorem State.setTherm_tap (s : State) (n : Nat) (t : Therm) : (s.setTherm n t).tap = s.tap := rfl
@[simp] theorem State.setTherm_tb (s : State) (n : Nat) (t : Therm) : (s.setTherm n t).tb = s.tb := rfl
@[simp] theorem State.setTherm_chans (s : State) (n : Nat) (t : Therm) : (s.setTherm n t).chans = s.chans := rfl
@[simp] theorem State.setTherm_vec2 (s : State) (n : Nat) (t : Therm) : (s.setTherm n t).vec2 = s.vec2 := rfl
@[simp] theorem State.setTherm_arb (s : State) (n : Nat) (t : Therm) : (s.setTherm n t).arb = s.arb := rfl
@[simp] theorem State.setTherm_laneGrants (s : State) (n : Nat) (t : Therm) : (s.setTherm n t).laneGrants = s.laneGrants := rfl
@[simp] theorem State.setTherm_epkGrants (s : State) (n : Nat) (t : Therm) : (s.setTherm n t).epkGrants = s.epkGrants := rfl
@[simp] theorem State.setTherm_imprGrants (s : State) (n : Nat) (t : Therm) : (s.setTherm n t).imprGrants = s.imprGrants := rfl
@[simp] theorem State.setTherm_quietReqs (s : State) (n : Nat) (t : Therm) : (s.setTherm n t).quietReqs = s.quietReqs := rfl
@[simp] theorem State.setTherm_wakes (s : State) (n : Nat) (t : Therm) : (s.setTherm n t).wakes = s.wakes := rfl
@[simp] theorem State.setTherm_quiet (s : State) (n : Nat) (t : Therm) : (s.setTherm n t).quiet = s.quiet := rfl
@[simp] theorem State.setTherm_siteIns (s : State) (n : Nat) (t : Therm) : (s.setTherm n t).siteIns = s.siteIns := rfl
@[simp] theorem State.setTherm_echos (s : State) (n : Nat) (t : Therm) : (s.setTherm n t).echos = s.echos := rfl
@[simp] theorem State.setTherm_fastRetry (s : State) (n : Nat) (t : Therm) : (s.setTherm n t).fastRetry = s.fastRetry := rfl
@[simp] theorem State.setTherm_medias (s : State) (n : Nat) (t : Therm) : (s.setTherm n t).medias = s.medias := rfl
@[simp] theorem State.setTherm_jitters (s : State) (n : Nat) (t : Therm) : (s.setTherm n t).jitters = s.jitters := rfl
@[simp] theorem State.setTherm_sigs (s : State) (n : Nat) (t : Therm) : (s.setTherm n t).sigs = s.sigs := rfl
@[simp] theorem State.setTherm_queues (s : State) (n : Nat) (t : Therm) : (s.setTherm n t).queues = s.queues := rfl
@[simp] theorem State.setTherm_ports (s : State) (n : Nat) (t : Therm) : (s.setTherm n t).ports = s.ports := rfl
@[simp] theorem State.setTherm_hatches (s : State) (n : Nat) (t : Therm) : (s.setTherm n t).hatches = s.hatches := rfl
@[simp] theorem State.setTherm_hatchMem (s : State) (n : Nat) (t : Therm) : (s.setTherm n t).hatchMem = s.hatchMem := rfl
@[simp] theorem State.setTherm_shapers (s : State) (n : Nat) (t : Therm) : (s.setTherm n t).shapers = s.shapers := rfl
@[simp] theorem State.setTherm_shRates (s : State) (n : Nat) (t : Therm) : (s.setTherm n t).shRates = s.shRates := rfl
@[simp] theorem State.setTherm_highways (s : State) (n : Nat) (t : Therm) : (s.setTherm n t).highways = s.highways := rfl
@[simp] theorem State.setTherm_tks (s : State) (n : Nat) (t : Therm) : (s.setTherm n t).tks = s.tks := rfl
@[simp] theorem State.setTherm_hold (s : State) (n : Nat) (t : Therm) : (s.setTherm n t).hold = s.hold := rfl
@[simp] theorem State.setTherm_therms (s : State) (n : Nat) (t : Therm) : (s.setTherm n t).therms = Sparse.put {} s.therms n t := rfl
@[simp] theorem State.setTherm_feAt (s : State) (n : Nat) (t : Therm) : (s.setTherm n t).feAt = s.feAt := rfl
@[simp] theorem State.setTherm_convs (s : State) (n : Nat) (t : Therm) : (s.setTherm n t).convs = s.convs := rfl
@[simp] theorem State.setTherm_ptCaps (s : State) (n : Nat) (t : Therm) : (s.setTherm n t).ptCaps = s.ptCaps := rfl
@[simp] theorem State.setTherm_island (s : State) (n : Nat) (t : Therm) : (s.setTherm n t).island = s.island := rfl
@[simp] theorem State.setTherm_mailbox (s : State) (n : Nat) (t : Therm) : (s.setTherm n t).mailbox = s.mailbox := rfl
@[simp] theorem State.setTherm_wds (s : State) (n : Nat) (t : Therm) : (s.setTherm n t).wds = s.wds := rfl
@[simp] theorem State.setTherm_ekLanes (s : State) (n : Nat) (t : Therm) : (s.setTherm n t).ekLanes = s.ekLanes := rfl
@[simp] theorem State.setTherm_pairs (s : State) (n : Nat) (t : Therm) : (s.setTherm n t).pairs = s.pairs := rfl
@[simp] theorem State.setTherm_mirrors (s : State) (n : Nat) (t : Therm) : (s.setTherm n t).mirrors = s.mirrors := rfl
@[simp] theorem State.setTherm_epk (s : State) (n : Nat) (t : Therm) : (s.setTherm n t).epk = s.epk := rfl

/-! ### setHatch -/

@[simp] theorem State.setHatch_pending (s : State) (p : Nat) (h : Hatch) : (s.setHatch p h).pending = s.pending := rfl
@[simp] theorem State.setHatch_now (s : State) (p : Nat) (h : Hatch) : (s.setHatch p h).now = s.now := rfl
@[simp] theorem State.setHatch_draws (s : State) (p : Nat) (h : Hatch) : (s.setHatch p h).draws = s.draws := rfl
@[simp] theorem State.setHatch_out (s : State) (p : Nat) (h : Hatch) : (s.setHatch p h).out = s.out := rfl
@[simp] theorem State.setHatch_regs (s : State) (p : Nat) (h : Hatch) : (s.setHatch p h).regs = s.regs := rfl
@[simp] theorem State.setHatch_pf (s : State) (p : Nat) (h : Hatch) : (s.setHatch p h).pf = s.pf := rfl
@[simp] theorem State.setHatch_vfs (s : State) (p : Nat) (h : Hatch) : (s.setHatch p h).vfs = s.vfs := rfl
@[simp] theorem State.setHatch_msix (s : State) (p : Nat) (h : Hatch) : (s.setHatch p h).msix = s.msix := rfl
@[simp] theorem State.setHatch_aer (s : State) (p : Nat) (h : Hatch) : (s.setHatch p h).aer = s.aer := rfl
@[simp] theorem State.setHatch_aers (s : State) (p : Nat) (h : Hatch) : (s.setHatch p h).aers = s.aers := rfl
@[simp] theorem State.setHatch_flrs (s : State) (p : Nat) (h : Hatch) : (s.setHatch p h).flrs = s.flrs := rfl
@[simp] theorem State.setHatch_pairHi (s : State) (p : Nat) (h : Hatch) : (s.setHatch p h).pairHi = s.pairHi := rfl
@[simp] theorem State.setHatch_notes (s : State) (p : Nat) (h : Hatch) : (s.setHatch p h).notes = s.notes := rfl
@[simp] theorem State.setHatch_lockSince (s : State) (p : Nat) (h : Hatch) : (s.setHatch p h).lockSince = s.lockSince := rfl
@[simp] theorem State.setHatch_agreeSince (s : State) (p : Nat) (h : Hatch) : (s.setHatch p h).agreeSince = s.agreeSince := rfl
@[simp] theorem State.setHatch_shadow48 (s : State) (p : Nat) (h : Hatch) : (s.setHatch p h).shadow48 = s.shadow48 := rfl
@[simp] theorem State.setHatch_cnt48 (s : State) (p : Nat) (h : Hatch) : (s.setHatch p h).cnt48 = s.cnt48 := rfl
@[simp] theorem State.setHatch_frozen (s : State) (p : Nat) (h : Hatch) : (s.setHatch p h).frozen = s.frozen := rfl
@[simp] theorem State.setHatch_frzCur (s : State) (p : Nat) (h : Hatch) : (s.setHatch p h).frzCur = s.frzCur := rfl
@[simp] theorem State.setHatch_frzHist (s : State) (p : Nat) (h : Hatch) : (s.setHatch p h).frzHist = s.frzHist := rfl
@[simp] theorem State.setHatch_frzSeq (s : State) (p : Nat) (h : Hatch) : (s.setHatch p h).frzSeq = s.frzSeq := rfl
@[simp] theorem State.setHatch_frzCap (s : State) (p : Nat) (h : Hatch) : (s.setHatch p h).frzCap = s.frzCap := rfl
@[simp] theorem State.setHatch_frzHistCap (s : State) (p : Nat) (h : Hatch) : (s.setHatch p h).frzHistCap = s.frzHistCap := rfl
@[simp] theorem State.setHatch_pfFrozenTick (s : State) (p : Nat) (h : Hatch) : (s.setHatch p h).pfFrozenTick = s.pfFrozenTick := rfl
@[simp] theorem State.setHatch_pins (s : State) (p : Nat) (h : Hatch) : (s.setHatch p h).pins = s.pins := rfl
@[simp] theorem State.setHatch_chip (s : State) (p : Nat) (h : Hatch) : (s.setHatch p h).chip = s.chip := rfl
@[simp] theorem State.setHatch_plates (s : State) (p : Nat) (h : Hatch) : (s.setHatch p h).plates = s.plates := rfl
@[simp] theorem State.setHatch_storeErrs (s : State) (p : Nat) (h : Hatch) : (s.setHatch p h).storeErrs = s.storeErrs := rfl
@[simp] theorem State.setHatch_gravers (s : State) (p : Nat) (h : Hatch) : (s.setHatch p h).gravers = s.gravers := rfl
@[simp] theorem State.setHatch_dmaTens (s : State) (p : Nat) (h : Hatch) : (s.setHatch p h).dmaTens = s.dmaTens := rfl
@[simp] theorem State.setHatch_dmaLast (s : State) (p : Nat) (h : Hatch) : (s.setHatch p h).dmaLast = s.dmaLast := rfl
@[simp] theorem State.setHatch_fusesBlown (s : State) (p : Nat) (h : Hatch) : (s.setHatch p h).fusesBlown = s.fusesBlown := rfl
@[simp] theorem State.setHatch_fuses (s : State) (p : Nat) (h : Hatch) : (s.setHatch p h).fuses = s.fuses := rfl
@[simp] theorem State.setHatch_life (s : State) (p : Nat) (h : Hatch) : (s.setHatch p h).life = s.life := rfl
@[simp] theorem State.setHatch_tap (s : State) (p : Nat) (h : Hatch) : (s.setHatch p h).tap = s.tap := rfl
@[simp] theorem State.setHatch_tb (s : State) (p : Nat) (h : Hatch) : (s.setHatch p h).tb = s.tb := rfl
@[simp] theorem State.setHatch_chans (s : State) (p : Nat) (h : Hatch) : (s.setHatch p h).chans = s.chans := rfl
@[simp] theorem State.setHatch_vec2 (s : State) (p : Nat) (h : Hatch) : (s.setHatch p h).vec2 = s.vec2 := rfl
@[simp] theorem State.setHatch_arb (s : State) (p : Nat) (h : Hatch) : (s.setHatch p h).arb = s.arb := rfl
@[simp] theorem State.setHatch_laneGrants (s : State) (p : Nat) (h : Hatch) : (s.setHatch p h).laneGrants = s.laneGrants := rfl
@[simp] theorem State.setHatch_epkGrants (s : State) (p : Nat) (h : Hatch) : (s.setHatch p h).epkGrants = s.epkGrants := rfl
@[simp] theorem State.setHatch_imprGrants (s : State) (p : Nat) (h : Hatch) : (s.setHatch p h).imprGrants = s.imprGrants := rfl
@[simp] theorem State.setHatch_quietReqs (s : State) (p : Nat) (h : Hatch) : (s.setHatch p h).quietReqs = s.quietReqs := rfl
@[simp] theorem State.setHatch_wakes (s : State) (p : Nat) (h : Hatch) : (s.setHatch p h).wakes = s.wakes := rfl
@[simp] theorem State.setHatch_quiet (s : State) (p : Nat) (h : Hatch) : (s.setHatch p h).quiet = s.quiet := rfl
@[simp] theorem State.setHatch_siteIns (s : State) (p : Nat) (h : Hatch) : (s.setHatch p h).siteIns = s.siteIns := rfl
@[simp] theorem State.setHatch_echos (s : State) (p : Nat) (h : Hatch) : (s.setHatch p h).echos = s.echos := rfl
@[simp] theorem State.setHatch_fastRetry (s : State) (p : Nat) (h : Hatch) : (s.setHatch p h).fastRetry = s.fastRetry := rfl
@[simp] theorem State.setHatch_medias (s : State) (p : Nat) (h : Hatch) : (s.setHatch p h).medias = s.medias := rfl
@[simp] theorem State.setHatch_jitters (s : State) (p : Nat) (h : Hatch) : (s.setHatch p h).jitters = s.jitters := rfl
@[simp] theorem State.setHatch_sigs (s : State) (p : Nat) (h : Hatch) : (s.setHatch p h).sigs = s.sigs := rfl
@[simp] theorem State.setHatch_queues (s : State) (p : Nat) (h : Hatch) : (s.setHatch p h).queues = s.queues := rfl
@[simp] theorem State.setHatch_ports (s : State) (p : Nat) (h : Hatch) : (s.setHatch p h).ports = s.ports := rfl
@[simp] theorem State.setHatch_hatches (s : State) (p : Nat) (h : Hatch) : (s.setHatch p h).hatches = Sparse.put {} s.hatches p h := rfl
@[simp] theorem State.setHatch_hatchMem (s : State) (p : Nat) (h : Hatch) : (s.setHatch p h).hatchMem = s.hatchMem := rfl
@[simp] theorem State.setHatch_shapers (s : State) (p : Nat) (h : Hatch) : (s.setHatch p h).shapers = s.shapers := rfl
@[simp] theorem State.setHatch_shRates (s : State) (p : Nat) (h : Hatch) : (s.setHatch p h).shRates = s.shRates := rfl
@[simp] theorem State.setHatch_highways (s : State) (p : Nat) (h : Hatch) : (s.setHatch p h).highways = s.highways := rfl
@[simp] theorem State.setHatch_tks (s : State) (p : Nat) (h : Hatch) : (s.setHatch p h).tks = s.tks := rfl
@[simp] theorem State.setHatch_hold (s : State) (p : Nat) (h : Hatch) : (s.setHatch p h).hold = s.hold := rfl
@[simp] theorem State.setHatch_therms (s : State) (p : Nat) (h : Hatch) : (s.setHatch p h).therms = s.therms := rfl
@[simp] theorem State.setHatch_feAt (s : State) (p : Nat) (h : Hatch) : (s.setHatch p h).feAt = s.feAt := rfl
@[simp] theorem State.setHatch_convs (s : State) (p : Nat) (h : Hatch) : (s.setHatch p h).convs = s.convs := rfl
@[simp] theorem State.setHatch_ptCaps (s : State) (p : Nat) (h : Hatch) : (s.setHatch p h).ptCaps = s.ptCaps := rfl
@[simp] theorem State.setHatch_island (s : State) (p : Nat) (h : Hatch) : (s.setHatch p h).island = s.island := rfl
@[simp] theorem State.setHatch_mailbox (s : State) (p : Nat) (h : Hatch) : (s.setHatch p h).mailbox = s.mailbox := rfl
@[simp] theorem State.setHatch_wds (s : State) (p : Nat) (h : Hatch) : (s.setHatch p h).wds = s.wds := rfl
@[simp] theorem State.setHatch_ekLanes (s : State) (p : Nat) (h : Hatch) : (s.setHatch p h).ekLanes = s.ekLanes := rfl
@[simp] theorem State.setHatch_pairs (s : State) (p : Nat) (h : Hatch) : (s.setHatch p h).pairs = s.pairs := rfl
@[simp] theorem State.setHatch_mirrors (s : State) (p : Nat) (h : Hatch) : (s.setHatch p h).mirrors = s.mirrors := rfl
@[simp] theorem State.setHatch_epk (s : State) (p : Nat) (h : Hatch) : (s.setHatch p h).epk = s.epk := rfl

/-! ### setShLevel -/

@[simp] theorem State.setShLevel_pending (s : State) (p n : Nat) (v : Int) : (s.setShLevel p n v).pending = s.pending := rfl
@[simp] theorem State.setShLevel_now (s : State) (p n : Nat) (v : Int) : (s.setShLevel p n v).now = s.now := rfl
@[simp] theorem State.setShLevel_draws (s : State) (p n : Nat) (v : Int) : (s.setShLevel p n v).draws = s.draws := rfl
@[simp] theorem State.setShLevel_out (s : State) (p n : Nat) (v : Int) : (s.setShLevel p n v).out = s.out := rfl
@[simp] theorem State.setShLevel_regs (s : State) (p n : Nat) (v : Int) : (s.setShLevel p n v).regs = s.regs := rfl
@[simp] theorem State.setShLevel_pf (s : State) (p n : Nat) (v : Int) : (s.setShLevel p n v).pf = s.pf := rfl
@[simp] theorem State.setShLevel_vfs (s : State) (p n : Nat) (v : Int) : (s.setShLevel p n v).vfs = s.vfs := rfl
@[simp] theorem State.setShLevel_msix (s : State) (p n : Nat) (v : Int) : (s.setShLevel p n v).msix = s.msix := rfl
@[simp] theorem State.setShLevel_aer (s : State) (p n : Nat) (v : Int) : (s.setShLevel p n v).aer = s.aer := rfl
@[simp] theorem State.setShLevel_aers (s : State) (p n : Nat) (v : Int) : (s.setShLevel p n v).aers = s.aers := rfl
@[simp] theorem State.setShLevel_flrs (s : State) (p n : Nat) (v : Int) : (s.setShLevel p n v).flrs = s.flrs := rfl
@[simp] theorem State.setShLevel_pairHi (s : State) (p n : Nat) (v : Int) : (s.setShLevel p n v).pairHi = s.pairHi := rfl
@[simp] theorem State.setShLevel_notes (s : State) (p n : Nat) (v : Int) : (s.setShLevel p n v).notes = s.notes := rfl
@[simp] theorem State.setShLevel_lockSince (s : State) (p n : Nat) (v : Int) : (s.setShLevel p n v).lockSince = s.lockSince := rfl
@[simp] theorem State.setShLevel_agreeSince (s : State) (p n : Nat) (v : Int) : (s.setShLevel p n v).agreeSince = s.agreeSince := rfl
@[simp] theorem State.setShLevel_shadow48 (s : State) (p n : Nat) (v : Int) : (s.setShLevel p n v).shadow48 = s.shadow48 := rfl
@[simp] theorem State.setShLevel_cnt48 (s : State) (p n : Nat) (v : Int) : (s.setShLevel p n v).cnt48 = s.cnt48 := rfl
@[simp] theorem State.setShLevel_frozen (s : State) (p n : Nat) (v : Int) : (s.setShLevel p n v).frozen = s.frozen := rfl
@[simp] theorem State.setShLevel_frzCur (s : State) (p n : Nat) (v : Int) : (s.setShLevel p n v).frzCur = s.frzCur := rfl
@[simp] theorem State.setShLevel_frzHist (s : State) (p n : Nat) (v : Int) : (s.setShLevel p n v).frzHist = s.frzHist := rfl
@[simp] theorem State.setShLevel_frzSeq (s : State) (p n : Nat) (v : Int) : (s.setShLevel p n v).frzSeq = s.frzSeq := rfl
@[simp] theorem State.setShLevel_frzCap (s : State) (p n : Nat) (v : Int) : (s.setShLevel p n v).frzCap = s.frzCap := rfl
@[simp] theorem State.setShLevel_frzHistCap (s : State) (p n : Nat) (v : Int) : (s.setShLevel p n v).frzHistCap = s.frzHistCap := rfl
@[simp] theorem State.setShLevel_pfFrozenTick (s : State) (p n : Nat) (v : Int) : (s.setShLevel p n v).pfFrozenTick = s.pfFrozenTick := rfl
@[simp] theorem State.setShLevel_pins (s : State) (p n : Nat) (v : Int) : (s.setShLevel p n v).pins = s.pins := rfl
@[simp] theorem State.setShLevel_chip (s : State) (p n : Nat) (v : Int) : (s.setShLevel p n v).chip = s.chip := rfl
@[simp] theorem State.setShLevel_plates (s : State) (p n : Nat) (v : Int) : (s.setShLevel p n v).plates = s.plates := rfl
@[simp] theorem State.setShLevel_storeErrs (s : State) (p n : Nat) (v : Int) : (s.setShLevel p n v).storeErrs = s.storeErrs := rfl
@[simp] theorem State.setShLevel_gravers (s : State) (p n : Nat) (v : Int) : (s.setShLevel p n v).gravers = s.gravers := rfl
@[simp] theorem State.setShLevel_dmaTens (s : State) (p n : Nat) (v : Int) : (s.setShLevel p n v).dmaTens = s.dmaTens := rfl
@[simp] theorem State.setShLevel_dmaLast (s : State) (p n : Nat) (v : Int) : (s.setShLevel p n v).dmaLast = s.dmaLast := rfl
@[simp] theorem State.setShLevel_fusesBlown (s : State) (p n : Nat) (v : Int) : (s.setShLevel p n v).fusesBlown = s.fusesBlown := rfl
@[simp] theorem State.setShLevel_fuses (s : State) (p n : Nat) (v : Int) : (s.setShLevel p n v).fuses = s.fuses := rfl
@[simp] theorem State.setShLevel_life (s : State) (p n : Nat) (v : Int) : (s.setShLevel p n v).life = s.life := rfl
@[simp] theorem State.setShLevel_tap (s : State) (p n : Nat) (v : Int) : (s.setShLevel p n v).tap = s.tap := rfl
@[simp] theorem State.setShLevel_tb (s : State) (p n : Nat) (v : Int) : (s.setShLevel p n v).tb = s.tb := rfl
@[simp] theorem State.setShLevel_chans (s : State) (p n : Nat) (v : Int) : (s.setShLevel p n v).chans = s.chans := rfl
@[simp] theorem State.setShLevel_vec2 (s : State) (p n : Nat) (v : Int) : (s.setShLevel p n v).vec2 = s.vec2 := rfl
@[simp] theorem State.setShLevel_arb (s : State) (p n : Nat) (v : Int) : (s.setShLevel p n v).arb = s.arb := rfl
@[simp] theorem State.setShLevel_laneGrants (s : State) (p n : Nat) (v : Int) : (s.setShLevel p n v).laneGrants = s.laneGrants := rfl
@[simp] theorem State.setShLevel_epkGrants (s : State) (p n : Nat) (v : Int) : (s.setShLevel p n v).epkGrants = s.epkGrants := rfl
@[simp] theorem State.setShLevel_imprGrants (s : State) (p n : Nat) (v : Int) : (s.setShLevel p n v).imprGrants = s.imprGrants := rfl
@[simp] theorem State.setShLevel_quietReqs (s : State) (p n : Nat) (v : Int) : (s.setShLevel p n v).quietReqs = s.quietReqs := rfl
@[simp] theorem State.setShLevel_wakes (s : State) (p n : Nat) (v : Int) : (s.setShLevel p n v).wakes = s.wakes := rfl
@[simp] theorem State.setShLevel_quiet (s : State) (p n : Nat) (v : Int) : (s.setShLevel p n v).quiet = s.quiet := rfl
@[simp] theorem State.setShLevel_siteIns (s : State) (p n : Nat) (v : Int) : (s.setShLevel p n v).siteIns = s.siteIns := rfl
@[simp] theorem State.setShLevel_echos (s : State) (p n : Nat) (v : Int) : (s.setShLevel p n v).echos = s.echos := rfl
@[simp] theorem State.setShLevel_fastRetry (s : State) (p n : Nat) (v : Int) : (s.setShLevel p n v).fastRetry = s.fastRetry := rfl
@[simp] theorem State.setShLevel_medias (s : State) (p n : Nat) (v : Int) : (s.setShLevel p n v).medias = s.medias := rfl
@[simp] theorem State.setShLevel_jitters (s : State) (p n : Nat) (v : Int) : (s.setShLevel p n v).jitters = s.jitters := rfl
@[simp] theorem State.setShLevel_sigs (s : State) (p n : Nat) (v : Int) : (s.setShLevel p n v).sigs = s.sigs := rfl
@[simp] theorem State.setShLevel_queues (s : State) (p n : Nat) (v : Int) : (s.setShLevel p n v).queues = s.queues := rfl
@[simp] theorem State.setShLevel_ports (s : State) (p n : Nat) (v : Int) : (s.setShLevel p n v).ports = s.ports := rfl
@[simp] theorem State.setShLevel_hatches (s : State) (p n : Nat) (v : Int) : (s.setShLevel p n v).hatches = s.hatches := rfl
@[simp] theorem State.setShLevel_hatchMem (s : State) (p n : Nat) (v : Int) : (s.setShLevel p n v).hatchMem = s.hatchMem := rfl
@[simp] theorem State.setShLevel_shapers (s : State) (p n : Nat) (v : Int) : (s.setShLevel p n v).shapers = Sparse.put 0 s.shapers (8 * p + n) v := rfl
@[simp] theorem State.setShLevel_shRates (s : State) (p n : Nat) (v : Int) : (s.setShLevel p n v).shRates = s.shRates := rfl
@[simp] theorem State.setShLevel_highways (s : State) (p n : Nat) (v : Int) : (s.setShLevel p n v).highways = s.highways := rfl
@[simp] theorem State.setShLevel_tks (s : State) (p n : Nat) (v : Int) : (s.setShLevel p n v).tks = s.tks := rfl
@[simp] theorem State.setShLevel_hold (s : State) (p n : Nat) (v : Int) : (s.setShLevel p n v).hold = s.hold := rfl
@[simp] theorem State.setShLevel_therms (s : State) (p n : Nat) (v : Int) : (s.setShLevel p n v).therms = s.therms := rfl
@[simp] theorem State.setShLevel_feAt (s : State) (p n : Nat) (v : Int) : (s.setShLevel p n v).feAt = s.feAt := rfl
@[simp] theorem State.setShLevel_convs (s : State) (p n : Nat) (v : Int) : (s.setShLevel p n v).convs = s.convs := rfl
@[simp] theorem State.setShLevel_ptCaps (s : State) (p n : Nat) (v : Int) : (s.setShLevel p n v).ptCaps = s.ptCaps := rfl
@[simp] theorem State.setShLevel_island (s : State) (p n : Nat) (v : Int) : (s.setShLevel p n v).island = s.island := rfl
@[simp] theorem State.setShLevel_mailbox (s : State) (p n : Nat) (v : Int) : (s.setShLevel p n v).mailbox = s.mailbox := rfl
@[simp] theorem State.setShLevel_wds (s : State) (p n : Nat) (v : Int) : (s.setShLevel p n v).wds = s.wds := rfl
@[simp] theorem State.setShLevel_ekLanes (s : State) (p n : Nat) (v : Int) : (s.setShLevel p n v).ekLanes = s.ekLanes := rfl
@[simp] theorem State.setShLevel_pairs (s : State) (p n : Nat) (v : Int) : (s.setShLevel p n v).pairs = s.pairs := rfl
@[simp] theorem State.setShLevel_mirrors (s : State) (p n : Nat) (v : Int) : (s.setShLevel p n v).mirrors = s.mirrors := rfl
@[simp] theorem State.setShLevel_epk (s : State) (p n : Nat) (v : Int) : (s.setShLevel p n v).epk = s.epk := rfl

/-! ### modIsland -/

@[simp] theorem State.modIsland_pending (s : State) (f : Island → Island) : (s.modIsland f).pending = s.pending := rfl
@[simp] theorem State.modIsland_now (s : State) (f : Island → Island) : (s.modIsland f).now = s.now := rfl
@[simp] theorem State.modIsland_draws (s : State) (f : Island → Island) : (s.modIsland f).draws = s.draws := rfl
@[simp] theorem State.modIsland_out (s : State) (f : Island → Island) : (s.modIsland f).out = s.out := rfl
@[simp] theorem State.modIsland_regs (s : State) (f : Island → Island) : (s.modIsland f).regs = s.regs := rfl
@[simp] theorem State.modIsland_pf (s : State) (f : Island → Island) : (s.modIsland f).pf = s.pf := rfl
@[simp] theorem State.modIsland_vfs (s : State) (f : Island → Island) : (s.modIsland f).vfs = s.vfs := rfl
@[simp] theorem State.modIsland_msix (s : State) (f : Island → Island) : (s.modIsland f).msix = s.msix := rfl
@[simp] theorem State.modIsland_aer (s : State) (f : Island → Island) : (s.modIsland f).aer = s.aer := rfl
@[simp] theorem State.modIsland_aers (s : State) (f : Island → Island) : (s.modIsland f).aers = s.aers := rfl
@[simp] theorem State.modIsland_flrs (s : State) (f : Island → Island) : (s.modIsland f).flrs = s.flrs := rfl
@[simp] theorem State.modIsland_pairHi (s : State) (f : Island → Island) : (s.modIsland f).pairHi = s.pairHi := rfl
@[simp] theorem State.modIsland_notes (s : State) (f : Island → Island) : (s.modIsland f).notes = s.notes := rfl
@[simp] theorem State.modIsland_lockSince (s : State) (f : Island → Island) : (s.modIsland f).lockSince = s.lockSince := rfl
@[simp] theorem State.modIsland_agreeSince (s : State) (f : Island → Island) : (s.modIsland f).agreeSince = s.agreeSince := rfl
@[simp] theorem State.modIsland_shadow48 (s : State) (f : Island → Island) : (s.modIsland f).shadow48 = s.shadow48 := rfl
@[simp] theorem State.modIsland_cnt48 (s : State) (f : Island → Island) : (s.modIsland f).cnt48 = s.cnt48 := rfl
@[simp] theorem State.modIsland_frozen (s : State) (f : Island → Island) : (s.modIsland f).frozen = s.frozen := rfl
@[simp] theorem State.modIsland_frzCur (s : State) (f : Island → Island) : (s.modIsland f).frzCur = s.frzCur := rfl
@[simp] theorem State.modIsland_frzHist (s : State) (f : Island → Island) : (s.modIsland f).frzHist = s.frzHist := rfl
@[simp] theorem State.modIsland_frzSeq (s : State) (f : Island → Island) : (s.modIsland f).frzSeq = s.frzSeq := rfl
@[simp] theorem State.modIsland_frzCap (s : State) (f : Island → Island) : (s.modIsland f).frzCap = s.frzCap := rfl
@[simp] theorem State.modIsland_frzHistCap (s : State) (f : Island → Island) : (s.modIsland f).frzHistCap = s.frzHistCap := rfl
@[simp] theorem State.modIsland_pfFrozenTick (s : State) (f : Island → Island) : (s.modIsland f).pfFrozenTick = s.pfFrozenTick := rfl
@[simp] theorem State.modIsland_pins (s : State) (f : Island → Island) : (s.modIsland f).pins = s.pins := rfl
@[simp] theorem State.modIsland_chip (s : State) (f : Island → Island) : (s.modIsland f).chip = s.chip := rfl
@[simp] theorem State.modIsland_plates (s : State) (f : Island → Island) : (s.modIsland f).plates = s.plates := rfl
@[simp] theorem State.modIsland_storeErrs (s : State) (f : Island → Island) : (s.modIsland f).storeErrs = s.storeErrs := rfl
@[simp] theorem State.modIsland_gravers (s : State) (f : Island → Island) : (s.modIsland f).gravers = s.gravers := rfl
@[simp] theorem State.modIsland_dmaTens (s : State) (f : Island → Island) : (s.modIsland f).dmaTens = s.dmaTens := rfl
@[simp] theorem State.modIsland_dmaLast (s : State) (f : Island → Island) : (s.modIsland f).dmaLast = s.dmaLast := rfl
@[simp] theorem State.modIsland_fusesBlown (s : State) (f : Island → Island) : (s.modIsland f).fusesBlown = s.fusesBlown := rfl
@[simp] theorem State.modIsland_fuses (s : State) (f : Island → Island) : (s.modIsland f).fuses = s.fuses := rfl
@[simp] theorem State.modIsland_life (s : State) (f : Island → Island) : (s.modIsland f).life = s.life := rfl
@[simp] theorem State.modIsland_tap (s : State) (f : Island → Island) : (s.modIsland f).tap = s.tap := rfl
@[simp] theorem State.modIsland_tb (s : State) (f : Island → Island) : (s.modIsland f).tb = s.tb := rfl
@[simp] theorem State.modIsland_chans (s : State) (f : Island → Island) : (s.modIsland f).chans = s.chans := rfl
@[simp] theorem State.modIsland_vec2 (s : State) (f : Island → Island) : (s.modIsland f).vec2 = s.vec2 := rfl
@[simp] theorem State.modIsland_arb (s : State) (f : Island → Island) : (s.modIsland f).arb = s.arb := rfl
@[simp] theorem State.modIsland_laneGrants (s : State) (f : Island → Island) : (s.modIsland f).laneGrants = s.laneGrants := rfl
@[simp] theorem State.modIsland_epkGrants (s : State) (f : Island → Island) : (s.modIsland f).epkGrants = s.epkGrants := rfl
@[simp] theorem State.modIsland_imprGrants (s : State) (f : Island → Island) : (s.modIsland f).imprGrants = s.imprGrants := rfl
@[simp] theorem State.modIsland_quietReqs (s : State) (f : Island → Island) : (s.modIsland f).quietReqs = s.quietReqs := rfl
@[simp] theorem State.modIsland_wakes (s : State) (f : Island → Island) : (s.modIsland f).wakes = s.wakes := rfl
@[simp] theorem State.modIsland_quiet (s : State) (f : Island → Island) : (s.modIsland f).quiet = s.quiet := rfl
@[simp] theorem State.modIsland_siteIns (s : State) (f : Island → Island) : (s.modIsland f).siteIns = s.siteIns := rfl
@[simp] theorem State.modIsland_echos (s : State) (f : Island → Island) : (s.modIsland f).echos = s.echos := rfl
@[simp] theorem State.modIsland_fastRetry (s : State) (f : Island → Island) : (s.modIsland f).fastRetry = s.fastRetry := rfl
@[simp] theorem State.modIsland_medias (s : State) (f : Island → Island) : (s.modIsland f).medias = s.medias := rfl
@[simp] theorem State.modIsland_jitters (s : State) (f : Island → Island) : (s.modIsland f).jitters = s.jitters := rfl
@[simp] theorem State.modIsland_sigs (s : State) (f : Island → Island) : (s.modIsland f).sigs = s.sigs := rfl
@[simp] theorem State.modIsland_queues (s : State) (f : Island → Island) : (s.modIsland f).queues = s.queues := rfl
@[simp] theorem State.modIsland_ports (s : State) (f : Island → Island) : (s.modIsland f).ports = s.ports := rfl
@[simp] theorem State.modIsland_hatches (s : State) (f : Island → Island) : (s.modIsland f).hatches = s.hatches := rfl
@[simp] theorem State.modIsland_hatchMem (s : State) (f : Island → Island) : (s.modIsland f).hatchMem = s.hatchMem := rfl
@[simp] theorem State.modIsland_shapers (s : State) (f : Island → Island) : (s.modIsland f).shapers = s.shapers := rfl
@[simp] theorem State.modIsland_shRates (s : State) (f : Island → Island) : (s.modIsland f).shRates = s.shRates := rfl
@[simp] theorem State.modIsland_highways (s : State) (f : Island → Island) : (s.modIsland f).highways = s.highways := rfl
@[simp] theorem State.modIsland_tks (s : State) (f : Island → Island) : (s.modIsland f).tks = s.tks := rfl
@[simp] theorem State.modIsland_hold (s : State) (f : Island → Island) : (s.modIsland f).hold = s.hold := rfl
@[simp] theorem State.modIsland_therms (s : State) (f : Island → Island) : (s.modIsland f).therms = s.therms := rfl
@[simp] theorem State.modIsland_feAt (s : State) (f : Island → Island) : (s.modIsland f).feAt = s.feAt := rfl
@[simp] theorem State.modIsland_convs (s : State) (f : Island → Island) : (s.modIsland f).convs = s.convs := rfl
@[simp] theorem State.modIsland_ptCaps (s : State) (f : Island → Island) : (s.modIsland f).ptCaps = s.ptCaps := rfl
@[simp] theorem State.modIsland_island (s : State) (f : Island → Island) : (s.modIsland f).island = f s.island := rfl
@[simp] theorem State.modIsland_mailbox (s : State) (f : Island → Island) : (s.modIsland f).mailbox = s.mailbox := rfl
@[simp] theorem State.modIsland_wds (s : State) (f : Island → Island) : (s.modIsland f).wds = s.wds := rfl
@[simp] theorem State.modIsland_ekLanes (s : State) (f : Island → Island) : (s.modIsland f).ekLanes = s.ekLanes := rfl
@[simp] theorem State.modIsland_pairs (s : State) (f : Island → Island) : (s.modIsland f).pairs = s.pairs := rfl
@[simp] theorem State.modIsland_mirrors (s : State) (f : Island → Island) : (s.modIsland f).mirrors = s.mirrors := rfl
@[simp] theorem State.modIsland_epk (s : State) (f : Island → Island) : (s.modIsland f).epk = s.epk := rfl

/-! ### setJitter -/

@[simp] theorem State.setJitter_pending (s : State) (g : Nat) (j : Jitter) : (s.setJitter g j).pending = s.pending := rfl
@[simp] theorem State.setJitter_now (s : State) (g : Nat) (j : Jitter) : (s.setJitter g j).now = s.now := rfl
@[simp] theorem State.setJitter_draws (s : State) (g : Nat) (j : Jitter) : (s.setJitter g j).draws = s.draws := rfl
@[simp] theorem State.setJitter_out (s : State) (g : Nat) (j : Jitter) : (s.setJitter g j).out = s.out := rfl
@[simp] theorem State.setJitter_regs (s : State) (g : Nat) (j : Jitter) : (s.setJitter g j).regs = s.regs := rfl
@[simp] theorem State.setJitter_pf (s : State) (g : Nat) (j : Jitter) : (s.setJitter g j).pf = s.pf := rfl
@[simp] theorem State.setJitter_vfs (s : State) (g : Nat) (j : Jitter) : (s.setJitter g j).vfs = s.vfs := rfl
@[simp] theorem State.setJitter_msix (s : State) (g : Nat) (j : Jitter) : (s.setJitter g j).msix = s.msix := rfl
@[simp] theorem State.setJitter_aer (s : State) (g : Nat) (j : Jitter) : (s.setJitter g j).aer = s.aer := rfl
@[simp] theorem State.setJitter_aers (s : State) (g : Nat) (j : Jitter) : (s.setJitter g j).aers = s.aers := rfl
@[simp] theorem State.setJitter_flrs (s : State) (g : Nat) (j : Jitter) : (s.setJitter g j).flrs = s.flrs := rfl
@[simp] theorem State.setJitter_pairHi (s : State) (g : Nat) (j : Jitter) : (s.setJitter g j).pairHi = s.pairHi := rfl
@[simp] theorem State.setJitter_notes (s : State) (g : Nat) (j : Jitter) : (s.setJitter g j).notes = s.notes := rfl
@[simp] theorem State.setJitter_lockSince (s : State) (g : Nat) (j : Jitter) : (s.setJitter g j).lockSince = s.lockSince := rfl
@[simp] theorem State.setJitter_agreeSince (s : State) (g : Nat) (j : Jitter) : (s.setJitter g j).agreeSince = s.agreeSince := rfl
@[simp] theorem State.setJitter_shadow48 (s : State) (g : Nat) (j : Jitter) : (s.setJitter g j).shadow48 = s.shadow48 := rfl
@[simp] theorem State.setJitter_cnt48 (s : State) (g : Nat) (j : Jitter) : (s.setJitter g j).cnt48 = s.cnt48 := rfl
@[simp] theorem State.setJitter_frozen (s : State) (g : Nat) (j : Jitter) : (s.setJitter g j).frozen = s.frozen := rfl
@[simp] theorem State.setJitter_frzCur (s : State) (g : Nat) (j : Jitter) : (s.setJitter g j).frzCur = s.frzCur := rfl
@[simp] theorem State.setJitter_frzHist (s : State) (g : Nat) (j : Jitter) : (s.setJitter g j).frzHist = s.frzHist := rfl
@[simp] theorem State.setJitter_frzSeq (s : State) (g : Nat) (j : Jitter) : (s.setJitter g j).frzSeq = s.frzSeq := rfl
@[simp] theorem State.setJitter_frzCap (s : State) (g : Nat) (j : Jitter) : (s.setJitter g j).frzCap = s.frzCap := rfl
@[simp] theorem State.setJitter_frzHistCap (s : State) (g : Nat) (j : Jitter) : (s.setJitter g j).frzHistCap = s.frzHistCap := rfl
@[simp] theorem State.setJitter_pfFrozenTick (s : State) (g : Nat) (j : Jitter) : (s.setJitter g j).pfFrozenTick = s.pfFrozenTick := rfl
@[simp] theorem State.setJitter_pins (s : State) (g : Nat) (j : Jitter) : (s.setJitter g j).pins = s.pins := rfl
@[simp] theorem State.setJitter_chip (s : State) (g : Nat) (j : Jitter) : (s.setJitter g j).chip = s.chip := rfl
@[simp] theorem State.setJitter_plates (s : State) (g : Nat) (j : Jitter) : (s.setJitter g j).plates = s.plates := rfl
@[simp] theorem State.setJitter_storeErrs (s : State) (g : Nat) (j : Jitter) : (s.setJitter g j).storeErrs = s.storeErrs := rfl
@[simp] theorem State.setJitter_gravers (s : State) (g : Nat) (j : Jitter) : (s.setJitter g j).gravers = s.gravers := rfl
@[simp] theorem State.setJitter_dmaTens (s : State) (g : Nat) (j : Jitter) : (s.setJitter g j).dmaTens = s.dmaTens := rfl
@[simp] theorem State.setJitter_dmaLast (s : State) (g : Nat) (j : Jitter) : (s.setJitter g j).dmaLast = s.dmaLast := rfl
@[simp] theorem State.setJitter_fusesBlown (s : State) (g : Nat) (j : Jitter) : (s.setJitter g j).fusesBlown = s.fusesBlown := rfl
@[simp] theorem State.setJitter_fuses (s : State) (g : Nat) (j : Jitter) : (s.setJitter g j).fuses = s.fuses := rfl
@[simp] theorem State.setJitter_life (s : State) (g : Nat) (j : Jitter) : (s.setJitter g j).life = s.life := rfl
@[simp] theorem State.setJitter_tap (s : State) (g : Nat) (j : Jitter) : (s.setJitter g j).tap = s.tap := rfl
@[simp] theorem State.setJitter_tb (s : State) (g : Nat) (j : Jitter) : (s.setJitter g j).tb = s.tb := rfl
@[simp] theorem State.setJitter_chans (s : State) (g : Nat) (j : Jitter) : (s.setJitter g j).chans = s.chans := rfl
@[simp] theorem State.setJitter_vec2 (s : State) (g : Nat) (j : Jitter) : (s.setJitter g j).vec2 = s.vec2 := rfl
@[simp] theorem State.setJitter_arb (s : State) (g : Nat) (j : Jitter) : (s.setJitter g j).arb = s.arb := rfl
@[simp] theorem State.setJitter_laneGrants (s : State) (g : Nat) (j : Jitter) : (s.setJitter g j).laneGrants = s.laneGrants := rfl
@[simp] theorem State.setJitter_epkGrants (s : State) (g : Nat) (j : Jitter) : (s.setJitter g j).epkGrants = s.epkGrants := rfl
@[simp] theorem State.setJitter_imprGrants (s : State) (g : Nat) (j : Jitter) : (s.setJitter g j).imprGrants = s.imprGrants := rfl
@[simp] theorem State.setJitter_quietReqs (s : State) (g : Nat) (j : Jitter) : (s.setJitter g j).quietReqs = s.quietReqs := rfl
@[simp] theorem State.setJitter_wakes (s : State) (g : Nat) (j : Jitter) : (s.setJitter g j).wakes = s.wakes := rfl
@[simp] theorem State.setJitter_quiet (s : State) (g : Nat) (j : Jitter) : (s.setJitter g j).quiet = s.quiet := rfl
@[simp] theorem State.setJitter_siteIns (s : State) (g : Nat) (j : Jitter) : (s.setJitter g j).siteIns = s.siteIns := rfl
@[simp] theorem State.setJitter_echos (s : State) (g : Nat) (j : Jitter) : (s.setJitter g j).echos = s.echos := rfl
@[simp] theorem State.setJitter_fastRetry (s : State) (g : Nat) (j : Jitter) : (s.setJitter g j).fastRetry = s.fastRetry := rfl
@[simp] theorem State.setJitter_medias (s : State) (g : Nat) (j : Jitter) : (s.setJitter g j).medias = s.medias := rfl
@[simp] theorem State.setJitter_jitters (s : State) (g : Nat) (j : Jitter) : (s.setJitter g j).jitters = Sparse.put {} s.jitters g j := rfl
@[simp] theorem State.setJitter_sigs (s : State) (g : Nat) (j : Jitter) : (s.setJitter g j).sigs = s.sigs := rfl
@[simp] theorem State.setJitter_queues (s : State) (g : Nat) (j : Jitter) : (s.setJitter g j).queues = s.queues := rfl
@[simp] theorem State.setJitter_ports (s : State) (g : Nat) (j : Jitter) : (s.setJitter g j).ports = s.ports := rfl
@[simp] theorem State.setJitter_hatches (s : State) (g : Nat) (j : Jitter) : (s.setJitter g j).hatches = s.hatches := rfl
@[simp] theorem State.setJitter_hatchMem (s : State) (g : Nat) (j : Jitter) : (s.setJitter g j).hatchMem = s.hatchMem := rfl
@[simp] theorem State.setJitter_shapers (s : State) (g : Nat) (j : Jitter) : (s.setJitter g j).shapers = s.shapers := rfl
@[simp] theorem State.setJitter_shRates (s : State) (g : Nat) (j : Jitter) : (s.setJitter g j).shRates = s.shRates := rfl
@[simp] theorem State.setJitter_highways (s : State) (g : Nat) (j : Jitter) : (s.setJitter g j).highways = s.highways := rfl
@[simp] theorem State.setJitter_tks (s : State) (g : Nat) (j : Jitter) : (s.setJitter g j).tks = s.tks := rfl
@[simp] theorem State.setJitter_hold (s : State) (g : Nat) (j : Jitter) : (s.setJitter g j).hold = s.hold := rfl
@[simp] theorem State.setJitter_therms (s : State) (g : Nat) (j : Jitter) : (s.setJitter g j).therms = s.therms := rfl
@[simp] theorem State.setJitter_feAt (s : State) (g : Nat) (j : Jitter) : (s.setJitter g j).feAt = s.feAt := rfl
@[simp] theorem State.setJitter_convs (s : State) (g : Nat) (j : Jitter) : (s.setJitter g j).convs = s.convs := rfl
@[simp] theorem State.setJitter_ptCaps (s : State) (g : Nat) (j : Jitter) : (s.setJitter g j).ptCaps = s.ptCaps := rfl
@[simp] theorem State.setJitter_island (s : State) (g : Nat) (j : Jitter) : (s.setJitter g j).island = s.island := rfl
@[simp] theorem State.setJitter_mailbox (s : State) (g : Nat) (j : Jitter) : (s.setJitter g j).mailbox = s.mailbox := rfl
@[simp] theorem State.setJitter_wds (s : State) (g : Nat) (j : Jitter) : (s.setJitter g j).wds = s.wds := rfl
@[simp] theorem State.setJitter_ekLanes (s : State) (g : Nat) (j : Jitter) : (s.setJitter g j).ekLanes = s.ekLanes := rfl
@[simp] theorem State.setJitter_pairs (s : State) (g : Nat) (j : Jitter) : (s.setJitter g j).pairs = s.pairs := rfl
@[simp] theorem State.setJitter_mirrors (s : State) (g : Nat) (j : Jitter) : (s.setJitter g j).mirrors = s.mirrors := rfl
@[simp] theorem State.setJitter_epk (s : State) (g : Nat) (j : Jitter) : (s.setJitter g j).epk = s.epk := rfl

/-! ### setMedia -/

@[simp] theorem State.setMedia_pending (s : State) (g : Nat) (m : Media) : (s.setMedia g m).pending = s.pending := rfl
@[simp] theorem State.setMedia_now (s : State) (g : Nat) (m : Media) : (s.setMedia g m).now = s.now := rfl
@[simp] theorem State.setMedia_draws (s : State) (g : Nat) (m : Media) : (s.setMedia g m).draws = s.draws := rfl
@[simp] theorem State.setMedia_out (s : State) (g : Nat) (m : Media) : (s.setMedia g m).out = s.out := rfl
@[simp] theorem State.setMedia_regs (s : State) (g : Nat) (m : Media) : (s.setMedia g m).regs = s.regs := rfl
@[simp] theorem State.setMedia_pf (s : State) (g : Nat) (m : Media) : (s.setMedia g m).pf = s.pf := rfl
@[simp] theorem State.setMedia_vfs (s : State) (g : Nat) (m : Media) : (s.setMedia g m).vfs = s.vfs := rfl
@[simp] theorem State.setMedia_msix (s : State) (g : Nat) (m : Media) : (s.setMedia g m).msix = s.msix := rfl
@[simp] theorem State.setMedia_aer (s : State) (g : Nat) (m : Media) : (s.setMedia g m).aer = s.aer := rfl
@[simp] theorem State.setMedia_aers (s : State) (g : Nat) (m : Media) : (s.setMedia g m).aers = s.aers := rfl
@[simp] theorem State.setMedia_flrs (s : State) (g : Nat) (m : Media) : (s.setMedia g m).flrs = s.flrs := rfl
@[simp] theorem State.setMedia_pairHi (s : State) (g : Nat) (m : Media) : (s.setMedia g m).pairHi = s.pairHi := rfl
@[simp] theorem State.setMedia_notes (s : State) (g : Nat) (m : Media) : (s.setMedia g m).notes = s.notes := rfl
@[simp] theorem State.setMedia_lockSince (s : State) (g : Nat) (m : Media) : (s.setMedia g m).lockSince = s.lockSince := rfl
@[simp] theorem State.setMedia_agreeSince (s : State) (g : Nat) (m : Media) : (s.setMedia g m).agreeSince = s.agreeSince := rfl
@[simp] theorem State.setMedia_shadow48 (s : State) (g : Nat) (m : Media) : (s.setMedia g m).shadow48 = s.shadow48 := rfl
@[simp] theorem State.setMedia_cnt48 (s : State) (g : Nat) (m : Media) : (s.setMedia g m).cnt48 = s.cnt48 := rfl
@[simp] theorem State.setMedia_frozen (s : State) (g : Nat) (m : Media) : (s.setMedia g m).frozen = s.frozen := rfl
@[simp] theorem State.setMedia_frzCur (s : State) (g : Nat) (m : Media) : (s.setMedia g m).frzCur = s.frzCur := rfl
@[simp] theorem State.setMedia_frzHist (s : State) (g : Nat) (m : Media) : (s.setMedia g m).frzHist = s.frzHist := rfl
@[simp] theorem State.setMedia_frzSeq (s : State) (g : Nat) (m : Media) : (s.setMedia g m).frzSeq = s.frzSeq := rfl
@[simp] theorem State.setMedia_frzCap (s : State) (g : Nat) (m : Media) : (s.setMedia g m).frzCap = s.frzCap := rfl
@[simp] theorem State.setMedia_frzHistCap (s : State) (g : Nat) (m : Media) : (s.setMedia g m).frzHistCap = s.frzHistCap := rfl
@[simp] theorem State.setMedia_pfFrozenTick (s : State) (g : Nat) (m : Media) : (s.setMedia g m).pfFrozenTick = s.pfFrozenTick := rfl
@[simp] theorem State.setMedia_pins (s : State) (g : Nat) (m : Media) : (s.setMedia g m).pins = s.pins := rfl
@[simp] theorem State.setMedia_chip (s : State) (g : Nat) (m : Media) : (s.setMedia g m).chip = s.chip := rfl
@[simp] theorem State.setMedia_plates (s : State) (g : Nat) (m : Media) : (s.setMedia g m).plates = s.plates := rfl
@[simp] theorem State.setMedia_storeErrs (s : State) (g : Nat) (m : Media) : (s.setMedia g m).storeErrs = s.storeErrs := rfl
@[simp] theorem State.setMedia_gravers (s : State) (g : Nat) (m : Media) : (s.setMedia g m).gravers = s.gravers := rfl
@[simp] theorem State.setMedia_dmaTens (s : State) (g : Nat) (m : Media) : (s.setMedia g m).dmaTens = s.dmaTens := rfl
@[simp] theorem State.setMedia_dmaLast (s : State) (g : Nat) (m : Media) : (s.setMedia g m).dmaLast = s.dmaLast := rfl
@[simp] theorem State.setMedia_fusesBlown (s : State) (g : Nat) (m : Media) : (s.setMedia g m).fusesBlown = s.fusesBlown := rfl
@[simp] theorem State.setMedia_fuses (s : State) (g : Nat) (m : Media) : (s.setMedia g m).fuses = s.fuses := rfl
@[simp] theorem State.setMedia_life (s : State) (g : Nat) (m : Media) : (s.setMedia g m).life = s.life := rfl
@[simp] theorem State.setMedia_tap (s : State) (g : Nat) (m : Media) : (s.setMedia g m).tap = s.tap := rfl
@[simp] theorem State.setMedia_tb (s : State) (g : Nat) (m : Media) : (s.setMedia g m).tb = s.tb := rfl
@[simp] theorem State.setMedia_chans (s : State) (g : Nat) (m : Media) : (s.setMedia g m).chans = s.chans := rfl
@[simp] theorem State.setMedia_vec2 (s : State) (g : Nat) (m : Media) : (s.setMedia g m).vec2 = s.vec2 := rfl
@[simp] theorem State.setMedia_arb (s : State) (g : Nat) (m : Media) : (s.setMedia g m).arb = s.arb := rfl
@[simp] theorem State.setMedia_laneGrants (s : State) (g : Nat) (m : Media) : (s.setMedia g m).laneGrants = s.laneGrants := rfl
@[simp] theorem State.setMedia_epkGrants (s : State) (g : Nat) (m : Media) : (s.setMedia g m).epkGrants = s.epkGrants := rfl
@[simp] theorem State.setMedia_imprGrants (s : State) (g : Nat) (m : Media) : (s.setMedia g m).imprGrants = s.imprGrants := rfl
@[simp] theorem State.setMedia_quietReqs (s : State) (g : Nat) (m : Media) : (s.setMedia g m).quietReqs = s.quietReqs := rfl
@[simp] theorem State.setMedia_wakes (s : State) (g : Nat) (m : Media) : (s.setMedia g m).wakes = s.wakes := rfl
@[simp] theorem State.setMedia_quiet (s : State) (g : Nat) (m : Media) : (s.setMedia g m).quiet = s.quiet := rfl
@[simp] theorem State.setMedia_siteIns (s : State) (g : Nat) (m : Media) : (s.setMedia g m).siteIns = s.siteIns := rfl
@[simp] theorem State.setMedia_echos (s : State) (g : Nat) (m : Media) : (s.setMedia g m).echos = s.echos := rfl
@[simp] theorem State.setMedia_fastRetry (s : State) (g : Nat) (m : Media) : (s.setMedia g m).fastRetry = s.fastRetry := rfl
@[simp] theorem State.setMedia_medias (s : State) (g : Nat) (m : Media) : (s.setMedia g m).medias = Sparse.put {} s.medias g m := rfl
@[simp] theorem State.setMedia_jitters (s : State) (g : Nat) (m : Media) : (s.setMedia g m).jitters = s.jitters := rfl
@[simp] theorem State.setMedia_sigs (s : State) (g : Nat) (m : Media) : (s.setMedia g m).sigs = s.sigs := rfl
@[simp] theorem State.setMedia_queues (s : State) (g : Nat) (m : Media) : (s.setMedia g m).queues = s.queues := rfl
@[simp] theorem State.setMedia_ports (s : State) (g : Nat) (m : Media) : (s.setMedia g m).ports = s.ports := rfl
@[simp] theorem State.setMedia_hatches (s : State) (g : Nat) (m : Media) : (s.setMedia g m).hatches = s.hatches := rfl
@[simp] theorem State.setMedia_hatchMem (s : State) (g : Nat) (m : Media) : (s.setMedia g m).hatchMem = s.hatchMem := rfl
@[simp] theorem State.setMedia_shapers (s : State) (g : Nat) (m : Media) : (s.setMedia g m).shapers = s.shapers := rfl
@[simp] theorem State.setMedia_shRates (s : State) (g : Nat) (m : Media) : (s.setMedia g m).shRates = s.shRates := rfl
@[simp] theorem State.setMedia_highways (s : State) (g : Nat) (m : Media) : (s.setMedia g m).highways = s.highways := rfl
@[simp] theorem State.setMedia_tks (s : State) (g : Nat) (m : Media) : (s.setMedia g m).tks = s.tks := rfl
@[simp] theorem State.setMedia_hold (s : State) (g : Nat) (m : Media) : (s.setMedia g m).hold = s.hold := rfl
@[simp] theorem State.setMedia_therms (s : State) (g : Nat) (m : Media) : (s.setMedia g m).therms = s.therms := rfl
@[simp] theorem State.setMedia_feAt (s : State) (g : Nat) (m : Media) : (s.setMedia g m).feAt = s.feAt := rfl
@[simp] theorem State.setMedia_convs (s : State) (g : Nat) (m : Media) : (s.setMedia g m).convs = s.convs := rfl
@[simp] theorem State.setMedia_ptCaps (s : State) (g : Nat) (m : Media) : (s.setMedia g m).ptCaps = s.ptCaps := rfl
@[simp] theorem State.setMedia_island (s : State) (g : Nat) (m : Media) : (s.setMedia g m).island = s.island := rfl
@[simp] theorem State.setMedia_mailbox (s : State) (g : Nat) (m : Media) : (s.setMedia g m).mailbox = s.mailbox := rfl
@[simp] theorem State.setMedia_wds (s : State) (g : Nat) (m : Media) : (s.setMedia g m).wds = s.wds := rfl
@[simp] theorem State.setMedia_ekLanes (s : State) (g : Nat) (m : Media) : (s.setMedia g m).ekLanes = s.ekLanes := rfl
@[simp] theorem State.setMedia_pairs (s : State) (g : Nat) (m : Media) : (s.setMedia g m).pairs = s.pairs := rfl
@[simp] theorem State.setMedia_mirrors (s : State) (g : Nat) (m : Media) : (s.setMedia g m).mirrors = s.mirrors := rfl
@[simp] theorem State.setMedia_epk (s : State) (g : Nat) (m : Media) : (s.setMedia g m).epk = s.epk := rfl

/-! ### setPort -/

@[simp] theorem State.setPort_pending (s : State) (p : Nat) (v : Port) : (s.setPort p v).pending = s.pending := rfl
@[simp] theorem State.setPort_now (s : State) (p : Nat) (v : Port) : (s.setPort p v).now = s.now := rfl
@[simp] theorem State.setPort_draws (s : State) (p : Nat) (v : Port) : (s.setPort p v).draws = s.draws := rfl
@[simp] theorem State.setPort_out (s : State) (p : Nat) (v : Port) : (s.setPort p v).out = s.out := rfl
@[simp] theorem State.setPort_regs (s : State) (p : Nat) (v : Port) : (s.setPort p v).regs = s.regs := rfl
@[simp] theorem State.setPort_pf (s : State) (p : Nat) (v : Port) : (s.setPort p v).pf = s.pf := rfl
@[simp] theorem State.setPort_vfs (s : State) (p : Nat) (v : Port) : (s.setPort p v).vfs = s.vfs := rfl
@[simp] theorem State.setPort_msix (s : State) (p : Nat) (v : Port) : (s.setPort p v).msix = s.msix := rfl
@[simp] theorem State.setPort_aer (s : State) (p : Nat) (v : Port) : (s.setPort p v).aer = s.aer := rfl
@[simp] theorem State.setPort_aers (s : State) (p : Nat) (v : Port) : (s.setPort p v).aers = s.aers := rfl
@[simp] theorem State.setPort_flrs (s : State) (p : Nat) (v : Port) : (s.setPort p v).flrs = s.flrs := rfl
@[simp] theorem State.setPort_pairHi (s : State) (p : Nat) (v : Port) : (s.setPort p v).pairHi = s.pairHi := rfl
@[simp] theorem State.setPort_notes (s : State) (p : Nat) (v : Port) : (s.setPort p v).notes = s.notes := rfl
@[simp] theorem State.setPort_lockSince (s : State) (p : Nat) (v : Port) : (s.setPort p v).lockSince = s.lockSince := rfl
@[simp] theorem State.setPort_agreeSince (s : State) (p : Nat) (v : Port) : (s.setPort p v).agreeSince = s.agreeSince := rfl
@[simp] theorem State.setPort_shadow48 (s : State) (p : Nat) (v : Port) : (s.setPort p v).shadow48 = s.shadow48 := rfl
@[simp] theorem State.setPort_cnt48 (s : State) (p : Nat) (v : Port) : (s.setPort p v).cnt48 = s.cnt48 := rfl
@[simp] theorem State.setPort_frozen (s : State) (p : Nat) (v : Port) : (s.setPort p v).frozen = s.frozen := rfl
@[simp] theorem State.setPort_frzCur (s : State) (p : Nat) (v : Port) : (s.setPort p v).frzCur = s.frzCur := rfl
@[simp] theorem State.setPort_frzHist (s : State) (p : Nat) (v : Port) : (s.setPort p v).frzHist = s.frzHist := rfl
@[simp] theorem State.setPort_frzSeq (s : State) (p : Nat) (v : Port) : (s.setPort p v).frzSeq = s.frzSeq := rfl
@[simp] theorem State.setPort_frzCap (s : State) (p : Nat) (v : Port) : (s.setPort p v).frzCap = s.frzCap := rfl
@[simp] theorem State.setPort_frzHistCap (s : State) (p : Nat) (v : Port) : (s.setPort p v).frzHistCap = s.frzHistCap := rfl
@[simp] theorem State.setPort_pfFrozenTick (s : State) (p : Nat) (v : Port) : (s.setPort p v).pfFrozenTick = s.pfFrozenTick := rfl
@[simp] theorem State.setPort_pins (s : State) (p : Nat) (v : Port) : (s.setPort p v).pins = s.pins := rfl
@[simp] theorem State.setPort_chip (s : State) (p : Nat) (v : Port) : (s.setPort p v).chip = s.chip := rfl
@[simp] theorem State.setPort_plates (s : State) (p : Nat) (v : Port) : (s.setPort p v).plates = s.plates := rfl
@[simp] theorem State.setPort_storeErrs (s : State) (p : Nat) (v : Port) : (s.setPort p v).storeErrs = s.storeErrs := rfl
@[simp] theorem State.setPort_gravers (s : State) (p : Nat) (v : Port) : (s.setPort p v).gravers = s.gravers := rfl
@[simp] theorem State.setPort_dmaTens (s : State) (p : Nat) (v : Port) : (s.setPort p v).dmaTens = s.dmaTens := rfl
@[simp] theorem State.setPort_dmaLast (s : State) (p : Nat) (v : Port) : (s.setPort p v).dmaLast = s.dmaLast := rfl
@[simp] theorem State.setPort_fusesBlown (s : State) (p : Nat) (v : Port) : (s.setPort p v).fusesBlown = s.fusesBlown := rfl
@[simp] theorem State.setPort_fuses (s : State) (p : Nat) (v : Port) : (s.setPort p v).fuses = s.fuses := rfl
@[simp] theorem State.setPort_life (s : State) (p : Nat) (v : Port) : (s.setPort p v).life = s.life := rfl
@[simp] theorem State.setPort_tap (s : State) (p : Nat) (v : Port) : (s.setPort p v).tap = s.tap := rfl
@[simp] theorem State.setPort_tb (s : State) (p : Nat) (v : Port) : (s.setPort p v).tb = s.tb := rfl
@[simp] theorem State.setPort_chans (s : State) (p : Nat) (v : Port) : (s.setPort p v).chans = s.chans := rfl
@[simp] theorem State.setPort_vec2 (s : State) (p : Nat) (v : Port) : (s.setPort p v).vec2 = s.vec2 := rfl
@[simp] theorem State.setPort_arb (s : State) (p : Nat) (v : Port) : (s.setPort p v).arb = s.arb := rfl
@[simp] theorem State.setPort_laneGrants (s : State) (p : Nat) (v : Port) : (s.setPort p v).laneGrants = s.laneGrants := rfl
@[simp] theorem State.setPort_epkGrants (s : State) (p : Nat) (v : Port) : (s.setPort p v).epkGrants = s.epkGrants := rfl
@[simp] theorem State.setPort_imprGrants (s : State) (p : Nat) (v : Port) : (s.setPort p v).imprGrants = s.imprGrants := rfl
@[simp] theorem State.setPort_quietReqs (s : State) (p : Nat) (v : Port) : (s.setPort p v).quietReqs = s.quietReqs := rfl
@[simp] theorem State.setPort_wakes (s : State) (p : Nat) (v : Port) : (s.setPort p v).wakes = s.wakes := rfl
@[simp] theorem State.setPort_quiet (s : State) (p : Nat) (v : Port) : (s.setPort p v).quiet = s.quiet := rfl
@[simp] theorem State.setPort_siteIns (s : State) (p : Nat) (v : Port) : (s.setPort p v).siteIns = s.siteIns := rfl
@[simp] theorem State.setPort_echos (s : State) (p : Nat) (v : Port) : (s.setPort p v).echos = s.echos := rfl
@[simp] theorem State.setPort_fastRetry (s : State) (p : Nat) (v : Port) : (s.setPort p v).fastRetry = s.fastRetry := rfl
@[simp] theorem State.setPort_medias (s : State) (p : Nat) (v : Port) : (s.setPort p v).medias = s.medias := rfl
@[simp] theorem State.setPort_jitters (s : State) (p : Nat) (v : Port) : (s.setPort p v).jitters = s.jitters := rfl
@[simp] theorem State.setPort_sigs (s : State) (p : Nat) (v : Port) : (s.setPort p v).sigs = s.sigs := rfl
@[simp] theorem State.setPort_queues (s : State) (p : Nat) (v : Port) : (s.setPort p v).queues = s.queues := rfl
@[simp] theorem State.setPort_ports (s : State) (p : Nat) (v : Port) : (s.setPort p v).ports = Sparse.put {} s.ports p v := rfl
@[simp] theorem State.setPort_hatches (s : State) (p : Nat) (v : Port) : (s.setPort p v).hatches = s.hatches := rfl
@[simp] theorem State.setPort_hatchMem (s : State) (p : Nat) (v : Port) : (s.setPort p v).hatchMem = s.hatchMem := rfl
@[simp] theorem State.setPort_shapers (s : State) (p : Nat) (v : Port) : (s.setPort p v).shapers = s.shapers := rfl
@[simp] theorem State.setPort_shRates (s : State) (p : Nat) (v : Port) : (s.setPort p v).shRates = s.shRates := rfl
@[simp] theorem State.setPort_highways (s : State) (p : Nat) (v : Port) : (s.setPort p v).highways = s.highways := rfl
@[simp] theorem State.setPort_tks (s : State) (p : Nat) (v : Port) : (s.setPort p v).tks = s.tks := rfl
@[simp] theorem State.setPort_hold (s : State) (p : Nat) (v : Port) : (s.setPort p v).hold = s.hold := rfl
@[simp] theorem State.setPort_therms (s : State) (p : Nat) (v : Port) : (s.setPort p v).therms = s.therms := rfl
@[simp] theorem State.setPort_feAt (s : State) (p : Nat) (v : Port) : (s.setPort p v).feAt = s.feAt := rfl
@[simp] theorem State.setPort_convs (s : State) (p : Nat) (v : Port) : (s.setPort p v).convs = s.convs := rfl
@[simp] theorem State.setPort_ptCaps (s : State) (p : Nat) (v : Port) : (s.setPort p v).ptCaps = s.ptCaps := rfl
@[simp] theorem State.setPort_island (s : State) (p : Nat) (v : Port) : (s.setPort p v).island = s.island := rfl
@[simp] theorem State.setPort_mailbox (s : State) (p : Nat) (v : Port) : (s.setPort p v).mailbox = s.mailbox := rfl
@[simp] theorem State.setPort_wds (s : State) (p : Nat) (v : Port) : (s.setPort p v).wds = s.wds := rfl
@[simp] theorem State.setPort_ekLanes (s : State) (p : Nat) (v : Port) : (s.setPort p v).ekLanes = s.ekLanes := rfl
@[simp] theorem State.setPort_pairs (s : State) (p : Nat) (v : Port) : (s.setPort p v).pairs = s.pairs := rfl
@[simp] theorem State.setPort_mirrors (s : State) (p : Nat) (v : Port) : (s.setPort p v).mirrors = s.mirrors := rfl
@[simp] theorem State.setPort_epk (s : State) (p : Nat) (v : Port) : (s.setPort p v).epk = s.epk := rfl

/-! ### setHighway -/

@[simp] theorem State.setHighway_pending (s : State) (p : Nat) (v : Highway) : (s.setHighway p v).pending = s.pending := rfl
@[simp] theorem State.setHighway_now (s : State) (p : Nat) (v : Highway) : (s.setHighway p v).now = s.now := rfl
@[simp] theorem State.setHighway_draws (s : State) (p : Nat) (v : Highway) : (s.setHighway p v).draws = s.draws := rfl
@[simp] theorem State.setHighway_out (s : State) (p : Nat) (v : Highway) : (s.setHighway p v).out = s.out := rfl
@[simp] theorem State.setHighway_regs (s : State) (p : Nat) (v : Highway) : (s.setHighway p v).regs = s.regs := rfl
@[simp] theorem State.setHighway_pf (s : State) (p : Nat) (v : Highway) : (s.setHighway p v).pf = s.pf := rfl
@[simp] theorem State.setHighway_vfs (s : State) (p : Nat) (v : Highway) : (s.setHighway p v).vfs = s.vfs := rfl
@[simp] theorem State.setHighway_msix (s : State) (p : Nat) (v : Highway) : (s.setHighway p v).msix = s.msix := rfl
@[simp] theorem State.setHighway_aer (s : State) (p : Nat) (v : Highway) : (s.setHighway p v).aer = s.aer := rfl
@[simp] theorem State.setHighway_aers (s : State) (p : Nat) (v : Highway) : (s.setHighway p v).aers = s.aers := rfl
@[simp] theorem State.setHighway_flrs (s : State) (p : Nat) (v : Highway) : (s.setHighway p v).flrs = s.flrs := rfl
@[simp] theorem State.setHighway_pairHi (s : State) (p : Nat) (v : Highway) : (s.setHighway p v).pairHi = s.pairHi := rfl
@[simp] theorem State.setHighway_notes (s : State) (p : Nat) (v : Highway) : (s.setHighway p v).notes = s.notes := rfl
@[simp] theorem State.setHighway_lockSince (s : State) (p : Nat) (v : Highway) : (s.setHighway p v).lockSince = s.lockSince := rfl
@[simp] theorem State.setHighway_agreeSince (s : State) (p : Nat) (v : Highway) : (s.setHighway p v).agreeSince = s.agreeSince := rfl
@[simp] theorem State.setHighway_shadow48 (s : State) (p : Nat) (v : Highway) : (s.setHighway p v).shadow48 = s.shadow48 := rfl
@[simp] theorem State.setHighway_cnt48 (s : State) (p : Nat) (v : Highway) : (s.setHighway p v).cnt48 = s.cnt48 := rfl
@[simp] theorem State.setHighway_frozen (s : State) (p : Nat) (v : Highway) : (s.setHighway p v).frozen = s.frozen := rfl
@[simp] theorem State.setHighway_frzCur (s : State) (p : Nat) (v : Highway) : (s.setHighway p v).frzCur = s.frzCur := rfl
@[simp] theorem State.setHighway_frzHist (s : State) (p : Nat) (v : Highway) : (s.setHighway p v).frzHist = s.frzHist := rfl
@[simp] theorem State.setHighway_frzSeq (s : State) (p : Nat) (v : Highway) : (s.setHighway p v).frzSeq = s.frzSeq := rfl
@[simp] theorem State.setHighway_frzCap (s : State) (p : Nat) (v : Highway) : (s.setHighway p v).frzCap = s.frzCap := rfl
@[simp] theorem State.setHighway_frzHistCap (s : State) (p : Nat) (v : Highway) : (s.setHighway p v).frzHistCap = s.frzHistCap := rfl
@[simp] theorem State.setHighway_pfFrozenTick (s : State) (p : Nat) (v : Highway) : (s.setHighway p v).pfFrozenTick = s.pfFrozenTick := rfl
@[simp] theorem State.setHighway_pins (s : State) (p : Nat) (v : Highway) : (s.setHighway p v).pins = s.pins := rfl
@[simp] theorem State.setHighway_chip (s : State) (p : Nat) (v : Highway) : (s.setHighway p v).chip = s.chip := rfl
@[simp] theorem State.setHighway_plates (s : State) (p : Nat) (v : Highway) : (s.setHighway p v).plates = s.plates := rfl
@[simp] theorem State.setHighway_storeErrs (s : State) (p : Nat) (v : Highway) : (s.setHighway p v).storeErrs = s.storeErrs := rfl
@[simp] theorem State.setHighway_gravers (s : State) (p : Nat) (v : Highway) : (s.setHighway p v).gravers = s.gravers := rfl
@[simp] theorem State.setHighway_dmaTens (s : State) (p : Nat) (v : Highway) : (s.setHighway p v).dmaTens = s.dmaTens := rfl
@[simp] theorem State.setHighway_dmaLast (s : State) (p : Nat) (v : Highway) : (s.setHighway p v).dmaLast = s.dmaLast := rfl
@[simp] theorem State.setHighway_fusesBlown (s : State) (p : Nat) (v : Highway) : (s.setHighway p v).fusesBlown = s.fusesBlown := rfl
@[simp] theorem State.setHighway_fuses (s : State) (p : Nat) (v : Highway) : (s.setHighway p v).fuses = s.fuses := rfl
@[simp] theorem State.setHighway_life (s : State) (p : Nat) (v : Highway) : (s.setHighway p v).life = s.life := rfl
@[simp] theorem State.setHighway_tap (s : State) (p : Nat) (v : Highway) : (s.setHighway p v).tap = s.tap := rfl
@[simp] theorem State.setHighway_tb (s : State) (p : Nat) (v : Highway) : (s.setHighway p v).tb = s.tb := rfl
@[simp] theorem State.setHighway_chans (s : State) (p : Nat) (v : Highway) : (s.setHighway p v).chans = s.chans := rfl
@[simp] theorem State.setHighway_vec2 (s : State) (p : Nat) (v : Highway) : (s.setHighway p v).vec2 = s.vec2 := rfl
@[simp] theorem State.setHighway_arb (s : State) (p : Nat) (v : Highway) : (s.setHighway p v).arb = s.arb := rfl
@[simp] theorem State.setHighway_laneGrants (s : State) (p : Nat) (v : Highway) : (s.setHighway p v).laneGrants = s.laneGrants := rfl
@[simp] theorem State.setHighway_epkGrants (s : State) (p : Nat) (v : Highway) : (s.setHighway p v).epkGrants = s.epkGrants := rfl
@[simp] theorem State.setHighway_imprGrants (s : State) (p : Nat) (v : Highway) : (s.setHighway p v).imprGrants = s.imprGrants := rfl
@[simp] theorem State.setHighway_quietReqs (s : State) (p : Nat) (v : Highway) : (s.setHighway p v).quietReqs = s.quietReqs := rfl
@[simp] theorem State.setHighway_wakes (s : State) (p : Nat) (v : Highway) : (s.setHighway p v).wakes = s.wakes := rfl
@[simp] theorem State.setHighway_quiet (s : State) (p : Nat) (v : Highway) : (s.setHighway p v).quiet = s.quiet := rfl
@[simp] theorem State.setHighway_siteIns (s : State) (p : Nat) (v : Highway) : (s.setHighway p v).siteIns = s.siteIns := rfl
@[simp] theorem State.setHighway_echos (s : State) (p : Nat) (v : Highway) : (s.setHighway p v).echos = s.echos := rfl
@[simp] theorem State.setHighway_fastRetry (s : State) (p : Nat) (v : Highway) : (s.setHighway p v).fastRetry = s.fastRetry := rfl
@[simp] theorem State.setHighway_medias (s : State) (p : Nat) (v : Highway) : (s.setHighway p v).medias = s.medias := rfl
@[simp] theorem State.setHighway_jitters (s : State) (p : Nat) (v : Highway) : (s.setHighway p v).jitters = s.jitters := rfl
@[simp] theorem State.setHighway_sigs (s : State) (p : Nat) (v : Highway) : (s.setHighway p v).sigs = s.sigs := rfl
@[simp] theorem State.setHighway_queues (s : State) (p : Nat) (v : Highway) : (s.setHighway p v).queues = s.queues := rfl
@[simp] theorem State.setHighway_ports (s : State) (p : Nat) (v : Highway) : (s.setHighway p v).ports = s.ports := rfl
@[simp] theorem State.setHighway_hatches (s : State) (p : Nat) (v : Highway) : (s.setHighway p v).hatches = s.hatches := rfl
@[simp] theorem State.setHighway_hatchMem (s : State) (p : Nat) (v : Highway) : (s.setHighway p v).hatchMem = s.hatchMem := rfl
@[simp] theorem State.setHighway_shapers (s : State) (p : Nat) (v : Highway) : (s.setHighway p v).shapers = s.shapers := rfl
@[simp] theorem State.setHighway_shRates (s : State) (p : Nat) (v : Highway) : (s.setHighway p v).shRates = s.shRates := rfl
@[simp] theorem State.setHighway_highways (s : State) (p : Nat) (v : Highway) : (s.setHighway p v).highways = Sparse.put {} s.highways p v := rfl
@[simp] theorem State.setHighway_tks (s : State) (p : Nat) (v : Highway) : (s.setHighway p v).tks = s.tks := rfl
@[simp] theorem State.setHighway_hold (s : State) (p : Nat) (v : Highway) : (s.setHighway p v).hold = s.hold := rfl
@[simp] theorem State.setHighway_therms (s : State) (p : Nat) (v : Highway) : (s.setHighway p v).therms = s.therms := rfl
@[simp] theorem State.setHighway_feAt (s : State) (p : Nat) (v : Highway) : (s.setHighway p v).feAt = s.feAt := rfl
@[simp] theorem State.setHighway_convs (s : State) (p : Nat) (v : Highway) : (s.setHighway p v).convs = s.convs := rfl
@[simp] theorem State.setHighway_ptCaps (s : State) (p : Nat) (v : Highway) : (s.setHighway p v).ptCaps = s.ptCaps := rfl
@[simp] theorem State.setHighway_island (s : State) (p : Nat) (v : Highway) : (s.setHighway p v).island = s.island := rfl
@[simp] theorem State.setHighway_mailbox (s : State) (p : Nat) (v : Highway) : (s.setHighway p v).mailbox = s.mailbox := rfl
@[simp] theorem State.setHighway_wds (s : State) (p : Nat) (v : Highway) : (s.setHighway p v).wds = s.wds := rfl
@[simp] theorem State.setHighway_ekLanes (s : State) (p : Nat) (v : Highway) : (s.setHighway p v).ekLanes = s.ekLanes := rfl
@[simp] theorem State.setHighway_pairs (s : State) (p : Nat) (v : Highway) : (s.setHighway p v).pairs = s.pairs := rfl
@[simp] theorem State.setHighway_mirrors (s : State) (p : Nat) (v : Highway) : (s.setHighway p v).mirrors = s.mirrors := rfl
@[simp] theorem State.setHighway_epk (s : State) (p : Nat) (v : Highway) : (s.setHighway p v).epk = s.epk := rfl

/-! ### modTb -/

@[simp] theorem State.modTb_pending (s : State) (f : Timebase → Timebase) : (s.modTb f).pending = s.pending := rfl
@[simp] theorem State.modTb_now (s : State) (f : Timebase → Timebase) : (s.modTb f).now = s.now := rfl
@[simp] theorem State.modTb_draws (s : State) (f : Timebase → Timebase) : (s.modTb f).draws = s.draws := rfl
@[simp] theorem State.modTb_out (s : State) (f : Timebase → Timebase) : (s.modTb f).out = s.out := rfl
@[simp] theorem State.modTb_regs (s : State) (f : Timebase → Timebase) : (s.modTb f).regs = s.regs := rfl
@[simp] theorem State.modTb_pf (s : State) (f : Timebase → Timebase) : (s.modTb f).pf = s.pf := rfl
@[simp] theorem State.modTb_vfs (s : State) (f : Timebase → Timebase) : (s.modTb f).vfs = s.vfs := rfl
@[simp] theorem State.modTb_msix (s : State) (f : Timebase → Timebase) : (s.modTb f).msix = s.msix := rfl
@[simp] theorem State.modTb_aer (s : State) (f : Timebase → Timebase) : (s.modTb f).aer = s.aer := rfl
@[simp] theorem State.modTb_aers (s : State) (f : Timebase → Timebase) : (s.modTb f).aers = s.aers := rfl
@[simp] theorem State.modTb_flrs (s : State) (f : Timebase → Timebase) : (s.modTb f).flrs = s.flrs := rfl
@[simp] theorem State.modTb_pairHi (s : State) (f : Timebase → Timebase) : (s.modTb f).pairHi = s.pairHi := rfl
@[simp] theorem State.modTb_notes (s : State) (f : Timebase → Timebase) : (s.modTb f).notes = s.notes := rfl
@[simp] theorem State.modTb_lockSince (s : State) (f : Timebase → Timebase) : (s.modTb f).lockSince = s.lockSince := rfl
@[simp] theorem State.modTb_agreeSince (s : State) (f : Timebase → Timebase) : (s.modTb f).agreeSince = s.agreeSince := rfl
@[simp] theorem State.modTb_shadow48 (s : State) (f : Timebase → Timebase) : (s.modTb f).shadow48 = s.shadow48 := rfl
@[simp] theorem State.modTb_cnt48 (s : State) (f : Timebase → Timebase) : (s.modTb f).cnt48 = s.cnt48 := rfl
@[simp] theorem State.modTb_frozen (s : State) (f : Timebase → Timebase) : (s.modTb f).frozen = s.frozen := rfl
@[simp] theorem State.modTb_frzCur (s : State) (f : Timebase → Timebase) : (s.modTb f).frzCur = s.frzCur := rfl
@[simp] theorem State.modTb_frzHist (s : State) (f : Timebase → Timebase) : (s.modTb f).frzHist = s.frzHist := rfl
@[simp] theorem State.modTb_frzSeq (s : State) (f : Timebase → Timebase) : (s.modTb f).frzSeq = s.frzSeq := rfl
@[simp] theorem State.modTb_frzCap (s : State) (f : Timebase → Timebase) : (s.modTb f).frzCap = s.frzCap := rfl
@[simp] theorem State.modTb_frzHistCap (s : State) (f : Timebase → Timebase) : (s.modTb f).frzHistCap = s.frzHistCap := rfl
@[simp] theorem State.modTb_pfFrozenTick (s : State) (f : Timebase → Timebase) : (s.modTb f).pfFrozenTick = s.pfFrozenTick := rfl
@[simp] theorem State.modTb_pins (s : State) (f : Timebase → Timebase) : (s.modTb f).pins = s.pins := rfl
@[simp] theorem State.modTb_chip (s : State) (f : Timebase → Timebase) : (s.modTb f).chip = s.chip := rfl
@[simp] theorem State.modTb_plates (s : State) (f : Timebase → Timebase) : (s.modTb f).plates = s.plates := rfl
@[simp] theorem State.modTb_storeErrs (s : State) (f : Timebase → Timebase) : (s.modTb f).storeErrs = s.storeErrs := rfl
@[simp] theorem State.modTb_gravers (s : State) (f : Timebase → Timebase) : (s.modTb f).gravers = s.gravers := rfl
@[simp] theorem State.modTb_dmaTens (s : State) (f : Timebase → Timebase) : (s.modTb f).dmaTens = s.dmaTens := rfl
@[simp] theorem State.modTb_dmaLast (s : State) (f : Timebase → Timebase) : (s.modTb f).dmaLast = s.dmaLast := rfl
@[simp] theorem State.modTb_fusesBlown (s : State) (f : Timebase → Timebase) : (s.modTb f).fusesBlown = s.fusesBlown := rfl
@[simp] theorem State.modTb_fuses (s : State) (f : Timebase → Timebase) : (s.modTb f).fuses = s.fuses := rfl
@[simp] theorem State.modTb_life (s : State) (f : Timebase → Timebase) : (s.modTb f).life = s.life := rfl
@[simp] theorem State.modTb_tap (s : State) (f : Timebase → Timebase) : (s.modTb f).tap = s.tap := rfl
@[simp] theorem State.modTb_tb (s : State) (f : Timebase → Timebase) : (s.modTb f).tb = f s.tb := rfl
@[simp] theorem State.modTb_chans (s : State) (f : Timebase → Timebase) : (s.modTb f).chans = s.chans := rfl
@[simp] theorem State.modTb_vec2 (s : State) (f : Timebase → Timebase) : (s.modTb f).vec2 = s.vec2 := rfl
@[simp] theorem State.modTb_arb (s : State) (f : Timebase → Timebase) : (s.modTb f).arb = s.arb := rfl
@[simp] theorem State.modTb_laneGrants (s : State) (f : Timebase → Timebase) : (s.modTb f).laneGrants = s.laneGrants := rfl
@[simp] theorem State.modTb_epkGrants (s : State) (f : Timebase → Timebase) : (s.modTb f).epkGrants = s.epkGrants := rfl
@[simp] theorem State.modTb_imprGrants (s : State) (f : Timebase → Timebase) : (s.modTb f).imprGrants = s.imprGrants := rfl
@[simp] theorem State.modTb_quietReqs (s : State) (f : Timebase → Timebase) : (s.modTb f).quietReqs = s.quietReqs := rfl
@[simp] theorem State.modTb_wakes (s : State) (f : Timebase → Timebase) : (s.modTb f).wakes = s.wakes := rfl
@[simp] theorem State.modTb_quiet (s : State) (f : Timebase → Timebase) : (s.modTb f).quiet = s.quiet := rfl
@[simp] theorem State.modTb_siteIns (s : State) (f : Timebase → Timebase) : (s.modTb f).siteIns = s.siteIns := rfl
@[simp] theorem State.modTb_echos (s : State) (f : Timebase → Timebase) : (s.modTb f).echos = s.echos := rfl
@[simp] theorem State.modTb_fastRetry (s : State) (f : Timebase → Timebase) : (s.modTb f).fastRetry = s.fastRetry := rfl
@[simp] theorem State.modTb_medias (s : State) (f : Timebase → Timebase) : (s.modTb f).medias = s.medias := rfl
@[simp] theorem State.modTb_jitters (s : State) (f : Timebase → Timebase) : (s.modTb f).jitters = s.jitters := rfl
@[simp] theorem State.modTb_sigs (s : State) (f : Timebase → Timebase) : (s.modTb f).sigs = s.sigs := rfl
@[simp] theorem State.modTb_queues (s : State) (f : Timebase → Timebase) : (s.modTb f).queues = s.queues := rfl
@[simp] theorem State.modTb_ports (s : State) (f : Timebase → Timebase) : (s.modTb f).ports = s.ports := rfl
@[simp] theorem State.modTb_hatches (s : State) (f : Timebase → Timebase) : (s.modTb f).hatches = s.hatches := rfl
@[simp] theorem State.modTb_hatchMem (s : State) (f : Timebase → Timebase) : (s.modTb f).hatchMem = s.hatchMem := rfl
@[simp] theorem State.modTb_shapers (s : State) (f : Timebase → Timebase) : (s.modTb f).shapers = s.shapers := rfl
@[simp] theorem State.modTb_shRates (s : State) (f : Timebase → Timebase) : (s.modTb f).shRates = s.shRates := rfl
@[simp] theorem State.modTb_highways (s : State) (f : Timebase → Timebase) : (s.modTb f).highways = s.highways := rfl
@[simp] theorem State.modTb_tks (s : State) (f : Timebase → Timebase) : (s.modTb f).tks = s.tks := rfl
@[simp] theorem State.modTb_hold (s : State) (f : Timebase → Timebase) : (s.modTb f).hold = s.hold := rfl
@[simp] theorem State.modTb_therms (s : State) (f : Timebase → Timebase) : (s.modTb f).therms = s.therms := rfl
@[simp] theorem State.modTb_feAt (s : State) (f : Timebase → Timebase) : (s.modTb f).feAt = s.feAt := rfl
@[simp] theorem State.modTb_convs (s : State) (f : Timebase → Timebase) : (s.modTb f).convs = s.convs := rfl
@[simp] theorem State.modTb_ptCaps (s : State) (f : Timebase → Timebase) : (s.modTb f).ptCaps = s.ptCaps := rfl
@[simp] theorem State.modTb_island (s : State) (f : Timebase → Timebase) : (s.modTb f).island = s.island := rfl
@[simp] theorem State.modTb_mailbox (s : State) (f : Timebase → Timebase) : (s.modTb f).mailbox = s.mailbox := rfl
@[simp] theorem State.modTb_wds (s : State) (f : Timebase → Timebase) : (s.modTb f).wds = s.wds := rfl
@[simp] theorem State.modTb_ekLanes (s : State) (f : Timebase → Timebase) : (s.modTb f).ekLanes = s.ekLanes := rfl
@[simp] theorem State.modTb_pairs (s : State) (f : Timebase → Timebase) : (s.modTb f).pairs = s.pairs := rfl
@[simp] theorem State.modTb_mirrors (s : State) (f : Timebase → Timebase) : (s.modTb f).mirrors = s.mirrors := rfl
@[simp] theorem State.modTb_epk (s : State) (f : Timebase → Timebase) : (s.modTb f).epk = s.epk := rfl

/-! ### setWd -/

@[simp] theorem State.setWd_pending (s : State) (c : Nat) (w : Wd) : (s.setWd c w).pending = s.pending := rfl
@[simp] theorem State.setWd_now (s : State) (c : Nat) (w : Wd) : (s.setWd c w).now = s.now := rfl
@[simp] theorem State.setWd_draws (s : State) (c : Nat) (w : Wd) : (s.setWd c w).draws = s.draws := rfl
@[simp] theorem State.setWd_out (s : State) (c : Nat) (w : Wd) : (s.setWd c w).out = s.out := rfl
@[simp] theorem State.setWd_regs (s : State) (c : Nat) (w : Wd) : (s.setWd c w).regs = s.regs := rfl
@[simp] theorem State.setWd_pf (s : State) (c : Nat) (w : Wd) : (s.setWd c w).pf = s.pf := rfl
@[simp] theorem State.setWd_vfs (s : State) (c : Nat) (w : Wd) : (s.setWd c w).vfs = s.vfs := rfl
@[simp] theorem State.setWd_msix (s : State) (c : Nat) (w : Wd) : (s.setWd c w).msix = s.msix := rfl
@[simp] theorem State.setWd_aer (s : State) (c : Nat) (w : Wd) : (s.setWd c w).aer = s.aer := rfl
@[simp] theorem State.setWd_aers (s : State) (c : Nat) (w : Wd) : (s.setWd c w).aers = s.aers := rfl
@[simp] theorem State.setWd_flrs (s : State) (c : Nat) (w : Wd) : (s.setWd c w).flrs = s.flrs := rfl
@[simp] theorem State.setWd_pairHi (s : State) (c : Nat) (w : Wd) : (s.setWd c w).pairHi = s.pairHi := rfl
@[simp] theorem State.setWd_notes (s : State) (c : Nat) (w : Wd) : (s.setWd c w).notes = s.notes := rfl
@[simp] theorem State.setWd_lockSince (s : State) (c : Nat) (w : Wd) : (s.setWd c w).lockSince = s.lockSince := rfl
@[simp] theorem State.setWd_agreeSince (s : State) (c : Nat) (w : Wd) : (s.setWd c w).agreeSince = s.agreeSince := rfl
@[simp] theorem State.setWd_shadow48 (s : State) (c : Nat) (w : Wd) : (s.setWd c w).shadow48 = s.shadow48 := rfl
@[simp] theorem State.setWd_cnt48 (s : State) (c : Nat) (w : Wd) : (s.setWd c w).cnt48 = s.cnt48 := rfl
@[simp] theorem State.setWd_frozen (s : State) (c : Nat) (w : Wd) : (s.setWd c w).frozen = s.frozen := rfl
@[simp] theorem State.setWd_frzCur (s : State) (c : Nat) (w : Wd) : (s.setWd c w).frzCur = s.frzCur := rfl
@[simp] theorem State.setWd_frzHist (s : State) (c : Nat) (w : Wd) : (s.setWd c w).frzHist = s.frzHist := rfl
@[simp] theorem State.setWd_frzSeq (s : State) (c : Nat) (w : Wd) : (s.setWd c w).frzSeq = s.frzSeq := rfl
@[simp] theorem State.setWd_frzCap (s : State) (c : Nat) (w : Wd) : (s.setWd c w).frzCap = s.frzCap := rfl
@[simp] theorem State.setWd_frzHistCap (s : State) (c : Nat) (w : Wd) : (s.setWd c w).frzHistCap = s.frzHistCap := rfl
@[simp] theorem State.setWd_pfFrozenTick (s : State) (c : Nat) (w : Wd) : (s.setWd c w).pfFrozenTick = s.pfFrozenTick := rfl
@[simp] theorem State.setWd_pins (s : State) (c : Nat) (w : Wd) : (s.setWd c w).pins = s.pins := rfl
@[simp] theorem State.setWd_chip (s : State) (c : Nat) (w : Wd) : (s.setWd c w).chip = s.chip := rfl
@[simp] theorem State.setWd_plates (s : State) (c : Nat) (w : Wd) : (s.setWd c w).plates = s.plates := rfl
@[simp] theorem State.setWd_storeErrs (s : State) (c : Nat) (w : Wd) : (s.setWd c w).storeErrs = s.storeErrs := rfl
@[simp] theorem State.setWd_gravers (s : State) (c : Nat) (w : Wd) : (s.setWd c w).gravers = s.gravers := rfl
@[simp] theorem State.setWd_dmaTens (s : State) (c : Nat) (w : Wd) : (s.setWd c w).dmaTens = s.dmaTens := rfl
@[simp] theorem State.setWd_dmaLast (s : State) (c : Nat) (w : Wd) : (s.setWd c w).dmaLast = s.dmaLast := rfl
@[simp] theorem State.setWd_fusesBlown (s : State) (c : Nat) (w : Wd) : (s.setWd c w).fusesBlown = s.fusesBlown := rfl
@[simp] theorem State.setWd_fuses (s : State) (c : Nat) (w : Wd) : (s.setWd c w).fuses = s.fuses := rfl
@[simp] theorem State.setWd_life (s : State) (c : Nat) (w : Wd) : (s.setWd c w).life = s.life := rfl
@[simp] theorem State.setWd_tap (s : State) (c : Nat) (w : Wd) : (s.setWd c w).tap = s.tap := rfl
@[simp] theorem State.setWd_tb (s : State) (c : Nat) (w : Wd) : (s.setWd c w).tb = s.tb := rfl
@[simp] theorem State.setWd_chans (s : State) (c : Nat) (w : Wd) : (s.setWd c w).chans = s.chans := rfl
@[simp] theorem State.setWd_vec2 (s : State) (c : Nat) (w : Wd) : (s.setWd c w).vec2 = s.vec2 := rfl
@[simp] theorem State.setWd_arb (s : State) (c : Nat) (w : Wd) : (s.setWd c w).arb = s.arb := rfl
@[simp] theorem State.setWd_laneGrants (s : State) (c : Nat) (w : Wd) : (s.setWd c w).laneGrants = s.laneGrants := rfl
@[simp] theorem State.setWd_epkGrants (s : State) (c : Nat) (w : Wd) : (s.setWd c w).epkGrants = s.epkGrants := rfl
@[simp] theorem State.setWd_imprGrants (s : State) (c : Nat) (w : Wd) : (s.setWd c w).imprGrants = s.imprGrants := rfl
@[simp] theorem State.setWd_quietReqs (s : State) (c : Nat) (w : Wd) : (s.setWd c w).quietReqs = s.quietReqs := rfl
@[simp] theorem State.setWd_wakes (s : State) (c : Nat) (w : Wd) : (s.setWd c w).wakes = s.wakes := rfl
@[simp] theorem State.setWd_quiet (s : State) (c : Nat) (w : Wd) : (s.setWd c w).quiet = s.quiet := rfl
@[simp] theorem State.setWd_siteIns (s : State) (c : Nat) (w : Wd) : (s.setWd c w).siteIns = s.siteIns := rfl
@[simp] theorem State.setWd_echos (s : State) (c : Nat) (w : Wd) : (s.setWd c w).echos = s.echos := rfl
@[simp] theorem State.setWd_fastRetry (s : State) (c : Nat) (w : Wd) : (s.setWd c w).fastRetry = s.fastRetry := rfl
@[simp] theorem State.setWd_medias (s : State) (c : Nat) (w : Wd) : (s.setWd c w).medias = s.medias := rfl
@[simp] theorem State.setWd_jitters (s : State) (c : Nat) (w : Wd) : (s.setWd c w).jitters = s.jitters := rfl
@[simp] theorem State.setWd_sigs (s : State) (c : Nat) (w : Wd) : (s.setWd c w).sigs = s.sigs := rfl
@[simp] theorem State.setWd_queues (s : State) (c : Nat) (w : Wd) : (s.setWd c w).queues = s.queues := rfl
@[simp] theorem State.setWd_ports (s : State) (c : Nat) (w : Wd) : (s.setWd c w).ports = s.ports := rfl
@[simp] theorem State.setWd_hatches (s : State) (c : Nat) (w : Wd) : (s.setWd c w).hatches = s.hatches := rfl
@[simp] theorem State.setWd_hatchMem (s : State) (c : Nat) (w : Wd) : (s.setWd c w).hatchMem = s.hatchMem := rfl
@[simp] theorem State.setWd_shapers (s : State) (c : Nat) (w : Wd) : (s.setWd c w).shapers = s.shapers := rfl
@[simp] theorem State.setWd_shRates (s : State) (c : Nat) (w : Wd) : (s.setWd c w).shRates = s.shRates := rfl
@[simp] theorem State.setWd_highways (s : State) (c : Nat) (w : Wd) : (s.setWd c w).highways = s.highways := rfl
@[simp] theorem State.setWd_tks (s : State) (c : Nat) (w : Wd) : (s.setWd c w).tks = s.tks := rfl
@[simp] theorem State.setWd_hold (s : State) (c : Nat) (w : Wd) : (s.setWd c w).hold = s.hold := rfl
@[simp] theorem State.setWd_therms (s : State) (c : Nat) (w : Wd) : (s.setWd c w).therms = s.therms := rfl
@[simp] theorem State.setWd_feAt (s : State) (c : Nat) (w : Wd) : (s.setWd c w).feAt = s.feAt := rfl
@[simp] theorem State.setWd_convs (s : State) (c : Nat) (w : Wd) : (s.setWd c w).convs = s.convs := rfl
@[simp] theorem State.setWd_ptCaps (s : State) (c : Nat) (w : Wd) : (s.setWd c w).ptCaps = s.ptCaps := rfl
@[simp] theorem State.setWd_island (s : State) (c : Nat) (w : Wd) : (s.setWd c w).island = s.island := rfl
@[simp] theorem State.setWd_mailbox (s : State) (c : Nat) (w : Wd) : (s.setWd c w).mailbox = s.mailbox := rfl
@[simp] theorem State.setWd_wds (s : State) (c : Nat) (w : Wd) : (s.setWd c w).wds = Sparse.put {} s.wds c w := rfl
@[simp] theorem State.setWd_ekLanes (s : State) (c : Nat) (w : Wd) : (s.setWd c w).ekLanes = s.ekLanes := rfl
@[simp] theorem State.setWd_pairs (s : State) (c : Nat) (w : Wd) : (s.setWd c w).pairs = s.pairs := rfl
@[simp] theorem State.setWd_mirrors (s : State) (c : Nat) (w : Wd) : (s.setWd c w).mirrors = s.mirrors := rfl
@[simp] theorem State.setWd_epk (s : State) (c : Nat) (w : Wd) : (s.setWd c w).epk = s.epk := rfl

/-! ### Drawing -/

theorem State.drawNat_eq (s : State) : s.drawNat = (Config.freeNat s.draws, { s with draws := s.draws + 1 }) := rfl
theorem State.drawBool_eq (s : State) : s.drawBool = (Config.freeBool s.draws, { s with draws := s.draws + 1 }) := rfl

end Sys2Proof.Machine
end

