-- ==== Sys2Proof/WellFormed.lean ====
section
/-! DEFINITION. Which commands can be sent: the operands that the types leave too wide. A command that is not well formed names
a request no agent can make; exec leaves the state alone or treats it as the nearest request. -/

namespace Sys2Proof

/-- Ring slots 1 to 127 hold operations (R188). -/
def ringSlot (idx : Nat) : Bool := decide (1 ≤ idx ∧ idx ≤ 127)

/-- R6: the request is not one aligned doubleword with all its bytes; PCI Express carries at most 1,024 doublewords. -/
def brokenAlignment (off : Nat) (be : BitVec 4) (dws : Nat) : Bool :=
  (off % 4 != 0 || be != 0xF || dws != 1) && decide (1 ≤ dws ∧ dws ≤ 1024)

/-- A reading in Q1.23 (R511). -/
def q23 (x : Int) : Bool := decide (-(2 ^ 23) ≤ x ∧ x < 2 ^ 23)

/-- A signal sample in nV, 32 bits signed. -/
def sample32 (x : Int) : Bool := decide (-(2 ^ 31) ≤ x ∧ x < 2 ^ 31)

/-- Resistances of 32 bits, in mΩ. -/
def Bridge.wf (b : Bridge) : Bool := decide (b.thermistor < 2 ^ 32 ∧ b.reference < 2 ^ 32)

/-- A number stands at most once in a list. -/
def distinct : List Nat → Bool
  | [] => true
  | x :: r => !r.contains x && distinct r

/-- A tone below 8 kHz that an 18-bit sample can hold, modulated by no more than itself. -/
def Tone.wf (t : Tone) : Bool := decide (t.freq < 80000 ∧ t.amp ≤ 131071 ∧ t.turn < 360 ∧ t.amFreq ≤ 100000 ∧ t.amDepth ≤ 1000)

/-- What a detector finds in a frame of one signal. -/
def Heard.wf (h : Heard) : Bool := h.tones.all Tone.wf && decide (h.flags ≤ 131071)

/-- The signals of one channel in a frame: eight bytes of its timeslot, or none. -/
def FrameIn.wf (f : FrameIn) : Bool :=
  (f.line.isEmpty || f.line.length == 8) && f.rin.wf && f.sin.wf && f.e.wf

/-- A completion names a slot that holds operations. -/
def RxTlp.wf : RxTlp → Bool
  | .mmioWrite _ => true
  | .completion _ idx => ringSlot idx

/-- The sequence number of an Epkuone frame has 32 bits (R689). -/
def EpkHdr.wf (h : EpkHdr) : Bool := decide (h.seq < 2 ^ 32)

/-- Is the command one that can be sent? -/
def Instr.wf : Instr → Bool
  | .registerWrite _ _ off _ => off % 4 == 0
  | .readClear _ _ off => off % 4 == 0
  | .counter48LowRead _ off => off % 8 == 0
  | .misalignedMmioAccess _ _ off be dws _ => brokenAlignment off be dws
  | .eventEnableWrite _ sheet _ => (Machine.sheetAt sheet).isSome
  | .lockClaim _ sheet _ => (Machine.sheetAt sheet).isSome
  | .lockRelease _ sheet => (Machine.sheetAt sheet).isSome
  | .lockBrokenClear _ sheet _ => (Machine.sheetAt sheet).isSome
  | .lockOverrun sheet => (Machine.sheetAt sheet).isSome
  | .traceSample sheet => (Machine.sheetAt sheet).isSome
  | .acceptPathWrite _ sheet => (Machine.sheetAt sheet).isSome
  | .compatPrevWrite _ sheet _ => (Machine.sheetAt sheet).isSome
  | .hostPortHostStateWrite _ _ => true
  | .tenantHostStateWrite _ _ _ => true
  | .numvfsWrite n => decide (n < 65536)
  | .vfFlr _ => true
  | .flrDrainComplete _ => true
  | .flrComplete _ => true
  | .dmaReadCompletion _ idx off data => ringSlot idx && decide (off + data.length ≤ 16384)
  | .completionTimeout _ idx => ringSlot idx
  | .mmioReadTimeout _ off => off % 4 == 0
  | .poisonedTlpReceived tlp => tlp.wf
  | .ecrcError tlp => tlp.wf
  | .malformedTlp _ => true
  | .linkTrained _ _ => true
  | .msixUnmask fn vec => decide (vec < if fn.val = 0 then 64 else 4)
  | .vfNoteWrite _ _ => true
  | .pfNoteWrite _ _ => true
  | .hpPairLoRead _ _ => true
  | .treePreferWrite _ _ => true
  | .treeSourceReturn _ => true
  | .timebasePllSourceReturn _ => true
  | .platePllUnlock _ _ => true
  | .porNRelease _ => true
  | .vddAonRecovered _ => true
  | .chipResetRequest _ _ => true
  | .plateResetRequest _ _ => true
  | .chipResetRelease _ => true
  | .plateWakeSlot _ => true
  | .platePllLock _ => true
  | .plateStoreInitDone _ => true
  | .plateKernelInitDone _ _ => true
  | .bootBundleReadDone _ _ _ => true
  | .frameTick _ media _ => media.all FrameIn.wf && distinct (media.map (fun f => f.ch.val))
  | .graverOverrun _ _ _ => true
  | .burnishRead _ _ => true
  | .plateHostStateWrite _ _ _ => true
  | .plateStopComplete _ => true
  | .baseGrantRetry _ => true
  | .graverClusterHostStateWrite _ _ _ => true
  | .graverDebugHaltWrite _ _ _ => true
  | .dmaHostStateWrite _ _ _ => true
  | .dmaEnableWrite _ _ _ => true
  | .dmaRingPoll _ _ => true
  | .dmaDescriptorRead _ _ => true
  | .dmaOperationStart _ => true
  | .dmaStatusWrite _ => true
  | .chIntentWrite _ _ _ => true
  | .chOwnerWrite _ _ _ => true
  | .wakeTimeout _ => true
  | .channelTraceSample _ => true
  | .channelAcceptPath _ _ => true
  | .ecFastTimeout _ => true
  | .ecResetCoef _ _ => true
  | .ecTdForce _ _ => true
  | .ecTdRelease _ _ => true
  | .ecFastRetry _ => true
  | .doubleTalkHangEnd _ => true
  | .toneDisablerRelease _ => true
  | .rtcpSend _ => true
  | .eventSendWrite _ _ _ => true
  | .eventUpdateSend _ => true
  | .eventEndSend _ => true
  | .eventPlayTimeout _ => true
  | .toneGenCommand _ _ _ => true
  | .jitterSecondUpdate _ => true
  | .jbResyncCommand _ _ => true
  | .dfResetCommand _ _ => true
  | .queueFlush _ _ _ => true
  | .queueOwnerWrite _ _ _ _ => true
  | .steeringRelay _ _ => true
  | .macHostStateWrite _ _ _ => true
  | .moduleAbsent _ _ => true
  | .moduleTxFault _ _ _ => true
  | .linkUpDeclare _ _ _ => true
  | .linkDownDeclare _ _ => true
  | .flapGraceExpire _ => true
  | .txEntryExpire _ _ => true
  | .frameFirstByte _ _ => true
  | .frameReceived _ _ _ _ => true
  | .pauseFrameReceived _ _ => true
  | .pauseTimerExpire _ => true
  | .pauseGuardExpire _ => true
  | .pauseHoldEnd _ => true
  | .pauseTxRepeat _ => true
  | .transmitChoice _ => true
  | .transmitEnd _ => true
  | .txUnderrun _ sent => decide (sent < 16384)
  | .txtsPopRead _ _ => true
  | .hatchHostStateWrite _ _ _ => true
  | .hatchCycleBoundary _ => true
  | .gateEdge _ => true
  | .refillTick _ => true
  | .hatchSwapGo _ _ _ => true
  | .hatchSwapCancel _ _ => true
  | .shaperReset _ _ _ => true
  | .tdmHostStateWrite _ _ _ => true
  | .elasticSlip _ _ _ => true
  | .tdmClockLost _ => true
  | .tdmClockBack _ => true
  | .tdmFsError _ => true
  | .tdmRealign _ => true
  | .timebaseHostStateWrite _ _ => true
  | .ppsEdge _ _ => true
  | .ptpSubmit _ _ => true
  | .todNextArm _ _ => true
  | .freqSourceSecond _ samples => samples.length == 1000
  | .sourceQualifyTimer _ => true
  | .timeSetGo _ _ => true
  | .extFreqWrite _ _ => true
  | .extStateWrite _ _ => true
  | .modelReset _ => true
  | .modelExport _ => true
  | .modelImport _ => true
  | .timeCaptureRead _ _ => true
  | .broadcastWord _ => true
  | .broadcastLoss _ => true
  | .broadcastBack _ => true
  | .rejoinAdopt _ => true
  | .timekeeperHostStateWrite _ _ _ => true
  | .frontEndHostStateWrite _ _ => true
  | .frontEndReading th0 th1 die => th0.wf && th1.wf && q23 die
  | .frontEndRateSecond _ => true
  | .coefLoadWrite _ _ => true
  | .efcRefMeasure _ => true
  | .efcManualWrite _ _ => true
  | .islandInterval _ current volts => current.all sample32 && volts.all sample32
  | .islandWindowPublish _ => true
  | .islandTempReading _ th die => th.wf && q23 die
  | .fluxDriveLimit _ _ => true
  | .sealEnChange _ => true
  | .uartReadParam _ => true
  | .uartWriteParam _ _ _ => true
  | .uartCommit _ _ _ => true
  | .uartReadLog _ => true
  | .uartStream _ _ => true
  | .streamFeedSend _ => true
  | .uartTpSet _ _ _ _ => true
  | .uartReadFeed _ => true
  | .uartBadFrame _ _ => true
  | .vddIslLow _ _ => true
  | .mbSeqRead _ => true
  | .unfreezeWrite _ _ => true
  | .freezeRecordRead _ _ => true
  | .drainOverrun master _ _ => Machine.isMaster master.toNat
  | .watchdogService _ _ _ => true
  | .watchdogExpiry _ => true
  | .watchdogStart _ _ _ => true
  | .watchdogKeyWrite _ _ _ => true
  | .watchdogDebugHold _ _ => true
  | .watchdogDebugRelease _ _ => true
  | .watchdogWindowOpen _ => true
  | .watchdogWakeLatch _ => true
  | .evidenceClear _ _ => true
  | .tickMeasure _ => true
  | .lifecycleRequestWord _ _ => true
  | .transitionFuseDone _ => true
  | .rtmImageWrite _ _ _ => true
  | .rtmVerifyGo _ => true
  | .fuseProgramCmd _ _ => true
  | .fuseProgramDone _ => true
  | .extest _ => true
  | .samplePreload _ _ => true
  | .makerTest _ => true
  | .debugHalt _ _ => true
  | .debugResume _ _ => true
  | .debugSingleStep _ _ => true
  | .debugAccess _ _ _ _ => true
  | .laneGrantRetry _ _ => true
  | .quietLapse _ => true
  | .quietHostStateWrite _ _ => true
  | .wakeRequestWrite _ _ => true
  | .siteInSample _ _ => true
  | .siteInStuck _ => true
  | .proposeReceived h _ _ => h.wf
  | .voteReceived h _ _ => h.wf
  | .commitReceived h _ => h.wf
  | .abortReceived h _ _ => h.wf
  | .epkHostStateWrite _ _ => true
  | .laneBlockLock _ => true
  | .helloSend _ => true
  | .helloReceived _ _ _ _ _ _ _ => true
  | .laneTrainTimeout _ => true
  | .laneLoss _ _ => true
  | .epkBadFrame _ => true
  | .markerReceived h _ _ _ _ _ _ => h.wf
  | .roleReceived h _ plates => h.wf && decide (plates.length = 8)
  | .takeover _ => true
  | .impressionGrantRetry _ => true
  | .impressionEndReceived h _ _ _ => h.wf
  | .proofEndReceived h _ _ _ => h.wf
  | .ackReceived h _ => h.wf
  | .switchoverRequest _ _ _ => true
  | .pairTraceSample _ => true
  | .pairAcceptPath _ _ => true
  | .stkReportReceived h _ => h.wf
  | .stkLeaseReceived h leases => h.wf && decide (leases.length = 8)
  | .wakeFrameReceived h _ _ => h.wf
  | .agentReset _ _ => true
  | .referencePresent _ _ => true
  | .referenceAbsent _ => true
  | .masterFsStart _ => true
  | .highwayFreqUpdate _ _ => true
  | .nodeAbsent _ => true
  | .vfEnableClear => true
  | .pfFlr => true
  | .d3hotEntry => true
  | .d0Return => true
  | .linkProtocolError _ => true
  | .linkDownReset => true
  | .hotResetReceived => true
  | .refclkLoss => true
  | .l1Exit => true
  | .treeSourceLoss => true
  | .timebasePllSourceLoss => true
  | .timebasePllUnlock => true
  | .porNAssert => true
  | .vddAonLow => true
  | .supplyDip => true
  | .perstNAssert => true
  | .perstNRelease => true
  | .bootDone => true
  | .arbiterAnswer => true
  | .ppsPeriodFault => true
  | .ppsStuck => true
  | .ptpSourceTimeout => true
  | .wtrExpire => true
  | .efcUpdate _ => true
  | .slewProfileEnd => true
  | .holdoverEval => true
  | .extTimeout => true
  | .learnSample => true
  | .ppsOutPulse => true
  | .excitationFault => true
  | .excitationRetry => true
  | .testPulseEnd => true
  | .uartIdent => true
  | .islandCheckpoint => true
  | .islPorNAssert => true
  | .islandResetRelease => true
  | .crystalFail => true
  | .crystalResume => true
  | .islandLost => true
  | .pfFreezeExpire => true
  | .lifecycleRequestTimeout => true
  | .rtmVerifyDone => true
  | .trstNAssert => true
  | .idcode => true
  | .clamp => true
  | .highz => true
  | .bypass => true
  | .debug => true
  | .votePropose => true
  | .voteWindowTimeout => true
  | .commitWaitTimeout => true
  | .commitInstant => true
  | .markerSend => true
  | .epkTimeSourceLoss => true
  | .partnerLoss => true
  | .roleSend => true
  | .stkReportSend => true
  | .aspmL1Entry => true
  | .vfEnableSet => true
  | .bootPllLock => true

end Sys2Proof
end

