-- ==== Sys2Proof/Tests/Slice0.lean ====
section
/-! SUPPORT. Tests: ill-formed commands are refused, a few single steps against the spec's own values, and for every
statement with hypotheses a state and operands that meet them, clause by clause. -/

namespace Sys2Proof.Tests

open Sys2Proof Sys2Proof.Machine

/-! ### States that the tests start from -/

/-- Is each store but the register store and the hatch memory in its canonical form? -/
def storeChecks (s : State) : List Bool :=
  [Sparse.wf s.vfs, Sparse.wf s.msix, Sparse.wf s.aers, Sparse.wf s.flrs, Sparse.wf s.pairHi, Sparse.wf s.lockSince,
   Sparse.wf s.agreeSince, Sparse.wf s.shadow48, Sparse.wf s.cnt48, Sparse.wf s.frzCur, Sparse.wf s.frzHist,
   Sparse.wf s.frzHistCap, Sparse.wf s.plates, Sparse.wf s.storeErrs, Sparse.wf s.gravers, Sparse.wf s.dmaTens,
   Sparse.wf s.dmaLast, Sparse.wf s.chans, Sparse.wf s.vec2, Sparse.wf s.laneGrants, Sparse.wf s.imprGrants,
   Sparse.wf s.quietReqs, Sparse.wf s.wakes, Sparse.wf s.siteIns, Sparse.wf s.echos, Sparse.wf s.fastRetry,
   Sparse.wf s.medias, Sparse.wf s.jitters, Sparse.wf s.sigs, Sparse.wf s.queues, Sparse.wf s.ports,
   Sparse.wf s.hatches, Sparse.wf s.shapers, Sparse.wf s.shRates, Sparse.wf s.highways, Sparse.wf s.tks,
   Sparse.wf s.therms, Sparse.wf s.convs, Sparse.wf s.ptCaps, Sparse.wf s.wds, Sparse.wf s.ekLanes,
   Sparse.wf s.pairs, Sparse.wf s.mirrors]

theorem canon_of_storeChecks {s : State} (h : (storeChecks s).all id = true) : s.Canon := by
  simp only [storeChecks, List.all_cons, List.all_nil, id, Bool.and_eq_true, Bool.and_true] at h
  constructor <;> simp only [h]

/-- Is a transition under way one that blows the next state's fuse? -/
def jobFits (s : State) : Bool :=
  match s.life.job with
  | .idle => true
  | .option _ _ => true
  | .transition t => decide (s.fuses.lc ≤ t ∧ t ≤ s.fuses.lc + 1 ∧ t ≤ 3)

/-- A check that implies `State.Inv`, for states whose sensed fuses are the blown ones. -/
def looksInv (s : State) : Bool :=
  [Sparse.wf s.regs, Memory.wf s.hatchMem, (storeChecks s).all id, ascending s.frozen, decide (s.frzSeq ≤ 0xFFFF),
    decide (s.fuses = s.fusesBlown), decide (s.fuses.lc ≤ 3), jobFits s].all id

theorem inv_of_looksInv {s : State} (h : looksInv s = true) : s.Inv := by
  simp only [looksInv, List.all_cons, List.all_nil, id_eq, Bool.and_eq_true, Bool.and_true, decide_eq_true_eq] at h
  have fuses : s.fusesBlown = s.fuses := h.2.2.2.2.2.1.symm
  have legal := h.2.2.2.2.2.2.1
  have job := h.2.2.2.2.2.2.2
  refine { regs := h.1, hatchMem := h.2.1, stores := canon_of_storeChecks h.2.2.1, frozen := h.2.2.2.1,
           frzSeq := h.2.2.2.2.1, sensed := ?_, lcNext := ?_, lcLegal := ?_, job := ?_ } <;> rw [fuses]
  · constructor <;> intros <;> first | assumption | exact Nat.le_refl _
  · exact Nat.le_succ _
  · exact legal
  · intro t ht
    rw [jobFits, ht] at job
    exact of_decide_eq_true job

/-- The block in use, 100 s after power-on: boot done, clocks locked, link up, every function answering, every plate out
of reset in OFF. -/
def up : State :=
  let s : State := { State.reset with
    now := 100000000000
    pins := { porN := true, perstN := true, almN := true, pcieTxIdle := false }
    chip := { power := .up, sheetsReady := true, oscIn := { present := true }, refclk := { present := true } }
    pf := { mse := true, bme := true, vfMse := true, vfEnable := true, numVfs := 64, msixEn := true }
    plates := (List.range 8).map (fun p => (p, { stage := .out })) }
  let s := (((s.wr hpB Reg.hpLinkUp 1).wr hpB Title.stateOp opRunning).wr crB Reg.crBootStep 9).wr crB Reg.crRefStatusTbPllLock 1
  let s := (s.wr paB Reg.paCeilCeiling 1600)
  let s := ((s.wr crB Reg.crRefStatusTreeSrc 1).wr crB Reg.crRefStatusTbSrc 1).wr crB Reg.crClkMonPlatePll 0xFF
  forUpTo 8 (fun p t => t.wr (plB p) Title.stateOp opOff) s

/-- The PF holds the lock of the sheet at `b`. -/
def hold (b : Nat) (s : State) : State := s.acquire b 1

theorem up_inv : up.Inv := inv_of_looksInv (by decide +kernel)

/-- Plate 0 runs. -/
def run : State := (up.setPlate 0 { stage := .out, baseGrant := true }).wr (plB 0) Title.stateOp opRunning

theorem run_inv : run.Inv := inv_of_looksInv (by decide +kernel)

/-- The host port has seen two mismatching samples. -/
def traced : State := up.wr hpB Title.count 2

theorem traced_inv : traced.Inv := inv_of_looksInv (by decide +kernel)

/-- The tree runs on source `src` with OSC_IN back for long enough, the timebase PLL on REF_IN. -/
def onRefclk (src : Nat) : State := (up.wr crB Reg.crRefStatusTreeSrc src).wr crB Reg.crRefStatusTbSrc 2

/-- The boot stands at a step; plates wait for their wake slots. -/
def booting (step : Nat) : State :=
  State.wr { State.reset with
    now := 50000000
    pins := { porN := true, perstN := true }
    chip := { power := .booting, sheetsReady := decide (8 ≤ step) }
    plates := (List.range 8).map (fun p => (p, { stage := .waitSlot })) } crB Reg.crBootStep step

/-- The sensed state is OPEN. -/
def inOpen (s : State) : State := { s with fuses := { lc := 1 }, fusesBlown := { lc := 1 } }

/-- An operation of 64 bytes from the host. -/
def op0 : DmaOp := { idx := 1, toHost := false, irq := false, queue := 300, length := 64, addr := 0x8000, cookie := 0, desc := 32 }

/-- Tenant 0 of plate 0, which runs, has one operation; its ring is enabled and read. -/
def ringed (o : DmaOp) : State :=
  let s := ((run.wr (tenB 0) Title.hostOp opRunning).wr (tenB 0) Title.stateOp opRunning).wr (tenB 0) Reg.tenDmaCtrlDmaEn 1
  let s := ((s.wr (tenB 0) Reg.tenWinSizePages 16).wr (dmaB 0) Title.hostOp opRunning).wr (dmaB 0) Title.stateOp opRunning
  { s with dmaTens := [(0, { pos := some 2, prod := 5, ops := [o] })], vfs := [(1, { bme := true })], pf := { s.pf with bme := true } }

/-- Path states of channel 0 of plate 0. -/
inductive Path0 where
  | active | idle

/-- Channel 0 of plate 0, open and ACTIVE or IDLE, assigned to slot 0. -/
def chans (p : Path0) : State :=
  let s := (run.wr (chB 0) Reg.chOwnerAssigned 1)
  match p with
  | .active => { (s.wr (chB 0) Reg.chPathState pathActive).wr (chB 0) Reg.chIntentWant wantActive with chans := [(0, { units := 4 })] }
  | .idle => s

/-- Graver 0 of plate 0, which serves channel 0, has overrun in some frames in a row. -/
def ovr (n : Nat) : State := (chans .active).setGraver 0 0 { overruns := n }

/-- The PF holds the life-cycle sheet. -/
def lcReq : State := hold lcB up

/-- Words of the LC_REQ sequence have been taken. -/
def lcSeq (taken target : Nat) : State := { lcReq with life := { seq := { taken := taken, target := target, start := up.now } } }

/-- The fuse programmer works; the sequence has taken two words. -/
def lcJob (j : FuseJob) : State := { lcSeq 2 3 with life := { seq := { taken := 2, target := 3, start := up.now }, job := j } }

/-- A verified return-to-maker request, and its third word due. -/
def armed : State := (lcSeq 2 3).wr lcB Reg.lcStateRtmArmed 1

/-- DEBUG is selected; plate 0 runs. -/
def debugging : State := { inOpen run with tap := { instr := .debug } }

/-- The frame MAC sheet of plate 0. -/
def pkB0 : Nat := macB 0

/-- VF64 is frozen with record number 1; the PF holds the freeze unit's sheet. -/
def frozenVf : State := { hold fzB up with frozen := [0x80], frzCur := [(0x80, { master := 0x80, frozen := true, seq := 1 })], frzSeq := 1 }

/-- An operation that has ended; one to tenant 0's window out of reach; a read of 64 bytes in flight. -/
def op1 : DmaOp := { op0 with phase := .ended, status := 1 }
def dsc : DmaOp := { op0 with idx := 2, addr := 2 ^ 63 }
def wrOp (a : Nat) : DmaOp := { op0 with toHost := true, addr := a, phase := .inFlight, data := List.replicate 200 0 }
def readOp : DmaOp := { op0 with phase := .inFlight, issued := 64, reads := [(0, 64, 64)] }
/-- The read was issued at an instant. -/
def readAt (at_ : Nat) : DmaOp := { readOp with reads := [(0, 64, at_)] }

/-- The ring has no position yet. -/
def unplaced (o : DmaOp) : State := (ringed o).setRing 0 { ops := [o] }

/-- Queue 300 of plate 0 belongs to slot 0. -/
def ownQueue (s : State) : State := (s.wr (qdB 0 300) Reg.qdOwnerOwned 1).wr (qdB 0 300) Reg.qdOwnerSlot 0

/-- The ring after it took the descriptor `dsc`. -/
def taken (o : DmaOp) : State := ownQueue ((ringed o).setRing 0 { pos := some 3, prod := 5, ops := [o, dsc] })

/-- The ring after it took a descriptor that passes the first checks, from the host or to it. -/
def taken1 (o : DmaOp) : State := ownQueue ((ringed op1).setRing 0 { pos := some 3, prod := 5, ops := [op1, o], taken := 2 })
def din : DmaOp := { op0 with idx := 2, id := 1 }
def dout : DmaOp := { din with toHost := true }

/-- An operation from the host waits, and its queue is the tenant's. -/
def fromHost : State := ownQueue (ringed op0)

/-- An operation to the host waits, and its queue has an entry. -/
def toHost : State := (ownQueue (ringed { op0 with toHost := true })).setQueue 0 300 [{ bytes := [1, 2, 3] }]

/-- A queue of plate 0 holds one entry. -/
def queued (q : Nat) : State := run.setQueue 0 q [{ bytes := List.replicate 200 0 }]

/-- Queue 8 relays to queue 296 of the same owner. -/
def relayed : State :=
  let s := ((queued 8).wr (qdB 0 8) Reg.qdOwnerOwned 1).wr (qdB 0 296) Reg.qdOwnerOwned 1
  s.wr (qdB 0 8) Reg.qdCtrlRelay 296

/-- The port of plate 0 runs with its link up. -/
def port : State := (run.wr (macB 0) Title.stateOp opRunning).setPort 0 { up := true }

/-- The same, taking PAUSE, with more of its activity given. -/
def pausing (v : Port) : State := ((port.wr (macB 0) Reg.macPauseRxEn 1).setPort 0 { v with up := true })

/-- A port that starts and holds its lane grant. -/
def starting (p : Nat) : State := { (run.wr (macB p) Title.stateOp opStarting) with laneGrants := [(p, 4)] }

/-- A port whose link is up, in SGMII (1) or at 10G. -/
def served (r : Nat) : State := (starting 0).wr (macB 0) Title.stateOp opRunning |>.setPort 0 { up := true, rate := r }

/-- A PAUSE frame of the longest time. -/
def pauseBytes : List Byte := [0x01, 0x80, 0xC2, 0, 0, 1] ++ List.replicate 6 2 ++ [0x88, 0x08, 0, 1, 0xFF, 0xFF] ++ List.replicate 42 0

/-- A frame of 60 bytes with an EtherType. -/
def ethHead (a b : Byte) : List Byte := List.replicate 12 0 ++ [a, b] ++ List.replicate 46 0

/-- The hatch scheduler of plate 0 in a state, its cycle from an instant of local time. -/
def cycling (op c : Nat) : State := (run.wr (hsB 0) Title.stateOp op).setHatch 0 { cycleFrom := some c }

/-- The same in a gap before `c`; with a realignment due, and perhaps a swap; with a swap that acts 2,000 − `k` ns from now. -/
def gapAt (c : Nat) (sw : Bool) : State := (cycling opRunning c).setHatch 0 { cycleFrom := some c, gap := true, gapSwap := sw }
def realigning (q : Option Nat) : State := (cycling opRunning 0).setHatch 0 { cycleFrom := some 0, realign := true, pending := q }
def swapping (k : Nat) : State :=
  (cycling opRunning 0).setHatch 0 { cycleFrom := some (up.now + 2000 - k - 8 * run.cycle8 0 0), pending := some 1 }

/-- The highway of plate 0 in a state, as master or slave. -/
def highway (op : Nat) (m : Bool) : State := (run.wr (thB 0) Title.stateOp op).setHighway 0 { master := m }

/-- The locked highway of plate 0 runs, one of its stores at a spacing. -/
def spaced (m rx : Bool) (v : Int) : State := ((highway opRunning m).wr (thB 0) Title.stateDetail 3).setSpacing 0 rx v

/-- Channel 0 of plate 0, IDLE, once `want` ACTIVE with a new generation is stored. -/
def opened : State := (run.storeWord 0 (chB 0) Reg.chRows 0x4 0x101).endChHold 0

/-- An open request that waits for its plate's wake. -/
def req0 : ChRequest := { isOpen := true, at_ := 0, prior := 0 }
def asleep : State := { up.wr (plB 0) Title.stateOp opQuiet with chans := [(0, { req := some req0 })] }

/-- Channel 0 reads ACTIVE against an intent of CLOSED. -/
def mismatched : State := ((chans .active).wr (chB 0) Reg.chIntentWant wantMuted).wr (chB 0) Reg.chTraceCount 2

/-- Channel 0 of a frozen graver; channel 0 in MODIFYING, with the time since when it agreed. -/
def frozenCh : State := { chans .active with frozen := [masterGraver 0 0] }
def moving (since : Option Nat) : State :=
  { (((chans .active).wr (chB 0) Reg.chIntentWant wantActive).wr (chB 0) Reg.chPathState pathModifying) with
    chans := [(0, { units := 4, agreeSince := since })] }

/-- The tone disabler bypasses channel 0. -/
def disabled : State :=
  (((chans .active).wr (chB 0) Reg.ecStatusPhase phaseNormal).wr (chB 0) Reg.ecStatusBypass 1).setEcho 0 { quietMs := 1000 }

/-- Channel 0 sends, reports or hears. -/
def sends (e : EvOut) : State := (chans .active).setMedia 0 { evOut := some e }
def reporting (due : Nat) : State := (chans .active).setMedia 0 { cfg := { rtcpEn := true }, rtcpAt := some due }
def hears (e : EvIn) : State := (chans .active).setMedia 0 { evIn := some e }

/-- TQ7 of the port holds an entry whose deadline has passed. -/
def stale : State := ((pausing {}).setPlate 0 { stage := .out, ticks := 1 }).setQueue 0 7 [{ expires := some 0 }]

/-- VF1 holds the lock of its tenant sheet. -/
def vfRing : State := (ringed op0).acquire (tenB 0) 0x41

/-- A port that sent PAUSE, with the pool at its floor. -/
def repeats : State :=
  ((pausing { pauseSentAt := some 0 }).wr (macB 0) Reg.macPauseTxEn 1).wr (qgB 0) Reg.qmFloorFloor 16383

/-- The same port with its PAUSE in force. -/
def paused : State := repeats.setPort 0 { up := true, pauseSentAt := some 0, pauseOn := true }

/-- TQ7 holds an entry past its deadline before one without. -/
def two : State := stale.setQueue 0 7 [{ expires := some 0 }, {}]

/-- The timebase runs, with its activity given; as an external servo's; PTP gated; a source qualified. -/
def timed (t : Timebase) : State := { up.wr tbB Title.stateOp opRunning with tb := t }
def external (t : Timebase) : State := (timed t).wr tbB Title.stateMode 2
def gated : State :=
  ((timed { state := tbLocked }).wr tbB Reg.tbRefStatSelected 1).wr tbB Reg.tbPtpCfgPtpGateUs 1 |>.wrS tbB Reg.tbPtpOfsOfsNs (-999999999)
def qual (n : Nat) (ptp : List Nat) : State := { up.wr tbB Reg.tbRefStatQualified (2 ^ n) with tb := { ptp := ptp } }

/-- The marker source is selected, source `m` qualified since an instant, with reversion on. -/
def wtrOn (m since : Nat) : State :=
  let s := ((timed { state := tbLocked, qualSince := [(m, since)] }).wr tbB Reg.tbRefStatSelected 4).wr tbB Reg.tbCtrlRevert 1
  ((s.wr tbB Reg.tbPriPriEpk 2).wr tbB Reg.tbCtrlWtrS 100).wr tbB Reg.tbRefStatQualified (2 ^ m)

/-- REF_IN may be used; the holdover model learns; PPS_OUT may rise. -/
def refUse : State := (up.wr crB Reg.crRefStatusRefInOk 1).wr tbB Reg.tbFreqCfgRangePpb 100
def learning : State :=
  { (timed { state := tbLocked, lockedAt := 0 }).wr hmB Reg.hmCtrlLearnEn 1 with
    now := 10000000000000, therms := [(0, { valid := true, means := List.replicate 600 0 })] }
def pulsing : State := (timed { state := tbLocked }).wr tbB Reg.tbCtrlPpsOutEn 1

/-- The timekeeper of plate 0, following or on its own clock. -/
def keeping (k : Timekeeper) : State := run.setTk 0 k
def onOwn (k : Timekeeper) : State := keeping { k with own := true }

/-- The front end in a state, with its channels enabled; with means taken of TH0. -/
def fe (op en : Nat) : State := (up.wr feB Title.stateOp op).wr feB Reg.feCtrlThEn en
def measured (n : Nat) : State := { fe opRunning 1 with therms := [(0, { valid := true, acc := List.replicate n 5 })] }

/-- The island measures feed 0; its seal is open. -/
def isl : State := State.setFeed { up with island := { inReset := false } } 0 { params := { mode := 1 } }
def sealed : State := isl.modIsland (fun d => { d with sealEn := true })

/-- W0 has run for some milliseconds of a period. -/
def dog (ms : Nat) (w : Wd) : State := up.setWd 0 { w with running := true, since := 100000 - ms }

/-- W8, served by the kernel of a QUIET plate, is due to wake it. -/
def sleepingDog : State := (up.wr (plB 7) Title.stateOp opQuiet).setWd 8 { running := true, kernel := true, since := 90000 }

/-- Plate 0 is on its way to QUIET since an instant; coordinated and ready; a round stands at a stage. -/
def quieting (at_ : Nat) : State := { run.wr (plB 0) Title.stateOp opStopping with quietReqs := [(0, at_)] }
def ready : State := ((quieting 0).wr qmB Title.hostOp opRunning).wr qmB Reg.qmCoordPlates 1
def voting (v : Nat) : State := { ready with quiet := { vote := v } }

/-- Stack lane 3 is in a state; up, with a round at a stage; a frame of node 4 to every node. -/
def lane (v : Nat) : State := (up.wr ekB Title.hostOp opRunning).wr ekB Reg.ekLaneState v 3
def linked (v : Nat) : State :=
  { ((ready.wr ekB Title.hostOp opRunning).wr ekB Reg.ekLaneState laneUp 3).wr qmB Reg.qmRoundRound 1 with quiet := { vote := v } }
def hdr : EpkHdr := { lane := 3, origin := 4, relayed := false, hops := 0, plate := none, dest := everyNode, seq := 1 }

/-- A device of SID 1, whose stack master is node 1. -/
def leasing : State := (linked voteIdle).wr crB Reg.crStrapsSid 1

/-- A pair is formed over lane 0; plate 0 stands by; its role and its partner's want disagree. -/
def paired : State := { up.wr ekB Reg.ekLaneState laneUp 0 with epk := { partnerUid := some 5 } }
def pairHdr : EpkHdr := { hdr with lane := 0, origin := 1, plate := some 0 }
def standing : State := run.wr ekB Reg.ekPlateRole roleStandby 0
def disagree (n : Nat) : State := ((run.wr ekB Reg.ekPlateWant 0 0).wr ekB Reg.ekPlateRole roleActive 0).wr ekB Reg.ekPtraceCount n 0

/-- An audit record. -/
def rec0 : AuditRec := { index := 0, opS := 0, kind := 0, feed := 0, item := 0, old := 0, new := 0, sealCount := 0, eFwd := 0 }

/-! ### Ill-formed commands are refused by WellFormed -/

theorem test_wf_refuses_unaligned_offsets :
    Instr.wf (.registerWrite 0 .bar0 0x1002 0) = false ∧ Instr.wf (.readClear 0 .bar0 0x1001) = false ∧ Instr.wf (.mmioReadTimeout 0 2) = false ∧
    Instr.wf (.counter48LowRead 0 0x2018044) = false ∧ Instr.wf (.misalignedMmioAccess 0 0 0x1000 0xF 1 false) = false ∧
    Instr.wf (.misalignedMmioAccess 0 0 0x1001 0xE 1025 true) = false := by decide

theorem test_wf_refuses_sheets_that_are_none :
    Instr.wf (.eventEnableWrite 0 0x1004 0) = false ∧ Instr.wf (.lockClaim 0 0x1004 1) = false ∧
    Instr.wf (.lockRelease 0 0x1004) = false ∧ Instr.wf (.lockBrokenClear 0 0x1004 1) = false ∧
    Instr.wf (.lockOverrun 0x1004) = false ∧ Instr.wf (.traceSample 0x1004) = false ∧
    Instr.wf (.acceptPathWrite 0 0x1004) = false ∧ Instr.wf (.compatPrevWrite 0 0x1004 true) = false := by decide +kernel

theorem test_wf_refuses_values_out_of_range :
    Instr.wf (.numvfsWrite 65536) = false ∧ Instr.wf (.dmaReadCompletion 0 0 0 []) = false ∧
    Instr.wf (.dmaReadCompletion 0 127 16384 [0]) = false ∧ Instr.wf (.completionTimeout 0 128) = false ∧
    Instr.wf (.poisonedTlpReceived (.completion 0 0)) = false ∧ Instr.wf (.ecrcError (.completion 0 128)) = false ∧
    Instr.wf (.msixUnmask 0 64) = false ∧ Instr.wf (.msixUnmask 1 4) = false ∧ Instr.wf (.txUnderrun 0 16384) = false ∧
    Instr.wf (.drainOverrun 0 0 0) = false := by decide

theorem test_wf_refuses_samples_and_readings_out_of_range :
    Instr.wf (.frontEndReading ⟨2 ^ 32, 1⟩ ⟨1, 1⟩ 0) = false ∧ Instr.wf (.frontEndReading ⟨1, 1⟩ ⟨1, 2 ^ 32⟩ 0) = false ∧
    Instr.wf (.frontEndReading ⟨1, 1⟩ ⟨1, 1⟩ (2 ^ 23)) = false ∧ Instr.wf (.islandInterval 0 [-(2 ^ 31) - 1] []) = false ∧
    Instr.wf (.islandInterval 0 [] [2 ^ 31]) = false ∧ Instr.wf (.islandTempReading 0 ⟨2 ^ 32, 1⟩ 0) = false ∧
    Instr.wf (.islandTempReading 0 ⟨1, 1⟩ (-(2 ^ 23) - 1)) = false ∧ Instr.wf (.freqSourceSecond true [0]) = false := by decide

theorem test_wf_refuses_frames_of_other_shapes :
    Instr.wf (.frameTick 0 [{ ch := 0, line := [0], rin := {}, sin := {}, e := {} }] none) = false ∧
    Instr.wf (.frameTick 0 [{ ch := 0, line := [], rin := { flags := 131072 }, sin := {}, e := {} }] none) = false ∧
    Instr.wf (.frameTick 0 [{ ch := 0, line := [], rin := {}, sin := { tones := [⟨80000, 0, 0, 0, 0⟩] }, e := {} }] none) = false ∧
    Instr.wf (.frameTick 0 [{ ch := 0, line := [], rin := {}, sin := {}, e := { tones := [⟨0, 131072, 0, 0, 0⟩] } }] none) = false ∧
    Instr.wf (.frameTick 0 [{ ch := 0, line := [], rin := {}, sin := {}, e := {} }, { ch := 0, line := [], rin := {}, sin := {}, e := {} }] none) = false := by
  decide

/-- A frame header whose sequence number does not fit its 32 bits (R689). -/
def longSeq : EpkHdr := { lane := 0, origin := 0, relayed := false, hops := 0, plate := none, dest := 0, seq := 2 ^ 32 }

theorem test_wf_refuses_epkuone_frames :
    Instr.wf (.proposeReceived longSeq 0 0) = false ∧ Instr.wf (.voteReceived longSeq 0 true) = false ∧
    Instr.wf (.commitReceived longSeq 0) = false ∧ Instr.wf (.abortReceived longSeq 0 0) = false ∧
    Instr.wf (.markerReceived longSeq 0 0 0 0 0 0) = false ∧ Instr.wf (.roleReceived { longSeq with seq := 0 } 0 []) = false ∧
    Instr.wf (.impressionEndReceived longSeq 0 [] true) = false ∧ Instr.wf (.proofEndReceived longSeq 0 true []) = false ∧
    Instr.wf (.ackReceived longSeq 0) = false ∧ Instr.wf (.stkReportReceived longSeq 0) = false ∧
    Instr.wf (.stkLeaseReceived { longSeq with seq := 0 } [0]) = false ∧ Instr.wf (.wakeFrameReceived longSeq 0 0) = false := by
  decide

/-! ### Single steps against the worked examples of the spec -/

/-- What an aligned read answers. -/
def answer (fn : Fin 65) (off : Nat) (s : State) : Option Word :=
  match exec (.readClear fn .bar0 off) s with
  | .next t => match t.out with | .readData _ w :: _ => some w | _ => none
  | _ => none

/-- The state after a command, or the state before it where it does not go on. -/
def after (c : Instr) (s : State) : State :=
  match exec c s with
  | .next t => t
  | _ => s

/-- SHEET_ID of sheets that the worked examples of 02, 10, 12, 13, 17 and 18 read, and FUSE_VIEW of 19. -/
theorem test_sheet_ids :
    answer 0 0x02805000 up = some 0x00250201 ∧ answer 0 0x02411000 up = some 0x002A0901 ∧
    answer 10 0 up = some 0x002A0901 ∧ answer 0 0x02C12000 up = some 0x002A1A01 ∧ answer 0 0x00013000 up = some 0x000E0301 ∧
    answer 0 0x44 up = some 0x000281FF := by decide +kernel

/-- 02_sheets.md, the lock broken by FLR: VF10 takes the lock of its tenant sheet. -/
theorem test_lock_claim :
    answer 10 0x1C (after (.lockClaim 10 0x02411000 0x4A) up) = some 0x4A := by decide +kernel

/-- 02_sheets.md, the held port: a frame MAC in FAULT against RUNNING is held at the third sample. -/
def faulted : State := ((up.wr (macB 2) Title.hostOp opRunning).wr (macB 2) Title.stateOp opFault).wr (macB 2) Title.count 2

theorem test_third_mismatch_holds :
    answer 0 0x02805024 (after (.traceSample (macB 2)) faulted) = some 0x2735 ∧
    answer 0 0x0280500C (after (.traceSample (macB 2)) faulted) = some 0x73 := by decide +kernel

/-- 17_masters_freeze.md: the words of the record of VF27's bad queue. -/
theorem test_freeze_record_words :
    FrzRec.words {
      master := 0x5B, kind := vBadQueue, access := 7, frozen := true, plate := some 3, addrLo := 0x400000A0, addrHi := 2
      ns := 250000000, sec := 7200, seq := 0x31, repeats := 2 } =
    [0x000BF65B, 0x400000A0, 2, 0x0EE6B280, 0x1C20, 0x00020031] := by decide +kernel

/-- 18_watchdog.md: the tokens of the worked example. -/
theorem test_watchdog_tokens :
    (up.setWd 3 { n := 0, chal := 0x1234, key := some 0xFF }).wdToken 3 = 0x3DE8 ∧
    (up.setWd 3 { n := 1, chal := 0xA5F0, key := some 0xFF }).wdToken 3 = 0x753C ∧
    (up.setWd 3 { n := 2, chal := 0x0F0F, key := some 0xFF }).wdToken 3 = 0x6ADD ∧
    (up.setWd 3 { n := 3, chal := 0x1234, key := some 0xFF }).wdToken 3 = 0xC175 := by decide +kernel

/-- 19_life_cycle.md: the third word of the request to RETURNED begins the transition once the request is verified, and is
refused where it is not (R630, R631). -/
theorem test_lc_request :
    (after (.lifecycleRequestWord 0 0xB3BCFFFC) armed).life.job = .transition 3 ∧
    (after (.lifecycleRequestWord 0 0xB3BCFFFC) (lcSeq 2 3)).rd lcB Reg.lcReqStatusResult = 4 ∧
    (after (.lifecycleRequestWord 0 0xB3BCFFFD) armed).life.seq.taken = 0 := by decide +kernel

/-- 19_life_cycle.md R646: IDCODE. -/
theorem test_idcode : (after .idcode up).out.head? = some (.tdo 0x12048D6F) := by decide +kernel

/-- The check values of the two CRCs over the bytes of "123456789". -/
theorem test_crc_check_values :
    crc32 [0x31, 0x32, 0x33, 0x34, 0x35, 0x36, 0x37, 0x38, 0x39] = 0xCBF43926 ∧
    crc16 [0x31, 0x32, 0x33, 0x34, 0x35, 0x36, 0x37, 0x38, 0x39] = 0x29B1 := by decide +kernel

/-- R65: a lock held for longer than lock_limit freezes its holder; R59: a claim on a held lock changes nothing. -/
theorem test_lock_overrun :
    (after (.lockOverrun crB) ({ up.acquire crB 0x41 with now := up.now + 101000000 })).frozen = [0x41] ∧
    (after (.lockClaim 0 crB 1) (up.acquire crB 0x41)).lockOwner crB = 0x41 := by decide +kernel

/-- The table gives no row any bits, so no word spells a command. -/
theorem test_no_word_spells_a_command : decodeTableWord 32 0 = none ∧ (up.withFetchWord 32 0).pending = [] := by decide +kernel

/-! ### Witnesses: for every statement with hypotheses, a state and operands that meet them -/

theorem witness_StepTakesTheFrontCommand :
    (State.pending { up with pending := [.idcode] } = .idcode :: []) ∧ (up.pending = []) := ⟨by decide +kernel, by decide +kernel⟩

theorem witness_EveryStepKeepsTheInvariant :
    up.Inv ∧ step up = .next { up with now := up.now + 1000 } := ⟨up_inv, rfl⟩

theorem witness_NoStepUnblowsAFuse :
    up.Inv ∧ step up = .next { up with now := up.now + 1000 } := ⟨up_inv, rfl⟩

theorem witness_LockWritesAcquireReleaseAndClear :
    (sheetAt crB = some (.cr, 0) ∧ SheetKind.lockable .cr = true ∧ Sparse.wf up.regs = true ∧ up.writesThrough 0 (crB + 0x18) = true ∧ up.lockOwner crB = 0) ∧
    (Sparse.wf (hold crB up).regs = true ∧ (hold crB up).writesThrough 0 (crB + 0x18) = true ∧ (hold crB up).lockOwner crB ≠ 0 ∧ (hold crB up).lockOwner crB = masterOfFn 0) ∧
    ((hold crB up).writesThrough 0 (crB + 0x18) = true ∧ Sparse.wf (up.acquire crB 0x41).regs = true ∧ (up.acquire crB 0x41).lockOwner crB ≠ masterOfFn 0 ∧ (up.acquire crB 0x41).lockOwner crB ≠ 0) := ⟨by decide +kernel, by decide +kernel, by decide +kernel⟩

theorem witness_TitleWritesOfEventEnableAcceptPathAndCompat :
    (sheetAt hpB = some (.hp, 0) ∧ up.writesThrough 0 (hpB + 0x14) = true) ∧
    (SheetKind.traced .hp = true ∧ (hold hpB up).lockedWrite 0 hpB (hpB + 0x24) = true ∧ (hold hpB up).heldAt hpB = false) ∧
    (((hold hpB up).wr hpB Title.held 1).lockedWrite 0 hpB (hpB + 0x24) = true ∧ ((hold hpB up).wr hpB Title.held 1).heldAt hpB = true) ∧
    ((hold hpB up).lockedWrite 0 hpB (hpB + 0x8) = true ∧ up.offered .hp ≠ 0 ∧ up.offered .hp &&& 12 = 0) ∧
    (sheetAt siteB = some (.site, 0) ∧ up.lockedWrite 0 siteB (siteB + 0x8) = true ∧ up.offered .site = 0) := by
  iterate 4 refine ⟨by decide +kernel, ?_⟩
  decide +kernel

theorem witness_TraceSampleHoldsOnTheThirdMismatch :
    traced.Inv ∧ run.Inv ∧ ((run.wr (plB 0) Title.hostOp opRunning)).Inv ∧
    (sheetAt hpB = some (.hp, 0) ∧ SheetKind.traced .hp = true ∧ traced.heldAt hpB = false ∧ SheetKind.inWindow .hp = false ∧ traced.opOf .hp 0 hpB ≠ opFrozen ∧ traced.opOf .hp 0 hpB ≠ opReset ∧ movingAgrees (traced.opOf .hp 0 hpB) (traced.rd hpB Title.hostOp) = false ∧ traced.opOf .hp 0 hpB < 16 ∧ traced.rd hpB Title.hostOp < 16 ∧ traced.modeOf .hp hpB < 256 ∧ traced.opOf .hp 0 hpB ≠ traced.rd hpB Title.hostOp ∧ traced.rd hpB Title.count = 2) ∧
    (sheetAt (plB 0) = some (.plate, 0) ∧ SheetKind.traced .plate = true ∧ run.heldAt (plB 0) = false ∧ run.plateOp 0 ≠ opQuiet ∧ run.opOf .plate 0 (plB 0) ≠ opFrozen ∧ run.opOf .plate 0 (plB 0) ≠ opReset ∧ run.opOf .plate 0 (plB 0) < 16 ∧ run.opOf .plate 0 (plB 0) ≠ run.rd (plB 0) Title.hostOp) ∧
    (State.opOf (run.wr (plB 0) Title.hostOp opRunning) .plate 0 (plB 0) = State.rd (run.wr (plB 0) Title.hostOp opRunning) (plB 0) Title.hostOp ∧ State.modeOf (run.wr (plB 0) Title.hostOp opRunning) .plate (plB 0) = State.rd (run.wr (plB 0) Title.hostOp opRunning) (plB 0) Title.hostMode ∧ movingAgrees opRunning opRunning = false) ∧
    (movingAgrees (run.opOf .plate 0 (plB 0)) (run.rd (plB 0) Title.hostOp) = false ∧ run.heldAt (plB 0) = false ∧ State.opOf (run.wr (plB 0) Title.hostOp opRunning) .plate 0 (plB 0) ≠ opReset) := ⟨traced_inv, run_inv, inv_of_looksInv (by decide +kernel), by decide +kernel, by decide +kernel,
    by decide +kernel, by decide +kernel⟩

theorem witness_LockOverrunFreezesTheHolder :
    ((hold crB up).lockOwner crB ≠ 0 ∧ State.rd (State.wr { hold crB up with now := up.now + 2000000 } dirB Reg.dirLockLimitLockLimit 1) dirB Reg.dirLockLimitLockLimit < State.heldMs (State.wr { hold crB up with now := up.now + 2000000 } dirB Reg.dirLockLimitLockLimit 1) crB ∧ (hold crB up).isFrozen ((hold crB up).lockOwner crB) = false) ∧
    ((hold crB up).heldMs crB ≤ (hold crB up).rd dirB Reg.dirLockLimitLockLimit) := ⟨by decide +kernel, by decide +kernel⟩

theorem witness_IntentAndNoteWritesOfTheHostPort :
    ((hold hpB up).lockedWrite 0 hpB (hpB + 0x20) = true) ∧
    ((hold (tenB 63) up).lockedWrite 0 (tenB 63) (tenB 63 + 0x20) = true) ∧
    (State.writesThrough (up.wr (tenB 63) Title.hostOp opRunning) 64 (tenB 63 + 0x5C) = true) ∧
    (up.writesThrough 0 (tenB 63 + 0x58) = true) ∧ (up.readsThrough 0 (hpB + pairOff .flr) = true) := by
  iterate 4 refine ⟨by decide +kernel, ?_⟩
  decide +kernel

theorem witness_MaskedMessagesWaitForTheirVector :
    (up.linkUp = true ∧ up.fnAnswers 64 = true ∧ (64 ≠ 0 → up.plateEnabled 7 = true) ∧ up.isFrozen (masterOfFn 64) = false ∧ 3 < 4 ∧ (up.vector 64 3).pba = false) ∧
    (up.fnAnswers 0 = true ∧ up.isFrozen (masterOfFn 0) = false ∧ 63 < 64 ∧ (State.vector (up.setVector 0 63 { pba := true }) 0 63).pba = true ∧ (State.pf (up.setVector 0 63 { pba := true })).msixMask = false ∧ State.msixAllowed (up.setVector 0 63 { pba := true }) 0 = true) ∧
    (up.msixAllowed 0 = true ∧ up.vecMasked 0 63 = true) ∧
    (State.linkUp (up.setVector 0 63 { pba := true }) = true ∧ State.fnAnswers (up.setVector 0 63 { pba := true }) 0 = true ∧ State.isFrozen (up.setVector 0 63 { pba := true }) (masterOfFn 0) = false) ∧
    ((State.pf { up with pf := { up.pf with msixMask := true } }).msixMask = true ∧ (State.vf { up with vfs := [(64, { msixMask := true })] } 64).msixMask = true ∧ State.msixAllowed { up with pf := { up.pf with msixEn := false } } 0 = false ∧ State.plateEnabled up ((64 - 1) / 8) = true) := by
  iterate 4 refine ⟨by decide +kernel, ?_⟩
  decide +kernel

theorem witness_NumVfsIsLimitedToTotalVfs :
    (up.cfgAnswers = true ∧ 65535 < 65536 ∧ up.fuses.vfLimit < 65535) ∧
    (up.fuses.vfLimit ≤ up.fuses.vfLimit ∧ up.fuses.vfLimit < 65536) ∧ (up.flrBusy 0 = false) := ⟨by decide +kernel, by decide +kernel, by decide +kernel⟩

theorem witness_VfEnableAndPowerStates :
    (up.cfgAnswers = true ∧ up.pf.vfEnable = true) ∧ (State.cfgAnswers { up with pf := { mse := true } } = true) ∧
    (up.flrBusy 0 = false ∧ State.flrBusy { up with pf := { mse := true } } 0 = false ∧ (State.pf { up with pf := { mse := true } }).vfEnable = false) := ⟨by decide +kernel, by decide +kernel, by decide +kernel⟩

theorem witness_FunctionLevelResetsInSteps :
    ({ up with flrs := [(64, { start := 0 })] }).Inv ∧ ({ up with flrs := [(64, { start := 0, drained := true })] }).Inv ∧
    ({ up with flrs := [(0, { start := 0 }), (64, { start := 0, withPf := true })] }).Inv ∧
    ({ up with flrs := [(0, { start := 0, drained := true }), (64, { start := 0, withPf := true, drained := true })] }).Inv ∧
    (up.cfgAnswers = true ∧ up.pf.vfEnable = true ∧ 63 + 1 ≤ up.pf.numVfs ∧ up.flrBusy 64 = false ∧ up.flrBusy 0 = false) ∧
    (Sparse.find? [(64, ({ start := 0 } : Flr))] 64 = some { start := 0 } ∧ Flr.withPf { start := 0 } = false ∧ Flr.drained { start := 0 } = false) ∧
    (Flr.drained { start := 0, drained := true } = true) ∧ ((64 : Fin 65).val = (63 : Fin 64).val + 1) ∧
    (up.vfLive (63 + 1) = true ∧ up.vfLive (0 + 1) = true) ∧
    (Sparse.find? (State.flrs { up with flrs := [(0, { start := 0 }), (64, { start := 0, withPf := true })] }) 0 = some { start := 0 } ∧ Sparse.find? (State.flrs { up with flrs := [(0, { start := 0 }), (64, { start := 0, withPf := true })] }) (63 + 1) = some { start := 0, withPf := true } ∧ Flr.withPf { start := 0, withPf := true } = true) ∧
    (Sparse.find? (State.flrs { up with flrs := [(0, { start := 0, drained := true }), (64, { start := 0, withPf := true, drained := true })] }) 0 = some { start := 0, drained := true }) := by
  refine ⟨inv_of_looksInv (by decide +kernel), inv_of_looksInv (by decide +kernel), inv_of_looksInv (by decide +kernel),
    inv_of_looksInv (by decide +kernel), ?_⟩
  iterate 6 refine ⟨by decide +kernel, ?_⟩
  decide +kernel

theorem witness_PcieErrorsAreLoggedAndCounted :
    (up.linkUp = true ∧ up.fnAnswers 0 = true ∧ up.fnAnswers 64 = true) ∧
    ((ringed readOp).waitingOp 0 1 (ctoRange (ringed readOp).pf.ctoValue).1 = some readOp ∧ (ringed readOp).linkUp = true ∧ (ringed readOp).pf.ctoDisable = false ∧ (ringed readOp).waitingOp 0 1 0 = some readOp ∧ (ringed (readAt (up.now - 49999))).waitingOp 0 1 (ctoRange 0).1 = none ∧ (ringed op0).waitingOp 0 1 0 = none) ∧
    ((crB + 0x50) % 4 = 0 ∧ crB + 0x50 < barSize 0 ∧ up.gate 0 (barAddr 0 (crB + 0x50)) false = .go (crB + 0x50)) ∧
    ((State.pf { up with pf := { up.pf with ctoDisable := true } }).ctoDisable = true ∧ (State.aerOf { up with aers := [(0, { ecrcCheck := true })] } 0).ecrcCheck = true ∧ State.linkUp { up with aers := [(0, { ecrcCheck := true })] } = true ∧ (up.aerOf 0).ecrcCheck = false) ∧
    ((linkAer .dataLink).correctable = false ∧ (linkAer .flowControl).correctable = false ∧ (linkAer .receiver).correctable = true ∧ AerError.correctable .poisoned = false ∧ AerError.poisoned ≠ .unexpectedCompletion) := by
  iterate 4 refine ⟨by decide +kernel, ?_⟩
  decide +kernel

theorem witness_LinkTrainingSetsWidthSpeedAndState :
    up.Inv ∧ ((up.wr hpB Reg.hpLinkUp 0)).Inv ∧
    (up.mayTrain = true ∧ (4#4).toNat = 4 ∧ (3#4).toNat = 3 ∧ up.isSet hpB Reg.hpLinkUp = true ∧ up.rd hpB Reg.hpLinkWidth ≠ (4#4).toNat) ∧
    (State.mayTrain (up.wr hpB Reg.hpLinkUp 0) = true ∧ (1#4).toNat = 1 ∧ State.isSet (up.wr hpB Reg.hpLinkUp 0) hpB Reg.hpLinkUp = false) ∧
    (up.linkUp = true) ∧
    (bitAt (State.pfWord { up with pf := { up.pf with words := [(0x70, 2)] } } 0x70) 1 = true ∧ State.linkUp { up with pf := { up.pf with words := [(0x70, 2)] } } = true ∧ bitAt (up.pfWord 0x70) 1 = false) ∧
    (up.rd hpB Reg.hpLinkWidth ≠ (1#4).toNat ∧ State.rd (up.wr hpB Reg.hpLinkWidth 4 |>.wr hpB Reg.hpLinkSpeed 3) hpB Reg.hpLinkWidth = (4#4).toNat ∧ State.rd (up.wr hpB Reg.hpLinkWidth 4 |>.wr hpB Reg.hpLinkSpeed 3) hpB Reg.hpLinkSpeed = (3#4).toNat ∧ State.mayTrain (up.wr hpB Reg.hpLinkWidth 4 |>.wr hpB Reg.hpLinkSpeed 3) = true) := by
  refine ⟨up_inv, inv_of_looksInv (by decide +kernel), ?_⟩
  iterate 4 refine ⟨by decide +kernel, ?_⟩
  decide +kernel

theorem witness_ReferenceSourcesMoveTheTreeAndThePll :
    (up.clocksUp = true ∧ up.chip.oscIn.present = true ∧ up.isSet crB Reg.crRefStatusTbPllLock = true ∧ up.rd crB Reg.crRefStatusTreeSrc = 1 ∧ up.rd crB Reg.crRefStatusTbSrc = 1) ∧
    (State.clocksUp (onRefclk 3) = true ∧ State.rd (onRefclk 3) crB Reg.crRefStatusTreeSrc = 3 ∧ State.rd (onRefclk 3) crB Reg.crRefStatusTbSrc = 2 ∧ State.treeBetter (onRefclk 3) (treeCode .oscIn) = true ∧ (State.source (onRefclk 3) .oscIn).since + secNs ≤ State.now (onRefclk 3) ∧ tbCode .oscIn ≠ 0 ∧ (State.source (onRefclk 3) .oscIn).present = true ∧ tbCode .oscIn < State.rd (onRefclk 3) crB Reg.crRefStatusTbSrc) ∧
    (State.rd { onRefclk 2 with chip := { up.chip with refIn := { present := true } } } crB Reg.crRefStatusTreeSrc = 2 ∧ (State.chip { onRefclk 2 with chip := { up.chip with refIn := { present := true } } }).refIn.present = true ∧ State.rd { onRefclk 2 with chip := { up.chip with refIn := { present := true } } } crB Reg.crRefStatusTbSrc = 2 ∧ State.clocksUp { onRefclk 2 with chip := { up.chip with refIn := { present := true } } } = true) ∧
    ((hold crB up).lockedWrite 0 crB (crB + 0x50) = true ∧ (hold crB up).treePresent (3#2).toNat = true ∧ (2#2).toNat ≠ 0 ∧ (hold crB up).treePresent (2#2).toNat = false ∧ (hold crB up).chip.oscIn.present = true ∧ (hold crB up).chip.oscIn.since + secNs ≤ (hold crB up).now) ∧
    ((up.source .refIn).present = false ∧ (State.reset.source .oscIn).present = false ∧ ClockSrc.oscIn ≠ .refIn ∧ ClockSrc.oscIn ≠ .refclk) ∧
    (State.reset.chip.refclk.present = false ∧ (State.reset.setSource .refclk { present := true, since := State.reset.now }).clocksUp = false ∧ State.mayTrain (State.setSource { up with chip := { up.chip with refclk := {} } } .refclk { present := true, since := up.now }) = true ∧ State.clocksUp (State.setSource { up with chip := { up.chip with refclk := {} } } .refclk { present := true, since := up.now }) = true) ∧
    ((State.source { State.reset with chip := { oscIn := { present := true } } } .oscIn).present = true ∧ ClockSrc.oscIn ≠ .internal ∧ ClockSrc.oscIn ≠ .tree ∧ State.clocksUp { State.reset with chip := { oscIn := { present := true } } } = false) ∧
    ((onRefclk 3).isSet hpB Reg.hpLinkUp = true ∧ (onRefclk 3).chip.refclk.present = true ∧ up.rd crB Reg.crRefStatusTreeSrc ≠ 3 ∧ up.chip.refclk.present = true ∧ up.isSet hpB Reg.hpLinkUp = true) ∧
    (up.platePllRuns 7 = true ∧ 10000 ≤ 10000 ∧ 10000 < 10001) ∧
    ((onRefclk 2).rd crB Reg.crRefStatusTreeSrc ≠ 0 ∧ (onRefclk 2).treePresent ((onRefclk 2).rd crB Reg.crRefStatusTreeSrc) = false ∧ up.rd crB Reg.crRefStatusTreeSrc ≠ 3 ∧ up.serdesIdle = false ∧ State.treePresent (up.wr crB Reg.crTreeSrcPrefer 3) (State.rd (up.wr crB Reg.crTreeSrcPrefer 3) crB Reg.crTreeSrcPrefer) = true) ∧
    (State.isSet (State.wr (up.wr hpB Reg.hpLinkUp 0) hpB Title.stateOp opStarting) hpB Reg.hpLinkUp = false ∧ State.rd (State.wr (up.wr hpB Reg.hpLinkUp 0) hpB Title.stateOp opStarting) hpB Title.stateOp = opStarting) := by
  iterate 10 refine ⟨by decide +kernel, ?_⟩
  decide +kernel

theorem witness_ResetRequestWordActsOnlyForTheConfirmedPf :
    (up.writesThrough 0 (crB + 0x54) = true ∧ up.lockOwner crB ≠ 1) ∧
    ((hold crB up).writesThrough 0 (crB + 0x54) = true ∧ (hold crB up).lockOwner crB = 1 ∧ bitsOf (0xA5000100#32).toNat 24 8 = 0xA5 ∧ bitAt (0xA5000100#32).toNat 8 = true ∧ bitsOf (0xA5000080#32).toNat 24 8 = 0xA5 ∧ bitAt (0xA5000080#32).toNat 8 = false ∧ bitsOf (0xA4000100#32).toNat 24 8 ≠ 0xA5) := ⟨by decide +kernel, by decide +kernel⟩

theorem witness_PowerOnResetClearsEverythingButTheIsland :
    up.Inv := up_inv

theorem witness_ChipResetsBeginAndEnd :
    (State.reset.chip.power = .por ∧ State.reset.pins.porN = false ∧ State.reset.pins.aonLow = false) ∧
    (State.chip { State.reset with pins := { aonLow := true } } = State.reset.chip ∧ (State.pins { State.reset with pins := { aonLow := true } }).aonLow = true ∧ (State.pins { State.reset with pins := { aonLow := true } }).porN = false) ∧
    ((State.pins { State.reset with pins := { aonLow := true, porN := true } }).aonLow = true ∧ (State.pins { State.reset with pins := { aonLow := true, porN := true } }).porN = true) ∧
    (up.chip.power ≠ .por ∧ up.pins.perstN = true ∧ up.isSet crB Reg.crStrapsPerstMode = false ∧ up.chip.power ≠ .chipReset ∧ State.isSet (up.wr crB Reg.crStrapsPerstMode 1) crB Reg.crStrapsPerstMode = true) ∧
    ((State.chip { up with chip := { power := .chipReset, rstAt := up.now - 50000, rstSupply := true, rstPerst := true } }).power = .chipReset ∧ (State.chip { up with chip := { power := .chipReset, rstAt := up.now - 50000, rstSupply := true, rstPerst := true } }).rstAt + 50000 ≤ up.now ∧ up.pins.perstN = true) ∧
    (up.linkUp = true) ∧
    ((State.pins { up with pins := { up.pins with perstN := false } }).perstN = false ∧ State.mayTrain { up with pins := { up.pins with perstN := true } } = true ∧ up.clocksUp = true ∧ (State.reset.pins).perstN = false ∧ State.reset.chip.refclk.present = false) ∧
    (20 < 21 ∧ State.undrained { up with flrs := [(64, { start := 0 })] } (63 + 1) 7 ≠ [] ∧ State.undrained { up with flrs := [(64, { start := 0, withPf := true })] } 0 7 ≠ [] ∧ (6 : Fin 8).val ≠ (63 : Fin 64).val / 8) ∧
    (State.agentDraining { up with epk := { drainFrom := some up.now } } = true) ∧
    ((State.plate (up.setPlate 7 { stage := .waitSlot }) 7).stage = .waitSlot ∧ 20 ≤ 20) := by
  iterate 9 refine ⟨by decide +kernel, ?_⟩
  decide +kernel

theorem witness_BootAndWakeOfAPlate :
    ((up.setPlate 7 { stage := .storeInit })).Inv ∧
    ((booting 3).chip.power = .booting ∧ (booting 3).rd crB Reg.crBootStep < 4) ∧
    (((booting 8).plate 0).stage = .waitSlot ∧ (booting 8).wakeSlotFree 0 = true ∧ (booting 8).chip.sheetsReady = true) ∧
    ((State.plate (up.setPlate 7 { stage := .pllStart }) 7).stage = .pllStart) ∧
    ((State.plate (up.setPlate 7 { stage := .storeInit }) 7).stage = .storeInit) ∧
    ((State.plate (up.setPlate 7 { stage := .kernelInit }) 7).stage = .kernelInit) ∧
    ((State.chip { up with chip := { up.chip with power := .booting } }).power = .booting ∧ up.chip.sheetsReady = true ∧ State.allPlatesOut { up with chip := { up.chip with power := .booting } } = true) ∧
    (up.chip.power = .up ∧ up.clocksUp = true ∧ State.isSet (up.wr crB Reg.crStrapsFlQuad 1) crB Reg.crStrapsFlQuad = true ∧ up.isSet crB Reg.crStrapsFlQuad = false) ∧
    (2 ^ 21 - 1 < 2 ^ 21) := by
  refine ⟨inv_of_looksInv (by decide +kernel), ?_⟩
  iterate 7 refine ⟨by decide +kernel, ?_⟩
  decide +kernel

theorem witness_PlateIntentStartsStopsAndQuietsThePlate :
    ((hold (plB 0) up).lockedWrite 0 (plB 0) (plB 0 + 0x20) = true ∧ intentOp (2#32).toNat = opRunning ∧ State.plateOp ((hold (plB 0) up).storeIntent (plB 0) opRunning 0) 0 = opOff) ∧
    ((hold (plB 0) run).lockedWrite 0 (plB 0) (plB 0 + 0x20) = true ∧ State.plateOp ((hold (plB 0) run).storeIntent (plB 0) opRunning 0) 0 = opRunning ∧ State.enteringQuiet ((hold (plB 0) run).storeIntent (plB 0) opRunning 0) 0 = false ∧ intentOp (0#32).toNat = opOff ∧ State.plateOp ((hold (plB 0) run).storeIntent (plB 0) opOff 0) 0 = opRunning) ∧
    (State.plateOp ((hold (plB 0) (up.wr (plB 0) Title.stateOp opStarting)).storeIntent (plB 0) opOff 0) 0 = opStarting ∧ State.lockedWrite (hold (plB 0) (up.wr (plB 0) Title.stateOp opStarting)) 0 (plB 0) (plB 0 + 0x20) = true) ∧
    (intentOp (4#32).toNat = opQuiet ∧ State.plateOp ((hold (plB 0) run).storeIntent (plB 0) opQuiet 0) 0 = opRunning ∧ State.plateOp ((hold (plB 0) up).storeIntent (plB 0) opQuiet 0) 0 ≠ opRunning) ∧
    ((hold (gcB 7) up).lockedWrite 0 (gcB 7) (gcB 7 + 0x20) = true) := by
  iterate 4 refine ⟨by decide +kernel, ?_⟩
  decide +kernel

theorem witness_ArbiterServesPendingRequestsInOrder :
    (nextGrant [.lane 7 4, .base 3, .base 1] = some (.base 1) ∧ State.grantFits { up with arb := [.lane 7 4, .base 3, .base 1] } (.base 1) = true) ∧
    (State.grantFits (up.wr paB Reg.paCeilCeiling 0) (.base 1) = false ∧ nextGrant [.base 1] = some (.base 1)) ∧
    ((up.wr (plB 0) Title.stateOp opStarting).wantsBase 0 = true ∧ ((up.wr (plB 0) Title.stateOp opStarting).plate 0).baseAskedAt + 10 * msNs ≤ up.now) ∧
    ((up.wr (macB 7) Title.stateOp opStarting).wantsLane 7 = true ∧ ((up.wr (macB 7) Title.stateOp opStarting).port 7).laneAskedAt + 10 * msNs ≤ up.now) ∧
    (3 < 4 ∧ State.laneEnabled ((up.wr ekB Title.hostOp opRunning).wr ekB Reg.ekCtrlLaneEn 15) 3 = true ∧ bitAt up.epkGrants 3 = false ∧ up.asking (.epkLane 3) = false ∧ (up.ekLane 3).askedAt + 10 * msNs ≤ up.now) := by
  iterate 4 refine ⟨by decide +kernel, ?_⟩
  decide +kernel

theorem witness_FrameTickOverrunsBurnishingAndStop :
    ((inOpen (hold (gcB 7) up))).Inv ∧
    ((run.plate 0).stage = .out ∧ run.plateOp 0 ≠ opQuiet ∧ run.tickDue 0 = true ∧ (State.reset.plate 7).stage ≠ .out ∧ State.tickDue (run.setPlate 0 { stage := .out, lastTick := some (run.tkNs 0 / msNs) }) 0 = false) ∧
    ((chans .active).graverRuns 0 0 = true ∧ (chans .active).chOpen (256 * 0 + 0) = true ∧ ((chans .active).chan (256 * 0 + 0)).graver = 0) ∧
    ((up.wr (psB 7) Reg.psBurnishEnable 1).burnishDue 7 = true ∧ (up.wr (psB 7) Reg.psInjectLine 5).rd (psB 7) Reg.psInjectLine ≠ (up.wr (psB 7) Reg.psInjectLine 5).rd (psB 7) Reg.psPassLine) ∧
    ((hold (gcB 7) up).lockedWrite 0 (gcB 7) (gcB 7 + 0x48) = true ∧ (hold (gcB 7) up).fuses.lc = 2) ∧
    ((inOpen (hold (gcB 7) up)).lockedWrite 0 (gcB 7) (gcB 7 + 0x48) = true ∧ (inOpen (hold (gcB 7) up)).fuses.lc ≠ 2) ∧
    (State.plateOp (run.wr (plB 0) Title.stateOp opStopping) 0 = opStopping ∧ Sparse.find? run.quietReqs 0 = none ∧ State.activeIn (run.wr (plB 0) Title.stateOp opStopping) 0 (0 + 1) = false ∧ State.plateInFlight (run.wr (plB 0) Title.stateOp opStopping) 0 = 0) ∧
    ((ovr 0).graverRuns 0 0 = true ∧ (ovr 0).chOpen (256 * 0 + 0) = true ∧ (State.graver (((ovr 0).skipPackets 0).repeatFrame 0 |>.countOverrun 0 0) 0 0).overruns < State.rd (((ovr 0).skipPackets 0).repeatFrame 0 |>.countOverrun 0 0) (gcB 0) Reg.gcOvrLimitLimit) ∧
    (State.rd (((ovr 100).skipPackets 0).repeatFrame 0 |>.countOverrun 0 0) (gcB 0) Reg.gcOvrLimitLimit ≤ (State.graver (((ovr 100).skipPackets 0).repeatFrame 0 |>.countOverrun 0 0) 0 0).overruns ∧ (State.isSet (((ovr 100).skipPackets 0).repeatFrame 0 |>.countOverrun 0 0) (gcB 0) Reg.gcOvrLimitDisable && (((ovr 100).skipPackets 0).repeatFrame 0 |>.countOverrun 0 0).debugState) = false) ∧
    ((State.isSet ((((inOpen (ovr 100)).wr (gcB 0) Reg.gcOvrLimitDisable 1).skipPackets 0).repeatFrame 0 |>.countOverrun 0 0) (gcB 0) Reg.gcOvrLimitDisable && ((((inOpen (ovr 100)).wr (gcB 0) Reg.gcOvrLimitDisable 1).skipPackets 0).repeatFrame 0 |>.countOverrun 0 0).debugState) = true) ∧
    (onesIn 44 (up.lineErr 7 (2 ^ 21 - 1)) = 0 ∧ onesIn 44 ((up.setLineErr 7 (2 ^ 21 - 1) (2 ^ 43)).lineErr 7 (2 ^ 21 - 1)) = 1 ∧ onesIn 44 ((up.setLineErr 7 0 (2 ^ 43 + 1)).lineErr 7 0) = 2 ∧ (up.wr (psB 7) Reg.psBurnishEnable 0).burnishDue 7 = false) ∧
    (State.rd ((run.wr (plB 0) Title.stateOp opStopping).wr (plB 0) Title.hostOp opRunning) (plB 0) Title.hostOp = opRunning) := by
  refine ⟨inv_of_looksInv (by decide +kernel), ?_⟩
  iterate 10 refine ⟨by decide +kernel, ?_⟩
  decide +kernel

theorem witness_LifeCycleRequestSequenceIsJudged :
    ((lcJob (.transition 3))).Inv ∧
    (lcReq.lockedWrite 0 lcB (lcB + 0x54) = true ∧ lcReq.reqLate = false ∧ lcReq.life.seq.taken = 0 ∧ 0x4C430000 ≤ (0x4C430003#32).toNat ∧ (0x4C430003#32).toNat ≤ 0x4C430003 ∧ (0x4C42FFFF#32).toNat < 0x4C430000 ∧ 0x4C430003 < (0x4C430004#32).toNat) ∧
    ((lcSeq 1 3).lockedWrite 0 lcB (lcB + 0x54) = true ∧ (lcSeq 1 3).reqLate = false ∧ (lcSeq 1 3).life.seq.taken = 1 ∧ (0xA55A#32).toNat = 0xA55A) ∧
    ((lcSeq 2 3).reqLate = false ∧ (lcSeq 2 3).life.seq.taken = 2 ∧ (0xB3BCFFFC#32).toNat = 0xFFFFFFFF - (0x4C430000 + 3) ∧ (lcSeq 2 3).life.job = .idle ∧ (lcSeq 2 3).isSet lcB Reg.lcStatePending = false ∧ (lcSeq 2 3).life.seq.target = (lcSeq 2 3).fuses.lc + 1 ∧ (lcSeq 2 3).life.seq.target = 3 ∧ (lcSeq 2 3).isSet lcB Reg.lcStateRtmArmed = false) ∧
    ((lcSeq 2 2).life.seq.target ≠ (lcSeq 2 2).fuses.lc + 1 ∧ (lcSeq 2 2).life.seq.taken = 2 ∧ (lcSeq 2 2).life.job = .idle ∧ (0xB3BCFFFD#32).toNat = 0xFFFFFFFF - (0x4C430000 + 2)) ∧
    ((inOpen (lcSeq 2 2)).life.seq.target = (inOpen (lcSeq 2 2)).fuses.lc + 1 ∧ (inOpen (lcSeq 2 2)).life.seq.target < 3 ∧ (inOpen (lcSeq 2 2)).lockedWrite 0 lcB (lcB + 0x54) = true ∧ (inOpen (lcSeq 2 2)).reqLate = false ∧ (inOpen (lcSeq 2 2)).isSet lcB Reg.lcStatePending = false ∧ (inOpen (lcSeq 2 2)).life.job = .idle) ∧
    ((lcJob (.transition 3)).life.job ≠ .idle ∧ (lcJob (.transition 3)).life.seq.taken = 2 ∧ (lcJob (.transition 3)).lockedWrite 0 lcB (lcB + 0x54) = true) ∧
    (State.reqLate { lcSeq 1 3 with now := (lcSeq 1 3).now + 1000001 } = true ∧ State.reqLate { lcSeq 1 3 with now := (lcSeq 1 3).now + 1000000 } = false) ∧
    ((lcJob (.transition 3)).life.job = .transition 3) := by
  refine ⟨inv_of_looksInv (by decide +kernel), ?_⟩
  iterate 7 refine ⟨by decide +kernel, ?_⟩
  decide +kernel

theorem witness_ReturnToMakerRequestIsDisarmed :
    up.Inv ∧ armed.Inv ∧
    (up.chip.power ≠ .por ∧ up.writesThrough 64 (lcB + 0x100 + 4 * 31) = false ∧ up.writesThrough 0 (lcB + 0x100 + 4 * 31) = true) ∧
    (armed.lockedWrite 0 lcB (lcB + 0x54) = true ∧ armed.reqLate = false ∧ armed.life.seq.taken = 2 ∧ (0xB3BCFFFC#32).toNat = 0xFFFFFFFF - (0x4C430000 + armed.life.seq.target) ∧ armed.life.job = .idle ∧ armed.isSet lcB Reg.lcStatePending = false ∧ armed.life.seq.target = armed.fuses.lc + 1 ∧ armed.life.seq.target = 3 ∧ armed.isSet lcB Reg.lcStateRtmArmed = true) := ⟨up_inv, inv_of_looksInv (by decide +kernel), by decide +kernel, by decide +kernel⟩

theorem witness_ReturnToMakerImageIsStoredAndChecked :
    ((hold lcB up).writesThrough 0 (lcB + 0x100 + 4 * 31) = true ∧ (hold lcB up).lockOwner lcB = masterOfFn 0 ∧ up.writesThrough 0 (lcB + 0x100) = true ∧ up.lockOwner lcB ≠ masterOfFn 0 ∧ (hold lcB up).lockedWrite 0 lcB (lcB + 0x84) = true) ∧
    ((up.wr lcB Reg.lcRtmStatusBusy 1).isSet lcB Reg.lcRtmStatusBusy = true ∧ (up.wr lcB Reg.lcRtmStatusBusy 1).rtmResult ≠ 1 ∧ (inOpen (up.wr lcB Reg.lcRtmStatusBusy 1)).fuses.lc ≠ 2) := ⟨by decide +kernel, by decide +kernel⟩

theorem witness_OptionFusesAreBlownOnlyUpward :
    ((lcJob (.option 2 255))).Inv ∧ ((lcJob (.option 0 0))).Inv ∧ ((lcJob (.option 3 1600))).Inv ∧
    ((lcJob (.option 1 0))).Inv ∧
    ({ lcJob (.option 3 1) with fuses := { ceilLock := true }, fusesBlown := { ceilLock := true } }).Inv ∧
    ((lcJob (.option 6 15))).Inv ∧
    (lcReq.lockedWrite 0 lcB (lcB + 0x60) = true ∧ bitsOf (0x59000002#32).toNat 24 8 ≠ 0x5A ∧ bitsOf (0x5A000002#32).toNat 24 8 = 0x5A ∧ lcReq.life.job = .idle ∧ (lcJob (.option 2 5)).life.job ≠ .idle ∧ (lcJob (.option 2 5)).lockedWrite 0 lcB (lcB + 0x60) = true) ∧
    ((lcJob (.option 2 255)).life.job = .option 2 255) ∧ ((lcJob (.option 0 0)).life.job = .option 0 0) ∧
    ((lcJob (.option 3 1600)).fuses.lc ≠ 3 ∧ (lcJob (.option 3 1600)).fusesBlown.ceilLock = false) ∧
    ((lcJob (.option 1 0)).fuses.lc ≠ 0) ∧
    ((State.fusesBlown { lcJob (.option 3 1) with fuses := { ceilLock := true }, fusesBlown := { ceilLock := true } }).ceilLock = true) ∧
    ((lcJob (.option 6 15)).fusesBlown.keyRev ||| 15 % 16 = 15) := by
  refine ⟨inv_of_looksInv (by decide +kernel), inv_of_looksInv (by decide +kernel), inv_of_looksInv (by decide +kernel),
    inv_of_looksInv (by decide +kernel), inv_of_looksInv (by decide +kernel), inv_of_looksInv (by decide +kernel),
    ?_⟩
  iterate 6 refine ⟨by decide +kernel, ?_⟩
  decide +kernel

theorem witness_TestAccessPortSelectsAndShifts :
    ((inOpen up).fuses.lc ≠ 2 ∧ up.fuses.lc = 2 ∧ (inOpen up).fuses.lc = 1 ∧ (State.fuses { up with fuses := { lc := 3 } }).lc = 3) := by decide +kernel

theorem witness_DebuggerHaltsResumesStepsAndAccesses :
    (debugging.tapDebug 0 = true ∧ (debugging.graver 0 0).haltTap = false ∧ debugging.graverRuns 0 0 = true) ∧
    (debugging.tapDebug 7 = true ∧ debugging.graverRuns 7 3 = false ∧ (debugging.graver 7 3).haltTap = false) ∧
    ((debugging.setGraver 0 0 { haltTap := true }).graverHalted 0 0 = true ∧ (debugging.setGraver 0 0 { haltTap := true }).isFrozen (masterGraver 0 0) = false ∧ (debugging.setGraver 0 0 { haltTap := true }).graversReleased 0 = true ∧ (debugging.setGraver 0 0 { haltTap := true }).tapDebug 0 = true) ∧
    (State.isFrozen { debugging with frozen := [masterGraver 0 0] } (masterGraver 0 0) = true ∧ State.tapDebug { debugging with frozen := [masterGraver 0 0] } 0 = true) ∧
    ((debugging.setGraver 0 0 { haltTap := true }).graverRuns 0 0 = false) := by
  iterate 4 refine ⟨by decide +kernel, ?_⟩
  decide +kernel

theorem witness_PatchBundleIsJudgedAtBoot :
    ((booting 4).chip.power = .booting ∧ ((booting 4).wr crB Reg.crRefStatusTbPllLock 1).clocksUp = true ∧ (booting 4).chip.sheetsReady = false) ∧
    (leVal (bytesAt (List.replicate 128 0xFF) 0 4) = 0xFFFFFFFF ∧ leVal (bytesAt (List.replicate 128 0) 0 4) = 0 ∧ leVal (bytesAt (List.replicate 128 1) 0 4) ≠ 0xFFFFFFFF ∧ leVal (bytesAt (List.replicate 128 1) 0 4) ≠ 0 ∧ leVal (bytesAt (List.replicate 128 1) 0 4) ≠ 0x50415431 ∧ (up.judgeBundle true (List.replicate 128 0) []).1 ≠ 1) ∧
    ((booting 4).clocksUp = true) := ⟨by decide +kernel, by decide +kernel, by decide +kernel⟩

theorem witness_RequestsReachTheirTarget :
    ((crB + 0x50) % 4 = 0 ∧ crB + 0x50 < barSize 0 ∧ barAddr 0 (crB + 0x50) = some (crB + 0x50) ∧ up.gate 0 (some (crB + 0x50)) true = .go (crB + 0x50) ∧ up.gate 0 (some (crB + 0x50)) false = .go (crB + 0x50)) ∧
    (barSize 0 % 4 = 0 ∧ barSize 0 ≤ barSize 0 ∧ up.linkUp = true) ∧
    (up.fnAnswers 64 = true ∧ (64 ≠ 0 → up.plateEnabled ((64 - 1) / 8) = true) ∧ up.isFrozen (masterOfFn 64) = false ∧ 3 < vectorsOf 64) ∧
    (up.cfgAnswers = true ∧ 0x1002 % 4 ≠ 0) ∧
    (up.flrBusy 0 = false ∧ 63 < vectorsOf 0 ∧ up.fnAnswers 0 = true ∧ up.isFrozen (masterOfFn 0) = false) ∧
    (up.cfgAnswers = true ∧ up.linkUp = true ∧ vectorsOf 64 = 4 ∧ vectorsOf 0 = 64) := by
  iterate 5 refine ⟨by decide +kernel, ?_⟩
  decide +kernel

theorem witness_PlainWriteChangesOneRegisterAlone :
    ((pkB0 + 0x40) % 4 = 0 ∧ pkB0 + 0x40 < barSize 0 ∧ barAddr 0 (pkB0 + 0x40) = some (pkB0 + 0x40) ∧ (hold pkB0 up).writesThrough 0 (pkB0 + 0x40) = true ∧ regionAt (pkB0 + 0x40) = .sheet .mac 0 pkB0 ∧ 0x40 ≤ pkB0 + 0x40 - pkB0 ∧ ((hold pkB0 up).specialWrite 0 .mac 0 (pkB0 + 0x40 - pkB0) 5).isNone = true) := by decide +kernel

theorem witness_CounterLowReadLatchesAndClears :
    up.Inv ∧
    (tcntB 8 % 4 = 0 ∧ (tcntB 8 + 0x40) % 4 = 0 ∧ tcntB 8 + 0x40 < barSize 0 ∧ barAddr 0 (tcntB 8 + 0x40) = some (tcntB 8 + 0x40) ∧ up.readsThrough 0 (tcntB 8 + 0x40) = true ∧ regionAt (tcntB 8 + 0x40) = .sheet .cnt 8 (tcntB 8) ∧ isCounterLow 0 (tcntB 8 + 0x40) = true ∧ up.isSet (tcntB 8) Title.compatPrev = false ∧ barAddr 0 (tcntB 8 + 0x40 + 4) = some (tcntB 8 + 0x40 + 4)) ∧
    ((up.wr (tcntB 8) Title.compatPrev 1).isSet (tcntB 8) Title.compatPrev = true) ∧
    (State.readsThrough (after (.counter48LowRead 0 (tcntB 8 + 0x40)) up) 0 (tcntB 8 + 0x40 + 4) = true) := ⟨up_inv, by decide +kernel, by decide +kernel, by decide +kernel⟩

theorem witness_ReadsClearTheirClearOnReadFields :
    ((crB + 0x40) % 4 = 0 ∧ crB + 0x40 < barSize 0 ∧ barAddr 0 (crB + 0x40) = some (crB + 0x40) ∧ up.readsThrough 0 (crB + 0x40) = true ∧ regionAt (crB + 0x40) = .sheet .cr 0 crB ∧ 0x40 ≤ crB + 0x40 - crB ∧ SheetKind.cr ≠ .qmgr ∧ (up.specialRead .cr 0 crB 0x40).isNone = true ∧ (up.wholeWord .cr 0 0x40).isNone = true) := by decide +kernel

theorem witness_MisalignedRequestsAreViolations :
    (misaligned (crB + 0x41) 0xE 1 = true ∧ up.linkUp = true ∧ up.fnAnswers 0 = true ∧ crB + 0x41 < 0x4000000 ∧ isAssigned (crB + 0x41 - (crB + 0x41) % 4) = true ∧ storagePlate (crB + 0x41 - (crB + 0x41) % 4) = none ∧ up.isFrozen 1 = false) ∧
    (State.isFrozen { up with frozen := [1] } (masterOfFn 0) = true ∧ State.linkUp { up with frozen := [1] } = true ∧ State.fnAnswers { up with frozen := [1] } 0 = true ∧ crB + 0x41 < barSize 0 ∧ misaligned (crB + 0x41) 0xE 1 = true) ∧
    (crB % 4 = 0) ∧
    (misaligned (crB + 0x40) 0xF 2 = true ∧ misaligned (barSize 64 - 4) 0x7 1 = true ∧ State.isFrozen { up with frozen := [0x80] } (masterOfFn 64) = true ∧ State.plateEnabled up ((64 - 1) / 8) = true ∧ State.fnAnswers { up with frozen := [0x80] } 64 = true ∧ barSize 64 - 4 < barSize 64) := ⟨by decide +kernel, by decide +kernel, by decide +kernel, by decide +kernel⟩

theorem witness_UnfreezeWritesEndOneFreezeOrAreCounted :
    frozenVf.Inv ∧ up.Inv ∧
    (frozenVf.writesThrough 0 (fzB + 0x60) = true ∧ frozenVf.mayWriteL fzB (masterOfFn 0) = true ∧ frozenVf.isFrozen ((0x00010080#32).toNat % 256) = true ∧ (0x00010080#32).toNat % 256 ≠ 1 ∧ (Sparse.find? frozenVf.frzCur ((0x00010080#32).toNat % 256)).map FrzRec.seq = some (bitsOf (0x00010080#32).toNat 16 16)) ∧
    (up.writesThrough 0 (fzB + 0x60) = true ∧ ¬ up.mayWriteL fzB (masterOfFn 0) = true) := ⟨inv_of_looksInv (by decide +kernel), up_inv, by decide +kernel, by decide +kernel⟩

theorem witness_FreezeRecordsAreCapturedAndThePfFreezeExpires :
    (up.readsThrough 0 (recordAddr none) = true ∧ up.readsThrough 0 (recordAddr (some 15)) = true) ∧
    (State.isFrozen { up with frozen := [1] } 1 = true ∧ State.rd { up with frozen := [1] } fzB Reg.fzPfHoldPfHoldMs ≤ State.aonTick { up with frozen := [1] } - State.pfFrozenTick { up with frozen := [1] } ∧ State.aonTick { up with frozen := [1], pfFrozenTick := 100000 } - 100000 < State.rd { up with frozen := [1] } fzB Reg.fzPfHoldPfHoldMs) := ⟨by decide +kernel, by decide +kernel⟩

theorem witness_DmaRingsArePolledAndTheirDescriptorsChecked :
    ((hold (dmaB 7) up).lockedWrite 0 (dmaB 7) (dmaB 7 + 0x20) = true) ∧
    (vfRing.writesThrough 1 (tenB 0 + 0x50) = true ∧ vfRing.isSet (tenB 0) Reg.tenDmaCtrlDmaEn = State.isSet (vfRing.storeWord 1 (tenB 0) Reg.tenRows 0x50 1) (tenB 0) Reg.tenDmaCtrlDmaEn ∧ vfRing.isSet (tenB 0) Reg.tenDmaCtrlDmaEn ≠ State.isSet (vfRing.storeWord 1 (tenB 0) Reg.tenRows 0x50 0) (tenB 0) Reg.tenDmaCtrlDmaEn) ∧
    (up.pollDue 63 = false) ∧
    ((ringed op0).pollDue 0 = true ∧ (ringed op0).pf.ctoDisable = false ∧ bitsOf (5#32).toNat 0 7 ≠ 0 ∧ ((ringed op0).ring 0).pos = some 2 ∧ State.pollDue { ringed op0 with pf := { up.pf with ctoDisable := true } } 0 = true) ∧
    ((unplaced op0).pollDue 0 = true ∧ ((unplaced op0).ring 0).pos = none ∧ bitsOf (5#32).toNat 0 7 ≠ 0 ∧ bitsOf (127#32).toNat 0 7 ≠ 0 ∧ bitsOf (0x80#32).toNat 0 7 = 0) ∧
    ((ringed op1).descriptorDue 0 2 = true ∧ ((ringed op1).ring 0).pos = some 2 ∧ (ringed op1).pf.ctoDisable = false) ∧
    ((taken op1).dmaEnabled 0 = true ∧ State.queueAllowed (taken op1) 0 dsc = true ∧ State.inWindow (taken op1) 0 dsc.addr dsc.length = false ∧ State.queueAllowed (taken op1) 0 { dsc with queue := 5 } = false) ∧
    (((taken op1).wr (tenB 0) Reg.tenDmaCtrlDmaEn 0).dmaEnabled 0 = false) ∧
    ((ringed op0).descriptorDue 0 2 = false ∧ (unplaced op0).descriptorDue 0 2 = false ∧ (taken1 din).dmaEnabled 0 = true ∧ (taken1 din).queueAllowed 0 din = true ∧ (taken1 din).inWindow 0 din.addr din.length = true ∧ din.toHost = false ∧ (taken1 din).allocRefusal 0 din.queue 0 (cellsOf din.length) false = 0 ∧ State.allocRefusal ((taken1 din).wr (qgB 0) Reg.qmFloorFloor 16383) 0 din.queue 0 (cellsOf din.length) false ≠ 0) ∧
    ((taken1 dout).queueAllowed 0 dout = true ∧ (taken1 dout).inWindow 0 dout.addr dout.length = true ∧ dout.toHost = true ∧ (taken1 dout).queue 0 dout.queue = [] ∧ ((taken1 dout).setQueue 0 300 [{ bytes := List.replicate 65 0 }]).queue 0 dout.queue = [{ bytes := List.replicate 65 0 }] ∧ dout.length < (List.replicate 65 (0 : Byte)).length ∧ (List.replicate 64 (0 : Byte)).length ≤ dout.length) := by
  iterate 9 refine ⟨by decide +kernel, ?_⟩
  decide +kernel

theorem witness_DmaOperationsStartRoundRobinAndEnd :
    ((∀ k < 8, (up.pumpAll 0).mayStart (8 * 0 + k) = false)) ∧
    (((ringed op0).pumpAll 0).mayStart (8 * 0 + (Sparse.get 7 ((ringed op0).pumpAll 0).dmaLast 0 + 1 + 0) % 8) = true) ∧
    ((toHost.nextOp 0).isSome = true ∧ toHost.nextOp 0 = some { op0 with toHost := true } ∧ (State.dmaCheck { toHost with dmaLast := Sparse.put 7 toHost.dmaLast 0 0 } 0 { op0 with toHost := true }).isNone = true ∧ toHost.queue 0 300 = [{ bytes := [1, 2, 3] }]) ∧
    ((ringed readOp).linkUp = true ∧ ((ringed readOp).ring 0).ops.find? (fun o => o.idx == 1 && o.phase == .inFlight && !o.toHost) = some readOp ∧ Sparse.find? readOp.reads 0 = some 64 ∧ Sparse.find? readOp.reads 64 = none ∧ readOp.reads.length = 1 ∧ readOp.length ≤ readOp.issued ∧ 64 < (List.replicate 65 (0 : Byte)).length ∧ (List.replicate 64 (0 : Byte)).length = 64 ∧ List.replicate 64 (0 : Byte) ≠ [] ∧ Sparse.del readOp.reads 0 = []) ∧
    ((ringed { readOp with issued := 32 }).linkUp = true ∧ DmaOp.issued { readOp with issued := 32 } < readOp.length) ∧
    (((ringed op1).ring 0).ops = [op1] ∧ (ringed op1).mayWriteStatus 0 op1 = true ∧ ((ringed op0).ring 0).ops = [op0] ∧ (ringed op0).mayWriteStatus 0 op0 = false) ∧
    (((ringed (wrOp 0x8000)).ring 0).ops.find? (fun o => o.idx == 1 && o.phase == .inFlight && o.toHost) = some (wrOp 0x8000) ∧ (ringed (wrOp 0x8000)).tenantActs 0 = true ∧ (ringed (wrOp 0x8000)).inWindow 0 (0x8000 + 0) (tlpLen (0x8000 + 0) ((wrOp 0x8000).data.length - 0) (ringed (wrOp 0x8000)).mpsBytes) = true ∧ 0 + tlpLen (0x8000 + 0) ((wrOp 0x8000).data.length - 0) (ringed (wrOp 0x8000)).mpsBytes < (wrOp 0x8000).data.length) ∧
    ((ringed (wrOp 0)).inWindow 0 (0 + 0) (tlpLen (0 + 0) ((wrOp 0).data.length - 0) (ringed (wrOp 0)).mpsBytes) = false ∧ (ringed (wrOp 0)).tenantActs 0 = true ∧ (wrOp 0).data.length ≤ 150 + tlpLen (0x8000 + 150) ((wrOp 0).data.length - 150) (ringed (wrOp 0)).mpsBytes) ∧
    ((State.ring ((ringed op0).setRing 0 { late := [(1, 64)] }) 0).late.contains (1, 64) = true ∧ ((ringed op0).ring 0).late.contains (1, 64) = false) ∧
    ((fromHost.nextOp 0) = some { op0 with cells := 0 } ∧ (State.dmaCheck { fromHost with dmaLast := Sparse.put 7 fromHost.dmaLast 0 0 } 0 op0).isNone = true ∧ op0.toHost = false) ∧
    ((ringed readOp).waitingOp 0 1 ((ctoRange (ringed readOp).pf.ctoValue).2 + 1) = some readOp ∧ (ringed readOp).pf.ctoDisable = false ∧ (ringed (readAt (up.now - 50000000))).waitingOp 0 1 ((ctoRange 0).2 + 1) = none ∧ (ringed readOp).readingOp 0 1 0 = some readOp ∧ (ringed readOp).readingOp 0 1 64 = none) := by
  iterate 10 refine ⟨by decide +kernel, ?_⟩
  decide +kernel

theorem witness_QueuesAreFlushedRelayedAndGivenOwners :
    ((queued 8)).Inv ∧ relayed.Inv ∧ ((relayed.wr (qdB 0 296) (qdLimitRow 296) 1)).Inv ∧
    (up.writesThrough 0 (qdB 7 1023 + 8) = true ∧ (up.port 7).tx = none ∧ (State.port (up.setPort 7 { tx := some {} }) 7).tx = some {} ∧ State.writesThrough (up.setPort 7 { tx := some {} }) 0 (qdB 7 7 + 8) = true) ∧
    (up.writesThrough 0 (qdB 7 1023 + 4) = true ∧ queueKind 1023 ≠ 0 ∧ queueKind 1023 ≠ 2 ∧ up.queue 7 1023 = [] ∧ up.dmaNames 7 1023 = false) ∧
    (queueKind 7 = 0 ∧ queueKind 40 = 2 ∧ queueKind 8 ≠ 0 ∧ queueKind 8 ≠ 2 ∧ up.writesThrough 0 (qdB 0 8 + 4) = true ∧ (queued 8).queue 0 8 ≠ [] ∧ (ringed readOp).dmaNames 0 300 = true) ∧
    ((queued 8).relayTarget 0 (8 + 0) = none) ∧
    (relayed.relayTarget 0 (8 + 0) = some 296 ∧ 296 ≤ 296 ∧ relayed.rd (qdB 0 296) (qdLimitRow 296) = 0) ∧
    ((relayed.wr (qdB 0 296) (qdLimitRow 296) 1).relayTarget 0 (8 + 0) = some 296 ∧ (relayed.wr (qdB 0 296) (qdLimitRow 296) 1).queue 0 (8 + 0) = { bytes := List.replicate 200 0 } :: [] ∧ (relayed.wr (qdB 0 296) (qdLimitRow 296) 1).rd (qdB 0 296) (qdLimitRow 296) ≠ 0 ∧ (relayed.wr (qdB 0 296) (qdLimitRow 296) 1).rd (qdB 0 296) (qdLimitRow 296) < (relayed.wr (qdB 0 296) (qdLimitRow 296) 1).queueCells 0 296 + 2) := by
  refine ⟨inv_of_looksInv (by decide +kernel), inv_of_looksInv (by decide +kernel), inv_of_looksInv (by decide +kernel),
    ?_⟩
  iterate 5 refine ⟨by decide +kernel, ?_⟩
  decide +kernel

theorem witness_PortIntentModuleAndLinkStates :
    ((starting 0)).Inv ∧
    ((hold (macB 7) up).lockedWrite 0 (macB 7) (macB 7 + 0x20) = true ∧ intentOp (2#32).toNat = opRunning ∧ (hold (macB 7) up).macOp 7 = opOff ∧ intentOp (0#32).toNat = opOff ∧ intentOp (4#32).toNat = opQuiet) ∧
    ((hold (macB 0) port).macOp 0 = opRunning ∧ (hold (macB 0) port).lockedWrite 0 (macB 0) (macB 0 + 0x20) = true ∧ (port.port 0).up = true) ∧
    (up.plateOut 7 = true ∧ State.reset.plateOut 7 = false) ∧
    ((starting 0).macOp 0 = opStarting ∧ ((starting 0).port 0).up = false ∧ Sparse.get 0 (starting 0).laneGrants 0 ≠ 0) ∧
    (up.macOp 0 ≠ opRunning ∧ (State.graceOver (up.setPort 0 { graceFrom := some 0 }) 0) = true ∧ up.graceOver 0 = false) ∧
    ((hold (macB 7) up).plateAsleep 7 = false ∧ State.plateAsleep ((hold (macB 7) up).wr (plB 7) Title.stateOp opQuiet) 7 = true ∧ State.macOp ((hold (macB 7) up).wr (plB 7) Title.stateOp opQuiet) 7 = opOff ∧ State.lockedWrite ((hold (macB 7) up).wr (plB 7) Title.stateOp opQuiet) 0 (macB 7) (macB 7 + 0x20) = true) ∧
    ((starting 0).rd (macB 0) Reg.macCfgUpHoldMs * msNs ≤ 1000000000 ∧ (starting 0).serdesIdle = false) ∧
    (100000 ≤ 100000 ∧ 99999 < 100000 ∧ (starting 0).pcsWorks 0 = true ∧ up.pcsWorks 7 = false ∧ ((starting 0).port 0).upHoldMs * msNs ≤ ((starting 0).port 0).upHoldMs * msNs ∧ 0 < (State.port ((starting 0).setPort 0 { upHoldMs := 1 }) 0).upHoldMs * msNs ∧ (starting 0).heldAt (macB 0) = false ∧ State.heldAt ((starting 0).wr (macB 0) Title.held 1) (macB 0) = true) ∧
    ((served 1).pcsWorks 0 = true ∧ ((served 1).port 0).up = true ∧ (served 1).macOp 0 = opRunning ∧ ((served 1).port 0).rate = 1 ∧ ((served 2).port 0).rate ≠ 1 ∧ ((served 1).port 0).tx = none ∧ ((served 1).port 0).rx = none ∧ (State.port ((served 1).setPort 0 { up := true, tx := some { queue := 7 } }) 0).tx = some { queue := 7 } ∧ (State.port ((served 1).setPort 0 { up := true, rx := some {} }) 0).rx ≠ none ∧ ((starting 0).port 0).up = false) ∧
    (State.macOp ((hold (macB 0) port).wr (macB 0) Title.stateOp opFault) 0 = opFault ∧ State.macOp (port.wr (macB 0) Title.stateOp opQuiet) 0 = opQuiet ∧ intentOp (2#32).toNat = opRunning ∧ port.macOp 0 ≠ opOff ∧ port.macOp 0 ≠ opFault ∧ port.macOp 0 ≠ opQuiet) := by
  refine ⟨inv_of_looksInv (by decide +kernel), ?_⟩
  iterate 9 refine ⟨by decide +kernel, ?_⟩
  decide +kernel

theorem witness_PauseFramesStopTheTransmitterForATime :
    (up.receives 7 = false ∧ port.receives 0 = true ∧ State.isSet ((port.wr (macB 0) Reg.macPauseRxEn 0).count48 0 none cRxPause) (macB 0) Reg.macPauseRxEn = false ∧ (port.wr (macB 0) Reg.macPauseRxEn 0).receives 0 = true) ∧
    (State.isSet ((pausing {}).count48 0 none cRxPause) (macB 0) Reg.macPauseRxEn = true ∧ (State.port ((pausing {}).count48 0 none cRxPause) 0).holdTill ≤ (pausing {}).now ∧ (0#16).toNat = 0 ∧ (0xFFFF#16).toNat ≠ 0 ∧ (pausing {}).now < (State.port ((pausing { holdTill := up.now + 1 }).count48 0 none cRxPause) 0).holdTill) ∧
    (((pausing { pauseFrom := some 0, pauseTill := up.now }).port 0).pauseFrom.isSome = true ∧ ((pausing { pauseFrom := some 0, pauseTill := up.now }).port 0).pauseTill ≤ up.now ∧ up.now < ((pausing { pauseFrom := some 0, pauseTill := up.now + 1 }).port 0).pauseTill) ∧
    (((pausing { pauseFrom := some 0, pauseTill := up.now + 1 }).port 0).pauseFrom = some 0 ∧ 0 + (pausing {}).rd (macB 0) Reg.macPauseGuardPauseGuard * msNs ≤ up.now ∧ 0 + (pausing {}).rd (macB 0) Reg.macPauseGuardPauseGuard * msNs < up.now + 1 ∧ ((pausing { pauseFrom := some up.now }).port 0).pauseFrom = some up.now ∧ up.now < up.now + (pausing {}).rd (macB 0) Reg.macPauseGuardPauseGuard * msNs) ∧
    (((pausing { holdTill := up.now }).port 0).holdTill ≤ up.now ∧ up.now < ((pausing { holdTill := up.now + 1 }).port 0).holdTill) ∧
    ((repeats.port 0).pauseSentAt = some 0 ∧ repeats.transmits 0 = true ∧ repeats.isSet (macB 0) Reg.macPauseTxEn = true ∧ 0 + repeats.quantaNs 0 (repeats.rd (macB 0) Reg.macPauseTxQuanta) / 2 ≤ repeats.now ∧ repeats.poolFree 0 ≤ repeats.rd (qgB 0) Reg.qmFloorFloor) ∧
    (paused.pauseDue 0 = true ∧ (paused.port 0).pauseOn = true ∧ (repeats.port 0).pauseOn = false ∧ repeats.poolFree 0 ≤ repeats.rd (qgB 0) Reg.qmFloorFloor ∧ repeats.pauseDue 0 = false ∧ (paused.port 0).pauseSentAt = some 0 ∧ paused.transmits 0 = true ∧ paused.isSet (macB 0) Reg.macPauseTxEn = true ∧ 0 + paused.quantaNs 0 (paused.rd (macB 0) Reg.macPauseTxQuanta) / 2 ≤ paused.now ∧ paused.poolFree 0 ≤ paused.rd (qgB 0) Reg.qmFloorFloor) ∧
    ((paused.wr (qgB 0) Reg.qmFloorFloor 100).rd (qgB 0) Reg.qmFloorFloor + 256 < (paused.wr (qgB 0) Reg.qmFloorFloor 100).poolFree 0 ∧ ((paused.wr (qgB 0) Reg.qmFloorFloor 100).port 0).pauseSentAt.isSome = true ∧ (paused.wr (qgB 0) Reg.qmFloorFloor 100).transmits 0 = true ∧ up.transmits 7 = false ∧ (pausing {}).isSet (macB 0) Reg.macPauseTxEn = false) := by
  iterate 7 refine ⟨by decide +kernel, ?_⟩
  decide +kernel

theorem witness_FramesAreReceivedIntoTheirQueues :
    ((pausing { rx := some { slot := some 0, target := some 300, admitted := true } })).Inv ∧
    (up.receives 7 = false ∧ port.receives 0 = true ∧ beAt (ethHead 0x88 0x08) 12 2 = 0x8808 ∧ beAt (ethHead 0x08 0x00) 12 2 ≠ 0x8808 ∧ (port.steer 0 ((ethHead 0x08 0x00).take 64)).target = none) ∧
    (((pausing { rx := some {} }).port 0).rx = some {} ∧ (pausing { rx := some {} }).receives 0 = true ∧ (List.replicate 59 (0 : Byte)).length < 60 ∧ 60 ≤ (List.replicate 60 (0 : Byte)).length ∧ (List.replicate 2044 (0 : Byte)).length ≤ 2044 ∧ 2044 < (List.replicate 2045 (0 : Byte)).length ∧ RxFrame.slot {} = none ∧ State.pauseQuanta ((pausing { rx := some {} }).setPort 0 { up := true }) 0 (ethHead 0x88 0x08) = none ∧ (ethHead 0x88 0x08).length = 60) ∧
    (((pausing { rx := some { slot := some 0, target := some 300, admitted := true } }).port 0).rx = some { slot := some 0, target := some 300, admitted := true } ∧ RxFrame.target { slot := some 0 } = none ∧ RxFrame.admitted { slot := some 0, target := some 300 } = false) ∧
    (State.pauseQuanta ((pausing { rx := some {} }).setPort 0 { up := true }) 0 pauseBytes = some 0xFFFF ∧ beAt pauseBytes 12 2 = 0x8808 ∧ pauseBytes.length = 60 ∧ RxFrame.slot { slot := some 0 } = some 0) := ⟨inv_of_looksInv (by decide +kernel), by decide +kernel, by decide +kernel, by decide +kernel, by decide +kernel⟩

theorem witness_FramesAreChosenSentAndEnded :
    two.Inv ∧
    (up.mayChoose 7 = false ∧ (pausing {}).mayChoose 0 = true ∧ (∀ n < 8, (State.tqSends ((pausing {}).clearAllHeads 0) 0 n) = false)) ∧
    ((pausing {}).mayChoose 0 = true ∧ ((pausing {}).setQueue 0 7 [{ bytes := ethHead 0x08 0x00 }]).mayChoose 0 = true ∧ State.tqSends (((pausing {}).setQueue 0 7 [{ bytes := ethHead 0x08 0x00 }]).clearAllHeads 0) 0 7 = true ∧ (State.queue (((pausing {}).setQueue 0 7 [{ bytes := ethHead 0x08 0x00 }]).clearAllHeads 0) 0 7).head?.map Entry.bytes = some (ethHead 0x08 0x00)) ∧
    (((pausing { tx := some { endAt := up.now + 1 } }).port 0).tx = some { endAt := up.now + 1 } ∧ up.now < TxFrame.endAt { endAt := up.now + 1 } ∧ TxFrame.endAt { endAt := up.now } ≤ up.now ∧ (TxFrame.bytes { bytes := List.replicate 2000 0 }).length = 2000 ∧ TxFrame.whole {} = false ∧ TxFrame.whole { whole := true } = true ∧ 1999 < 2000) ∧
    ((pausing { tx := some {} }).sending 0 0 = true ∧ (pausing {}).sending 0 7 = false ∧ stale.sending 0 7 = false ∧ stale.queue 0 7 = [{ expires := some 0 }] ∧ stale.expired 0 { expires := some 0 } = true ∧ (pausing {}).expired 0 {} = false) ∧
    (up.readsThrough 0 (macB 7 + 0x7C) = true) ∧
    (TxFrame.buffered { bytes := List.replicate 2000 0, buffered := 64 } ≤ 1999 ∧ 63 < TxFrame.buffered { bytes := List.replicate 2000 0, buffered := 64 }) ∧
    (two.queue 0 7 = [{ expires := some 0 }, {}] ∧ two.sending 0 7 = false ∧ two.expired 0 { expires := some 0 } = true ∧ two.expired 0 {} = false) := by
  refine ⟨inv_of_looksInv (by decide +kernel), ?_⟩
  iterate 6 refine ⟨by decide +kernel, ?_⟩
  decide +kernel

theorem witness_HatchTablesSwapAndShapersRefill :
    up.Inv ∧ ((hold (shB 7) up)).Inv ∧
    ((hold (hsB 0) run).lockedWrite 0 (hsB 0) (hsB 0 + 0x20) = true ∧ (hold (hsB 0) run).hsOp 0 = opOff ∧ (cycling opStarting up.now).hsOp 0 = opStarting ∧ (hold (hsB 0) (cycling opStarting 0)).lockedWrite 0 (hsB 0) (hsB 0 + 0x20) = true ∧ (cycling opRunning 0).hsOp 0 = opRunning ∧ ((cycling opRunning 0).hatch 0).gap = false ∧ (cycling opRunning 0).hsOp 0 ≠ opOff) ∧
    (((cycling opStarting 0).hatch 0).cycleFrom = some 0 ∧ 0 ≤ (cycling opStarting 0).tkNs 0 ∧ (cycling opStarting (up.now * 2)).tkNs 0 < up.now * 2) ∧
    (((cycling opRunning 0).hatch 0).cycleFrom = some 0 ∧ (cycling opRunning 0).cycleEnd 0 ≤ (cycling opRunning 0).tkNs 0 ∧ (cycling opRunning 0).swapActs 0 = false ∧ ((cycling opRunning 0).hatch 0).realign = false ∧ (cycling opRunning (up.now * 2)).tkNs 0 < (cycling opRunning (up.now * 2)).cycleEnd 0) ∧
    (State.swapActs ((cycling opRunning 0).setHatch 0 { cycleFrom := some 0, pending := some 1 }) 0 = true ∧ State.cycleEnd ((cycling opRunning 0).setHatch 0 { cycleFrom := some 0, pending := some 1 }) 0 ≤ (cycling opRunning 0).tkNs 0) ∧
    ((hold (hsB 0) up).lockedWrite 0 (hsB 0) (hsB 0 + 0x70) = true ∧ 0 = (hold (hsB 0) up).activeBank 0 ∧ 1 ≠ (hold (hsB 0) up).activeBank 0 ∧ ((hold (hsB 0) up).hatch 0).pending = none ∧ (hold (hsB 0) up).hsOp 0 = opOff) ∧
    ((hold (hsB 0) (cycling opRunning 0)).hsOp 0 ≠ opOff ∧ 1 ≠ (hold (hsB 0) (cycling opRunning 0)).activeBank 0 ∧ ((hold (hsB 0) (cycling opRunning 0)).hatch 0).pending = none ∧ (State.hatch ((hold (hsB 0) up).setHatch 0 { pending := some 1 }) 0).pending.isSome = true ∧ State.hsOp ((hold (hsB 0) up).setHatch 0 { pending := some 1 }) 0 ≠ opRunning) ∧
    (up.plateOut 7 = true ∧ up.plateQuiet 7 = false ∧ State.reset.plateOut 7 = false) ∧
    ((hold (shB 7) up).lockedWrite 0 (shB 7) (shB 7 + 0xA0) = true) ∧
    ((hold (hsB 0) run).plateAsleep 0 = false ∧ State.plateAsleep ((hold (hsB 0) run).wr (plB 0) Title.stateOp opQuiet) 0 = true ∧ (hold (hsB 0) (cycling opRunning 0)).lockedWrite 0 (hsB 0) (hsB 0 + 0x20) = true ∧ State.lockedWrite ((hold (hsB 0) up).setHatch 0 { pending := some 1 }) 0 (hsB 0) (hsB 0 + 0x70) = true) ∧
    ((cycling opStopping 0).hsOp 0 ≠ opStarting ∧ (cycling opStopping 0).hsOp 0 ≠ opRunning ∧ ((cycling opStopping 0).hatch 0).gap = false ∧ (cycling opStopping 0).cycleEnd 0 ≤ (cycling opStopping 0).tkNs 0 ∧ State.rd ((cycling opStopping 0).wr (hsB 0) Title.hostOp opRunning) (hsB 0) Title.hostOp = opRunning ∧ (cycling opStopping 0).rd (hsB 0) Title.hostOp ≠ opRunning ∧ (up.hatch 7).cycleFrom = none ∧ intentOp (4#32).toNat ≠ opOff ∧ intentOp (4#32).toNat ≠ opRunning) ∧
    (((gapAt 0 false).hatch 0).gap = true ∧ (gapAt 0 false).hsOp 0 = opRunning ∧ ((gapAt 0 false).hatch 0).cycleFrom = some 0 ∧ 0 ≤ (gapAt 0 false).tkNs 0 ∧ ((gapAt 0 false).hatch 0).gapSwap = false ∧ ((gapAt 0 true).hatch 0).gapSwap = true ∧ (gapAt (up.now * 2) true).tkNs 0 < up.now * 2 ∧ (cycling opOff 0).hsOp 0 ≠ opStopping) ∧
    (((realigning none).hatch 0).realign = true ∧ (realigning none).swapActs 0 = false ∧ (realigning (some 1)).swapActs 0 = true ∧ (realigning (some 1)).hsOp 0 = opRunning ∧ (realigning (some 1)).cycleEnd 0 ≤ (realigning (some 1)).tkNs 0) ∧
    ((swapping 0).swapEnd 0 = some ((swapping 0).tkNs 0 + 2000) ∧ (swapping 1).swapEnd 0 = some ((swapping 1).tkNs 0 + 1999) ∧ ((swapping 0).hatch 0).pending.isSome = true ∧ (hold (hsB 0) (swapping 0)).lockedWrite 0 (hsB 0) (hsB 0 + 0x70) = true) ∧
    (State.shEnabled ((up.wr (shB 7) Reg.shCfgEnable 1).wr (shB 7) Reg.shCfgRate 5 0) 7 0 = true ∧ up.shEnabled 7 7 = false) := by
  refine ⟨up_inv, inv_of_looksInv (by decide +kernel), ?_⟩
  iterate 13 refine ⟨by decide +kernel, ?_⟩
  decide +kernel

theorem witness_HighwaysLockSlipAndReport :
    ((hold (thB 7) up).lockedWrite 0 (thB 7) (thB 7 + 0x20) = true ∧ (hold (thB 7) up).thOp 7 = opOff ∧ State.thOp ((hold (thB 7) up).storeIntent (thB 7) opRunning 0) 7 = opOff) ∧
    (State.thOp ((hold (thB 0) (highway opStarting true)).storeIntent (thB 0) opOff 0) 0 = opStarting ∧ State.thOp ((hold (thB 0) (highway opRunning true)).storeIntent (thB 0) opOff 0) 0 = opRunning ∧ (hold (thB 0) (highway opRunning true)).lockedWrite 0 (thB 0) (thB 0 + 0x20) = true) ∧
    ((highway opStarting true).thClocked 0 = true ∧ (highway opStarting true).thOp 0 = opStarting ∧ ((highway opStarting true).highway 0).master = true ∧ (up.highway 7).master = false ∧ up.thSlave 7 = false) ∧
    ((highway opRunning false).thSlave 0 = true ∧ (highway opRunning false).thDetail 0 0 = false ∧ (highway opRunning false).thDetail 0 1 = false) ∧
    (State.thSlave ((highway opRunning false).wr (thB 0) Title.stateDetail 3) 0 = true ∧ State.thDetail ((highway opRunning false).wr (thB 0) Title.stateDetail 3) 0 0 = true ∧ State.thDetail ((highway opRunning false).wr (thB 0) Title.stateDetail 3) 0 1 = true) ∧
    (decide ((-200001 : Int) < -200000 ∨ 200000 < (-200001 : Int)) ≠ State.thDetail ((highway opRunning false).wrS (thB 0) Reg.thFreqOffsetPpb (-200001)) 0 2 ∧ decide ((200000 : Int) < -200000 ∨ 200000 < (200000 : Int)) = State.thDetail ((highway opRunning false).wrS (thB 0) Reg.thFreqOffsetPpb 200000) 0 2) ∧
    ((highway opRunning false).thOp 0 = opRunning ∧ up.thOp 7 ≠ opRunning) ∧
    ((hold (thB 7) up).plateAsleep 7 = false ∧ State.plateAsleep ((hold (thB 7) up).wr (plB 7) Title.stateOp opQuiet) 7 = true) ∧
    ((spaced false true (175 * 10 ^ 13)).slipDue 0 true true = true ∧ (spaced false true (175 * 10 ^ 13 - 1)).slipDue 0 true true = false ∧ (spaced false false (25 * 10 ^ 13)).slipDue 0 false false = true ∧ (spaced false false (25 * 10 ^ 13 + 1)).slipDue 0 false false = false ∧ (spaced true true (2 * 10 ^ 15)).slipDue 0 true true = true ∧ (spaced true true (2 * 10 ^ 15)).tkNs 0 % 125000 = (spaced true true (2 * 10 ^ 15)).rd (thB 0) Reg.thPhasePhaseNs ∧ State.slipDue ((spaced true true (2 * 10 ^ 15)).wr (thB 0) Reg.thPhasePhaseNs 124999) 0 true true = false) ∧
    ((highway opStarting true).tkNs 0 % 125000 = 0 ∧ State.tkNs { highway opStarting true with now := up.now + 1 } 0 % 125000 ≠ 0 ∧ intentOp (0#32).toNat = opOff ∧ intentOp (4#32).toNat ≠ opRunning ∧ State.thOp ((hold (thB 0) (highway opFault true)).storeIntent (thB 0) opOff 0) 0 ≠ opStarting) ∧
    (((highway opRunning false).highway 0).fsErrRun = 0 ∧ (State.highway ((highway opRunning false).setHighway 0 { fsErrRun := 2, fsErrAt := up.now - 187500 }) 0).fsErrRun ≠ 0 ∧ up.now ≤ (State.highway ((highway opRunning false).setHighway 0 { fsErrRun := 2, fsErrAt := up.now - 187500 }) 0).fsErrAt + 187500) := by
  iterate 10 refine ⟨by decide +kernel, ?_⟩
  decide +kernel

theorem witness_ChannelIntentsOwnersAndTraceSamples :
    ((chans .active)).Inv ∧ mismatched.Inv ∧ run.Inv ∧ asleep.Inv ∧ frozenCh.Inv ∧ ((moving none)).Inv ∧
    (run.writesThrough 0 (chB 2047 + 0x4) = true ∧ run.writesThrough 0 (chB 2047) = true ∧ run.pathView 2047 = pathIdle ∧ run.chWant 2047 = wantClosed ∧ (chans .active).writesThrough 0 (chB 0) = true ∧ ¬ (((chans .active).pathView 0 = pathIdle ∨ (chans .active).pathView 0 = pathRefused) ∧ (chans .active).chWant 0 = wantClosed)) ∧
    ((asleep.chan 0).req = some req0 ∧ req0.served = false ∧ asleep.plateQuiet 0 = true ∧ req0.at_ + 100 * msNs ≤ asleep.now ∧ asleep.now < ChRequest.at_ { req0 with at_ := up.now } + 100 * msNs) ∧
    ((up.opOf .plate 7 (plB 7) ≠ opRunning ∧ up.opOf .plate 7 (plB 7) ≠ opHeld) ∧ State.chHeld (run.wr (chB 0) Reg.chTraceHeld 1) 0 = true) ∧
    ((chans .active).opOf .plate 0 (plB 0) = opRunning ∧ (chans .active).role (0 / 256) ≠ roleStandby ∧ (chans .active).chHeld 0 = false ∧ (chans .active).pathView 0 ≠ pathFrozen ∧ chMoving ((chans .active).chWant 0) ((chans .active).pathView 0) = false ∧ (chans .active).chAgrees 0 ((chans .active).pathView 0) = true) ∧
    (mismatched.opOf .plate 0 (plB 0) = opRunning ∧ mismatched.role (0 / 256) ≠ roleStandby ∧ mismatched.chHeld 0 = false ∧ mismatched.pathView 0 ≠ pathFrozen ∧ chMoving (mismatched.chWant 0) (mismatched.pathView 0) = false ∧ mismatched.chAgrees 0 (mismatched.pathView 0) = false ∧ mismatched.rd (chB 0) Reg.chTraceCount = 2) ∧
    (run.writesThrough 0 (chB 0 + 0x18) = true ∧ run.chHeld 0 = false ∧ (run.wr (chB 0) Reg.chTraceHeld 1).writesThrough 0 (chB 0 + 0x18) = true) ∧
    ((opened.chan 0).req = none ∧ opened.chFrozen 0 = false ∧ opened.plateQuiet 0 = false ∧ opened.path 0 = pathIdle ∧ opened.chWant 0 ≠ wantClosed ∧ opened.chGen 0 ≠ opened.chLastGen 0 ∧ run.writesThrough 0 (chB 0 + 0x4) = true) ∧
    (req0.isOpen = true ∧ State.plateQuiet { run with chans := [(0, { req := some req0 })], plates := [(0, { stage := .pllStart, fromQuiet := true })] } 0 = false ∧ (State.plate { run with chans := [(0, { req := some req0 })], plates := [(0, { stage := .pllStart, fromQuiet := true })] } 0).fromQuiet = true) ∧
    ((run.chan 2047).req = none ∧ ChRequest.served { req0 with asked := true } = true) ∧
    (frozenCh.pathView 0 = pathFrozen ∧ State.opOf frozenCh .plate (0 / 256) (plB (0 / 256)) = opRunning ∧ frozenCh.role (0 / 256) ≠ roleStandby ∧ frozenCh.chHeld 0 = false) ∧
    (chMoving ((moving none).chWant 0) ((moving none).pathView 0) = true ∧ (moving none).pathView 0 ≠ pathFrozen ∧ ((moving (some 0)).chan 0).agreeSince = some 0 ∧ secNs < (moving (some 0)).now - 0 ∧ ((moving (some (up.now - secNs))).chan 0).agreeSince = some (up.now - secNs) ∧ (moving none).now - (up.now - secNs) ≤ secNs ∧ (moving none).rd (chB 0) Reg.chTraceCount < 2) ∧
    (State.opOf ((run.wr (plB 0) Title.stateOp opStarting).wr (plB 0) Title.held 1) .plate 0 (plB 0) = opHeld ∧ State.rd ((run.wr (chB 0) Reg.chTraceHeld 1).wr (chB 0) Reg.chTraceSeenState pathFault) (chB 0) Reg.chTraceSeenState = pathFault ∧ (up.wr ekB Reg.ekPlateRole roleStandby 7).role 7 = roleStandby) := by
  refine ⟨inv_of_looksInv (by decide +kernel), inv_of_looksInv (by decide +kernel), run_inv,
    inv_of_looksInv (by decide +kernel), inv_of_looksInv (by decide +kernel), inv_of_looksInv (by decide +kernel),
    ?_⟩
  iterate 11 refine ⟨by decide +kernel, ?_⟩
  decide +kernel

theorem witness_EchoCancellerCommandsAndTimers :
    ((chans .active).writesThrough 0 (chB 0 + 0x110) = true ∧ (chans .active).pathView 0 = pathActive ∧ run.writesThrough 0 (chB 0 + 0x110) = true ∧ run.pathView 0 ≠ pathActive ∧ run.pathView 0 ≠ pathMuted) ∧
    (((chans .active).wr (chB 0) Reg.ecStatusPhase phaseFast).ecPhase 0 = phaseFast ∧ (((chans .active).wr (chB 0) Reg.ecStatusPhase phaseFast).echo 0).fastAt + 2 * secNs ≤ up.now ∧ run.ecPhase 0 ≠ phaseFast ∧ (run.echo 0).dtTill ≤ up.now ∧ up.now < (State.echo (run.setEcho 0 { dtTill := up.now + 1 }) 0).dtTill) ∧
    ((disabled.echo 0).cfg.releaseMs ≤ (disabled.echo 0).quietMs ∧ disabled.ecPhase 0 ≠ phaseOff ∧ disabled.isSet (chB 0) Reg.ecStatusBypass = true ∧ run.ecPhase 0 = phaseOff) ∧
    (Sparse.find? up.fastRetry 7 = none ∧ Sparse.find? (State.fastRetry { run with fastRetry := [(0, up.now)] }) 0 = some up.now ∧ (State.openChans { run with fastRetry := [(0, up.now)] } 0).filter (fun g => (run.echo g).waiting && run.ecPhase g == phaseNormal) = [] ∧ ((chans .active).openChans 0) = [0]) ∧
    (State.echoSuspended ((chans .active).wr (chB 0) Reg.ecStatusPhase phaseFast) 0 = false ∧ (State.openChans ({ (chans .active) with fastRetry := [(0, up.now)] }) 0).filter (fun g => (State.echo ((chans .active).setEcho 0 { waiting := true }) g).waiting) ≠ [] ∧ Sparse.find? (State.fastRetry { run with fastRetry := [(0, up.now + 1)] }) 0 = some (up.now + 1) ∧ (disabled.echo 0).quietMs = 1000 ∧ ((chans .active).echo 0).quietMs < ((chans .active).echo 0).cfg.releaseMs) ∧
    (State.echoSuspended (((chans .active).wr (chB 0) Reg.ecStatusPhase phaseFast).wr (chB 0) Reg.chPathState pathMuted) 0 = true ∧ (chans .active).isSet (chB 0) Reg.ecStatusBypass = false ∧ (chans .active).isSet (chB 0) Reg.ecStatusNlpOffTd = false ∧ State.isSet ((chans .active).wr (chB 0) Reg.ecStatusNlpOffTd 1) (chB 0) Reg.ecStatusNlpOffTd = true) := by
  iterate 5 refine ⟨by decide +kernel, ?_⟩
  decide +kernel

theorem witness_MediaEventsTonesReportsAndBuffers :
    ((sends { durMs := some 40 })).Inv ∧
    ((chans .active).writesThrough 0 (chB 0 + 0xB0) = true ∧ (chans .active).pathView 0 = pathActive ∧ bitAt (0x80000000#32).toNat 31 = true ∧ bitAt (0x7FFFFFFF#32).toNat 31 = false ∧ run.pathView 0 ≠ pathActive) ∧
    (((sends { lastSent := 0 }).media 0).evOut = some { lastSent := 0 } ∧ EvOut.ends { lastSent := 0 } = 0 ∧ EvOut.lastSent { lastSent := 0 } + 50 * msNs ≤ up.now ∧ (sends {}).eventOver { lastSent := 0 } = false ∧ up.now < EvOut.lastSent { lastSent := up.now } + 50 * msNs ∧ ((sends {}).media 0).evPast = [] ∧ (sends {}).eventOver { durMs := some 40 } = true) ∧
    (((reporting up.now).media 0).rtcpAt = some up.now ∧ (reporting up.now).sendsRtcp 0 = true ∧ up.now < up.now + 1 ∧ ((reporting (up.now + 1)).media 0).rtcpAt = some (up.now + 1)) ∧
    (((hears { playing := true }).media 0).evIn = some { playing := true } ∧ EvIn.playing { playing := true } = true ∧ max (EvIn.lastAt { playing := true }) (0 + 0 * msNs) + 150 * msNs ≤ up.now ∧ up.now < max (EvIn.lastAt { lastAt := up.now }) (0 + 0 * msNs) + 150 * msNs) ∧
    ((chans .active).writesThrough 0 (chB 0 + 0xFC) = true ∧ (chans .active).path 0 ≠ pathIdle ∧ (chans .active).path 0 ≠ pathRefused ∧ (chans .active).path 0 ≠ pathAdmitting ∧ run.path 0 = pathIdle) ∧
    ((chans .active).chOpen 0 = true ∧ ((chans .active).jitter 0).secondDone < (chans .active).tkNs (0 / 256) / secNs ∧ run.chOpen 0 = false) ∧
    ((chans .active).writesThrough 0 (chB 0 + 0x150) = true ∧ (chans .active).pathView 0 = pathActive ∧ run.pathView 0 ≠ pathActive ∧ run.pathView 0 ≠ pathMuted ∧ run.pathView 0 ≠ pathHeld) ∧
    ((chans .active).pathView 0 ≠ pathFrozen ∧ (chans .active).path 0 ≠ pathFault ∧ (chans .active).role (0 / 256) ≠ roleStandby ∧ State.role ((chans .active).wr ekB Reg.ekPlateRole roleStandby 0) (0 / 256) = roleStandby ∧ State.chOpen ((chans .active).wr ekB Reg.ekPlateRole roleStandby 0) 0 = true ∧ frozenCh.pathView 0 = pathFrozen ∧ State.path ((chans .active).wr (chB 0) Reg.chPathState pathFault) 0 = pathFault ∧ (chans .idle).path 0 = pathIdle) ∧
    (EvOut.ends { ends := 1 } ≠ 0 ∧ ((sends { durMs := some 40 }).media 0).evPast = []) := by
  refine ⟨inv_of_looksInv (by decide +kernel), ?_⟩
  iterate 8 refine ⟨by decide +kernel, ?_⟩
  decide +kernel

theorem witness_TimeSourcesAreAcceptedLostAndReplaced :
    (99 < 100 ∧ 100 ≤ 100 ∧ 500 * msNs ≤ 500 * msNs ∧ 500 * msNs < 500 * msNs + 1 ∧ (timed { ppsAt := some (up.now - 999 * msNs) }).tb.ppsAt = some (up.now - 999 * msNs) ∧ up.now - 999 * msNs + 999 * msNs ≤ up.now ∧ up.now < up.now - 998 * msNs + 999 * msNs) ∧
    (up.tb.ppsAt = none ∧ (timed { ppsAt := some 0 }).tb.ppsLate = false ∧ 0 + 1001 * msNs ≤ up.now ∧ up.now < up.now + 1001 * msNs ∧ (timed { ppsAt := some 0, ppsLate := true }).tb.ppsLate = true ∧ 0 + 1200 * msNs < up.now ∧ up.isSet tbB Reg.tbPpsStatStuck = false ∧ (up.wr tbB Reg.tbPpsStatStuck 1).isSet tbB Reg.tbPpsStatStuck = true) ∧
    ((hold tbB up).lockedWrite 0 tbB (tbB + 0x94) = true ∧ up.writesThrough 0 (tbB + 0x68) = true) ∧
    (gated.tb.state = tbLocked ∧ gated.tbSelected = 1 ∧ gated.rd tbB Reg.tbPtpCfgPtpGateUs ≠ 0 ∧ gated.rd tbB Reg.tbPtpCfgPtpGateUs * 1000 < (gated.rdS tbB Reg.tbPtpOfsOfsNs).natAbs ∧ up.tb.state ≠ tbLocked) ∧
    ((qual 1 []).tbQualified 1 = true ∧ (qual 1 []).tb.ptp = [] ∧ (qual 1 [0]).tb.ptp = [0] ∧ 0 + up.rd tbB Reg.tbPtpCfgPtpTimeoutMs * msNs ≤ up.now ∧ up.now < up.now + up.rd tbB Reg.tbPtpCfgPtpTimeoutMs * msNs ∧ up.tbQualified 1 = false ∧ up.tbSelected = noSource ∨ up.isSet tbB Reg.tbCtrlRevert = false) ∧
    (up.freqUsable 3 = false ∧ refUse.freqUsable 3 = true ∧ Sparse.find? refUse.tb.inRange 3 = none) ∧
    ((Sparse.find? (State.tb { refUse with tb := { inRange := [(3, 0)] } }).inRange 3) = some 0 ∧ State.freqUsable { refUse with tb := { inRange := [(3, 0)] } } 3 = true ∧ 0 + 10 * secNs ≤ up.now ∧ up.now < up.now + 10 * secNs) ∧
    (false = up.isSet tbB Reg.tbPpsCfgPpsEdge ∧ true ≠ up.isSet tbB Reg.tbPpsCfgPpsEdge ∧ true = State.isSet (up.wr tbB Reg.tbPpsCfgPpsEdge 1) tbB Reg.tbPpsCfgPpsEdge ∧ up.tb.ppsAt = none) ∧
    (placedAt 999999999 [] 5 0 = none ∧ placedAt 500000000 [] up.now 0 = some (up.now - 500000000) ∧ up.now ≤ up.now - 500000000 + secNs ∧ placedAt 999999990 [(up.now - 10, 0)] up.now 5 = some (up.now - 1000000010) ∧ up.now - 1000000010 + secNs < up.now) ∧
    ((wtrOn 0 0).wtrReady 4 0 = true ∧ (wtrOn 0 0).tbSelected = 4 ∧ (wtrOn 0 0).isSet tbB Reg.tbCtrlRevert = true ∧ (wtrOn 0 0).tbRuns = true ∧ (wtrOn 0 0).wtrReady 4 1 = false ∧ (wtrOn 0 0).wtrReady 4 2 = false ∧ (wtrOn 0 0).wtrReady 4 3 = false ∧ (wtrOn 0 0).wtrReady 4 4 = false) := by
  iterate 9 refine ⟨by decide +kernel, ?_⟩
  decide +kernel

theorem witness_TimebaseSteersIsSetHoldsAndLearns :
    ((hold tbB up)).Inv ∧
    ((hold tbB up).lockedWrite 0 tbB (tbB + 0x20) = true ∧ intentOp (0#32).toNat = opOff ∧ intentOp (4#32).toNat = opQuiet) ∧
    (intentOp (2#32).toNat = opRunning ∧ (hold tbB up).rd crB Reg.crRefStatusTbSrc = 1) ∧
    (up.writesThrough 0 (tbB + 0x8C) = true ∧ up.mayWriteL tbB (masterOfFn 0) = false ∧ (hold tbB up).writesThrough 0 (tbB + 0x8C) = true ∧ (hold tbB up).mayWriteL tbB (masterOfFn 0) = true ∧ bitAt (7#32).toNat 0 = true ∧ bitAt (6#32).toNat 0 = false ∧ phaseSource (hold tbB up).tbSelected = false) ∧
    (up.tbRuns = false ∧ (timed {}).tbRuns = true ∧ (timed {}).tb.slew.run = false ∧ (timed {}).tb.slew.freq = 0 ∧ (timed { slew := { run := true } }).tb.slew.run = true ∧ (timed { slew := { run := true } }).tb.slew.left = 0 ∧ (timed { slew := { run := true, left := 1 } }).tb.slew.left ≠ 0 ∧ (timed {}).tb.state ≠ tbHoldover ∧ (timed { state := tbHoldover }).tb.state = tbHoldover) ∧
    ((external { state := tbLocked }).tbRuns = true ∧ (external { state := tbLocked }).tbMode = 2 ∧ (external { state := tbLocked }).tb.state = tbLocked ∧ (external { state := tbLocked }).tb.extAt + (external { state := tbLocked }).rd tbB Reg.tbExtCtrlExtTimeoutMs * msNs ≤ up.now ∧ up.now < (external { extAt := up.now }).tb.extAt + up.rd tbB Reg.tbExtCtrlExtTimeoutMs * msNs) ∧
    (learning.learns = true ∧ up.learns = false) ∧
    (pulsing.ppsOutOn = true ∧ pulsing.chip.power = .up ∧ pulsing.siteSubNs < 1000 ∧ up.ppsOutOn = false ∧ 1000 ≤ State.siteSubNs { up with now := up.now + 1000 }) ∧
    (up.writesThrough 0 (tbB + 0x74) = true ∧ State.tbRuns (up.wr tbB Reg.tbExtFreqFreq 5) = false ∧ State.tbRuns ((external {}).wr tbB Reg.tbExtFreqFreq 5) = true ∧ State.tbMode ((external {}).wr tbB Reg.tbExtFreqFreq 5) = 2) ∧
    (up.writesThrough 0 (tbB + 0x78) = true ∧ State.tbRuns (up.storeWord 0 tbB Reg.tbRows 0x78 1) = false ∧ State.tbRuns ((external {}).storeWord 0 tbB Reg.tbRows 0x78 1) = true ∧ State.tbMode ((external {}).storeWord 0 tbB Reg.tbRows 0x78 1) = 2 ∧ State.rd ((external {}).storeWord 0 tbB Reg.tbRows 0x78 1) tbB Reg.tbExtCtrlExtState ≠ tbHoldover ∧ State.rd ((external {}).storeWord 0 tbB Reg.tbRows 0x78 2) tbB Reg.tbExtCtrlExtState = tbLocked ∧ (external {}).tb.state ≠ tbLocked ∧ (external {}).tb.state ≠ tbRelock) ∧
    (up.writesThrough 0 (hmB + 0x78) = true ∧ up.mayWriteL hmB (masterOfFn 0) = false ∧ (hold hmB up).writesThrough 0 (hmB + 0x78) = true ∧ (hold hmB up).mayWriteL hmB (masterOfFn 0) = true ∧ (hold hmB up).rd hmB Reg.hmImageWord 0 ≠ 0x484D0001) ∧
    (State.reset.chip.power ≠ .up ∧ up.chip.power = .up ∧ (timed {}).chip.power = .up) ∧
    (State.rd ((external {}).storeWord 0 tbB Reg.tbRows 0x78 3) tbB Reg.tbExtCtrlExtState = tbHoldover ∧ State.tbRuns ((external {}).storeWord 0 tbB Reg.tbRows 0x78 3) = true) ∧
    ((timed { slew := { run := true, freq := 1 } }).tb.slew.freq ≠ 0 ∧ (timed { slew := { run := true } }).tb.slew.freq = 0 ∧ State.siteSubNs { pulsing with now := up.now + 2 } ≤ 2 ∧ 2 < State.siteSubNs { pulsing with now := up.now + 3 } ∧ State.siteSubNs { pulsing with now := up.now + 3 } + 2 < secNs ∧ secNs ≤ State.siteSubNs { pulsing with now := up.now + secNs - 2 } + 2 ∧ (timed { ppsTill := up.now + 1 }).ppsOut = true ∧ (timed { ppsTill := up.now }).ppsOut = false) ∧
    ((hold tbB up).tb.state = tbFree ∧ State.mayWriteL (hold tbB (timed { state := tbLocked })) tbB (masterOfFn 0) = true ∧ phaseSource (State.tbSelected ((timed { state := tbLocked }).wr tbB Reg.tbRefStatSelected 0)) = true) := by
  refine ⟨inv_of_looksInv (by decide +kernel), ?_⟩
  iterate 13 refine ⟨by decide +kernel, ?_⟩
  decide +kernel

theorem witness_PlateTimekeepersFollowLoseAndRejoin :
    run.Inv ∧ ((up.wr crB Reg.crRefStatusTbPllLock 0).isSet crB Reg.crRefStatusTbPllLock = false) ∧
    (run.isSet crB Reg.crRefStatusTbPllLock = true ∧ run.tb.step = none ∧ run.tkRuns 7 = false ∧ run.tkRuns 0 = true ∧ bitAt (1#8).toNat 0 = true ∧ bitAt (0#8).toNat 0 = false ∧ ((onOwn {}).tk 0).own = true) ∧
    ((keeping { badRun := 15 }).tkRuns 0 = true ∧ ((keeping { badRun := 15 }).tk 0).own = false ∧ (keeping { badRun := 15 }).rd (ptB 0) Reg.ptCtrlBcMiss ≤ ((keeping { badRun := 15 }).tk 0).badRun ∧ (run.tk 0).badRun < run.rd (ptB 0) Reg.ptCtrlBcMiss) ∧
    ((onOwn { goodRun := 1000 }).tkRuns 0 = true ∧ ((onOwn { goodRun := 1000 }).tk 0).own = true ∧ ((onOwn { goodRun := 1000 }).tk 0).rejoin = false ∧ 1000 ≤ ((onOwn { goodRun := 1000 }).tk 0).goodRun ∧ (onOwn {}).rd (ptB 0) Title.hostMode ≠ 2 ∧ (((onOwn {}).tk 0).offset + 0).natAbs ≤ 8 * (onOwn {}).rd tbB Reg.tbStepStepLimit) ∧
    (State.activeIn ((((chans .active).setTk 0 { own := true, goodRun := 1000, offset := 2 ^ 50 }).wrS (ptB 0) Reg.ptOffsetOffset (2 ^ 50)).raise (ptB 0) evBcBack) 0 (0 + 1) = true ∧ 8 * up.rd tbB Reg.tbStepStepLimit < (2 ^ 50 + 0 : Int).natAbs) ∧
    (((onOwn { goodRun := 1000 }).wr (ptB 0) Title.hostMode 2).rd (ptB 0) Title.hostMode = 2) ∧
    (((onOwn { rejoin := true }).tk 0).rejoin = true ∧ ((onOwn { rejoin := true }).tkOffset 0).natAbs ≤ 64 ∧ (onOwn { rejoin := true }).tkRuns 0 = true ∧ (run.tk 0).rejoin = false) ∧
    ((hold (ptB 0) run).lockedWrite 0 (ptB 0) (ptB 0 + 0x20) = true ∧ bitsOf (0x202#32).toNat 8 8 = 2 ∧ intentOp (0x202#32).toNat = opRunning ∧ bitsOf (0x102#32).toNat 8 8 ≠ 2 ∧ State.tkRuns ((hold (ptB 0) run).storeIntent (ptB 0) opRunning 2) 0 = true ∧ (State.tk ((hold (ptB 0) run).storeIntent (ptB 0) opRunning 2) 0).own = false) ∧
    (up.readsThrough 0 (tbB + 0xA0) = true ∧ up.readsThrough 0 (ptB 7 + 0x50) = true) ∧
    (((keeping { offset := 801 }).tk 0).own = false ∧ 800 < ((keeping { offset := 801 }).tk 0).offset.natAbs ∧ ((keeping { offset := 800 }).tk 0).offset.natAbs ≤ 800 ∧ (keeping { offset := 801 }).tkRuns 0 = true) ∧
    ((State.tk ((hold (ptB 0) (onOwn { rejoin := true })).storeIntent (ptB 0) opRunning 2) 0).own = true ∧ (State.tk ((hold (ptB 0) (onOwn { rejoin := true })).storeIntent (ptB 0) opRunning 2) 0).rejoin = true ∧ (hold (ptB 0) (onOwn { rejoin := true })).lockedWrite 0 (ptB 0) (ptB 0 + 0x20) = true) ∧
    (((up.tk 0).own = false ∧ up.tkRuns 0 = false)) ∧
    (((onOwn { adopting := true }).tk 0).adopting = true ∧ ((onOwn { goodRun := 999 }).tk 0).goodRun < 1000 ∧ ((onOwn { goodRun := 1000 }).tk 0).adopting = false ∧ (onOwn { goodRun := 1000 }).tkHostOwn 0 = false ∧ (onOwn { goodRun := 1000 }).tkOffset 0 = 0) ∧
    (State.tkHostOwn (((onOwn { goodRun := 1000 }).wr (ptB 0) Title.hostMode 2).wr (ptB 0) Title.hostOp opRunning) 0 = true) ∧
    ((State.tkOffset ((chans .active).setTk 0 { own := true, goodRun := 1000, offset := 2 ^ 50 }) 0).natAbs > 8 * (chans .active).rd tbB Reg.tbStepStepLimit ∧ State.activeIn (((chans .active).wrS (ptB 0) Reg.ptOffsetOffset 5).raise (ptB 0) evBcBack) 0 (0 + 1) = true) ∧
    (((onOwn { rejoin := true, offset := 64, rejoinFrom := up.now }).tkOffset 0).natAbs ≤ 64 ∧ 64 < ((onOwn { rejoin := true, offset := 65, rejoinFrom := up.now }).tkOffset 0).natAbs ∧ bitsOf (0x200#32).toNat 8 8 = 2 ∧ intentOp (0x200#32).toNat ≠ opRunning ∧ State.tkRuns ((hold (ptB 7) up).storeIntent (ptB 7) opRunning 2) 7 = false ∧ (State.tk ((hold (ptB 0) (onOwn {})).storeIntent (ptB 0) opRunning 2) 0).rejoin = false) := by
  refine ⟨run_inv, ?_⟩
  iterate 15 refine ⟨by decide +kernel, ?_⟩
  decide +kernel

theorem witness_FrontEndStartsReadsAndFails :
    ((fe opStarting 0)).Inv ∧ ((fe opRunning 0)).Inv ∧ ((hold feB up)).Inv ∧
    ((hold feB up).lockedWrite 0 feB (feB + 0x20) = true ∧ intentOp (0#32).toNat = opOff ∧ intentOp (4#32).toNat ≠ opOff ∧ State.feOp ((hold feB up).storeIntent feB opRunning 0) = opOff ∧ State.feOp (((hold feB up).wr feB Title.stateOp opRunning).storeIntent feB opRunning 0) ≠ opOff) ∧
    (up.feOp ≠ opRunning ∧ up.feOp ≠ opStarting ∧ (fe opStarting 1).feOp = opStarting ∧ State.now { fe opStarting 1 with feAt := up.now } < State.feAt { fe opStarting 1 with feAt := up.now } + 110 * msNs) ∧
    ((fe opStarting 0).feAt + 110 * msNs ≤ (fe opStarting 0).now ∧ (fe opStarting 0).feOp = opStarting ∧ (fe opStarting 0).rd feB Reg.feCtrlThEn = 0) ∧
    ((fe opRunning 0).feOp = opRunning ∧ (fe opRunning 0).rd feB Reg.feCtrlThEn = 0) ∧
    ((up.therm 0).valid = false ∧ ((measured 10).therm 0).valid = true ∧ 10 ≤ ((measured 10).therm 0).acc.length ∧ (measured 10).feOp = opRunning ∧ ((measured 10).therm 0).means.length < 599 ∧ ((measured 9).therm 0).acc.length < 10) ∧
    (up.writesThrough 0 (feB + 0x44) = true ∧ up.mayWriteL feB (masterOfFn 0) = false) ∧
    ((hold feB up).writesThrough 0 (feB + 0x44) = true ∧ (hold feB up).mayWriteL feB (masterOfFn 0) = true ∧ bitAt (3#32).toNat 1 = true) ∧
    ((fe opRunning 1).feOp = opRunning ∧ (fe opRunning 1).rd feB Reg.feCtrlThEn ≠ 0 ∧ (fe opRunning 0).rd feB Reg.feCtrlThEn = 0 ∧ ((fe opFault 1).wr feB Title.hostOp opRunning).feOp = opFault ∧ ((fe opFault 1).wr feB Title.hostOp opRunning).feAt + secNs ≤ up.now ∧ ((fe opFault 1).wr feB Title.hostOp opRunning).rd feB Title.hostOp = opRunning ∧ up.feOp ≠ opFault) ∧
    (899 < 900 ∧ up.isSet feB Reg.feEfcRefLow = false ∧ 900 ≤ 900 ∧ (up.wr feB Reg.feEfcRefLow 1).isSet feB Reg.feEfcRefLow = true) ∧
    ((hold feB up).lockedWrite 0 feB (feB + 0x78) = true ∧ bitAt (0x80000000#32).toNat 31 = true ∧ (hold feB up).opOf .tb 0 tbB = opOff ∧ bitAt (0#32).toNat 31 = false) ∧
    (((measured 10).therm 0).means.length + 1 < 600 ∧ 600 ≤ (((0 : Int)) :: (State.therm { fe opRunning 1 with therms := [(0, { valid := true, acc := List.replicate 10 5, means := List.replicate 599 0 })] } 0).means).length) := by
  refine ⟨inv_of_looksInv (by decide +kernel), inv_of_looksInv (by decide +kernel), inv_of_looksInv (by decide +kernel),
    ?_⟩
  iterate 10 refine ⟨by decide +kernel, ?_⟩
  decide +kernel

theorem witness_IslandMeasuresPublishesAndResets :
    (up.islandMeasures = false ∧ isl.islandMeasures = true ∧ (isl.feed 7).params.mode = 0 ∧ (isl.feed 0).params.mode ≠ 0 ∧ (isl.feed 0).runFrom ≤ isl.now ∧ ([5] : List Int).length = (isl.feed 0).params.words ∧ readingIn (reading24 (2 ^ 23)) = false) ∧
    (0 < (1 : Int) ∧ (-1 : Int) < 0) ∧
    (isl.islandOn = true ∧ (State.feed (isl.setFeed 7 { params := { mode := 2 } }) 7).params.mode = 2 ∧ (isl.feed 0).params.mode ≠ 2 ∧ up.islandOn = false) ∧
    (up.fusesBlown.islOff = false ∧ up.chip.sheetsReady = true ∧ up.rd mbB Title.stateOp ≠ opFault ∧ up.mailbox.at_ + 10 * msNs ≤ up.now ∧ (up.wr mbB Title.stateOp opFault).rd mbB Title.stateOp = opFault ∧ State.now { up with mailbox := { at_ := up.now } } < (State.mailbox { up with mailbox := { at_ := up.now } }).at_ + 10 * msNs) ∧
    (up.readsThrough 0 (mbB + 0x40) = true ∧ up.mailbox.latest = none ∧ (State.mailbox { up with mailbox := { latest := some { seq := 1, feeds := [], island := [] } } }).latest = some { seq := 1, feeds := [], island := [] }) ∧
    (isl.islandOn = true ∧ isl.island.sealEn = false ∧ isl.island.sealEn ≠ true ∧ isl.island.low = false ∧ isl.island.ckptAt + 60 * secNs ≤ isl.now ∧ isl.now < (State.island { isl with island := { ckptAt := isl.now } }).ckptAt + 60 * secNs ∧ (State.island { isl with island := { inReset := false, low := true } }).low = true) ∧
    (up.fusesBlown.islOff = false ∧ up.island.inReset = true ∧ isl.island.inReset = false ∧ (State.island { isl with island := { tpAt := some 0 } }).tpAt = some 0 ∧ 0 + 4 * msNs ≤ isl.now ∧ isl.now < isl.now + 4 * msNs) := by
  iterate 6 refine ⟨by decide +kernel, ?_⟩
  decide +kernel

theorem witness_IslandAnswersItsSerialPort :
    sealed.Inv ∧
    (up.islandOn = false ∧ isl.islandOn = true ∧ (isl.paramValue (0x0001#16).toNat).isSome = true ∧ sealed.paramValue (0x0801#16).toNat = none ∧ isl.island.sealEn = false ∧ 255 ≥ (8#8).toNat ∧ (8#8).toNat = 8 ∧ (7#8).toNat < 8 ∧ isl.island.log.length ≤ (0#32).toNat) ∧
    (sealed.islandOn = true ∧ sealed.paramValue (0x0001#16).toNat = some 1 ∧ sealed.island.sealEn = true ∧ 1 ≤ (0x0001#16).toNat % 256 ∧ (0x0001#16).toNat % 256 ≤ 8 ∧ paramLegal ((0x0001#16).toNat % 256) (2#32).toNat ≠ 1 ∧ paramLegal ((0x0001#16).toNat % 256) (1#32).toNat = 1 ∧ sealed.island.logFull = false ∧ (8#8).toNat % 8 = 0) ∧
    (Island.logFull { log := List.replicate 4096 rec0 } = true) ∧
    (((State.island { isl with island := { isl.island with log := [rec0] } }).record? (0#32).toNat) = some rec0) ∧
    (Sparse.find? (State.island { isl with island := { streams := [(7, { period := 1, sentAt := 0 })] } }).streams 7 = some { period := 1, sentAt := 0 } ∧ 0 + 1 * msNs ≤ isl.now ∧ isl.now < isl.now + 1 * msNs) ∧
    (2 ≤ (2#8).toNat ∧ (1#8).toNat < 2 ∧ (2#8).toNat < 3 ∧ 3 ≤ (3#8).toNat ∧ uartGood [0xA5] = false) ∧
    (uartGood [0xA5] = false ∧ (sealed.paramValue (0x0001#16).toNat).isSome = true ∧ ¬ (255#8).toNat < 8 ∧ (7#8).toNat % 8 = 7 ∧ Sparse.find? isl.island.streams 7 = none ∧ uartGood (uartFrame 0x09 []) = true ∧ uartRequest ((uartFrame 0x09 []).getD 2 0).toNat = none ∧ uartGood (uartFrame 0x08 [0]) = true ∧ (uartRequest ((uartFrame 0x08 [0]).getD 2 0).toNat).isSome = true ∧ (uartRequest 8).isSome = true ∧ (1 : BitVec 16) ≠ 0) := by
  refine ⟨inv_of_looksInv (by decide +kernel), ?_⟩
  iterate 6 refine ⟨by decide +kernel, ?_⟩
  decide +kernel

theorem witness_WatchdogChannelsAreServedAndFail :
    up.Inv ∧
    ((hold (wdB 8) up).writesThrough 0 (wdB 8 + 0x40) = true ∧ bitAt (1#32).toNat 0 = true ∧ bitAt (0#32).toNat 0 = false ∧ State.mayWriteL ((hold (wdB 8) up).wdConfigEffect 0 8 0x40 1) (wdB 8) (masterOfFn 0) = true ∧ (State.wd ((hold (wdB 8) up).wdConfigEffect 0 8 0x40 1) 8).running = false ∧ State.wdPresent ((hold (wdB 8) up).wdConfigEffect 0 8 0x40 1) 8 = true) ∧
    ((8 : Fin 9).val ≠ 0 ∧ ((up.setWd 8 { running := true, since := up.aonTick }).wd 8).running = true ∧ ((up.setWd 8 { running := true, since := up.aonTick }).wd 8).heldAt = none ∧ (up.setWd 8 { running := true, since := up.aonTick }).wdOpen 8 = false ∧ (dog 0 {}).writesThrough 0 (wdB 0 + 0x40) = true) ∧
    ((dog 0 {}).writesThrough 0 (wdB 0 + 0x48) = true ∧ ((dog 0 {}).wd 0).key = none ∧ ((dog 0 { key := some 5 }).wd 0).key.isSome = true) ∧
    ((dog 0 {}).writesThrough 0 (wdB 0 + 0x50) = true ∧ (dog 0 {}).wdDue 0 = false ∧ (up.wd 8).running = false ∧ ((dog 0 {}).wd 0).kernel = false ∧ (dog 0 {}).wdOpen 0 = false ∧ (dog 15000 {}).wdOpen 0 = true ∧ (dog 15000 {}).wdDue 0 = false ∧ (0x2B1D#32).toNat % 65536 = (dog 15000 {}).wdToken 0 ∧ (0x2B1E#32).toNat % 65536 ≠ (dog 15000 {}).wdToken 0) ∧
    ((dog 20000 {}).wdDue 0 = true ∧ (dog 15000 {}).wdOpen 0 = true ∧ ((dog 15000 {}).wd 0).announced = false ∧ (dog 0 {}).wdOpen 0 = false) ∧
    (8 ≠ 0 ∧ (sleepingDog.wd 8).running = true ∧ (sleepingDog.wd 8).heldAt = none ∧ (sleepingDog.wd 8).kernel = true ∧ (sleepingDog.wd 8).wakeReq = false ∧ sleepingDog.plateQuiet (8 - 1) = true ∧ (sleepingDog.wd 8).latchAt ≤ sleepingDog.wdElapsed 8 ∧ ((dog 0 {}).wd 0).kernel = false) ∧
    (8 < 9 ∧ 3 < 4) ∧
    ((hold (wdB 8) (inOpen sleepingDog)).lockedWrite 0 (wdB 8) (wdB 8 + 0x5C) = true ∧ (hold (wdB 8) (inOpen sleepingDog)).debugState = true ∧ (hold (wdB 8) (inOpen sleepingDog)).wdPresent 8 = true ∧ ((hold (wdB 8) (inOpen sleepingDog)).wd 8).running = true ∧ ((hold (wdB 8) (inOpen sleepingDog)).wd 8).heldAt = none) ∧
    ((hold (wdB 0) (dog 0 {})).lockedWrite 0 (wdB 0) (wdB 0 + 0x5C) = true ∧ up.debugState = false ∧ ((hold (wdB 0) (dog 0 {})).wd 0).heldAt = none ∧ ((dog 0 { heldAt := some 5 }).wd 0).heldAt.isSome = true) ∧
    (up.writesThrough 0 (wdB 8 + 0x80) = true) ∧
    (up.isSet crB Reg.crRefStatusTbPllLock = true ∧ (up.wr crB Reg.crRefStatusTbPllLock 0).isSet crB Reg.crRefStatusTbPllLock = false) ∧
    (up.wdDue 8 = false ∧ (State.wd ((hold (wdB 8) up).wdConfigEffect 0 8 0x40 0) 8).running = false ∧ (8 : Nat) ≠ 0 ∧ (up.wd 8).running = false ∧ State.wdDue (dog 20000 {}) 0 = true ∧ (State.wd ((dog 20000 {}).wdFail 0 3) 0).heldAt = none ∧ State.wdElapsed sleepingDog 8 ≥ (sleepingDog.wd 8).latchAt) := by
  refine ⟨up_inv, ?_⟩
  iterate 11 refine ⟨by decide +kernel, ?_⟩
  decide +kernel

theorem witness_QuietRequestsVotesAndWakes :
    ((hold qmB up).lockedWrite 0 qmB (qmB + 0x20) = true ∧ up.writesThrough 0 (qmB + 0x5C) = true ∧ up.linkUp = true ∧ (up.wr hpB Reg.hpLinkInL1 1).isSet hpB Reg.hpLinkInL1 = true ∧ (up.wr hpB Reg.hpLinkInL1 1).linkUp = true ∧ up.isSet hpB Reg.hpLinkInL1 = false) ∧
    (Sparse.find? up.quietReqs 7 = none ∧ Sparse.find? (quieting 0).quietReqs 0 = some 0 ∧ (quieting 0).enteringQuiet 0 = true ∧ 0 + (quieting 0).rd qmB Reg.qmLapseLapseMs * msNs ≤ (quieting 0).now ∧ (quieting up.now).now < up.now + (quieting up.now).rd qmB Reg.qmLapseLapseMs * msNs) ∧
    (up.chip.sheetsReady = true ∧ up.ballsScanned = false ∧ State.reset.chip.sheetsReady = false ∧ State.ballsScanned { up with tap := { instr := .clamp } } = true ∧ (Sparse.get {} (State.siteIns { up with siteIns := [(7, { stuck := true })] }) 7).stuck = true ∧ (Sparse.get {} (State.siteIns { up with siteIns := [(7, { level := true })] }) 7).level = true ∧ (Sparse.get {} (State.siteIns { up with siteIns := [(7, { level := true })] }) 7).stuck = false ∧ (Sparse.get {} (State.siteIns { up with siteIns := [(7, { level := true })] }) 7).activeAt + 10 * secNs ≤ up.now) ∧
    (ready.chip.sheetsReady = true ∧ ready.voteNow = voteIdle ∧ ready.coordinates = true ∧ ready.votesYes = true ∧ ready.quiet.endedAt + ready.rd qmB Reg.qmVoteCfgRetryMs * msNs ≤ ready.now ∧ up.votesYes = false) ∧
    ((voting voteProposed).quiet.vote = voteProposed ∧ (voting voteProposed).quiet.proposedAt + (voting voteProposed).rd qmB Reg.qmVoteCfgVoteMs * msNs ≤ (voting voteProposed).now ∧ up.quiet.vote ≠ voteProposed ∧ (voting voteVoted).quiet.vote = voteVoted ∧ (voting voteVoted).quiet.tc ≤ (voting voteVoted).siteNs + msNs ∧ up.siteNs + msNs < (State.quiet { up with quiet := { tc := 2 * up.now } }).tc ∧ (voting voteArmed).quiet.vote = voteArmed ∧ (voting voteArmed).quiet.tc + 50000 ≤ (voting voteArmed).siteNs ∧ up.siteNs < (State.quiet { up with quiet := { tc := 2 * up.now } }).tc + 50000) ∧
    (up.laneIsUp 3 = false ∧ (linked voteIdle).laneIsUp 3 = true ∧ 4 ≠ State.myNode (((linked voteIdle).heardOn 3 4).relay hdr (.propose 1 0)) ∧ hdr.dest = everyNode ∧ State.voteNow (((linked voteVoted).heardOn 3 4).relay hdr (.propose 1 0)) ≠ voteIdle ∧ State.voteNow (((linked voteIdle).heardOn 3 4).relay hdr (.propose 1 0)) = voteIdle ∧ State.votesYes (((linked voteIdle).heardOn 3 4).relay hdr (.propose 1 0)) = true ∧ State.votesYes (((linked voteIdle).wr qmB Title.hostOp opOff |>.heardOn 3 4).relay hdr (.propose 1 0)) = false) ∧
    ((State.quiet (((linked voteProposed).heardOn 3 4).relay hdr (.vote 1 true))).vote = voteProposed ∧ State.sameRound (((linked voteProposed).heardOn 3 4).relay hdr (.vote 1 true)) 1 = true ∧ State.sameRound (((linked voteProposed).heardOn 3 4).relay hdr (.vote 2 true)) 2 = false) ∧
    ((State.quiet (((linked voteVoted).heardOn 3 4).relay hdr (.commit 1))).vote = voteVoted ∧ State.sameRound (((linked voteVoted).heardOn 3 4).relay hdr (.commit 1)) 1 = true ∧ State.abortable (((linked voteVoted).heardOn 3 4).relay hdr (.abort 1 0)) 0 = true ∧ State.abortable (((linked voteIdle).heardOn 3 4).relay hdr (.abort 1 0)) 0 = false ∧ (State.quiet (((linked voteVoted).heardOn 3 4).relay hdr (.wake 1 0))).vote ≠ voteArmed) ∧
    (up.linkUp = true ∧ State.enteringQuiet run 0 = false ∧ (Sparse.get {} up.siteIns 7).level = false ∧ State.coordinates (leasing.heardOn 3 1) = false ∧ (voting voteProposed).quiet.tc ≤ (voting voteProposed).siteNs + 2 * msNs ∧ up.siteNs + 2 * msNs < (State.quiet { up with quiet := { tc := 2 * up.now } }).tc) ∧
    (hdr.origin.val = State.myNode (((linked voteIdle).wr crB Reg.crStrapsSid 2 |>.heardOn 3 4).relay hdr (.propose 1 0)) ∨ { hdr with dest := 5 }.dest ≠ everyNode ∧ State.abortable (((linked voteVoted).heardOn 3 4).relay hdr (.abort 1 0)) 0 = true ∧ State.coordinatedAsleep up 255 = 0) := by
  iterate 9 refine ⟨by decide +kernel, ?_⟩
  decide +kernel

theorem witness_LanesComeUpAndTheStackSharesTimeAndLoad :
    ((linked voteIdle)).Inv ∧
    ((hold ekB up).lockedWrite 0 ekB (ekB + 0x20) = true ∧ intentOp (2#32).toNat ≠ opOff ∧ intentOp (0#32).toNat = opOff) ∧
    ((lane laneTrain).laneState 3 = laneTrain ∧ (lane laneLock).laneState 3 ≠ laneTrain ∧ (lane laneLock).laneState 3 = laneLock ∧ (lane laneHello).laneState 3 = laneHello ∧ (lane laneUp).laneState 3 ≠ laneLock ∧ (lane laneUp).laneState 3 ≠ laneHello ∧ ((lane laneTrain).ekLane 3).since + 100 * msNs ≤ (lane laneTrain).now ∧ State.now ((lane laneTrain).setEkLane 3 { since := up.now }) < (State.ekLane ((lane laneTrain).setEkLane 3 { since := up.now }) 3).since + 100 * msNs) ∧
    ((lane laneOff).laneState 3 = laneOff ∧ (lane laneConflict).laneState 3 = laneConflict ∧ ((lane laneConflict).ekLane 3).heard + (lane laneConflict).lossNs ≤ (lane laneConflict).now ∧ (lane laneUp).laneState 3 = laneUp ∧ (lane laneTrain).laneState 3 ≠ laneUp ∧ (lane laneTrain).laneState 3 ≠ laneConflict) ∧
    ((lane laneHello).helloRefused 3 5 0x2047 2 false 4 = true ∧ (lane laneHello).helloRefused 3 5 0x2048 2 false 4 = false ∧ (0x2047#16).toNat ≠ 0x2048 ∧ (lane laneHello).laneState 3 = laneHello) ∧
    (up.laneIsUp 3 = false ∧ (linked voteIdle).laneIsUp 3 = true ∧ 4 ≠ State.myNode (((linked voteIdle).heardOn 3 4).relay hdr (.report 5)) ∧ hdr.dest = everyNode ∧ State.master (((linked voteIdle).heardOn 3 4).relay hdr (.report 5)) = some (State.myNode (((linked voteIdle).heardOn 3 4).relay hdr (.report 5)))) ∧
    (State.master (((linked voteIdle).heardOn 3 4).relay hdr (.lease [1])) ≠ some 4 ∧ State.master (((linked voteIdle).heardOn 3 1).relay { hdr with origin := 1 } (.lease [1])) = some 0) ∧
    ((leasing.heardOn 3 1).master = some 1 ∧ 1 ≠ State.myNode ((leasing.heardOn 3 1).relay { hdr with origin := 1 } (.lease [1])) ∧ State.master ((leasing.heardOn 3 1).relay { hdr with origin := 1 } (.lease [1])) = some 1 ∧ State.master ((leasing.heardOn 3 1).relay { hdr with origin := 1 } (.report 5)) ≠ some (State.myNode ((leasing.heardOn 3 1).relay { hdr with origin := 1 } (.report 5)))) ∧
    (up.upLanes = []) ∧
    ((linked voteIdle).upLanes = [3] ∧ ((linked voteIdle).wr tbB Reg.tbRefStatQualified 16).tbQualified 4 = true ∧ (linked voteIdle).epk.markerAt + 3 * msNs ≤ (linked voteIdle).now ∧ up.tbQualified 4 = false ∧ up.rd ekB Title.hostOp ≠ opRunning ∧ (linked voteIdle).rd ekB Title.hostOp = opRunning ∧ (linked voteIdle).chip.sheetsReady = true) ∧
    (State.master ((linked voteIdle).wr ekB Reg.ekStkLeaseCharge (min 16383 (linked voteIdle).activeCharge)) = some (State.myNode ((linked voteIdle).wr ekB Reg.ekStkLeaseCharge (min 16383 (linked voteIdle).activeCharge))) ∧ State.master (leasing.wr ekB Reg.ekStkLeaseCharge (min 16383 leasing.activeCharge)) = none) ∧
    ((Sparse.find? (State.epk { up with epk := { heard := [(7, 0)] } }).heard 7).isSome = true ∧ State.nodePresent { up with epk := { heard := [(7, 0)] } } 7 = false ∧ up.nodePresent 0 = true) ∧
    ((hold ekB up).writesThrough 0 (ekB + 0xD8) = true ∧ (hold ekB up).mayWriteL ekB (masterOfFn 0) = true ∧ bitAt (1#32).toNat 0 = true ∧ up.writesThrough 0 (ekB + 0xD8) = true ∧ up.mayWriteL ekB (masterOfFn 0) = false) ∧
    (up.serdesIdle = false ∧ (lane laneUp).laneState 3 = laneUp ∧ State.now ((lane laneUp).setEkLane 3 { heard := up.now }) < (State.ekLane ((lane laneUp).setEkLane 3 { heard := up.now }) 3).heard + (lane laneUp).lossNs ∧ ((lane laneUp).ekLane 3).heard + (lane laneUp).lossNs ≤ (lane laneUp).now) ∧
    (State.master (leasing.heardOn 3 1 |>.wr ekB Reg.ekStkLeaseCharge 0) = some 1 ∧ { hdr with dest := (5 : Fin 9) }.dest ≠ everyNode ∧ { hdr with dest := (5 : Fin 9) }.dest.val ≠ 0) := by
  refine ⟨inv_of_looksInv (by decide +kernel), ?_⟩
  iterate 13 refine ⟨by decide +kernel, ?_⟩
  decide +kernel

theorem witness_PairsExchangeRolesMirrorsAndHandOver :
    paired.Inv ∧ ((disagree 2)).Inv ∧
    (up.hasPartner = false ∧ paired.hasPartner = true ∧ State.now { paired with epk := { paired.epk with partnerHeard := up.now } } < (State.epk { paired with epk := { paired.epk with partnerHeard := up.now } }).partnerHeard + paired.lossNs) ∧
    (paired.hasPartner = true ∧ paired.epk.partnerHeard + paired.lossNs ≤ paired.now) ∧
    (up.laneIsUp 3 = false ∧ 2 ≤ hdr.lane.val ∧ paired.laneIsUp 0 = true ∧ 0 < 2 ∧ pairHdr.plate = some 0 ∧ pairHdr.dest = everyNode) ∧
    (((run.modPair 0 (fun q => { q with askedAt := 1 })).pair 0).askedAt ≠ 0 ∧ ((run.modPair 0 (fun q => { q with askedAt := 1 })).pair 0).askedAt + 100 * msNs ≤ up.now ∧ (run.pair 0).askedAt = 0 ∧ (run.pair 0).takeCause = none) ∧
    (((standing.modPair 0 (fun q => { q with takeCause := some 2 })).pair 0).takeCause = some 2 ∧ standing.plateServes 0 = true ∧ standing.role 0 = roleStandby ∧ up.plateServes 0 = false) ∧
    (State.reset.chip.sheetsReady = false ∧ (up.wr ekB Reg.ekPtraceHeld 1 7).pairHeld 7 = true ∧ up.chip.sheetsReady = true ∧ up.pairHeld 7 = false) ∧
    ((disagree 2).chip.sheetsReady = true ∧ (disagree 2).pairHeld 0 = false ∧ ((disagree 2).pairAgrees 0).1 = false ∧ 3 ≤ State.rd ((disagree 2).modPair 0 (fun q => { q with agreeSince := none })) ekB Reg.ekPtraceCount 0 + 1 ∧ State.rd ((disagree 1).modPair 0 (fun q => { q with agreeSince := none })) ekB Reg.ekPtraceCount 0 + 1 < 3) ∧
    ((up.wr ekB Reg.ekPlateWant 3 0).pairAgrees 0 = (true, false)) ∧
    ((hold ekB up).writesThrough 0 (ekB + 0x80 + 8 * 7) = true ∧ (hold ekB up).mayWriteL ekB (masterOfFn 0) = true ∧ up.mayWriteL ekB (masterOfFn 0) = false ∧ up.writesThrough 0 (ekB + 0x80 + 8 * 7) = true) ∧
    (((hold ekB up).wr ekB Reg.ekPtraceHeld 1 7).writesThrough 0 (ekB + 0x84 + 8 * 7) = true ∧ ((hold ekB up).wr ekB Reg.ekPtraceHeld 1 7).pairHeld 7 = true ∧ ((hold ekB up).wr ekB Reg.ekPtraceHeld 1 7).mayWriteL ekB (masterOfFn 0) = true) ∧
    ((standing.wr ekB Reg.ekPlateWant roleActive 0).pairAgrees 0 = (true, true) ∧ up.now - secNs + secNs ≤ up.now ∧ ((run.modPair 0 (fun q => { q with agreeSince := some 0 })).pair 0).agreeSince = some 0 ∧ 0 + secNs < up.now ∧ (run.pair 0).agreeSince = none) := by
  refine ⟨inv_of_looksInv (by decide +kernel), inv_of_looksInv (by decide +kernel), ?_⟩
  iterate 10 refine ⟨by decide +kernel, ?_⟩
  decide +kernel

/-- The partner's unique ID is this device's, which leaves no doubt which of the two is node 0. -/
def pairedUp (role : Nat) : State :=
  { (((standing.wr ekB Reg.ekPlateRole role 0).wr ekB Reg.ekPlateWant 3 0).wr ekB Reg.ekLaneState laneUp 0) with
    epk := { partnerUid := some Config.uid }
    imprGrants := [(0, 1)]
    pairs := [(0, { partner := some { role := 1, prot := 0, epoch := 0, stamp := 0, wasActive := true, running := true, want := 3, enabled := true, grant := true } })] }

theorem pairNode {s : State} (h : s.epk.partnerUid = some Config.uid) : s.myNode = 2 * s.sid := by
  simp [State.myNode, h]

/-- After a frame of the partner arrived on lane 0. -/
def heardPair (s : State) : State :=
  { s.setEkLane 0 { s.ekLane 0 with heard := s.now } with
    epk := { partnerUid := some Config.uid, heard := [(1, s.now)], partnerHeard := s.now } }

theorem heardOn_pair {s : State} (hd : s.epk = { partnerUid := some Config.uid }) (hs : s.sid = 0) :
    s.heardOn 0 1 = heardPair s := by
  have h1 : s.myNode = 0 := by rw [pairNode (by rw [hd]), hs]
  have h2 : (heardPair s).myNode = 0 := by rw [pairNode rfl]; exact congrArg (2 * ·) hs
  have hm : (s.setEkLane 0 { s.ekLane 0 with heard := s.now }).myNode = 0 := h1
  have h3 : (s.setEkLane 0 { s.ekLane 0 with heard := s.now }).partnerNode = 1 := by
    have hs' : (s.setEkLane 0 { s.ekLane 0 with heard := s.now }).sid = 0 := hs
    rw [State.partnerNode, hm, hs']; rfl
  have he : (s.setEkLane 0 { s.ekLane 0 with heard := s.now }).epk = { partnerUid := some Config.uid } := hd
  have hn : (s.setEkLane 0 { s.ekLane 0 with heard := s.now }).now = s.now := rfl
  have hh : (s.setEkLane 0 { s.ekLane 0 with heard := s.now }).hasPartner = true := by rw [State.hasPartner, he]; rfl
  have l1 : s.listedMaster = some 0 := by simp [State.listedMaster, h1]
  have l2 : (heardPair s).listedMaster = some 0 := by simp [State.listedMaster, h2]
  unfold State.heardOn
  simp only [h1, Nat.one_ne_zero, if_false]
  rw [h3, hh, he, hn]
  simp only [beq_self_eq_true, Bool.and_self, if_true]
  show State.noteMaster (heardPair s) s = heardPair s
  unfold State.noteMaster
  rw [l1, l2, if_pos rfl]

theorem witness_PairsExchangeRolesMirrorsAndHandOver_frames :
    ((pairedUp 1).heardOn 0 1 = heardPair (pairedUp 1) ∧ (heardPair (pairedUp 1)).myNode = 0 ∧
      (heardPair (pairedUp 1)).partnerNode = 1) ∧
    ((pairedUp 1).laneIsUp pairHdr.lane = true ∧ pairHdr.lane.val < 2 ∧ pairHdr.plate = some 0 ∧ pairHdr.origin.val = 1 ∧
      pairHdr.dest = everyNode ∧ (heardPair (pairedUp 1)).hasPartner = true ∧ (heardPair (pairedUp 1)).agentActs = true ∧
      (heardPair (pairedUp 1)).role 0 = roleActive ∧ (heardPair (pairedUp 1)).mirrors? 0 = false ∧
      (heardPair (pairedUp 1)).prot 0 = protNone ∧ (heardPair ((pairedUp 1).wr ekB Reg.ekPlateProt 1 0)).prot 0 ≠ protNone) ∧
    ((pairedUp 2).heardOn 0 1 = heardPair (pairedUp 2) ∧ (heardPair (pairedUp 2)).myNode = 0) ∧
    ((heardPair (pairedUp 2)).mirrors? 0 = true ∧ Sparse.get 0 (heardPair (pairedUp 2)).imprGrants 0 ≠ 0 ∧
      ((heardPair (pairedUp 2)).pair 0).waiting = []) := by
  have n1 : (heardPair (pairedUp 1)).myNode = 0 := by rw [pairNode rfl]; decide +kernel
  have n2 : (heardPair (pairedUp 2)).myNode = 0 := by rw [pairNode rfl]; decide +kernel
  refine ⟨⟨heardOn_pair rfl (by decide +kernel), n1, ?_⟩, by decide +kernel, ⟨heardOn_pair rfl (by decide +kernel), n2⟩,
    by decide +kernel⟩
  rw [State.partnerNode, n1]
  decide +kernel

end Sys2Proof.Tests
end

section
/-! SUPPORT. The statements of 00_scope.md: what an aligned request does once it gets through, which stored fields a plain
write and a clearing read can change, the two reads of a 48-bit counter, and misaligned requests. -/

namespace Sys2Proof.Machine

/-! ### The commands' meanings -/

theorem exec_registerWrite (fn : Fin 65) (sp : Space) (off : Nat) (data : Word) (s : State) :
    exec (.registerWrite fn sp off data) s = execRegisterWrite fn sp off data s := rfl

theorem exec_readClear (fn : Fin 65) (sp : Space) (off : Nat) (s : State) :
    exec (.readClear fn sp off) s = execReadClear fn sp off s := rfl

theorem exec_counter48LowRead (fn : Fin 65) (off : Nat) (s : State) :
    exec (.counter48LowRead fn off) s = execCounter48LowRead fn off s := rfl

theorem exec_misalignedMmioAccess (fn : Fin 65) (bar : Fin 6) (off : Nat) (be : BitVec 4) (dws : Nat) (write : Bool)
    (s : State) : exec (.misalignedMmioAccess fn bar off be dws write) s = .next (s.misalignedAccess fn bar off be dws write) :=
  rfl

theorem exec_registerWrite_unaligned {off : Nat} (h : off % 4 ≠ 0) (fn : Fin 65) (sp : Space) (data : Word) (s : State) :
    exec (.registerWrite fn sp off data) s = .next s := congrArg Host.Outcome.next (if_neg h)

theorem exec_readClear_unaligned {off : Nat} (h : off % 4 ≠ 0) (fn : Fin 65) (sp : Space) (s : State) :
    exec (.readClear fn sp off) s = .next s := congrArg Host.Outcome.next (if_neg h)

section Aligned
variable {off : Nat} (h : off % 4 = 0) (fn : Fin 65) (data : Word) (s : State)
include h

theorem exec_registerWrite_bar0 : exec (.registerWrite fn .bar0 off data) s = .next (s.bar0Write fn off data.toNat) := by
  rw [exec_registerWrite, execRegisterWrite, if_pos h]

theorem exec_registerWrite_bar2 : exec (.registerWrite fn .bar2 off data) s = .next (s.bar2Write fn off data.toNat) := by
  rw [exec_registerWrite, execRegisterWrite, if_pos h]

theorem exec_registerWrite_cfg : exec (.registerWrite fn .cfg off data) s = .next (s.cfgWrite fn off data.toNat) := by
  rw [exec_registerWrite, execRegisterWrite, if_pos h]

omit data

theorem exec_readClear_bar0 : exec (.readClear fn .bar0 off) s = .next (s.bar0Read fn off) := by
  rw [exec_readClear, execReadClear, if_pos h]

theorem exec_readClear_bar2 : exec (.readClear fn .bar2 off) s = .next (s.bar2Read fn off) := by
  rw [exec_readClear, execReadClear, if_pos h]

theorem exec_readClear_cfg : exec (.readClear fn .cfg off) s = .next (s.cfgRead fn off) := by
  rw [exec_readClear, execReadClear, if_pos h]

end Aligned

/-! ### BAR0 requests that get through, and beyond the BAR -/

theorem State.writesThrough_iff {s : State} {fn a : Nat} : s.writesThrough fn a = true ↔
    fnReaches fn a = true ∧ s.gate fn (some a) true = .go a ∧ s.isFrozen (masterOfFn fn) = false := by
  simp only [State.writesThrough, Bool.and_eq_true, beq_iff_eq, Bool.not_eq_true', and_assoc]

theorem State.readsThrough_iff {s : State} {fn a : Nat} : s.readsThrough fn a = true ↔
    fnReaches fn a = true ∧ s.gate fn (some a) false = .go a ∧ s.isFrozen (masterOfFn fn) = false := by
  simp only [State.readsThrough, Bool.and_eq_true, beq_iff_eq, Bool.not_eq_true', and_assoc]

section Bar0
variable {s : State} {fn off a : Nat}

theorem State.bar0Write_go (hoff : off < barSize fn) (ha : barAddr fn off = some a) (hg : s.gate fn (some a) true = .go a)
    (data : Nat) : s.bar0Write fn off data = (s.countAccess fn).writeEffect fn a data := by
  simp only [State.bar0Write, if_neg (Nat.not_le.2 hoff), State.writeAt, ha, hg, Option.getD_some]

theorem State.bar0Read_go (hoff : off < barSize fn) (ha : barAddr fn off = some a) (hg : s.gate fn (some a) false = .go a) :
    s.bar0Read fn off = ((s.countAccess fn).readEffect fn a).2.answer fn ((s.countAccess fn).readEffect fn a).1 := by
  simp only [State.bar0Read, if_neg (Nat.not_le.2 hoff), State.readAt, ha, hg, Option.getD_some]

theorem State.bar0Write_through (hoff : off < barSize fn) (ha : barAddr fn off = some a) (hw : s.writesThrough fn a = true)
    (data : Nat) : s.bar0Write fn off data = s.writeEffect fn a data := by
  obtain ⟨-, hg, hf⟩ := State.writesThrough_iff.1 hw
  rw [State.bar0Write_go hoff ha hg, State.countAccess_of_not_frozen hf]

theorem State.bar0Read_through (hoff : off < barSize fn) (ha : barAddr fn off = some a) (hr : s.readsThrough fn a = true) :
    s.bar0Read fn off = (s.readEffect fn a).2.answer fn (s.readEffect fn a).1 := by
  obtain ⟨-, hg, hf⟩ := State.readsThrough_iff.1 hr
  rw [State.bar0Read_go hoff ha hg, State.countAccess_of_not_frozen hf]

theorem State.bar0Write_beyond (hoff : barSize fn ≤ off) (hl : s.linkUp = true) (data : Nat) :
    s.bar0Write fn off data = s.refuseRequest fn false := by
  rw [State.bar0Write, if_pos hoff, if_pos hl]

theorem State.bar0Read_beyond (hoff : barSize fn ≤ off) (hl : s.linkUp = true) :
    s.bar0Read fn off = s.refuseRequest fn true := by
  rw [State.bar0Read, if_pos hoff, if_pos hl]

end Bar0

section Through
variable {fn : Fin 65} {off a : Nat} {s : State} (hoff : off < barSize fn) (ha : barAddr fn off = some a)
include hoff ha

theorem exec_registerWrite_through (hal : off % 4 = 0) (hw : s.writesThrough fn a = true) (data : Word) :
    exec (.registerWrite fn .bar0 off data) s = .next (s.writeEffect fn a data.toNat) := by
  rw [exec_registerWrite_bar0 hal, State.bar0Write_through hoff ha hw]

theorem exec_readClear_through (hal : off % 4 = 0) (hr : s.readsThrough fn a = true) :
    exec (.readClear fn .bar0 off) s = .next ((s.readEffect fn a).2.answer fn (s.readEffect fn a).1) := by
  rw [exec_readClear_bar0 hal, State.bar0Read_through hoff ha hr]

theorem exec_counter48LowRead_through (hl : isCounterLow fn off = true) (hr : s.readsThrough fn a = true) :
    exec (.counter48LowRead fn off) s = .next ((s.readEffect fn a).2.answer fn (s.readEffect fn a).1) := by
  rw [exec_counter48LowRead, execCounter48LowRead, if_pos hl, State.bar0Read_through hoff ha hr]

end Through

/-! ### Registers of a sheet, past its title block -/

theorem State.writeEffect_sheet {a i b : Nat} {k : SheetKind} (h : regionAt a = .sheet k i b) (s : State) (fn data : Nat) :
    s.writeEffect fn a data = s.sheetWrite fn k i b (a - b) data := by
  simp only [State.writeEffect, h]

theorem State.readEffect_sheet {a i b : Nat} {k : SheetKind} (h : regionAt a = .sheet k i b) (s : State) (fn : Nat) :
    s.readEffect fn a = s.sheetRead k i b (a - b) := by
  simp only [State.readEffect, h]

theorem State.sheetWrite_plain {s : State} {fn i off data : Nat} {k : SheetKind} (hoff : 0x40 ≤ off)
    (hs : (s.specialWrite fn k i off data).isNone = true) (b : Nat) :
    s.sheetWrite fn k i b off data = s.storeWord fn b k.rows off data := by
  rw [State.sheetWrite, if_neg (Nat.not_lt.2 hoff), Option.isNone_iff_eq_none.1 hs]

theorem State.restartPeaks_of_ne_qmgr {k : SheetKind} (hk : k ≠ .qmgr) (s : State) (i off : Nat) :
    s.restartPeaks k i off = s := by
  cases k with
  | qmgr => exact absurd rfl hk
  | _ => rfl

theorem State.sheetRead_plain {s : State} {k : SheetKind} {i b off : Nat} (hoff : 0x40 ≤ off) (hk : k ≠ .qmgr)
    (hs : (s.specialRead k i b off).isNone = true) (hw : (s.wholeWord k i off).isNone = true) :
    s.sheetRead k i b off = (s.viewWord b k.rows (s.viewsOf k i) off, s.clearOnRead b k.rows off) := by
  rw [State.sheetRead, if_neg (Nat.not_lt.2 hoff), Option.isNone_iff_eq_none.1 hs, Option.isNone_iff_eq_none.1 hw]
  exact congrArg _ (State.restartPeaks_of_ne_qmgr hk _ _ _)

/-! ### Where the fields of one register lie -/

theorem Row.off_of_indexAt {r : Row} {off i : Nat} (h : r.indexAt off = some i) : r.off + r.stride * i = off := by
  unfold Row.indexAt at h
  split at h
  · cases h
  · split at h
    · next hlt hmod =>
      obtain rfl := Option.some.inj h
      have := Nat.div_add_mod (off - r.off) r.stride
      omega
    · cases h

theorem fieldKey_of_indexAt {r : Row} {off i : Nat} (h : r.indexAt off = some i) (b : Nat) :
    fieldKey b r i = (b + off) * 32 + r.lsb := by
  rw [fieldKey, Nat.add_assoc b, Row.off_of_indexAt h]

/-! ### The register store at other keys, canonical or not -/

theorem Sparse.find_ins_ne {α : Type} {j k : Nat} (h : j ≠ k) (v : α) (m : Sparse α) :
    Sparse.find? (Sparse.ins m k v) j = Sparse.find? m j := by
  induction m with
  | nil => simp [Sparse.ins, Sparse.find?, h.symm]
  | cons e r ih =>
    unfold Sparse.ins
    split
    · simp [Sparse.find?, h.symm]
    · split
      · next hk => simp [Sparse.find?, hk, h.symm]
      · simp [Sparse.find?, ih]

theorem Sparse.find_del_ne {α : Type} {j k : Nat} (h : j ≠ k) (m : Sparse α) :
    Sparse.find? (Sparse.del m k) j = Sparse.find? m j := by
  induction m with
  | nil => rfl
  | cons e r ih =>
    unfold Sparse.del
    split
    · next hk => simp [Sparse.find?, hk, h.symm]
    · split
      · rfl
      · simp [Sparse.find?, ih]

theorem Sparse.find_put_ne {α : Type} [DecidableEq α] {j k : Nat} (h : j ≠ k) (d v : α) (m : Sparse α) :
    Sparse.find? (Sparse.put d m k v) j = Sparse.find? m j := by
  unfold Sparse.put
  split
  · exact Sparse.find_del_ne h m
  · exact Sparse.find_ins_ne h v m

theorem Sparse.get_del_same {α : Type} {m : Sparse α} (h : Sparse.wf m = true) (d : α) (k : Nat) :
    Sparse.get d (Sparse.del m k) k = d := by
  rw [Sparse.get, Sparse.find_del h, if_pos rfl, Option.getD_none]

/-! ### Changes of listed register fields alone -/

theorem State.OnlyRegs.refl (s : State) (keys : List Nat) : s.OnlyRegs s keys := ⟨rfl, fun _ _ => rfl⟩

theorem State.OnlyRegs.trans {s t u : State} {keys : List Nat} (h : s.OnlyRegs t keys) (k : t.OnlyRegs u keys) :
    s.OnlyRegs u keys :=
  ⟨k.1.trans (by rw [h.1]), fun x hx => (k.2 x hx).trans (h.2 x hx)⟩

theorem State.onlyRegs_wr {b i : Nat} {r : Row} {keys : List Nat} (h : fieldKey b r i ∈ keys) (s : State) (v : Nat) :
    s.OnlyRegs (s.wr b r v i) keys :=
  ⟨rfl, fun x hx => Sparse.find_put_ne (fun he => hx (by rwa [he])) _ _ _⟩

theorem State.OnlyRegs.rd_eq {s t : State} {keys : List Nat} (h : s.OnlyRegs t keys) {b i : Nat} {r : Row}
    (hk : fieldKey b r i ∉ keys) : t.rd b r i = s.rd b r i := by
  simp only [State.rd, Sparse.get, h.2 _ hk]

/-- Steps that each change listed fields alone, taken from any state that differs in those alone. -/
theorem onlyRegs_forEach {α : Type} {s t : State} {keys : List Nat} {f : α → State → State} (l : List α)
    (h : s.OnlyRegs t keys) (hf : ∀ a ∈ l, ∀ u, s.OnlyRegs u keys → u.OnlyRegs (f a u) keys) :
    s.OnlyRegs (forEach l f t) keys := by
  unfold forEach
  induction l generalizing t with
  | nil => exact h
  | cons a r ih =>
    exact ih (h.trans (hf a List.mem_cons_self t h)) (fun x hx => hf x (List.mem_cons_of_mem _ hx))

/-! ### A plain write (R10, R54, R55) -/

/-- The keys of the fields of the register at `off` that a write by function `fn` can change: not the read-only ones, nor
those whose lock the writer does not hold. -/
def State.writableKeys (s : State) (fn b : Nat) (rows : List Row) (off : Nat) : List Nat :=
  rows.filterMap (fun r =>
    if r.acc = .ro ∨ (r.acc = .rwl ∧ s.mayWriteL (b / 0x1000 * 0x1000) (masterOfFn fn) = false) then none
    else (r.indexAt off).map (fieldKey b r))

theorem State.mem_writableKeys {s : State} {fn b off i : Nat} {rows : List Row} {r : Row} (hr : r ∈ rows)
    (hi : r.indexAt off = some i) (hro : r.acc ≠ .ro)
    (hl : r.acc = .rwl → s.mayWriteL (b / 0x1000 * 0x1000) (masterOfFn fn) = true) :
    fieldKey b r i ∈ s.writableKeys fn b rows off := by
  refine List.mem_filterMap.2 ⟨r, hr, ?_⟩
  rw [if_neg, hi, Option.map_some]
  rintro (h | ⟨h, hm⟩)
  · exact hro h
  · rw [hl h] at hm
    cases hm

theorem State.le_of_mem_writableKeys {s : State} {fn b off x : Nat} {rows : List Row}
    (h : x ∈ s.writableKeys fn b rows off) : (b + off) * 32 ≤ x := by
  obtain ⟨r, -, hx⟩ := List.mem_filterMap.1 h
  split at hx
  · cases hx
  · obtain ⟨i, hi, rfl⟩ := Option.map_eq_some_iff.1 hx
    rw [fieldKey_of_indexAt hi]
    exact Nat.le_add_right _ _

/-- The lock holder stands in the title block, which a write of a register past it does not reach. -/
theorem lockOwner_not_mem_writableKeys {s : State} {fn b off : Nat} {rows : List Row} (hoff : 0x40 ≤ off) :
    fieldKey (b / 0x1000 * 0x1000) Title.lockOwner 0 ∉ s.writableKeys fn b rows off := by
  intro h
  have := State.le_of_mem_writableKeys h
  simp only [fieldKey, Title.lockOwner] at this
  omega

theorem State.OnlyRegs.mayWriteL_eq {s t : State} {keys : List Nat} (h : s.OnlyRegs t keys) {b : Nat}
    (hk : fieldKey b Title.lockOwner 0 ∉ keys) (m : Nat) : t.mayWriteL b m = s.mayWriteL b m := by
  have hr : t.lockOwner b = s.lockOwner b := h.rd_eq hk
  unfold State.mayWriteL
  rw [hr]

/-- A field takes a value or stays; a read-only one stays, and one whose lock the writer does not hold. -/
theorem State.storeField_cases (s : State) (fn b : Nat) (r : Row) (i data : Nat) :
    s.storeField fn b r i data = s ∨
    (r.acc ≠ .ro ∧ (r.acc = .rwl → s.mayWriteL (b / 0x1000 * 0x1000) (masterOfFn fn) = true) ∧
      ∃ v, s.storeField fn b r i data = s.wr b r v i) := by
  unfold State.storeField
  cases hacc : r.acc with
  | rw =>
    dsimp only
    split
    · exact .inr ⟨nofun, nofun, _, rfl⟩
    · exact .inl rfl
  | rwl =>
    dsimp only
    split
    · next hw => exact .inr ⟨nofun, fun _ => ((Bool.and_eq_true _ _).mp hw).2, _, rfl⟩
    · exact .inl rfl
  | w1c =>
    dsimp only
    split
    · exact .inr ⟨nofun, nofun, _, rfl⟩
    · exact .inl rfl
  | ro | wo | woL | rc | rwo | special => exact .inl rfl

/-- A plain write of the register at `off` changes its writable fields alone. -/
theorem State.storeWord_onlyRegs (s : State) (fn b : Nat) (rows : List Row) {off : Nat} (hoff : 0x40 ≤ off) (data : Nat) :
    s.OnlyRegs (s.storeWord fn b rows off data) (s.writableKeys fn b rows off) := by
  refine onlyRegs_forEach rows (.refl s _) (fun r hr u hu => ?_)
  cases hi : r.indexAt off with
  | none => exact .refl u _
  | some i =>
    rcases u.storeField_cases fn b r i data with h | ⟨hro, hl, v, h⟩
    · simp only [h]
      exact .refl u _
    · simp only [h]
      rw [hu.mayWriteL_eq (lockOwner_not_mem_writableKeys hoff)] at hl
      exact State.onlyRegs_wr (State.mem_writableKeys hr hi hro hl) u v

/-- Settles O33: the write is `State.storeWord`, which changes the register's writable fields alone. -/
theorem plainWriteChangesOneRegisterAlone : Obligations.PlainWriteChangesOneRegisterAlone := by
  intro fn off a i b k data s hal hoff ha hw hreg h40 hs
  refine ⟨_, ?_, rfl, s.storeWord_onlyRegs fn b k.rows h40 data.toNat⟩
  rw [exec_registerWrite_through hoff ha hal hw, State.writeEffect_sheet hreg, State.sheetWrite_plain h40 hs]

/-! ### A clearing read (R7, R10) -/

/-- The keys of the fields of the register at `off` with access code RC. -/
def clearedKeys (b : Nat) (rows : List Row) (off : Nat) : List Nat :=
  rows.filterMap (fun r => if r.acc = .rc then (r.indexAt off).map (fieldKey b r) else none)

theorem mem_clearedKeys {b off i : Nat} {rows : List Row} {r : Row} (hr : r ∈ rows) (hi : r.indexAt off = some i)
    (hrc : r.acc = .rc) : fieldKey b r i ∈ clearedKeys b rows off :=
  List.mem_filterMap.2 ⟨r, hr, by rw [if_pos hrc, hi, Option.map_some]⟩

/-- A read of the register at `off` changes its RC fields alone. -/
theorem State.clearOnRead_onlyRegs (s : State) (b : Nat) (rows : List Row) (off : Nat) :
    s.OnlyRegs (s.clearOnRead b rows off) (clearedKeys b rows off) := by
  refine onlyRegs_forEach rows (.refl s _) (fun r hr u _ => ?_)
  cases hi : r.indexAt off with
  | none => exact .refl u _
  | some i =>
    cases hacc : r.acc with
    | rc =>
      dsimp only
      split
      · exact .refl u _
      · exact State.onlyRegs_wr (mem_clearedKeys hr hi hacc) u 0
    | rw | ro | wo | woL | w1c | rwl | rwo | special => exact .refl u _

theorem State.OnlyRegs.outBefore_eq {s t : State} {keys : List Nat} (h : s.OnlyRegs t keys) (o : Output) :
    t.outBefore o = s.outBefore o := by
  rw [h.1]
  rfl

theorem State.answer_out (s : State) (fn w : Nat) : (s.answer fn w).out =
    .readData fn (BitVec.ofNat 32 w) :: s.outBefore (.readData fn (BitVec.ofNat 32 w)) := rfl

/-- An answer changes nothing but what has been emitted. -/
theorem State.OnlyRegs.answer {s t : State} {keys : List Nat} (h : s.OnlyRegs t keys) (fn w : Nat) :
    s.OnlyRegs { t.answer fn w with out := s.out } keys :=
  ⟨by rw [h.1]; rfl, h.2⟩

/-- Settles O35: the read is `State.clearOnRead` and the answer. -/
theorem readsClearTheirClearOnReadFields : Obligations.ReadsClearTheirClearOnReadFields := by
  intro fn off a i b k s hal hoff ha hr hreg h40 hk hs hw
  have hclr := s.clearOnRead_onlyRegs b k.rows (a - b)
  refine ⟨_, ?_, ⟨_, rfl, ?_⟩, hclr.answer fn (s.viewWord b k.rows (s.viewsOf k i) (a - b))⟩
  · rw [exec_readClear_through hoff ha hal hr, State.readEffect_sheet hreg, State.sheetRead_plain h40 hk hs hw]
  · rw [State.answer_out, hclr.outBefore_eq]

/-! ### Pages of the address map (R37, R40, R43) -/

theorem windowRegion_sheet_base {p o i b : Nat} {k : SheetKind} (h : windowRegion p o = .sheet k i b) :
    b = winB p + o / 0x1000 * 0x1000 := by
  unfold windowRegion at h
  dsimp only at h
  split_ifs at h <;> cases h <;> rfl

theorem regionAt_sheet_base {a i b : Nat} {k : SheetKind} (h : regionAt a = .sheet k i b) : b = a / 0x1000 * 0x1000 := by
  unfold regionAt at h
  split_ifs at h with h1 h2 h3 h4 h5 h6
  · cases h; rfl
  · cases h; rfl
  · cases h; omega
  · have := windowRegion_sheet_base h
    rw [winB] at this
    omega

theorem windowRegion_sheet_congr {p o o' i b : Nat} {k : SheetKind} (h : windowRegion p o = .sheet k i b)
    (ho : o' / 0x1000 = o / 0x1000) : windowRegion p o' = .sheet k i b := by
  unfold windowRegion at h ⊢
  rw [ho]
  dsimp only at h ⊢
  split_ifs at h ⊢ <;> exact h

/-- A sheet covers its whole page. -/
theorem regionAt_sheet_congr {a a' i b : Nat} {k : SheetKind} (h : regionAt a = .sheet k i b)
    (ha : a' / 0x1000 = a / 0x1000) : regionAt a' = .sheet k i b := by
  unfold regionAt at h
  split_ifs at h with h1 h2 h3 h4 h5 h6
  · rw [regionAt, if_pos (by omega), ha, h]
  · rw [regionAt, if_neg (by omega), if_pos (by omega), ha, ← h,
      show (a' - 0x10000) / 0x1000 = (a - 0x10000) / 0x1000 by omega]
  · rw [regionAt, if_neg (by omega), if_neg (by omega), if_pos (by omega), h]
  · rw [regionAt, if_neg (by omega), if_neg (by omega), if_neg (by omega), if_neg (by omega), if_neg (by omega),
      if_pos (by omega)]
    rw [show (a' - 0x2000000) / 0x400000 = (a - 0x2000000) / 0x400000 by omega]
    exact windowRegion_sheet_congr h (by omega)

/-- A function's view of the address map is made of whole pages. -/
theorem barAddr_mod_page {fn off a : Nat} (h : barAddr fn off = some a) : a % 0x1000 = off % 0x1000 := by
  unfold barAddr vfAddr at h
  split_ifs at h <;> obtain rfl := Option.some.inj h
  · rfl
  all_goals simp only [tenB, tcntB, qcB, winB, chB]; omega

/-! ### 48-bit counters (R11, R411) -/

theorem isCounterLow_off {fn off a i b : Nat} (ha : barAddr fn off = some a) (hreg : regionAt a = .sheet .cnt i b)
    (h : isCounterLow fn off = true) : 0x40 ≤ a - b ∧ a - b < 0x40 + 8 * 22 ∧ (a - b) % 8 = 0 ∧ b + (a - b) = a := by
  have hb := regionAt_sheet_base hreg
  have hp := barAddr_mod_page ha
  simp only [isCounterLow, ha, Option.map_some, hreg, Bool.and_eq_true, decide_eq_true_eq, beq_iff_eq] at h
  omega

theorem State.sheetRead_cnt (s : State) {i b off : Nat} (hoff : 0x40 ≤ off) :
    s.sheetRead .cnt i b off = s.counterRead b off := by
  rw [State.sheetRead, if_neg (Nat.not_lt.2 hoff)]
  simp only [State.specialRead, if_pos hoff]

theorem State.counterRead_low (s : State) {b off : Nat} (h : 0x40 ≤ off) (h' : off < 0x40 + 8 * 22) (h8 : off % 8 = 0) :
    s.counterRead b off = s.counterLowRead b (b + off) := by
  rw [State.counterRead, if_pos ⟨h, h'⟩, if_pos h8]

theorem State.counterRead_high (s : State) {b off : Nat} (h : 0x40 ≤ off) (h' : off < 0x40 + 8 * 22) (h8 : off % 8 ≠ 0) :
    s.counterRead b off = (Sparse.get 0 s.shadow48 (b + off - 4), s) := by
  rw [State.counterRead, if_pos ⟨h, h'⟩, if_neg h8]

/-- The low word's read at a counter's address. -/
theorem State.readEffect_counterLow {s : State} {fn off a i b : Nat} (ha : barAddr fn off = some a)
    (hreg : regionAt a = .sheet .cnt i b) (hl : isCounterLow fn off = true) : s.readEffect fn a = s.counterLowRead b a := by
  obtain ⟨h40, hlt, h8, hba⟩ := isCounterLow_off ha hreg hl
  rw [State.readEffect_sheet hreg, State.sheetRead_cnt s h40, State.counterRead_low s h40 hlt h8, hba]

/-- The shadow's read, in the word after a counter's low one. -/
theorem State.readEffect_counterHigh {s : State} {fn off a i b : Nat} (ha : barAddr fn off = some a)
    (hreg : regionAt a = .sheet .cnt i b) (hl : isCounterLow fn off = true) :
    s.readEffect fn (a + 4) = (Sparse.get 0 s.shadow48 a, s) := by
  obtain ⟨h40, hlt, h8, hba⟩ := isCounterLow_off ha hreg hl
  have hb := regionAt_sheet_base hreg
  rw [State.readEffect_sheet (regionAt_sheet_congr hreg (by omega)), State.sheetRead_cnt s (by omega),
    State.counterRead_high s (by omega) (by omega) (by omega), show b + (a + 4 - b) - 4 = a by omega]

theorem State.counterLowRead_fst (s : State) (b a : Nat) :
    (s.counterLowRead b a).1 = Sparse.get 0 s.cnt48 a % 2 ^ 32 := rfl

theorem State.counterLowRead_kept {s : State} {b : Nat} (h : s.isSet b Title.compatPrev = true) (a : Nat) :
    (s.counterLowRead b a).2 = { s with shadow48 := Sparse.put 0 s.shadow48 a (Sparse.get 0 s.cnt48 a / 2 ^ 32) } := by
  simp only [State.counterLowRead, if_pos h]

theorem State.counterLowRead_cleared {s : State} {b : Nat} (h : s.isSet b Title.compatPrev = false) (a : Nat) :
    (s.counterLowRead b a).2 = { s with shadow48 := Sparse.put 0 s.shadow48 a (Sparse.get 0 s.cnt48 a / 2 ^ 32)
                                        cnt48 := Sparse.del s.cnt48 a } := by
  simp only [State.counterLowRead, h, Bool.false_eq_true, if_false]

/-- But for the counters and their shadow, the low word's read changes nothing. -/
theorem State.counterLowRead_eq (s : State) (b a : Nat) :
    (s.counterLowRead b a).2 = { s with shadow48 := Sparse.put 0 s.shadow48 a (Sparse.get 0 s.cnt48 a / 2 ^ 32)
                                        cnt48 := (s.counterLowRead b a).2.cnt48 } := by
  cases h : s.isSet b Title.compatPrev with
  | true => rw [State.counterLowRead_kept h]
  | false => rw [State.counterLowRead_cleared h]

theorem isCounterLow_mod_8 {fn off : Nat} (h : isCounterLow fn off = true) : off % 8 = 0 := by
  unfold isCounterLow at h
  split at h
  · simp only [Bool.and_eq_true, beq_iff_eq] at h
    exact h.2
  · cases h

/-- The shadow's word lies within the BAR that the low word lies in. -/
theorem counterHigh_lt_barSize {fn off : Nat} (h : isCounterLow fn off = true) (hoff : off < barSize fn) :
    off + 4 < barSize fn := by
  have := isCounterLow_mod_8 h
  unfold barSize at hoff ⊢
  split_ifs at hoff ⊢ <;> omega

/-- Settles O34: the low word's read is `State.counterLowRead`, and the next word reads the shadow that it latched. -/
theorem counterLowReadLatchesAndClears : Obligations.CounterLowReadLatchesAndClears := by
  intro fn off a i b s hinv hal hoff ha hr hreg hl
  have hlow : s.readEffect fn a = s.counterLowRead b a := State.readEffect_counterLow ha hreg hl
  have heq := s.counterLowRead_eq b a
  refine ⟨_, exec_counter48LowRead_through hoff ha hl hr, ?_⟩
  rw [hlow]
  refine ⟨⟨_, rfl, ?_⟩, fun hc => ?_, fun hc => ?_, ?_, fun ha4 hr4 => ?_⟩
  · rw [State.answer_out, s.counterLowRead_fst, heq]
    rfl
  · rw [State.counterLowRead_cleared hc]
    exact Sparse.get_del_same hinv.stores.cnt48 0 a
  · rw [State.counterLowRead_kept hc]
    rfl
  · rw [heq]
    rfl
  · generalize ht : (s.counterLowRead b a).2.answer fn (s.counterLowRead b a).1 = t at hr4
    have hoff4 : off + 4 < barSize fn := counterHigh_lt_barSize hl hoff
    have hsh : Sparse.get 0 t.shadow48 a = Sparse.get 0 s.cnt48 a / 2 ^ 32 := by
      rw [← ht, heq]
      exact (Sparse.get_put hinv.stores.shadow48).trans (if_pos rfl)
    refine ⟨_, exec_readClear_through hoff4 ha4 (by omega) hr4, ?_⟩
    rw [State.readEffect_counterHigh ha hreg hl, hsh]
    exact ⟨⟨_, rfl, rfl⟩, rfl⟩

/-! ### BAR2: the MSI-X table (R114) -/

/-- An entry of the MSI-X table lies within BAR2. -/
theorem tableEnd_lt_bar2 {fn vec : Nat} (hv : vec < vectorsOf fn) : 16 * vec + 15 < 0x4000 := by
  unfold vectorsOf at hv
  split at hv <;> omega

/-- No VF of a plate disabled by fuse (R93). -/
theorem State.not_plateDisabled {s : State} {fn : Nat} (hp : fn ≠ 0 → s.plateEnabled ((fn - 1) / 8) = true) :
    ¬ (fn != 0 && !s.plateEnabled ((fn - 1) / 8)) = true := by
  simpa using hp

section Bar2
variable {s : State} {fn vec : Nat} (hl : s.linkUp = true) (ha : s.fnAnswers fn = true)
  (hp : fn ≠ 0 → s.plateEnabled ((fn - 1) / 8) = true) (hf : s.isFrozen (masterOfFn fn) = false) (hv : vec < vectorsOf fn)
include hl ha hp hf hv

/-- A write of word `w` of a vector's entry. -/
theorem State.bar2Write_entry {w : Nat} (hw : w < 4) (data : Nat) :
    s.bar2Write fn (16 * vec + 4 * w) data = s.msixEntryWrite fn vec w data := by
  have hoff := tableEnd_lt_bar2 hv
  rw [State.bar2Write, if_neg (by simp [hl]), if_neg (by simp [ha]; omega), if_neg (State.not_plateDisabled hp),
    if_neg (by simp [hf]),
    show (16 * vec + 4 * w) / 16 = vec by omega, if_pos hv, show (16 * vec + 4 * w) % 16 / 4 = w by omega]

/-- A read of word `w` of a vector's entry. -/
theorem State.bar2Read_entry {w : Nat} (hw : w < 4) :
    s.bar2Read fn (16 * vec + 4 * w) = (s.countAccess fn).answer fn (s.msixEntryWord fn vec w) := by
  have hoff := tableEnd_lt_bar2 hv
  rw [State.bar2Read, if_neg (by simp [hl]), if_neg (by simp [ha]; omega), if_neg (State.not_plateDisabled hp),
    if_neg (by simp [hf]),
    State.bar2Word, if_pos (by omega), show (16 * vec + 4 * w) / 16 = vec by omega,
    show (16 * vec + 4 * w) % 16 / 4 = w by omega]

end Bar2

/-! ### The configuration space of the PF (R86, R105, R160) -/

theorem State.cfgRequest_pf {s : State} (ha : s.cfgAnswers = true) (hb : s.flrBusy 0 = false) (f : State → State) :
    s.cfgRequest 0 f = f s := by
  simp only [State.cfgAnswers, Bool.and_eq_true] at ha
  obtain ⟨hready, hlink⟩ := ha
  simp [State.cfgRequest, State.fnExists, hready, hlink, hb]

/-- Sending what is pending changes nothing but the messages. -/
theorem State.sendPending_eq (s : State) (fn : Nat) :
    s.sendPending fn = { s with msix := (s.sendPending fn).msix, out := (s.sendPending fn).out } := by
  unfold State.sendPending
  generalize vectorsOf fn = n
  induction n with
  | zero => rfl
  | succ n ih =>
    rw [forUpTo]
    split
    · rw [ih]
      rfl
    · exact ih

theorem State.cfgRead_pf {s : State} (ha : s.cfgAnswers = true) (hb : s.flrBusy 0 = false) (off : Nat) :
    s.cfgRead 0 off = s.emit (.cfgData 0 (BitVec.ofNat 32 (s.pfCfgWord off))) := by
  rw [State.cfgRead, State.cfgRequest_pf ha hb, if_pos rfl]

theorem State.cfgWrite_pf {s : State} (ha : s.cfgAnswers = true) (hb : s.flrBusy 0 = false) (off data : Nat) :
    s.cfgWrite 0 off data = s.pfCfgWrite off data := by
  rw [State.cfgWrite, State.cfgRequest_pf ha hb, if_pos rfl]

theorem State.pfCfgWord_identity (s : State) : s.pfCfgWord 0 = 0x20481F2C := rfl

/-- The command register takes Memory Space Enable and Bus Master Enable, and no register field differs. -/
theorem State.pfCfgWrite_command (s : State) (data : Nat) : (s.pfCfgWrite 4 data).pf.mse = bitAt data 1 ∧
    (s.pfCfgWrite 4 data).pf.bme = bitAt data 2 ∧ (s.pfCfgWrite 4 data).regs = s.regs := by
  rw [State.pfCfgWrite, State.sendPending_eq]
  exact ⟨rfl, rfl, rfl⟩

/-- Settles O32: each clause is the meaning of one aligned request. -/
theorem requestsReachTheirTarget : Obligations.RequestsReachTheirTarget := by
  refine ⟨?_, ?_, ?_, ?_, ?_, ?_⟩
  · intro fn off a data s hal hoff ha hg
    rw [exec_registerWrite_bar0 hal, State.bar0Write_go hoff ha hg]
  · intro fn off a s hal hoff ha hg
    rw [exec_readClear_bar0 hal, State.bar0Read_go hoff ha hg]
  · intro fn off data s hal hoff hl
    rw [exec_registerWrite_bar0 hal, exec_readClear_bar0 hal, State.bar0Write_beyond hoff hl, State.bar0Read_beyond hoff hl]
    exact ⟨rfl, rfl⟩
  · intro fn vec data s hl ha hp hf hv
    have hwrite : ∀ w < 4, exec (.registerWrite fn .bar2 (16 * vec + 4 * w) data) s =
        .next (s.msixEntryWrite fn vec w data.toNat) := fun w hw => by
      rw [exec_registerWrite_bar2 (by omega), State.bar2Write_entry hl ha hp hf hv hw]
    refine ⟨hwrite 0 (by omega), hwrite 1 (by omega), hwrite 2 (by omega), ?_⟩
    rw [exec_readClear_bar2 (by omega)]
    exact congrArg _ (State.bar2Read_entry (w := 2) hl ha hp hf hv (by omega))
  · intro data s ha hb
    refine ⟨?_, _, exec_registerWrite_cfg rfl 0 data s, ?_⟩
    · rw [exec_readClear_cfg rfl, Fin.val_zero, State.cfgRead_pf ha hb, State.pfCfgWord_identity]
      rfl
    · rw [Fin.val_zero, State.cfgWrite_pf ha hb]
      exact s.pfCfgWrite_command data.toNat
  · intro fn sp off data s hal
    exact ⟨exec_registerWrite_unaligned hal fn sp data s, exec_readClear_unaligned hal fn sp s⟩

/-! ### A violation freezes its master (R577, R579) -/

theorem State.raise_frozen (s : State) (b i : Nat) : (s.raise b i).frozen = s.frozen := by
  rw [State.raise_eq]

theorem State.bumpSat_frozen (s : State) (b : Nat) (r : Row) (i n : Nat) : (s.bumpSat b r i n).frozen = s.frozen := rfl

/-- What freezing does to the master itself leaves the list of frozen masters. -/
theorem State.stopMaster_frozen (s : State) (m : Nat) (ran : Bool) : (s.stopMaster m ran).frozen = s.frozen := by
  unfold State.stopMaster
  split_ifs
  · rfl
  · rw [State.sendMsix_eq]
  · rfl
  · rfl

/-- A master that commits a violation is frozen afterwards, whether or not it was before. -/
theorem State.violate_isFrozen (s : State) (m kind access : Nat) (plate : Option Nat) (lo hi : Nat) :
    (s.violate m kind access plate lo hi).isFrozen m = true := by
  unfold State.violate
  split
  · assumption
  · rw [State.isFrozen, State.stopMaster_frozen, State.raise_frozen, State.bumpSat_frozen, List.contains_iff_mem]
    exact mem_insertAsc.2 (.inl rfl)

/-! ### Misaligned requests (R104) -/

theorem misaligned_aligned {off : Nat} (h : off % 4 = 0) : misaligned off 0xF 1 = false := by
  simp [misaligned, h]

theorem State.misalignedAccess_aligned {off dws : Nat} {be : BitVec 4} (h : misaligned off be dws = false) (s : State)
    (fn bar : Nat) (write : Bool) : s.misalignedAccess fn bar off be dws write = s := by
  simp [State.misalignedAccess, h]

section Misaligned
variable {s : State} {off dws : Nat} {be : BitVec 4} (hm : misaligned off be dws = true) (hl : s.linkUp = true)
include hm hl

/-- A frozen master's misaligned request is counted, and a read answered ones (R116, R580). -/
theorem State.misalignedAccess_frozen {fn : Nat} (ha : s.fnAnswers fn = true) (hoff : off < barSize fn)
    (hp : fn ≠ 0 → s.plateEnabled ((fn - 1) / 8) = true) (hf : s.isFrozen (masterOfFn fn) = true) (write : Bool) :
    s.misalignedAccess fn 0 off be dws write =
      if write then s.countAccess fn else (s.countAccess fn).answerAll fn 0xFFFFFFFF dws := by
  rw [State.misalignedAccess]
  rw [if_neg (by simp [hm, hl]), if_neg (by simpa [ha] using hoff), if_neg (State.not_plateDisabled hp), if_pos hf]

/-- The PF's misaligned request at an assigned place outside the plates, while it is not frozen, is a violation. -/
theorem State.misalignedAccess_pf (ha : s.fnAnswers 0 = true) (hoff : off < barSize 0)
    (has : isAssigned (off - off % 4) = true) (hst : storagePlate (off - off % 4) = none)
    (hf : s.isFrozen (masterOfFn 0) = false) (write : Bool) :
    s.misalignedAccess 0 0 off be dws write = s.misalignedHit 0 0 off be dws write (plateOfAddr (off - off % 4)) := by
  rw [State.misalignedAccess]
  rw [if_neg (by simp [hm, hl]), if_neg (by simpa [ha] using hoff), if_neg (by simp), if_neg (by simp [hf]),
    if_neg (by decide)]
  simp [barAddr, State.misalignedBar0, has, hst]

end Misaligned

/-- Settles O36: `State.misalignedAccess` in the three cases that the statement names. -/
theorem misalignedRequestsAreViolations : Obligations.MisalignedRequestsAreViolations := by
  refine ⟨?_, ?_, ?_⟩
  · intro off dws be s hm hl ha hoff has hst hf
    have hit : ∀ write, exec (.misalignedMmioAccess 0 0 off be dws write) s =
        .next (s.misalignedHit 0 0 off be dws write (plateOfAddr (off - off % 4))) := fun write =>
      congrArg _ (State.misalignedAccess_pf hm hl ha hoff has hst hf write)
    have hc : s.countAccess 0 = s := State.countAccess_of_not_frozen hf
    refine ⟨_, rfl, ?_, State.violate_isFrozen _ _ _ _ _ _ _, ?_⟩
    · rw [hit, State.misalignedHit, hc]
      rfl
    · rw [hit, State.misalignedHit, hc]
      rfl
  · intro fn bar off write s hal
    rw [exec_misalignedMmioAccess, State.misalignedAccess_aligned (misaligned_aligned hal)]
  · intro fn off dws be s hm hl ha hoff hp hf
    rw [exec_misalignedMmioAccess, exec_misalignedMmioAccess]
    exact ⟨congrArg _ (State.misalignedAccess_frozen hm hl ha hoff hp hf true),
      congrArg _ (State.misalignedAccess_frozen hm hl ha hoff hp hf false)⟩

end Sys2Proof.Machine
end

section
/-! SUPPORT. The statements of 02_sheets.md: what a write of the title block does once it gets through (EVENT_EN, LOCK,
accept_path, COMPAT, HOST_STATE), the trace check's sample, and the tick of a lock that overruns. -/

namespace Sys2Proof.Machine

/-! ### The fields of one sheet -/

/-- A field that lies elsewhere in the same sheet is not changed by a write, be the store canonical or not. -/
theorem State.rd_wr_apart {r r' : Row} (h : r'.off * 32 + r'.lsb ≠ r.off * 32 + r.lsb) (s : State) (b v : Nat) :
    (s.wr b r v).rd b r' = s.rd b r' := by
  have hk : fieldKey b r' 0 ≠ fieldKey b r 0 := by
    unfold fieldKey
    omega
  simp only [State.rd, State.wr_regs, Sparse.get, Sparse.find_put_ne hk]

/-- Of the fields of its own sheet, an event changes EVENT alone; of those of another sheet none. -/
theorem State.rd_raise_apart {s : State} (h : Sparse.wf s.regs = true) {b b' : Nat} {r : Row} (hl : r.lsb < 32)
    (ho : b + r.off ≠ b' + 0x10) (i : Nat) : (s.raise b' i).rd b r = s.rd b r :=
  State.rd_raise_ne h (by simp only [fieldKey, Title.event]; omega)

/-- The events of a plate's hold leave every field past EVENT. -/
theorem State.rd_notePlateHold {s : State} (h : Sparse.wf s.regs = true) {r : Row} (hl : r.lsb < 32) (ho : 0x10 < r.off)
    (b : Nat) : (s.notePlateHold b).rd b r = s.rd b r := by
  unfold State.notePlateHold
  split
  · rw [State.rd_raise_apart (State.raise_wf h _ _) hl (by rw [siteB]; omega), State.rd_raise_apart h hl (by omega)]
  · rfl

/-! ### Locks (R57-R60) -/

theorem masterOfFn_ne_zero (fn : Nat) : masterOfFn fn ≠ 0 := by
  unfold masterOfFn
  split <;> omega

theorem masterOfFn_lt (fn : Fin 65) : masterOfFn fn < 256 := by
  unfold masterOfFn
  split <;> omega

/-- A function's own master ID, spelt as a claim. -/
theorem claim_toNat (fn : Fin 65) : (BitVec.ofNat 8 (masterOfFn fn)).toNat = masterOfFn fn := by
  rw [BitVec.toNat_ofNat, Nat.mod_eq_of_lt (masterOfFn_lt fn)]

theorem State.acquire_lockOwner {s : State} (h : Sparse.wf s.regs = true) (b : Nat) {m : Nat} (hm : m < 256) :
    (s.acquire b m).lockOwner b = m :=
  (State.rd_wr_same h b Title.lockOwner m 0).trans (Nat.mod_eq_of_lt hm)

theorem State.acquire_lockBroken (s : State) (b m : Nat) :
    (s.acquire b m).rd b Title.lockBroken = s.rd b Title.lockBroken :=
  State.rd_wr_apart (r := Title.lockOwner) (by decide) s b m

theorem State.release_lockOwner {s : State} (h : Sparse.wf s.regs = true) (b : Nat) : (s.release b).lockOwner b = 0 := by
  have hfree : (s.wr b Title.lockOwner 0).rd b Title.lockOwner = 0 := State.rd_wr_same h b Title.lockOwner 0 0
  unfold State.release
  dsimp only
  split
  · next hlc =>
    obtain ⟨rfl, -⟩ := hlc
    exact (State.rd_wr_apart (r := Reg.lcReqStatusResult) (by decide) _ lcB 3).trans hfree
  · exact hfree

section LockWrites
variable {s : State} {b i : Nat} {k : SheetKind} (hs : sheetAt b = some (k, i)) (hl : k.lockable = true)
include hs hl

/-- A claim in the writer's own name acquires a free lock; of a lock that is held, only the holder clears `broken`. -/
theorem State.lockWriteEffect_claim (fn : Nat) (clr : Bool) :
    s.lockWriteEffect fn b (masterOfFn fn) clr =
      if s.lockOwner b = 0 then s.acquire b (masterOfFn fn)
      else if clr = true ∧ s.lockOwner b = masterOfFn fn then s.wr b Title.lockBroken 0 else s := by
  simp only [State.lockWriteEffect, hs, hl, Bool.not_true, Bool.false_eq_true, if_false, bne_self_eq_false,
    Bool.and_false, if_true, Bool.and_eq_true, beq_iff_eq]
  by_cases hfree : s.lockOwner b = 0
  · have hother : ¬ (clr = true ∧ s.lockOwner b = masterOfFn fn) := fun h => masterOfFn_ne_zero fn (h.2 ▸ hfree)
    rw [if_neg hother]
  · rw [if_neg hfree, if_neg hfree]

/-- Claim 0x00 releases the lock of the holder. -/
theorem State.lockWriteEffect_release (fn : Nat) :
    s.lockWriteEffect fn b 0 false = if s.lockOwner b = masterOfFn fn then s.release b else s := by
  simp only [State.lockWriteEffect, hs, hl, Bool.not_true, Bool.false_eq_true, if_false, bne_self_eq_false,
    Bool.false_and, if_neg (masterOfFn_ne_zero fn).symm]

end LockWrites

section LockCommands
variable {s : State} {fn : Fin 65} {b : Nat} (hw : s.writesThrough fn (b + 0x18) = true)
include hw

theorem exec_lockClaim_own : exec (.lockClaim fn b (BitVec.ofNat 8 (masterOfFn fn))) s =
    .next (s.lockWriteEffect fn b (masterOfFn fn) false) := by
  conv_rhs => rw [← claim_toNat fn]
  exact congrArg _ (State.mmioWrite_through hw _)

theorem exec_lockRelease_through : exec (.lockRelease fn b) s = .next (s.lockWriteEffect fn b 0 false) :=
  congrArg _ (State.mmioWrite_through hw _)

theorem exec_lockBrokenClear_own : exec (.lockBrokenClear fn b (BitVec.ofNat 8 (masterOfFn fn))) s =
    .next (s.lockWriteEffect fn b (masterOfFn fn) true) := by
  conv_rhs => rw [← claim_toNat fn]
  exact congrArg _ (State.mmioWrite_through hw _)

end LockCommands

/-- Settles O6: `State.lockWriteEffect` for a claim in the writer's own name and for claim 0x00, by who holds the lock. -/
theorem lockWritesAcquireReleaseAndClear : Obligations.LockWritesAcquireReleaseAndClear := by
  intro fn b i k s hs hl hwf hw
  have hm := masterOfFn_lt fn
  rw [exec_lockClaim_own hw, exec_lockRelease_through hw, exec_lockBrokenClear_own hw,
    State.lockWriteEffect_claim hs hl, State.lockWriteEffect_claim hs hl, State.lockWriteEffect_release hs hl]
  refine ⟨fun hfree => ?_, fun hheld => ?_, fun hown => ?_, fun hother => ?_, fun hown => ?_, fun hheld hother => ?_,
    fun hfree => ?_⟩
  · rw [if_pos hfree]
    exact ⟨_, rfl, State.acquire_lockOwner hwf b hm, State.acquire_lockBroken s b _⟩
  · rw [if_neg hheld, if_neg (fun h => nomatch h.1)]
  · rw [if_pos hown]
    exact ⟨_, rfl, State.release_lockOwner hwf b⟩
  · rw [if_neg hother]
  · rw [if_neg (hown ▸ masterOfFn_ne_zero fn), if_pos ⟨rfl, hown⟩]
    refine ⟨_, rfl, State.rd_wr_same hwf b Title.lockBroken 0 0, ?_⟩
    exact (State.rd_wr_apart (r := Title.lockBroken) (by decide) s b 0).trans hown
  · rw [if_neg hheld, if_neg (fun h => hother h.2)]
  · rw [if_pos hfree]
    exact ⟨_, rfl, State.acquire_lockOwner hwf b hm, State.acquire_lockBroken s b _⟩

/-! ### The trace check (R68-R71) -/

/-- What the third mismatching sample in a row stores: the hold, the code and mode seen and the code wanted. -/
def State.captureMiss (s : State) (b op mode : Nat) : State :=
  (((((s.wr b Title.count 3).wr b Title.mismatch 1).wr b Title.held 1).wr b Title.seenOp op).wr b Title.wantOp
    (s.rd b Title.hostOp)).wr b Title.seenMode mode

/-- The third mismatch in a row holds the sheet and announces it. -/
theorem State.traceMiss_third {s : State} {b : Nat} (hc : s.rd b Title.count = 2) (op mode : Nat) :
    s.traceMiss b op mode = ((s.captureMiss b op mode).raise b evTraceMismatch).notePlateHold b := by
  simp only [State.traceMiss, hc, Nat.reduceAdd, Nat.lt_irrefl, if_false]
  rfl

section Capture
variable {s : State} (h : Sparse.wf s.regs = true) (b op mode : Nat)
include h

theorem State.captureMiss_wf : Sparse.wf (s.captureMiss b op mode).regs = true := by
  unfold State.captureMiss
  iterate 6 refine State.wr_wf ?_ _ _ _ _
  exact h

/-- The title block of a sheet that a third mismatch holds. -/
theorem State.rd_captureMiss :
    (s.captureMiss b op mode).rd b Title.held = 1 ∧ (s.captureMiss b op mode).rd b Title.count = 3 ∧
    (s.captureMiss b op mode).rd b Title.seenOp = op % 16 ∧
    (s.captureMiss b op mode).rd b Title.wantOp = s.rd b Title.hostOp % 16 ∧
    (s.captureMiss b op mode).rd b Title.seenMode = mode % 256 ∧
    (s.captureMiss b op mode).rd b Title.hostOp = s.rd b Title.hostOp := by
  have hcount := State.wr_wf h b Title.count 3 0
  have hmiss := State.wr_wf hcount b Title.mismatch 1 0
  have hheld := State.wr_wf hmiss b Title.held 1 0
  have hseen := State.wr_wf hheld b Title.seenOp op 0
  have hwant := State.wr_wf hseen b Title.wantOp (s.rd b Title.hostOp) 0
  unfold State.captureMiss
  simp (disch := decide) only [State.rd_wr_apart]
  exact ⟨State.rd_wr_same hmiss _ _ _ _, State.rd_wr_same h _ _ _ _, State.rd_wr_same hheld _ _ _ _,
    State.rd_wr_same hseen _ _ _ _, State.rd_wr_same hwant _ _ _ _, trivial⟩

/-- The events of the hold leave what was captured. -/
theorem State.rd_traceMiss_third (hc : s.rd b Title.count = 2) {r : Row} (hl : r.lsb < 32) (ho : 0x10 < r.off) :
    (s.traceMiss b op mode).rd b r = (s.captureMiss b op mode).rd b r := by
  have hwf := State.captureMiss_wf h b op mode
  rw [State.traceMiss_third hc, State.rd_notePlateHold (State.raise_wf hwf _ _) hl ho,
    State.rd_raise_apart hwf hl (by omega)]

end Capture

theorem State.rd_clearAgree (s : State) (b b' : Nat) (r : Row) (i : Nat) : (s.clearAgree b).rd b' r i = s.rd b' r i := rfl

theorem exec_traceSample {b i : Nat} {k : SheetKind} (hs : sheetAt b = some (k, i)) (s : State) :
    exec (.traceSample b) s = .next (s.traceStep k i b) := by
  change execTraceSample b s = _
  simp only [execTraceSample, hs]

/-- A sample of a code that no state of its own excuses agrees with the intent or is a mismatch (R70, R71). -/
theorem State.traceStep_settled {s : State} {k : SheetKind} {i b : Nat} (hk : k.traced = true) (hh : s.heldAt b = false)
    (hq : k.inWindow = true → s.plateOp (sheetPlate k i) ≠ opQuiet) (hf : s.opOf k i b ≠ opFrozen)
    (hr : s.opOf k i b ≠ opReset) (hm : movingAgrees (s.opOf k i b) (s.rd b Title.hostOp) = false) :
    s.traceStep k i b =
      if s.opOf k i b = s.rd b Title.hostOp ∧ s.modeOf k b = s.rd b Title.hostMode then
        (s.clearAgree b).wr b Title.count 0
      else (s.clearAgree b).traceMiss b (s.opOf k i b) (s.modeOf k b) := by
  have htaken : ¬ (!k.traced || s.heldAt b || (k.inWindow && s.plateOp (sheetPlate k i) == opQuiet)) = true := by
    simpa [hk, hh] using hq
  rw [State.traceStep, if_neg htaken]
  dsimp only
  rw [if_neg (not_or.2 ⟨hf, hr⟩), if_neg (by simp [hm])]

/-- Settles O8: the settled sample of `State.traceStep`, a third mismatch or an agreement. -/
theorem traceSampleHoldsOnTheThirdMismatch : Obligations.TraceSampleHoldsOnTheThirdMismatch := by
  intro b i k s hs hk hinv hh hq hf hr hm
  rw [exec_traceSample hs, State.traceStep_settled hk hh hq hf hr hm]
  have hwf : Sparse.wf (s.clearAgree b).regs = true := hinv.regs
  refine ⟨fun hop hwant hmode hne hc => ?_, fun hop hmode => ?_⟩
  · rw [if_neg (fun h => hne h.1)]
    obtain ⟨rheld, rcount, rseen, rwant, rmode, rhost⟩ := State.rd_captureMiss hwf b (s.opOf k i b) (s.modeOf k b)
    refine ⟨_, rfl, ?_⟩
    simp (disch := decide) only [State.heldAt, State.isSet, State.rd_traceMiss_third hwf b _ _ hc, rheld, rcount, rseen,
      rwant, rmode, rhost, State.rd_clearAgree, Nat.mod_eq_of_lt hop, Nat.mod_eq_of_lt hwant, Nat.mod_eq_of_lt hmode,
      beq_self_eq_true, and_self]
  · rw [if_pos ⟨hop, hmode⟩]
    refine ⟨_, rfl, State.rd_wr_same hwf b Title.count 0 0, ?_⟩
    rw [State.heldAt, State.isSet, State.rd_wr_apart (by decide)]
    exact hh

/-! ### The record of a violation (R577, R579, R582) -/

theorem Sparse.find_ins_same {α : Type} (m : Sparse α) (k : Nat) (v : α) : Sparse.find? (Sparse.ins m k v) k = some v := by
  induction m with
  | nil => simp [Sparse.ins, Sparse.find?]
  | cons e r ih =>
    unfold Sparse.ins
    split
    · simp [Sparse.find?]
    · split
      · simp [Sparse.find?]
      · next hne => rw [Sparse.find?, if_neg hne, ih]

/-- What every step leaves, the steps over a list leave. -/
theorem forEach_leaves {σ α β : Type} {g : σ → β} {f : α → σ → σ} (hf : ∀ a t, g (f a t) = g t) (l : List α) (s : σ) :
    g (forEach l f s) = g s := by
  unfold forEach
  induction l generalizing s with
  | nil => rfl
  | cons a r ih => exact (ih (f a s)).trans (hf a s)

theorem State.raise_frzCur (s : State) (b i : Nat) : (s.raise b i).frzCur = s.frzCur := by
  rw [State.raise_eq]

theorem State.release_frzCur (s : State) (b : Nat) : (s.release b).frzCur = s.frzCur := by
  unfold State.release
  dsimp only
  split <;> rfl

theorem State.breakLock_frzCur (s : State) (b : Nat) : (s.breakLock b).frzCur = s.frzCur := by
  unfold State.breakLock
  split
  · rfl
  · rw [State.raise_frzCur, State.wr_frzCur, State.wr_frzCur, State.release_frzCur]

theorem State.breakLocksOf_frzCur (s : State) (m : Nat) : (s.breakLocksOf m).frzCur = s.frzCur := by
  refine forEach_leaves (g := State.frzCur) (fun b t => ?_) _ s
  split
  · exact t.breakLock_frzCur b
  · rfl

/-- What freezing does to the master itself leaves the records. -/
theorem State.stopMaster_frzCur (s : State) (m : Nat) (ran : Bool) : (s.stopMaster m ran).frzCur = s.frzCur := by
  unfold State.stopMaster
  split_ifs
  · rfl
  · rw [State.sendMsix_eq]
  · rfl
  · rfl

/-- The violation of a master that was not frozen stands in its place among the records: its kind, and that it froze. -/
theorem State.violate_record {s : State} {m : Nat} (hf : s.isFrozen m = false) (kind access : Nat) (plate : Option Nat)
    (lo hi : Nat) :
    ∃ r, Sparse.find? (s.violate m kind access plate lo hi).frzCur m = some r ∧ r.kind = kind ∧ r.frozen = true := by
  have hcur : (s.violate m kind access plate lo hi).frzCur = (s.record m kind access plate lo hi).frzCur := by
    unfold State.violate
    rw [if_neg (by simp [hf])]
    dsimp only
    rw [State.stopMaster_frzCur, State.raise_frzCur]
    exact State.breakLocksOf_frzCur _ m
  rw [hcur]
  exact ⟨_, Sparse.find_ins_same _ _ _, rfl, rfl⟩

/-! ### Locks that overrun (R65) -/

theorem exec_lockOverrun (b : Nat) (s : State) : exec (.lockOverrun b) s = .next (s.lockOverrunStep b) := rfl

/-- Settles O9: an overrun is a violation of the holder. -/
theorem lockOverrunFreezesTheHolder : Obligations.LockOverrunFreezesTheHolder := by
  intro b s hheld
  rw [exec_lockOverrun, State.lockOverrunStep]
  refine ⟨fun hlate hf => ?_, fun hin => ?_⟩
  · rw [if_neg (not_or.2 ⟨hheld, Nat.not_le.2 hlate⟩)]
    exact ⟨_, rfl, State.violate_isFrozen _ _ _ _ _ _ _, State.violate_record hf _ _ _ _ _⟩
  · rw [if_pos (.inr hin)]

/-! ### EVENT_EN, accept_path and COMPAT (R52, R74, R75, R79, R80) -/

section TitleWrites
variable {s : State} {fn : Fin 65} {b i : Nat} {k : SheetKind} (hs : sheetAt b = some (k, i))
include hs

theorem exec_eventEnableWrite_through (hw : s.writesThrough fn (b + 0x14) = true) (data : Word) :
    exec (.eventEnableWrite fn b data) s = .next (s.enableEvents b (data.toNat &&& k.enableBits)) := by
  refine congrArg _ ((State.mmioWrite_through hw _).trans ?_)
  simp only [State.eventEnableEffect, hs]

theorem exec_acceptPathWrite_through (hk : k.traced = true) (hw : s.lockedWrite fn b (b + 0x24) = true)
    (hpf : k = .ten → fn = 0) :
    exec (.acceptPathWrite fn b) s = .next (if s.heldAt b = true then
      (s.storeIntent b (s.rd b Title.seenOp) (s.rd b Title.seenMode)).restorePath k i b (s.rd b Title.seenOp) else s) := by
  have htenant : (k == .ten && fn.val != 0) = false := by
    simpa using hpf
  refine congrArg _ ((State.mmioWrite_through (State.lockedWrite_through hw) _).trans ?_)
  cases hh : s.heldAt b <;> simp [State.acceptPathEffect, hs, hk, State.lockedWrite_may hw, htenant, hh]

theorem exec_compatPrevWrite_through (hw : s.lockedWrite fn b (b + 0x8) = true) (hpf : k = .cnt → fn = 0) (prev : Bool) :
    exec (.compatPrevWrite fn b prev) s = .next (if s.offered k = 0 then s
      else if (s.offered k &&& 12) ≠ 0 ∧ s.opOf k i b ≠ opOff then s else s.wrB b Title.compatPrev prev) := by
  have htenant : ¬ (k = .cnt ∧ fn.val ≠ 0) := fun h => h.2 (congrArg Fin.val (hpf h.1))
  refine congrArg _ ((State.mmioWrite_through (State.lockedWrite_through hw) _).trans ?_)
  simp only [State.compatPrevEffect, hs, State.lockedWrite_may hw, Bool.not_true, Bool.false_eq_true, htenant, or_false]

end TitleWrites

/-- Settles O7: each clause is the meaning of one write of the title block. -/
theorem titleWritesOfEventEnableAcceptPathAndCompat : Obligations.TitleWritesOfEventEnableAcceptPathAndCompat := by
  refine ⟨fun fn b i k data s hs hw => exec_eventEnableWrite_through hs hw data, fun fn b i k s hs hk hw hpf => ?_,
    fun fn b i k prev s hs hw hpf => ?_⟩
  · rw [exec_acceptPathWrite_through hs hk hw hpf]
    exact ⟨fun hh => by rw [if_pos hh], fun hh => by rw [if_neg (by simp [hh])]⟩
  · rw [exec_compatPrevWrite_through hs hw hpf]
    refine ⟨fun hoff hnow => ?_, fun hoff => by rw [if_pos hoff]⟩
    rw [if_neg hoff, if_neg (fun hlater => hnow.elim hlater.1 hlater.2)]

/-! ### HOST_STATE of the host port and of a tenant sheet, notes and pairs (R73, R119, R122, R123, R126, R127) -/

theorem linkMode_eq_or (m : Nat) : linkMode m = m ∨ linkMode m = 0 := by
  unfold linkMode
  dsimp only
  split
  · exact .inl rfl
  · exact .inr rfl

theorem exec_hostPortHostStateWrite_through {s : State} {fn : Fin 65} (hw : s.lockedWrite fn hpB (hpB + 0x20) = true)
    (data : Word) : exec (.hostPortHostStateWrite fn data) s =
      .next (s.storeIntent hpB (intentOp data.toNat) (linkMode (bitsOf data.toNat 8 8))) := by
  refine congrArg _ ((State.mmioWrite_through (State.lockedWrite_through hw) _).trans ?_)
  rw [State.hostPortIntent, if_pos (State.lockedWrite_may hw)]

theorem exec_tenantHostStateWrite_pf {s : State} {t : Fin 64} (hw : s.lockedWrite 0 (tenB t) (tenB t + 0x20) = true)
    (data : Word) : exec (.tenantHostStateWrite 0 t data) s =
      .next (s.storeIntent (tenB t) (if data.toNat % 16 = opRunning then opRunning else opOff) 0) := by
  refine congrArg _ ((State.mmioWrite_through (State.lockedWrite_through hw) _).trans ?_)
  rw [State.tenantIntent, if_pos (by rw [Fin.val_zero, State.lockedWrite_may hw]; rfl)]

/-- Settles O10: each clause is the meaning of one request that gets through. -/
theorem intentAndNoteWritesOfTheHostPort : Obligations.IntentAndNoteWritesOfTheHostPort :=
  ⟨fun _ data _ hw => exec_hostPortHostStateWrite_through hw data, linkMode_eq_or,
    fun _ data _ hw => exec_tenantHostStateWrite_pf hw data,
    fun _ _ _ hw => congrArg _ (State.mmioWrite_through hw _),
    fun _ _ _ hw => congrArg _ (State.mmioWrite_through hw _),
    fun _ _ _ hr => congrArg _ (State.mmioRead_through hr _)⟩

/-! ### HOST_STATE of a plate and of its graver cluster (R73, R196, R663, R664) -/

theorem intentOp_cases (data : Nat) : intentOp data = opOff ∨ intentOp data = opRunning ∨ intentOp data = opQuiet := by
  unfold intentOp
  split
  · next h => exact .inr h
  · exact .inl rfl

section PlateWritten
variable {s : State} {p : Nat}

theorem State.plateWritten_running_off (h : s.plateOp p = opOff) : s.plateWritten p opRunning = s.plateStart p := by
  simp only [State.plateWritten, h, if_true]

theorem State.plateWritten_running_running (h : s.plateOp p = opRunning) (hq : s.enteringQuiet p = false) :
    s.plateWritten p opRunning = s := by
  simp [State.plateWritten, h, hq, opRunning, opOff, opQuiet]

theorem State.plateWritten_off_running (h : s.plateOp p = opRunning) :
    s.plateWritten p opOff = (s.releasePlate p).setPlateOp p opStopping := by
  simp [State.plateWritten, h, opRunning, opOff, opStarting]

theorem State.plateWritten_off_starting (h : s.plateOp p = opStarting) : s.plateWritten p opOff = s.plateStartEnds p := by
  simp [State.plateWritten, h, opRunning, opOff]

/-- QUIET on a RUNNING plate: it stops, with a quiet request from now on. -/
theorem State.plateWritten_quiet_running (h : s.plateOp p = opRunning) :
    s.plateWritten p opQuiet = { (s.releasePlate p).setPlateOp p opStopping with
      quietReqs := Sparse.ins ((s.releasePlate p).setPlateOp p opStopping).quietReqs p
        ((s.releasePlate p).setPlateOp p opStopping).now } := by
  simp [State.plateWritten, h, opRunning, opOff, opQuiet]

theorem State.plateWritten_quiet_other (h : s.plateOp p ≠ opRunning) : s.plateWritten p opQuiet = s := by
  simp only [State.plateWritten, if_neg h, show opQuiet ≠ opRunning by decide, show opQuiet ≠ opOff by decide, if_false]

end PlateWritten

theorem exec_plateHostStateWrite_through {s : State} {fn : Fin 65} {p : Fin 8}
    (hw : s.lockedWrite fn (plB p) (plB p + 0x20) = true) (data : Word) : exec (.plateHostStateWrite fn p data) s =
      .next ((s.storeIntent (plB p) (intentOp data.toNat) 0).plateWritten p (intentOp data.toNat)) := by
  refine congrArg _ ((State.mmioWrite_through (State.lockedWrite_through hw) _).trans ?_)
  rw [State.plateIntent, if_pos (State.lockedWrite_may hw)]

theorem exec_graverClusterHostStateWrite_through {s : State} {fn : Fin 65} {p : Fin 8}
    (hw : s.lockedWrite fn (gcB p) (gcB p + 0x20) = true) (data : Word) : exec (.graverClusterHostStateWrite fn p data) s =
      .next (s.storeIntent (gcB p) (intentOp data.toNat) 0) := by
  refine congrArg _ ((State.mmioWrite_through (State.lockedWrite_through hw) _).trans ?_)
  rw [State.clusterIntent, if_pos (State.lockedWrite_may hw)]

/-- Settles O22: the intent is stored, then `State.plateWritten` by the written code and the plate's state. -/
theorem plateIntentStartsStopsAndQuietsThePlate : Obligations.PlateIntentStartsStopsAndQuietsThePlate := by
  refine ⟨fun fn p data s hw => ⟨_, rfl, ?_⟩, fun fn p data s hw => exec_graverClusterHostStateWrite_through hw data,
    intentOp_cases⟩
  rw [exec_plateHostStateWrite_through hw]
  generalize s.storeIntent (plB p) (intentOp data.toNat) 0 = a
  refine ⟨fun hrun h => ⟨_, rfl, ?_⟩, fun hrun h hq => ?_, fun hoff h => ?_, fun hoff h => ?_,
    fun hquiet h => ⟨_, rfl, ?_⟩, fun hquiet h => ?_⟩
  · rw [hrun, State.plateWritten_running_off h]
    rfl
  · rw [hrun, State.plateWritten_running_running h hq]
  · rw [hoff, State.plateWritten_off_running h]
  · rw [hoff, State.plateWritten_off_starting h]
  · rw [hquiet, State.plateWritten_quiet_running h]
  · rw [hquiet, State.plateWritten_quiet_other h]

end Sys2Proof.Machine
end

section
/-! SUPPORT. The statements of 03_host_port.md: SR-IOV, function level resets, power states, the messages that a mask holds
back, link training, and the errors that are logged and counted. -/

namespace Sys2Proof.Machine

/-! ### Bits -/

theorem bitAt_eq_testBit (w i : Nat) : bitAt w i = w.testBit i := by
  simp [bitAt, Nat.testBit, Nat.and_comm 1, Nat.and_one_is_mod]

/-- A bit that is clear is set by adding its weight, in any register wide enough to hold it. -/
theorem bitAt_add_two_pow {w i n : Nat} (h : bitAt w i = false) (hi : i < n) : bitAt ((w + 2 ^ i) % 2 ^ n) i = true := by
  rw [bitAt_eq_testBit] at h ⊢
  rw [Nat.testBit_mod_two_pow, Nat.add_comm, Nat.testBit_two_pow_add_eq, h]
  simp [hi]

theorem bitAt_setBit (w i : Nat) : bitAt (setBit w i true) i = true := by
  rw [bitAt_eq_testBit, setBit, if_pos rfl, Nat.testBit_or, Nat.testBit_two_pow_self, Bool.or_true]

/-! ### The steps of a loop -/

theorem forUpTo_stays {σ : Type} {P : σ → Prop} {f : Nat → σ → σ} (hf : ∀ i t, P t → P (f i t)) {s : σ} (hs : P s)
    (n : Nat) : P (forUpTo n f s) := by
  induction n with
  | zero => exact hs
  | succ n ih => exact hf n _ ih

/-- What every step leaves, the steps over the numbers below `n` leave. -/
theorem forUpTo_leaves {σ β : Type} {g : σ → β} {f : Nat → σ → σ} (hf : ∀ i t, g (f i t) = g t) (n : Nat) (s : σ) :
    g (forUpTo n f s) = g s :=
  forUpTo_stays (P := fun t => g t = g s) (fun i t h => (hf i t).trans h) rfl n

theorem forUpTo_reaches {σ : Type} {P : σ → Prop} {f : Nat → σ → σ} {i n : Nat} (hi : i < n) (hset : ∀ t, P (f i t))
    (hf : ∀ j t, P t → P (f j t)) (s : σ) : P (forUpTo n f s) := by
  induction n with
  | zero => exact absurd hi (Nat.not_lt_zero i)
  | succ n ih =>
    rcases Nat.lt_succ_iff_lt_or_eq.1 hi with hlt | rfl
    · exact hf n _ (ih hlt)
    · exact hset _

/-- What one step of a loop sets and no step clears holds after it, where every step keeps what setting it rests on. -/
theorem forEach_reaches {σ α : Type} {I P : σ → Prop} {f : α → σ → σ} {a : α} (hI : ∀ b t, I t → I (f b t))
    (hset : ∀ t, I t → P (f a t)) (hstay : ∀ b t, I t → P t → P (f b t)) {l : List α} (ha : a ∈ l) {s : σ} (hs : I s) :
    P (forEach l f s) := by
  have hkeep : ∀ (r : List α) (t : σ), I t → P t → P (forEach r f t) := by
    intro r
    induction r with
    | nil => exact fun _ _ hp => hp
    | cons b r ih => exact fun t hi hp => ih (f b t) (hI b t hi) (hstay b t hi hp)
  induction l generalizing s with
  | nil => cases ha
  | cons b r ih =>
    rcases List.mem_cons.1 ha with rfl | har
    · exact hkeep r _ (hI a s hs) (hset s hs)
    · exact ih har (hI b s hs)

/-! ### Link training (R119, R121) -/

theorem exec_aspmL1Entry (s : State) : exec .aspmL1Entry s =
    .next (if s.linkUp && bitAt (s.pfWord 0x70) 1 then s.wr hpB Reg.hpLinkInL1 1 else s) := rfl

theorem linkMode_of_legal {w sp : Nat} (hw : w = 1 ∨ w = 2 ∨ w = 4) (hs : sp = 1 ∨ sp = 2 ∨ sp = 3) :
    linkMode (w + 16 * sp) = w + 16 * sp := by
  have hmod : (w + 16 * sp) % 16 = w := by omega
  have hdiv : (w + 16 * sp) / 16 = sp := by omega
  simp only [linkMode, hmod, hdiv, hw, hs, and_self, if_true]

/-- The host port's registers once the link has come up with width `w` and speed `sp`. -/
def State.linkRegs (s : State) (w sp : Nat) : State :=
  ((((s.wr hpB Reg.hpLinkWidth w).wr hpB Reg.hpLinkSpeed sp).wr hpB Reg.hpLinkUp 1).wr hpB Title.stateOp opRunning).wr hpB
    Title.stateMode (w + 16 * sp)

/-- And with the transmitter active. -/
def State.linkedAt (s : State) (w sp : Nat) : State :=
  { s.linkRegs w sp with pins := { (s.linkRegs w sp).pins with pcieTxIdle := false } }

/-- The port's state `u` once the link that was as `s` says is announced to have width `w` and speed `sp` (R121). -/
def State.announceLink (s u : State) (w sp : Nat) : State :=
  if s.isSet hpB Reg.hpLinkUp = true then
    if s.rd hpB Reg.hpLinkWidth ≠ w ∨ s.rd hpB Reg.hpLinkSpeed ≠ sp then u.raise hpB 2 else u
  else u.raise hpB 1

theorem exec_linkTrained {width speed : BitVec 4} {s : State} (hm : s.mayTrain = true)
    (hw : width.toNat = 1 ∨ width.toNat = 2 ∨ width.toNat = 4) (hs : speed.toNat = 1 ∨ speed.toNat = 2 ∨ speed.toNat = 3) :
    exec (.linkTrained width speed) s =
      .next (s.announceLink (s.linkedAt width.toNat speed.toNat) width.toNat speed.toNat) := by
  change execLinkTrained width speed s = _
  have hmode : width.toNat + 16 * speed.toNat ≠ 0 := by omega
  simp only [execLinkTrained, linkMode_of_legal hw hs, hmode, hm, Bool.not_true, Bool.false_eq_true, or_self, if_false,
    Bool.or_eq_true, bne_iff_ne]
  rfl

theorem State.rd_linkedAt (s : State) (w sp b : Nat) (r : Row) : (s.linkedAt w sp).rd b r = (s.linkRegs w sp).rd b r := rfl

theorem State.linkedAt_wf {s : State} (h : Sparse.wf s.regs = true) (w sp : Nat) :
    Sparse.wf (s.linkedAt w sp).regs = true := by
  change Sparse.wf (s.linkRegs w sp).regs = true
  unfold State.linkRegs
  iterate 5 refine State.wr_wf ?_ _ _ _ _
  exact h

/-- The port RUNNING on a link of width `w` and speed `sp`. -/
def State.RunsAt (t : State) (w sp : Nat) : Prop :=
  t.isSet hpB Reg.hpLinkUp = true ∧ t.rd hpB Reg.hpLinkWidth = w ∧ t.rd hpB Reg.hpLinkSpeed = sp ∧
    t.rd hpB Title.stateOp = opRunning ∧ t.rd hpB Title.stateMode = w + 16 * sp ∧ t.pins.pcieTxIdle = false

theorem State.linkedAt_runsAt {s : State} (h : Sparse.wf s.regs = true) {w sp : Nat} (hw : w < 16) (hs : sp < 16) :
    (s.linkedAt w sp).RunsAt w sp := by
  have hwidth := State.wr_wf h hpB Reg.hpLinkWidth w 0
  have hspeed := State.wr_wf hwidth hpB Reg.hpLinkSpeed sp 0
  have hup := State.wr_wf hspeed hpB Reg.hpLinkUp 1 0
  have hop := State.wr_wf hup hpB Title.stateOp opRunning 0
  simp (disch := decide) only [State.RunsAt, State.isSet, State.rd_linkedAt, State.linkRegs, State.rd_wr_apart, beq_iff_eq]
  exact ⟨State.rd_wr_same hspeed _ _ _ _, (State.rd_wr_same h _ _ _ _).trans (Nat.mod_eq_of_lt hw),
    (State.rd_wr_same hwidth _ _ _ _).trans (Nat.mod_eq_of_lt hs), State.rd_wr_same hup _ _ _ _,
    (State.rd_wr_same hop _ _ _ _).trans (Nat.mod_eq_of_lt (show w + 16 * sp < 256 by omega)), rfl⟩

theorem State.linkedAt_event (s : State) (w sp : Nat) :
    (s.linkedAt w sp).rd hpB Title.event = s.rd hpB Title.event := by
  simp (disch := decide) only [State.rd_linkedAt, State.linkRegs, State.rd_wr_apart]

/-- Announcing the link leaves it as it is. -/
theorem State.RunsAt.raise {t : State} {w sp : Nat} (h : t.RunsAt w sp) (hwf : Sparse.wf t.regs = true) (i : Nat) :
    (t.raise hpB i).RunsAt w sp := by
  have hpins : (t.raise hpB i).pins = t.pins := by rw [State.raise_eq]
  simp (disch := decide) only [State.RunsAt, State.isSet, State.rd_raise_apart hwf, hpins]
  exact h

theorem State.RunsAt.announce {u : State} {w sp : Nat} (h : u.RunsAt w sp) (hwf : Sparse.wf u.regs = true) (s : State) :
    (s.announceLink u w sp).RunsAt w sp := by
  unfold State.announceLink
  split
  · split
    · exact h.raise hwf 2
    · exact h
  · exact h.raise hwf 1

/-- An event that becomes pending is seen in EVENT, as is one that was pending (R52). -/
theorem State.bitAt_raise {s : State} (h : Sparse.wf s.regs = true) (b : Nat) {i : Nat} (hi : i < 32) :
    bitAt ((s.raise b i).rd b Title.event) i = true := by
  unfold State.raise
  split
  · assumption
  · next hclear =>
    have hirq : ∀ t : State, (t.assertIrq b).rd b Title.event = t.rd b Title.event := fun t => by
      simp only [State.rd, State.assertIrq_regs]
    have hset : bitAt ((s.wr b Title.event (s.rd b Title.event + 2 ^ i)).rd b Title.event) i = true := by
      rw [State.rd_wr_same h]
      exact bitAt_add_two_pow (by simpa using hclear) hi
    dsimp only
    split
    · rw [hirq]
      exact hset
    · exact hset

/-- Settles O16: the port runs on the link that `State.linkedAt` sets up, and announcing that touches EVENT alone. -/
theorem linkTrainingSetsWidthSpeedAndState : Obligations.LinkTrainingSetsWidthSpeedAndState := by
  refine ⟨fun width speed s hm hinv hw hs => ?_, fun s => ⟨fun hl h1 => ?_, fun h1 => ?_⟩⟩
  · have hwf := State.linkedAt_wf hinv.regs width.toNat speed.toNat
    obtain ⟨rup, rwidth, rspeed, rop, rmode, hpin⟩ :=
      (State.linkedAt_runsAt hinv.regs width.isLt speed.isLt).announce hwf s
    refine ⟨_, exec_linkTrained hm hw hs, rup, rwidth, rspeed, rop, rmode, hpin, fun hdown => ?_, fun hup hne => ?_,
      fun hup hw' hs' => ?_⟩
    · rw [State.announceLink, if_neg (by simp [hdown])]
      exact State.bitAt_raise hwf hpB (by decide)
    · rw [State.announceLink, if_pos hup, if_pos hne]
      exact State.bitAt_raise hwf hpB (by decide)
    · rw [State.announceLink, if_pos hup, if_neg (by simp [hw', hs'])]
      exact s.linkedAt_event _ _
  · rw [exec_aspmL1Entry, hl, h1]
    rfl
  · rw [exec_aspmL1Entry, h1, Bool.and_false]
    rfl

/-! ### Messages (R114) -/

theorem Sparse.ins_ins_same {α : Type} (m : Sparse α) (k : Nat) (v w : α) :
    Sparse.ins (Sparse.ins m k v) k w = Sparse.ins m k w := by
  induction m with
  | nil => simp [Sparse.ins]
  | cons e r ih =>
    by_cases hlt : k < e.1
    · simp [Sparse.ins, hlt]
    · by_cases heq : e.1 = k
      · simp [Sparse.ins, heq]
      · simp [Sparse.ins, hlt, heq, ih]

/-- A value other than the default is listed, be the store canonical or not. -/
theorem Sparse.get_put_same {α : Type} [DecidableEq α] {d v : α} (h : v ≠ d) (m : Sparse α) (k : Nat) :
    Sparse.get d (Sparse.put d m k v) k = v := by
  rw [Sparse.get, Sparse.put, if_neg h, Sparse.find_ins_same, Option.getD_some]

theorem Sparse.put_put_same {α : Type} [DecidableEq α] {d v w : α} (hv : v ≠ d) (hw : w ≠ d) (m : Sparse α) (k : Nat) :
    Sparse.put d (Sparse.put d m k v) k w = Sparse.put d m k w := by
  rw [Sparse.put, Sparse.put, Sparse.put, if_neg hv, if_neg hw, if_neg hw, Sparse.ins_ins_same]

/-- An entry whose mask bit is clear is not the one that a reset leaves. -/
theorem MsixEntry.ne_of_unmasked {e : MsixEntry} (h : e.masked = false) : e ≠ {} :=
  fun he => by simp [he] at h

/-- Nor is one whose PBA bit is set. -/
theorem MsixEntry.ne_of_pba {e : MsixEntry} (h : e.pba = true) : e ≠ {} :=
  fun he => by simp [he] at h

theorem State.vector_setVector_same {e : MsixEntry} (h : e ≠ {}) (s : State) (fn vec : Nat) :
    (s.setVector fn vec e).vector fn vec = e := Sparse.get_put_same h _ _

theorem State.setVector_setVector {e e' : MsixEntry} (h : e ≠ {}) (h' : e' ≠ {}) (s : State) (fn vec : Nat) :
    (s.setVector fn vec e).setVector fn vec e' = s.setVector fn vec e' := by
  simp only [State.setVector, Sparse.put_put_same h h']

/-- Once its entry is unmasked, a vector is masked where its function is. -/
theorem State.vecMasked_setVector {e : MsixEntry} (h : e.masked = false) (s : State) (fn vec : Nat) :
    (s.setVector fn vec e).vecMasked fn vec = if fn = 0 then s.pf.msixMask else (s.vf fn).msixMask := by
  rw [State.vecMasked, State.vector_setVector_same (MsixEntry.ne_of_unmasked h), h, Bool.false_or]
  rfl

theorem State.msixAllowed_setVector (s : State) (fn vec fn' : Nat) (e : MsixEntry) :
    (s.setVector fn vec e).msixAllowed fn' = s.msixAllowed fn' := rfl

/-- Unmasking sends what is pending where nothing else holds it back. -/
theorem State.msixUnmaskEffect_eq (s : State) (fn vec : Nat) :
    s.msixUnmaskEffect fn vec =
      if (s.vector fn vec).pba = true ∧ (if fn = 0 then s.pf.msixMask else (s.vf fn).msixMask) = false ∧
          s.msixAllowed fn = true then
        (s.setVector fn vec { s.vector fn vec with masked := false, pba := false }).emit (.msix fn vec)
      else s.setVector fn vec { s.vector fn vec with masked := false } := by
  rw [State.msixUnmaskEffect]
  simp only [State.vecMasked_setVector, State.msixAllowed_setVector, Bool.and_eq_true, Bool.not_eq_true', and_assoc]
  rw [State.setVector_setVector (MsixEntry.ne_of_unmasked rfl) (MsixEntry.ne_of_unmasked rfl)]

theorem exec_msixUnmask {fn : Fin 65} {vec : Nat} {s : State} (hl : s.linkUp = true) (ha : s.fnAnswers fn = true)
    (hp : fn.val ≠ 0 → s.plateEnabled ((fn.val - 1) / 8) = true) (hf : s.isFrozen (masterOfFn fn) = false)
    (hv : vec < if fn.val = 0 then 64 else 4) :
    exec (.msixUnmask fn vec) s = .next (s.msixUnmaskEffect fn vec) := by
  change execMsixUnmask fn vec s = _
  rw [execMsixUnmask, if_neg (by simp [hl]), if_neg (by simp [ha]), if_neg (State.not_plateDisabled hp),
    if_neg (by simp [hf]), if_pos hv]

/-- A function that may send messages is the PF or a live VF. -/
theorem State.live_of_msixAllowed {s : State} {fn : Nat} (h : s.msixAllowed fn = true) :
    (fn != 0 && !s.vfLive fn) = false := by
  by_cases h0 : fn = 0
  · rw [h0]
    rfl
  · rw [State.msixAllowed, if_neg h0] at h
    simp only [Bool.and_eq_true] at h
    obtain ⟨-, ⟨hlive, -⟩, -⟩ := h
    rw [hlive, Bool.not_true, Bool.and_false]

theorem State.sendMsix_masked {s : State} {fn vec : Nat} (ha : s.msixAllowed fn = true) (hm : s.vecMasked fn vec = true) :
    s.sendMsix fn vec = s.setVector fn vec { s.vector fn vec with pba := true } := by
  rw [State.sendMsix, State.live_of_msixAllowed ha, hm, Bool.or_true]
  rfl

/-- Settles O11: `State.msixUnmaskEffect` by what else holds the message back, and `State.sendMsix` of a masked vector. -/
theorem maskedMessagesWaitForTheirVector : Obligations.MaskedMessagesWaitForTheirVector := by
  refine ⟨fun fn vec s hl ha hp hf hv => ?_, fun fn vec s ha hm => ?_⟩
  · rw [exec_msixUnmask hl ha hp hf hv, State.msixUnmaskEffect_eq]
    refine ⟨fun hpba hmask hall => ?_, fun hheld => ?_⟩
    · rw [if_pos ⟨hpba, hmask, hall⟩]
    · rw [if_neg]
      rintro ⟨hpba, hmask, hall⟩
      rcases hheld with h | h | h
      · exact Bool.false_ne_true (h.symm.trans hpba)
      · exact Bool.false_ne_true (hmask.symm.trans h)
      · exact Bool.false_ne_true (h.symm.trans hall)
  · rw [State.sendMsix_masked ha hm, State.vector_setVector_same (MsixEntry.ne_of_pba rfl)]
    exact ⟨rfl, rfl⟩

/-! ### VF Enable and the power states (R92, R110, R111) -/

theorem exec_vfEnableSet (s : State) : exec .vfEnableSet s = .next (s.cfgRequest 0 State.vfEnableOn) := rfl

theorem exec_vfEnableClear (s : State) : exec .vfEnableClear s = .next (s.cfgRequest 0 State.vfEnableOff) := rfl

theorem exec_d3hotEntry (s : State) : exec .d3hotEntry s = .next (s.cfgRequest 0 State.toD3hot) := rfl

theorem exec_d0Return (s : State) : exec .d0Return s = .next (s.cfgRequest 0 State.toD0) := rfl

theorem State.toD3hot_fnAnswers (s : State) (fn : Nat) : s.toD3hot.fnAnswers fn = false := by
  unfold State.fnAnswers State.toD3hot
  split <;> simp

theorem State.toD3hot_msixAllowed (s : State) : s.toD3hot.msixAllowed 0 = false := by
  simp [State.msixAllowed, State.toD3hot]

/-- Settles O13: each request reaches the PF's configuration space, and its effect there is the model's own. -/
theorem vfEnableAndPowerStates : Obligations.VfEnableAndPowerStates := by
  intro s ha hb
  rw [exec_vfEnableSet, exec_vfEnableClear, exec_d3hotEntry, exec_d0Return]
  simp only [State.cfgRequest_pf ha hb]
  refine ⟨fun hoff => ?_, fun hon => ?_, ⟨_, rfl, rfl, s.toD3hot_fnAnswers, s.toD3hot_msixAllowed⟩, rfl⟩
  · rw [State.vfEnableOn, if_neg (by simp [hoff])]
  · rw [State.vfEnableOff, if_pos hon]

/-! ### What breaking locks and stopping a VF leave -/

/-- A state without what breaking locks can change: registers, messages and the life cycle's request sequence. -/
def State.sansLocks (s : State) : State := { s with regs := [], msix := [], out := [], lockSince := [], life := {} }

/-- A state without the host port's stores of FLRs, error registers, VFs and rings. -/
def State.sansStores (s : State) : State := { s with flrs := [], aers := [], vfs := [], dmaTens := [] }

/-- A state without what an FLR of a VF can change. -/
def State.sansVfs (s : State) : State := s.sansLocks.sansStores

theorem State.wr_sansLocks (s : State) (b : Nat) (r : Row) (v i : Nat) : (s.wr b r v i).sansLocks = s.sansLocks := rfl

theorem State.raise_sansLocks (s : State) (b i : Nat) : (s.raise b i).sansLocks = s.sansLocks := by
  rw [State.raise_eq]
  rfl

theorem State.release_sansLocks (s : State) (b : Nat) : (s.release b).sansLocks = s.sansLocks := by
  unfold State.release
  dsimp only
  split <;> rfl

theorem State.breakLock_sansLocks (s : State) (b : Nat) : (s.breakLock b).sansLocks = s.sansLocks := by
  unfold State.breakLock
  split
  · rfl
  · rw [State.raise_sansLocks, State.wr_sansLocks, State.wr_sansLocks, State.release_sansLocks]

theorem State.breakLocksOf_sansLocks (s : State) (m : Nat) : (s.breakLocksOf m).sansLocks = s.sansLocks := by
  refine forEach_leaves (g := State.sansLocks) (fun b t => ?_) _ s
  split
  · exact t.breakLock_sansLocks b
  · rfl

theorem State.sansVfs_of_sansLocks {s t : State} (h : t.sansLocks = s.sansLocks) : t.sansVfs = s.sansVfs :=
  congrArg State.sansStores h

theorem State.flrBegin_sansLocks (s : State) (fn : Nat) :
    (s.flrBegin fn).sansLocks = { s.sansLocks with flrs := Sparse.ins s.flrs fn { start := s.now } } :=
  State.breakLocksOf_sansLocks _ _

theorem State.flrBegin_flrs (s : State) (fn : Nat) :
    (s.flrBegin fn).flrs = Sparse.ins s.flrs fn { start := s.now } :=
  (congrArg State.flrs (s.flrBegin_sansLocks fn) :)

theorem State.flrBegin_pf (s : State) (fn : Nat) : (s.flrBegin fn).pf = s.pf :=
  (congrArg State.pf (s.flrBegin_sansLocks fn) :)

theorem State.pf_of_sansVfs {s t : State} (h : t.sansVfs = s.sansVfs) : t.pf = s.pf := (congrArg State.pf h :)

theorem State.fuses_of_sansVfs {s t : State} (h : t.sansVfs = s.sansVfs) : t.fuses = s.fuses := (congrArg State.fuses h :)

theorem State.bump_sansVfs (s : State) (b : Nat) (r : Row) (i n : Nat) : (s.bump b r i n).sansVfs = s.sansVfs := rfl

theorem State.bumpSat_sansVfs (s : State) (b : Nat) (r : Row) (i n : Nat) : (s.bumpSat b r i n).sansVfs = s.sansVfs := rfl

theorem State.setRing_sansVfs (s : State) (t : Nat) (v : DmaTen) : (s.setRing t v).sansVfs = s.sansVfs := rfl

theorem State.raise_sansVfs (s : State) (b i : Nat) : (s.raise b i).sansVfs = s.sansVfs :=
  State.sansVfs_of_sansLocks (s.raise_sansLocks b i)

theorem State.abandonOps_sansVfs (s : State) (t : Nat) : (s.abandonOps t).sansVfs = s.sansVfs := by
  unfold State.abandonOps
  dsimp only
  split
  · rw [State.setRing_sansVfs]
  · rw [State.raise_sansVfs, State.raise_sansVfs, State.bumpSat_sansVfs, State.bump_sansVfs, State.setRing_sansVfs]

/-- What a completed drain marks of the FLR of function `fn`, before the ring is emptied. -/
def State.markDrained (s : State) (fn : Nat) : State :=
  match Sparse.find? s.flrs fn with
  | some f => { s with flrs := Sparse.ins s.flrs fn { f with drained := true } }
  | none => s

theorem State.flrDrain_pf (s : State) : s.flrDrain 0 = s.markDrained 0 := rfl

theorem State.flrDrain_vf {fn : Nat} (h : fn ≠ 0) (s : State) : s.flrDrain fn = (s.markDrained fn).abandonOps (fn - 1) := by
  rw [State.flrDrain, if_neg h]
  rfl

theorem State.markDrained_sansVfs (s : State) (fn : Nat) : (s.markDrained fn).sansVfs = s.sansVfs := by
  unfold State.markDrained
  split <;> rfl

theorem State.wr_sansVfs (s : State) (b : Nat) (r : Row) (v i : Nat) : (s.wr b r v i).sansVfs = s.sansVfs := rfl

theorem State.flrEnd_sansVfs {n : Nat} (h : n ≠ 0) (s : State) : (s.flrEnd n).sansVfs = s.sansVfs := by
  rw [State.flrEnd, if_neg h, State.clearVfFields, State.wr_sansVfs, State.wr_sansVfs, State.wr_sansVfs]
  rfl

theorem State.vfStops_sansVfs {n : Nat} (h : n ≠ 0) (s : State) : (s.vfStops n).sansVfs = s.sansVfs := by
  rw [State.vfStops, State.flrEnd_sansVfs h, State.flrDrain_vf h, State.abandonOps_sansVfs, State.markDrained_sansVfs]
  exact (congrArg State.sansStores (s.flrBegin_sansLocks n) :)

/-- Stopping VFs leaves the PF, the fuses and every block but the host port's own stores. -/
theorem State.stopVfs_sansVfs (before s : State) : (before.stopVfs s).sansVfs = s.sansVfs := by
  refine forUpTo_leaves (g := State.sansVfs) (fun t u => ?_) 64 s
  split
  · exact State.vfStops_sansVfs (Nat.succ_ne_zero t) u
  · split <;> rfl

/-! ### NumVFs (R90) -/

theorem exec_numvfsWrite (n : Nat) (s : State) :
    exec (.numvfsWrite n) s = .next (s.cfgRequest 0 (fun t => t.numVfsEffect (n % 2 ^ 16))) := rfl

/-- Of the PF's configuration space, a write of NumVFs changes that field alone; the fuses stay. -/
theorem State.numVfsEffect_fields (s : State) (n : Nat) :
    (s.numVfsEffect n).pf = { s.pf with numVfs := min n s.fuses.vfLimit } ∧ (s.numVfsEffect n).fuses = s.fuses := by
  rw [State.numVfsEffect, State.pf_of_sansVfs (State.stopVfs_sansVfs _ _), State.fuses_of_sansVfs (State.stopVfs_sansVfs _ _)]
  exact ⟨rfl, rfl⟩

/-- Settles O12: the stored number is the lesser of the written one and TotalVFs. -/
theorem numVfsIsLimitedToTotalVfs : Obligations.NumVfsIsLimitedToTotalVfs := by
  intro n s ha hb hn
  rw [exec_numvfsWrite, State.cfgRequest_pf ha hb, Nat.mod_eq_of_lt (b := 2 ^ 16) hn]
  obtain ⟨hpf, hfuses⟩ := s.numVfsEffect_fields n
  refine ⟨fun hlimit => ⟨_, rfl, ?_, ?_, hfuses⟩, fun hlimit => ⟨_, rfl, ?_, ?_, hfuses⟩⟩ <;> rw [hpf]
  · exact Nat.min_eq_right (Nat.le_of_lt hlimit)
  · exact Nat.min_eq_left hlimit

/-! ### The stores of the host port -/

theorem Sparse.mem_of_find {α : Type} {m : Sparse α} {k : Nat} {v : α} (h : Sparse.find? m k = some v) : (k, v) ∈ m := by
  induction m with
  | nil => cases h
  | cons e r ih =>
    rw [Sparse.find?] at h
    split at h
    · next hk =>
      obtain rfl := Option.some.inj h
      exact hk ▸ List.mem_cons_self
    · exact List.mem_cons_of_mem _ (ih h)

/-- A canonical store lists a key once. -/
theorem Sparse.filter_key {α : Type} {m : Sparse α} (hwf : Sparse.wf m = true) {k : Nat} {v : α}
    (h : Sparse.find? m k = some v) : m.filter (fun e => e.1 == k) = [(k, v)] := by
  induction m with
  | nil => cases h
  | cons e r ih =>
    obtain ⟨habove, hr⟩ := (Sparse.wf_cons e r).1 hwf
    rw [Sparse.find?] at h
    split at h
    · next hk =>
      obtain rfl := Option.some.inj h
      have hrest : r.filter (fun e => e.1 == k) = [] :=
        List.filter_eq_nil_iff.2 (fun x hx => by simpa using Nat.ne_of_gt (hk ▸ habove x hx))
      rw [List.filter_cons, if_pos (by simpa using hk), hrest, ← hk]
    · next hk => rw [List.filter_cons, if_neg (by simpa using hk), ih hr h]

theorem dropKeys_cons {α : Type} (lo hi : Nat) (e : Nat × α) (r : Sparse α) :
    dropKeys lo hi (e :: r) = if lo ≤ e.1 ∧ e.1 < hi then dropKeys lo hi r else e :: dropKeys lo hi r := by
  unfold dropKeys
  rw [List.filter_cons]
  by_cases h : lo ≤ e.1 ∧ e.1 < hi
  · rw [if_pos h, if_neg (by simp [h])]
  · rw [if_neg h, if_pos (by simp only [Bool.not_eq_true', Bool.and_eq_false_iff, decide_eq_false_iff_not]; omega)]

theorem Sparse.find_dropKeys {α : Type} (lo hi k : Nat) (m : Sparse α) :
    Sparse.find? (dropKeys lo hi m) k = if lo ≤ k ∧ k < hi then none else Sparse.find? m k := by
  induction m with
  | nil => simp [dropKeys, Sparse.find?]
  | cons e r ih =>
    rw [dropKeys_cons, Sparse.find?]
    by_cases hk : e.1 = k
    · subst hk
      by_cases hdrop : lo ≤ e.1 ∧ e.1 < hi
      · rw [if_pos hdrop, ih, if_pos hdrop, if_pos hdrop]
      · rw [if_neg hdrop, if_neg hdrop, Sparse.find?, if_pos rfl, if_pos rfl]
    · rw [if_neg hk, ← ih]
      split
      · rfl
      · rw [Sparse.find?, if_neg hk]

theorem Sparse.isSome_find_ins {α : Type} {m : Sparse α} {j : Nat} (h : (Sparse.find? m j).isSome = true) (k : Nat) (v : α) :
    (Sparse.find? (Sparse.ins m k v) j).isSome = true := by
  by_cases hj : j = k
  · rw [hj, Sparse.find_ins_same]
    rfl
  · rwa [Sparse.find_ins_ne hj]

/-! ### A function level reset begins (R106, R108, R109) -/

theorem exec_vfFlr (t : Fin 64) (s : State) :
    exec (.vfFlr t) s = .next (s.cfgRequest (t + 1) (fun u => u.flrBegin (t + 1))) := rfl

theorem exec_pfFlr (s : State) : exec .pfFlr s = .next (s.cfgRequest 0 State.pfFlrBegin) := rfl

/-- A VF that VF Enable and NumVFs give answers configuration requests while no FLR of it is in progress. -/
theorem State.cfgRequest_vf {s : State} {fn : Nat} (ha : s.cfgAnswers = true) (hv : s.pf.vfEnable = true)
    (hn : fn ≤ s.pf.numVfs) (hb : s.flrBusy fn = false) (f : State → State) : s.cfgRequest fn f = f s := by
  simp only [State.cfgAnswers, Bool.and_eq_true] at ha
  obtain ⟨hready, hlink⟩ := ha
  simp [State.cfgRequest, State.fnExists, hready, hlink, hb, hv, hn]

theorem State.fnAnswers_of_flrBusy {s : State} {fn : Nat} (h : s.flrBusy fn = true) : s.fnAnswers fn = false := by
  unfold State.fnAnswers
  split
  · next h0 => simp [← h0, h]
  · simp [h]

theorem State.flrBegin_flrBusy (s : State) (fn : Nat) : (s.flrBegin fn).flrBusy fn = true := by
  rw [State.flrBusy, State.flrBegin_flrs, Sparse.find_ins_same]
  rfl

theorem State.flrBegin_stays {s : State} {n : Nat} (h : s.flrBusy n = true) (fn : Nat) : (s.flrBegin fn).flrBusy n = true := by
  rw [State.flrBusy, State.flrBegin_flrs]
  exact Sparse.isSome_find_ins h _ _

/-- The PF's FLR takes VF `v + 1` of `s` with it, in the state `u` that the VFs before have left. -/
def State.flrBeginWithPf (s : State) (v : Nat) (u : State) : State :=
  if s.vfLive (v + 1) && !u.flrBusy (v + 1) then
    { u.flrBegin (v + 1) with
      flrs := Sparse.ins (u.flrBegin (v + 1)).flrs (v + 1) { start := (u.flrBegin (v + 1)).now, withPf := true } }
  else u

theorem State.pfFlrBegin_eq (s : State) :
    s.pfFlrBegin = (forUpTo 64 s.flrBeginWithPf (s.flrBegin 0)).clearVfEnable := rfl

theorem State.flrBeginWithPf_stays {s u : State} {n : Nat} (h : u.flrBusy n = true) (v : Nat) :
    (s.flrBeginWithPf v u).flrBusy n = true := by
  unfold State.flrBeginWithPf
  split
  · exact Sparse.isSome_find_ins (State.flrBegin_stays h (v + 1)) _ _
  · exact h

theorem State.flrBeginWithPf_live {s : State} {v : Nat} (h : s.vfLive (v + 1) = true) (u : State) :
    (s.flrBeginWithPf v u).flrBusy (v + 1) = true := by
  unfold State.flrBeginWithPf
  split
  · exact Sparse.isSome_find_ins (u.flrBegin_flrBusy (v + 1)) _ _
  · next hbusy => simpa [h] using hbusy

theorem State.raise_flrs (s : State) (b i : Nat) : (s.raise b i).flrs = s.flrs := by
  rw [State.raise_eq]

theorem State.raise_pf (s : State) (b i : Nat) : (s.raise b i).pf = s.pf := by
  rw [State.raise_eq]

theorem State.raise_flrBusy (s : State) (b i fn : Nat) : (s.raise b i).flrBusy fn = s.flrBusy fn := by
  rw [State.flrBusy, State.raise_flrs]
  rfl

theorem State.clearVfEnable_flrBusy (s : State) (fn : Nat) : s.clearVfEnable.flrBusy fn = s.flrBusy fn := by
  unfold State.clearVfEnable
  split
  · exact State.raise_flrBusy _ _ _ _
  · rfl

theorem State.clearVfEnable_vfEnable (s : State) : s.clearVfEnable.pf.vfEnable = false := by
  unfold State.clearVfEnable
  split
  · rw [State.raise_pf]
  · next h => simpa using h

/-- The FLRs that are in progress once the PF's has begun. -/
theorem State.pfFlrBegin_flrBusy (s : State) : s.pfFlrBegin.flrBusy 0 = true ∧
    ∀ v < 64, s.vfLive (v + 1) = true → s.pfFlrBegin.flrBusy (v + 1) = true := by
  rw [State.pfFlrBegin_eq]
  simp only [State.clearVfEnable_flrBusy]
  refine ⟨forUpTo_stays (P := fun u : State => u.flrBusy 0 = true) (fun v u h => State.flrBeginWithPf_stays h v)
    (s.flrBegin_flrBusy 0) 64, fun v hv hlive => ?_⟩
  exact forUpTo_reaches (P := fun u : State => u.flrBusy (v + 1) = true) hv (State.flrBeginWithPf_live hlive)
    (fun j u h => State.flrBeginWithPf_stays h j) _

/-! ### The drain of a function level reset (R108, R109) -/

theorem exec_flrDrainComplete {s : State} {fn : Fin 65} {f : Flr} (hf : Sparse.find? s.flrs fn = some f)
    (hw : f.withPf = false) (hd : f.drained = false) :
    exec (.flrDrainComplete fn) s = .next (forEach (s.flrGroup fn) (fun n t => t.flrDrain n) s) := by
  change execFlrDrainComplete fn s = _
  simp only [execFlrDrainComplete, hf, hw, hd, Bool.or_self, Bool.false_eq_true, if_false]

/-- An FLR whose drain has completed. -/
def Flr.marked (f : Flr) : Flr := { f with drained := true }

theorem Flr.map_marked_marked (o : Option Flr) : (o.map Flr.marked).map Flr.marked = o.map Flr.marked := by
  cases o <;> rfl

theorem State.markDrained_find (s : State) (fn n : Nat) :
    Sparse.find? (s.markDrained fn).flrs n =
      if n = fn then (Sparse.find? s.flrs n).map Flr.marked else Sparse.find? s.flrs n := by
  unfold State.markDrained
  by_cases hn : n = fn
  · subst hn
    rw [if_pos rfl]
    split
    · next f hf =>
      rw [hf]
      exact Sparse.find_ins_same _ _ _
    · next hf => rw [hf, Option.map_none]
  · rw [if_neg hn]
    split
    · exact Sparse.find_ins_ne hn _ _
    · rfl

theorem State.raise_dmaTens (s : State) (b i : Nat) : (s.raise b i).dmaTens = s.dmaTens := by
  rw [State.raise_eq]

theorem State.abandonOps_flrs (s : State) (t : Nat) : (s.abandonOps t).flrs = s.flrs := by
  unfold State.abandonOps
  dsimp only
  split
  · rfl
  · rw [State.raise_flrs, State.raise_flrs]
    rfl

/-- What abandoning a tenant's operations leaves of its ring. -/
def DmaTen.abandoned (r : DmaTen) : DmaTen :=
  if r.ops.length = 0 then { r with pos := none }
  else { late := r.late ++ r.ops.flatMap (fun o => o.reads.map (fun e => (o.idx, e.1))) }

theorem DmaTen.abandoned_ops (r : DmaTen) : r.abandoned.ops = [] := by
  unfold DmaTen.abandoned
  split
  · next h => exact List.length_eq_zero_iff.1 h
  · rfl

theorem State.abandonOps_dmaTens (s : State) (t : Nat) :
    (s.abandonOps t).dmaTens = Sparse.put {} s.dmaTens t (s.ring t).abandoned := by
  unfold State.abandonOps DmaTen.abandoned
  dsimp only
  split
  · rfl
  · rw [State.raise_dmaTens, State.raise_dmaTens]
    rfl

/-- A tenant whose operations are abandoned has none left; the others keep theirs. -/
theorem State.abandonOps_ring_ops {s : State} (h : Sparse.wf s.dmaTens = true) (t k : Nat) :
    ((s.abandonOps t).ring k).ops = if k = t then [] else (s.ring k).ops := by
  rw [State.ring, State.abandonOps_dmaTens, Sparse.get_put h]
  split
  · exact DmaTen.abandoned_ops _
  · rfl

theorem State.flrDrain_find (s : State) (fn n : Nat) :
    Sparse.find? (s.flrDrain fn).flrs n =
      if n = fn then (Sparse.find? s.flrs n).map Flr.marked else Sparse.find? s.flrs n := by
  rw [← s.markDrained_find]
  by_cases h : fn = 0
  · subst h
    rfl
  · rw [State.flrDrain_vf h, State.abandonOps_flrs]

theorem State.markDrained_dmaTens (s : State) (fn : Nat) : (s.markDrained fn).dmaTens = s.dmaTens := by
  unfold State.markDrained
  split <;> rfl

/-- The drain of a VF's FLR leaves its tenant's ring no operation; that of the PF's own leaves every ring. -/
theorem State.flrDrain_ring_ops {s : State} (h : Sparse.wf s.dmaTens = true) (fn k : Nat) :
    ((s.flrDrain fn).ring k).ops = if fn = k + 1 then [] else (s.ring k).ops := by
  by_cases h0 : fn = 0
  · rw [h0, if_neg (Nat.succ_ne_zero k).symm, State.flrDrain_pf, State.ring, State.markDrained_dmaTens]
    rfl
  · have hk : k = fn - 1 ↔ fn = k + 1 := by omega
    rw [State.flrDrain_vf h0, State.abandonOps_ring_ops (by rwa [State.markDrained_dmaTens])]
    simp only [hk, State.ring, State.markDrained_dmaTens]

/-- Every FLR that a drain takes is marked. -/
theorem State.find_drained {l : List Nat} {n : Nat} (hn : n ∈ l) {s : State} {g : Flr}
    (hg : Sparse.find? s.flrs n = some g) :
    Sparse.find? (forEach l (fun m t => t.flrDrain m) s).flrs n = some g.marked := by
  refine forEach_reaches (I := fun t : State => (Sparse.find? t.flrs n).map Flr.marked = some g.marked)
    (P := fun t : State => Sparse.find? t.flrs n = some g.marked) (fun b t hi => ?_) (fun t hi => ?_)
    (fun b t hi hp => ?_) hn ?_
  · rw [State.flrDrain_find]
    split
    · rwa [Flr.map_marked_marked]
    · exact hi
  · rw [State.flrDrain_find, if_pos rfl]
    exact hi
  · rw [State.flrDrain_find]
    split
    · exact hi
    · exact hp
  · rw [hg]
    rfl

/-- And the ring of every VF that a drain takes has no operation left. -/
theorem State.ring_drained {l : List Nat} {k : Nat} (hk : k + 1 ∈ l) {s : State} (h : s.Inv) :
    ((forEach l (fun m t => t.flrDrain m) s).ring k).ops = [] := by
  refine forEach_reaches (I := State.Inv) (P := fun t : State => (t.ring k).ops = [])
    (fun b t hi => (State.flrDrain_keeps (.refl t)).inv hi) (fun t hi => ?_) (fun b t hi hp => ?_) hk h
  · rw [State.flrDrain_ring_ops hi.stores.dmaTens, if_pos rfl]
  · rw [State.flrDrain_ring_ops hi.stores.dmaTens, hp, ite_self]

/-! ### Which function level resets end together (R109) -/

theorem State.mem_flrGroup_self {s : State} {fn : Nat} {f : Flr} (h : Sparse.find? s.flrs fn = some f) :
    fn ∈ s.flrGroup fn :=
  List.mem_map.2 ⟨_, List.mem_filter.2 ⟨Sparse.mem_of_find h, by simp⟩, rfl⟩

theorem State.mem_flrGroup_withPf {s : State} {n : Nat} {g : Flr} (h : Sparse.find? s.flrs n = some g)
    (hw : g.withPf = true) : n ∈ s.flrGroup 0 :=
  List.mem_map.2 ⟨_, List.mem_filter.2 ⟨Sparse.mem_of_find h, by simp [hw]⟩, rfl⟩

theorem State.flrGroup_vf {s : State} (hwf : Sparse.wf s.flrs = true) {fn : Nat} (h0 : fn ≠ 0) {f : Flr}
    (h : Sparse.find? s.flrs fn = some f) : s.flrGroup fn = [fn] := by
  have hpf : (fn == 0) = false := by simpa using h0
  simp only [State.flrGroup, hpf, Bool.false_and, Bool.or_false, Sparse.filter_key hwf h, List.map_cons, List.map_nil]

/-! ### A function level reset completes (R107, R108, R109) -/

theorem exec_flrComplete {s : State} {fn : Fin 65} {f : Flr} (hf : Sparse.find? s.flrs fn = some f)
    (hw : f.withPf = false) (hd : f.drained = true) :
    exec (.flrComplete fn) s = .next ((forEach (s.flrGroup fn) (fun n t => t.flrEnd n) s).raise hpB 8) := by
  change execFlrComplete fn s = _
  simp only [execFlrComplete, hf, hw, hd, Bool.not_false, Bool.and_self, if_true]

/-- The fields of a tenant sheet whose Writer is the VF return to their reset values (R107, R126). -/
theorem State.rd_clearVfFields {s : State} (h : Sparse.wf s.regs = true) (t : Nat) :
    (s.clearVfFields t).rd (tenB t) Reg.tenDmaCtrlDmaEn = 0 ∧ (s.clearVfFields t).rd (tenB t) Reg.tenDmaCtrlRoEn = 0 ∧
    (s.clearVfFields t).rd (tenB t) Reg.tenVfNoteNote = 0 := by
  have hdma := State.wr_wf h (tenB t) Reg.tenDmaCtrlDmaEn 0 0
  have hro := State.wr_wf hdma (tenB t) Reg.tenDmaCtrlRoEn 0 0
  unfold State.clearVfFields
  simp (disch := decide) only [State.rd_wr_apart]
  exact ⟨State.rd_wr_same h _ _ _ _, State.rd_wr_same hdma _ _ _ _, State.rd_wr_same hro _ _ _ _⟩

/-- The fields that the PF writes stay. -/
theorem State.rd_clearVfFields_pf (s : State) (t : Nat) :
    (s.clearVfFields t).rd (tenB t) Reg.tenPfNoteNote = s.rd (tenB t) Reg.tenPfNoteNote ∧
    (s.clearVfFields t).rd (tenB t) Title.hostOp = s.rd (tenB t) Title.hostOp := by
  unfold State.clearVfFields
  simp (disch := decide) only [State.rd_wr_apart, and_self]

theorem State.flrEnd_vf (s : State) (t : Nat) :
    s.flrEnd (t + 1) = State.clearVfFields
      { s with flrs := Sparse.del s.flrs (t + 1), aers := Sparse.del s.aers (t + 1),
               msix := dropKeys (64 * (t + 1)) (64 * (t + 1) + 64) s.msix, vfs := Sparse.del s.vfs (t + 1) } t := rfl

theorem State.flrEnd_stores (s : State) (fn : Nat) :
    (s.flrEnd fn).flrs = Sparse.del s.flrs fn ∧ (s.flrEnd fn).aers = Sparse.del s.aers fn ∧
    (s.flrEnd fn).msix = dropKeys (64 * fn) (64 * fn + 64) s.msix ∧
    (s.flrEnd fn).pf = if fn = 0 then {} else s.pf := by
  cases fn with
  | zero => exact ⟨rfl, rfl, rfl, rfl⟩
  | succ t =>
    rw [State.flrEnd_vf]
    exact ⟨rfl, rfl, rfl, rfl⟩

theorem State.flrEnd_flrBusy {s : State} (h : s.Inv) (fn : Nat) : (s.flrEnd fn).flrBusy fn = false := by
  obtain ⟨hflrs, -, -, -⟩ := s.flrEnd_stores fn
  rw [State.flrBusy, hflrs, Sparse.find_del h.stores.flrs, if_pos rfl]
  rfl

theorem State.flrEnd_notBusy {s : State} (h : s.Inv) {n : Nat} (hn : s.flrBusy n = false) (fn : Nat) :
    (s.flrEnd fn).flrBusy n = false := by
  obtain ⟨hflrs, -, -, -⟩ := s.flrEnd_stores fn
  rw [State.flrBusy, hflrs, Sparse.find_del h.stores.flrs]
  split
  · rfl
  · exact hn

theorem State.flrEnd_aerOf {s : State} (h : s.Inv) (fn : Nat) : (s.flrEnd fn).aerOf fn = {} := by
  obtain ⟨-, haers, -, -⟩ := s.flrEnd_stores fn
  rw [State.aerOf, haers]
  exact Sparse.get_del_same h.stores.aers _ _

theorem State.flrEnd_aerOf_ne {n fn : Nat} (hn : n ≠ fn) (s : State) : (s.flrEnd fn).aerOf n = s.aerOf n := by
  obtain ⟨-, haers, -, -⟩ := s.flrEnd_stores fn
  rw [State.aerOf, State.aerOf, haers, Sparse.get, Sparse.get, Sparse.find_del_ne hn]

/-- The completion of an FLR drops the function's vectors and their PBA bits. -/
theorem State.flrEnd_vector (s : State) (fn n v : Nat) :
    (s.flrEnd fn).vector n v = if 64 * fn ≤ 64 * n + v ∧ 64 * n + v < 64 * fn + 64 then {} else s.vector n v := by
  obtain ⟨-, -, hmsix, -⟩ := s.flrEnd_stores fn
  rw [State.vector, hmsix, Sparse.get, Sparse.find_dropKeys]
  split <;> rfl

theorem State.flrEnd_inv {s : State} (h : s.Inv) (fn : Nat) : (s.flrEnd fn).Inv := (State.flrEnd_keeps (.refl s)).inv h

/-! ### The message of `flr_done` (R109, R121) -/

/-- A message changes no vector but its own. -/
theorem State.sendMsix_vector_ne {fn vec n v : Nat} (h : 64 * n + v ≠ 64 * fn + vec) (s : State) :
    (s.sendMsix fn vec).vector n v = s.vector n v := by
  unfold State.sendMsix
  split
  · rfl
  · split
    · simp only [State.vector, State.setVector_msix, Sparse.get, Sparse.find_put_ne h]
    · rfl

/-- And of its own the PBA bit alone. -/
theorem State.sendMsix_vector_pba (s : State) (fn vec n v : Nat) :
    { (s.sendMsix fn vec).vector n v with pba := false } = { s.vector n v with pba := false } := by
  by_cases h : 64 * n + v = 64 * fn + vec
  · have hown : ∀ t : State, t.vector n v = t.vector fn vec := fun t => by rw [State.vector, h]; rfl
    rw [hown, hown]
    unfold State.sendMsix
    split
    · rfl
    · split
      · rw [State.vector_setVector_same (MsixEntry.ne_of_pba rfl)]
      · rfl
  · rw [State.sendMsix_vector_ne h]

/-- The host port's events assert vector 2 of the PF (R112). -/
theorem State.assertIrq_hpB (s : State) : s.assertIrq hpB = s.sendMsix 0 2 := rfl

/-- An event of the host port leaves the vectors, or is its interrupt in a state that has left them. -/
theorem State.raise_hpB_cases (s : State) (i : Nat) :
    (s.raise hpB i).msix = s.msix ∨ ∃ t : State, t.msix = s.msix ∧ s.raise hpB i = t.sendMsix 0 2 := by
  unfold State.raise
  split
  · exact .inl rfl
  · dsimp only
    split
    · exact .inr ⟨s.wr hpB Title.event (s.rd hpB Title.event + 2 ^ i), rfl, State.assertIrq_hpB _⟩
    · exact .inl rfl

theorem State.vector_congr {s t : State} (h : t.msix = s.msix) (fn vec : Nat) : t.vector fn vec = s.vector fn vec := by
  rw [State.vector, h]
  rfl

/-- No vector of a VF is touched by an event of the host port. -/
theorem State.raise_hpB_vector_vf (s : State) (i t v : Nat) :
    (s.raise hpB i).vector (t + 1) v = s.vector (t + 1) v := by
  obtain h | ⟨u, hu, h⟩ := s.raise_hpB_cases i
  · exact State.vector_congr h _ _
  · rw [h, State.sendMsix_vector_ne (by omega), State.vector_congr hu]

/-- A vector keeps all but its PBA bit. -/
theorem State.raise_hpB_vector_pba (s : State) (i fn v : Nat) :
    { (s.raise hpB i).vector fn v with pba := false } = { s.vector fn v with pba := false } := by
  obtain h | ⟨u, hu, h⟩ := s.raise_hpB_cases i
  · rw [State.vector_congr h]
  · rw [h, State.sendMsix_vector_pba, State.vector_congr hu]

/-- The host port's EVENT lies in no tenant sheet. -/
theorem hpEvent_lt_tenB (t : Nat) : hpB + 0x10 < tenB t := by
  unfold hpB tenB winB
  omega

/-- Events of the host port leave a tenant sheet's fields. -/
theorem State.rd_raise_tenant {s : State} (h : Sparse.wf s.regs = true) {r : Row} (hl : r.lsb < 32) (t i : Nat) :
    (s.raise hpB i).rd (tenB t) r = s.rd (tenB t) r :=
  State.rd_raise_apart h hl (by have := hpEvent_lt_tenB t; omega) i

/-! ### The reset of a VF and of the PF -/

/-- A VF whose FLR has ended, before that is announced (R107). -/
structure State.VfFresh (s u : State) (t : Nat) : Prop where
  notBusy : u.flrBusy (t + 1) = false
  dmaEn : u.rd (tenB t) Reg.tenDmaCtrlDmaEn = 0
  roEn : u.rd (tenB t) Reg.tenDmaCtrlRoEn = 0
  vfNote : u.rd (tenB t) Reg.tenVfNoteNote = 0
  pfNote : u.rd (tenB t) Reg.tenPfNoteNote = s.rd (tenB t) Reg.tenPfNoteNote
  intent : u.rd (tenB t) Title.hostOp = s.rd (tenB t) Title.hostOp
  cfg : u.vf (t + 1) = {}
  aer : u.aerOf (t + 1) = {}
  vectors : ∀ v < 64, u.vector (t + 1) v = {}

theorem State.flrEnd_vfFresh {s : State} (h : s.Inv) (t : Nat) : s.VfFresh (s.flrEnd (t + 1)) t where
  notBusy := State.flrEnd_flrBusy h _
  dmaEn := (State.rd_clearVfFields h.regs t).1
  roEn := (State.rd_clearVfFields h.regs t).2.1
  vfNote := (State.rd_clearVfFields h.regs t).2.2
  pfNote := (State.rd_clearVfFields_pf _ t).1
  intent := (State.rd_clearVfFields_pf _ t).2
  cfg := Sparse.get_del_same h.stores.vfs _ _
  aer := State.flrEnd_aerOf h _
  vectors := fun v hv => by rw [State.flrEnd_vector, if_pos (by omega)]

/-- Announcing the end of the FLR leaves the VF as it is. -/
theorem State.VfFresh.raise {s u : State} {t : Nat} (h : s.VfFresh u t) (hwf : Sparse.wf u.regs = true) (i : Nat) :
    s.VfFresh (u.raise hpB i) t where
  notBusy := (State.raise_flrBusy u hpB i _).trans h.notBusy
  dmaEn := (State.rd_raise_tenant hwf (by decide) t i).trans h.dmaEn
  roEn := (State.rd_raise_tenant hwf (by decide) t i).trans h.roEn
  vfNote := (State.rd_raise_tenant hwf (by decide) t i).trans h.vfNote
  pfNote := (State.rd_raise_tenant hwf (by decide) t i).trans h.pfNote
  intent := (State.rd_raise_tenant hwf (by decide) t i).trans h.intent
  cfg := by
    rw [State.raise_eq]
    exact h.cfg
  aer := by
    rw [State.raise_eq]
    exact h.aer
  vectors := fun v hv => (u.raise_hpB_vector_vf i t v).trans (h.vectors v hv)

/-- The PF whose FLR has ended, but for the PBA bits of its vectors (R109). -/
structure State.PfFresh (u : State) : Prop where
  notBusy : u.flrBusy 0 = false
  cfg : u.pf = {}
  aer : u.aerOf 0 = {}
  vectors : ∀ v < 64, { u.vector 0 v with pba := false } = ({} : MsixEntry)

theorem State.flrEnd_pfFresh {s : State} (h : s.Inv) : (s.flrEnd 0).PfFresh where
  notBusy := State.flrEnd_flrBusy h 0
  cfg := rfl
  aer := State.flrEnd_aerOf h 0
  vectors := fun v hv => by rw [State.flrEnd_vector, if_pos (by omega)]

/-- The FLRs that end with the PF's leave it so. -/
theorem State.PfFresh.flrEnd {u : State} (h : u.PfFresh) (hinv : u.Inv) (fn : Nat) : (u.flrEnd fn).PfFresh := by
  by_cases h0 : fn = 0
  · rw [h0]
    exact State.flrEnd_pfFresh hinv
  · refine ⟨State.flrEnd_notBusy hinv h.notBusy fn, ?_, ?_, fun v hv => ?_⟩
    · obtain ⟨-, -, -, hpf⟩ := u.flrEnd_stores fn
      rw [hpf, if_neg h0, h.cfg]
    · rw [State.flrEnd_aerOf_ne (Ne.symm h0), h.aer]
    · rw [State.flrEnd_vector, if_neg (by omega)]
      exact h.vectors v hv

theorem State.PfFresh.raise {u : State} (h : u.PfFresh) (i : Nat) : (u.raise hpB i).PfFresh where
  notBusy := (State.raise_flrBusy u hpB i 0).trans h.notBusy
  cfg := (State.raise_pf u hpB i).trans h.cfg
  aer := by
    rw [State.raise_eq]
    exact h.aer
  vectors := fun v hv => (u.raise_hpB_vector_pba i 0 v).trans (h.vectors v hv)

/-- After the FLRs of a list have ended, none of them is in progress. -/
theorem State.ended_notBusy {l : List Nat} {n : Nat} (hn : n ∈ l) {s : State} (h : s.Inv) :
    (forEach l (fun m t => t.flrEnd m) s).flrBusy n = false :=
  forEach_reaches (I := State.Inv) (P := fun t : State => t.flrBusy n = false) (fun b _ hi => State.flrEnd_inv hi b)
    (fun _ hi => State.flrEnd_flrBusy hi n) (fun b _ hi hp => State.flrEnd_notBusy hi hp b) hn h

/-- And where the PF's is among them, the PF is as new. -/
theorem State.ended_pfFresh {l : List Nat} (h0 : 0 ∈ l) {s : State} (h : s.Inv) :
    (forEach l (fun m t => t.flrEnd m) s).PfFresh :=
  forEach_reaches (I := State.Inv) (fun b _ hi => State.flrEnd_inv hi b) (fun _ hi => State.flrEnd_pfFresh hi)
    (fun b _ hi hp => hp.flrEnd hi b) h0 h

theorem State.ended_inv {s : State} (h : s.Inv) (l : List Nat) : (forEach l (fun m t => t.flrEnd m) s).Inv :=
  (forEach_keeps l (.refl s) (fun _ _ hu => State.flrEnd_keeps hu)).inv h

/-- Settles O14: the begin of an FLR puts it among those in progress, the drain goes over the group that it takes, and the end
leaves each function of the group as new, before `flr_done` is raised. -/
theorem functionLevelResetsInSteps : Obligations.FunctionLevelResetsInSteps := by
  refine ⟨fun t s ha hv hn hb => ?_, fun s ha hb => ?_, fun t fn f s hfn hf hw hinv => ?_, fun f s hf hw hinv => ?_⟩
  · rw [exec_vfFlr, State.cfgRequest_vf ha hv hn hb]
    have hbusy := s.flrBegin_flrBusy (t + 1)
    exact ⟨_, rfl, hbusy, State.fnAnswers_of_flrBusy hbusy, s.flrBegin_pf _⟩
  · rw [exec_pfFlr, State.cfgRequest_pf ha hb]
    obtain ⟨hpf, hvfs⟩ := s.pfFlrBegin_flrBusy
    exact ⟨_, rfl, hpf, State.fnAnswers_of_flrBusy hpf, State.clearVfEnable_vfEnable _, fun t => hvfs t t.isLt⟩
  · rw [← hfn] at hf
    have hself := State.mem_flrGroup_self hf
    refine ⟨fun hd => ⟨_, exec_flrDrainComplete hf hw hd, ?_⟩, fun hd => ⟨_, exec_flrComplete hf hw hd, ?_⟩⟩
    · rw [hfn] at hf hself ⊢
      exact ⟨State.ring_drained hself hinv, State.find_drained hself hf⟩
    · rw [hfn] at hf ⊢
      rw [State.flrGroup_vf hinv.stores.flrs (Nat.succ_ne_zero t) hf]
      have hwf := (State.flrEnd_inv hinv (t + 1)).regs
      have h := (State.flrEnd_vfFresh hinv t).raise hwf 8
      exact ⟨h.notBusy, h.dmaEn, h.roEn, h.vfNote, h.pfNote, h.intent, State.bitAt_raise hwf hpB (by decide), h.cfg, h.aer,
        h.vectors⟩
  · have hself := State.mem_flrGroup_self hf
    refine ⟨fun hd => ⟨_, exec_flrDrainComplete hf hw hd, State.find_drained hself hf, fun t g hg hgw => ?_⟩,
      fun hd => ⟨_, exec_flrComplete hf hw hd, ?_⟩⟩
    · have hmem := State.mem_flrGroup_withPf hg hgw
      exact ⟨State.ring_drained hmem hinv, State.find_drained hmem hg⟩
    · have h := (State.ended_pfFresh hself hinv).raise 8
      refine ⟨h.notBusy, h.cfg, h.aer, h.vectors, State.bitAt_raise (State.ended_inv hinv _).regs hpB (by decide),
        fun t g hg hgw => ?_⟩
      exact (State.raise_flrBusy _ _ _ _).trans (State.ended_notBusy (State.mem_flrGroup_withPf hg hgw) hinv)

/-! ### Errors that are logged (R115) -/

/-- A state without what logging an error can change: the AER registers, free values and error messages. -/
def State.sansAer (s : State) : State := { s with draws := 0, out := [], aer := [], aers := [] }

theorem State.setAer_sansAer (s : State) (fn : Nat) (a : Aer) : (s.setAer fn a).sansAer = s.sansAer := rfl

theorem State.sendErr_sansAer (s : State) (fn : Nat) (e : AerError) (sev : Nat) :
    (s.sendErr fn e sev).sansAer = s.sansAer := by
  unfold State.sendErr
  dsimp only
  split <;> rfl

theorem State.logUnc_sansAer (s : State) (fn : Nat) (e : AerError) : (s.logUnc fn e).sansAer = s.sansAer := by
  unfold State.logUnc
  dsimp only
  split <;> rfl

theorem State.noteDevSta_sansAer (s : State) (fn : Nat) (e : AerError) (sev : Nat) :
    (s.noteDevSta fn e sev).sansAer = s.sansAer := rfl

theorem State.reportErr_sansAer (s : State) (fn : Nat) (e : AerError) (advisory : Bool) :
    (s.reportErr fn e advisory).sansAer = s.sansAer := by
  unfold State.reportErr
  dsimp only
  split_ifs <;>
    simp only [State.sendErr_sansAer, State.logUnc_sansAer, State.setAer_sansAer, State.noteDevSta_sansAer]

theorem State.logAer_sansAer (s : State) (fn : Nat) (e : AerError) (np : Bool) :
    (s.logAer fn e np).sansAer = s.sansAer := by
  unfold State.logAer
  dsimp only
  split
  · rw [State.reportErr_sansAer, State.reportErr_sansAer]
    rfl
  · rw [State.reportErr_sansAer]
    rfl

/-- Which operation a completion reaches rests on the ring and the time alone. -/
theorem State.waitingOp_congr {s t : State} (hr : t.dmaTens = s.dmaTens) (hn : t.now = s.now) (ten idx ns : Nat) :
    t.waitingOp ten idx ns = s.waitingOp ten idx ns := by
  simp only [State.waitingOp, State.ring, hr, hn]

theorem State.notePoisoned_waitingOp (s : State) (fn ten idx ns : Nat) :
    (s.notePoisoned fn).waitingOp ten idx ns = s.waitingOp ten idx ns := by
  have h : (s.notePoisoned fn).sansAer = (s.bump hpB Reg.hpCntBPoisonedRx).sansAer := State.logAer_sansAer _ _ _ _
  exact State.waitingOp_congr (congrArg State.dmaTens h :) (congrArg State.now h :) ten idx ns

/-! ### The Uncorrectable Error Status of a function -/

theorem State.aerOf_setAer_same {a : Aer} (h : a ≠ {}) (s : State) (fn : Nat) : (s.setAer fn a).aerOf fn = a :=
  Sparse.get_put_same h _ _

theorem Aer.ne_of_unc {a : Aer} {i : Nat} (h : bitAt a.unc i = true) : a ≠ {} :=
  fun he => by simp [he, bitAt] at h

theorem State.aerOf_sendErr (s : State) (fn : Nat) (e : AerError) (sev n : Nat) : (s.sendErr fn e sev).aerOf n = s.aerOf n := by
  unfold State.sendErr
  dsimp only
  split <;> rfl

/-- An uncorrectable error sets its status bit, masked or not. -/
theorem State.logUnc_unc (s : State) (fn : Nat) (e : AerError) : bitAt ((s.logUnc fn e).aerOf fn).unc e.bit = true := by
  have hbit := fun w => bitAt_setBit w e.bit
  unfold State.logUnc
  dsimp only
  split
  · rw [State.aerOf_setAer_same (Aer.ne_of_unc (hbit _))]
    exact hbit _
  · rw [State.aerOf_setAer_same (Aer.ne_of_unc (hbit _))]
    exact hbit _

/-- An uncorrectable error that is not an advisory one sets its status bit. -/
theorem State.reportErr_unc {e : AerError} (hc : e.correctable = false) (s : State) (fn : Nat) :
    bitAt ((s.reportErr fn e false).aerOf fn).unc e.bit = true := by
  unfold State.reportErr
  simp only [hc, Bool.false_eq_true, if_false, Bool.false_and]
  split
  · exact State.logUnc_unc _ _ _
  · rw [State.aerOf_sendErr]
    exact State.logUnc_unc _ _ _

theorem State.logAer_pf {e : AerError} (h : e ≠ .unexpectedCompletion) (s : State) :
    s.logAer 0 e = State.reportErr { s with aer := (0, e) :: s.aer } 0 e false := by
  have hadv : (e == .unexpectedCompletion) = false := beq_eq_false_iff_ne.2 h
  simp only [State.logAer, hadv, Bool.or_self]
  rfl

/-! ### Reads that are not answered, and damaged packets (R101, R103, R115, R119) -/

theorem exec_mmioReadTimeout {fn : Fin 65} {off a : Nat} {s : State} (hal : off % 4 = 0) (hoff : off < barSize fn)
    (hg : s.gate fn (barAddr fn off) false = .go a) : exec (.mmioReadTimeout fn off) s = .next (s.readTimesOut fn off) := by
  change execMmioReadTimeout fn off s = _
  rw [execMmioReadTimeout, if_neg (by simp [hal, hoff]), hg]

theorem exec_completionTimeout (t : Fin 64) (idx : Nat) (s : State) :
    exec (.completionTimeout t idx) s = .next (s.timeOutAfter t idx (ctoRange s.pf.ctoValue).1) := rfl

theorem State.timeOutAfter_none {s : State} {t idx ns : Nat} (h : s.pf.ctoDisable = true ∨ s.waitingOp t idx ns = none) :
    s.timeOutAfter t idx ns = s := by
  unfold State.timeOutAfter
  split
  · rfl
  · next hon =>
    rw [h.resolve_left hon]

theorem State.timeOutAfter_some {s : State} {t idx ns : Nat} {o : DmaOp} (hon : s.pf.ctoDisable = false)
    (h : s.waitingOp t idx ns = some o) : s.timeOutAfter t idx ns = (s.endOp t o.id 5 0).noteTimeout t := by
  simp only [State.timeOutAfter, hon, h, Bool.false_eq_true, if_false]

section LinkIsUp
variable {s : State} (hl : s.linkUp = true)
include hl

theorem exec_poisoned_mmioWrite (fn : Fin 65) :
    exec (.poisonedTlpReceived (.mmioWrite fn)) s = .next (s.notePoisoned fn) := by
  change execPoisonedTlpReceived (.mmioWrite fn) s = _
  unfold execPoisonedTlpReceived
  rw [if_neg (by simp [hl])]

theorem exec_poisoned_completion_awaited {t : Fin 64} {idx : Nat} {o : DmaOp} (ho : s.waitingOp t idx 0 = some o) :
    exec (.poisonedTlpReceived (.completion t idx)) s = .next ((s.notePoisoned (t + 1)).endOp t o.id 6 0) := by
  change execPoisonedTlpReceived (.completion t idx) s = _
  unfold execPoisonedTlpReceived
  rw [if_neg (by simp [hl])]
  simp only [State.notePoisoned_waitingOp, ho]

theorem exec_poisoned_completion_unawaited {t : Fin 64} {idx : Nat} (ho : s.waitingOp t idx 0 = none) :
    exec (.poisonedTlpReceived (.completion t idx)) s = .next (s.notePoisoned (t + 1)) := by
  change execPoisonedTlpReceived (.completion t idx) s = _
  unfold execPoisonedTlpReceived
  rw [if_neg (by simp [hl])]
  simp only [State.notePoisoned_waitingOp, ho]

theorem exec_ecrcError_mmioWrite (hc : (s.aerOf 0).ecrcCheck = true) (fn : Fin 65) :
    exec (.ecrcError (.mmioWrite fn)) s = .next (s.logAer fn .ecrc) := by
  change execEcrcError (.mmioWrite fn) s = _
  unfold execEcrcError
  rw [if_neg (by simp [hl, hc])]

theorem exec_ecrcError_completion (hc : (s.aerOf 0).ecrcCheck = true) (t : Fin 64) (idx : Nat) :
    exec (.ecrcError (.completion t idx)) s = .next (s.logAer (t + 1) .ecrc) := by
  change execEcrcError (.completion t idx) s = _
  unfold execEcrcError
  rw [if_neg (by simp [hl, hc])]

theorem exec_malformedTlp (overflow : Bool) :
    exec (.malformedTlp overflow) s = .next (s.logAer 0 (if overflow then .overflow else .malformed)) := by
  change execMalformedTlp overflow s = _
  rw [execMalformedTlp, if_pos hl]

theorem exec_linkProtocolError (e : LinkError) :
    exec (.linkProtocolError e) s = .next (if (linkAer e).correctable = true then s.logAer 0 (linkAer e)
      else (s.logAer 0 (linkAer e)).wr hpB Title.stateOp opStarting) := by
  change execLinkProtocolError e s = _
  rw [execLinkProtocolError, if_pos hl]
  rfl

end LinkIsUp

theorem exec_ecrcError_unchecked {s : State} (hc : (s.aerOf 0).ecrcCheck = false) (p : RxTlp) :
    exec (.ecrcError p) s = .next s := by
  change execEcrcError p s = _
  unfold execEcrcError
  rw [if_pos (by simp [hc])]

/-- Settles O15: each clause is the meaning of one command, and the status bit is the one that `State.logUnc` sets. -/
theorem pcieErrorsAreLoggedAndCounted : Obligations.PcieErrorsAreLoggedAndCounted := by
  refine ⟨fun fn off a s hal hoff hg => ?_, fun t idx s => ⟨fun o ho hon => ?_, fun h => ?_⟩, fun s hl => ?_,
    fun s e hc hne => ?_⟩
  · rw [exec_mmioReadTimeout hal hoff hg]
    cases hd : (s.countAccess fn).drawBool.1 with
    | true =>
      refine ⟨_, .inr rfl, ?_⟩
      simp only [State.readTimesOut, hd, if_true]
    | false =>
      refine ⟨_, .inl rfl, ?_⟩
      simp only [State.readTimesOut, hd, Bool.false_eq_true, if_false]
  · rw [exec_completionTimeout, State.timeOutAfter_some hon ho]
    rfl
  · rw [exec_completionTimeout, State.timeOutAfter_none h]
  · refine ⟨fun fn => exec_poisoned_mmioWrite hl fn, fun t idx => ⟨_, rfl, fun o ho => exec_poisoned_completion_awaited hl ho,
      fun ho => exec_poisoned_completion_unawaited hl ho⟩,
      fun hc => ⟨fun fn => exec_ecrcError_mmioWrite hl hc fn, fun t idx => exec_ecrcError_completion hl hc t idx⟩,
      fun hc p => exec_ecrcError_unchecked hc p, exec_malformedTlp hl false, exec_malformedTlp hl true,
      fun e => ⟨fun hc => ?_, fun hc => ?_⟩⟩
    · rw [exec_linkProtocolError hl, if_neg (by simp [hc])]
    · rw [exec_linkProtocolError hl, if_pos hc]
  · rw [State.logAer_pf hne]
    exact State.reportErr_unc hc _ 0

end Sys2Proof.Machine
end

section
/-! SUPPORT. The statements of 04_clocks_resets_startup.md: the reset state, the sources of the reference tree and of the timebase
PLL, reset requests, how resets begin and end, drains that overrun, the boot and the wake of a plate. -/

namespace Sys2Proof.Machine

/-! ### The reset state (R150, R627) -/

theorem State.reset_canon : State.reset.Canon := by
  constructor <;> rfl

/-- Settles O2: every store is empty, and the sensed fuses are the blown ones, with no transition under way. -/
theorem resetHoldsTheInvariant : Obligations.ResetHoldsTheInvariant :=
  show State.reset.Inv from
  { regs := rfl
    hatchMem := rfl
    stores := State.reset_canon
    frozen := rfl
    frzSeq := Nat.zero_le _
    sensed := Fuses.Within.refl _
    lcNext := by decide
    lcLegal := by decide
    job := fun _ h => nomatch h }

/-! ### Where the tree goes (R129, R130) -/

theorem State.treeFollows_absent {s : State} (hc : s.rd crB Reg.crRefStatusTreeSrc ≠ 0)
    (hp : s.treePresent (s.rd crB Reg.crRefStatusTreeSrc) = false) : s.treeFollows = s.moveTree s.treeRefuge :=
  if_neg (not_or.2 ⟨hc, by simp [hp]⟩)

theorem State.moveTree_other {s : State} {c : Nat} (hc : s.rd crB Reg.crRefStatusTreeSrc ≠ c) (hi : s.serdesIdle = false) :
    s.moveTree c = ((s.wr crB Reg.crRefStatusTreeSrc c).bumpSat crB Reg.crRefStatusSwitches).raise crB 0 := by
  rw [State.moveTree, if_neg hc]
  exact if_neg (by simp [hi])

theorem State.treeRefuge_preferred {s : State} (hp : s.treePresent (s.rd crB Reg.crTreeSrcPrefer) = true) :
    s.treeRefuge = s.rd crB Reg.crTreeSrcPrefer := if_pos hp

theorem State.treePresent_treeCode {src : ClockSrc} (hc : treeCode src ≠ 0) (s : State) :
    s.treePresent (treeCode src) = (s.source src).present := by
  cases src with
  | internal | tree => exact absurd rfl hc
  | oscIn | refIn | refclk => simp [State.treePresent, State.source, treeCode]

/-- A present source that the tree can use is the one that its code takes away. -/
theorem State.treeSourceGone_treeCode {s : State} {src : ClockSrc} (hc : treeCode src ≠ 0)
    (hp : (s.source src).present = true) : s.treeSourceGone (treeCode src) = s.sourceGone src := by
  rw [State.treeSourceGone, State.treePresent_treeCode hc, hp]
  cases src with
  | internal | tree => exact absurd rfl hc
  | oscIn | refIn | refclk => rfl

theorem exec_treeSourceLoss {s : State} (hup : s.clocksUp = true) {src : ClockSrc} (hc : treeCode src ≠ 0)
    (hsrc : s.rd crB Reg.crRefStatusTreeSrc = treeCode src) (hp : (s.source src).present = true) :
    exec .treeSourceLoss s = .next (s.sourceGone src).treeFollows := by
  rw [← State.treeSourceGone_treeCode hc hp, ← hsrc]
  exact congrArg _ (if_pos hup)

theorem exec_treeSourceReturn {s : State} (hup : s.clocksUp = true) {src : ClockSrc}
    (hb : s.treeBetter (treeCode src) = true) (hold : (s.source src).since + secNs ≤ s.now) :
    exec (.treeSourceReturn src) s = .next (s.moveTree (treeCode src)) :=
  congrArg _ (if_pos (by simp [hup, hb, Nat.le_sub_of_add_le' hold]))

/-! ### The timebase PLL (R168, R786) -/

/-- OSC_IN and REF_IN have one code for the tree and for the timebase PLL. -/
theorem exec_timebasePllSourceLoss {s : State} (hup : s.clocksUp = true) {src : ClockSrc} (hc : treeCode src ≠ 0)
    (hne : treeCode src ≠ 3) (hsrc : s.rd crB Reg.crRefStatusTbSrc = treeCode src) (hp : (s.source src).present = true) :
    exec .timebasePllSourceLoss s = .next (s.sourceGone src).tbPllFollows := by
  change execTimebasePllSourceLoss s = _
  rw [execTimebasePllSourceLoss, if_pos hup, hsrc, if_neg hne, State.treeSourceGone_treeCode hc hp]

theorem exec_timebasePllSourceReturn {s : State} (hup : s.clocksUp = true) {src : ClockSrc} (hc : tbCode src ≠ 0)
    (hp : (s.source src).present = true) (hlt : tbCode src < s.rd crB Reg.crRefStatusTbSrc)
    (hold : (s.source src).since + secNs ≤ s.now) :
    exec (.timebasePllSourceReturn src) s = .next (s.moveTbPll (tbCode src)) :=
  congrArg _ (if_pos (by simp [hup, hp, hlt, hc, Nat.le_sub_of_add_le' hold]))

theorem exec_timebasePllUnlock {s : State} (hup : s.clocksUp = true) (hl : s.isSet crB Reg.crRefStatusTbPllLock = true) :
    exec .timebasePllUnlock s = .next ((s.wr crB Reg.crRefStatusTbPllLock 0).raise crB 2) :=
  congrArg _ (if_pos (by rw [hup, hl]; rfl))

/-! ### The preferred source (R129) -/

theorem State.clocksUp_wr_prefer (s : State) (v : Nat) : (s.wr crB Reg.crTreeSrcPrefer v).clocksUp = s.clocksUp := by
  rw [State.clocksUp, State.rd_wr_apart (by decide)]
  rfl

section Prefer
variable {s : State} {fn : Nat} (hup : s.clocksUp = true) (hw : s.mayWriteL crB (masterOfFn fn) = true)
include hup hw

theorem State.treePreferEffect_present {c : Nat} (hp : s.treePresent c = true) :
    s.treePreferEffect fn c = (s.wr crB Reg.crTreeSrcPrefer c).moveTree c := by
  have hp' : (s.wr crB Reg.crTreeSrcPrefer c).treePresent c = true := hp
  simp only [State.treePreferEffect, hw, State.clocksUp_wr_prefer, hup, hp', Bool.not_true, Bool.false_eq_true, if_false, if_true]

theorem State.treePreferEffect_absent {c : Nat} (hc : c ≠ 0) (hp : s.treePresent c = false) :
    s.treePreferEffect fn c = s.wr crB Reg.crTreeSrcPrefer c := by
  have hp' : (s.wr crB Reg.crTreeSrcPrefer c).treePresent c = false := hp
  simp only [State.treePreferEffect, hw, State.clocksUp_wr_prefer, hup, hp', hc, Bool.not_true, Bool.false_eq_true, if_false]

/-- Without a preference the tree goes back to OSC_IN, the first in order, once that has been present for 1 s. -/
theorem State.treePreferEffect_none (hp : s.chip.oscIn.present = true) (hold : s.chip.oscIn.since + secNs ≤ s.now) :
    s.treePreferEffect fn 0 = (s.wr crB Reg.crTreeSrcPrefer 0).moveTree 1 := by
  have hnone : (s.wr crB Reg.crTreeSrcPrefer 0).treePresent 0 = false := rfl
  have hauto : (s.wr crB Reg.crTreeSrcPrefer 0).autoTree = 1 := if_pos hp
  have hsince : s.now - s.chip.oscIn.since ≥ secNs := Nat.le_sub_of_add_le' hold
  simp only [State.treePreferEffect, hw, State.clocksUp_wr_prefer, hup, hnone, hauto, State.wr_now, State.wr_chip, hsince,
    Bool.not_true, Bool.false_eq_true, if_false, if_true, ne_eq, Nat.one_ne_zero, not_false_eq_true, and_self]

end Prefer

theorem exec_treePreferWrite_through {s : State} {fn : Fin 65} (hw : s.lockedWrite fn crB (crB + 0x50) = true)
    (prefer : BitVec 2) : exec (.treePreferWrite fn prefer) s = .next (s.treePreferEffect fn prefer.toNat) :=
  congrArg _ (State.mmioWrite_through (State.lockedWrite_through hw) _)

/-! ### Sources that come and go (R129, R132, R168) -/

theorem exec_referencePresent {s : State} {src : ClockSrc} (hp : (s.source src).present = false) (at25 : Bool) :
    ∃ t u : State, t = s.setSource src { present := true, since := s.now, at25 := at25 && src = .refIn } ∧
      u = (if t.clocksUp then t.treeFollows else t) ∧
      exec (.referencePresent src at25) s = .next (if src = .refclk ∧ u.mayTrain then u.setOp hpB opStarting else u) :=
  ⟨_, _, rfl, rfl, congrArg _ (if_neg (by simp [hp]))⟩

theorem exec_referenceAbsent {s : State} {src : ClockSrc} (hi : src ≠ .internal) (ht : src ≠ .tree)
    (hp : (s.source src).present = true)
    (hfree : s.clocksUp = false ∨ s.rd crB Reg.crRefStatusTreeSrc ≠ treeCode src ∧
      (tbCode src = 0 ∨ s.rd crB Reg.crRefStatusTbSrc ≠ tbCode src)) :
    exec (.referenceAbsent src) s = .next (s.sourceGone src) := by
  refine congrArg _ (if_neg ?_)
  rintro (h | h | h | ⟨hup, hused⟩)
  · exact hi h
  · exact ht h
  · simp [hp] at h
  · rcases hfree with hdown | ⟨htree, htb⟩
    · exact Bool.false_ne_true (hdown.symm.trans hup)
    · rcases hused with h | ⟨hcode, h⟩
      · exact htree h
      · exact htb.elim hcode (fun hne => hne h)

theorem exec_refclkLoss {s : State} (hl : s.isSet hpB Reg.hpLinkUp = true) (hp : s.chip.refclk.present = true) :
    exec .refclkLoss s = .next (if (s.sourceGone .refclk).clocksUp then (s.sourceGone .refclk).treeFollows
      else s.sourceGone .refclk) :=
  congrArg _ (if_neg (by simp [hl, hp]))

theorem State.refclkGone_linked {s : State} (hl : s.isSet hpB Reg.hpLinkUp = true) :
    s.refclkGone = (s.linkGoesDown.bump crB Reg.crHostResetsLinkDown).hostPortReset := if_pos hl

theorem State.refclkGone_training {s : State} (hl : s.isSet hpB Reg.hpLinkUp = false)
    (ht : s.rd hpB Title.stateOp = opStarting) : s.refclkGone = s.setOp hpB opOff := by
  rw [State.refclkGone, if_neg (by simp [hl]), if_pos ht]

/-! ### The PLL of a plate (R133, R168) -/

theorem exec_platePllUnlock {s : State} {p : Fin 8} (hr : s.platePllRuns p = true) (ns : Nat) :
    exec (.platePllUnlock p ns) s =
      .next (if 10000 < ns then (s.raise crB 3).plateReset p causePlateClock else s.raise crB 3) :=
  congrArg _ (if_neg (by simp [hr]))

/-- Settles O17: each clause is one command, or one shared operation, in the case that its premises name. -/
theorem referenceSourcesMoveTheTreeAndThePll : Obligations.ReferenceSourcesMoveTheTreeAndThePll := by
  refine ⟨fun s hup => ⟨fun hsrc hp => ?_, fun hsrc hp => ?_, fun hsrc hp => ?_, fun hsrc hp => ?_, fun hsrc hp => ?_,
      fun src hb hold => exec_treeSourceReturn hup hb hold,
      fun src hc hp hlt hold => exec_timebasePllSourceReturn hup hc hp hlt hold,
      fun hl => exec_timebasePllUnlock hup hl, fun fn prefer hw hp => ?_, fun fn prefer hw hc hp => ?_,
      fun fn hw hp hold => ?_⟩,
    fun s c => ⟨State.treeFollows_absent, State.moveTree_other, State.treeRefuge_preferred⟩,
    fun src at25 s hp hne => ?_, fun at25 s hp => ?_, fun src s hi ht hp hfree => exec_referenceAbsent hi ht hp hfree,
    fun s hl hp => ⟨_, rfl, exec_refclkLoss hl hp⟩, fun s hl => State.refclkGone_linked hl,
    fun s hl ht => State.refclkGone_training hl ht, fun p ns s hr => ⟨fun hle => ?_, fun hlt => ?_⟩⟩
  · exact exec_treeSourceLoss hup (src := .oscIn) (by decide) hsrc hp
  · exact exec_treeSourceLoss hup (src := .refIn) (by decide) hsrc hp
  · exact exec_treeSourceLoss hup (src := .refclk) (by decide) hsrc hp
  · exact exec_timebasePllSourceLoss hup (src := .oscIn) (by decide) (by decide) hsrc hp
  · exact exec_timebasePllSourceLoss hup (src := .refIn) (by decide) (by decide) hsrc hp
  · rw [exec_treePreferWrite_through hw, State.treePreferEffect_present hup (State.lockedWrite_may hw) hp]
  · rw [exec_treePreferWrite_through hw, State.treePreferEffect_absent hup (State.lockedWrite_may hw) hc hp]
  · rw [exec_treePreferWrite_through hw]
    exact congrArg _ (State.treePreferEffect_none hup (State.lockedWrite_may hw) hp hold)
  · obtain ⟨t, u, ht, hu, hexec⟩ := exec_referencePresent hp at25
    refine ⟨t, ht, ?_⟩
    rw [hexec, if_neg (fun h => hne h.1), hu]
  · obtain ⟨t, u, ht, hu, hexec⟩ := exec_referencePresent (src := .refclk) hp at25
    refine ⟨t, u, by rw [ht]; simp, hu, ?_⟩
    simpa using hexec
  · rw [exec_platePllUnlock hr, if_neg (Nat.not_lt.2 hle)]
  · rw [exec_platePllUnlock hr, if_pos hlt]

/-! ### CR_RESET_REQ (R148) -/

theorem State.resetReqActs_iff (s : State) (fn data : Nat) :
    s.resetReqActs fn data = true ↔ fn = 0 ∧ s.lockOwner crB = 1 ∧ bitsOf data 24 8 = 0xA5 := by
  have hmay : s.mayWriteL crB 1 = (s.lockOwner crB == 1) := rfl
  simp only [State.resetReqActs, hmay, Bool.and_eq_true, beq_iff_eq, and_assoc]

/-- Both commands are one write, with one effect. -/
theorem exec_resetRequest_through {s : State} {fn : Fin 65} (hw : s.writesThrough fn (crB + 0x54) = true) (data : Word) :
    exec (.chipResetRequest fn data) s = .next (s.resetRequestEffect fn data.toNat) ∧
    exec (.plateResetRequest fn data) s = .next (s.resetRequestEffect fn data.toNat) :=
  ⟨congrArg _ (State.mmioWrite_through hw _), congrArg _ (State.mmioWrite_through hw _)⟩

theorem State.resetRequestEffect_ignored {s : State} {fn data : Nat} (h : s.resetReqActs fn data = false) :
    s.resetRequestEffect fn data = s := by
  rw [State.resetRequestEffect, if_pos (by simp [h])]

theorem State.resetRequestEffect_acts {s : State} {fn data : Nat} (h : s.resetReqActs fn data = true) :
    s.resetRequestEffect fn data = if bitAt data 8 = true then s.chipReset causeChipPf
      else forUpTo 8 (fun p t => if bitAt data p then t.plateReset p causePlatePf else t) s := by
  rw [State.resetRequestEffect, if_neg (by simp [h])]

/-- Settles O18: the write acts where `State.resetReqActs` says so, and then by its `chip` bit. -/
theorem resetRequestWordActsOnlyForTheConfirmedPf : Obligations.ResetRequestWordActsOnlyForTheConfirmedPf := by
  intro fn data s hw
  obtain ⟨hchip, hplate⟩ := exec_resetRequest_through hw data
  rw [hchip, hplate]
  refine ⟨fun hno => ?_, fun hpf hown hconfirm => ?_⟩
  · have hignored : s.resetReqActs fn data.toNat = false := by
      rw [Bool.eq_false_iff, ne_eq, State.resetReqActs_iff]
      rintro ⟨hpf, hown, hconfirm⟩
      exact hno.elim (fun h => h (Fin.ext hpf)) (fun h => h.elim (fun h => h hown) (fun h => h hconfirm))
    rw [State.resetRequestEffect_ignored hignored]
    exact ⟨rfl, rfl⟩
  · have hacts := (s.resetReqActs_iff fn data.toNat).2 ⟨congrArg Fin.val hpf, hown, hconfirm⟩
    rw [State.resetRequestEffect_acts hacts]
    exact ⟨fun hc => by rw [if_pos hc], fun hc => by rw [if_neg (by simp [hc])]⟩

/-! ### The end of a power-on reset (R142, R145) -/

section PowerOn
variable {s : State} (hpor : s.chip.power = .por) (st : Straps)
include hpor

theorem exec_porNRelease (hp : s.pins.porN = false) :
    exec (.porNRelease st) s = .next (if s.pins.aonLow = true then { s with pins := { s.pins with porN := true } }
      else State.startBoot { s with pins := { s.pins with porN := true } } st) := by
  change execPorNRelease st s = _
  rw [execPorNRelease, if_pos ⟨hpor, by simp [hp]⟩]

theorem exec_vddAonRecovered (ha : s.pins.aonLow = true) :
    exec (.vddAonRecovered st) s = .next (if s.pins.porN = true then
      State.startBoot { s with pins := { s.pins with aonLow := false } } st
      else { s with pins := { s.pins with aonLow := false } }) := by
  change execVddAonRecovered st s = _
  rw [execVddAonRecovered, if_pos ⟨hpor, ha⟩]

theorem State.chipReset_por (cause : Nat) : s.chipReset cause = s := if_pos hpor

end PowerOn

/-! ### The beginning and the end of a chip reset (R142, R147, R154, R785) -/

theorem exec_supplyDip (s : State) : exec .supplyDip s = .next (s.chipReset causeChipSupply) := rfl

/-- What a chip reset leaves of the reset logic, and that no master is frozen. -/
theorem State.chipReset_chip {s : State} (h : s.chip.power ≠ .por) (cause : Nat) :
    (s.chipReset cause).chip.power = .chipReset ∧ (s.chipReset cause).chip.rstAt = s.now ∧
    (s.chipReset cause).chip.rstSupply = (s.chip.power == .chipReset && s.chip.rstSupply || cause == causeChipSupply) ∧
    (s.chipReset cause).frozen = [] ∧ (s.chipReset cause).chip.sheetsReady = false := by
  rw [State.chipReset, if_neg h]
  exact ⟨rfl, rfl, rfl, rfl, rfl⟩

theorem exec_chipResetRelease {ok : Bool} {s : State} (hr : s.chip.power = .chipReset) (hold : s.chip.rstAt + 50000 ≤ s.now)
    (hs : s.chip.rstSupply = true → ok = true) (hp : s.chip.rstPerst = true → s.pins.perstN = true) :
    exec (.chipResetRelease ok) s = .next ((State.wr { s with chip := { s.chip with
      power := .booting, bootFrom := s.chip.rstAt } } crB Reg.crBootStep 1).bootSense false) :=
  if_pos ⟨hr, hold, by simpa [imp_iff_not_or] using hs, by simpa [imp_iff_not_or] using hp⟩

/-! ### PERST_N and the resets of the host port (R147, R149, R160) -/

section Perst
variable {s : State}

theorem exec_perstNAssert_chip (hpor : s.chip.power ≠ .por) (hp : s.pins.perstN = true)
    (hm : s.isSet crB Reg.crStrapsPerstMode = true) : exec .perstNAssert s =
      .next (State.chipReset { s with pins := { s.pins with perstN := false } } causeChipPerst) := by
  have hm' : State.isSet { s with pins := { s.pins with perstN := false } } crB Reg.crStrapsPerstMode = true := hm
  change execPerstNAssert s = _
  rw [execPerstNAssert, if_neg (by simp [hp])]
  dsimp only
  rw [if_neg hpor, if_pos hm']

theorem exec_perstNAssert_port (hpor : s.chip.power ≠ .por) (hrst : s.chip.power ≠ .chipReset) (hp : s.pins.perstN = true)
    (hm : s.isSet crB Reg.crStrapsPerstMode = false) : exec .perstNAssert s =
      .next ((State.linkGoesDown { s with pins := { s.pins with perstN := false } }).bump crB
        Reg.crHostResetsPerst).hostPortReset := by
  have hm' : State.isSet { s with pins := { s.pins with perstN := false } } crB Reg.crStrapsPerstMode = false := hm
  change execPerstNAssert s = _
  rw [execPerstNAssert, if_neg (by simp [hp])]
  dsimp only
  rw [if_neg hpor, if_neg (by simp [hm']), if_neg hrst]

theorem exec_perstNRelease (hp : s.pins.perstN = false) : exec .perstNRelease s =
    .next (if State.mayTrain { s with pins := { s.pins with perstN := true } } = true then
      State.setOp { s with pins := { s.pins with perstN := true } } hpB opStarting
      else { s with pins := { s.pins with perstN := true } }) := by
  change execPerstNRelease s = _
  rw [execPerstNRelease, if_neg (by simp [hp])]

theorem exec_hotResetReceived (hl : s.linkUp = true) : exec .hotResetReceived s =
    .next (s.linkGoesDown.bump crB Reg.crHostResetsHot).hostPortReset := congrArg _ (if_pos hl)

theorem exec_linkDownReset (hl : s.linkUp = true) : exec .linkDownReset s =
    .next (s.linkGoesDown.bump crB Reg.crHostResetsLinkDown).hostPortReset := congrArg _ (if_pos hl)

end Perst

/-! ### Drains that overrun (R108, R594) -/

/-- What drains for VF `t + 1` stands on its own plate. -/
theorem State.undrained_other_plate {t p : Nat} (h : p ≠ t / 8) (s : State) : s.undrained (t + 1) p = [] := by
  rw [State.undrained, List.map_eq_nil_iff, List.filter_eq_nil_iff]
  intro e _
  simp only [Bool.and_eq_true, Bool.or_eq_true, beq_iff_eq, Nat.add_one_ne_zero, false_and, or_false]
  rintro ⟨⟨⟨-, hplate⟩, -⟩, hfn⟩
  rw [hfn, Nat.add_sub_cancel] at hplate
  exact h hplate.symm

section Drain
variable (plate : Fin 8) {us : Nat} (s : State)

theorem exec_drainOverrun_in_time (h : us ≤ 20) (m : BitVec 8) : exec (.drainOverrun m plate us) s = .next s := if_pos h

variable (hlate : 20 < us)
include hlate

theorem exec_drainOverrun_function {m : BitVec 8} {fn : Nat} (hm : fnOfMaster m.toNat = some fn) :
    exec (.drainOverrun m plate us) s =
      .next (if s.undrained fn plate = [] then s else s.flrOverrun m.toNat fn plate us) := by
  change execDrainOverrun m plate us s = _
  rw [execDrainOverrun]
  dsimp only
  rw [if_neg (Nat.not_le.2 hlate), hm]
  simp only [List.isEmpty_iff]

theorem exec_drainOverrun_agent (h : s.agentDraining = true) : exec (.drainOverrun 0xC0 plate us) s =
    .next ((State.recordOverrun { s with epk := { s.epk with drainFrom := none } } 0xC0 plate us).plateReset plate
      causePlateFabric) := by
  change execDrainOverrun 0xC0 plate us s = _
  rw [execDrainOverrun]
  dsimp only
  rw [if_neg (Nat.not_le.2 hlate)]
  exact congrArg _ (if_pos h)

end Drain

/-- A master ID, spelt as a byte. -/
theorem toNat_masterByte {m : Nat} (h : m < 256) : (BitVec.ofNat 8 m).toNat = m := by
  rw [BitVec.toNat_ofNat, Nat.mod_eq_of_lt h]

theorem fnOfMaster_vf (t : Fin 64) : fnOfMaster (0x41 + t.val) = some (t.val + 1) := by
  rw [fnOfMaster, if_neg (by omega), if_pos (by omega)]
  congr 1
  omega

/-- The master ID of a plate DMA is neither a function's nor the agent's, and names its plate. -/
theorem masterDma_only (p : Fin 8) :
    fnOfMaster (0xB0 + p.val) = none ∧ 0xB0 + p.val ≠ masterEpk ∧ plateOfMaster (0xB0 + p.val) = some p.val := by
  revert p
  decide

theorem exec_drainOverrun_dma {plate : Fin 8} {us : Nat} {s : State} (hlate : 20 < us)
    (hs : (s.plate plate).stage = .waitSlot) : exec (.drainOverrun (BitVec.ofNat 8 (0xB0 + plate.val)) plate us) s =
      .next (s.recordOverrun (0xB0 + plate.val) plate us) := by
  obtain ⟨hfn, hepk, hplate⟩ := masterDma_only plate
  change execDrainOverrun _ plate us s = _
  rw [execDrainOverrun, toNat_masterByte (by omega)]
  dsimp only
  rw [if_neg (Nat.not_le.2 hlate), hfn]
  dsimp only
  rw [if_neg hepk, if_pos ⟨hplate, hs⟩]

/-- A VF's drains end with the reset of the plate; no drain of the PF ends with them. -/
theorem State.flrOverrun_vf (s : State) (m t p us : Nat) : s.flrOverrun m (t + 1) p us =
    forEach (s.undrained (t + 1) p) (fun n v => v.flrDrain n)
      (((s.recordOverrun m p us).recordHpFault p us).plateReset p causePlateFabric) := by
  rw [State.flrOverrun, if_neg (fun h => Nat.succ_ne_zero t h.1)]

/-- Settles O20: each clause is one pin, supply, link or drain event in the case that its premises name. -/
theorem chipResetsBeginAndEnd : Obligations.ChipResetsBeginAndEnd := by
  refine ⟨fun st s hpor => ⟨fun hp ha => ?_, fun hp ha => ?_, fun ha hp => ?_, fun ha hp => ?_, ?_⟩,
    fun s hpor => ⟨⟨_, exec_supplyDip s, rfl, ?_⟩, fun hp hm => exec_perstNAssert_chip hpor hp hm,
      fun hp hm hrst => exec_perstNAssert_port hpor hrst hp hm⟩,
    fun ok s hr hold hs hp => exec_chipResetRelease hr hold hs hp,
    fun s hl => ⟨exec_hotResetReceived hl, exec_linkDownReset hl⟩, fun s hp => ⟨fun href => ?_, fun hmay => ?_⟩,
    fun t plate us s hlate => ⟨fun hne => ?_, fun hother => ?_⟩, fun plate us s hlate hne => ?_,
    fun plate us s hlate hd => exec_drainOverrun_agent plate s hlate hd,
    fun plate us s hlate hs => exec_drainOverrun_dma hlate hs,
    fun m plate us s hle => exec_drainOverrun_in_time plate s hle m⟩
  · rw [exec_porNRelease hpor st hp, if_neg (by simp [ha])]
  · rw [exec_porNRelease hpor st hp, if_pos ha]
  · rw [exec_vddAonRecovered hpor st ha, if_pos hp]
  · rw [exec_vddAonRecovered hpor st ha, if_neg (by simp [hp])]
  · rw [exec_supplyDip, State.chipReset_por hpor]
  · obtain ⟨hpower, hat, hsupply, hfrozen, hready⟩ := State.chipReset_chip hpor causeChipSupply
    exact ⟨hpower, hat, by rw [hsupply]; exact Bool.or_true _, hfrozen, hready⟩
  · rw [exec_perstNRelease hp]
    exact congrArg _ (if_neg (by simp [State.mayTrain, href]))
  · rw [exec_perstNRelease hp, if_pos hmay]
    rfl
  · have hm := toNat_masterByte (m := 0x41 + t.val) (by omega)
    rw [exec_drainOverrun_function plate s hlate (hm.symm ▸ fnOfMaster_vf t), if_neg hne, hm, State.flrOverrun_vf]
  · have hm := toNat_masterByte (m := 0x41 + t.val) (by omega)
    rw [exec_drainOverrun_function plate s hlate (hm.symm ▸ fnOfMaster_vf t), if_pos (State.undrained_other_plate hother s)]
  · rw [exec_drainOverrun_function plate s hlate (fn := 0) rfl, if_neg hne]
    rfl

/-! ### The boot (R159 to R161) -/

theorem exec_bootPllLock_up {s : State} (hp : s.chip.power = .up) (hup : s.clocksUp = true) :
    exec .bootPllLock s = .next (s.wr crB Reg.crRefStatusTbPllLock 1) := by
  change execBootPllLock s = _
  rw [execBootPllLock, if_neg (by simp [hp]), if_pos hup]

theorem State.flashRead_quad {s : State} (h : s.isSet crB Reg.crStrapsFlQuad = true) : s.flashRead =
    State.emit { s with pins := { s.pins with flCsN := false } } (.flash 0x6B 0 8 4 50) := by
  rw [State.flashRead, if_pos h]

theorem State.flashRead_single {s : State} (h : s.isSet crB Reg.crStrapsFlQuad = false) : s.flashRead =
    State.emit { s with pins := { s.pins with flCsN := false } } (.flash 0x03 0 0 1 25) := by
  rw [State.flashRead, if_neg (by simp [h])]

/-! ### The wake of a plate (R155, R164, R181, R187, R198, R202, R672) -/

/-- R198: the store of the plate holds no wrong bit once it is written to zero. -/
theorem State.storeZero_lineErr (s : State) (p : Nat) {line : Nat} (h : line < 2 ^ 21) : (s.storeZero p).lineErr p line = 0 := by
  have hin : 2 ^ 21 * p ≤ 2 ^ 21 * p + line ∧ 2 ^ 21 * p + line < 2 ^ 21 * (p + 1) := by omega
  rw [State.lineErr, State.storeZero, Sparse.get, Sparse.find_dropKeys, if_pos hin]
  rfl

section Wake
variable {p : Fin 8} {s : State}

theorem exec_plateStoreInitDone (hs : (s.plate p).stage = .storeInit) : exec (.plateStoreInitDone p) s =
    .next ((s.storeZero p).setPlate p { s.plate p with stage := .kernelInit }) :=
  congrArg _ (if_pos (beq_iff_eq.2 hs))

/-- The kernel is ready, and then what its checks found wrong is a plate fault. -/
theorem exec_plateKernelInitDone (hs : (s.plate p).stage = .kernelInit) :
    exec (.plateKernelInitDone p none) s = .next (s.kernelReady p) ∧
    (∀ v : Fin 4, exec (.plateKernelInitDone p (some (.rom v))) s = .next ((s.kernelReady p).plateFault p 4 v 0)) ∧
    exec (.plateKernelInitDone p (some .patchRam)) s = .next ((s.kernelReady p).plateFault p 2 0 0) :=
  have hstage : ((s.plate p).stage == .kernelInit) = true := beq_iff_eq.2 hs
  ⟨congrArg _ (if_pos hstage), fun _ => congrArg _ (if_pos hstage), congrArg _ (if_pos hstage)⟩

end Wake

/-- Settles O21: the commands of the boot and of a wake in the stage that each of them ends. -/
theorem bootAndWakeOfAPlate : Obligations.BootAndWakeOfAPlate := by
  refine ⟨fun s hb h4 => ⟨_, _, _, rfl, rfl, rfl, if_pos ⟨hb, h4⟩⟩, fun s hp hup => exec_bootPllLock_up hp hup,
    fun s => ⟨State.flashRead_quad, State.flashRead_single⟩,
    fun p s hs hfree hr => ⟨_, _, _, _, _, rfl, rfl, rfl, rfl, rfl, congrArg _ (if_pos (by simp [hs, hfree, hr]))⟩,
    fun p s hs => ⟨_, _, rfl, rfl, congrArg _ (if_pos (beq_iff_eq.2 hs))⟩,
    fun p s hs => ⟨exec_plateStoreInitDone hs, fun _ line hline => s.storeZero_lineErr p hline⟩,
    fun p s hs => ⟨_, _, _, rfl, rfl, rfl, exec_plateKernelInitDone hs⟩,
    fun s hb hr hout => ⟨_, rfl, if_pos ⟨hb, hr, hout⟩⟩⟩

end Sys2Proof.Machine
end

section
/-! SUPPORT. The statements of 05_plates.md: how DMA operations start and end, how the rings are polled and their descriptors
checked, and the frame tick, the overruns, the burnishing, the debug halts and the stop of a plate. -/

namespace Sys2Proof.Machine

/-! ### Which operation starts (R193, R356) -/

section OperationStart
variable {p : Fin 8} {s : State}

theorem exec_dmaOperationStart_none (h : ∀ k < 8, (s.pumpAll p).mayStart (8 * p.val + k) = false) :
    exec (.dmaOperationStart p) s = .next (s.pumpAll p) := by
  have hnone : (List.range 8).find? (fun k =>
      (s.pumpAll p).mayStart (8 * p.val + (Sparse.get 7 (s.pumpAll p).dmaLast p + 1 + k) % 8)) = none :=
    List.find?_eq_none.2 fun k _ => by simp [h _ (Nat.mod_lt _ (by decide))]
  change execDmaOperationStart p s = _
  simp only [execDmaOperationStart, hnone]

/-- The first tenant after the last one served, and round, that may start an operation starts one. -/
theorem exec_dmaOperationStart_first {k : Nat} (hk : k < 8)
    (h : (s.pumpAll p).mayStart (8 * p.val + (Sparse.get 7 (s.pumpAll p).dmaLast p + 1 + k) % 8) = true)
    (hbefore : ∀ j < k, (s.pumpAll p).mayStart (8 * p.val + (Sparse.get 7 (s.pumpAll p).dmaLast p + 1 + j) % 8) = false) :
    exec (.dmaOperationStart p) s =
      .next ((s.pumpAll p).startOp (8 * p.val + (Sparse.get 7 (s.pumpAll p).dmaLast p + 1 + k) % 8)) := by
  have hfirst : (List.range 8).find? (fun k =>
      (s.pumpAll p).mayStart (8 * p.val + (Sparse.get 7 (s.pumpAll p).dmaLast p + 1 + k) % 8)) = some k :=
    List.find?_range_eq_some.2 ⟨h, List.mem_range.2 hk, fun j hj => by simp [hbefore j hj]⟩
  change execDmaOperationStart p s = _
  simp only [execDmaOperationStart, hfirst]

end OperationStart

/-! ### Starting an operation and its TLPs (R99, R100, R352, R356) -/

/-- R193: the tenant of the operation is the last one served from now on. -/
theorem State.startOp_checked {s u : State} {t : Nat} {o : DmaOp} (ho : s.nextOp t = some o)
    (hu : u = { s with dmaLast := Sparse.put 7 s.dmaLast (t / 8) (t % 8) }) (hc : u.dmaCheck t o = none) :
    s.startOp t = if o.toHost then u.startWrite t o else u.startRead t o := by
  subst hu
  simp only [State.startOp, ho, hc]

theorem State.startWrite_cons {s : State} {t : Nat} {o : DmaOp} {e : Entry} {rest : List Entry}
    (hq : s.queue (t / 8) o.queue = e :: rest) : s.startWrite t o =
      ((s.modOp t o.id (fun x => { x with
        phase := .inFlight, cells := e.cells, slot := e.slot, cell := e.cell, data := e.bytes })).setQueue (t / 8) o.queue
          rest).writeOne t o.id := by
  simp only [State.startWrite, hq]

section WriteOne
variable {s : State} {t id : Nat} {o : DmaOp}
  (ho : (s.ring t).ops.find? (fun o => o.id == id && o.phase == .inFlight && o.toHost) = some o) (ha : s.tenantActs t = true)
include ho ha

theorem State.writeOne_outOfWindow
    (hw : s.inWindow t (o.addr + o.issued) (tlpLen (o.addr + o.issued) (o.data.length - o.issued) s.mpsBytes) = false) :
    s.writeOne t id = s.dmaOutOfWindow t o := by
  simp only [State.writeOne, ho, ha, hw, Bool.not_true, Bool.not_false, Bool.false_eq_true, if_false, if_true]

/-- One TLP is issued, and with the last one the operation has ended. -/
theorem State.writeOne_inWindow
    (hw : s.inWindow t (o.addr + o.issued) (tlpLen (o.addr + o.issued) (o.data.length - o.issued) s.mpsBytes) = true) :
    ∃ (n : Nat) (u : State), n = tlpLen (o.addr + o.issued) (o.data.length - o.issued) s.mpsBytes ∧
      u = (s.modOp t id (fun x => { x with issued := x.issued + n })).emit (.dmaWrite t (o.addr + o.issued)
        ((o.data.drop o.issued).take n) (s.pf.roEn && s.isSet (tenB t) Reg.tenDmaCtrlRoEn)) ∧
      s.writeOne t id = if o.data.length ≤ o.issued + n then u.dmaEnd t id stOk o.data.length else u := by
  refine ⟨_, _, rfl, rfl, ?_⟩
  simp only [State.writeOne, ho, ha, hw, Bool.not_true, Bool.false_eq_true, if_false]

end WriteOne

/-! ### The data of a read from the host (R101, R106, R115) -/

theorem exec_dmaReadCompletion {s : State} (hl : s.linkUp = true) (t : Fin 64) (idx off : Nat) (data : List Byte) :
    exec (.dmaReadCompletion t idx off data) s =
      .next ((s.timeOutAfter t idx ((ctoRange s.pf.ctoValue).2 + 1)).readArrives t idx off data) :=
  congrArg _ (if_pos hl)

theorem State.readArrives_unawaited {s : State} {t idx off : Nat} (h : s.readingOp t idx off = none) (data : List Byte) :
    s.readArrives t idx off data = s.strayCompletion t idx off := by
  simp only [State.readArrives, h]

section ReadArrives
variable {s : State} {t idx off : Nat} {o : DmaOp} {r : Nat × Nat} {data : List Byte}
  (ho : s.readingOp t idx off = some o) (hr : Sparse.find? o.reads off = some r)
include ho hr

theorem State.readArrives_misfit (h : data = [] ∨ r.1 < data.length) :
    s.readArrives t idx off data = s.strayCompletion t idx off := by
  simp only [State.readArrives, ho, Sparse.get, hr, Option.getD_some, List.length_eq_zero_iff, if_pos h]

/-- Data that fits: the read is done or waits for the rest, and the operation has all of its payload or goes on. -/
theorem State.readArrives_fit (hne : data ≠ []) (hle : data.length ≤ r.1) {reads : Sparse (Nat × Nat)} {a : State}
    (hreads : reads = if data.length = r.1 then Sparse.del o.reads off
      else Sparse.ins (Sparse.del o.reads off) (off + data.length) (r.1 - data.length, r.2))
    (ha : a = s.modOp t o.id (fun x => { x with reads := reads, got := Sparse.ins o.got off data })) :
    s.readArrives t idx off data =
      if reads = [] ∧ o.length ≤ o.issued then a.readDone t o (Sparse.ins o.got off data) else a.pump t o.id := by
  have hfit : ¬(data = [] ∨ r.1 < data.length) := fun h => h.elim hne (Nat.not_lt.2 hle)
  subst ha hreads
  simp only [State.readArrives, ho, Sparse.get, hr, Option.getD_some, List.length_eq_zero_iff, if_neg hfit,
    List.isEmpty_iff]

end ReadArrives

/-! ### The status of an operation that has ended (R191, R194) -/

theorem exec_dmaStatusWrite {s : State} {t : Fin 64} {o : DmaOp} {rest : List DmaOp} (h : (s.ring t).ops = o :: rest) :
    exec (.dmaStatusWrite t) s = .next (if s.mayWriteStatus t o then s.writeStatus t o rest else s) := by
  change execDmaStatusWrite t s = _
  simp only [execDmaStatusWrite, h]

/-- Settles O40: each clause is one shared operation of the DMA in the case that its premises name. -/
theorem dmaOperationsStartRoundRobinAndEnd : Obligations.DmaOperationsStartRoundRobinAndEnd := by
  refine ⟨fun p s => ⟨_, rfl, exec_dmaOperationStart_none, fun k hk h => exec_dmaOperationStart_first hk h⟩,
    fun t o e rest s u ho hu hc hto hq => ?_, fun t o s u ho hu hc hfrom => ⟨_, rfl, ?_⟩,
    fun t id o s ho ha => ⟨_, rfl, State.writeOne_outOfWindow ho ha, fun hw => ?_⟩,
    fun t idx off data s hl => ⟨fun o hon ho => ?_, fun h => ?_⟩,
    fun t idx off data s => ⟨fun h => State.readArrives_unawaited h data,
      fun o r ho hr => ⟨State.readArrives_misfit ho hr, fun hne hle => ⟨_, _, _, _, rfl, rfl, rfl, rfl, ?_⟩⟩⟩,
    fun t idx off s => ⟨fun h => if_pos h, fun h => if_neg (Bool.eq_false_iff.1 h)⟩,
    fun t o rest s h => ⟨fun hno => ?_, fun hyes => ⟨_, _, rfl, rfl, ?_⟩⟩⟩
  · have hqu : u.queue (t / 8) o.queue = e :: rest := by rw [hu]; exact hq
    rw [State.startOp_checked ho hu hc, if_pos hto, State.startWrite_cons hqu]
  · rw [State.startOp_checked ho hu hc, if_neg (by simp [hfrom])]
    rfl
  · obtain ⟨n, u, rfl, hu, hone⟩ := State.writeOne_inWindow ho ha hw
    exact ⟨u, hu, fun hmore => by rw [hone, if_neg (Nat.not_le.2 hmore)], fun hlast => by rw [hone, if_pos hlast]⟩
  · rw [exec_dmaReadCompletion hl, State.timeOutAfter_some hon ho]
  · rw [exec_dmaReadCompletion hl, State.timeOutAfter_none h]
  · rw [State.readArrives_fit ho hr hne hle rfl rfl]
    refine ⟨fun hdone hall => ?_, fun hmore => ?_⟩
    · rw [if_pos ⟨hdone, hall⟩]
      rfl
    · rw [if_neg fun hend => hmore.elim (· hend.1) (Nat.not_lt.2 hend.2)]
  · rw [exec_dmaStatusWrite h, if_neg (by simp [hno])]
  · rw [exec_dmaStatusWrite h, if_pos hyes]
    rfl

/-! ### The intent of the DMA sheet and TEN_DMA_CTRL (R73, R192, R206) -/

theorem exec_dmaHostStateWrite_through {s : State} {fn : Fin 65} {p : Fin 8}
    (hw : s.lockedWrite fn (dmaB p) (dmaB p + 0x20) = true) (data : Word) :
    exec (.dmaHostStateWrite fn p data) s = .next (s.storeIntent (dmaB p) (intentOp data.toNat) 0) := by
  refine congrArg _ ((State.mmioWrite_through (State.lockedWrite_through hw) _).trans ?_)
  rw [State.dmaIntent, if_pos (State.lockedWrite_may hw)]

theorem exec_dmaEnableWrite_through {s : State} {fn : Fin 65} {t : Fin 64} (hw : s.writesThrough fn (tenB t + 0x50) = true)
    (data : Word) : exec (.dmaEnableWrite fn t data) s = .next (s.dmaEnableEffect fn t data.toNat) :=
  congrArg _ (State.mmioWrite_through hw _)

/-! ### The header poll (R100, R101, R191) -/

theorem State.pollDue_iff (s : State) (t : Nat) : s.pollDue t = true ↔ s.ringActs t = true ∧ s.tagFree (t / 8) = true ∧
    ∀ x, (s.ring t).pollAt = some x → x + s.rd (dmaB (t / 8)) Reg.dmaCfgPollUs * 1000 ≤ s.now := by
  rw [State.pollDue, Bool.and_eq_true, Bool.and_eq_true, and_assoc]
  cases (s.ring t).pollAt with
  | none => simp
  | some x => simp

section RingPoll
variable {s : State} {t : Fin 64}

theorem exec_dmaRingPoll_idle (h : s.pollDue t = false) (header : HeaderRead) : exec (.dmaRingPoll t header) s = .next s :=
  congrArg _ (if_pos (by simp [h]))

/-- R101: while timeouts are disabled no poll ends by one. -/
theorem exec_dmaRingPoll_noTimeout (hoff : s.pf.ctoDisable = true) : exec (.dmaRingPoll t .timeout) s = .next s :=
  congrArg _ (if_pos (by simp [hoff]))

variable (h : s.pollDue t = true)
include h

theorem exec_dmaRingPoll_timeout (hon : s.pf.ctoDisable = false) : exec (.dmaRingPoll t .timeout) s =
    .next (((State.emit (s.setRing t { s.ring t with pollAt := some s.now }) (.dmaRead t (s.winBase t) 32)).noteTimeout
      t).pollFails t) :=
  congrArg _ (if_neg (by simp [h, hon]))

theorem exec_dmaRingPoll_poisoned : exec (.dmaRingPoll t .poisoned) s =
    .next (((State.emit (s.setRing t { s.ring t with pollAt := some s.now }) (.dmaRead t (s.winBase t) 32)).notePoisoned
      (t + 1)).pollFails t) :=
  congrArg _ (if_neg (by simp [h]))

theorem exec_dmaRingPoll_data (dw0 dw1 : Word) : exec (.dmaRingPoll t (.data dw0 dw1)) s =
    .next ((State.emit (s.setRing t { s.ring t with pollAt := some s.now }) (.dmaRead t (s.winBase t) 32)).takeHeader t
      dw0.toNat dw1.toNat) :=
  congrArg _ (if_neg (by simp [h]))

end RingPoll

section TakeHeader
variable {s : State} {t dw0 dw1 : Nat}

/-- R192: a ring that has its position keeps it. -/
theorem State.takeHeader_placed (hprod : bitsOf dw0 0 7 ≠ 0) {i : Nat} (hpos : (s.ring t).pos = some i) :
    s.takeHeader t dw0 dw1 = s.setRing t { s.ring t with prod := bitsOf dw0 0 7 } := by
  simp [State.takeHeader, hpos, hprod]

theorem State.takeHeader_first (hprod : bitsOf dw0 0 7 ≠ 0) (hpos : (s.ring t).pos = none) (hcons : bitsOf dw1 0 7 ≠ 0) :
    s.takeHeader t dw0 dw1 = s.setRing t { s.ring t with pos := some (bitsOf dw1 0 7), prod := bitsOf dw0 0 7 } := by
  simp [State.takeHeader, hpos, hprod, hcons]

theorem State.takeHeader_noProducer (hprod : bitsOf dw0 0 7 = 0) : s.takeHeader t dw0 dw1 =
    ((s.setRing t { s.ring t with
        pos := if (s.ring t).pos.isNone ∧ bitsOf dw1 0 7 ≠ 0 then some (bitsOf dw1 0 7) else (s.ring t).pos }).bumpSat
      (dmaB (t / 8)) Reg.dmaCntErrBadIndex).raise (dmaB (t / 8)) 0 := by
  cases hpos : (s.ring t).pos with
  | none => by_cases hcons : bitsOf dw1 0 7 = 0 <;> simp [State.takeHeader, hpos, hprod, hcons]
  | some i => simp [State.takeHeader, hpos, hprod]

theorem State.takeHeader_noPosition (hpos : (s.ring t).pos = none) (hcons : bitsOf dw1 0 7 = 0) : s.takeHeader t dw0 dw1 =
    ((s.setRing t (s.ring t)).bumpSat (dmaB (t / 8)) Reg.dmaCntErrBadIndex).raise (dmaB (t / 8)) 0 := by
  have hsame : { s.ring t with pos := none } = s.ring t := by rw [← hpos]
  simp [State.takeHeader, hpos, hcons, hsame]

end TakeHeader

/-! ### The read of a descriptor (R100, R101, R191, R193) -/

theorem State.descriptorDue_iff (s : State) (t i : Nat) : s.descriptorDue t i = true ↔
    s.ringActs t = true ∧ s.tagFree (t / 8) = true ∧ (s.ring t).prod ≠ 0 ∧ i ≠ (s.ring t).prod ∧
      (∀ o ∈ (s.ring t).ops, o.phase ≠ .pending) ∧ s.roomInFlight t = true := by
  simp [State.descriptorDue, and_assoc]

section DescriptorRead
variable {s : State} {t : Fin 64}

theorem exec_dmaDescriptorRead_unplaced (hpos : (s.ring t).pos = none) (desc : DescRead) :
    exec (.dmaDescriptorRead t desc) s = .next s := by
  change execDmaDescriptorRead t desc s = _
  simp only [execDmaDescriptorRead, hpos]

variable {i : Nat} (hpos : (s.ring t).pos = some i)
include hpos

theorem exec_dmaDescriptorRead_placed (desc : DescRead) : exec (.dmaDescriptorRead t desc) s =
    .next (if s.descriptorDue t i && !(desc == .timeout && s.pf.ctoDisable) then s.readDescriptor t i desc else s) := by
  change execDmaDescriptorRead t desc s = _
  simp only [execDmaDescriptorRead, hpos]

theorem exec_dmaDescriptorRead_idle (h : s.descriptorDue t i = false) (desc : DescRead) :
    exec (.dmaDescriptorRead t desc) s = .next s := by
  rw [exec_dmaDescriptorRead_placed hpos, if_neg (by simp [h])]

/-- R101: while timeouts are disabled no read of a descriptor ends by one. -/
theorem exec_dmaDescriptorRead_noTimeout (hoff : s.pf.ctoDisable = true) :
    exec (.dmaDescriptorRead t .timeout) s = .next s := by
  rw [exec_dmaDescriptorRead_placed hpos, if_neg (by simp [hoff])]

theorem exec_dmaDescriptorRead_due (h : s.descriptorDue t i = true) {desc : DescRead}
    (hends : desc = .timeout → s.pf.ctoDisable = false) :
    exec (.dmaDescriptorRead t desc) s = .next (s.readDescriptor t i desc) := by
  rw [exec_dmaDescriptorRead_placed hpos, if_pos (by simpa [h, imp_iff_not_or] using hends)]

end DescriptorRead

/-! ### The checks of a descriptor in their order (R787) -/

section DmaCheck
variable {s : State} {t : Nat} {o : DmaOp}

theorem State.dmaCheck_notEnabled (h : s.dmaEnabled t = false) : s.dmaCheck t o = some (s.dmaRefuse t o.id stNotEnabled 0) := by
  simp [State.dmaCheck, h]

variable (henabled : s.dmaEnabled t = true)
include henabled

theorem State.dmaCheck_badQueue (h : s.queueAllowed t o = false) :
    s.dmaCheck t o = some ((s.dmaEnd t o.id stBadQueue 0).dmaViolate t o.id vBadQueue 7 o.desc) := by
  simp [State.dmaCheck, henabled, h]

variable (hqueue : s.queueAllowed t o = true)
include hqueue

/-- An operation that has issued no TLP has moved no bytes. -/
theorem State.dmaCheck_outOfWindow (hfresh : o.issued = 0) (h : s.inWindow t o.addr o.length = false) : s.dmaCheck t o =
    some ((s.dmaRefuse t o.id stOutOfWindow 0).dmaViolate t o.id vWindow (if o.toHost then 3 else 2) o.addr) := by
  simp [State.dmaCheck, henabled, hqueue, h, State.dmaOutOfWindow, hfresh]

variable (hwindow : s.inWindow t o.addr o.length = true)
include hwindow

theorem State.dmaCheck_queueEmpty (hto : o.toHost = true) (h : s.queue (t / 8) o.queue = []) :
    s.dmaCheck t o = some (s.dmaEnd t o.id stQueueEmpty 0) := by
  simp [State.dmaCheck, henabled, hqueue, hwindow, hto, h]

theorem State.dmaCheck_head (hto : o.toHost = true) {e : Entry} {rest : List Entry} (h : s.queue (t / 8) o.queue = e :: rest) :
    s.dmaCheck t o = if o.length < e.bytes.length then some (s.dmaEnd t o.id stTooLong e.bytes.length) else none := by
  simp [State.dmaCheck, henabled, hqueue, hwindow, hto, h]

theorem State.dmaCheck_cellsAllowed (hfrom : o.toHost = false)
    (h : s.allocRefusal (t / 8) o.queue (t % 8) (cellsOf o.length) false = 0) : s.dmaCheck t o = none := by
  simp only [State.dmaCheck, henabled, hqueue, hwindow, hfrom, h, Bool.not_true, Bool.false_eq_true, if_false]

theorem State.dmaCheck_noCells (hfrom : o.toHost = false)
    (h : s.allocRefusal (t / 8) o.queue (t % 8) (cellsOf o.length) false ≠ 0) : s.dmaCheck t o =
      some ((s.countRefusal (t / 8) o.queue (t % 8)
        (s.allocRefusal (t / 8) o.queue (t % 8) (cellsOf o.length) false)).dmaEnd t o.id stNoCells 0) := by
  simp [State.dmaCheck, henabled, hqueue, hwindow, hfrom]

end DmaCheck

/-- Settles O39: each clause is one command, or one check of R787, in the case that its premises name. -/
theorem dmaRingsArePolledAndTheirDescriptorsChecked : Obligations.DmaRingsArePolledAndTheirDescriptorsChecked := by
  refine ⟨fun fn p data s hw => exec_dmaHostStateWrite_through hw data,
    fun fn t data s hw => ⟨_, rfl, fun hsame => ?_, fun hnew => ?_⟩, fun t s => s.pollDue_iff t,
    fun t i s => s.descriptorDue_iff t i, fun t header s h => exec_dmaRingPoll_idle h header,
    fun t s h => ⟨_, rfl, exec_dmaRingPoll_timeout h, exec_dmaRingPoll_noTimeout, exec_dmaRingPoll_poisoned h,
      fun dw0 dw1 hprod => ⟨fun i hpos => ?_, fun hpos hcons => ?_⟩, fun dw0 dw1 pos hprod hnew => ?_,
      fun dw0 dw1 hpos hcons => ?_⟩,
    fun t desc s => ⟨fun hpos => exec_dmaDescriptorRead_unplaced hpos desc,
      fun i hpos h => exec_dmaDescriptorRead_idle hpos h desc⟩,
    fun t i dw0 dw1 addr cookie s hpos h => ⟨_, _, rfl, rfl, exec_dmaDescriptorRead_due hpos h nofun,
      State.dmaCheck_notEnabled, State.dmaCheck_badQueue, fun hen hq => ⟨State.dmaCheck_outOfWindow hen hq rfl, fun hwin =>
        ⟨State.dmaCheck_queueEmpty hen hq hwin, fun e rest hto hqu => ?_, fun c hfrom hc => ?_⟩⟩⟩,
    fun t i s hpos h => ⟨_, rfl, fun hon => exec_dmaDescriptorRead_due hpos h fun _ => hon,
      exec_dmaDescriptorRead_noTimeout hpos, exec_dmaDescriptorRead_due hpos h nofun⟩⟩
  · rw [exec_dmaEnableWrite_through hw]
    exact congrArg _ (if_pos hsame)
  · rw [exec_dmaEnableWrite_through hw]
    exact congrArg _ (if_neg hnew)
  · rw [exec_dmaRingPoll_data h, State.takeHeader_placed hprod hpos]
  · rw [exec_dmaRingPoll_data h, State.takeHeader_first hprod hpos hcons]
  · rw [exec_dmaRingPoll_data h, State.takeHeader_noProducer hprod, hnew]
  · rw [exec_dmaRingPoll_data h, State.takeHeader_noPosition hpos hcons]
  · rw [State.dmaCheck_head hen hq hwin hto hqu]
    exact ⟨fun hlong => if_pos hlong, fun hfits => if_neg (Nat.not_lt.2 hfits)⟩
  · subst hc
    exact ⟨State.dmaCheck_cellsAllowed hen hq hwin hfrom, State.dmaCheck_noCells hen hq hwin hfrom⟩

/-! ### The frame tick and a graver's overrun (R176-R179) -/

theorem exec_frameTick_due {p : Fin 8} {s : State} (hout : (s.plate p).stage = .out) (hquiet : s.plateOp p ≠ opQuiet)
    (hdue : s.tickDue p = true) (media : List FrameIn) (fault : Option KernelFault) : exec (.frameTick p media fault) s =
      .next (if (s.tickStart p media).quietReady p && !(s.tickStart p media).coordinated p then
        (s.tickStart p media).enterQuiet p else (s.tickStart p media).tickFrame p media fault) := by
  change execFrameTick p media fault s = _
  rw [execFrameTick, if_neg (by simp [hout, hquiet, hdue])]

theorem exec_frameTick_idle {p : Fin 8} {s : State}
    (h : (s.plate p).stage ≠ .out ∨ s.plateOp p = opQuiet ∨ s.tickDue p = false) (media : List FrameIn)
    (fault : Option KernelFault) : exec (.frameTick p media fault) s = .next s :=
  congrArg _ (if_pos (by simpa [or_assoc] using h))

theorem exec_graverOverrun_running {p : Fin 8} {v : Fin 4} {ch : Fin 256} {s : State} (hruns : s.graverRuns p v = true)
    (hopen : s.chOpen (256 * p.val + ch.val) = true) (hmine : (s.chan (256 * p.val + ch.val)).graver = v.val) :
    exec (.graverOverrun p v ch) s = .next (State.overrunLimit
      (((s.skipPackets (256 * p.val + ch.val)).repeatFrame (256 * p.val + ch.val)).countOverrun p v) p v) :=
  congrArg _ (if_neg (by simp [hruns, hopen, hmine]))

section OverrunLimit
variable {s : State} {p v : Nat}

theorem State.overrunLimit_below (h : (s.graver p v).overruns < s.rd (gcB p) Reg.gcOvrLimitLimit) : s.overrunLimit p v = s :=
  if_neg (by simp [h])

theorem State.overrunLimit_disabled (h : (s.isSet (gcB p) Reg.gcOvrLimitDisable && s.debugState) = true) :
    s.overrunLimit p v = s := if_neg (by simp [h])

theorem State.overrunLimit_reached (h : s.rd (gcB p) Reg.gcOvrLimitLimit ≤ (s.graver p v).overruns)
    (hon : (s.isSet (gcB p) Reg.gcOvrLimitDisable && s.debugState) = false) : s.overrunLimit p v = s.plateFault p 3 v 0 :=
  if_pos (by simp [h, hon])

end OverrunLimit

/-! ### Burnishing and the reads of a store line (R182, R184, R185) -/

theorem exec_burnishRead_due {p : Fin 8} {s : State} (h : s.burnishDue p = true) (flips : BitVec 44) :
    exec (.burnishRead p flips) s = .next (s.burnish p flips.toNat) := congrArg _ (if_pos h)

theorem exec_burnishRead_idle {p : Fin 8} {s : State} (h : s.burnishDue p = false) (flips : BitVec 44) :
    exec (.burnishRead p flips) s = .next s := congrArg _ (if_neg (by simp [h]))

/-- A line that PS_INJECT does not name has only the bits that have changed of themselves. -/
theorem State.burnish_uninjected {s : State} {p : Nat} (h : s.rd (psB p) Reg.psInjectLine ≠ s.rd (psB p) Reg.psPassLine)
    (flips : Nat) : s.burnish p flips = State.readLine (State.flipLine (State.flipLine
      ((s.setPlate p { s.plate p with burnishAt := s.now }).wr (psB p) Reg.psPassLine
        ((s.rd (psB p) Reg.psPassLine + 1) % 2 ^ 21)) p (s.rd (psB p) Reg.psPassLine) flips) p
          (s.rd (psB p) Reg.psPassLine) 0) p (s.rd (psB p) Reg.psPassLine) true := by
  simp only [State.burnish, beq_eq_false_iff_ne.2 h, Bool.false_eq_true, if_false]

section ReadLine
variable {s : State} {p line : Nat}

theorem State.readLine_right (h : onesIn 44 (s.lineErr p line) = 0) (burnish : Bool) : s.readLine p line burnish = s := by
  rw [State.readLine, h, if_pos rfl]

/-- One wrong bit is corrected, and burnishing writes the line back. -/
theorem State.readLine_burnish_corrected (h : onesIn 44 (s.lineErr p line) = 1) : s.readLine p line true =
    (((((s.wr (psB p) Reg.psLastErrLine line).wrB (psB p) Reg.psLastErrByBurnish true).wr (psB p) Reg.psLastErrKind 1).bump
      (psB p) Reg.psCorrCorrected).raise (psB p) 0).setLineErr p line 0 := by
  simp only [State.readLine, h, Nat.one_ne_zero, if_false, if_true]

theorem State.readLine_uncorrectable (h : 2 ≤ onesIn 44 (s.lineErr p line)) (burnish : Bool) : s.readLine p line burnish =
    ((((s.wr (psB p) Reg.psLastErrLine line).wrB (psB p) Reg.psLastErrByBurnish burnish).bump (psB p)
      Reg.psCorrUncorrected).raise (psB p) 1).storeLost p line := by
  simp only [State.readLine, if_neg (show onesIn 44 (s.lineErr p line) ≠ 0 by omega),
    if_neg (show onesIn 44 (s.lineErr p line) ≠ 1 by omega)]

end ReadLine

/-! ### Debug halts (R200) -/

theorem exec_graverDebugHaltWrite_through {s : State} {fn : Fin 65} {p : Fin 8}
    (hw : s.lockedWrite fn (gcB p) (gcB p + 0x48) = true) (data : Word) : exec (.graverDebugHaltWrite fn p data) s =
      .next (s.debugHalt fn p data.toNat) := by
  change execGraverDebugHaltWrite fn p data s = _
  rw [execGraverDebugHaltWrite, State.mmioWrite_through (State.lockedWrite_through hw)]

theorem State.rd_holdPc (s : State) (p v b : Nat) (r : Row) (i : Nat) : (s.holdPc p v).rd b r i = s.rd b r i := rfl

section DebugHalt
variable {s : State} {fn p : Nat} (hm : s.mayWriteL (gcB p) (masterOfFn fn) = true)
include hm

/-- In FIELD no graver halts, so the stored 0 is all that happens. -/
theorem State.debugHalt_field (h : s.fuses.lc = 2) (data : Nat) : s.debugHalt fn p data = s.wr (gcB p) Reg.gcDebugHalt 0 := by
  simp only [State.debugHalt, hm, State.debugState, h, Bool.not_true, bne_self_eq_false, Bool.false_eq_true, if_false]
  refine forUpTo_stays (P := (· = s.wr (gcB p) Reg.gcDebugHalt 0)) (fun g t ht => ?_) rfl 4
  rw [if_neg (by simp [bitAt]), ht]

theorem State.rd_debugHalt_debugState (hwf : Sparse.wf s.regs = true) (h : s.fuses.lc ≠ 2) (data : Nat) :
    (s.debugHalt fn p data).rd (gcB p) Reg.gcDebugHalt = bitsOf data 0 4 := by
  simp only [State.debugHalt, hm, State.debugState, bne_iff_ne.2 h, Bool.not_true, Bool.false_eq_true, if_false, if_true]
  rw [forUpTo_leaves (g := fun t : State => t.rd (gcB p) Reg.gcDebugHalt), State.rd_wr_same hwf]
  · exact Nat.mod_mod _ _
  · intro g t
    split
    · exact State.rd_holdPc t p g _ _ _
    · rfl

end DebugHalt

/-! ### The end of STOPPING (R196, R663) -/

theorem exec_plateStopComplete_done {p : Fin 8} {s : State} (hop : s.plateOp p = opStopping)
    (hq : Sparse.find? s.quietReqs p = none) (hch : s.activeIn p (p + 1) = false) (hdma : s.plateInFlight p = 0) :
    ∃ a b : State, a = s.haltGravers p ∧ b = (a.setPlate p { a.plate p with baseGrant := false }).setPlateOp p opOff ∧
      exec (.plateStopComplete p) s = .next (if b.rd (plB p) Title.hostOp = opRunning then b.plateStart p else b) := by
  refine ⟨_, _, rfl, rfl, ?_⟩
  change execPlateStopComplete p s = _
  rw [execPlateStopComplete, if_pos (by simp [hop, hq, hch, hdma])]

/-- Settles O24: each clause is one command, or one shared operation of the plate, in the case that its premises name. -/
theorem frameTickOverrunsBurnishingAndStop : Obligations.FrameTickOverrunsBurnishingAndStop := by
  refine ⟨fun p media fault s => ⟨fun hout hquiet hdue => ⟨_, rfl, exec_frameTick_due hout hquiet hdue media fault⟩,
      fun h => exec_frameTick_idle h media fault⟩,
    fun p v ch s hruns hopen hmine => ⟨_, rfl, fun hbelow => ?_, fun hlimit hon => ?_, fun hoff => ?_⟩,
    fun p flips s h => ⟨exec_burnishRead_due h flips, fun hline => ⟨_, _, rfl, rfl, ?_⟩⟩,
    fun p flips s h => exec_burnishRead_idle h flips,
    fun p line s => ⟨_, rfl, fun h => State.readLine_right h true, State.readLine_burnish_corrected,
      fun h => State.readLine_uncorrectable h true⟩,
    fun fn p data s hw hlc => ?_, fun fn p data s hw hlc hi => ⟨_, exec_graverDebugHaltWrite_through hw data,
      State.rd_debugHalt_debugState (State.lockedWrite_may hw) hi.regs hlc _⟩,
    fun p s hop hq hch hdma => exec_plateStopComplete_done hop hq hch hdma⟩
  · rw [exec_graverOverrun_running hruns hopen hmine, State.overrunLimit_below hbelow]
  · rw [exec_graverOverrun_running hruns hopen hmine, State.overrunLimit_reached hlimit hon]
  · rw [exec_graverOverrun_running hruns hopen hmine, State.overrunLimit_disabled hoff]
  · rw [exec_burnishRead_due h, State.burnish_uninjected hline]
  · rw [exec_graverDebugHaltWrite_through hw, State.debugHalt_field (State.lockedWrite_may hw) hlc]

end Sys2Proof.Machine
end

section
/-! SUPPORT. The statements of 06_channels.md: the events of a descriptor, what a refused request leaves, the writes of a
channel's intent and owner, its trace sample, and accept_path. -/

namespace Sys2Proof.Machine

/-! ### What rests on the register fields, or on the list of channels, alone -/

theorem State.chan_modChan {s : State} (h : Sparse.wf s.chans = true) (g : Nat) (f : Chan → Chan) :
    (s.modChan g f).chan g = f (s.chan g) :=
  (Sparse.get_put h).trans (if_pos rfl)

theorem State.chan_setChan {s : State} (h : Sparse.wf s.chans = true) (g : Nat) (c : Chan) : (s.setChan g c).chan g = c :=
  (Sparse.get_put h).trans (if_pos rfl)

theorem State.chan_congr {s t : State} (h : t.chans = s.chans) (g : Nat) : t.chan g = s.chan g := by
  rw [State.chan, State.chan, h]

theorem State.rd_congr {s t : State} (h : t.regs = s.regs) (b : Nat) (r : Row) : t.rd b r = s.rd b r := by
  rw [State.rd, State.rd, h]

theorem State.chHeld_congr {s t : State} (h : t.regs = s.regs) (g : Nat) : t.chHeld g = s.chHeld g := by
  rw [State.chHeld, State.chHeld, State.isSet, State.isSet, State.rd_congr h]

theorem State.plateQuiet_congr {s t : State} {p : Nat} (hp : t.plates = s.plates)
    (hop : t.rd (plB p) Title.stateOp = s.rd (plB p) Title.stateOp) : t.plateQuiet p = s.plateQuiet p := by
  have hout : t.plateOut p = s.plateOut p := by simp only [State.plateOut, State.plate, hp]
  rw [State.plateQuiet, State.plateQuiet, State.plateOp, State.plateOp, hout, hop]

/-! ### The events of a descriptor (R235, R236) -/

/-- Setting a clear bit leaves the others. -/
theorem bitAt_add_two_pow_ne {w i j n : Nat} (hi : bitAt w i = false) (hne : j ≠ i) (hj : j < n) :
    bitAt ((w + 2 ^ i) % 2 ^ n) j = bitAt w j := by
  rw [bitAt_eq_testBit, bitAt_eq_testBit, Nat.testBit_mod_two_pow, decide_eq_true hj, Bool.true_and]
  rcases Nat.lt_or_gt_of_ne hne with hlt | hgt
  · rw [Nat.add_comm, Nat.testBit_two_pow_add_gt hlt]
  · have hclear : w / 2 ^ i % 2 = 0 := by simpa [bitAt, Nat.shiftRight_eq_div_pow] using hi
    have habove : (w + 2 ^ i) / 2 ^ (i + 1) = w / 2 ^ (i + 1) := by
      rw [Nat.pow_succ, ← Nat.div_div_eq_div_mul, ← Nat.div_div_eq_div_mul, Nat.add_div_right _ (Nat.two_pow_pos i)]
      omega
    obtain ⟨k, rfl⟩ := Nat.exists_eq_add_of_le' (Nat.succ_le_of_lt hgt)
    rw [← Nat.testBit_div_two_pow, ← Nat.testBit_div_two_pow, habove]

/-- Asking for vector 2 changes neither a register field nor a channel. -/
theorem State.vector2_regs_chans (s : State) (t : Nat) : (s.vector2 t).regs = s.regs ∧ (s.vector2 t).chans = s.chans := by
  unfold State.vector2
  split
  · rw [State.sendMsix_eq]
    exact ⟨rfl, rfl⟩
  · exact ⟨rfl, rfl⟩

theorem State.chAssert_regs_chans (s : State) (g : Nat) :
    (s.chAssert g).regs = s.regs ∧ (s.chAssert g).chans = s.chans := by
  unfold State.chAssert
  split
  · exact s.vector2_regs_chans _
  · exact ⟨rfl, rfl⟩

theorem State.chEvent_chans (s : State) (g i : Nat) : (s.chEvent g i).chans = s.chans := by
  unfold State.chEvent
  dsimp only
  split_ifs
  · rfl
  · exact (State.chAssert_regs_chans _ g).2
  · rfl

/-- Of the register fields, an event sets its bit of CH_EVENT, where it is clear. -/
theorem State.chEvent_regs (s : State) (g i : Nat) : (s.chEvent g i).regs =
    if bitAt (s.rd (chB g) Reg.chEventEvents) i then s.regs
    else (s.wr (chB g) Reg.chEventEvents (s.rd (chB g) Reg.chEventEvents + 2 ^ i)).regs := by
  unfold State.chEvent
  dsimp only
  split_ifs
  · rfl
  · exact (State.chAssert_regs_chans _ g).1
  · rfl

/-- The other fields of the descriptor stand. -/
theorem State.rd_chEvent {r : Row} (h : r.off * 32 + r.lsb ≠ 0x200) (s : State) (g i : Nat) :
    (s.chEvent g i).rd (chB g) r = s.rd (chB g) r := by
  have hregs := s.chEvent_regs g i
  split at hregs
  · exact State.rd_congr hregs _ _
  · exact (State.rd_congr hregs _ _).trans (State.rd_wr_apart h _ _ _)

section Events
variable {s : State} (h : Sparse.wf s.regs = true) (g : Nat)
include h

theorem State.bitAt_chEvent {i : Nat} (hi : i < 16) : bitAt ((s.chEvent g i).rd (chB g) Reg.chEventEvents) i = true := by
  have hregs := s.chEvent_regs g i
  split at hregs
  · next hset => rwa [State.rd_congr hregs]
  · next hclear =>
    rw [State.rd_congr hregs, State.rd_wr_same h]
    exact bitAt_add_two_pow (by simpa using hclear) hi

theorem State.bitAt_chEvent_stays {j : Nat} (hj : j < 16) (hset : bitAt (s.rd (chB g) Reg.chEventEvents) j = true)
    (i : Nat) : bitAt ((s.chEvent g i).rd (chB g) Reg.chEventEvents) j = true := by
  have hregs := s.chEvent_regs g i
  split at hregs
  · rwa [State.rd_congr hregs]
  · next hclear =>
    have hne : j ≠ i := fun heq => hclear (heq ▸ hset)
    rw [State.rd_congr hregs, State.rd_wr_same h]
    exact (bitAt_add_two_pow_ne (by simpa using hclear) hne hj).trans hset

end Events

/-! ### The settled state (R235), and channels beyond the highway (R458) -/

/-- The channel with the settled state that its path reads now. -/
def State.settled (s : State) (g : Nat) : State := s.setChan g { s.chan g with settled := s.pathView g }

theorem State.noteSettled_cases (s : State) (g : Nat) :
    s.noteSettled g = s ∨ s.noteSettled g = (s.settled g).chEvent g evPathChange := by
  unfold State.noteSettled
  dsimp only
  split
  · exact .inl rfl
  · exact .inr rfl

theorem State.rd_noteSettled {r : Row} (h : r.off * 32 + r.lsb ≠ 0x200) (s : State) (g : Nat) :
    (s.noteSettled g).rd (chB g) r = s.rd (chB g) r := by
  rcases s.noteSettled_cases g with heq | heq
  · rw [heq]
  · rw [heq, State.rd_chEvent h]
    rfl

theorem State.bitAt_noteSettled {s : State} (h : Sparse.wf s.regs = true) (g : Nat) {j : Nat} (hj : j < 16)
    (hset : bitAt (s.rd (chB g) Reg.chEventEvents) j = true) :
    bitAt ((s.noteSettled g).rd (chB g) Reg.chEventEvents) j = true := by
  rcases s.noteSettled_cases g with heq | heq
  · rwa [heq]
  · rw [heq]
    exact State.bitAt_chEvent_stays (s := s.settled g) h g hj hset _

theorem State.req_noteSettled {s : State} (h : Sparse.wf s.chans = true) (g : Nat) :
    ((s.noteSettled g).chan g).req = (s.chan g).req := by
  rcases s.noteSettled_cases g with heq | heq
  · rw [heq]
  · rw [heq, State.chan_congr (State.chEvent_chans _ _ _), State.settled, State.chan_setChan h]

theorem State.noteBeyond_chans (s : State) (p : Nat) : (s.noteBeyond p).chans = s.chans := by
  unfold State.noteBeyond
  dsimp only
  split
  · rw [State.raise_eq]
    rfl
  · rfl

/-- The descriptors lie below the windows of the plates, where the count stands. -/
theorem State.rd_noteBeyond {s : State} (h : Sparse.wf s.regs = true) {g : Nat} (hg : g < 2048) {r : Row}
    (ho : r.off < 0x200) (hl : r.lsb < 32) (p : Nat) : (s.noteBeyond p).rd (chB g) r = s.rd (chB g) r := by
  have hcount : ∀ v, (s.wr (thB p) Reg.thStatusBeyond v).rd (chB g) r = s.rd (chB g) r := fun v =>
    State.rd_wr_ne h (by simp only [fieldKey, chB, thB, winB, Reg.thStatusBeyond]; omega)
  unfold State.noteBeyond
  dsimp only
  split
  · rw [State.rd_raise_apart (State.wr_wf h _ _ _ _) hl (by simp only [chB, thB, winB]; omega), hcount]
  · exact hcount _

/-! ### The path -/

theorem State.path_setPath {s : State} (h : Sparse.wf s.regs = true) (g next : Nat) :
    (s.setPath g next).path g = next % 16 := by
  unfold State.setPath
  split
  · exact State.rd_wr_same (State.wr_wf h _ _ _ _) _ _ _ _
  · exact State.rd_wr_same h _ _ _ _

/-- A path that moves leaves its plate's sheet. -/
theorem State.plateQuiet_setPath {s : State} (h : Sparse.wf s.regs = true) {g : Nat} (hg : g < 2048) (p next : Nat) :
    (s.setPath g next).plateQuiet p = s.plateQuiet p := by
  have hkey : ∀ r : Row, r.off < 0x200 → r.lsb < 32 → fieldKey (plB p) Title.stateOp 0 ≠ fieldKey (chB g) r 0 := by
    intro r ho hl
    simp only [fieldKey, chB, plB, winB, Title.stateOp]
    omega
  unfold State.setPath
  split
  · refine State.plateQuiet_congr rfl ?_
    rw [State.rd_wr_ne (State.wr_wf h _ _ _ _) (hkey _ (by decide) (by decide)),
      State.rd_wr_ne h (hkey _ (by decide) (by decide))]
  · exact State.plateQuiet_congr rfl (State.rd_wr_ne h (hkey _ (by decide) (by decide)))

/-! ### CH_INTENT and CH_OWNER (R211, R214, R223) -/

section Writes
variable {s : State} {fn : Fin 65} {g : Fin 2048} (data : Word)

theorem exec_chIntentWrite_through (hw : s.writesThrough fn (chB g + 0x4) = true) :
    exec (.chIntentWrite fn g data) s = .next (s.chIntentEffect fn g data.toNat) := by
  change execChIntentWrite fn g data s = _
  rw [execChIntentWrite, State.mmioWrite_through hw]

theorem exec_chOwnerWrite_through (hw : s.writesThrough fn (chB g) = true) :
    exec (.chOwnerWrite fn g data) s = .next (s.chOwnerEffect fn g data.toNat) := by
  change execChOwnerWrite fn g data s = _
  rw [execChOwnerWrite, State.mmioWrite_through hw]

end Writes

/-- A request is classified with no close or mute waiting. -/
def State.clearWaiting (s : State) (g : Nat) : State := s.modChan g (fun c => { c with closeReq := false, muteReq := false })

theorem State.dropRequest_none {s : State} {g : Nat} (h : (s.chan g).req = none) : s.dropRequest g = s.clearWaiting g := by
  simp only [State.dropRequest, h]
  rfl

theorem State.chan_clearWaiting {s : State} (h : Sparse.wf s.chans = true) (g : Nat) :
    (s.clearWaiting g).chan g = { s.chan g with closeReq := false, muteReq := false } :=
  State.chan_modChan h g _

/-- R214: the intent that opens. -/
theorem State.classifyReq_open {s : State} {g : Nat} (hwf : Sparse.wf s.chans = true) (hreq : (s.chan g).req = none)
    (hf : s.chFrozen g = false) (hpath : s.path g = pathIdle ∨ s.path g = pathRefused ∨ s.path g = pathFault)
    (hwant : s.chWant g ≠ wantClosed) (hgen : s.chGen g ≠ s.chLastGen g) :
    s.classifyReq g = (s.clearWaiting g).addRequest g true := by
  have hchan := State.chan_clearWaiting hwf g
  have hthawed : (s.clearWaiting g).chFrozen g = false := by
    rw [State.chFrozen, hchan]
    exact hf
  have hserved : (s.clearWaiting g).chServed g = false := by
    rw [State.chServed, hchan]
    simp only [hreq]
  have hshown : (if (s.clearWaiting g).chFrozen g = true then pathFrozen else (s.clearWaiting g).path g) = s.path g :=
    if_neg (by simp [hthawed])
  rw [State.classifyReq, State.dropRequest_none hreq, if_neg (show (s.clearWaiting g).chWant g ≠ wantClosed from hwant),
    if_neg (by simp [hserved]), if_pos (show (s.clearWaiting g).chGen g ≠ (s.clearWaiting g).chLastGen g from hgen),
    hshown, if_pos hpath]

/-- The channel with an open made now. -/
def State.withOpen (s : State) (g : Nat) : State :=
  s.modChan g (fun c => { c with req := some { isOpen := true, at_ := s.now, prior := s.path g } })

theorem State.addRequest_open (s : State) (g : Nat) : s.addRequest g true = (s.withOpen g).setPath g pathAdmitting := rfl

theorem State.setPath_chans (s : State) (g next : Nat) : (s.setPath g next).chans = s.chans := by
  unfold State.setPath
  split <;> rfl

/-- What an open that is added shows. -/
theorem State.addRequest_shows {s : State} (h : s.Inv) {g : Nat} (hg : g < 2048) :
    (s.addRequest g true).path g = pathAdmitting ∧
    ((s.addRequest g true).chan g).req = some { isOpen := true, at_ := s.now, prior := s.path g } ∧
    ∀ p, (s.addRequest g true).plateQuiet p = s.plateQuiet p := by
  have hwf : Sparse.wf (s.withOpen g).regs = true := h.regs
  rw [State.addRequest_open]
  refine ⟨State.path_setPath hwf g pathAdmitting, ?_, fun p => State.plateQuiet_setPath hwf hg p pathAdmitting⟩
  rw [State.chan_congr (State.setPath_chans _ _ _), State.withOpen, State.chan_modChan h.stores.chans]

/-- R223: a plate that is not QUIET needs no wake. -/
theorem State.wakeForRequest_awake {s : State} {g : Nat} (h : s.plateQuiet (g / 256) = false) : s.wakeForRequest g = s := by
  rw [State.wakeForRequest, if_neg (by simp [h])]

/-- R214: a new generation that wants an idle channel opens it. -/
theorem State.request_opens {u : State} {g : Nat} (hg : g < 2048) (h : u.Inv) (hreq : (u.chan g).req = none)
    (hf : u.chFrozen g = false) (hq : u.plateQuiet (g / 256) = false)
    (hpath : u.path g = pathIdle ∨ u.path g = pathRefused ∨ u.path g = pathFault) (hwant : u.chWant g ≠ wantClosed)
    (hgen : u.chGen g ≠ u.chLastGen g) :
    ((u.classifyReq g).wakeForRequest g).path g = pathAdmitting ∧
    (((u.classifyReq g).wakeForRequest g).chan g).req = some { isOpen := true, at_ := u.now, prior := u.path g } := by
  have hclear : (u.clearWaiting g).Inv := (State.modChan_keeps (.refl u)).inv h
  obtain ⟨hp, hr, hplate⟩ := State.addRequest_shows hclear hg
  rw [State.classifyReq_open h.stores.chans hreq hf hpath hwant hgen, State.wakeForRequest_awake ((hplate _).trans hq)]
  exact ⟨hp, hr⟩

/-! ### A refused open, and the wake that comes too late (R219, R223) -/

/-- The result of an open that is refused with `code`, posted on a channel that holds nothing. -/
def State.announceRefused (a : State) (g gen code : Nat) : State :=
  (((((((a.setPath g pathRefused).wr (chB g) Reg.chPathResult code).wr (chB g) Reg.chPathLastGen gen).bumpSat (chB g)
    Reg.chRefusalsCount).chEvent g evDone).chEvent g evRefused).noteSettled g).noteBeyond (g / 256)

theorem State.postRefused_open {r : ChRequest} (h : r.isOpen = true) (s : State) (g code : Nat) :
    s.postRefused g r code = (s.releaseHeld g).announceRefused g r.gen code := by
  rw [State.postRefused, if_pos h]
  rfl

/-- A channel that has released what it holds has no request. -/
theorem State.req_releaseHeld {s : State} (h : s.Inv) (g : Nat) : ((s.releaseHeld g).chan g).req = none := by
  unfold State.releaseHeld
  extract_lets a b c
  have hb : b.Inv := (State.withdraw_keeps (State.withdraw_keeps (State.mediaClose_keeps (State.jbClose_keeps
    (State.echoClose_keeps (State.leavePeer_keeps (.refl s))))))).inv h
  have hchan : c.chan g = { settled := (b.chan g).settled } := State.chan_setChan hb.stores.chans g _
  rw [State.chan_congr (State.noteBeyond_chans _ _)]
  exact congrArg Chan.req hchan

section Refused
variable {a : State} (h : a.Inv) {g : Nat} (gen code : Nat)
include h

theorem State.req_announceRefused : ((a.announceRefused g gen code).chan g).req = (a.chan g).req := by
  have hset := a.setPath_chans g pathRefused
  unfold State.announceRefused
  rw [State.chan_congr (State.noteBeyond_chans _ _), State.req_noteSettled]
  · rw [State.chan_congr (State.chEvent_chans _ _ _), State.chan_congr (State.chEvent_chans _ _ _)]
    exact congrArg Chan.req (State.chan_congr hset g)
  · rw [State.chEvent_chans, State.chEvent_chans]
    exact hset ▸ h.stores.chans

theorem State.announceRefused_shows (hg : g < 2048) :
    (a.announceRefused g gen code).path g = pathRefused ∧
    (a.announceRefused g gen code).rd (chB g) Reg.chPathResult = code % 16 ∧
    bitAt ((a.announceRefused g gen code).rd (chB g) Reg.chEventEvents) evDone = true ∧
    bitAt ((a.announceRefused g gen code).rd (chB g) Reg.chEventEvents) evRefused = true := by
  unfold State.announceRefused
  have hpath : (a.setPath g pathRefused).Inv := (State.setPath_keeps (.refl a)).inv h
  have hshown : (a.setPath g pathRefused).path g = pathRefused := State.path_setPath h.regs _ _
  generalize a.setPath g pathRefused = u at hpath hshown ⊢
  have hresult := State.rd_wr_same hpath.regs (chB g) Reg.chPathResult code 0
  have hcount : (((u.wr (chB g) Reg.chPathResult code).wr (chB g) Reg.chPathLastGen gen).bumpSat (chB g)
      Reg.chRefusalsCount).Inv :=
    (State.bumpSat_keeps (State.wr_keeps (State.wr_keeps (.refl u)))).inv hpath
  have hdone := (State.chEvent_keeps (g := g) (i := evDone) (.refl _)).inv hcount
  have hrefused := (State.chEvent_keeps (g := g) (i := evRefused) (.refl _)).inv hdone
  have hsettled := (State.noteSettled_keeps (g := g) (.refl _)).inv hrefused
  have hbit := State.bitAt_chEvent hcount.regs g (i := evDone) (by decide)
  have hbit' := State.bitAt_chEvent hdone.regs g (i := evRefused) (by decide)
  rw [State.path, State.rd_noteBeyond hsettled.regs hg (by decide) (by decide),
    State.rd_noteBeyond hsettled.regs hg (by decide) (by decide),
    State.rd_noteBeyond hsettled.regs hg (by decide) (by decide)]
  refine ⟨?_, ?_, ?_, ?_⟩
  · simp (disch := decide) only [State.rd_noteSettled, State.rd_chEvent, State.bumpSat, State.rd_wr_apart]
    exact hshown
  · simp (disch := decide) only [State.rd_noteSettled, State.rd_chEvent, State.bumpSat, State.rd_wr_apart]
    exact hresult
  · exact State.bitAt_noteSettled hrefused.regs g (by decide)
      (State.bitAt_chEvent_stays hdone.regs g (by decide) hbit _)
  · exact State.bitAt_noteSettled hrefused.regs g (by decide) hbit'

end Refused

/-- R219: a refused open leaves REFUSED with its result, no request, and done and refused announced. -/
theorem State.postRefused_open_shows {s : State} (h : s.Inv) {g : Nat} (hg : g < 2048) {r : ChRequest}
    (hopen : r.isOpen = true) (code : Nat) :
    (s.postRefused g r code).path g = pathRefused ∧
    (s.postRefused g r code).rd (chB g) Reg.chPathResult = code % 16 ∧ ((s.postRefused g r code).chan g).req = none ∧
    bitAt ((s.postRefused g r code).rd (chB g) Reg.chEventEvents) evDone = true ∧
    bitAt ((s.postRefused g r code).rd (chB g) Reg.chEventEvents) evRefused = true := by
  have hrel : (s.releaseHeld g).Inv := (State.releaseHeld_keeps (.refl s)).inv h
  obtain ⟨hpath, hresult, hdone, hrefused⟩ := State.announceRefused_shows hrel r.gen code hg
  rw [State.postRefused_open hopen]
  exact ⟨hpath, hresult, (State.req_announceRefused hrel _ _).trans (State.req_releaseHeld h g), hdone, hrefused⟩

section WakeTimeout
variable {s : State} {g : Fin 2048} {r : ChRequest}

theorem exec_wakeTimeout_none (h : (s.chan g).req = none) : exec (.wakeTimeout g) s = .next s := by
  change execWakeTimeout g s = _
  simp only [execWakeTimeout, h]

variable (h : (s.chan g).req = some r)
include h

theorem exec_wakeTimeout_some : exec (.wakeTimeout g) s =
    .next (if r.served = false ∧ (s.plateQuiet (g / 256) = true ∨ (s.plate (g / 256)).fromQuiet = true) ∧
        r.at_ + 100 * msNs ≤ s.now then s.postRefused g (s.snapshot g r) refWakeTimeout else s) := by
  change execWakeTimeout g s = _
  simp only [execWakeTimeout, h, Bool.and_eq_true, Bool.or_eq_true, Bool.not_eq_true', decide_eq_true_eq, and_assoc]

end WakeTimeout

/-! ### The trace sample of a channel (R71, R229) -/

/-- The channel is not moving toward its intent. -/
def State.unmoved (s : State) (g : Nat) : State := s.modChan g (fun c => { c with agreeSince := none })

section TraceSample
variable {s : State} {g : Nat} (hh : s.chHeld g = false)
include hh

/-- R229: the samples that count no mismatch. -/
theorem State.chSample_clears (h : s.pathView g = pathFrozen ∨
      (chMoving (s.chWant g) (s.pathView g) = true ∧ ∀ a, (s.chan g).agreeSince = some a → s.now - a ≤ secNs) ∨
      (chMoving (s.chWant g) (s.pathView g) = false ∧ s.chAgrees g (s.pathView g) = true)) :
    ∃ u : State, u.regs = s.regs ∧ s.chSample g = u.wr (chB g) Reg.chTraceCount 0 := by
  unfold State.chSample
  dsimp only
  rw [if_neg (by simp [hh])]
  by_cases hf : s.pathView g = pathFrozen
  · rw [if_pos hf]
    exact ⟨s.unmoved g, rfl, rfl⟩
  rw [if_neg hf]
  rcases h with h | ⟨hmoving, hsince⟩ | ⟨hstill, hagrees⟩
  · exact absurd h hf
  · rw [if_pos hmoving]
    split
    · exact ⟨s.modChan g (fun c => { c with agreeSince := some s.now }), rfl, rfl⟩
    · next a ha =>
      rw [if_pos (hsince a ha)]
      exact ⟨s, rfl, rfl⟩
  · rw [if_neg (by simp [hstill]), if_pos hagrees]
    exact ⟨s.unmoved g, rfl, rfl⟩

/-- R229: the samples that count a mismatch. -/
theorem State.chSample_misses (hf : s.pathView g ≠ pathFrozen)
    (h : (chMoving (s.chWant g) (s.pathView g) = true ∧ ∃ a, (s.chan g).agreeSince = some a ∧ secNs < s.now - a) ∨
      (chMoving (s.chWant g) (s.pathView g) = false ∧ s.chAgrees g (s.pathView g) = false)) :
    ∃ u : State, s.Keeps u ∧ u.regs = s.regs ∧ s.chSample g = u.chMiss g (s.pathView g) := by
  unfold State.chSample
  dsimp only
  rw [if_neg (by simp [hh]), if_neg hf]
  rcases h with ⟨hmoving, a, ha, hlate⟩ | ⟨hstill, hdiffers⟩
  · rw [if_pos hmoving, ha]
    dsimp only
    rw [if_neg (by omega)]
    exact ⟨s, .refl s, rfl, rfl⟩
  · rw [if_neg (by simp [hstill]), if_neg (by simp [hdiffers])]
    exact ⟨s.unmoved g, State.modChan_keeps (.refl s), rfl, rfl⟩

end TraceSample

/-- R71: what the third mismatch in a row stores. -/
def State.chCapture (s : State) (g v : Nat) : State :=
  (((((s.wr (chB g) Reg.chTraceCount 3).wr (chB g) Reg.chTraceMismatch 1).wr (chB g) Reg.chTraceHeld 1).wr (chB g)
    Reg.chTraceSeenState v).wr (chB g) Reg.chTraceSeenWant (s.chWant g)).wr (chB g) Reg.chPathHeldFrom v

theorem State.chHeld_wr_count (s : State) (g v : Nat) : (s.wr (chB g) Reg.chTraceCount v).chHeld g = s.chHeld g := by
  rw [State.chHeld, State.isSet, State.rd_wr_apart (by decide)]
  rfl

section Miss
variable {s : State} {g : Nat}

theorem State.chMiss_early (h : s.rd (chB g) Reg.chTraceCount < 2) (v : Nat) :
    s.chMiss g v = s.wr (chB g) Reg.chTraceCount (s.rd (chB g) Reg.chTraceCount + 1) := by
  rw [State.chMiss]
  exact if_pos (by omega)

theorem State.chMiss_third (h : 2 ≤ s.rd (chB g) Reg.chTraceCount) (v : Nat) :
    s.chMiss g v = ((s.chCapture g v).chEvent g evHeld).noteSettled g := by
  rw [State.chMiss]
  exact if_neg (by omega)

theorem State.chCapture_inv (h : s.Inv) (v : Nat) : (s.chCapture g v).Inv :=
  (State.wr_keeps (State.wr_keeps (State.wr_keeps (State.wr_keeps (State.wr_keeps (State.wr_keeps (.refl s))))))).inv h

/-- The descriptor that the third mismatch holds. -/
theorem State.rd_chCapture (h : Sparse.wf s.regs = true) (v : Nat) :
    (s.chCapture g v).rd (chB g) Reg.chTraceHeld = 1 ∧ (s.chCapture g v).rd (chB g) Reg.chTraceMismatch = 1 ∧
    (s.chCapture g v).rd (chB g) Reg.chTraceSeenWant = s.chWant g % 4 ∧
    (s.chCapture g v).rd (chB g) Reg.chPathHeldFrom = v % 16 := by
  have hcount := State.wr_wf h (chB g) Reg.chTraceCount 3 0
  have hmiss := State.wr_wf hcount (chB g) Reg.chTraceMismatch 1 0
  have hheld := State.wr_wf hmiss (chB g) Reg.chTraceHeld 1 0
  have hseen := State.wr_wf hheld (chB g) Reg.chTraceSeenState v 0
  have hwant := State.wr_wf hseen (chB g) Reg.chTraceSeenWant (s.chWant g) 0
  unfold State.chCapture
  simp (disch := decide) only [State.rd_wr_apart]
  exact ⟨State.rd_wr_same hmiss _ _ _ _, State.rd_wr_same hcount _ _ _ _, State.rd_wr_same hseen _ _ _ _,
    State.rd_wr_same hwant _ _ _ _⟩

/-- What the sample stores while it only counts. -/
theorem State.rd_chMiss_early (h : Sparse.wf s.regs = true) (hc : s.rd (chB g) Reg.chTraceCount < 2) (v : Nat) :
    (s.chMiss g v).rd (chB g) Reg.chTraceCount = s.rd (chB g) Reg.chTraceCount + 1 ∧
    (s.chMiss g v).chHeld g = s.chHeld g := by
  rw [State.chMiss_early hc, State.rd_wr_same h, State.chHeld_wr_count]
  exact ⟨Nat.mod_eq_of_lt (Nat.lt_trans (Nat.succ_lt_succ hc) (by decide)), rfl⟩

/-- Announcing the hold leaves what was captured. -/
theorem State.rd_chMiss_third (h : s.Inv) (hc : 2 ≤ s.rd (chB g) Reg.chTraceCount) (v : Nat) :
    (s.chMiss g v).chHeld g = true ∧ (s.chMiss g v).isSet (chB g) Reg.chTraceMismatch = true ∧
    (s.chMiss g v).rd (chB g) Reg.chTraceSeenWant = s.chWant g % 4 ∧
    (s.chMiss g v).rd (chB g) Reg.chPathHeldFrom = v % 16 ∧
    bitAt ((s.chMiss g v).rd (chB g) Reg.chEventEvents) evHeld = true := by
  obtain ⟨rheld, rmiss, rwant, rfrom⟩ := State.rd_chCapture h.regs v (g := g)
  have hcap := State.chCapture_inv h v (g := g)
  have hevent : (((s.chCapture g v).chEvent g evHeld)).Inv := (State.chEvent_keeps (.refl _)).inv hcap
  rw [State.chMiss_third hc, State.chHeld, State.isSet, State.isSet]
  simp (disch := decide) only [State.rd_noteSettled, State.rd_chEvent, rheld, rmiss, rwant, rfrom, beq_self_eq_true,
    true_and]
  exact State.bitAt_noteSettled hevent.regs g (by decide) (State.bitAt_chEvent hcap.regs g (by decide))

end Miss

section TraceCommand
variable {s : State} {g : Fin 2048}

theorem exec_channelTraceSample_idle (h : (s.opOf .plate (g / 256) (plB (g / 256)) ≠ opRunning ∧
      s.opOf .plate (g / 256) (plB (g / 256)) ≠ opHeld) ∨ s.role (g / 256) = roleStandby ∨ s.chHeld g = true) :
    exec (.channelTraceSample g) s = .next s := by
  change execChannelTraceSample g s = _
  rw [execChannelTraceSample]
  rcases h with ⟨hrun, hheld⟩ | hrole | hh
  · rw [if_neg (by simp [hrun, hheld])]
  · rw [if_neg (by simp [hrole])]
  · rw [State.chSample, if_pos hh, ite_self]

theorem exec_channelTraceSample_taken (hop : s.opOf .plate (g / 256) (plB (g / 256)) = opRunning ∨
      s.opOf .plate (g / 256) (plB (g / 256)) = opHeld) (hrole : s.role (g / 256) ≠ roleStandby) :
    exec (.channelTraceSample g) s = .next (s.chSample g) := by
  change execChannelTraceSample g s = _
  rw [execChannelTraceSample, if_pos (by simp [hop, hrole])]

end TraceCommand

/-! ### The end of a hold (R231, R232) -/

theorem State.chWant_endChHold (s : State) (g : Nat) : (s.endChHold g).chWant g = s.chWant g := by
  unfold State.endChHold
  split
  · simp (disch := decide) only [State.chWant, State.rd_noteSettled, State.rd_wr_apart]
  · rfl

theorem State.chHeld_endChHold {s : State} (h : Sparse.wf s.regs = true) (g : Nat) : (s.endChHold g).chHeld g = false := by
  unfold State.endChHold
  split
  · simp (disch := decide) only [State.chHeld, State.isSet, State.rd_noteSettled, State.rd_wr_apart]
    rw [State.rd_wr_same (State.wr_wf h _ _ _ _)]
    rfl
  · next hh => simpa using hh

theorem exec_channelAcceptPath_through {s : State} {fn : Fin 65} {g : Fin 2048}
    (hw : s.writesThrough fn (chB g + 0x18) = true) : exec (.channelAcceptPath fn g) s = .next (s.chAccept g) := by
  change execChannelAcceptPath fn g s = _
  rw [execChannelAcceptPath, State.mmioWrite_through hw]

/-- The intent that accept_path stores. -/
def State.adoptSeen (s : State) (g : Nat) : State :=
  s.wr (chB g) Reg.chIntentWant (adoptedWant (s.rd (chB g) Reg.chTraceSeenState) (s.chWant g))

/-- The same, with a fault that was seen accepted. -/
def State.adoptFault (s : State) (g : Nat) : State :=
  if s.rd (chB g) Reg.chTraceSeenState = pathFault then (s.adoptSeen g).wr (chB g) Reg.chTraceFaultOk 1 else s.adoptSeen g

theorem State.chAccept_unheld {s : State} {g : Nat} (h : s.chHeld g = false) : s.chAccept g = s :=
  if_pos (by simp [h])

theorem State.chAccept_held {s : State} {g : Nat} (h : s.chHeld g = true) : s.chAccept g = (s.adoptFault g).endChHold g :=
  if_neg (by simp [h])

theorem State.adoptFault_wf {s : State} (h : Sparse.wf s.regs = true) (g : Nat) :
    Sparse.wf (s.adoptFault g).regs = true := by
  unfold State.adoptFault
  split
  · exact State.wr_wf (State.wr_wf h _ _ _ _) _ _ _ _
  · exact State.wr_wf h _ _ _ _

theorem State.chWant_adoptFault {s : State} (h : Sparse.wf s.regs = true) (g : Nat) :
    (s.adoptFault g).chWant g = adoptedWant (s.rd (chB g) Reg.chTraceSeenState) (s.chWant g) % 4 := by
  have hwant : (s.adoptSeen g).chWant g = adoptedWant (s.rd (chB g) Reg.chTraceSeenState) (s.chWant g) % 4 :=
    State.rd_wr_same h _ _ _ _
  unfold State.adoptFault
  split
  · exact (State.rd_wr_apart (by decide) _ _ _).trans hwant
  · exact hwant

/-! ### The statement -/

/-- Settles O48: each clause is one command in the case that its premises name. -/
theorem channelIntentsOwnersAndTraceSamples : Obligations.ChannelIntentsOwnersAndTraceSamples := by
  refine ⟨fun fn g data s hw => ?_, fun fn g data s hw => ⟨fun hpath hwant => ⟨_, ?_, rfl⟩, fun hbusy => ?_⟩,
    fun g r s hreq => ⟨fun hserved hasleep hdue => ⟨_, ?_, rfl, fun hinv hopen => ?_⟩, fun h => ?_⟩,
    fun g s hreq => exec_wakeTimeout_none hreq,
    fun g s => ⟨_, rfl, exec_channelTraceSample_idle, fun hinv hop hrole hh =>
      ⟨_, exec_channelTraceSample_taken hop hrole, ?_, fun hf h => ?_⟩⟩,
    fun fn g s hw => ⟨fun hh => ?_, fun hh => ⟨s.adoptSeen g, _, rfl, ?_, rfl, fun hinv => ⟨?_, ?_⟩⟩⟩⟩
  · have hkeeps : s.Keeps ((s.storeWord fn (chB g) Reg.chRows 0x4 data.toNat).endChHold g) :=
      State.endChHold_keeps (State.storeWord_keeps (.refl s))
    refine ⟨_, _, rfl, exec_chIntentWrite_through data hw, rfl, fun hinv hreq hf hq hpath hwant hgen => ?_⟩
    rw [← hkeeps.now]
    exact State.request_opens g.isLt (hkeeps.inv hinv) hreq hf hq hpath hwant hgen
  · rw [exec_chOwnerWrite_through data hw, State.chOwnerEffect, if_pos ⟨hpath, hwant⟩]
  · rw [exec_chOwnerWrite_through data hw, State.chOwnerEffect, if_neg hbusy]
  · rw [exec_wakeTimeout_some hreq, if_pos ⟨hserved, hasleep, hdue⟩]
  · exact State.postRefused_open_shows hinv g.isLt (r := s.snapshot g r) hopen refWakeTimeout
  · rw [exec_wakeTimeout_some hreq, if_neg]
    rintro ⟨hserved, hasleep, hdue⟩
    rcases h with h | ⟨hquiet, hfrom⟩ | hearly
    · simp [h] at hserved
    · simp [hquiet, hfrom] at hasleep
    · omega
  · intro h
    obtain ⟨u, hregs, heq⟩ := State.chSample_clears hh h
    rw [heq, State.chHeld_wr_count]
    exact ⟨State.rd_wr_same (hregs ▸ hinv.regs) _ _ _ _, (State.chHeld_congr hregs g).trans hh⟩
  · obtain ⟨u, hkeeps, hregs, heq⟩ := State.chSample_misses hh hf h
    have hu := hkeeps.inv hinv
    have hcount := State.rd_congr hregs (chB g) Reg.chTraceCount
    have hwant : u.chWant g = s.chWant g := State.rd_congr hregs _ _
    rw [heq, ← hcount, ← hwant]
    refine ⟨fun hc => ?_, fun hc => State.rd_chMiss_third hu hc _⟩
    obtain ⟨hnext, hheld⟩ := State.rd_chMiss_early hu.regs hc (s.pathView g)
    exact ⟨hnext, hheld.trans ((State.chHeld_congr hregs g).trans hh)⟩
  · rw [exec_channelAcceptPath_through hw, State.chAccept_unheld hh]
  · rw [exec_channelAcceptPath_through hw, State.chAccept_held hh]
    rfl
  · exact State.chHeld_endChHold (State.adoptFault_wf hinv.regs g) g
  · exact (State.chWant_endChHold _ g).trans (State.chWant_adoptFault hinv.regs g)

end Sys2Proof.Machine
end

section
/-! SUPPORT. The statements of 07_echo.md: the commands of EC_CMD, the end of FAST, the retry of the waiting channels, and the ends of
double talk and of a tone's bypass. -/

namespace Sys2Proof.Machine

/-! ### EC_CMD (R245, R261, R264) -/

section EcCommand
variable {s : State} {fn : Fin 65} {g : Fin 2048}

theorem exec_ecResetCoef_through (hw : s.writesThrough fn (chB g + 0x110) = true) :
    exec (.ecResetCoef fn g) s = .next (s.ecCommand g 1) := by
  change execEcResetCoef fn g s = _
  rw [execEcResetCoef, State.mmioWrite_through hw]

theorem exec_ecTdForce_through (hw : s.writesThrough fn (chB g + 0x110) = true) :
    exec (.ecTdForce fn g) s = .next (s.ecCommand g 2) := by
  change execEcTdForce fn g s = _
  rw [execEcTdForce, State.mmioWrite_through hw]

theorem exec_ecTdRelease_through (hw : s.writesThrough fn (chB g + 0x110) = true) :
    exec (.ecTdRelease fn g) s = .next (s.ecCommand g 4) := by
  change execEcTdRelease fn g s = _
  rw [execEcTdRelease, State.mmioWrite_through hw]

end EcCommand

theorem State.ecCommand_ignored {s : State} {g : Nat} (ha : s.pathView g ≠ pathActive) (hm : s.pathView g ≠ pathMuted)
    (data : Nat) : s.ecCommand g data = s :=
  if_pos ⟨ha, hm⟩

/-- A command of EC_CMD sets the notes of its own bits and keeps the notes that stand. -/
theorem State.ecCommand_noted {s : State} {g : Nat} (h : s.pathView g = pathActive ∨ s.pathView g = pathMuted) (data : Nat) :
    s.ecCommand g data = s.setEcho g { s.echo g with
      cmdReset := (s.echo g).cmdReset || bitAt data 0
      cmdForce := (s.echo g).cmdForce || bitAt data 1
      cmdRelease := (s.echo g).cmdRelease || bitAt data 2 } :=
  if_neg fun hne => h.elim hne.1 hne.2

/-! ### The end of FAST (R245) -/

theorem exec_ecFastTimeout_due {s : State} {g : Fin 2048} (hfast : s.ecPhase g = phaseFast) (hsusp : s.echoSuspended g = false)
    (hdue : (s.echo g).fastAt + 2 * secNs ≤ s.now) :
    exec (.ecFastTimeout g) s = .next ((s.releaseBurst g).setPhase g phaseNormal) :=
  congrArg _ (if_pos (by simp [hfast, hsusp, hdue]))

theorem exec_ecFastTimeout_kept {s : State} {g : Fin 2048}
    (h : s.ecPhase g ≠ phaseFast ∨ s.echoSuspended g = true ∨ s.now < (s.echo g).fastAt + 2 * secNs) :
    exec (.ecFastTimeout g) s = .next s := by
  refine congrArg _ (if_neg ?_)
  rintro ⟨hfast, hsusp, hdue⟩
  rcases h with hphase | hs | hearly
  · exact hphase hfast
  · simp [hs] at hsusp
  · exact absurd hdue (Nat.not_le.2 hearly)

/-! ### The ends of double talk (R251) and of a tone's bypass (R260) -/

theorem exec_doubleTalkHangEnd_over {s : State} {g : Fin 2048} (h : (s.echo g).dtTill ≤ s.now) :
    exec (.doubleTalkHangEnd g) s = .next (s.wr (chB g) Reg.ecStatusDt 0) :=
  congrArg _ (if_pos h)

theorem exec_doubleTalkHangEnd_early {s : State} {g : Fin 2048} (h : s.now < (s.echo g).dtTill) :
    exec (.doubleTalkHangEnd g) s = .next s :=
  congrArg _ (if_neg (Nat.not_le.2 h))

theorem exec_toneDisablerRelease_due {s : State} {g : Fin 2048} (hquiet : (s.echo g).cfg.releaseMs ≤ (s.echo g).quietMs)
    (hon : s.ecPhase g ≠ phaseOff)
    (hact : s.isSet (chB g) Reg.ecStatusBypass = true ∨ s.isSet (chB g) Reg.ecStatusNlpOffTd = true) :
    exec (.toneDisablerRelease g) s = .next (s.setEcho g { s.echo g with tdEnd := true }) :=
  congrArg _ (if_pos ⟨hquiet, hon, by simpa using hact⟩)

theorem exec_toneDisablerRelease_kept {s : State} {g : Fin 2048}
    (h : (s.echo g).quietMs < (s.echo g).cfg.releaseMs ∨ s.ecPhase g = phaseOff ∨
      (s.isSet (chB g) Reg.ecStatusBypass = false ∧ s.isSet (chB g) Reg.ecStatusNlpOffTd = false)) :
    exec (.toneDisablerRelease g) s = .next s := by
  refine congrArg _ (if_neg ?_)
  rintro ⟨hquiet, hon, hact⟩
  rcases h with hearly | hoff | ⟨hbypass, hnlp⟩
  · exact absurd hquiet (Nat.not_le.2 hearly)
  · exact hon hoff
  · simp [hbypass, hnlp] at hact

/-! ### The retry of the waiting channels (R248) -/

/-- The open channels of a plate that wait for a FAST place or a grant, in ascending order. -/
def State.fastWaiting (s : State) (p : Nat) : List Nat := (s.openChans p).filter (fun g => (s.echo g).waiting)

section FastRetry
variable {s : State} {p : Fin 8}

theorem exec_ecFastRetry_none (h : Sparse.find? s.fastRetry p = none) : exec (.ecFastRetry p) s = .next s := by
  change execEcFastRetry p s = _
  simp only [execEcFastRetry, h]

variable {due : Nat} (h : Sparse.find? s.fastRetry p = some due)
include h

theorem exec_ecFastRetry_early (hnow : s.now < due) : exec (.ecFastRetry p) s = .next s := by
  change execEcFastRetry p s = _
  simp only [execEcFastRetry, h, if_neg (Nat.not_le.2 hnow)]

/-- A due retry goes over the waiting channels, whether any waits or not. -/
theorem exec_ecFastRetry_due (hnow : due ≤ s.now) : exec (.ecFastRetry p) s = .next (forEach (s.fastWaiting p)
    (fun g u => u.askFast g) { s with fastRetry := if (s.fastWaiting p).isEmpty then Sparse.del s.fastRetry p
                                                   else Sparse.ins s.fastRetry p (s.now + 100 * msNs) }) := by
  change execEcFastRetry p s = _
  simp only [execEcFastRetry, h, if_pos hnow]
  rfl

theorem exec_ecFastRetry_noneWaits (hnow : due ≤ s.now) (hw : s.fastWaiting p = []) :
    exec (.ecFastRetry p) s = .next { s with fastRetry := Sparse.del s.fastRetry p } := by
  rw [exec_ecFastRetry_due h hnow, hw]
  rfl

theorem exec_ecFastRetry_someWait (hnow : due ≤ s.now) (hw : s.fastWaiting p ≠ []) :
    exec (.ecFastRetry p) s = .next (forEach (s.fastWaiting p) (fun g u => u.askFast g)
      { s with fastRetry := Sparse.ins s.fastRetry p (s.now + 100 * msNs) }) := by
  rw [exec_ecFastRetry_due h hnow, if_neg (by simpa using hw)]

end FastRetry

/-! ### The statement -/

/-- Settles O49: each clause is one command in the case that its premises name. -/
theorem echoCancellerCommandsAndTimers : Obligations.EchoCancellerCommandsAndTimers := by
  refine ⟨fun fn g s hw => ?_,
    fun g s => ⟨exec_ecFastTimeout_due, exec_ecFastTimeout_kept, exec_doubleTalkHangEnd_over, exec_doubleTalkHangEnd_early,
      exec_toneDisablerRelease_due, exec_toneDisablerRelease_kept⟩,
    fun p s => ⟨exec_ecFastRetry_none, fun due h => ⟨exec_ecFastRetry_early h, fun hnow =>
      ⟨s.fastWaiting p, rfl, exec_ecFastRetry_noneWaits h hnow, exec_ecFastRetry_someWait h hnow⟩⟩⟩⟩
  rw [exec_ecResetCoef_through hw, exec_ecTdForce_through hw, exec_ecTdRelease_through hw]
  refine ⟨fun hpath => ?_, fun ha hm => ?_⟩
  · simp [State.ecCommand_noted hpath, bitAt]
  · simp only [State.ecCommand_ignored ha hm, and_self]

end Sys2Proof.Machine
end

section
/-! SUPPORT. The statements of 08_coding_tones.md: the outgoing events with their updates and ends, the reports, the end of a received
event's play, the command of the tone generator, and the second and the commands of the jitter buffer. -/

namespace Sys2Proof.Machine

/-! ### EV_SEND (R295) -/

section EventSend
variable {s : State} {g : Nat} {data : Nat}

theorem exec_eventSendWrite_through {fn : Fin 65} {g : Fin 2048} (hw : s.writesThrough fn (chB g + 0xB0) = true) (data : Word) :
    exec (.eventSendWrite fn g data) s = .next (s.evSendEffect g data.toNat) :=
  congrArg _ (State.mmioWrite_through hw _)

theorem State.evSendEffect_waits (hsend : bitAt data 31 = true) (hpath : s.pathView g = pathActive) :
    s.evSendEffect g data = s.setMedia g { s.media g with
      evWait := some (min 15 (bitsOf data 0 8), clampNat 40 65535 (bitsOf data 8 16)) } :=
  if_pos ⟨hsend, hpath⟩

theorem State.evSendEffect_ignored (h : bitAt data 31 = false ∨ s.pathView g ≠ pathActive) : s.evSendEffect g data = s := by
  refine if_neg ?_
  rintro ⟨hsend, hpath⟩
  rcases h with hno | hother
  · simp [hno] at hsend
  · exact hother hpath

end EventSend

/-! ### The update of a lasting event (R293) -/

section EventUpdate
variable {s : State} {g : Fin 2048} {e : EvOut} (hout : (s.media g).evOut = some e)
include hout

theorem exec_eventUpdateSend_due {x : EvOut} {t : State} (hseg : s.segmentEvent g { e with lastSent := s.now } = (x, t))
    (hends : e.ends = 0) (hdue : e.lastSent + 50 * msNs ≤ s.now) (hover : s.eventOver e = false) :
    exec (.eventUpdateSend g) s = .next
      (((t.sendEvent g x false false).modMedia g (fun m => { m with evOut := some x })).choose (g.val / 256)) := by
  change execEventUpdateSend g s = _
  simp only [execEventUpdateSend, hout, hseg]
  rw [if_pos ⟨hends, hdue, by simp [hover]⟩]

theorem exec_eventUpdateSend_kept (h : e.ends ≠ 0 ∨ s.now < e.lastSent + 50 * msNs ∨ s.eventOver e = true) :
    exec (.eventUpdateSend g) s = .next s := by
  change execEventUpdateSend g s = _
  simp only [execEventUpdateSend, hout]
  rw [if_neg]
  rintro ⟨hends, hdue, hover⟩
  rcases h with hended | hearly | hpast
  · exact hended hends
  · exact absurd hdue (Nat.not_le.2 hearly)
  · simp [hpast] at hover

end EventUpdate

/-! ### The end of an event (R293, R295) -/

theorem State.media_setMedia {s : State} (h : s.Inv) (g : Nat) (m : Media) : (s.setMedia g m).media g = m := by
  rw [State.media, State.setMedia_medias, Sparse.get_put h.stores.medias, if_pos rfl]

/-- An event packet does not depend on how many end packets there have been, nor when. -/
theorem State.sendEvent_ends (s : State) (g : Nat) (e : EvOut) (n at_ : Nat) (marker last : Bool) :
    s.sendEvent g { e with ends := n, endAt := at_ } marker last = s.sendEvent g e marker last := rfl

/-- The end of the latest event: an end packet if one is due, and the note of it. -/
def State.endLatest (s : State) (g : Nat) : State :=
  match (s.media g).evOut with
  | some e => (s.endEvent g e).2.modMedia g (fun m => { m with evOut := some (s.endEvent g e).1 })
  | none => s

section EndLatest
variable {s : State} {g : Nat} {e : EvOut} (hout : (s.media g).evOut = some e) (hends : e.ends = 0)
include hout hends

theorem State.endLatest_over {x : EvOut} {t : State} (hseg : s.segmentEvent g e = (x, t)) (hover : s.eventOver e = true) :
    s.endLatest g = (t.sendEvent g { x with ends := 1, endAt := s.now } false true).modMedia g
      (fun m => { m with evOut := some { x with ends := 1, endAt := s.now } }) := by
  simp only [State.endLatest, hout, State.endEvent, if_pos hends, if_pos hover, hseg, State.sendEvent_ends]

theorem State.endLatest_lasting (hover : s.eventOver e = false) :
    s.endLatest g = s.modMedia g (fun m => { m with evOut := some e }) := by
  simp [State.endLatest, hout, State.endEvent, hends, hover]

end EndLatest

/-- The state in which no event before the latest one has an end packet to send. -/
def State.pastEnded (s : State) (g : Nat) : State := s.setMedia g { s.media g with evPast := [] }

theorem State.evOut_pastEnded {s : State} (h : s.Inv) (g : Nat) : ((s.pastEnded g).media g).evOut = (s.media g).evOut := by
  rw [State.pastEnded, State.media_setMedia h]

/-- With no event before it, the command is the end of the latest one. -/
theorem exec_eventEndSend_latest {s : State} {g : Fin 2048} (hpast : (s.media g).evPast = []) :
    exec (.eventEndSend g) s = .next (((s.pastEnded g).endLatest g).choose (g.val / 256)) := by
  change execEventEndSend g s = _
  simp only [execEventEndSend, hpast, List.foldl_nil]
  rfl

/-! ### The reports (R290, R291) -/

section Report
variable {s : State} {g : Fin 2048} {due : Nat} (hat : (s.media g).rtcpAt = some due)
include hat

theorem exec_rtcpSend_due (hdue : due ≤ s.now) (hsends : s.sendsRtcp g = true) :
    exec (.rtcpSend g) s = .next ((s.sendRtcp g false).choose (g.val / 256)) := by
  change execRtcpSend g s = _
  simp only [execRtcpSend, hat]
  rw [if_pos ⟨hdue, hsends⟩]

theorem exec_rtcpSend_kept (h : s.now < due ∨ s.sendsRtcp g = false) : exec (.rtcpSend g) s = .next s := by
  change execRtcpSend g s = _
  simp only [execRtcpSend, hat]
  rw [if_neg]
  rintro ⟨hdue, hsends⟩
  rcases h with hearly | hno
  · exact absurd hdue (Nat.not_le.2 hearly)
  · simp [hno] at hsends

end Report

/-! ### The end of a received event's play (R296) -/

section EventPlay
variable {s : State} {g : Fin 2048} {e : EvIn} (hin : (s.media g).evIn = some e)
include hin

theorem exec_eventPlayTimeout_silent (hplay : e.playing = true)
    (hdue : max e.lastAt (e.startedAt + e.durMs * msNs) + 150 * msNs ≤ s.now) : exec (.eventPlayTimeout g) s =
      .next (s.setMedia g { s.media g with evIn := some { e with playing := false } }) := by
  change execEventPlayTimeout g s = _
  simp only [execEventPlayTimeout, hin]
  rw [if_pos ⟨hplay, hdue⟩]

theorem exec_eventPlayTimeout_kept
    (h : e.playing = false ∨ s.now < max e.lastAt (e.startedAt + e.durMs * msNs) + 150 * msNs) :
    exec (.eventPlayTimeout g) s = .next s := by
  change execEventPlayTimeout g s = _
  simp only [execEventPlayTimeout, hin]
  rw [if_neg]
  rintro ⟨hplay, hdue⟩
  rcases h with hstopped | hearly
  · simp [hstopped] at hplay
  · exact absurd hdue (Nat.not_le.2 hearly)

end EventPlay

/-! ### TG_CMD (R303) -/

section ToneGen
variable {s : State}

theorem exec_toneGenCommand_through {fn : Fin 65} {g : Fin 2048} (hw : s.writesThrough fn (chB g + 0xFC) = true) (data : Word) :
    exec (.toneGenCommand fn g data) s = .next (s.tgEffect fn g data.toNat) :=
  congrArg _ (State.mmioWrite_through hw _)

variable {fn g data : Nat}

theorem State.tgEffect_stored (h : s.path g = pathIdle ∨ s.path g = pathRefused ∨ s.path g = pathAdmitting) :
    s.tgEffect fn g data = s.storeWord fn (chB g) Reg.mediaRows 0xFC data :=
  if_pos h

theorem State.tgEffect_due (hidle : s.path g ≠ pathIdle) (href : s.path g ≠ pathRefused) (hadm : s.path g ≠ pathAdmitting) :
    s.tgEffect fn g data =
      (s.storeWord fn (chB g) Reg.mediaRows 0xFC data).modMedia g (fun m => { m with tgDue := true }) :=
  if_neg (by simp [hidle, href, hadm])

end ToneGen

/-! ### The jitter buffer's second (R319) -/

section JitterSecond
variable {s : State} {g : Fin 2048}

theorem exec_jitterSecondUpdate_kept (h : s.chOpen g = false ∨ s.pathView g = pathFrozen ∨ s.path g = pathFault ∨
      s.tkNs (g.val / 256) / secNs ≤ (s.jitter g).secondDone) : exec (.jitterSecondUpdate g) s = .next s :=
  congrArg _ (if_pos (by simpa [or_assoc] using h))

variable (hopen : s.chOpen g = true) (hfrozen : s.pathView g ≠ pathFrozen) (hfault : s.path g ≠ pathFault)
  (hdue : (s.jitter g).secondDone < s.tkNs (g.val / 256) / secNs)
include hopen hfrozen hfault hdue

/-- A whole second of local time has passed on a channel that runs one: it ends alone on a STANDBY plate, and is taken elsewhere. -/
theorem exec_jitterSecondUpdate_due : exec (.jitterSecondUpdate g) s = .next (if s.role (g.val / 256) = roleStandby then
      s.modJitter g (fun j => { j with second := [], secondDone := s.tkNs (g.val / 256) / secNs })
    else s.jbSecond g) :=
  congrArg _ (if_neg (by simp [hopen, hfrozen, hfault, hdue]))

theorem exec_jitterSecondUpdate_taken (hrole : s.role (g.val / 256) ≠ roleStandby) :
    exec (.jitterSecondUpdate g) s = .next (s.jbSecond g) := by
  rw [exec_jitterSecondUpdate_due hopen hfrozen hfault hdue, if_neg hrole]

theorem exec_jitterSecondUpdate_standby (hrole : s.role (g.val / 256) = roleStandby) : exec (.jitterSecondUpdate g) s =
    .next (s.setJitter g { s.jitter g with second := [], secondDone := s.tkNs (g.val / 256) / secNs }) := by
  rw [exec_jitterSecondUpdate_due hopen hfrozen hfault hdue, if_pos hrole]
  rfl

end JitterSecond

/-! ### JB_CMD (R330, R331, R338) -/

section JbCommand
variable {s : State} {fn : Fin 65} {g : Fin 2048}

theorem exec_jbResyncCommand_through (hw : s.writesThrough fn (chB g + 0x150) = true) :
    exec (.jbResyncCommand fn g) s = .next (s.jbCommand g 1) :=
  congrArg _ (State.mmioWrite_through hw _)

theorem exec_dfResetCommand_through (hw : s.writesThrough fn (chB g + 0x150) = true) :
    exec (.dfResetCommand fn g) s = .next (s.jbCommand g 2) :=
  congrArg _ (State.mmioWrite_through hw _)

end JbCommand

theorem State.jbCommand_ignored {s : State} {g : Nat} (h : s.chOpen g = false) (data : Nat) : s.jbCommand g data = s :=
  if_pos (by simp [h])

/-- A command of JB_CMD sets the notes of its own bits and keeps the notes that stand. -/
theorem State.jbCommand_noted {s : State} {g : Nat} (h : s.chOpen g = true) (data : Nat) :
    s.jbCommand g data = s.setJitter g { s.jitter g with
      cmdResync := (s.jitter g).cmdResync || bitAt data 0, cmdDfReset := (s.jitter g).cmdDfReset || bitAt data 1 } :=
  if_neg (by simp [h])

/-! ### The statement -/

/-- Settles O50: each clause is one command in the case that its premises name. -/
theorem mediaEventsTonesReportsAndBuffers : Obligations.MediaEventsTonesReportsAndBuffers := by
  refine ⟨fun fn g data s hw => ?_,
    fun g e s hout => ⟨fun hends hdue hover => ⟨_, _, _, rfl, rfl, exec_eventUpdateSend_due hout rfl hends hdue hover⟩,
      exec_eventUpdateSend_kept hout,
      fun hpast hends hinv => ⟨s.pastEnded g, rfl, fun hover => ⟨_, _, _, rfl, rfl, ?_⟩, fun hover => ?_⟩⟩,
    fun g due s hat => ⟨exec_rtcpSend_due hat, exec_rtcpSend_kept hat⟩,
    fun g e s hin => ⟨exec_eventPlayTimeout_silent hin, exec_eventPlayTimeout_kept hin⟩,
    fun fn g data s hw => ⟨_, rfl, fun h => ?_, fun hidle href hadm => ?_⟩,
    fun g s => ⟨fun hopen hfrozen hfault hdue => ⟨exec_jitterSecondUpdate_taken hopen hfrozen hfault hdue,
      exec_jitterSecondUpdate_standby hopen hfrozen hfault hdue⟩, exec_jitterSecondUpdate_kept⟩,
    fun fn g s hw => ?_⟩
  · rw [exec_eventSendWrite_through hw]
    exact ⟨fun hsend hpath => congrArg _ (State.evSendEffect_waits hsend hpath),
      fun h => congrArg _ (State.evSendEffect_ignored h)⟩
  · rw [exec_eventEndSend_latest hpast, State.endLatest_over ((State.evOut_pastEnded hinv g).trans hout) hends rfl hover]
    rfl
  · rw [exec_eventEndSend_latest hpast, State.endLatest_lasting ((State.evOut_pastEnded hinv g).trans hout) hends hover]
    rfl
  · rw [exec_toneGenCommand_through hw, State.tgEffect_stored h]
  · rw [exec_toneGenCommand_through hw, State.tgEffect_due hidle href hadm]
    rfl
  · rw [exec_jbResyncCommand_through hw, exec_dfResetCommand_through hw]
    refine ⟨fun hopen => ?_, fun hclosed => ?_⟩
    · simp [State.jbCommand_noted hopen, bitAt]
    · simp only [State.jbCommand_ignored hclosed, and_self]

end Sys2Proof.Machine
end

section
/-! SUPPORT. The statements of 10_cells_queues.md about one queue: its flush, the writes of its owner, and the relay of a steering
queue, whose loop is followed entry by entry. -/

namespace Sys2Proof.Machine

/-! ### Reading a queue after a change -/

theorem State.queue_setQueue_same {s : State} (h : Sparse.wf s.queues = true) (p q : Nat) (l : List Entry) :
    (s.setQueue p q l).queue p q = l := by
  simp only [State.queue, State.setQueue, Sparse.get_put h, if_pos]

theorem State.queue_setQueue_ne {q q' : Nat} (h : q' ≠ q) (s : State) (p : Nat) (l : List Entry) :
    (s.setQueue p q l).queue p q' = s.queue p q' := by
  have hk : 1024 * p + q' ≠ 1024 * p + q := by omega
  simp only [State.queue, State.setQueue, Sparse.get, Sparse.find_put_ne hk]

@[simp] theorem State.setQueue_rd (s : State) (p q : Nat) (l : List Entry) (b : Nat) (r : Row) :
    (s.setQueue p q l).rd b r = s.rd b r := rfl

@[simp] theorem State.setQueue_relayTarget (s : State) (p q : Nat) (l : List Entry) (p' q' : Nat) :
    (s.setQueue p q l).relayTarget p' q' = s.relayTarget p' q' := rfl

@[simp] theorem State.noteQueuePeak_queues (s : State) (p q : Nat) : (s.noteQueuePeak p q).queues = s.queues := by
  dsimp only [State.noteQueuePeak]
  split <;> rfl

@[simp] theorem State.noteQueuePeak_queue (s : State) (p q p' q' : Nat) : (s.noteQueuePeak p q).queue p' q' = s.queue p' q' := by
  simp only [State.queue, State.noteQueuePeak_queues]

/-- The peak lies in the fourth word of a queue's sixteen bytes: no field in another word of such a group is changed. -/
theorem State.noteQueuePeak_rd {b : Nat} {r : Row} (hb : b % 16 = 0) (ho : r.off % 16 ≠ 12) (hl : r.lsb < 32) (s : State)
    (p q : Nat) : (s.noteQueuePeak p q).rd b r = s.rd b r := by
  have hk : fieldKey b r 0 ≠ fieldKey (qdB p q) Reg.qdStatsPeakCells 0 := by
    simp only [fieldKey, qdB, winB, Reg.qdStatsPeakCells]
    omega
  dsimp only [State.noteQueuePeak]
  split
  · simp only [State.rd, State.wr_regs, Sparse.get, Sparse.find_put_ne hk]
  · rfl

theorem qdB_mod (p q : Nat) : qdB p q % 16 = 0 := by
  simp only [qdB, winB]
  omega

theorem chB_mod (g : Nat) : chB g % 16 = 0 := by
  simp only [chB]
  omega

theorem State.noteQueuePeak_limit (s : State) (p q p' q' : Nat) :
    (s.noteQueuePeak p q).rd (qdB p' q') (qdLimitRow q') = s.rd (qdB p' q') (qdLimitRow q') :=
  State.noteQueuePeak_rd (qdB_mod _ _) (show 4 % 16 ≠ 12 by decide) (show 16 < 32 by decide) s p q

theorem State.noteQueuePeak_chTenant (s : State) (p q g : Nat) : (s.noteQueuePeak p q).chTenant g = s.chTenant g := by
  have hrd {r : Row} (ho : r.off % 16 ≠ 12) (hl : r.lsb < 32) : (s.noteQueuePeak p q).rd (chB g) r = s.rd (chB g) r :=
    State.noteQueuePeak_rd (chB_mod g) ho hl s p q
  rw [State.chTenant, State.chTenant, State.isSet, State.isSet, hrd (r := Reg.chOwnerAssigned) (by decide) (by decide),
    hrd (r := Reg.chOwnerSlot) (by decide) (by decide)]

theorem State.noteQueuePeak_queueOwner (s : State) (p q p' q' : Nat) :
    (s.noteQueuePeak p q).queueOwner p' q' = s.queueOwner p' q' := by
  have hrd {r : Row} (ho : r.off % 16 ≠ 12) (hl : r.lsb < 32) :
      (s.noteQueuePeak p q).rd (qdB p' q') r = s.rd (qdB p' q') r :=
    State.noteQueuePeak_rd (qdB_mod p' q') ho hl s p q
  rw [State.queueOwner, State.queueOwner, State.isSet, State.isSet, State.noteQueuePeak_chTenant,
    hrd (r := Reg.qdOwnerOwned) (by decide) (by decide), hrd (r := Reg.qdOwnerSlot) (by decide) (by decide)]

theorem State.noteQueuePeak_relayTarget (s : State) (p q p' q' : Nat) :
    (s.noteQueuePeak p q).relayTarget p' q' = s.relayTarget p' q' := by
  have hrelay : (s.noteQueuePeak p q).rd (qdB p' q') Reg.qdCtrlRelay = s.rd (qdB p' q') Reg.qdCtrlRelay :=
    State.noteQueuePeak_rd (qdB_mod p' q') (by decide) (by decide) s p q
  simp only [State.relayTarget, State.noteQueuePeak_queueOwner, hrelay]

/-! ### Flush (R359) -/

theorem exec_queueFlush_through {s : State} {fn : Fin 65} {p : Fin 8} {q : Fin 1024}
    (h : s.writesThrough fn (qdB p q + 8) = true) :
    exec (.queueFlush fn p q) s = .next ((s.flushQueue p q).pauseCheck p) :=
  congrArg _ (State.mmioWrite_through h _)

theorem State.flushQueue_idle {s : State} {p : Nat} (h : (s.port p).tx = none) (q : Nat) :
    s.flushQueue p q = s.setQueue p q [] := by
  simp only [State.flushQueue, h]

theorem State.flushQueue_sending {s : State} {p : Nat} {f : TxFrame} (h : (s.port p).tx = some f) (q : Nat) :
    s.flushQueue p q = s.setQueue p q (if f.queue = q then (s.queue p q).take 1 else []) := by
  simp only [State.flushQueue, h]
  split <;> rfl

/-! ### The writes of the owner (R344, R345, R366) -/

theorem exec_queueOwnerWrite_through {s : State} {fn : Fin 65} {p : Fin 8} {q : Fin 1024}
    (h : s.writesThrough fn (qdB p q + 4) = true) (data : Word) :
    exec (.queueOwnerWrite fn p q data) s = .next (s.queueOwnerEffect p q data.toNat) :=
  congrArg _ (State.mmioWrite_through h _)

theorem State.queueOwnerEffect_limit {q : Nat} (h : queueKind q = 0 ∨ queueKind q = 2) (s : State) (p data : Nat) :
    s.queueOwnerEffect p q data = s.wr (qdB p q) (qdLimitRow q) (bitsOf data 16 14) := by
  rcases h with h | h <;> simp only [State.queueOwnerEffect, h]

section Owned
variable {q : Nat} (h0 : queueKind q ≠ 0) (h2 : queueKind q ≠ 2) {s : State} {p : Nat}
include h0 h2

theorem State.queueOwnerEffect_stored (hq : s.queue p q = []) (hdma : s.dmaNames p q = false) (data : Nat) :
    s.queueOwnerEffect p q data =
      ((s.wr (qdB p q) Reg.qdOwnerSlot (bitsOf data 0 3)).wr (qdB p q) Reg.qdOwnerOwned (bitsOf data 3 1)).wr
        (qdB p q) (qdLimitRow q) (bitsOf data 16 14) := by
  unfold State.queueOwnerEffect
  split
  · contradiction
  · contradiction
  · exact if_pos (by simp [hq, hdma])

theorem State.queueOwnerEffect_refused (h : s.queue p q ≠ [] ∨ s.dmaNames p q = true) (data : Nat) :
    s.queueOwnerEffect p q data = s := by
  unfold State.queueOwnerEffect
  split
  · contradiction
  · contradiction
  · exact if_neg (by rcases h with h | h <;> simp [h])

end Owned

/-! ### The relay (R346) -/

theorem State.relayOne_unrelayed {s : State} {p q : Nat} (h : s.relayTarget p q = none) : s.relayOne p q = s := by
  simp only [State.relayOne, h]

section RelayOne
variable {s : State} {p q r : Nat} {e : Entry} {rest : List Entry} (ht : s.relayTarget p q = some r)
  (hq : s.queue p q = e :: rest)
include ht hq

theorem State.relayOne_full (hlim : s.rd (qdB p r) (qdLimitRow r) ≠ 0)
    (hfull : s.rd (qdB p r) (qdLimitRow r) < s.queueCells p r + e.cells) : s.relayOne p q = s := by
  simp only [State.relayOne, ht, hq]
  exact if_neg (by omega)

theorem State.relayOne_unlimited (hlim : s.rd (qdB p r) (qdLimitRow r) = 0) :
    s.relayOne p q = ((s.setQueue p q rest).setQueue p r (s.queue p r ++ [e])).noteQueuePeak p r := by
  simp only [State.relayOne, ht, hq, hlim, true_or, if_true]

end RelayOne

/-- The relay of queue `q` of state `s` into queue `r`, which has no limit, after its first `n` entries. -/
structure State.Relayed (s : State) (p q r n : Nat) (t : State) : Prop where
  stores : Sparse.wf t.queues = true
  target : t.relayTarget p q = some r
  unlimited : t.rd (qdB p r) (qdLimitRow r) = 0
  source : t.queue p q = (s.queue p q).drop n
  dest : t.queue p r = s.queue p r ++ (s.queue p q).take n

theorem State.Relayed.step {s t : State} {p q r n : Nat} (h : s.Relayed p q r n t) (hr : q ≠ r)
    (hn : n < (s.queue p q).length) : s.Relayed p q r (n + 1) (t.relayOne p q) := by
  have hhead : t.queue p q = (s.queue p q)[n] :: (s.queue p q).drop (n + 1) := by
    rw [h.source, List.drop_eq_getElem_cons hn]
  rw [State.relayOne_unlimited h.target hhead h.unlimited]
  have hwf : Sparse.wf (t.setQueue p q ((s.queue p q).drop (n + 1))).queues = true := Sparse.wf_put h.stores
  constructor
  case stores =>
    rw [State.noteQueuePeak_queues]
    exact Sparse.wf_put hwf
  case target =>
    rw [State.noteQueuePeak_relayTarget, State.setQueue_relayTarget, State.setQueue_relayTarget, h.target]
  case unlimited => rw [State.noteQueuePeak_limit, State.setQueue_rd, State.setQueue_rd, h.unlimited]
  case source => rw [State.noteQueuePeak_queue, State.queue_setQueue_ne hr, State.queue_setQueue_same h.stores]
  case dest =>
    rw [State.noteQueuePeak_queue, State.queue_setQueue_same hwf, h.dest, List.append_assoc, List.take_concat_get' _ _ hn]

/-- The loop of the relay moves the head of the queue once for each of its entries. -/
theorem State.relayed_forUpTo {s : State} {p q r : Nat} (hwf : Sparse.wf s.queues = true) (ht : s.relayTarget p q = some r)
    (hlim : s.rd (qdB p r) (qdLimitRow r) = 0) (hr : q ≠ r) {n : Nat} (hn : n ≤ (s.queue p q).length) :
    s.Relayed p q r n (forUpTo n (fun _ t => t.relayOne p q) s) := by
  induction n with
  | zero => exact ⟨hwf, ht, hlim, rfl, (List.append_nil _).symm⟩
  | succ n ih => exact (ih (Nat.le_of_succ_le hn)).step hr hn

theorem exec_steeringRelay (p : Fin 8) (q : Fin 32) (s : State) : exec (.steeringRelay p q) s =
    .next (forUpTo (s.queue p (8 + q)).length (fun _ t => t.relayOne p (8 + q)) s) := rfl

theorem exec_steeringRelay_stays {p : Fin 8} {q : Fin 32} {s : State} (h : s.relayOne p (8 + q) = s) :
    exec (.steeringRelay p q) s = .next s :=
  congrArg _ (forUpTo_stays (P := (· = s)) (fun _ _ ht => (congrArg (State.relayOne · p (8 + q)) ht).trans h) rfl _)

theorem exec_steeringRelay_emptied {p : Fin 8} {q : Fin 32} {r : Nat} {s : State} (hwf : Sparse.wf s.queues = true)
    (ht : s.relayTarget p (8 + q) = some r) (hgen : 296 ≤ r) (hlim : s.rd (qdB p r) (qdLimitRow r) = 0) :
    ∃ t, exec (.steeringRelay p q) s = .next t ∧ t.queue p (8 + q) = [] ∧
      t.queue p r = s.queue p r ++ s.queue p (8 + q) := by
  have hrun := State.relayed_forUpTo hwf ht hlim (by omega) (Nat.le_refl _)
  exact ⟨_, exec_steeringRelay p q s, hrun.source.trans List.drop_length, by rw [hrun.dest, List.take_length]⟩

/-! ### The statement -/

/-- Settles O41: a flush and an owner's write by what the port and the queue hold, and the relay by its loop. -/
theorem queuesAreFlushedRelayedAndGivenOwners : Obligations.QueuesAreFlushedRelayedAndGivenOwners := by
  refine ⟨fun fn p q s hw => ?_, fun fn p q data s hw => ?_,
    fun p q s hinv => ⟨fun hnone => exec_steeringRelay_stays (State.relayOne_unrelayed hnone), fun r ht =>
      ⟨fun e rest hq hlim hfull => exec_steeringRelay_stays (State.relayOne_full ht hq hlim hfull),
        exec_steeringRelay_emptied hinv.stores.queues ht⟩⟩⟩
  · rw [exec_queueFlush_through hw]
    exact ⟨fun hidle => by rw [State.flushQueue_idle hidle], fun f hsends => by rw [State.flushQueue_sending hsends]⟩
  · rw [exec_queueOwnerWrite_through hw]
    exact ⟨fun hkind => congrArg _ (State.queueOwnerEffect_limit hkind s p _), fun h0 h2 =>
      ⟨fun ⟨hq, hdma⟩ => congrArg _ (State.queueOwnerEffect_stored h0 h2 hq hdma _),
        fun h => congrArg _ (State.queueOwnerEffect_refused h0 h2 h _)⟩⟩

end Sys2Proof.Machine
end

section
/-! SUPPORT. The statement of 11_frame_mac.md about a port's states: what a write of its intent does, its module, the
declarations of link up and link down, and flap grace. -/

namespace Sys2Proof.Machine

/-! ### The stores that the port's operations touch -/

theorem State.port_setPort {s : State} (h : Sparse.wf s.ports = true) (p : Nat) (v : Port) : (s.setPort p v).port p = v :=
  (Sparse.get_put h).trans (if_pos rfl)

theorem State.port_congr {s t : State} (h : t.ports = s.ports) (p : Nat) : t.port p = s.port p := by
  rw [State.port, State.port, h]

theorem State.raise_ports (s : State) (b i : Nat) : (s.raise b i).ports = s.ports := by
  rw [State.raise_eq]

theorem State.raise_queues (s : State) (b i : Nat) : (s.raise b i).queues = s.queues := by
  rw [State.raise_eq]

/-! ### The intent (R371, R73) -/

/-- The state once the port's intent `op` is stored: a start on a plate that sleeps waits for the wake. -/
def State.macStored (s : State) (p op : Nat) : State :=
  (s.storeIntent (macB p) op 0).modPort p (fun v => { v with wakeStart := decide (op = opRunning ∧
    (s.macOp p = opOff ∨ s.macOp p = opFault ∨ s.macOp p = opQuiet)) && s.plateAsleep p })

theorem exec_macHostStateWrite_through {s : State} {fn : Fin 65} {p : Fin 8}
    (hw : s.lockedWrite fn (macB p) (macB p + 0x20) = true) (data : Word) :
    exec (.macHostStateWrite fn p data) s = .next (s.macIntent fn p data.toNat) := by
  change execMacHostStateWrite fn p data s = _
  rw [execMacHostStateWrite, State.mmioWrite_through (State.lockedWrite_through hw)]

section MacIntent
variable {s : State} {fn p data op : Nat} (hmay : s.mayWriteL (macB p) (masterOfFn fn) = true) (hop : intentOp data = op)
include hmay hop

theorem State.macIntent_running (hrun : op = opRunning) : s.macIntent fn p data =
    if (s.macOp p = opOff ∨ s.macOp p = opFault ∨ s.macOp p = opQuiet) ∧ s.plateAsleep p = false then
      (s.macStored p op).startPort p else s.macStored p op := by
  subst hrun
  simp [State.macIntent, hmay, hop, State.macStored]

theorem State.macIntent_off (hoff : op = opOff) : s.macIntent fn p data =
    if s.macOp p = opStarting ∨ s.macOp p = opRunning ∨ s.macOp p = opFault then
      (s.macStored p op).stopPort p else s.macStored p op := by
  subst hoff
  simp [State.macIntent, hmay, hop, State.macStored, show opOff ≠ opRunning by decide]

theorem State.macIntent_quiet (hquiet : op = opQuiet) : s.macIntent fn p data =
    if s.macOp p = opStarting ∨ s.macOp p = opRunning then
      (s.macStored p op).quietPort p else s.macStored p op := by
  subst hquiet
  simp [State.macIntent, hmay, hop, State.macStored, show opQuiet ≠ opRunning by decide, show opQuiet ≠ opOff by decide]

end MacIntent

/-! ### The module (R370, R406) -/

section Module
variable (p : Fin 8) {s : State}

theorem exec_moduleAbsent_low (s : State) :
    exec (.moduleAbsent p false) s = .next (s.setPort p { s.port p with abs := false }) := rfl

theorem exec_moduleAbsent_out (h : s.plateOut p = true) : exec (.moduleAbsent p true) s =
    .next (((s.setPort p { s.port p with abs := true }).setRxClock p false).faultPort p) :=
  congrArg _ (if_pos h)

theorem exec_moduleAbsent_noted (h : s.plateOut p = false) :
    exec (.moduleAbsent p true) s = .next (s.setPort p { s.port p with abs := true }) :=
  congrArg _ (if_neg (by simp [h]))

theorem exec_moduleTxFault_low (ns : Nat) (s : State) :
    exec (.moduleTxFault p false ns) s = .next (s.setPort p { s.port p with txFault := false }) := rfl

theorem exec_moduleTxFault_lasts {ns : Nat} (h : s.plateOut p = true) (hns : 100000 ≤ ns) :
    exec (.moduleTxFault p true ns) s = .next ((s.setPort p { s.port p with txFault := true }).faultPort p) :=
  congrArg _ (if_pos (by simp [h, hns]))

theorem exec_moduleTxFault_noted {ns : Nat} (h : s.plateOut p = false ∨ ns < 100000) :
    exec (.moduleTxFault p true ns) s = .next (s.setPort p { s.port p with txFault := true }) := by
  refine congrArg _ (if_neg ?_)
  rcases h with hin | hbrief
  · simp [hin]
  · simp [hbrief]

end Module

theorem State.faultPort_works {s : State} {p : Nat} (hop : s.macOp p = opStarting ∨ s.macOp p = opRunning)
    (hheld : s.heldAt (macB p) = false) : s.faultPort p =
      ((((s.linkDown p).setTxIdle p true).setOp (macB p) opFault).raise (macB p) 5).syncELost p :=
  if_pos ⟨hop, by simp [hheld]⟩

theorem State.faultPort_stays {s : State} {p : Nat}
    (h : (s.macOp p ≠ opStarting ∧ s.macOp p ≠ opRunning) ∨ s.heldAt (macB p) = true) : s.faultPort p = s := by
  refine if_neg ?_
  rintro ⟨hop, hheld⟩
  rcases h with hidle | hheld'
  · exact not_or.2 hidle hop
  · simp [hheld'] at hheld

/-! ### Link up (R372, R375, R400, R433) -/

theorem State.pcsWorks_iff {s : State} {p : Nat} : s.pcsWorks p = true ↔ (s.macOp p = opStarting ∨ s.macOp p = opRunning) ∧
    s.graversReleased p = true ∧ Sparse.get 0 s.laneGrants p ≠ 0 ∧ s.serdesIdle = false := by
  simp [State.pcsWorks, and_assoc]

section LinkUp
variable {s : State} {p : Fin 8} (speed : Fin 3) {heldNs : Nat}

theorem exec_linkUpDeclare_idle (h : s.pcsWorks p = false) : exec (.linkUpDeclare p speed heldNs) s = .next s :=
  congrArg _ (if_pos (by simp [h]))

variable (h : s.pcsWorks p = true)
include h

/-- What the PCS reports recovers a clock; the link is declared up at most besides. -/
theorem exec_linkUpDeclare_works : exec (.linkUpDeclare p speed heldNs) s = .next
    (if ((s.port p).up = false ∨ s.macOp p = opStarting) ∧ (s.port p).upHoldMs * msNs ≤ heldNs then
      (s.setRxClock p true).linkUpNow p speed else s.setRxClock p true) := by
  refine congrArg _ ((if_neg (by simp [h])).trans ?_)
  simp

theorem exec_linkUpDeclare_early (hheld : heldNs < (s.port p).upHoldMs * msNs) :
    exec (.linkUpDeclare p speed heldNs) s = .next (s.setRxClock p true) := by
  rw [exec_linkUpDeclare_works speed h, if_neg (fun hdue => Nat.not_le.2 hheld hdue.2)]

theorem exec_linkUpDeclare_again (hup : (s.port p).up = true) (hrun : s.macOp p = opRunning) :
    exec (.linkUpDeclare p speed heldNs) s = .next (s.setRxClock p true) := by
  rw [exec_linkUpDeclare_works speed h, if_neg]
  simp [hup, hrun, opRunning, opStarting]

theorem exec_linkUpDeclare_declared (hdown : (s.port p).up = false) (hheld : (s.port p).upHoldMs * msNs ≤ heldNs) :
    exec (.linkUpDeclare p speed heldNs) s = .next ((s.setRxClock p true).linkUpNow p speed) := by
  rw [exec_linkUpDeclare_works speed h, if_pos ⟨.inl hdown, hheld⟩]

end LinkUp

/-- A recovered clock reads as present in the monitor. -/
theorem State.bitAt_setRxClock {s : State} (h : Sparse.wf s.regs = true) (p : Fin 8) :
    bitAt ((s.setRxClock p true).rd crB Reg.crClkMonMacRx) p = true := by
  have hbit : bitAt (setBit (s.rd crB Reg.crClkMonMacRx) p true % 2 ^ 8) p = true := by
    rw [bitAt_eq_testBit, Nat.testBit_mod_two_pow, ← bitAt_eq_testBit, bitAt_setBit]
    simp
  exact (congrArg (bitAt · p) (State.rd_wr_same h crB Reg.crClkMonMacRx _ 0)).trans hbit

/-- The hatch scheduler's code is not in the sheet of the clock monitor. -/
theorem State.hsOp_setRxClock {s : State} (h : Sparse.wf s.regs = true) (p q : Nat) :
    (s.setRxClock p true).hsOp q = s.hsOp q :=
  State.rd_wr_ne h (by simp only [fieldKey, hsB, winB, Title.stateOp, crB, Reg.crClkMonMacRx]; omega)

/-- The port once its link is declared up. -/
def State.upPort (s : State) (p speed : Nat) : Port :=
  { s.port p with
    up := true, waitBoundary := s.hsOp p == opRunning, graceFrom := none, graceEnded := false, remoteFault := false
    speed := if (s.port p).rate != 4 then 0 else if (s.port p).anEn then speed else 2 }

section LinkUpNow
variable (s : State) (p speed : Nat)

theorem State.linkUpNow_eq : s.linkUpNow p speed =
    ((s.setPort p (s.upPort p speed)).wr (macB p) Title.stateOp opRunning).raise (macB p) evLinkUp := rfl

theorem State.linkUpNow_queues : (s.linkUpNow p speed).queues = s.queues := by
  rw [State.linkUpNow_eq, State.raise_queues, State.wr_queues, State.setPort_queues]

variable {s}

theorem State.linkUpNow_port (h : Sparse.wf s.ports = true) : (s.linkUpNow p speed).port p = s.upPort p speed := by
  rw [State.linkUpNow_eq, State.port_congr (State.raise_ports _ _ _), State.port_congr (State.wr_ports _ _ _ _ _),
    State.port_setPort h]

variable (h : Sparse.wf s.regs = true)
include h

/-- Of the register fields, declaring the link up changes the port's code and its EVENT alone. -/
theorem State.rd_linkUpNow {b : Nat} {r : Row} (hop : fieldKey b r 0 ≠ fieldKey (macB p) Title.stateOp 0)
    (hev : fieldKey b r 0 ≠ fieldKey (macB p) Title.event 0) : (s.linkUpNow p speed).rd b r = s.rd b r := by
  have hport : Sparse.wf (s.setPort p (s.upPort p speed)).regs = true := h
  rw [State.linkUpNow_eq, State.rd_raise_ne (State.wr_wf hport _ _ _ _) hev, State.rd_wr_ne hport hop]
  rfl

theorem State.linkUpNow_macOp : (s.linkUpNow p speed).macOp p = opRunning := by
  have hport : Sparse.wf (s.setPort p (s.upPort p speed)).regs = true := h
  rw [State.macOp, State.linkUpNow_eq, State.rd_raise_apart (State.wr_wf hport _ _ _ _) (by decide) (by simp [Title.stateOp]),
    State.rd_wr_same hport]
  decide

theorem State.linkUpNow_event : bitAt ((s.linkUpNow p speed).rd (macB p) Title.event) evLinkUp = true := by
  have hport : Sparse.wf (s.setPort p (s.upPort p speed)).regs = true := h
  rw [State.linkUpNow_eq]
  exact State.bitAt_raise (State.wr_wf hport _ _ _ _) (macB p) (by decide)

/-- The clock monitor lies below the windows of the plates. -/
theorem State.clkMon_linkUpNow :
    (s.linkUpNow p speed).rd crB Reg.crClkMonMacRx = s.rd crB Reg.crClkMonMacRx :=
  State.rd_linkUpNow p speed h (by simp only [fieldKey, macB, winB, Title.stateOp, crB, Reg.crClkMonMacRx]; omega)
    (by simp only [fieldKey, macB, winB, Title.event, crB, Reg.crClkMonMacRx]; omega)

end LinkUpNow

/-! ### Link down (R373, R400, R406) -/

theorem exec_linkDownDeclare_idle {s : State} {p : Fin 8} (h : s.pcsWorks p = false) (remote : Bool) :
    exec (.linkDownDeclare p remote) s = .next s :=
  congrArg _ (if_pos (by simp [h]))

/-- The port that has noted whether its link is down for a remote fault, which 10G alone knows. -/
def State.noteRemote (s : State) (p : Nat) (remote : Bool) : State :=
  s.modPort p (fun v => { v with remoteFault := remote && v.rate == 1 })

theorem exec_linkDownDeclare_works {s : State} {p : Fin 8} (h : s.pcsWorks p = true) (remote : Bool) :
    exec (.linkDownDeclare p remote) s = .next (if remote = true ∧ (s.port p).rate = 1 then (s.linkDown p).noteRemote p remote
      else ((s.linkDown p).noteRemote p remote).setRxClock p false) := by
  refine congrArg _ ((if_neg (by simp [h])).trans ?_)
  simp [State.noteRemote]

theorem State.linkDown_down {s : State} {p : Nat} (h : (s.port p).up = false) : s.linkDown p = s :=
  if_pos (by simp [h])

/-- The frame on its way out is given up, and its entry counted as flushed. -/
def State.freeTx (s : State) (p : Nat) : State :=
  match (s.port p).tx with
  | some f => (s.setPort p { s.port p with tx := none }).dropHead p f.queue cTxFlushed
  | none => s

/-- The frame on its way in is given up, and counted as misaligned. -/
def State.freeRx (s : State) (p : Nat) : State :=
  match (s.port p).rx with
  | some _ => (s.setPort p { s.port p with rx := none }).count48 p none cRxAlign
  | none => s

/-- Flap grace begins at `now`, and a pause ends with the link. -/
def State.beginGrace (s : State) (p now : Nat) : State :=
  s.setPort p { s.port p with
    up := false, waitBoundary := false, graceFrom := some now, graceEnded := false, pauseTill := 0, pauseFrom := none }

theorem State.freeTx_sending {s : State} {p : Nat} {f : TxFrame} (h : (s.port p).tx = some f) :
    s.freeTx p = (s.setPort p { s.port p with tx := none }).dropHead p f.queue cTxFlushed := by
  rw [State.freeTx, h]

theorem State.freeTx_idle {s : State} {p : Nat} (h : (s.port p).tx = none) : s.freeTx p = s := by
  rw [State.freeTx, h]

theorem State.freeRx_receiving {s : State} {p : Nat} (h : (s.port p).rx ≠ none) :
    s.freeRx p = (s.setPort p { s.port p with rx := none }).count48 p none cRxAlign := by
  obtain ⟨f, hf⟩ := Option.ne_none_iff_exists'.1 h
  rw [State.freeRx, hf]

theorem State.freeRx_idle {s : State} {p : Nat} (h : (s.port p).rx = none) : s.freeRx p = s := by
  rw [State.freeRx, h]

theorem State.linkDown_up {s : State} {p : Nat} (h : (s.port p).up = true) : s.linkDown p =
    (((((s.freeTx p).freeRx p).beginGrace p s.now).count48 p none cLinkDown).raise (macB p) 0).clearAllHeads p :=
  if_neg (by simp [h])

/-! ### Flap grace (R376) -/

theorem exec_flapGraceExpire_over {p : Fin 8} {s : State} (h : s.graceOver p = true) : exec (.flapGraceExpire p) s =
    .next (((s.flushTqs p).modPort p (fun v => { v with graceFrom := none, graceEnded := true })).raise (macB p) 2) :=
  congrArg _ (if_pos h)

theorem exec_flapGraceExpire_lasts {p : Fin 8} {s : State} (h : s.graceOver p = false) :
    exec (.flapGraceExpire p) s = .next s :=
  congrArg _ (if_neg (by simp [h]))

/-! ### The statement -/

/-- Settles O42: each clause is one command in the case that its premises name; a link declared up is `State.linkUpNow`, which
changes the port, its code and its EVENT alone. -/
theorem portIntentModuleAndLinkStates : Obligations.PortIntentModuleAndLinkStates := by
  refine ⟨fun fn p data s hw => ⟨_, s.macStored p (intentOp data.toNat), rfl, rfl, ?_⟩,
    fun p ns s => ⟨exec_moduleAbsent_low p s, exec_moduleTxFault_low p ns s,
      fun hout => ⟨exec_moduleAbsent_out p hout, exec_moduleTxFault_lasts p hout⟩, exec_moduleAbsent_noted p,
      exec_moduleTxFault_noted p⟩,
    fun p s => ⟨State.faultPort_works, State.faultPort_stays⟩,
    fun p s => State.pcsWorks_iff,
    fun p speed heldNs s => ⟨exec_linkUpDeclare_idle speed, exec_linkUpDeclare_early speed, exec_linkUpDeclare_again speed,
      fun hinv hworks hdown hheld => ⟨_, exec_linkUpDeclare_declared speed hworks hdown hheld, ?_⟩⟩,
    fun p remote s => ⟨(exec_linkDownDeclare_idle · remote),
      fun hworks => ⟨s.linkDown p, (s.linkDown p).noteRemote p remote, rfl, rfl, fun hremote hrate => ?_, fun h => ?_⟩,
      State.linkDown_down,
      fun hup => ⟨s.freeTx p, (s.freeTx p).freeRx p, ((s.freeTx p).freeRx p).beginGrace p s.now,
        fun f => State.freeTx_sending, State.freeTx_idle, State.freeRx_idle, State.freeRx_receiving, rfl,
        State.linkDown_up hup⟩⟩,
    fun p s => ⟨fun hover => ⟨_, rfl, exec_flapGraceExpire_over hover⟩, exec_flapGraceExpire_lasts⟩⟩
  · have hmay := State.lockedWrite_may hw
    rw [exec_macHostStateWrite_through hw]
    generalize hop : intentOp data.toNat = op
    refine ⟨fun hrun hstarts => ⟨fun hawake => ?_, fun hasleep => ?_⟩, fun hrun hoff hfault hquiet => ?_,
      fun hoff hstops => ?_, fun hoff hstarting hrunning hfault => ?_, fun hquiet hworks => ?_,
      fun hquiet hstarting hrunning => ?_⟩
    · rw [State.macIntent_running hmay hop hrun, if_pos ⟨hstarts, hawake⟩]
    · rw [State.macIntent_running hmay hop hrun, if_neg (by simp [hasleep])]
    · rw [State.macIntent_running hmay hop hrun, if_neg (by simp [hoff, hfault, hquiet])]
    · rw [State.macIntent_off hmay hop hoff, if_pos hstops]
    · rw [State.macIntent_off hmay hop hoff, if_neg (by simp [hstarting, hrunning, hfault])]
    · rw [State.macIntent_quiet hmay hop hquiet, if_pos hworks]
    · rw [State.macIntent_quiet hmay hop hquiet, if_neg (by simp [hstarting, hrunning])]
  · have hregs : Sparse.wf (s.setRxClock p true).regs = true := State.wr_wf hinv.regs _ _ _ _
    rw [State.linkUpNow_port (s := s.setRxClock p true) p speed hinv.stores.ports, State.clkMon_linkUpNow p speed hregs]
    exact ⟨State.linkUpNow_macOp p speed hregs, rfl, rfl, rfl, congrArg (· == opRunning) (State.hsOp_setRxClock hinv.regs p p),
      State.linkUpNow_event p speed hregs, State.bitAt_setRxClock hinv.regs p, State.linkUpNow_queues _ p speed⟩
  · rw [exec_linkDownDeclare_works hworks, if_pos ⟨hremote, hrate⟩]
  · rw [exec_linkDownDeclare_works hworks, if_neg (by rcases h with h | h <;> simp [h])]

end Sys2Proof.Machine
end

section
/-! SUPPORT. The statement of 11_frame_mac.md about PAUSE: a PAUSE frame that is received, the ends of the pause, its guard and its
hold, and the PAUSE frames that the port sends. -/

namespace Sys2Proof.Machine

/-! ### A received PAUSE frame (R386, R387) -/

section PauseIn
variable {s t : State} {p quanta : Nat} (ht : t = s.count48 p none cRxPause)
include ht

theorem State.pauseIn_off (hoff : t.isSet (macB p) Reg.macPauseRxEn = false) : s.pauseIn p quanta = t := by
  subst ht
  exact if_pos (by simp [hoff])

variable (hon : t.isSet (macB p) Reg.macPauseRxEn = true)
include hon

theorem State.pauseIn_held (hheld : t.now < (t.port p).holdTill) : s.pauseIn p quanta = t.count48 p none cPauseIgnored := by
  subst ht
  rw [State.pauseIn, if_neg (by simp [hon]), if_pos hheld]

variable (hfree : (t.port p).holdTill ≤ t.now)
include hfree

theorem State.pauseIn_ends (hzero : quanta = 0) :
    s.pauseIn p quanta = t.setPort p { t.port p with pauseTill := 0, pauseFrom := none } := by
  subst ht
  rw [State.pauseIn, if_neg (by simp [hon]), if_neg (Nat.not_lt.2 hfree), if_pos hzero]

theorem State.pauseIn_begins (hpos : quanta ≠ 0) : s.pauseIn p quanta = t.setPort p { t.port p with
    pauseTill := t.now + t.quantaNs p quanta
    pauseFrom := if t.now < (t.port p).pauseTill then (t.port p).pauseFrom else some t.now } := by
  subst ht
  rw [State.pauseIn, if_neg (by simp [hon]), if_neg (Nat.not_lt.2 hfree), if_neg hpos]

end PauseIn

section PauseFrame
variable {s : State} {p : Fin 8} (quanta : BitVec 16)

theorem exec_pauseFrameReceived_deaf (h : s.receives p = false) : exec (.pauseFrameReceived p quanta) s = .next s :=
  congrArg _ (if_neg (by simp [h]))

theorem exec_pauseFrameReceived_taken (h : s.receives p = true) :
    exec (.pauseFrameReceived p quanta) s = .next (s.pauseIn p quanta.toNat) :=
  congrArg _ (if_pos h)

end PauseFrame

/-! ### The ends of the pause, of its guard and of its hold (R386, R387) -/

section Ends
variable {s : State} {p : Fin 8}

theorem exec_pauseTimerExpire_over (hfrom : (s.port p).pauseFrom.isSome = true) (hover : (s.port p).pauseTill ≤ s.now) :
    exec (.pauseTimerExpire p) s = .next (s.setPort p { s.port p with pauseTill := 0, pauseFrom := none }) :=
  congrArg _ (if_pos ⟨hfrom, hover⟩)

theorem exec_pauseTimerExpire_early (h : s.now < (s.port p).pauseTill) : exec (.pauseTimerExpire p) s = .next s :=
  congrArg _ (if_neg (fun hover => Nat.not_le.2 h hover.2))

theorem exec_pauseHoldEnd_over (h : (s.port p).holdTill ≤ s.now) :
    exec (.pauseHoldEnd p) s = .next (s.setPort p { s.port p with holdTill := 0 }) :=
  congrArg _ (if_pos h)

theorem exec_pauseHoldEnd_early (h : s.now < (s.port p).holdTill) : exec (.pauseHoldEnd p) s = .next s :=
  congrArg _ (if_neg (Nat.not_le.2 h))

variable {f : Nat} (hfrom : (s.port p).pauseFrom = some f)
include hfrom

theorem exec_pauseGuardExpire_due (hdue : f + s.rd (macB p) Reg.macPauseGuardPauseGuard * msNs ≤ s.now)
    (hlasts : f + s.rd (macB p) Reg.macPauseGuardPauseGuard * msNs < (s.port p).pauseTill) :
    exec (.pauseGuardExpire p) s = .next (((s.setPort p { s.port p with
      pauseTill := 0, pauseFrom := none, holdTill := s.now + s.rd (macB p) Reg.macPauseGuardPauseHold * msNs }).count48 p none
        cPauseGuard).raise (macB p) 4) := by
  change execPauseGuardExpire p s = _
  simp only [execPauseGuardExpire, hfrom]
  rw [if_pos ⟨hdue, hlasts⟩]
  rfl

theorem exec_pauseGuardExpire_early (h : s.now < f + s.rd (macB p) Reg.macPauseGuardPauseGuard * msNs) :
    exec (.pauseGuardExpire p) s = .next s := by
  change execPauseGuardExpire p s = _
  simp only [execPauseGuardExpire, hfrom]
  rw [if_neg (fun hdue => Nat.not_le.2 h hdue.1)]

end Ends

/-! ### The PAUSE frames that the port sends (R388) -/

theorem State.pauseOut_out (s : State) (p quanta : Nat) :
    (s.pauseOut p quanta).out.head? = some (.pause p (s.pauseFrame p quanta)) := rfl

theorem State.pauseCheck_silent {s : State} {p : Nat}
    (h : s.transmits p = false ∨ s.isSet (macB p) Reg.macPauseTxEn = false) : s.pauseCheck p = s := by
  refine if_pos ?_
  rcases h with h | h <;> simp [h]

section PauseCheck
variable {s : State} {p : Nat} (htx : s.transmits p = true) (hen : s.isSet (macB p) Reg.macPauseTxEn = true)
include htx hen

theorem State.pauseCheck_falls (hlow : s.poolFree p ≤ s.rd (qgB p) Reg.qmFloorFloor) (hon : (s.port p).pauseOn = false) :
    s.pauseCheck p = s.pauseNow p := by
  rw [State.pauseCheck, if_neg (by simp [htx, hen]), if_pos hlow, if_neg (by simp [hon])]

theorem State.pauseCheck_stays (hlow : s.poolFree p ≤ s.rd (qgB p) Reg.qmFloorFloor) (hon : (s.port p).pauseOn = true) :
    s.pauseCheck p = s := by
  rw [State.pauseCheck, if_neg (by simp [htx, hen]), if_pos hlow, if_pos hon]

theorem State.pauseCheck_rises (hhigh : s.rd (qgB p) Reg.qmFloorFloor + 256 < s.poolFree p)
    (hsent : (s.port p).pauseSentAt.isSome = true) : s.pauseCheck p =
      (s.pauseOut p 0).setPort p { (s.pauseOut p 0).port p with pauseSentAt := none, pauseOn := false } := by
  rw [State.pauseCheck, if_neg (by simp [htx, hen]), if_neg (by omega), if_pos ⟨hsent, hhigh⟩]
  rfl

theorem State.pauseDue_of {at_ : Nat} (hsent : (s.port p).pauseSentAt = some at_) (hon : (s.port p).pauseOn = true)
    (hhalf : at_ + s.quantaNs p (s.rd (macB p) Reg.macPauseTxQuanta) / 2 ≤ s.now)
    (hlow : s.poolFree p ≤ s.rd (qgB p) Reg.qmFloorFloor) : s.pauseDue p = true := by
  simp only [State.pauseDue, htx, hen, hsent, hon, hhalf, hlow, decide_true, Bool.and_self]

end PauseCheck

theorem exec_pauseTxRepeat_due {s : State} {p : Fin 8} (h : s.pauseDue p = true) :
    exec (.pauseTxRepeat p) s = .next (s.pauseNow p) :=
  congrArg _ (if_pos h)

theorem exec_pauseTxRepeat_early {s : State} {p : Fin 8} (h : s.pauseDue p = false) :
    exec (.pauseTxRepeat p) s = .next (s.pauseCheck p) :=
  congrArg _ (if_neg (by simp [h]))

/-! ### The statement -/

/-- Settles O43: each clause is one command, or `State.pauseCheck`, in the case that its premises name. -/
theorem pauseFramesStopTheTransmitterForATime : Obligations.PauseFramesStopTheTransmitterForATime := by
  refine ⟨fun p quanta s => ⟨exec_pauseFrameReceived_deaf quanta, fun hrx => ⟨_, rfl, ?_⟩⟩,
    fun p s => ⟨exec_pauseTimerExpire_over, exec_pauseTimerExpire_early,
      fun f hfrom => ⟨exec_pauseGuardExpire_due hfrom, exec_pauseGuardExpire_early hfrom⟩,
      exec_pauseHoldEnd_over, exec_pauseHoldEnd_early, exec_pauseTxRepeat_early,
      fun at_ hsent hon htx hen hhalf hlow => exec_pauseTxRepeat_due (State.pauseDue_of htx hen hsent hon hhalf hlow),
      ⟨_, rfl, s.pauseOut_out p _, rfl⟩,
      fun htx hen => ⟨State.pauseCheck_falls htx hen, State.pauseCheck_stays htx hen,
        fun hhigh hsent => ⟨_, rfl, s.pauseOut_out p 0, State.pauseCheck_rises htx hen hhigh hsent⟩⟩,
      State.pauseCheck_silent⟩⟩
  rw [exec_pauseFrameReceived_taken quanta hrx]
  exact ⟨fun hoff => congrArg _ (State.pauseIn_off rfl hoff), fun hon =>
    ⟨fun hheld => congrArg _ (State.pauseIn_held rfl hon hheld),
      fun hfree hzero => congrArg _ (State.pauseIn_ends rfl hon hfree hzero),
      fun hfree hpos => congrArg _ (State.pauseIn_begins rfl hon hfree hpos)⟩⟩

end Sys2Proof.Machine
end

section
/-! SUPPORT. The statement of 11_frame_mac.md about received frames: what a frame's first bytes decide, the rows of R390 at
its end, and how a frame that was admitted joins its queue. -/

namespace Sys2Proof.Machine

/-! ### The first bytes (R350, R351, R391) -/

/-- The timestamp of a frame whose first byte arrives now (R397). -/
def State.rxStamp (s : State) (p : Nat) : Nat := 8192 * (s.tk125 p - s.rd (macB p) Reg.macPtpDelayRxDelay)

/-- What the port takes a frame for that begins with `head`: a MAC control frame is steered nowhere. -/
def State.rxNoted (s : State) (p : Nat) (head : List Byte) : RxFrame :=
  { (if beAt head 12 2 = 0x8808 then {} else s.steer p (head.take 64)) with ts := s.rxStamp p }

theorem State.rxNoted_control {head : List Byte} (h : beAt head 12 2 = 0x8808) (s : State) (p : Nat) :
    s.rxNoted p head = { ts := s.rxStamp p } := by
  rw [State.rxNoted, if_pos h]

theorem State.rxNoted_data {head : List Byte} (h : beAt head 12 2 ≠ 0x8808) (s : State) (p : Nat) :
    s.rxNoted p head = { s.steer p (head.take 64) with ts := s.rxStamp p } := by
  rw [State.rxNoted, if_neg h]

/-- The port with `f` in reception. -/
def State.noteRx (s : State) (p : Nat) (f : RxFrame) : State := s.setPort p { s.port p with rx := some f }

/-- A frame that is noted as `f` takes its 16 cells, is refused, or takes none. -/
def State.takeFirst (s : State) (p : Nat) (f : RxFrame) : State :=
  match f.slot, f.target with
  | some k, some q =>
    if s.queueOwner p q ≠ some k then (s.queueDrop p q).noteRx p { f with refused := true }
    else match s.allocRefusal p q k 16 f.chan.isSome with
      | 0 => ((s.noteRx p { f with admitted := true }).notePool p k (s.poolFree p)).pauseCheck p
      | c => (s.countRefusal p q k c).noteRx p { f with refused := true }
  | _, _ => s.noteRx p f

theorem exec_frameFirstByte_deaf {s : State} {p : Fin 8} (h : s.receives p = false) (head : List Byte) :
    exec (.frameFirstByte p head) s = .next s :=
  congrArg _ (if_pos (by simp [h]))

theorem exec_frameFirstByte_taken {s : State} {p : Fin 8} (h : s.receives p = true) (head : List Byte) :
    exec (.frameFirstByte p head) s = .next (s.takeFirst p (s.rxNoted p head)) :=
  congrArg _ (if_neg (by simp [h]))

section TakeFirst
variable {s : State} {p : Nat} {f : RxFrame}

theorem State.takeFirst_untaken (htarget : f.target = none) : s.takeFirst p f = s.noteRx p f := by
  unfold State.takeFirst
  split
  · next htaken => cases htarget.symm.trans htaken
  · rfl

variable {k q : Nat} (hslot : f.slot = some k) (htarget : f.target = some q)
include hslot htarget

theorem State.takeFirst_unowned (howner : s.queueOwner p q ≠ some k) :
    s.takeFirst p f = (s.queueDrop p q).noteRx p { f with refused := true } := by
  simp only [State.takeFirst, hslot, htarget]
  exact if_pos howner

variable (howner : s.queueOwner p q = some k)
include howner

theorem State.takeFirst_admitted (hfits : s.allocRefusal p q k 16 f.chan.isSome = 0) : s.takeFirst p f =
    ((s.noteRx p { f with admitted := true }).notePool p k (s.poolFree p)).pauseCheck p := by
  simp only [State.takeFirst, hslot, htarget, howner, hfits]
  exact if_neg (not_not.2 rfl)

theorem State.takeFirst_refused (hrefused : s.allocRefusal p q k 16 f.chan.isSome ≠ 0) : s.takeFirst p f =
    (s.countRefusal p q k (s.allocRefusal p q k 16 f.chan.isSome)).noteRx p { f with refused := true } := by
  simp only [State.takeFirst, hslot, htarget, howner]
  exact if_neg (not_not.2 rfl)

end TakeFirst

/-! ### The end of a frame: the rows of R390 -/

/-- The port with no frame in reception. -/
def State.rxEnded (s : State) (p : Nat) : State := s.setPort p { s.port p with rx := none }

section FrameEnd
variable {s : State} {p : Fin 8} {bytes : List Byte} {align fcsOk : Bool}

theorem exec_frameReceived_deaf (h : s.receives p = false) (bytes : List Byte) (align fcsOk : Bool) :
    exec (.frameReceived p bytes align fcsOk) s = .next s := by
  change execFrameReceived p bytes align fcsOk s = _
  rw [execFrameReceived]
  split
  · rw [if_neg (by simp [h])]
  · rfl

/-- What the frame's row does; after it the pool may ask for a PAUSE frame. -/
theorem exec_frameReceived_row {f : RxFrame} {u : State} (hrx : s.receives p = true) (hf : (s.port p).rx = some f)
    (hrow : s.decideFrame p f bytes align fcsOk = u) :
    exec (.frameReceived p bytes align fcsOk) s = .next (u.pauseCheck p) := by
  change execFrameReceived p bytes align fcsOk s = _
  simp only [execFrameReceived, hf, if_pos hrx, hrow]

end FrameEnd

/-- The entry that a frame of slot `k` becomes, its first cell drawn from the free ones (R396). -/
def State.rxEntry (s : State) (p k : Nat) (f : RxFrame) (bytes : List Byte) : Entry :=
  { slot := k, voice := f.chan.isSome, bytes := s.storedBytes p f bytes, rxTs := f.ts, chan := f.chan, filt := f.filt
    cell := (s.drawCell p).1 }

/-- The frame joins the tail of queue `q` and is counted with its octets. -/
def State.storeFrame (s : State) (p k q : Nat) (f : RxFrame) (bytes : List Byte) : State :=
  let d := (s.drawCell p).2
  (((d.setQueue p q (d.queue p q ++ [s.rxEntry p k f bytes])).noteQueuePeak p q).count48 p (some k) cRxFrames).count48 p
    (some k) cRxOctets (bytes.length + 4)

/-- What the rows of R390 from the fifth on decide, by the frame's type, its slot and its queue. -/
def State.takeFrame (s : State) (p : Nat) (f : RxFrame) (bytes : List Byte) : State :=
  if beAt bytes 12 2 = 0x8808 then match s.pauseQuanta p bytes with
    | some q => s.pauseIn p q
    | none => s.count48 p none cRxCtrlOther
  else match f.slot, f.target with
    | none, _ => s.count48 p none cRxUnknownTag
    | some k, none => s.count48 p (some k) cRxNoMatch
    | some k, some q => if !f.admitted then s.count48 p (some k) cRxRefused else s.storeFrame p k q f bytes

section Rows
variable {s : State} {p : Nat} {f : RxFrame} {bytes : List Byte}

theorem State.decideFrame_align (fcsOk : Bool) :
    s.decideFrame p f bytes true fcsOk = (s.rxEnded p).count48 p none cRxAlign := rfl

theorem State.decideFrame_runt (h : bytes.length < 60) (fcsOk : Bool) :
    s.decideFrame p f bytes false fcsOk = (s.rxEnded p).count48 p none cRxRunt :=
  if_pos (by omega)

theorem State.decideFrame_oversize (h : 2044 < bytes.length) (fcsOk : Bool) :
    s.decideFrame p f bytes false fcsOk = (s.rxEnded p).count48 p none cRxOversize :=
  (if_neg (by omega)).trans (if_pos (by omega))

/-- Of a frame that rows 1 to 3 leave, the FCS decides whether the other rows are looked at. -/
theorem State.decideFrame_whole (hmin : 60 ≤ bytes.length) (hmax : bytes.length ≤ 2044) (fcsOk : Bool) :
    s.decideFrame p f bytes false fcsOk =
      if !fcsOk then (s.rxEnded p).count48 p none cRxFcs else (s.rxEnded p).takeFrame p f bytes :=
  (if_neg (by omega)).trans (if_neg (by omega))

theorem State.takeFrame_ctrlOther (hctl : beAt bytes 12 2 = 0x8808) (hq : s.pauseQuanta p bytes = none) :
    s.takeFrame p f bytes = s.count48 p none cRxCtrlOther := by
  rw [State.takeFrame, if_pos hctl, hq]

theorem State.takeFrame_pause (hctl : beAt bytes 12 2 = 0x8808) {q : Nat} (hq : s.pauseQuanta p bytes = some q) :
    s.takeFrame p f bytes = s.pauseIn p q := by
  rw [State.takeFrame, if_pos hctl, hq]

variable (hdata : beAt bytes 12 2 ≠ 0x8808)
include hdata

theorem State.takeFrame_unknownTag (hslot : f.slot = none) : s.takeFrame p f bytes = s.count48 p none cRxUnknownTag := by
  rw [State.takeFrame, if_neg hdata, hslot]

variable {k : Nat} (hslot : f.slot = some k)
include hslot

theorem State.takeFrame_noMatch (htarget : f.target = none) : s.takeFrame p f bytes = s.count48 p (some k) cRxNoMatch := by
  rw [State.takeFrame, if_neg hdata, hslot, htarget]

variable {q : Nat} (htarget : f.target = some q)
include htarget

theorem State.takeFrame_refused (hadm : f.admitted = false) : s.takeFrame p f bytes = s.count48 p (some k) cRxRefused := by
  rw [State.takeFrame, if_neg hdata, hslot, htarget]
  exact if_pos (by simp [hadm])

theorem State.takeFrame_stored (hadm : f.admitted = true) : s.takeFrame p f bytes = s.storeFrame p k q f bytes := by
  rw [State.takeFrame, if_neg hdata, hslot, htarget]
  exact if_neg (by simp [hadm])

end Rows

/-! ### The queue of a frame that is stored (R396) -/

theorem State.countIn_queues (s : State) (b k n : Nat) : (s.countIn b k n).queues = s.queues := by
  unfold State.countIn
  dsimp only
  split_ifs <;> simp only [State.raise_queues]

theorem State.count48_queues (s : State) (p : Nat) (slot : Option Nat) (k n : Nat) : (s.count48 p slot k n).queues = s.queues := by
  cases slot with
  | none => exact s.countIn_queues _ _ _
  | some i => exact (State.countIn_queues _ _ _ _).trans (s.countIn_queues _ _ _)

theorem State.pauseOut_queues (s : State) (p quanta : Nat) : (s.pauseOut p quanta).queues = s.queues := by
  rw [State.pauseOut, State.emit_queues, State.count48_queues]
  rfl

/-- PAUSE frames that the pool asks for leave the queues. -/
theorem State.pauseCheck_queues (s : State) (p : Nat) : (s.pauseCheck p).queues = s.queues := by
  unfold State.pauseCheck
  dsimp only
  split_ifs
  · rfl
  · rfl
  · exact s.pauseOut_queues p (s.rd (macB p) Reg.macPauseTxQuanta)
  · exact s.pauseOut_queues p 0
  · rfl
  · rfl

/-- The frame is the queue's last entry. -/
theorem State.queue_storeFrame {s : State} (h : Sparse.wf s.queues = true) (p k q : Nat) (f : RxFrame) (bytes : List Byte) :
    (s.storeFrame p k q f bytes).queue p q = s.queue p q ++ [s.rxEntry p k f bytes] := by
  rw [State.queue, State.storeFrame, State.count48_queues, State.count48_queues, State.noteQueuePeak_queues]
  exact State.queue_setQueue_same (s := (s.drawCell p).2) h p q _

theorem State.queue_pauseCheck (s : State) (p p' q : Nat) : (s.pauseCheck p).queue p' q = s.queue p' q := by
  rw [State.queue, State.queue, State.pauseCheck_queues]

/-! ### The statement -/

/-- Settles O44: the cases of a frame's first bytes, and the first row of R390 that applies at its end. -/
theorem framesAreReceivedIntoTheirQueues : Obligations.FramesAreReceivedIntoTheirQueues := by
  refine ⟨fun p head bytes align fcsOk s hrx =>
      ⟨exec_frameFirstByte_deaf hrx head, exec_frameReceived_deaf hrx bytes align fcsOk⟩,
    fun p head s hrx => ?_,
    fun p f bytes align fcsOk s hrx hf => ⟨s.rxEnded p, rfl, ?_⟩⟩
  · rw [exec_frameFirstByte_taken hrx]
    refine ⟨fun hctl => ?_, fun hdata htarget => ?_, fun k q f hdata hf hslot htarget => ?_⟩
    · rw [State.rxNoted_control hctl, State.takeFirst_untaken rfl]
      rfl
    · rw [State.rxNoted_data hdata]
      exact congrArg _ (State.takeFirst_untaken htarget)
    · rw [State.rxNoted_data hdata, State.rxStamp, ← hf]
      exact ⟨fun howner => ⟨_, rfl, congrArg _ (State.takeFirst_unowned hslot htarget howner)⟩,
        fun howner => ⟨fun hfits => congrArg _ (State.takeFirst_admitted hslot htarget howner hfits),
          fun hrefused => ⟨_, rfl, congrArg _ (State.takeFirst_refused hslot htarget howner hrefused)⟩⟩⟩
  · refine ⟨fun halign => exec_frameReceived_row hrx hf (halign ▸ State.decideFrame_align fcsOk),
      fun halign hshort => exec_frameReceived_row hrx hf (halign ▸ State.decideFrame_runt hshort fcsOk),
      fun halign hlong => exec_frameReceived_row hrx hf (halign ▸ State.decideFrame_oversize hlong fcsOk),
      fun halign hlow hhigh => ?_⟩
    subst halign
    have hrow {u : State} (hok : fcsOk = true) (hu : (s.rxEnded p).takeFrame p f bytes = u) :
        exec (.frameReceived p bytes false fcsOk) s = .next (u.pauseCheck p) := by
      rw [exec_frameReceived_row hrx hf (State.decideFrame_whole hlow hhigh fcsOk), if_neg (by simp [hok]), hu]
    refine ⟨fun hbad => ?_, fun hok hctl hq => hrow hok (State.takeFrame_ctrlOther hctl hq),
      fun q hok hctl hq => hrow hok (State.takeFrame_pause hctl hq),
      fun hok hdata hslot => hrow hok (State.takeFrame_unknownTag hdata hslot),
      fun k hok hdata hslot => ⟨fun htarget => hrow hok (State.takeFrame_noMatch hdata hslot htarget),
        fun q htarget hadm => hrow hok (State.takeFrame_refused hdata hslot htarget hadm),
        fun q htarget hadm hinv => ?_⟩⟩
    · rw [exec_frameReceived_row hrx hf (State.decideFrame_whole hlow hhigh fcsOk), if_pos (by simp [hbad])]
    · refine ⟨((s.rxEnded p).storeFrame p k q f bytes).pauseCheck p, (s.rxEnded p).rxEntry p k f bytes,
        hrow hok (State.takeFrame_stored hdata hslot htarget hadm), ?_, rfl, rfl, rfl, rfl⟩
      rw [State.queue_pauseCheck, State.queue_storeFrame (s := s.rxEnded p) hinv.stores.queues]
      rfl

end Sys2Proof.Machine
end

section
/-! SUPPORT. The statement of 12_hatches_shapers.md about transmission: which queue sends next, how a frame ends or underruns, which
entries expire, and the pop of a transmit timestamp. -/

namespace Sys2Proof.Machine

/-! ### The choice of the next frame (R420, R421) -/

theorem exec_transmitChoice (p : Fin 8) (s : State) : exec (.transmitChoice p) s = .next (s.choose p) := rfl

theorem exec_gateEdge (p : Fin 8) (s : State) : exec (.gateEdge p) s = .next (s.choose p) := rfl

/-- Going down from `k - 1`, the first number with a property is the highest one below `k`. -/
theorem find_highest {P : Nat → Bool} {n : Nat} (hP : P n = true) {k : Nat} (hn : n < k)
    (habove : ∀ m < k, n < m → P m = false) : (List.range k).reverse.find? P = some n := by
  induction k with
  | zero => exact absurd hn (Nat.not_lt_zero n)
  | succ k ih =>
    rw [List.range_succ, List.reverse_append, List.reverse_singleton, List.singleton_append]
    rcases Nat.lt_succ_iff_lt_or_eq.1 hn with hlt | rfl
    · rw [List.find?_cons_of_neg (by simp [habove k (Nat.lt_succ_self k) hlt])]
      exact ih hlt fun m hm => habove m (Nat.lt_succ_of_lt hm)
    · exact List.find?_cons_of_pos hP

section Choose
variable {s : State} {p : Nat}

theorem State.choose_idle (h : s.mayChoose p = false) : s.choose p = s :=
  if_pos (by simp [h])

/-- The queue that the choice falls on, TQ7 first. -/
def State.sendsNext (s : State) (p : Nat) : Option Nat := [7, 6, 5, 4, 3, 2, 1, 0].find? (fun n => s.tqSends p n)

theorem State.sendsNext_none (h : ∀ n < 8, s.tqSends p n = false) : s.sendsNext p = none := by
  refine List.find?_eq_none.2 fun n hn => ?_
  have hlt : n < 8 := List.mem_range.1 (List.mem_reverse.1 (show n ∈ (List.range 8).reverse from hn))
  simp [h n hlt]

theorem State.sendsNext_highest {n : Nat} (hn : n < 8) (hsends : s.tqSends p n = true)
    (habove : ∀ m < 8, n < m → s.tqSends p m = false) : s.sendsNext p = some n :=
  find_highest hsends hn habove

variable (h : s.mayChoose p = true)
include h

theorem State.choose_none (hnone : (s.clearAllHeads p).sendsNext p = none) : s.choose p = s.clearAllHeads p := by
  rw [State.sendsNext] at hnone
  rw [State.choose, if_neg (by simp [h])]
  dsimp only
  rw [hnone]

theorem State.choose_starts {n : Nat} (hsome : (s.clearAllHeads p).sendsNext p = some n) {e : Entry} {rest : List Entry}
    (hq : (s.clearAllHeads p).queue p n = e :: rest) : s.choose p = (s.clearAllHeads p).startFrame p n e := by
  rw [State.sendsNext] at hsome
  rw [State.choose, if_neg (by simp [h])]
  dsimp only
  rw [hsome]
  dsimp only
  rw [hq]

end Choose

/-! ### The end of a frame (R380, R403) and an underrun (R383, R384, R404) -/

/-- The frame has left: its entry is freed and counted, and its bytes are on the wire. -/
def State.frameLeft (s : State) (p : Nat) (f : TxFrame) : State :=
  let slot := (s.queue p f.queue).head?.map Entry.slot
  let a := (s.setPort p { s.port p with tx := none }).setQueue p f.queue ((s.queue p f.queue).drop 1)
  ((a.count48 p slot cTxFrames).count48 p slot cTxOctets f.len).emit (.frame p (f.bytes ++ fcs f.bytes) true)

/-- The frame breaks off after `sent` bytes, and its FCS says so. -/
def State.frameBroken (s : State) (p : Nat) (f : TxFrame) (sent : Nat) : State :=
  let out := f.bytes.take sent
  (((s.setPort p { s.port p with tx := none, freeAt := s.now + 96 * (s.port p).bitPs / 1000 }).dropHead p f.queue
    cTxUnderrun).emit (.frame p (out ++ (fcs out).map (fun x => ~~~x)) false)).raise (macB p) evTxUnderrun

/-- The buffer fills further before the next start, unless the older behaviour is in force (R384). -/
def State.deepenBuffer (s : State) (p start : Nat) : State :=
  if s.isSet (macB p) Title.compatPrev then s else s.wr (macB p) Reg.macTxCfgTxstart (min 2048 (start + 256))

section FrameOnWire
variable {s : State} {p : Fin 8} {f : TxFrame} (hf : (s.port p).tx = some f)
include hf

theorem exec_transmitEnd_early (h : s.now < f.endAt) : exec (.transmitEnd p) s = .next s := by
  change execTransmitEnd p s = _
  simp only [execTransmitEnd, hf, if_neg (Nat.not_le.2 h)]

theorem exec_transmitEnd_left (h : f.endAt ≤ s.now) : exec (.transmitEnd p) s =
    .next ((((s.frameLeft p f).pauseCheck p).clearAllHeads p).portStopped p) := by
  change execTransmitEnd p s = _
  simp only [execTransmitEnd, hf, if_pos h]
  rfl

theorem exec_txUnderrun_cannot {sent : Nat} (h : f.whole = true ∨ f.bytes.length ≤ sent ∨ sent < f.buffered) :
    exec (.txUnderrun p sent) s = .next s := by
  have hcannot : ¬ (!f.whole && decide (f.buffered ≤ sent ∧ sent < f.bytes.length)) = true := by
    rw [Bool.and_eq_true, Bool.not_eq_true', decide_eq_true_eq]
    rintro ⟨hpart, hlow, hhigh⟩
    rcases h with hwhole | hend | hin
    · exact Bool.false_ne_true (hpart.symm.trans hwhole)
    · exact Nat.not_lt.2 hend hhigh
    · exact Nat.not_lt.2 hlow hin
  change execTxUnderrun p sent s = _
  simp only [execTxUnderrun, hf, if_neg hcannot]

theorem exec_txUnderrun_breaks {sent : Nat} (hpart : f.whole = false) (hlow : f.buffered ≤ sent)
    (hhigh : sent < f.bytes.length) : exec (.txUnderrun p sent) s =
      .next (((((s.frameBroken p f sent).deepenBuffer p (s.rd (macB p) Reg.macTxCfgTxstart)).pauseCheck p).clearAllHeads
        p).portStopped p) := by
  have hbreaks : (!f.whole && decide (f.buffered ≤ sent ∧ sent < f.bytes.length)) = true := by simp [hpart, hlow, hhigh]
  change execTxUnderrun p sent s = _
  simp only [execTxUnderrun, hf, if_pos hbreaks]
  rfl

end FrameOnWire

/-! ### Entries whose deadlines have passed (R378) -/

theorem State.raise_tickNs (s : State) (b i p : Nat) : (s.raise b i).tickNs p = s.tickNs p := by
  rw [State.raise_eq]
  rfl

theorem State.countIn_tickNs (s : State) (b k n p : Nat) : (s.countIn b k n).tickNs p = s.tickNs p := by
  unfold State.countIn
  dsimp only
  split_ifs
  · exact State.raise_tickNs _ _ _ _
  · rfl
  · exact State.raise_tickNs _ _ _ _
  · rfl

/-- Counting takes no time. -/
theorem State.count48_tickNs (s : State) (p : Nat) (slot : Option Nat) (k n p' : Nat) :
    (s.count48 p slot k n).tickNs p' = s.tickNs p' := by
  cases slot with
  | none => exact s.countIn_tickNs _ _ _ _
  | some i => exact (State.countIn_tickNs _ _ _ _ _).trans (s.countIn_tickNs _ _ _ _)

theorem State.expired_congr {s t : State} {p : Nat} (h : t.tickNs p = s.tickNs p) (e : Entry) :
    t.expired p e = s.expired p e := by
  rw [State.expired, State.expired, h]

/-- The head of queue `q` is freed and counted where its deadline has passed. -/
def State.expireHead (s : State) (p q : Nat) : State :=
  match s.queue p q with
  | e :: _ => if s.expired p e then s.dropHead p q cTxExpired else s
  | [] => s

section Expire
variable {s : State} {p q : Nat} {e : Entry} {rest : List Entry} (hq : s.queue p q = e :: rest)
include hq

theorem State.expireHead_stays (h : s.expired p e = false) : s.expireHead p q = s := by
  simp only [State.expireHead, hq, h, Bool.false_eq_true, if_false]

theorem State.expireHead_frees (h : s.expired p e = true) :
    s.expireHead p q = (s.setQueue p q rest).count48 p (some e.slot) cTxExpired := by
  simp only [State.expireHead, State.dropHead, hq, h, if_true]

/-- The entry behind it comes to the head, and its own deadline stands as it did. -/
theorem State.expireHead_next (hwf : Sparse.wf s.queues = true) {d : Entry} {more : List Entry} (hrest : rest = d :: more)
    (h : s.expired p e = true) (hd : s.expired p d = false) : (s.expireHead p q).expireHead p q = s.expireHead p q := by
  have hhead : (s.expireHead p q).queue p q = d :: more := by
    rw [State.expireHead_frees hq h, State.queue, State.count48_queues, ← hrest]
    exact State.queue_setQueue_same hwf p q rest
  refine State.expireHead_stays hhead ((State.expired_congr ?_ d).trans hd)
  rw [State.expireHead_frees hq h]
  exact State.count48_tickNs _ _ _ _ _ _

end Expire

theorem exec_txEntryExpire_sending {p q : Fin 8} {s : State} (h : s.sending p q = true) :
    exec (.txEntryExpire p q) s = .next s :=
  congrArg _ (if_pos h)

theorem exec_txEntryExpire_waiting {p q : Fin 8} {s : State} (h : s.sending p q = false) : exec (.txEntryExpire p q) s =
    .next ((forUpTo (s.queue p q).length (fun _ t => t.expireHead p q) s).pauseCheck p) :=
  congrArg _ (if_neg (by simp [h]))

/-- A step that comes to rest after once leaves the same however often it is made. -/
theorem forUpTo_rests {σ : Type} {f : σ → σ} {s : σ} (h : f (f s) = f s) (n : Nat) :
    forUpTo (n + 1) (fun _ t => f t) s = f s := by
  induction n with
  | zero => rfl
  | succ n ih => exact (congrArg f ih).trans h

/-- Where the head, once its own deadline is looked at, is not freed again, the command looks at that one alone. -/
theorem exec_txEntryExpire_once {p q : Fin 8} {s : State} {e : Entry} {rest : List Entry} (hwaits : s.sending p q = false)
    (hq : s.queue p q = e :: rest) (hrests : rest ≠ [] → (s.expireHead p q).expireHead p q = s.expireHead p q) :
    exec (.txEntryExpire p q) s = .next ((s.expireHead p q).pauseCheck p) := by
  rw [exec_txEntryExpire_waiting hwaits, hq, List.length_cons]
  cases rest with
  | nil => rfl
  | cons d more => rw [List.length_cons, forUpTo_rests (f := fun t => State.expireHead t p q) (hrests (List.cons_ne_nil d more))]

/-! ### The transmit timestamps (R409) -/

theorem exec_txtsPopRead_through {fn : Fin 65} {p : Fin 8} {s : State} (h : s.readsThrough fn (macB p + 0x7C) = true) :
    exec (.txtsPopRead fn p) s =
      .next (State.answer (s.setPort p { s.port p with txts := (s.port p).txts.drop 1 }) fn ((s.txtsWords p).getD 3 0)) :=
  congrArg _ (State.mmioRead_through h _)

/-! ### The statement -/

/-- Settles O45: the choice by the queues that may send, and the end, the underrun and the expiry by what the port and the
queue hold. -/
theorem framesAreChosenSentAndEnded : Obligations.FramesAreChosenSentAndEnded := by
  refine ⟨fun p s => ?_,
    fun p f s hf => ⟨exec_transmitEnd_early hf, fun hend => ⟨_, rfl, exec_transmitEnd_left hf hend⟩, fun sent =>
      ⟨exec_txUnderrun_cannot hf, fun hpart hlow hhigh =>
        ⟨_, _, rfl, rfl, exec_txUnderrun_breaks hf hpart hlow hhigh⟩⟩⟩,
    fun p q s => ⟨exec_txEntryExpire_sending, fun e rest hwaits hq hlive => ?_, fun e hwaits hq hlate => ?_,
      fun e d rest hwaits hq hlate hlive hinv => ?_⟩,
    fun fn p s => exec_txtsPopRead_through⟩
  · rw [exec_transmitChoice, exec_gateEdge]
    refine ⟨fun hmay => ?_, fun hmay => ⟨_, rfl, fun hnone => ?_, fun n hn e rest hsends habove hq => ?_⟩⟩
    · rw [State.choose_idle hmay]
      exact ⟨rfl, rfl⟩
    · rw [State.choose_none hmay (State.sendsNext_none hnone)]
      exact ⟨rfl, rfl⟩
    · rw [State.choose_starts hmay (State.sendsNext_highest hn hsends habove) hq]
      exact ⟨rfl, rfl⟩
  · have hstays := State.expireHead_stays hq hlive
    rw [exec_txEntryExpire_once hwaits hq fun _ => congrArg (State.expireHead · p q) hstays, hstays]
  · rw [exec_txEntryExpire_once hwaits hq fun h => absurd rfl h, State.expireHead_frees hq hlate]
  · rw [exec_txEntryExpire_once hwaits hq fun _ => State.expireHead_next hq hinv.stores.queues rfl hlate hlive,
      State.expireHead_frees hq hlate]

end Sys2Proof.Machine
end

section
/-! SUPPORT. The statement of 12_hatches_shapers.md about the hatch scheduler and the shapers: its intent, the rows of a boundary
command, swaps and their cancelling, and the loops of the refill and of the reset. -/

namespace Sys2Proof.Machine

/-! ### The intent (R418) -/

theorem exec_hatchHostStateWrite_through {s : State} {fn : Fin 65} {p : Fin 8}
    (hw : s.lockedWrite fn (hsB p) (hsB p + 0x20) = true) (data : Word) :
    exec (.hatchHostStateWrite fn p data) s = .next (s.hsIntent fn p data.toNat) := by
  change execHatchHostStateWrite fn p data s = _
  rw [execHatchHostStateWrite, State.mmioWrite_through (State.lockedWrite_through hw)]

section HsIntent
variable {s : State} {fn p data : Nat} (hmay : s.mayWriteL (hsB p) (masterOfFn fn) = true)
include hmay

theorem State.hsIntent_other (hoff : intentOp data ≠ opOff) (hrun : intentOp data ≠ opRunning) :
    s.hsIntent fn p data = s.storeIntent (hsB p) (intentOp data) 0 := by
  simp only [State.hsIntent, hmay, Bool.not_true, Bool.false_eq_true, if_false, if_neg hoff, if_neg hrun]

theorem State.hsIntent_running (hop : intentOp data = opRunning) : s.hsIntent fn p data =
    if s.hsOp p = opOff ∧ s.plateAsleep p = false then (s.storeIntent (hsB p) (intentOp data) 0).placeGrid p
    else s.storeIntent (hsB p) (intentOp data) 0 := by
  simp only [State.hsIntent, hmay, hop, Bool.not_true, Bool.false_eq_true, if_false, if_true, Bool.not_eq_true']

variable (hop : intentOp data = opOff)
include hop

theorem State.hsIntent_off : s.hsIntent fn p data =
    if s.hsOp p = opStarting ∨ (s.hsOp p = opRunning ∧ (s.hatch p).gap = true) then
      ((s.storeIntent (hsB p) (intentOp data) 0).hatchRest p).setOp (hsB p) opOff
    else if s.hsOp p = opRunning then (s.storeIntent (hsB p) (intentOp data) 0).setOp (hsB p) opStopping
    else s.storeIntent (hsB p) (intentOp data) 0 := by
  simp only [State.hsIntent, hmay, hop, show opOff ≠ opRunning by decide, Bool.not_true, Bool.false_eq_true, if_false, if_true]
  by_cases hstarts : s.hsOp p = opStarting
  · rw [if_pos hstarts, if_pos (.inl hstarts)]
  · by_cases hruns : s.hsOp p = opRunning
    · simp only [hruns, if_true, true_and, show opRunning ≠ opStarting by decide, if_false, false_or]
    · rw [if_neg hstarts, if_neg hruns, if_neg (by simp [hstarts, hruns]), if_neg hruns]

end HsIntent

/-! ### The rows of a boundary command (R415, R418, R431, R435) -/

theorem exec_hatchCycleBoundary_row {p : Fin 8} {s t : State} (h : s.boundary p = t) :
    exec (.hatchCycleBoundary p) s = .next (t.clearAllHeads p) :=
  congrArg (fun u : State => Host.Outcome.next (u.clearAllHeads p)) h

theorem State.boundary_none {s : State} {p : Nat} (h : (s.hatch p).cycleFrom = none) : s.boundary p = s := by
  simp only [State.boundary, h]

/-- The pending swap takes place at the end of the running cycle (R431), and with it a realignment that waits. -/
def State.swapNow (s : State) (p : Nat) : State :=
  let r := if (s.hatch p).realign then s.noteRealign p else s
  let a := (r.setHatch p { r.hatch p with pending := none }).wr (hsB p) Reg.hsStatusActiveBank ((s.hatch p).pending.getD 0)
  ((a.wr (hsB p) Reg.hsStatusPending 0).noteBase p).followGrid p ((s.hatch p).pending.getD 0) (s.cycleEnd p) true

/-- The running cycle has ended: what comes after it. -/
def State.cycleEnded (s : State) (p : Nat) : State :=
  if s.hsOp p = opStopping then
    if s.rd (hsB p) Title.hostOp = opRunning then s.placeGrid p else (s.hatchRest p).setOp (hsB p) opOff
  else if s.swapActs p then s.swapNow p
  else if (s.hatch p).realign then (s.noteRealign p).followGrid p (s.activeBank p) (s.cycleEnd p) false
  else s.beginCycle p (s.cycleEnd p)

section Boundary
variable {s : State} {p c : Nat} (hc : (s.hatch p).cycleFrom = some c)
include hc

theorem State.boundary_starting (hop : s.hsOp p = opStarting) : s.boundary p =
    if c ≤ s.tkNs p then ((s.setOp (hsB p) opRunning).noteSpans p).beginCycle p c else s := by
  simp only [State.boundary, hc, hop, if_true]

theorem State.boundary_idle (hstart : s.hsOp p ≠ opStarting) (hrun : s.hsOp p ≠ opRunning) (hstop : s.hsOp p ≠ opStopping) :
    s.boundary p = s := by
  simp only [State.boundary, hc]
  rw [if_neg hstart, if_pos ⟨hrun, hstop⟩]

theorem State.boundary_gap (hop : s.hsOp p = opRunning) (hgap : (s.hatch p).gap = true) : s.boundary p =
    if s.tkNs p < c then s else if (s.hatch p).gapSwap then s.swapBegins p c else s.beginCycle p c := by
  simp only [State.boundary, hc, hop, hgap, show opRunning ≠ opStarting by decide, ne_eq, not_true_eq_false, false_and,
    if_false, if_true]

theorem State.boundary_cycle (hop : s.hsOp p = opRunning ∨ s.hsOp p = opStopping) (hgap : (s.hatch p).gap = false) :
    s.boundary p = if s.tkNs p < s.cycleEnd p then s else s.cycleEnded p := by
  have hstart : s.hsOp p ≠ opStarting := by
    rcases hop with hop | hop <;> rw [hop] <;> decide
  have hbusy : ¬ (s.hsOp p ≠ opRunning ∧ s.hsOp p ≠ opStopping) := fun ⟨hrun, hstop⟩ => hop.elim hrun hstop
  simp only [State.boundary, hc, hgap, if_neg hstart, if_neg hbusy, Bool.false_eq_true, if_false]
  rfl

end Boundary

theorem State.cycleEnded_stopping {s : State} {p : Nat} (hop : s.hsOp p = opStopping) : s.cycleEnded p =
    if s.rd (hsB p) Title.hostOp = opRunning then s.placeGrid p else (s.hatchRest p).setOp (hsB p) opOff :=
  if_pos hop

theorem State.cycleEnded_running {s : State} {p : Nat} (hop : s.hsOp p = opRunning) : s.cycleEnded p =
    if s.swapActs p then s.swapNow p
    else if (s.hatch p).realign then (s.noteRealign p).followGrid p (s.activeBank p) (s.cycleEnd p) false
    else s.beginCycle p (s.cycleEnd p) :=
  if_neg (by rw [hop]; decide)

/-! ### Swaps (R431, R432) -/

section Swap
variable {s : State} {fn : Fin 65} {p : Fin 8} (hw : s.lockedWrite fn (hsB p) (hsB p + 0x70) = true)
include hw

theorem exec_hatchSwapGo_through (bank : Fin 2) : exec (.hatchSwapGo fn p bank) s = .next (s.swapGo p bank) := by
  have hbits : ∀ b : Fin 2, bitAt (2 + b) 1 = true ∧ bitAt (2 + b) 2 = false ∧ (2 + b.val) % 2 = b := by decide
  obtain ⟨hgo, hcancel, hbank⟩ := hbits bank
  refine congrArg _ ((State.mmioWrite_through (State.lockedWrite_through hw) _).trans ?_)
  simp only [State.swapEffect, State.lockedWrite_may hw, hgo, hcancel, hbank, Bool.not_true, Bool.false_eq_true, if_false,
    if_true]

theorem exec_hatchSwapCancel_through : exec (.hatchSwapCancel fn p) s = .next (s.swapCancel p) := by
  refine congrArg _ ((State.mmioWrite_through (State.lockedWrite_through hw) _).trans ?_)
  simp only [State.swapEffect, State.lockedWrite_may hw, show bitAt 4 1 = false by decide, show bitAt 4 2 = true by decide,
    Bool.not_true, Bool.false_eq_true, if_false, if_true]

end Swap

section SwapGo
variable {s : State} {p bank : Nat}

theorem State.swapGo_refused (h : bank = s.activeBank p ∨ (s.hatch p).pending.isSome = true) : s.swapGo p bank = s :=
  if_pos h

theorem State.swapGo_admitted (hbank : bank ≠ s.activeBank p) (hnone : (s.hatch p).pending = none) : s.swapGo p bank =
    if s.hsOp p = opOff then ((s.wr (hsB p) Reg.hsStatusActiveBank bank).noteBase p).noteSpans p
    else (s.setHatch p { s.hatch p with pending := some bank, pendingFrom := s.now + 2000 }).wr (hsB p) Reg.hsStatusPending 1 :=
  if_neg (by simp [hbank, hnone])

theorem State.swapCancel_none (h : (s.hatch p).pending = none) : s.swapCancel p = s :=
  if_pos (by simp [h])

theorem State.swapCancel_late {e : Nat} (hend : s.swapEnd p = some e) (h : e < s.tkNs p + 2000) : s.swapCancel p = s := by
  simp only [State.swapCancel, hend, h, decide_true, Bool.or_true, if_true]

theorem State.swapCancel_withdraws (hsome : (s.hatch p).pending.isSome = true)
    (h : ∀ e, s.swapEnd p = some e → s.tkNs p + 2000 ≤ e) :
    s.swapCancel p = (s.setHatch p { s.hatch p with pending := none }).wr (hsB p) Reg.hsStatusPending 0 := by
  have hnone : (s.hatch p).pending.isNone = false := by
    rw [← Option.not_isSome, hsome, Bool.not_true]
  cases hend : s.swapEnd p with
  | none => simp only [State.swapCancel, hnone, hend, Bool.or_false, Bool.false_eq_true, if_false]
  | some e =>
    have hearly : ¬ e < s.tkNs p + 2000 := Nat.not_lt.2 (h e hend)
    simp only [State.swapCancel, hnone, hend, hearly, decide_false, Bool.or_false, Bool.false_eq_true, if_false]

end SwapGo

/-! ### The shapers (R425-R429) -/

/-- In a loop whose steps each change what belongs to their own number, each number's is changed once. -/
theorem forUpTo_each {σ β : Type} {I : σ → Prop} {g : σ → Nat → β} {F : Nat → β → β} {f : Nat → σ → σ}
    (hI : ∀ i t, I t → I (f i t)) (hown : ∀ i t, I t → g (f i t) i = F i (g t i))
    (hother : ∀ i j t, I t → j ≠ i → g (f i t) j = g t j) {s : σ} (hs : I s) {n j : Nat} (hj : j < n) :
    g (forUpTo n f s) j = F j (g s j) := by
  have hbefore : ∀ m ≤ j, g (forUpTo m f s) j = g s j := by
    intro m hm
    induction m with
    | zero => rfl
    | succ m ih => exact (hother m j _ (forUpTo_stays hI hs m) (by omega)).trans (ih (by omega))
  induction n with
  | zero => exact absurd hj (Nat.not_lt_zero j)
  | succ n ih =>
    have hi : I (forUpTo n f s) := forUpTo_stays hI hs n
    rcases Nat.lt_succ_iff_lt_or_eq.1 hj with hlt | rfl
    · exact (hother n j _ hi (by omega)).trans (ih hlt)
    · exact (hown j _ hi).trans (congrArg (F j) (hbefore j (Nat.le_refl j)))

theorem State.shLevel_setShLevel_same {s : State} (h : Sparse.wf s.shapers = true) (p n : Nat) (v : Int) :
    (s.setShLevel p n v).shLevel p n = v :=
  (Sparse.get_put h).trans (if_pos rfl)

theorem State.shLevel_setShLevel_ne {s : State} {j n : Nat} (hj : j ≠ n) (p : Nat) (v : Int) :
    (s.setShLevel p n v).shLevel p j = s.shLevel p j := by
  have hk : 8 * p + j ≠ 8 * p + n := by omega
  simp only [State.shLevel, State.setShLevel, Sparse.get, Sparse.find_put_ne hk]

/-- The registers are those of `s`, and the shapers' levels and rates are in their form. -/
structure State.ShapersOf (s t : State) : Prop where
  regs : t.regs = s.regs
  levels : Sparse.wf t.shapers = true
  rates : Sparse.wf t.shRates = true

theorem State.ShapersOf.self {s : State} (h : s.Inv) : s.ShapersOf s := ⟨rfl, h.stores.shapers, h.stores.shRates⟩

section ShapersOf
variable {s t : State} (h : s.ShapersOf t)
include h

theorem State.ShapersOf.rd (b : Nat) (r : Row) (i : Nat) : t.rd b r i = s.rd b r i := by
  rw [State.rd, State.rd, h.regs]

theorem State.ShapersOf.shEnabled (p n : Nat) : t.shEnabled p n = s.shEnabled p n := by
  rw [State.shEnabled, State.shEnabled, State.isSet, State.isSet, h.rd]

theorem State.ShapersOf.setShLevel (p n : Nat) (v : Int) : s.ShapersOf (t.setShLevel p n v) :=
  ⟨h.regs, Sparse.wf_put h.levels, h.rates⟩

end ShapersOf

/-- The rate written takes effect (R426). -/
def State.takeRate (s : State) (p n : Nat) : State :=
  { s with shRates := Sparse.put 0 s.shRates (8 * p + n) (s.rd (shB p) Reg.shCfgRate n) }

/-- What a level of shaper `n` becomes at a refill tick (R425, R427). -/
def State.filled (s : State) (p n : Nat) (v : Int) : Int :=
  if s.shEnabled p n && s.rd (shB p) Reg.shCfgRate n != 0 then
    min ((256 * s.rd (shB p) Reg.shBurstBurst n : Nat) : Int) (v + s.rd (shB p) Reg.shCfgRate n)
  else v

section Refill
variable {s t : State} (h : s.ShapersOf t)
include h

theorem State.ShapersOf.takeRate (p n : Nat) : s.ShapersOf (t.takeRate p n) :=
  ⟨h.regs, h.levels, Sparse.wf_put h.rates⟩

theorem State.shRate_takeRate_same (p n : Nat) : (t.takeRate p n).shRate p n = s.rd (shB p) Reg.shCfgRate n :=
  ((Sparse.get_put h.rates).trans (if_pos rfl)).trans (h.rd _ _ _)

theorem State.ShapersOf.refill_eq (p n : Nat) : t.refill p n =
    if s.shEnabled p n && s.rd (shB p) Reg.shCfgRate n != 0 then
      (t.takeRate p n).setShLevel p n (s.filled p n (t.shLevel p n))
    else t.takeRate p n := by
  have htaken : t.refill p n =
      if (t.takeRate p n).shEnabled p n && (t.takeRate p n).shRate p n != 0 then
        (t.takeRate p n).setShLevel p n (min (256 * (t.takeRate p n).rd (shB p) Reg.shBurstBurst n : Nat)
          ((t.takeRate p n).shLevel p n + (t.takeRate p n).shRate p n))
      else t.takeRate p n := rfl
  rw [htaken, (h.takeRate p n).shEnabled, State.shRate_takeRate_same h, (h.takeRate p n).rd]
  split
  · next hfills =>
    rw [State.filled, if_pos hfills]
    rfl
  · rfl

theorem State.ShapersOf.refill (p n : Nat) : s.ShapersOf (t.refill p n) := by
  rw [h.refill_eq]
  split
  · exact (h.takeRate p n).setShLevel _ _ _
  · exact h.takeRate p n

theorem State.shRate_refill_same (p n : Nat) : (t.refill p n).shRate p n = s.rd (shB p) Reg.shCfgRate n := by
  rw [h.refill_eq]
  split <;> exact State.shRate_takeRate_same h p n

theorem State.shRate_refill_ne {j n : Nat} (hj : j ≠ n) (p : Nat) : (t.refill p n).shRate p j = t.shRate p j := by
  have hk : 8 * p + j ≠ 8 * p + n := by omega
  have hrate : (t.takeRate p n).shRate p j = t.shRate p j := by
    simp only [State.shRate, State.takeRate, Sparse.get, Sparse.find_put_ne hk]
  rw [h.refill_eq]
  split <;> exact hrate

theorem State.shLevel_refill_same (p n : Nat) : (t.refill p n).shLevel p n = s.filled p n (t.shLevel p n) := by
  rw [h.refill_eq]
  split
  · exact State.shLevel_setShLevel_same (s := t.takeRate p n) h.levels p n _
  · next hfills => exact (if_neg hfills).symm

theorem State.shLevel_refill_ne {j n : Nat} (hj : j ≠ n) (p : Nat) : (t.refill p n).shLevel p j = t.shLevel p j := by
  rw [h.refill_eq]
  split
  · exact State.shLevel_setShLevel_ne (s := t.takeRate p n) hj p _
  · rfl

end Refill

section RefillTick
variable {p : Fin 8} {s : State}

theorem exec_refillTick_idle (h : s.plateOut p = false ∨ s.plateQuiet p = true) : exec (.refillTick p) s = .next s :=
  congrArg _ (if_neg (by rcases h with h | h <;> simp [h]))

theorem exec_refillTick_fills (hout : s.plateOut p = true) (hquiet : s.plateQuiet p = false) :
    exec (.refillTick p) s = .next ((forUpTo 8 (fun n t => t.refill p n) s).choose p) := by
  change execRefillTick p s = _
  rw [execRefillTick, if_pos (by simp [hout, hquiet])]

end RefillTick

/-- A tick's loop has set each rate and filled each level, from the registers as they stood. -/
theorem State.refills_each {s : State} (h : s.Inv) (p : Nat) {n : Nat} (hn : n < 8) :
    (forUpTo 8 (fun n t => t.refill p n) s).shRate p n = s.rd (shB p) Reg.shCfgRate n ∧
      (forUpTo 8 (fun n t => t.refill p n) s).shLevel p n = s.filled p n (s.shLevel p n) :=
  ⟨forUpTo_each (I := s.ShapersOf) (g := fun t j => t.shRate p j) (F := fun j _ => s.rd (shB p) Reg.shCfgRate j)
      (fun i _ ht => ht.refill p i) (fun i _ ht => State.shRate_refill_same ht p i)
      (fun _ _ _ ht hj => State.shRate_refill_ne ht hj p) (.self h) hn,
    forUpTo_each (I := s.ShapersOf) (g := fun t j => t.shLevel p j) (F := s.filled p)
      (fun i _ ht => ht.refill p i) (fun i _ ht => State.shLevel_refill_same ht p i)
      (fun _ _ _ ht hj => State.shLevel_refill_ne ht hj p) (.self h) hn⟩

theorem State.refills_regs {s : State} (h : s.Inv) (p : Nat) : (forUpTo 8 (fun n t => t.refill p n) s).regs = s.regs :=
  (forUpTo_stays (P := s.ShapersOf) (fun i _ ht => ht.refill p i) (.self h) 8).regs

/-- The level of shaper `n` is 0 where the word written names it (R428). -/
def State.resetOne (s : State) (p data n : Nat) : State := if bitAt data n then s.setShLevel p n 0 else s

theorem exec_shaperReset_through {fn : Fin 65} {p : Fin 8} {s : State}
    (hw : s.lockedWrite fn (shB p) (shB p + 0xA0) = true) (data : Word) :
    exec (.shaperReset fn p data) s = .next (forUpTo 8 (fun n t => t.resetOne p data.toNat n) s) := by
  refine congrArg _ ((State.mmioWrite_through (State.lockedWrite_through hw) _).trans ?_)
  exact if_neg (by simp [State.lockedWrite_may hw])

section Reset
variable {s t : State} (h : s.ShapersOf t) (p data : Nat)
include h

theorem State.ShapersOf.resetOne (n : Nat) : s.ShapersOf (t.resetOne p data n) := by
  rw [State.resetOne]
  split
  · exact h.setShLevel _ _ _
  · exact h

theorem State.shLevel_resetOne_same (n : Nat) :
    (t.resetOne p data n).shLevel p n = if bitAt data n then 0 else t.shLevel p n := by
  rw [State.resetOne]
  split
  · exact State.shLevel_setShLevel_same h.levels p n 0
  · rfl

omit h

theorem State.shLevel_resetOne_ne {j n : Nat} (hj : j ≠ n) : (t.resetOne p data n).shLevel p j = t.shLevel p j := by
  rw [State.resetOne]
  split
  · exact State.shLevel_setShLevel_ne hj p 0
  · rfl

end Reset

theorem State.resets_each {s : State} (h : s.Inv) (p data : Nat) {n : Nat} (hn : n < 8) :
    (forUpTo 8 (fun n t => t.resetOne p data n) s).shLevel p n = if bitAt data n then 0 else s.shLevel p n :=
  forUpTo_each (I := s.ShapersOf) (g := fun t j => t.shLevel p j) (F := fun j v => if bitAt data j then 0 else v)
    (fun i _ ht => ht.resetOne p data i) (fun i _ ht => State.shLevel_resetOne_same ht p data i)
    (fun _ _ _ _ hj => State.shLevel_resetOne_ne p data hj) (.self h) hn

theorem State.resets_regs {s : State} (h : s.Inv) (p data : Nat) :
    (forUpTo 8 (fun n t => t.resetOne p data n) s).regs = s.regs :=
  (forUpTo_stays (P := s.ShapersOf) (fun i _ ht => ht.resetOne p data i) (.self h) 8).regs

/-! ### The statement -/

/-- Settles O46: the rows of the intent, of a boundary command and of a swap, and the loops of the refill and of the reset. -/
theorem hatchTablesSwapAndShapersRefill : Obligations.HatchTablesSwapAndShapersRefill := by
  refine ⟨fun fn p data s hw => ⟨_, rfl, ?_⟩, fun p s hc => exec_hatchCycleBoundary_row (State.boundary_none hc),
    fun p c s hc => ?_, fun fn p bank s hw => ?_,
    fun p s => ⟨exec_refillTick_idle, fun hinv hout hquiet => ⟨_, exec_refillTick_fills hout hquiet,
      State.refills_regs hinv p, fun n hn => State.refills_each hinv p hn⟩⟩,
    fun fn p data s hinv hw => ⟨_, exec_shaperReset_through hw data, State.resets_regs hinv p _,
      fun n hn => State.resets_each hinv p _ hn⟩⟩
  · have hmay := State.lockedWrite_may hw
    rw [exec_hatchHostStateWrite_through hw]
    refine ⟨fun hrun hoff hawake => ?_, fun hrun hstays => ?_, fun hoff hends => ?_, fun hoff hrun hgap => ?_,
      fun hoff hstart hrun => ?_, fun hoff hrun => congrArg _ (State.hsIntent_other hmay hoff hrun)⟩
    · rw [State.hsIntent_running hmay hrun, if_pos ⟨hoff, hawake⟩]
    · rw [State.hsIntent_running hmay hrun, if_neg (by rcases hstays with h | h <;> simp [h])]
    · rw [State.hsIntent_off hmay hoff, if_pos hends]
    · rw [State.hsIntent_off hmay hoff, if_neg (by simp [hrun, hgap, opRunning, opStarting]), if_pos hrun]
    · rw [State.hsIntent_off hmay hoff, if_neg (by simp [hstart, hrun]), if_neg hrun]
  · have hrow {t : State} (h : s.boundary p = t) : exec (.hatchCycleBoundary p) s = .next (t.clearAllHeads p) :=
      exec_hatchCycleBoundary_row h
    have hended {t : State} (hop : s.hsOp p = opRunning ∨ s.hsOp p = opStopping) (hgap : (s.hatch p).gap = false)
        (hend : s.cycleEnd p ≤ s.tkNs p) (h : s.cycleEnded p = t) :
        exec (.hatchCycleBoundary p) s = .next (t.clearAllHeads p) :=
      hrow ((State.boundary_cycle hc hop hgap).trans ((if_neg (Nat.not_lt.2 hend)).trans h))
    refine ⟨fun hop hcame => hrow ((State.boundary_starting hc hop).trans (if_pos hcame)),
      fun hop hwaits => hrow ((State.boundary_starting hc hop).trans (if_neg (Nat.not_le.2 hwaits))),
      fun hstart hrun hstop => hrow (State.boundary_idle hc hstart hrun hstop),
      fun hop hgap => ?_,
      fun hop hgap hgoes => hrow ((State.boundary_cycle hc hop hgap).trans (if_pos hgoes)),
      fun hop hgap hend => ?_, fun hop hgap hend => ?_⟩
    · have hgaps := State.boundary_gap hc hop hgap
      refine ⟨fun hwaits => hrow (hgaps.trans (if_pos hwaits)), fun hcame hswap => hrow ?_, fun hcame hplain => hrow ?_⟩
      · rw [hgaps, if_neg (Nat.not_lt.2 hcame), if_pos hswap]
      · rw [hgaps, if_neg (Nat.not_lt.2 hcame), if_neg (by simp [hplain])]
    · have hstops := State.cycleEnded_stopping hop
      exact ⟨fun hagain => hended (.inr hop) hgap hend (hstops.trans (if_pos hagain)),
        fun hrests => hended (.inr hop) hgap hend (hstops.trans (if_neg hrests))⟩
    · have hruns := State.cycleEnded_running hop
      refine ⟨fun hswap hsteady => hended (.inl hop) hgap hend ?_, fun hswap hstepped => hended (.inl hop) hgap hend ?_,
        fun hswap => ⟨_, _, rfl, rfl, hended (.inl hop) hgap hend (hruns.trans (if_pos hswap))⟩⟩
      · rw [hruns, if_neg (by simp [hswap]), if_neg (by simp [hsteady])]
      · rw [hruns, if_neg (by simp [hswap]), if_pos hstepped]
  · rw [exec_hatchSwapGo_through hw, exec_hatchSwapCancel_through hw]
    refine ⟨fun h => congrArg _ (State.swapGo_refused h), fun hbank hnone => ?_,
      fun hnone => congrArg _ (State.swapCancel_none hnone),
      fun hsome => ⟨fun hearly => congrArg _ (State.swapCancel_withdraws hsome hearly),
        fun e hend hlate => congrArg _ (State.swapCancel_late hend hlate)⟩⟩
    rw [State.swapGo_admitted hbank hnone]
    exact ⟨fun hoff => congrArg _ (if_pos hoff), fun hon => congrArg _ (if_neg hon)⟩

end Sys2Proof.Machine
end

section
-- One proof at a time: elaborated side by side, they need more memory than the check allows.
set_option Elab.async false

/-! SUPPORT. The statements about every step: what it runs, and what every command keeps. -/

namespace Sys2Proof.Machine

/-! ### One step -/

theorem step_empty {s : State} (h : s.pending = []) : step s = .next { s with now := s.now + Config.idleNs } := by
  rw [step, h]

theorem step_front {s : State} {c : Instr} {rest : List Instr} (h : s.pending = c :: rest) :
    step s = exec c { s with pending := rest } := by
  rw [step, h]

/-- The invariant does not speak of the queue. -/
theorem State.Inv.setPending {s : State} (h : s.Inv) (q : List Instr) : State.Inv { s with pending := q } :=
  ⟨h.regs, h.hatchMem, { h.stores with }, h.frozen, h.frzSeq, h.sensed, h.lcNext, h.lcLegal, h.job⟩

/-- The invariant does not speak of the clock. -/
theorem State.Inv.setNow {s : State} (h : s.Inv) (n : Nat) : State.Inv { s with now := n } :=
  ⟨h.regs, h.hatchMem, { h.stores with }, h.frozen, h.frzSeq, h.sensed, h.lcNext, h.lcLegal, h.job⟩

/-- Every step that answers a next state keeps the invariant and unblows no fuse. -/
theorem step_keeps {s t : State} (hinv : s.Inv) (hstep : step s = .next t) :
    t.Inv ∧ s.fusesBlown.Within t.fusesBlown := by
  cases hq : s.pending with
  | nil =>
    obtain rfl := Host.Outcome.next.inj ((step_empty hq).symm.trans hstep)
    exact ⟨hinv.setNow _, Fuses.Within.refl _⟩
  | cons c rest =>
    obtain ⟨u, hu, hkeeps⟩ := exec_keeps { s with pending := rest } c
    obtain rfl := Host.Outcome.next.inj (hu.symm.trans ((step_front hq).symm.trans hstep))
    exact ⟨hkeeps.inv (hinv.setPending rest), hkeeps.blown (hinv.setPending rest)⟩

/-- Settles O1: the two cases of the queue. -/
theorem stepTakesTheFrontCommand : Obligations.StepTakesTheFrontCommand :=
  ⟨fun _ _ _ hq => step_front hq, fun _ hq => step_empty hq⟩

/-- Settles O3: on an empty queue only the clock goes on, and every command keeps the invariant. -/
theorem everyStepKeepsTheInvariant : Obligations.EveryStepKeepsTheInvariant :=
  fun _ _ hinv hstep => (step_keeps hinv hstep).1

/-- Settles O4: every command blows fuses and unblows none. -/
theorem noStepUnblowsAFuse : Obligations.NoStepUnblowsAFuse :=
  fun _ _ hinv hstep => (step_keeps hinv hstep).2

/-- Settles O5, from what every command keeps. -/
theorem everyCommandLeavesQueueAndClockAlone : Obligations.EveryCommandLeavesQueueAndClockAlone := by
  intro c s
  obtain ⟨t, hexec, hkeeps⟩ := exec_keeps s c
  exact ⟨t, hexec, hkeeps.pending, hkeeps.now, hkeeps.out, hkeeps.draws⟩

end Sys2Proof.Machine
end

section
-- One proof at a time: elaborated side by side, they need more memory than the check allows.
set_option Elab.async false

/-! SUPPORT. The statements of 17_masters_freeze.md: a write of FZ_UNFREEZE, the captured records and the end of the PF's
freeze, and the gravers' debugger. -/

namespace Sys2Proof.Machine

/-! ### What changes the list of frozen masters, and what leaves it (R577, R587) -/

theorem State.setProt_frozen (s : State) (p v : Nat) : (s.setProt p v).frozen = s.frozen := by
  unfold State.setProt
  split
  · rfl
  · rw [State.raise_frozen, State.wr_frozen]

theorem State.dropProt_frozen (s : State) (p : Nat) : (s.dropProt p).frozen = s.frozen :=
  State.setProt_frozen _ _ _

theorem State.sendEpk_frozen (s : State) (lanes : List Nat) (plate : Option Nat) (dest : Fin 9) (b : EpkBody) :
    (s.sendEpk lanes plate dest b).frozen = s.frozen := by
  unfold State.sendEpk
  split
  · rfl
  · refine forEach_leaves (g := State.frozen) (fun l t => ?_) lanes _
    rfl

theorem State.sendRole_frozen (s : State) (subtype : Nat) (plate : Option Nat) :
    (s.sendRole subtype plate).frozen = s.frozen := by
  unfold State.sendRole
  split
  · exact State.sendEpk_frozen _ _ _ _ _
  · rfl

/-- R733: the loss of every protection freezes and unfreezes nobody. -/
theorem State.dropAllProt_frozen (s : State) : s.dropAllProt.frozen = s.frozen := by
  refine (State.sendRole_frozen _ _ _).trans (forUpTo_leaves (g := State.frozen) (fun p t => ?_) 8 s)
  split
  · exact t.dropProt_frozen p
  · rfl

theorem State.amendRecord_frozen (s : State) (m : Nat) (f : FrzRec → FrzRec) : (s.amendRecord m f).frozen = s.frozen := by
  unfold State.amendRecord
  split <;> rfl

theorem State.unfreeze_frozen (s : State) (m : Nat) : (s.unfreeze m).frozen = s.frozen.filter (· != m) := by
  have hlisted : ((State.amendRecord { s with frozen := s.frozen.filter (· != m) } m
      (fun r => { r with frozen := false })).raise fzB 1).frozen = s.frozen.filter (· != m) := by
    rw [State.raise_frozen, State.amendRecord_frozen]
  unfold State.unfreeze
  dsimp only
  split_ifs
  · rw [State.sendMsix_eq]
    exact (State.raise_frozen _ _ _).trans hlisted
  · exact hlisted
  · exact hlisted

/-- An unfreeze takes its master off the list, and no other. -/
theorem isFrozen_of_unfrozen {s t : State} {m : Nat} (h : t.frozen = s.frozen.filter (· != m)) :
    t.isFrozen m = false ∧ ∀ n, n ≠ m → t.isFrozen n = s.isFrozen n := by
  refine ⟨?_, fun n hn => ?_⟩
  · rw [State.isFrozen, h, ← Bool.not_eq_true, List.contains_iff_mem]
    simp
  · rw [State.isFrozen, State.isFrozen, h, Bool.eq_iff_iff, List.contains_iff_mem, List.contains_iff_mem, List.mem_filter]
    simp [hn]

/-! ### Writes of FZ_UNFREEZE (R586) -/

theorem exec_unfreezeWrite_through {fn : Fin 65} {s : State} (hw : s.writesThrough fn (fzB + 0x60) = true) (data : Word) :
    exec (.unfreezeWrite fn data) s = .next (s.unfreezeEffect fn data.toNat) :=
  congrArg _ (State.mmioWrite_through hw _)

/-- What a write must be for the freeze of the master it names to end. -/
def State.endsFreeze (s : State) (fn data : Nat) : Prop :=
  s.mayWriteL fzB (masterOfFn fn) = true ∧ s.isFrozen (data % 256) = true ∧ data % 256 ≠ 1 ∧
    (Sparse.find? s.frzCur (data % 256)).map FrzRec.seq = some (bitsOf data 16 16)

theorem State.unfreezeEffect_ends {s : State} {fn data : Nat} (h : s.endsFreeze fn data) :
    (s.unfreezeEffect fn data).frozen = s.frozen.filter (· != data % 256) := by
  obtain ⟨hmay, hfrozen, hpf, hseq⟩ := h
  have hends : (s.mayWriteL fzB (masterOfFn fn) && s.isFrozen (data % 256) && data % 256 != 1 &&
      (Sparse.find? s.frzCur (data % 256)).map FrzRec.seq == some (bitsOf data 16 16)) = true := by
    simp [hmay, hfrozen, hpf, hseq]
  rw [State.unfreezeEffect, if_pos hends]
  split
  · rw [State.dropAllProt_frozen, State.unfreeze_frozen]
  · exact State.unfreeze_frozen s _

theorem State.unfreezeEffect_ignored {s : State} {fn data : Nat} (h : ¬ s.endsFreeze fn data) :
    s.unfreezeEffect fn data = s.bumpSat fzB Reg.fzCountsUnfreezeIgnored :=
  if_neg fun hends => h (by simpa [State.endsFreeze, and_assoc] using hends)

theorem State.rd_bumpSat_same {s : State} (h : Sparse.wf s.regs = true) (b : Nat) (r : Row) (i n : Nat) :
    (s.bumpSat b r i n).rd b r i = satAdd (2 ^ r.width - 1) (s.rd b r i) n := by
  refine (State.rd_wr_same h b r _ i).trans (Nat.mod_eq_of_lt ?_)
  exact Nat.lt_of_le_of_lt (Nat.min_le_left _ _) (Nat.sub_lt (Nat.two_pow_pos _) Nat.one_pos)

/-- Settles O37: the one condition of R586, met or not. -/
theorem unfreezeWritesEndOneFreezeOrAreCounted : Obligations.UnfreezeWritesEndOneFreezeOrAreCounted := by
  intro fn data s hinv hw
  rw [exec_unfreezeWrite_through hw]
  refine ⟨fun hmay hfrozen hpf hseq => ?_, fun hother => ?_⟩
  · exact ⟨_, rfl, isFrozen_of_unfrozen (State.unfreezeEffect_ends ⟨hmay, hfrozen, hpf, hseq⟩)⟩
  · rw [State.unfreezeEffect_ignored hother]
    exact ⟨_, rfl, State.rd_bumpSat_same hinv.regs _ _ _ _, rfl, State.onlyRegs_wr (List.mem_singleton.2 rfl) s _⟩

/-! ### Records and the PF's hold (R584, R588) -/

theorem exec_pfFreezeExpire (s : State) : exec .pfFreezeExpire s =
    .next (if s.isFrozen 1 && decide (s.rd fzB Reg.fzPfHoldPfHoldMs ≤ s.aonTick - s.pfFrozenTick) then s.unfreeze 1 else s) := rfl

/-- Settles O38: a read captures the record it answers the first word of, and the PF's hold is compared with the ticks. -/
theorem freezeRecordsAreCapturedAndThePfFreezeExpires : Obligations.FreezeRecordsAreCapturedAndThePfFreezeExpires := by
  refine ⟨fun fn s hr => congrArg _ (State.mmioRead_through hr _), fun fn h s hr => congrArg _ (State.mmioRead_through hr _),
    fun s hfrozen => ⟨fun hover => ⟨?_, (isFrozen_of_unfrozen (s.unfreeze_frozen 1)).1⟩, fun hearly => ?_⟩⟩
  · rw [exec_pfFreezeExpire, if_pos (by simp [hfrozen, hover])]
  · rw [exec_pfFreezeExpire, if_neg (by simp [Nat.not_le.2 hearly])]

/-! ### The debugger's commands (R171, R200, R649) -/

section Debugger
variable {p : Fin 8} {g : Fin 4} {s : State} (hd : s.tapDebug p = true)
include hd

theorem exec_debugHalt_stopped (hn : (s.graver p g).haltTap = false) (hr : s.graverRuns p g = false) :
    exec (.debugHalt p g) s = .next (s.setGraver p g { s.graver p g with haltTap := true }) := by
  change execDebugHalt p g s = _
  rw [execDebugHalt, if_pos (by simp [hd, hn])]
  simp only [hr, Bool.false_eq_true, if_false]

theorem exec_debugHalt_running (hn : (s.graver p g).haltTap = false) (hr : s.graverRuns p g = true) :
    exec (.debugHalt p g) s = .next (State.setGraver { s with draws := s.draws + 1 } p g
      { s.graver p g with haltTap := true, pc := codeAddr (Config.freeNat s.draws) }) := by
  change execDebugHalt p g s = _
  rw [execDebugHalt, if_pos (by simp [hd, hn])]
  simp only [hr, if_true]
  rfl

theorem exec_debugResume_on : exec (.debugResume p g) s = .next (s.setGraver p g { s.graver p g with haltTap := false }) :=
  congrArg _ (if_pos hd)

theorem exec_debugSingleStep_halted (hh : s.graverHalted p g = true) (hf : s.isFrozen (masterGraver p g) = false)
    (hr : s.graversReleased p = true) : exec (.debugSingleStep p g) s = .next (State.setGraver
      { s with draws := s.draws + 1 } p g { s.graver p g with pc := codeAddr (Config.freeNat s.draws) }) :=
  if_pos (by simp [hd, hh, hf, hr])

theorem exec_debugAccess_frozen (hf : s.isFrozen (masterGraver p g) = true) (target : DebugTarget) (write : Bool) :
    exec (.debugAccess p g target write) s = .next (s.countRepeat (masterGraver p g)) :=
  congrArg _ ((if_pos hd).trans (if_pos hf))

theorem exec_debugAccess_row {target : DebugTarget} {write : Bool} {t : State}
    (ht : s.debugAccess p g target write = t) :
    exec (.debugAccess p g target write) s = .next t :=
  congrArg _ ((if_pos hd).trans ht)

end Debugger

/-- What an access through an unfrozen graver does is its target's. -/
theorem State.debugAccess_unfrozen {s : State} {p g : Nat} (hf : s.isFrozen (masterGraver p g) = false) (write : Bool) :
    (∀ a, s.debugAccess p g (.unmapped a) write =
      (s.violate (masterGraver p g) vDecode (if write then 5 else 4) (some p) a 0).settleGraver p g) ∧
    (∀ a, s.debugAccess p g (.rom a) true = (s.violate (masterGraver p g) vDecode 5 (some p) a 0).settleGraver p g) ∧
    (∀ a, s.debugAccess p g (.mapped a) true = s) ∧
    (∀ a, s.debugAccess p g (.mapped a) false =
      { s with draws := s.draws + 1, out := .tdo (Config.freeNat s.draws) :: s.out }) ∧
    (s.graverRuns p g = false → s.debugAccess p g .pc false = { s with out := .tdo (s.graver p g).pc :: s.out }) := by
  have hopen : ¬ s.isFrozen (masterGraver p g) = true := by simp [hf]
  refine ⟨fun a => if_neg hopen, fun a => if_neg hopen, fun a => if_neg hopen, fun a => if_neg hopen,
    fun hr => (if_neg hopen).trans ?_⟩
  simp only [hr, Bool.false_eq_true, if_false]
  rfl

/-- Settles O30: each command of the debugger while DEBUG is selected, and an access by its target. -/
theorem debuggerHaltsResumesStepsAndAccesses : Obligations.DebuggerHaltsResumesStepsAndAccesses := by
  intro p g s hd
  refine ⟨exec_debugHalt_stopped hd, exec_debugHalt_running hd, exec_debugResume_on hd, exec_debugSingleStep_halted hd,
    exec_debugAccess_frozen hd, fun hf => ?_⟩
  obtain ⟨-, hrom, hwritten, hread, hpc⟩ := State.debugAccess_unfrozen hf false
  exact ⟨fun a write => exec_debugAccess_row hd ((State.debugAccess_unfrozen hf write).1 a),
    fun a => exec_debugAccess_row hd (hrom a), fun a => exec_debugAccess_row hd (hwritten a),
    fun a => exec_debugAccess_row hd (hread a), fun hr => exec_debugAccess_row hd (hpc hr)⟩

end Sys2Proof.Machine
end

section
-- One proof at a time: elaborated side by side, they need more memory than the check allows.
set_option Elab.async false

/-! SUPPORT. The statements of 19_life_cycle.md about the return-to-maker image and request, and the TAP: what a cleared
range of registers reads, and each command's effect once it gets through. -/

namespace Sys2Proof.Machine

/-! ### Registers after a range of them is cleared (R150) -/

/-- A store from which keys are dropped finds at another key what it found, and at a dropped one nothing. -/
theorem Sparse.find_filter_key {α : Type} (f : Nat → Bool) (m : Sparse α) (k : Nat) :
    Sparse.find? (m.filter (fun e => f e.1)) k = if f k then Sparse.find? m k else none := by
  induction m with
  | nil => simp [Sparse.find?]
  | cons e r ih =>
    by_cases he : f e.1 = true
    · rw [List.filter_cons_of_pos (p := fun e : Nat × α => f e.1) he, Sparse.find?, Sparse.find?, ih]
      by_cases hk : e.1 = k
      · rw [if_pos hk, if_pos hk, ← hk, if_pos he]
      · rw [if_neg hk, if_neg hk]
    · rw [List.filter_cons_of_neg (p := fun e : Nat × α => f e.1) he, ih, Sparse.find?]
      by_cases hk : e.1 = k
      · rw [← hk, if_neg he, if_neg he]
      · rw [if_neg hk]

theorem State.rd_clearRegs_out {s : State} {lo hi b i : Nat} {r : Row} (keep : Nat → Bool)
    (h : fieldKey b r i < lo * 32 ∨ hi * 32 ≤ fieldKey b r i) : (s.clearRegs lo hi keep).rd b r i = s.rd b r i := by
  have hkept : (!(decide (lo * 32 ≤ fieldKey b r i) && decide (fieldKey b r i < hi * 32)) || keep (fieldKey b r i)) = true := by
    rcases h with h | h <;> simp [Nat.not_le.2, Nat.not_lt.2, h]
  simp only [State.rd, State.clearRegs, Sparse.get,
    Sparse.find_filter_key (fun k => !(lo * 32 ≤ k && k < hi * 32) || keep k), hkept, if_true]

theorem State.rd_clearRegs_in {s : State} {lo hi b i : Nat} {r : Row} {keep : Nat → Bool}
    (hlo : lo * 32 ≤ fieldKey b r i) (hhi : fieldKey b r i < hi * 32) (hkeep : keep (fieldKey b r i) = false) :
    (s.clearRegs lo hi keep).rd b r i = r.reset := by
  have hgone : (!(decide (lo * 32 ≤ fieldKey b r i) && decide (fieldKey b r i < hi * 32)) || keep (fieldKey b r i)) = false := by
    simp [hlo, hhi, hkeep]
  simp only [State.rd, State.clearRegs, Sparse.get,
    Sparse.find_filter_key (fun k => !(lo * 32 ≤ k && k < hi * 32) || keep k), hgone, Bool.false_eq_true, if_false,
    Option.getD_none]

/-- Writes of one register of the watchdog sheets leave the return-to-maker request. -/
theorem rtmArmed_ne_wdEvent (c : Nat) : fieldKey lcB Reg.lcStateRtmArmed 0 ≠ fieldKey (wdB c) Title.event 0 := by
  simp only [fieldKey, lcB, wdB, Reg.lcStateRtmArmed, Title.event]
  omega

theorem State.rd_wr_other {b b' i i' : Nat} {r r' : Row} (h : fieldKey b' r' i' ≠ fieldKey b r i) (s : State) (v : Nat) :
    (s.wr b r v i).rd b' r' i' = s.rd b' r' i' := by
  simp only [State.rd, State.wr_regs, Sparse.get, Sparse.find_put_ne h]

/-! ### The request is disarmed (R636) -/

theorem State.chipClear_rtmArmed (s : State) : s.chipClear.rd lcB Reg.lcStateRtmArmed = 0 := by
  have hcleared : (s.breakAonLocks.clearRegs 0 0x4000000 keptByChipReset).rd lcB Reg.lcStateRtmArmed = 0 :=
    State.rd_clearRegs_in (by decide) (by decide) (by decide)
  refine Eq.trans ?_ hcleared
  exact forEach_leaves (g := fun t : State => t.rd lcB Reg.lcStateRtmArmed)
    (fun c t => State.rd_wr_other (rtmArmed_ne_wdEvent c) t _) _ _

theorem State.chipReset_rtmArmed {s : State} (h : s.chip.power ≠ .por) (cause : Nat) :
    (s.chipReset cause).rd lcB Reg.lcStateRtmArmed = 0 := by
  rw [State.chipReset, if_neg h]
  exact State.chipClear_rtmArmed _

theorem exec_porNAssert (s : State) :
    exec .porNAssert s = .next { s.powerOnReset with pins := { s.powerOnReset.pins with porN := false } } := rfl

section Image
variable {fn : Fin 65} {w : Fin 32} {s : State} (hw : s.writesThrough fn (lcB + 0x100 + 4 * w.val) = true) (data : Word)
include hw

theorem exec_rtmImageWrite_through :
    exec (.rtmImageWrite fn w data) s = .next (s.rtmImageEffect fn w data.toNat) :=
  congrArg _ (State.mmioWrite_through hw _)

end Image

/-- A word of the image is stored for the holder of the lock alone. -/
theorem State.storeField_rtmImage (s : State) (fn w : Nat) (data : Word) :
    s.storeField fn lcB Reg.lcRtmImgWord w data.toNat =
      if s.lockOwner lcB = masterOfFn fn then s.wr lcB Reg.lcRtmImgWord data.toNat w else s := by
  have hmay : s.mayWriteL (lcB / 0x1000 * 0x1000) (masterOfFn fn) = (s.lockOwner lcB == masterOfFn fn) := rfl
  have hword : bitsOf data.toNat 0 32 = data.toNat := by
    rw [bitsOf, Nat.shiftRight_zero, Nat.mod_eq_of_lt data.isLt]
  have hfield : s.storeField fn lcB Reg.lcRtmImgWord w data.toNat =
      if s.mayWriteL (lcB / 0x1000 * 0x1000) (masterOfFn fn) then
        s.wr lcB Reg.lcRtmImgWord (bitsOf data.toNat 0 32) w else s := rfl
  rw [hfield, hmay, hword]
  simp only [beq_iff_eq]

theorem State.rtmImageEffect_rtmArmed {s : State} (h : Sparse.wf s.regs = true) (fn w data : Nat) :
    (s.rtmImageEffect fn w data).rd lcB Reg.lcStateRtmArmed = 0 := by
  refine State.rd_wr_same ?_ lcB Reg.lcStateRtmArmed 0 0
  rcases s.storeField_cases fn lcB Reg.lcRtmImgWord w data with hstored | ⟨-, -, v, hstored⟩
  · rw [hstored]
    exact h
  · rw [hstored]
    exact State.wr_wf h _ _ _ _

/-- R637: what follows in the acceptance of RETURNED leaves the request disarmed, and the programmer at work. -/
theorem State.acceptReturn_rtmArmed {s : State} (h : Sparse.wf s.regs = true) :
    s.acceptReturn.rd lcB Reg.lcStateRtmArmed = 0 ∧ s.acceptReturn.life.job = s.life.job := by
  refine ⟨?_, rfl⟩
  have hdisarmed : (s.wr lcB Reg.lcStateRtmArmed 0).rd lcB Reg.lcStateRtmArmed = 0 :=
    State.rd_wr_same h lcB Reg.lcStateRtmArmed 0 0
  refine (State.rd_wr_apart (r := Reg.lcStateErased) (by decide) _ lcB 1).trans ?_
  refine (State.rd_wr_other (r := Reg.hmStatusLearnH) (by decide) _ 0).trans ?_
  refine (State.rd_clearRegs_out _ (.inl (by decide))).trans ?_
  exact (State.rd_clearRegs_out _ (.inl (by decide))).trans hdisarmed

theorem State.judgeRequest_returned {s : State} (hidle : s.life.job = .idle) (hpend : s.isSet lcB Reg.lcStatePending = false)
    (hnext : 3 = s.fuses.lc + 1) (harmed : s.isSet lcB Reg.lcStateRtmArmed = true) :
    s.judgeRequest 3 = State.acceptReturn { s with life := { s.life with job := .transition 3 } } := by
  simp [State.judgeRequest, hidle, hpend, harmed, ← hnext]

/-- The third word of a request that asks for RETURNED, in time, of the lock holder, with nothing in its way. -/
theorem State.reqWordEffect_returned {s : State} {w : Nat} (hmay : s.mayWriteL lcB (masterOfFn 0) = true)
    (htime : s.reqLate = false) (htaken : s.life.seq.taken = 2) (htarget : s.life.seq.target = 3)
    (hword : w = 0xFFFFFFFF - (0x4C430000 + s.life.seq.target)) (hidle : s.life.job = .idle)
    (hpend : s.isSet lcB Reg.lcStatePending = false) (hnext : s.life.seq.target = s.fuses.lc + 1)
    (harmed : s.isSet lcB Reg.lcStateRtmArmed = true) :
    s.reqWordEffect 0 w = State.acceptReturn { s with life := { s.life with seq := {}, job := .transition 3 } } := by
  have hjudged : s.reqWordEffect 0 w =
      State.judgeRequest { s with life := { s.life with seq := {} } } s.life.seq.target := by
    simp [State.reqWordEffect, htime, hmay, htaken, ← hword]
  rw [hjudged, htarget]
  exact State.judgeRequest_returned (s := { s with life := { s.life with seq := {} } }) hidle hpend (htarget ▸ hnext) harmed

/-- Settles O26: each of the four causes leaves `rtm_armed` at its reset value. -/
theorem returnToMakerRequestIsDisarmed : Obligations.ReturnToMakerRequestIsDisarmed := by
  intro s hinv
  refine ⟨fun hpor => ⟨_, exec_supplyDip s, State.chipReset_rtmArmed hpor _⟩, ⟨_, exec_porNAssert s, rfl⟩,
    fun fn w data hw => ⟨_, exec_rtmImageWrite_through hw data, State.rtmImageEffect_rtmArmed hinv.regs _ _ _⟩,
    fun w hw htime htaken hword hidle hpend hnext htarget harmed => ?_⟩
  have heffect := State.reqWordEffect_returned (State.lockedWrite_may hw) htime htaken htarget hword hidle hpend hnext harmed
  have hexec : exec (.lifecycleRequestWord 0 w) s = .next (s.reqWordEffect 0 w.toNat) :=
    congrArg _ (State.mmioWrite_through (State.lockedWrite_through hw) _)
  rw [hexec, heffect]
  exact ⟨_, rfl, State.acceptReturn_rtmArmed hinv.regs⟩

/-! ### The image and its check (R634, R635) -/

theorem exec_rtmVerifyGo_through {fn : Fin 65} {s : State} (hw : s.lockedWrite fn lcB (lcB + 0x84) = true) :
    exec (.rtmVerifyGo fn) s = .next (s.wr lcB Reg.lcRtmStatusBusy 1) := by
  refine congrArg _ ((State.mmioWrite_through (State.lockedWrite_through hw) _).trans ?_)
  rw [State.rtmGoEffect, if_pos (State.lockedWrite_may hw)]

theorem exec_rtmVerifyDone_busy {s : State} (h : s.isSet lcB Reg.lcRtmStatusBusy = true) : exec .rtmVerifyDone s =
    .next ((if s.rtmResult = 1 then
      ((s.wr lcB Reg.lcRtmStatusBusy 0).wr lcB Reg.lcRtmStatusResult s.rtmResult).wr lcB Reg.lcStateRtmArmed 1
      else (s.wr lcB Reg.lcRtmStatusBusy 0).wr lcB Reg.lcRtmStatusResult s.rtmResult).raise lcB 1) :=
  if_pos h

theorem State.rtmResult_elsewhere {s : State} (h : s.fuses.lc ≠ 2) : s.rtmResult = 2 := if_pos h

/-- Settles O27: the image's write by who holds the lock, and the end of the check by its result. -/
theorem returnToMakerImageIsStoredAndChecked : Obligations.ReturnToMakerImageIsStoredAndChecked := by
  refine ⟨fun fn w data s hw => ?_, fun fn s hw => exec_rtmVerifyGo_through hw,
    fun s hbusy => ⟨fun hok => ?_, fun hfail => ?_, State.rtmResult_elsewhere⟩⟩
  · rw [exec_rtmImageWrite_through hw, State.rtmImageEffect, State.storeField_rtmImage]
    exact ⟨fun hown => by rw [if_pos hown], fun hother => by rw [if_neg hother]⟩
  · rw [exec_rtmVerifyDone_busy hbusy, if_pos hok, hok]
  · rw [exec_rtmVerifyDone_busy hbusy, if_neg hfail]

/-! ### The TAP (R628, R646-R649) -/

theorem State.tapSelect_allowed {s : State} {i : TapInstr} (h : tapAllowed s.fuses.lc i = true) :
    s.tapSelect i = { s with tap := { s.tap with instr := i, trstN := true } } := by
  rw [State.tapSelect, if_pos h]

theorem State.tapSelect_bypassed {s : State} {i : TapInstr} (h : tapAllowed s.fuses.lc i = false) :
    s.tapSelect i = { s with tap := { s.tap with instr := .bypass, trstN := true } } := by
  rw [State.tapSelect, if_neg (by simp [h])]

theorem exec_makerTest (code : Fin 32) (s : State) : exec (.makerTest code) s = .next (s.tapSelect (.makerTest code)) := rfl

theorem exec_debug (s : State) : exec .debug s = .next (s.tapSelect .debug) := rfl

theorem tapAllowed_makerTest (lc code : Nat) : tapAllowed lc (.makerTest code) = (lc == 0 || lc == 3) := rfl

theorem tapAllowed_debug (lc : Nat) : tapAllowed lc .debug = (lc != 2) := rfl

/-- Settles O29: DEBUG and the maker tests are selected where the sensed state allows them, every other instruction in each. -/
theorem testAccessPortSelectsAndShifts : Obligations.TestAccessPortSelectsAndShifts := by
  intro s
  refine ⟨rfl, rfl, rfl, rfl, rfl, fun h => ?_, fun h => ?_, fun code => ⟨fun h => ?_, fun h => ?_⟩, fun cells => rfl,
    fun balls cells => rfl⟩
  · rw [exec_debug, State.tapSelect_allowed (by simp [tapAllowed_debug, h])]
  · rw [exec_debug, State.tapSelect_bypassed (by simp [tapAllowed_debug, h])]
  · rw [exec_makerTest, State.tapSelect_allowed (by simpa [tapAllowed_makerTest] using h)]
  · rw [exec_makerTest, State.tapSelect_bypassed (by rcases h with h | h <;> simp [tapAllowed_makerTest, h])]

end Sys2Proof.Machine
end

section
-- One proof at a time: elaborated side by side, they need more memory than the check allows.
set_option Elab.async false

/-! SUPPORT. The statement of 18_watchdog.md: starts, keys, services, expiries, evidence, debug holds and the measured tick of
a watchdog channel. -/

namespace Sys2Proof.Machine

/-! ### Start and key (R604, R607, R614) -/

section WdStart
variable {s t : State} {fn : Fin 65} {c : Fin 9} {data : Word}

theorem exec_watchdogStart_through (hw : s.writesThrough fn (wdB c + 0x40) = true)
    (ht : t = s.wdConfigEffect fn c 0x40 data.toNat) :
    exec (.watchdogStart fn c data) s = .next (t.wdStart fn c data.toNat) := by
  subst ht
  exact congrArg _ (State.mmioWrite_through hw _)

theorem State.wdStart_begins (hbit : bitAt data.toNat 0 = true) (hmay : t.mayWriteL (wdB c) (masterOfFn fn) = true)
    (hoff : (t.wd c).running = false) (hpresent : t.wdPresent c = true) : t.wdStart fn c data.toNat = t.wdBegin c :=
  if_pos (by simp [hbit, hmay, hoff, hpresent])

theorem State.wdStart_none (h : bitAt data.toNat 0 = false ∨ (t.wd c).running = true ∨
    t.mayWriteL (wdB c) (masterOfFn fn) = false ∨ t.wdPresent c = false) : t.wdStart fn c data.toNat = t :=
  if_neg (by rcases h with h | h | h | h <;> simp [h])

end WdStart

/-- WD_CTRL of W0 has no field that stores (R604). -/
theorem State.wdConfigEffect_w0 {c : Nat} (h : c = 0) (s : State) (fn data : Nat) : s.wdConfigEffect fn c 0x40 data = s :=
  if_pos ⟨h, rfl⟩

theorem State.wdConfigEffect_shut {s : State} {c : Nat} (h : c ≠ 0) (hruns : (s.wd c).running = true)
    (hheld : (s.wd c).heldAt = none) (hshut : s.wdOpen c = false) (fn data : Nat) :
    s.wdConfigEffect fn c 0x40 data = s.violateWrite fn vWindowWrite (wdB c + 0x40) := by
  rw [State.wdConfigEffect, if_neg (fun hc => h hc.1), if_neg (by simp [hruns, hheld, hshut])]

theorem exec_watchdogKeyWrite_through {s : State} {fn : Fin 65} {c : Fin 9} (hw : s.writesThrough fn (wdB c + 0x48) = true)
    (data : Word) : exec (.watchdogKeyWrite fn c data) s =
      .next (if (s.wd c).key.isNone then s.setWd c { s.wd c with key := some (data.toNat % 65536) }
        else s.bumpSat (wdB c) Reg.wdCountsIgnored) :=
  congrArg _ (State.mmioWrite_through hw _)

/-! ### Service (R610-R612) -/

/-- What a service does to a channel whose period is not over. -/
def State.wdServed (t : State) (c token : Nat) : State :=
  if !(t.wd c).running || (t.wd c).heldAt.isSome || (t.wd c).kernel then t.wdIgnored c
  else if !t.wdOpen c then t.wdFail c 1
  else if token ≠ t.wdToken c then t.wdFail c 2
  else t.wdGood c

theorem exec_watchdogService_through {s t : State} {fn : Fin 65} {c : Fin 9} {data : Word}
    (hw : s.writesThrough fn (wdB c + 0x50) = true) (ht : t = if s.wdDue c then s.wdFail c 3 else s) :
    exec (.watchdogService fn c data) s = .next (t.wdServed c (data.toNat % 65536)) := by
  subst ht
  exact congrArg _ (State.mmioWrite_through hw _)

section WdServed
variable {t : State} {c token : Nat}

theorem State.wdServed_ignored (h : (t.wd c).running = false ∨ (t.wd c).heldAt.isSome = true ∨ (t.wd c).kernel = true) :
    t.wdServed c token = t.bumpSat (wdB c) Reg.wdCountsIgnored :=
  if_pos (by rcases h with h | h | h <;> simp [h])

variable (hruns : (t.wd c).running = true) (hheld : (t.wd c).heldAt = none) (hpf : (t.wd c).kernel = false)
include hruns hheld hpf

theorem State.wdServed_taken : t.wdServed c token =
    if t.wdOpen c = false then t.wdFail c 1 else if token ≠ t.wdToken c then t.wdFail c 2 else t.wdGood c := by
  rw [State.wdServed, if_neg (by simp [hruns, hheld, hpf])]
  simp only [Bool.not_eq_true']

end WdServed

/-! ### Expiry, the window's announcement and the latched wake (R611, R622, R625) -/

theorem exec_watchdogExpiry (c : Fin 9) (s : State) :
    exec (.watchdogExpiry c) s = .next (if s.wdDue c then s.wdFail c 3 else s) := rfl

theorem exec_watchdogWindowOpen (c : Fin 9) (s : State) : exec (.watchdogWindowOpen c) s =
    .next (if s.wdOpen c && !(s.wd c).announced then
      (s.setWd c { s.wd c with announced := true }).raise (wdB c) 0 else s) := rfl

/-- The conditions of R622 for the wake that a kernel-served channel asks for once in a period. -/
def State.wdWakes (s : State) (c : Nat) : Prop :=
  c ≠ 0 ∧ (s.wd c).running = true ∧ (s.wd c).heldAt.isNone = true ∧ (s.wd c).kernel = true ∧ (!(s.wd c).wakeReq) = true ∧
    s.plateQuiet (c - 1) = true ∧ (s.wd c).latchAt ≤ s.wdElapsed c

theorem exec_watchdogWakeLatch_wakes {c : Fin 9} {s : State} (h : s.wdWakes c) : exec (.watchdogWakeLatch c) s =
    .next ((s.setWd c { s.wd c with wakeReq := true }).requestWake wakeWatchdog (2 ^ (c.val - 1))) :=
  congrArg _ (if_pos h)

theorem exec_watchdogWakeLatch_none {c : Fin 9} {s : State} (h : ¬ s.wdWakes c) : exec (.watchdogWakeLatch c) s = .next s :=
  congrArg _ (if_neg h)

/-! ### Evidence (R619, R620) -/

/-- The evidence of channel `c` names the cause and is valid. -/
structure State.EvidenceOf (t : State) (c cause : Nat) : Prop where
  wf : Sparse.wf t.regs = true
  cause : t.rd (wdB c) Reg.wdEvCauseCause = cause
  valid : t.rd (wdB c) Reg.wdEvCauseValid = 1

/-- Writes of other fields of the sheet leave cause and validity. -/
theorem State.EvidenceOf.wr {t : State} {c cause : Nat} (h : t.EvidenceOf c cause) {r : Row}
    (hcause : r.off * 32 + r.lsb ≠ Reg.wdEvCauseCause.off * 32 + Reg.wdEvCauseCause.lsb)
    (hvalid : r.off * 32 + r.lsb ≠ Reg.wdEvCauseValid.off * 32 + Reg.wdEvCauseValid.lsb) (v : Nat) :
    (t.wr (wdB c) r v).EvidenceOf c cause :=
  ⟨State.wr_wf h.wf _ _ _ _, (State.rd_wr_apart hcause.symm t _ v).trans h.cause,
    (State.rd_wr_apart hvalid.symm t _ v).trans h.valid⟩

theorem State.EvidenceOf.wrPc {t : State} {c cause : Nat} (h : t.EvidenceOf c cause) (v i : Nat) :
    (t.wr (wdB c) Reg.wdEvPcPc v i).EvidenceOf c cause := by
  have hcause : fieldKey (wdB c) Reg.wdEvCauseCause 0 ≠ fieldKey (wdB c) Reg.wdEvPcPc i := by
    simp only [fieldKey, Reg.wdEvCauseCause, Reg.wdEvPcPc]
    omega
  have hvalid : fieldKey (wdB c) Reg.wdEvCauseValid 0 ≠ fieldKey (wdB c) Reg.wdEvPcPc i := by
    simp only [fieldKey, Reg.wdEvCauseValid, Reg.wdEvPcPc]
    omega
  exact ⟨State.wr_wf h.wf _ _ _ _, (State.rd_wr_other hcause t v).trans h.cause, (State.rd_wr_other hvalid t v).trans h.valid⟩

theorem State.graverPc_regs (s : State) (p g : Nat) : (s.graverPc p g).2.regs = s.regs := by
  unfold State.graverPc
  split <;> rfl

/-- The evidence does not rest on what a program counter read draws. -/
theorem State.EvidenceOf.graverPc {t : State} {c cause : Nat} (h : t.EvidenceOf c cause) (p g : Nat) :
    (t.graverPc p g).2.EvidenceOf c cause := by
  obtain ⟨hwf, hcause, hvalid⟩ := h
  rw [State.rd, ← State.graverPc_regs t p g] at hcause hvalid
  rw [← State.graverPc_regs t p g] at hwf
  exact ⟨hwf, hcause, hvalid⟩

theorem State.EvidenceOf.raise {t : State} {c cause : Nat} (h : t.EvidenceOf c cause) (i : Nat) :
    (t.raise (wdB c) i).EvidenceOf c cause :=
  ⟨State.raise_wf h.wf _ _, (State.rd_raise_apart h.wf (by decide) (by simp [Reg.wdEvCauseCause]) i).trans h.cause,
    (State.rd_raise_apart h.wf (by decide) (by simp [Reg.wdEvCauseValid]) i).trans h.valid⟩

/-- Valid and cause as the evidence begins. -/
theorem State.evidenceOf_begun {s : State} (h : Sparse.wf s.regs = true) {cause : Nat} (hc : cause < 4) (c : Nat) (o : Bool) :
    (((s.wrB (wdB c) Reg.wdEvCauseOverwritten o).wr (wdB c) Reg.wdEvCauseValid 1).wr (wdB c) Reg.wdEvCauseCause
      cause).EvidenceOf c cause := by
  have hover := State.wr_wf h (wdB c) Reg.wdEvCauseOverwritten (b2n o) 0
  have hvalid := State.wr_wf hover (wdB c) Reg.wdEvCauseValid 1 0
  exact ⟨State.wr_wf hvalid _ _ _ _, (State.rd_wr_same hvalid _ _ _ _).trans (Nat.mod_eq_of_lt hc),
    (State.rd_wr_apart (by decide) _ _ _).trans (State.rd_wr_same hover _ _ _ _)⟩

/-- R619: the evidence before it is announced. -/
theorem State.wdEvidence_eq {s : State} (h : Sparse.wf s.regs = true) {cause : Nat} (hc : cause < 4) (c : Nat) :
    ∃ t : State, t.EvidenceOf c cause ∧ s.wdEvidence c cause = t.raise (wdB c) 1 := by
  refine ⟨_, ?_, rfl⟩
  refine forUpTo_stays (P := fun t : State => t.EvidenceOf c cause) (fun i t ht => ?_) ?_ 4
  · dsimp only
    split
    · exact (ht.graverPc _ _).wrPc _ _
    · exact ht.wrPc _ _
  · refine .wr (.wr (.wr (.wr (.wr (.wr (.wr (.wr ?_ ?_ ?_ _) ?_ ?_ _) ?_ ?_ _) ?_ ?_ _) ?_ ?_ _) ?_ ?_ _) ?_ ?_ _) ?_ ?_ _
    · exact State.evidenceOf_begun h hc c _
    all_goals decide

theorem exec_evidenceClear_through {fn : Fin 65} {c : Fin 9} {s : State} (hw : s.writesThrough fn (wdB c + 0x80) = true) :
    exec (.evidenceClear fn c) s = .next (s.wdClearEvidence c) :=
  congrArg _ (State.mmioWrite_through hw _)

/-- A cleared store lists nothing in the range cleared. -/
theorem State.clearRegs_unlisted {s : State} {lo hi k v : Nat}
    (h : Sparse.find? (s.clearRegs lo hi (fun _ => false)).regs k = some v) : k < lo * 32 ∨ hi * 32 ≤ k := by
  have hstore : (s.clearRegs lo hi (fun _ => false)).regs =
      s.regs.filter (fun e => (!(decide (lo * 32 ≤ e.1) && decide (e.1 < hi * 32)) || false)) := rfl
  rw [hstore, Sparse.find_filter_key (fun k => !(decide (lo * 32 ≤ k) && decide (k < hi * 32)) || false)] at h
  split at h
  · next hkept =>
    simp only [Bool.or_false, Bool.not_eq_true', Bool.and_eq_false_iff, decide_eq_false_iff_not] at hkept
    omega
  · cases h

/-! ### Debug holds (R617) -/

section WdHold
variable {s : State} {fn : Fin 65} {c : Fin 9} (hw : s.lockedWrite fn (wdB c) (wdB c + 0x5C) = true)
include hw

theorem exec_watchdogDebugHold_through : exec (.watchdogDebugHold fn c) s = .next (s.wdHoldEffect fn c true) :=
  congrArg _ (State.mmioWrite_through (State.lockedWrite_through hw) _)

theorem exec_watchdogDebugRelease_through : exec (.watchdogDebugRelease fn c) s = .next (s.wdHoldEffect fn c false) :=
  congrArg _ (State.mmioWrite_through (State.lockedWrite_through hw) _)

end WdHold

/-- The hold that a write asks for and that the channel may have. -/
def State.wdHolds (s : State) (c : Nat) (hold : Bool) : Bool := hold && c != 0 && s.debugState && s.wdPresent c

theorem State.wrB_wd (s : State) (b : Nat) (r : Row) (v : Bool) (c : Nat) : (s.wrB b r v).wd c = s.wd c := rfl

section WdHoldEffect
variable {s : State} {fn c : Nat} {hold : Bool} (hmay : s.mayWriteL (wdB c) (masterOfFn fn) = true)
include hmay

theorem State.wdHoldEffect_running (hh : s.wdHolds c hold = true) (hruns : (s.wd c).running = true)
    (hheld : (s.wd c).heldAt = none) : s.wdHoldEffect fn c hold =
      (s.wrB (wdB c) Reg.wdDebugHold true).setWd c { s.wd c with heldAt := some (s.wdElapsed c) } := by
  rw [State.wdHolds] at hh
  simp only [State.wdHoldEffect, hmay, hh, State.wrB_wd, hheld, hruns, Bool.not_true, Bool.false_eq_true, if_false,
    Bool.and_self, if_true]

theorem State.wdHoldEffect_stopped (hh : s.wdHolds c hold = true)
    (hstop : (s.wd c).running = false ∨ (s.wd c).heldAt.isSome = true) :
    s.wdHoldEffect fn c hold = s.wrB (wdB c) Reg.wdDebugHold true := by
  rw [State.wdHolds] at hh
  simp only [State.wdHoldEffect, hmay, hh, State.wrB_wd, Bool.not_true, Bool.false_eq_true, if_false, if_true]
  cases hheld : (s.wd c).heldAt with
  | some a => rfl
  | none =>
    have hidle : (s.wd c).running = false := hstop.resolve_right (by simp [hheld])
    simp only [hidle, Bool.and_false, Bool.false_eq_true, if_false]

/-- Without a hold, a channel that was held starts a period anew, and no other does anything. -/
theorem State.wdHoldEffect_free (hh : s.wdHolds c hold = false) : s.wdHoldEffect fn c hold =
    if (s.wd c).heldAt.isSome then
      (s.wrB (wdB c) Reg.wdDebugHold false).setWd c ((s.wrB (wdB c) Reg.wdDebugHold false).wdApply c { s.wd c with
        heldAt := none, since := s.aonTick, first := false, announced := false, wakeReq := false })
    else s.wrB (wdB c) Reg.wdDebugHold false := by
  rw [State.wdHolds] at hh
  simp only [State.wdHoldEffect, hmay, hh, State.wrB_wd, Bool.not_true, Bool.false_eq_true, if_false, Bool.false_and]
  cases hheld : (s.wd c).heldAt <;> rfl

end WdHoldEffect

theorem State.wdHolds_none {s : State} {c : Nat} (h : c = 0 ∨ s.debugState = false ∨ s.wdPresent c = false) (hold : Bool) :
    s.wdHolds c hold = false := by
  rcases h with h | h | h <;> simp [State.wdHolds, h]

theorem State.wdHolds_release (s : State) (c : Nat) : s.wdHolds c false = false := rfl

/-! ### The measured tick (R600) -/

/-- The tick length is stored on the sheet of channel `c`. -/
def State.noteTick (s : State) (ns c : Nat) : State :=
  (s.wr (wdB c) Reg.wdTickNsTickNs (min (2 ^ 21 - 1) ns)).wr (wdB c) Reg.wdTickNsValid 1

theorem exec_tickMeasure (ns : Nat) (s : State) : exec (.tickMeasure ns) s =
    .next (if s.isSet crB Reg.crRefStatusTbPllLock then forUpTo 9 (fun c t => t.noteTick ns c) s else s) := rfl

theorem State.tick_noteTick_same {t : State} (h : Sparse.wf t.regs = true) (ns c : Nat) :
    ((t.noteTick ns c).rd (wdB c) Reg.wdTickNsTickNs, (t.noteTick ns c).isSet (wdB c) Reg.wdTickNsValid) =
      (min (2 ^ 21 - 1) ns, true) := by
  have htick := State.wr_wf h (wdB c) Reg.wdTickNsTickNs (min (2 ^ 21 - 1) ns) 0
  have hlen : (t.noteTick ns c).rd (wdB c) Reg.wdTickNsTickNs = min (2 ^ 21 - 1) ns :=
    ((State.rd_wr_apart (by decide) _ _ _).trans (State.rd_wr_same h _ _ _ _)).trans
      (Nat.mod_eq_of_lt (Nat.lt_of_le_of_lt (Nat.min_le_left _ _) (by decide)))
  have hvalid : (t.noteTick ns c).rd (wdB c) Reg.wdTickNsValid = 1 := State.rd_wr_same htick _ _ _ _
  rw [hlen, State.isSet, hvalid]
  rfl

theorem State.rd_noteTick_ne {c d : Nat} (hd : d ≠ c) {r : Row} (ho : r.off = 0x64) (hl : r.lsb < 32) (t : State) (ns : Nat) :
    (t.noteTick ns c).rd (wdB d) r = t.rd (wdB d) r := by
  have hapart : ∀ r' : Row, r'.off = 0x64 → r'.lsb < 32 → fieldKey (wdB d) r 0 ≠ fieldKey (wdB c) r' 0 := by
    intro r' ho' hl'
    simp only [fieldKey, wdB, ho, ho']
    omega
  exact (State.rd_wr_other (hapart Reg.wdTickNsValid rfl (by decide)) _ _).trans
    (State.rd_wr_other (hapart Reg.wdTickNsTickNs rfl (by decide)) _ _)

theorem State.ticks_each {s : State} (h : Sparse.wf s.regs = true) (ns : Nat) {c : Nat} (hc : c < 9) :
    ((forUpTo 9 (fun c t => t.noteTick ns c) s).rd (wdB c) Reg.wdTickNsTickNs,
      (forUpTo 9 (fun c t => t.noteTick ns c) s).isSet (wdB c) Reg.wdTickNsValid) = (min (2 ^ 21 - 1) ns, true) :=
  forUpTo_each (I := fun t : State => Sparse.wf t.regs = true)
    (g := fun t c => (t.rd (wdB c) Reg.wdTickNsTickNs, t.isSet (wdB c) Reg.wdTickNsValid))
    (F := fun _ _ => (min (2 ^ 21 - 1) ns, true))
    (fun _ _ ht => State.wr_wf (State.wr_wf ht _ _ _ _) _ _ _ _) (fun c _ ht => State.tick_noteTick_same ht ns c)
    (fun c d t _ hd => Prod.ext (State.rd_noteTick_ne hd rfl (by decide) t ns)
      (congrArg (· == 1) (State.rd_noteTick_ne hd rfl (by decide) t ns))) h hc

/-! ### The statement -/

/-- Settles O57: the rows of a write, a service and a timer of a channel, by what the channel holds. -/
theorem watchdogChannelsAreServedAndFail : Obligations.WatchdogChannelsAreServedAndFail := by
  refine ⟨fun fn c data s hw => ⟨_, rfl, fun hbit hmay hoff hpresent => ?_, fun hno => ?_,
      fun h0 => State.wdConfigEffect_w0 h0 s fn _, fun h0 hruns hheld hshut => State.wdConfigEffect_shut h0 hruns hheld hshut fn _⟩,
    fun fn c data s hw => ⟨fun hnone => ?_, fun hsome => ?_⟩,
    fun fn c data s hw => ⟨_, rfl, fun hno => ?_, fun hruns hheld hpf => ⟨fun hshut => ?_, fun hopen hwrong => ?_,
      fun hopen hright => ?_⟩⟩,
    fun c s => ⟨fun hdue => ?_, fun hdue => ?_, fun hopen hnew => ?_, fun hno => ?_,
      fun h0 hruns hheld hkernel hnew hquiet hat => ?_, fun hno => ?_⟩,
    fun c cause s hinv _ hcause => ?_,
    fun fn c s hw => ⟨fun h0 hdebug hpresent => ⟨_, rfl, fun hruns hheld => ?_, fun hstop => ?_⟩,
      fun hno hheld => ?_, fun hno _ => ?_, fun hheld => ?_, fun hheld => ⟨_, rfl, ?_⟩⟩,
    fun fn c s hw => ⟨_, exec_evidenceClear_through hw, rfl, fun k v hk => State.clearRegs_unlisted hk⟩,
    fun ns s => ⟨fun hunlocked => ?_, fun hlocked hinv => ?_⟩⟩
  · rw [exec_watchdogStart_through hw rfl, State.wdStart_begins hbit hmay hoff hpresent]
  · rw [exec_watchdogStart_through hw rfl, State.wdStart_none hno]
  · rw [exec_watchdogKeyWrite_through hw, if_pos (by simp [hnone])]
  · rw [exec_watchdogKeyWrite_through hw, if_neg (by simpa [Option.isSome_iff_ne_none] using hsome)]
  · rw [exec_watchdogService_through hw rfl, State.wdServed_ignored hno]
  · rw [exec_watchdogService_through hw rfl, State.wdServed_taken hruns hheld hpf, if_pos hshut]
  · rw [exec_watchdogService_through hw rfl, State.wdServed_taken hruns hheld hpf, if_neg (by simp [hopen]), if_pos hwrong]
  · rw [exec_watchdogService_through hw rfl, State.wdServed_taken hruns hheld hpf, if_neg (by simp [hopen]),
      if_neg (not_not.2 hright)]
  · rw [exec_watchdogExpiry, if_pos hdue]
  · rw [exec_watchdogExpiry, if_neg (by simp [hdue])]
  · rw [exec_watchdogWindowOpen, if_pos (by simp [hopen, hnew])]
  · rw [exec_watchdogWindowOpen, if_neg (by rcases hno with h | h <;> simp [h])]
  · exact exec_watchdogWakeLatch_wakes ⟨h0, hruns, by simp [hheld], hkernel, by simp [hnew], hquiet, hat⟩
  · refine exec_watchdogWakeLatch_none ?_
    rintro ⟨h0, hruns, hheld, hkernel, hnew, hquiet, hat⟩
    simp_all [Nat.not_lt.2 hat]
  · obtain ⟨t, ht, heq⟩ := State.wdEvidence_eq hinv.regs hcause c
    obtain ⟨-, hnamed, hvalid⟩ := ht.raise 1
    rw [heq, State.isSet, hvalid]
    exact ⟨hnamed, rfl, State.bitAt_raise ht.wf (wdB c) (by decide)⟩
  · exact (exec_watchdogDebugHold_through hw).trans (congrArg _ (State.wdHoldEffect_running (State.lockedWrite_may hw)
      (by simp [State.wdHolds, h0, hdebug, hpresent]) hruns hheld))
  · exact (exec_watchdogDebugHold_through hw).trans (congrArg _ (State.wdHoldEffect_stopped (State.lockedWrite_may hw)
      (by simp [State.wdHolds, h0, hdebug, hpresent]) hstop))
  · rw [exec_watchdogDebugHold_through hw, State.wdHoldEffect_free (State.lockedWrite_may hw) (State.wdHolds_none hno true),
      if_neg (by simp [hheld])]
  · rw [exec_watchdogDebugHold_through hw, exec_watchdogDebugRelease_through hw,
      State.wdHoldEffect_free (State.lockedWrite_may hw) (State.wdHolds_none hno true),
      State.wdHoldEffect_free (State.lockedWrite_may hw) (s.wdHolds_release c)]
  · rw [exec_watchdogDebugRelease_through hw, State.wdHoldEffect_free (State.lockedWrite_may hw) (s.wdHolds_release c),
      if_neg (by simp [hheld])]
  · rw [exec_watchdogDebugRelease_through hw, State.wdHoldEffect_free (State.lockedWrite_may hw) (s.wdHolds_release c),
      if_pos hheld]
  · rw [exec_tickMeasure, if_neg (by simp [hunlocked])]
  · rw [exec_tickMeasure, if_pos hlocked]
    exact ⟨_, rfl, fun c hc => Prod.mk.inj (State.ticks_each hinv.regs ns hc)⟩

end Sys2Proof.Machine
end

section
-- One proof at a time: elaborated side by side, they need more memory than the check allows.
set_option Elab.async false

/-! SUPPORT. The statements of 20_power_sleep.md: the order in which the arbiter serves, and quiet requests, votes and wakes. -/

namespace Sys2Proof.Machine

/-! ### The arbiter (R658-R661) -/

/-- The request that is served next is a pending one, and none stands before it (R660). -/
theorem nextGrant_first {l : List GrantReq} {q : GrantReq} (h : nextGrant l = some q) :
    q ∈ l ∧ ∀ r ∈ l, grantKey q ≤ grantKey r := by
  induction l generalizing q with
  | nil => cases h
  | cons a l ih =>
    rw [nextGrant] at h
    cases hnext : nextGrant l with
    | none =>
      have hnil : l = [] := by
        cases l with
        | nil => rfl
        | cons b l =>
          rw [nextGrant] at hnext
          split at hnext
          · split at hnext <;> cases hnext
          · cases hnext
      rw [hnext] at h
      obtain rfl := Option.some.inj h
      simp [hnil]
    | some r =>
      rw [hnext] at h
      dsimp only at h
      obtain ⟨hmem, hfirst⟩ := ih hnext
      split at h
      · next hlt =>
        obtain rfl := Option.some.inj h
        exact ⟨List.mem_cons_of_mem _ hmem, List.forall_mem_cons.2 ⟨Nat.le_of_lt hlt, hfirst⟩⟩
      · next hge =>
        obtain rfl := Option.some.inj h
        exact ⟨List.mem_cons_self, List.forall_mem_cons.2 ⟨Nat.le_refl _, fun x hx =>
          Nat.le_trans (Nat.not_lt.1 hge) (hfirst x hx)⟩⟩

theorem exec_arbiterAnswer_next {s : State} {q : GrantReq} (h : nextGrant s.arb = some q) : exec .arbiterAnswer s =
    .next (if s.grantFits q then (s.withdraw q).grantTaken q else (s.withdraw q).grantRefused q).noteCeiling := by
  change execArbiterAnswer s = _
  rw [execArbiterAnswer, h]

theorem exec_baseGrantRetry_due {p : Fin 8} {s : State} (hw : s.wantsBase p = true)
    (hat : (s.plate p).baseAskedAt + 10 * msNs ≤ s.now) : exec (.baseGrantRetry p) s = .next (s.ask (.base p)) :=
  congrArg _ (if_pos (by simp [hw, hat]))

theorem exec_laneGrantRetry_port {p : Fin 8} {s : State} (hw : s.wantsLane p = true)
    (hat : (s.port p).laneAskedAt + 10 * msNs ≤ s.now) : exec (.laneGrantRetry false p) s = .next (s.askLane p) :=
  congrArg _ ((if_neg Bool.false_ne_true).trans (if_pos (by simp [hw, hat])))

theorem exec_laneGrantRetry_epk {l : Fin 8} {s : State} (hl : l.val < 4) (hen : s.laneEnabled l = true)
    (hno : bitAt s.epkGrants l = false) (hask : s.asking (.epkLane l) = false)
    (hat : (s.ekLane l).askedAt + 10 * msNs ≤ s.now) : exec (.laneGrantRetry true l) s = .next (s.ask (.epkLane l)) :=
  congrArg _ ((if_pos rfl).trans (if_pos ⟨hl, hen, by simp [hno], by simp [hask], hat⟩))

/-- Settles O23: the order of `nextGrant`, the answer by whether the request fits, and the retries that are due. -/
theorem arbiterServesPendingRequestsInOrder : Obligations.ArbiterServesPendingRequestsInOrder := by
  refine ⟨fun q s hq => ?_, fun p s => ⟨rfl, fun u => rfl, rfl⟩, fun p s => exec_baseGrantRetry_due,
    fun p s => exec_laneGrantRetry_port, fun l s => exec_laneGrantRetry_epk⟩
  obtain ⟨hmem, hfirst⟩ := nextGrant_first hq
  rw [exec_arbiterAnswer_next hq]
  exact ⟨hmem, hfirst, fun hfits => by rw [if_pos hfits], fun hno => by rw [if_neg (by simp [hno])]⟩

/-! ### Intents, requests and lapses (R663, R664, R669, R683) -/

theorem exec_quietHostStateWrite_through {s : State} {fn : Fin 65} (hw : s.lockedWrite fn qmB (qmB + 0x20) = true)
    (data : Word) : exec (.quietHostStateWrite fn data) s =
      .next (s.storeIntent qmB (if intentOp data.toNat = opOff then opOff else opRunning) 0) := by
  refine congrArg _ ((State.mmioWrite_through (State.lockedWrite_through hw) _).trans ?_)
  rw [State.quietIntent, if_pos (State.lockedWrite_may hw)]

theorem exec_l1Exit (s : State) : exec .l1Exit s = .next (if s.linkUp && s.isSet hpB Reg.hpLinkInL1 then
    (s.wr hpB Reg.hpLinkInL1 0).requestWake wakePcie (s.rd qmB Reg.qmPcieWakePlates) else s) := rfl

theorem exec_quietLapse_none {p : Fin 8} {s : State} (h : Sparse.find? s.quietReqs p = none) :
    exec (.quietLapse p) s = .next s := by
  change execQuietLapse p s = _
  rw [execQuietLapse, h]

theorem exec_quietLapse_some {p : Fin 8} {s : State} {at_ : Nat} (h : Sparse.find? s.quietReqs p = some at_) :
    exec (.quietLapse p) s = .next (if s.enteringQuiet p && decide (at_ + s.rd qmB Reg.qmLapseLapseMs * msNs ≤ s.now) then
      (((if s.coordinated p then s.stirRound else s).cancelQuiet p).bumpSat qmB Reg.qmCountsLapses).raise qmB 2 else s) := by
  change execQuietLapse p s = _
  rw [execQuietLapse, h]
  rfl

/-! ### Site inputs (R679-R681) -/

theorem exec_siteInSample (i : Fin 8) (pin : Bool) (s : State) : exec (.siteInSample i pin) s =
    .next (if s.chip.sheetsReady && !s.ballsScanned then s.siteSample i pin else s) := rfl

section SiteInStuck
variable {i : Fin 8} {s : State}

theorem exec_siteInStuck_none (h : (Sparse.get {} s.siteIns i.val).stuck = true ∨ (Sparse.get {} s.siteIns i.val).level = false ∨
    s.now < (Sparse.get {} s.siteIns i.val).activeAt + 10 * secNs) : exec (.siteInStuck i) s = .next s :=
  congrArg _ (if_neg (by rcases h with h | h | h <;> simp [h]))

theorem exec_siteInStuck_stuck (hlevel : (Sparse.get {} s.siteIns i.val).level = true)
    (hnew : (Sparse.get {} s.siteIns i.val).stuck = false)
    (hat : (Sparse.get {} s.siteIns i.val).activeAt + 10 * secNs ≤ s.now) : exec (.siteInStuck i) s =
      .next (((State.wr { s with siteIns := Sparse.put {} s.siteIns i.val { Sparse.get {} s.siteIns i.val with stuck := true } }
        siB Reg.siStateStuck (setBit (s.rd siB Reg.siStateStuck) i true)).raise siB (16 + i.val)).bumpSat siB Reg.siCountStuck i) :=
  congrArg _ (if_pos (by simp [hlevel, hnew, hat]))

end SiteInStuck

/-! ### The coordinator's and the members' timers (R676, R677) -/

section VotePropose
variable {s : State}

theorem exec_votePropose_due (hready : s.chip.sheetsReady = true) (hidle : s.voteNow = voteIdle) (hlead : s.coordinates = true)
    (hyes : s.votesYes = true) (hat : s.quiet.endedAt + s.rd qmB Reg.qmVoteCfgRetryMs * msNs ≤ s.now) :
    exec .votePropose s = .next s.propose :=
  congrArg _ (if_pos (by simp [hready, hidle, hlead, hyes, hat]))

theorem exec_votePropose_none (h : s.chip.sheetsReady = false ∨ s.voteNow ≠ voteIdle ∨ s.coordinates = false ∨
    s.votesYes = false ∨ s.now < s.quiet.endedAt + s.rd qmB Reg.qmVoteCfgRetryMs * msNs) :
    exec .votePropose s = .next s :=
  congrArg _ (if_neg (by rcases h with h | h | h | h | h <;> simp [h]))

theorem exec_voteWindowTimeout (s : State) : exec .voteWindowTimeout s = .next (if s.quiet.vote == voteProposed &&
    (decide (s.quiet.proposedAt + s.rd qmB Reg.qmVoteCfgVoteMs * msNs ≤ s.now) || decide (s.quiet.tc ≤ s.siteNs + 2 * msNs))
    then s.abortRound (some s.siteNs) else s) := rfl

theorem exec_commitWaitTimeout (s : State) : exec .commitWaitTimeout s =
    .next (if s.quiet.vote == voteVoted && decide (s.quiet.tc ≤ s.siteNs + msNs) then s.abortRound (some s.siteNs) else s) := rfl

theorem exec_commitInstant (s : State) : exec .commitInstant s =
    .next (if s.quiet.vote == voteArmed && decide (s.quiet.tc + 50000 ≤ s.siteNs) then s.commitQuiet else s) := rfl

end VotePropose

/-! ### Frames of the stack lanes (R692, R695) -/

/-- A frame that travels on the stack lanes: anything but those of a mirror. -/
def onStack : EpkBody → Bool
  | .impression .. | .proof .. | .ack .. => false
  | _ => true

/-- The state that has heard a frame, and relayed it where it travels on. -/
def State.epkHeard (s : State) (h : EpkHdr) (b : EpkBody) : State :=
  if !onStack b then s.heardOn h.lane h.origin else (s.heardOn h.lane h.origin).relay h b

theorem State.epkIn_eq (s : State) (h : EpkHdr) (b : EpkBody) (f : State → State) : s.epkIn h b f =
    if !s.laneIsUp h.lane || (!onStack b && decide (2 ≤ h.lane.val)) then s
    else if h.origin.val ≠ (s.epkHeard h b).myNode ∧ (h.dest = everyNode ∨ h.dest.val = (s.epkHeard h b).myNode) then
      f (s.epkHeard h b)
    else s.epkHeard h b := by
  cases b <;> rfl

section EpkIn
variable {s : State} {h : EpkHdr} {b : EpkBody} (hb : onStack b = true) (f : State → State)
include hb

theorem State.epkIn_stack : s.epkIn h b f =
    if s.laneIsUp h.lane = false then s
    else if h.origin.val ≠ ((s.heardOn h.lane h.origin).relay h b).myNode ∧
        (h.dest = everyNode ∨ h.dest.val = ((s.heardOn h.lane h.origin).relay h b).myNode) then
      f ((s.heardOn h.lane h.origin).relay h b)
    else (s.heardOn h.lane h.origin).relay h b := by
  have hheard : s.epkHeard h b = (s.heardOn h.lane h.origin).relay h b := if_neg (by simp [hb])
  rw [State.epkIn_eq, hheard, hb]
  simp only [Bool.not_true, Bool.false_and, Bool.or_false, Bool.not_eq_true']

theorem State.epkIn_down (hdown : s.laneIsUp h.lane = false) : s.epkIn h b f = s := by
  rw [State.epkIn_stack hb, if_pos hdown]

variable (hup : s.laneIsUp h.lane = true)
include hup

/-- A frame of this node's own, or for another, is heard and relayed. -/
theorem State.epkIn_past {t : State} (ht : t = (s.heardOn h.lane h.origin).relay h b)
    (hpast : h.origin.val = t.myNode ∨ (h.dest ≠ everyNode ∧ h.dest.val ≠ t.myNode)) : s.epkIn h b f = t := by
  subst ht
  rw [State.epkIn_stack hb, if_neg (by simp [hup]), if_neg]
  rintro ⟨horigin, hdest⟩
  exact hpast.elim horigin (fun hother => hdest.elim hother.1 hother.2)

/-- A frame for this node is heard, relayed and used. -/
theorem State.epkIn_used {t : State} (ht : t = (s.heardOn h.lane h.origin).relay h b) (horigin : h.origin.val ≠ t.myNode)
    (hdest : h.dest = everyNode ∨ h.dest.val = t.myNode) : s.epkIn h b f = f t := by
  subst ht
  rw [State.epkIn_stack hb, if_neg (by simp [hup]), if_pos ⟨horigin, hdest⟩]

end EpkIn

/-! ### What a vote or wake frame is used for (R673, R677) -/

def State.usePropose (t : State) (round tc : Nat) : State :=
  if t.voteNow ≠ voteIdle then t
  else if t.votesYes then (t.takeRound round tc voteVoted).broadcast (.vote round true)
  else t.broadcast (.vote round false)

def State.useVote (t : State) (origin : Fin 8) (round : Nat) (yes : Bool) : State :=
  if t.quiet.vote = voteProposed && t.sameRound round then
    if yes then State.tryCommit { t with quiet := { t.quiet with yes := insertAsc origin t.quiet.yes } }
    else t.abortRound (some t.siteNs)
  else t

def State.useCommit (t : State) (round : Nat) : State :=
  if t.quiet.vote = voteVoted && t.sameRound round then { t with quiet := { t.quiet with vote := voteArmed } } else t

def State.useAbort (t : State) (round stamp : Nat) : State :=
  if t.sameRound round && t.abortable stamp then t.abortRound none else t

def State.useWake (t : State) (plates stamp : Nat) : State :=
  let a := if t.quiet.vote == voteArmed && t.abortable stamp then t.abortRound none else t
  if a.coordinatedAsleep plates = 0 then a else a.requestWake wakeEpk (a.coordinatedAsleep plates)

theorem exec_proposeReceived (h : EpkHdr) (round : BitVec 8) (tc : Nat) (s : State) : exec (.proposeReceived h round tc) s =
    .next (s.epkIn h (.propose round.toNat tc) (fun t => t.usePropose round.toNat tc)) := rfl

theorem exec_voteReceived (h : EpkHdr) (round : BitVec 8) (yes : Bool) (s : State) : exec (.voteReceived h round yes) s =
    .next (s.epkIn h (.vote round.toNat yes) (fun t => t.useVote h.origin round.toNat yes)) := rfl

theorem exec_commitReceived (h : EpkHdr) (round : BitVec 8) (s : State) : exec (.commitReceived h round) s =
    .next (s.epkIn h (.commit round.toNat) (fun t => t.useCommit round.toNat)) := rfl

theorem exec_abortReceived (h : EpkHdr) (round : BitVec 8) (stamp : Nat) (s : State) : exec (.abortReceived h round stamp) s =
    .next (s.epkIn h (.abort round.toNat stamp) (fun t => t.useAbort round.toNat stamp)) := rfl

theorem exec_wakeFrameReceived (h : EpkHdr) (plates : BitVec 8) (stamp : Nat) (s : State) :
    exec (.wakeFrameReceived h plates stamp) s =
      .next (s.epkIn h (.wake plates.toNat stamp) (fun t => t.useWake plates.toNat stamp)) := rfl

/-- Two ways to spell the test of an armed round. -/
theorem State.useWake_eq (t : State) (plates stamp : Nat) : ∃ a : State,
    a = (if t.quiet.vote = voteArmed ∧ t.abortable stamp = true then t.abortRound none else t) ∧
    t.useWake plates stamp = if a.coordinatedAsleep plates = 0 then a else a.requestWake wakeEpk (a.coordinatedAsleep plates) := by
  refine ⟨_, rfl, ?_⟩
  simp only [State.useWake, Bool.and_eq_true, beq_iff_eq]

section UseFrames
variable {t : State} {round : Nat}

theorem State.useVote_past {origin : Fin 8} {yes : Bool} (h : t.quiet.vote ≠ voteProposed ∨ t.sameRound round = false) :
    t.useVote origin round yes = t :=
  if_neg (by rcases h with h | h <;> simp [h])

theorem State.useVote_under_way {origin : Fin 8} {yes : Bool} (hv : t.quiet.vote = voteProposed)
    (hr : t.sameRound round = true) : t.useVote origin round yes =
      if yes then State.tryCommit { t with quiet := { t.quiet with yes := insertAsc origin t.quiet.yes } }
      else t.abortRound (some t.siteNs) :=
  if_pos (by simp [hv, hr])

theorem State.useCommit_voted (hv : t.quiet.vote = voteVoted) (hr : t.sameRound round = true) :
    t.useCommit round = { t with quiet := { t.quiet with vote := voteArmed } } :=
  if_pos (by simp [hv, hr])

theorem State.useCommit_past (h : t.quiet.vote ≠ voteVoted ∨ t.sameRound round = false) : t.useCommit round = t :=
  if_neg (by rcases h with h | h <;> simp [h])

theorem State.useAbort_ends {stamp : Nat} (hr : t.sameRound round = true) (ha : t.abortable stamp = true) :
    t.useAbort round stamp = t.abortRound none :=
  if_pos (by simp [hr, ha])

theorem State.useAbort_past {stamp : Nat} (h : t.sameRound round = false ∨ t.abortable stamp = false) :
    t.useAbort round stamp = t :=
  if_neg (by rcases h with h | h <;> simp [h])

end UseFrames

/-! ### The statement -/

/-- Settles O58: requests, samples and timers by when they are due, and frames by the lane, the node and the round. -/
theorem quietRequestsVotesAndWakes : Obligations.QuietRequestsVotesAndWakes := by
  refine ⟨fun fn data s hw => exec_quietHostStateWrite_through hw data,
    fun fn data s hw => congrArg _ (State.mmioWrite_through hw _), fun s => ⟨fun hup hl1 => ?_, fun hno => ?_⟩,
    fun p s => ⟨exec_quietLapse_none, fun at_ hreq => ⟨fun hyoung => ?_, fun hquiet hold => ?_⟩⟩,
    fun i pin s => ⟨fun hready hballs => ?_, fun hno => ?_, exec_siteInStuck_none,
      fun hlevel hnew hat => ⟨_, rfl, exec_siteInStuck_stuck hlevel hnew hat⟩⟩,
    fun s => ⟨exec_votePropose_due, exec_votePropose_none, fun hv hend => ?_, fun hv => ?_, fun hnow htc => ?_,
      fun hv htc => ?_, fun hno => ?_, fun hv htc => ?_, fun hno => ?_⟩,
    fun h round plates tc stamp yes s => ?_⟩
  · rw [exec_l1Exit, if_pos (by simp [hup, hl1])]
  · rw [exec_l1Exit, if_neg (by rcases hno with h | h <;> simp [h])]
  · rw [exec_quietLapse_some hreq, if_neg (by rcases hyoung with h | h <;> simp [h])]
  · rw [exec_quietLapse_some hreq, if_pos (by simp [hquiet, hold])]
  · rw [exec_siteInSample, if_pos (by simp [hready, hballs])]
  · rw [exec_siteInSample, if_neg (by rcases hno with h | h <;> simp [h])]
  · rw [exec_voteWindowTimeout, if_pos (by simpa [hv] using hend)]
  · rw [exec_voteWindowTimeout, if_neg (by simp [hv])]
  · rw [exec_voteWindowTimeout, if_neg (by simp [hnow, htc])]
  · rw [exec_commitWaitTimeout, if_pos (by simp [hv, htc])]
  · rw [exec_commitWaitTimeout, if_neg (by rcases hno with h | h <;> simp [h])]
  · rw [exec_commitInstant, if_pos (by simp [hv, htc])]
  · rw [exec_commitInstant, if_neg (by rcases hno with h | h <;> simp [h])]
  · rw [exec_proposeReceived, exec_voteReceived, exec_commitReceived, exec_abortReceived, exec_wakeFrameReceived]
    refine ⟨fun hdown => ?_, fun hup => ⟨⟨_, rfl, fun hpast => ?_, fun horigin hdest => ?_⟩,
      ⟨_, rfl, fun hpast => ?_, fun horigin hdest => ?_⟩, ⟨_, rfl, fun hpast => ?_, fun horigin hdest => ?_⟩,
      ⟨_, rfl, fun hpast => ?_, fun horigin hdest => ?_⟩, ⟨_, rfl, fun hpast => ?_, fun horigin hdest => ?_⟩⟩⟩
    · exact ⟨congrArg _ (State.epkIn_down rfl _ hdown), congrArg _ (State.epkIn_down rfl _ hdown),
        congrArg _ (State.epkIn_down rfl _ hdown), congrArg _ (State.epkIn_down rfl _ hdown),
        congrArg _ (State.epkIn_down rfl _ hdown)⟩
    · rw [State.epkIn_past rfl _ hup rfl hpast]
    · rw [State.epkIn_used rfl _ hup rfl horigin hdest]
      exact ⟨fun hbusy => congrArg _ (if_pos hbusy), fun hidle hyes => by rw [State.usePropose, if_neg (not_not.2 hidle), if_pos hyes],
        fun hidle hno => by rw [State.usePropose, if_neg (not_not.2 hidle), if_neg (by simp [hno])]⟩
    · rw [State.epkIn_past rfl _ hup rfl hpast]
    · rw [State.epkIn_used rfl _ hup rfl horigin hdest]
      refine ⟨fun hpast => congrArg _ (State.useVote_past hpast), fun hv hr hno => ?_, fun hv hr hyes => ⟨_, rfl, ?_⟩⟩
      · rw [State.useVote_under_way hv hr, if_neg (by simp [hno])]
      · rw [State.useVote_under_way hv hr, if_pos hyes]
    · rw [State.epkIn_past rfl _ hup rfl hpast]
    · rw [State.epkIn_used rfl _ hup rfl horigin hdest]
      exact ⟨fun hv hr => congrArg _ (State.useCommit_voted hv hr), fun hpast => congrArg _ (State.useCommit_past hpast)⟩
    · rw [State.epkIn_past rfl _ hup rfl hpast]
    · rw [State.epkIn_used rfl _ hup rfl horigin hdest]
      exact ⟨fun hr ha => congrArg _ (State.useAbort_ends hr ha), fun hpast => congrArg _ (State.useAbort_past hpast)⟩
    · rw [State.epkIn_past rfl _ hup rfl hpast]
    · rw [State.epkIn_used rfl _ hup rfl horigin hdest]
      obtain ⟨a, ha, hused⟩ := State.useWake_eq ((s.heardOn h.lane h.origin).relay h (.wake plates.toNat stamp)) plates.toNat stamp
      exact ⟨a, ha, congrArg _ hused⟩

end Sys2Proof.Machine
end

section
-- One proof at a time: elaborated side by side, they need more memory than the check allows.
set_option Elab.async false

/-! SUPPORT. The Epkuone lanes and the stack (21_pairs_stacks.md R686-R697, R724-R736): what each lane timer, frame and report does. -/

namespace Sys2Proof.Machine

/-! ### The sheet's intent and the agent's reset (R734, R736) -/

section EpkSheet
variable {s : State} {fn : Fin 65} {data : Word}

theorem exec_epkHostStateWrite_through (hw : s.lockedWrite fn ekB (ekB + 0x20) = true) :
    exec (.epkHostStateWrite fn data) s = .next (State.refreshLanes (State.storeIntent
      (if (if intentOp data.toNat = opOff then opOff else opRunning) = opOff then forUpTo 8 (fun p t => t.releasePlate p) s else s)
      ekB (if intentOp data.toNat = opOff then opOff else opRunning) 0)) := by
  refine congrArg _ ((State.mmioWrite_through (State.lockedWrite_through hw) _).trans ?_)
  rw [State.epkIntent, if_neg (by simp [State.lockedWrite_may hw])]

theorem exec_agentReset_through (hw : s.writesThrough fn (ekB + 0xD8) = true) :
    exec (.agentReset fn data) s = .next (s.agentReset fn data.toNat) :=
  congrArg _ (State.mmioWrite_through hw _)

end EpkSheet

/-! ### Bring-up and loss of a lane (R688, R691, R693) -/


theorem exec_laneBlockLock (l : Fin 4) (s : State) : exec (.laneBlockLock l) s =
    .next (if s.laneState l = laneTrain ∧ !s.serdesIdle then s.setLane l laneLock else s) := rfl

/-- The HELLO that leaves on lane `l`. -/
def State.sendHello (s : State) (l : Fin 4) : State :=
  s.sendEpk [l.val] none everyNode (.hello Config.uid 0x2048 s.sid (s.isSet crB Reg.crStrapsPairEn) l s.myNode)

theorem exec_helloSend (l : Fin 4) (s : State) : exec (.helloSend l) s =
    .next (if s.laneState l = laneLock ∨ s.laneState l = laneHello then
      if s.laneState l = laneLock then (s.sendHello l).setLane l laneHello else s.sendHello l
    else s) := rfl

theorem exec_laneTrainTimeout (l : Fin 4) (s : State) : exec (.laneTrainTimeout l) s =
    .next (if (s.laneState l = laneTrain ∨ s.laneState l = laneLock ∨ s.laneState l = laneHello) ∧
      (s.ekLane l).since + 100 * msNs ≤ s.now then s.setLane l laneTrain else s) := rfl

theorem exec_epkBadFrame (l : Fin 4) (s : State) : exec (.epkBadFrame l) s =
    .next (if s.laneState l = laneOff then s else s.bumpSat ekB Reg.ekLaneCrcErr l) := rfl

/-- A lane that was UP or in CONFLICT trains again. -/
def State.laneGoesDown (s : State) (l : Nat) : State :=
  (((s.setLane l laneTrain).bumpSat ekB Reg.ekLaneDowns l).raise ekB evLaneChange).notePair s

theorem exec_laneLoss (l : Fin 4) (lock : Bool) (s : State) : exec (.laneLoss l lock) s =
    .next (if (s.laneState l = laneUp ∨ s.laneState l = laneConflict) ∧ (lock ∨ (s.ekLane l).heard + s.lossNs ≤ s.now) then
      if s.laneState l = laneUp then (s.laneGoesDown l).voteLinkDown else s.laneGoesDown l
    else s) := rfl

theorem exec_helloReceived (l lane : Fin 4) (peer : BitVec 64) (device : BitVec 16) (sid : Fin 4) (pairEn : Bool)
    (node : Fin 8) (s : State) : exec (.helloReceived l peer device sid pairEn lane node) s =
    .next (if s.laneState l = laneHello then
      if s.helloRefused l peer.toNat device.toNat sid pairEn node then
        State.setEkLane ((s.setLane l laneConflict).raise ekB evConflict) l
          { ((s.setLane l laneConflict).raise ekB evConflict).ekLane l with
            heard := ((s.setLane l laneConflict).raise ekB evConflict).now }
      else s.laneComesUp l peer.toNat node
    else if s.laneState l = laneUp ∨ s.laneState l = laneConflict then s.setEkLane l { s.ekLane l with heard := s.now }
    else s) := rfl

theorem State.helloRefused_of_device {s : State} {l peer device sid node : Nat} {pairEn : Bool} (h : device ≠ 0x2048) :
    s.helloRefused l peer device sid pairEn node = true := by
  simp [State.helloRefused, h]

/-- What each timer and frame of a lane's bring-up and loss does, by the lane's state. -/
theorem lane_timers (l : Fin 4) (s : State) :
    (s.laneState l = laneTrain → s.serdesIdle = false → exec (.laneBlockLock l) s = .next (s.setLane l laneLock)) ∧
    (s.laneState l ≠ laneTrain ∨ s.serdesIdle = true → exec (.laneBlockLock l) s = .next s) ∧
    (∃ t : State, t = s.sendHello l ∧
      (s.laneState l = laneLock → exec (.helloSend l) s = .next (t.setLane l laneHello)) ∧
      (s.laneState l = laneHello → exec (.helloSend l) s = .next t)) ∧
    (s.laneState l ≠ laneLock → s.laneState l ≠ laneHello → exec (.helloSend l) s = .next s) ∧
    ((s.laneState l = laneTrain ∨ s.laneState l = laneLock ∨ s.laneState l = laneHello) →
      (s.ekLane l).since + 100 * msNs ≤ s.now → exec (.laneTrainTimeout l) s = .next (s.setLane l laneTrain)) ∧
    ((s.laneState l ≠ laneTrain ∧ s.laneState l ≠ laneLock ∧ s.laneState l ≠ laneHello) ∨
      s.now < (s.ekLane l).since + 100 * msNs → exec (.laneTrainTimeout l) s = .next s) := by
  refine ⟨fun htrain hidle => ?_, fun hno => ?_, ⟨_, rfl, fun hlock => ?_, fun hhello => ?_⟩, fun hlock hhello => ?_,
    fun hst hat => ?_, fun hno => ?_⟩
  · rw [exec_laneBlockLock, if_pos (by simp [htrain, hidle])]
  · rw [exec_laneBlockLock, if_neg (by rcases hno with h | h <;> simp [h])]
  · rw [exec_helloSend, if_pos (.inl hlock), if_pos hlock]
  · rw [exec_helloSend, if_pos (.inr hhello), if_neg (by rw [hhello]; decide)]
  · rw [exec_helloSend, if_neg (not_or.2 ⟨hlock, hhello⟩)]
  · rw [exec_laneTrainTimeout, if_pos ⟨hst, hat⟩]
  · rw [exec_laneTrainTimeout, if_neg]
    rintro ⟨hst, hat⟩
    rcases hno with ⟨htrain, hlock, hhello⟩ | hsoon
    · exact hst.elim htrain (fun h => h.elim hlock hhello)
    · omega

/-- A lane is lost in CONFLICT and in UP, for want of block lock or of frames, and in no other case. -/
theorem lane_loss (l : Fin 4) (s : State) :
    (s.laneState l = laneConflict → ∀ lock : Bool, (lock = true ∨ (s.ekLane l).heard + s.lossNs ≤ s.now) →
      exec (.laneLoss l lock) s = .next (s.laneGoesDown l)) ∧
    (s.laneState l = laneUp → ∀ lock : Bool, (lock = true ∨ (s.ekLane l).heard + s.lossNs ≤ s.now) →
      exec (.laneLoss l lock) s = .next (s.laneGoesDown l).voteLinkDown) ∧
    (s.laneState l ≠ laneUp → s.laneState l ≠ laneConflict → ∀ lock : Bool, exec (.laneLoss l lock) s = .next s) ∧
    (s.now < (s.ekLane l).heard + s.lossNs → exec (.laneLoss l false) s = .next s) := by
  refine ⟨fun hst lock hlost => ?_, fun hst lock hlost => ?_, fun hup hconf lock => ?_, fun hsoon => ?_⟩
  · rw [exec_laneLoss, if_pos ⟨.inr hst, hlost⟩, if_neg (by rw [hst]; decide)]
  · rw [exec_laneLoss, if_pos ⟨.inl hst, hlost⟩, if_pos hst]
  · rw [exec_laneLoss, if_neg (fun h => h.1.elim hup hconf)]
  · rw [exec_laneLoss, if_neg (by simp; omega)]


/-! ### Markers, reports, leases and absence (R695, R724-R729) -/

/-- MARKER_SEND's frame on lane `l`. -/
def State.sendMarker (l : Nat) (t : State) : State :=
  (t.sendEpk [l] none everyNode (.marker ((t.siteNs : Int) * 65536) 0 t.tb.state
    t.tbSelected (t.ekLane l).lastSeq (8 * (t.now - (t.ekLane l).lastAt)))).setEkLane l { t.ekLane l with
      sent := ((Sparse.get 0 t.epk.seqs 0x02, t.now) :: (t.ekLane l).sent).take 64 }

theorem exec_markerSend (s : State) : exec .markerSend s = .next (forEach s.upLanes State.sendMarker s) := rfl

theorem exec_epkTimeSourceLoss (s : State) : exec .epkTimeSourceLoss s =
    .next (if s.tbQualified 4 && decide (s.epk.markerAt + 3 * msNs ≤ s.now) then s.dropMarkers else s) := rfl

/-- The charge goes to the master; the master forms the leases. -/
def State.reportToMaster (a : State) : State :=
  match a.master with
  | none => a
  | some m => if m = a.myNode then a.grantLeases else a.sendEpk a.upLanes none (Fin.ofNat 9 m) (.report a.activeCharge)

theorem exec_stkReportSend (s : State) : exec .stkReportSend s =
    .next (if s.rd ekB Title.hostOp ≠ opRunning ∨ !s.chip.sheetsReady then s
      else (s.wr ekB Reg.ekStkLeaseCharge (min 16383 s.activeCharge)).reportToMaster) := rfl

theorem State.reportToMaster_none {a : State} (h : a.master = none) : a.reportToMaster = a := by
  rw [State.reportToMaster, h]

theorem State.reportToMaster_self {a : State} (h : a.master = some a.myNode) : a.reportToMaster = a.grantLeases := by
  rw [State.reportToMaster, h]
  exact if_pos rfl

theorem State.reportToMaster_other {a : State} {m : Nat} (h : a.master = some m) (hm : m ≠ a.myNode) :
    a.reportToMaster = a.sendEpk a.upLanes none (Fin.ofNat 9 m) (.report a.activeCharge) := by
  rw [State.reportToMaster, h]
  exact if_neg hm

/-- R695: node `n` has fallen silent. -/
def State.forgetNode (s : State) (n : Nat) : State :=
  { s with epk := { s.epk with
    heard := Sparse.del s.epk.heard n, reports := Sparse.del s.epk.reports n, clocks := Sparse.del s.epk.clocks n } }

theorem exec_nodeAbsent (n : Fin 8) (s : State) : exec (.nodeAbsent n) s =
    .next (if (Sparse.find? s.epk.heard n).isSome && !s.nodePresent n then
      (((s.forgetNode n).noteMaster s).noteOrigin).voteLinkDown else s) := rfl

def State.useReport (t : State) (origin : Fin 8) (charge : Nat) : State :=
  if t.master = some t.myNode then
    State.grantLeases { t with epk := { t.epk with reports := Sparse.put 0 t.epk.reports origin.val charge } }
  else t

def State.useLease (t : State) (origin : Fin 8) (leases : List Nat) : State :=
  if t.master = some origin.val then t.takeLease (min 16383 ((leases[t.myNode]?).getD 0)) else t

theorem exec_markerReceived (h : EpkHdr) (time corr : Int) (st src seq held : Nat) (s : State) :
    exec (.markerReceived h time corr st src seq held) s = .next (s.epkIn h (.marker time corr st src seq held)
      (fun t => t.useMarker h time corr st src seq held)) := rfl

theorem exec_stkReportReceived (h : EpkHdr) (charge : Nat) (s : State) : exec (.stkReportReceived h charge) s =
    .next (s.epkIn h (.report charge) (fun t => t.useReport h.origin charge)) := rfl

theorem exec_stkLeaseReceived (h : EpkHdr) (leases : List Nat) (s : State) : exec (.stkLeaseReceived h leases) s =
    .next (s.epkIn h (.lease leases) (fun t => t.useLease h.origin leases)) := rfl

/-! ### The statement -/

/-- Settles O59: each timer by the lane's state, each frame by its lane and node, and reports and leases by the master. -/
theorem lanesComeUpAndTheStackSharesTimeAndLoad : Obligations.LanesComeUpAndTheStackSharesTimeAndLoad := by
  refine ⟨fun fn data s hw => ?_, fun l s => ?_, fun l lane peer device sid pairEn node s => ?_,
    fun h time corr st src seq held charge leases s => ?_, fun s => ?_, fun fn data s hw => ?_⟩
  · rw [exec_epkHostStateWrite_through hw]
    refine ⟨fun hrun => ?_, fun hoff => ?_⟩
    · rw [if_neg hrun, if_neg (by decide)]
    · rw [if_pos hoff, if_pos rfl]
  · obtain ⟨hlock, hnoLock, hhello, hnoHello, htime, hnoTime⟩ := lane_timers l s
    refine ⟨hlock, hnoLock, hhello, hnoHello, htime, hnoTime, fun hoff => ?_, fun hon => ?_, lane_loss l s⟩
    · rw [exec_epkBadFrame, if_pos hoff]
    · rw [exec_epkBadFrame, if_neg hon]
  · rw [exec_helloReceived]
    refine ⟨fun hst hbad => ⟨_, rfl, ?_⟩, fun hst hgood => ?_, fun hst => ?_, fun hhello hup hconf => ?_,
      State.helloRefused_of_device⟩
    · rw [if_pos hst, if_pos hbad]
    · rw [if_pos hst, if_neg (by simp [hgood])]
    · rw [if_neg (by rcases hst with h | h <;> rw [h] <;> decide), if_pos hst]
    · rw [if_neg hhello, if_neg (not_or.2 ⟨hup, hconf⟩)]
  · rw [exec_markerReceived, exec_stkReportReceived, exec_stkLeaseReceived]
    refine ⟨fun hdown => ?_, fun hup => ⟨⟨_, rfl, fun hpast => ?_, fun horigin hdest => ?_⟩,
      ⟨_, rfl, fun hpast => ?_, fun horigin hdest => ?_⟩, ⟨_, rfl, fun hpast => ?_, fun horigin hdest => ?_⟩⟩⟩
    · exact ⟨congrArg _ (State.epkIn_down rfl _ hdown), congrArg _ (State.epkIn_down rfl _ hdown),
        congrArg _ (State.epkIn_down rfl _ hdown)⟩
    · rw [State.epkIn_past rfl _ hup rfl hpast]
    · rw [State.epkIn_used rfl _ hup rfl horigin hdest]
    · rw [State.epkIn_past rfl _ hup rfl hpast]
    · rw [State.epkIn_used rfl _ hup rfl horigin hdest]
      exact ⟨fun hno => congrArg _ (if_neg hno), fun hself => ⟨_, rfl, congrArg _ (if_pos hself)⟩⟩
    · rw [State.epkIn_past rfl _ hup rfl hpast]
    · rw [State.epkIn_used rfl _ hup rfl horigin hdest]
      exact ⟨fun hmaster => congrArg _ (if_pos hmaster), fun hno => congrArg _ (if_neg hno)⟩
  · rw [exec_markerSend, exec_epkTimeSourceLoss, exec_stkReportSend]
    refine ⟨fun hnone => ?_, ⟨State.sendMarker, fun l t => rfl, rfl⟩, fun hq hat => ?_, fun hno => ?_, fun hno => ?_,
      fun hrun hready => ⟨_, rfl, ?_⟩, fun n hheard habsent => ⟨_, rfl, ?_⟩, fun n hno => ?_⟩
    · rw [hnone]
      rfl
    · rw [if_pos (by simp [hq, hat])]
    · rw [if_neg (by rcases hno with h | h <;> simp [h])]
    · rw [if_pos (by simpa using hno)]
    · rw [if_neg (by simp [hrun, hready])]
      exact ⟨fun h => congrArg _ (State.reportToMaster_none h), fun h => congrArg _ (State.reportToMaster_self h),
        fun m h hm => congrArg _ (State.reportToMaster_other h hm)⟩
    · rw [exec_nodeAbsent, if_pos (by simp [hheard, habsent])]
      rfl
    · rw [exec_nodeAbsent, if_neg (by rcases hno with h | h <;> simp [h])]
  · rw [exec_agentReset_through hw, State.agentReset]
    refine ⟨fun hmay hbit => ⟨_, rfl, ?_⟩, fun hno => ?_⟩
    · rw [if_pos (by simp [hmay, hbit])]
    · rw [if_neg (by rcases hno with h | h <;> simp [h])]

end Sys2Proof.Machine
end

section
-- One proof at a time: elaborated side by side, they need more memory than the check allows.
set_option Elab.async false

/-! SUPPORT. The front end's timebase half (15_front_end.md R513-R528): its start, its readings and their rate, coefficients,
faults of the excitation, and the EFC output. -/

namespace Sys2Proof.Machine

/-! ### A channel becomes invalid (R516, R519) -/

theorem State.thInvalid_therms (s : State) (n : Nat) :
    (s.thInvalid n).therms = Sparse.put {} s.therms n { coefs := (s.therm n).coefs } := by
  rw [State.thInvalid]
  split
  · rw [State.raise_eq]
    rfl
  · rfl

theorem State.therm_thInvalid {s : State} (h : Sparse.wf s.therms = true) (n j : Nat) :
    (s.thInvalid n).therm j = if j = n then { coefs := (s.therm n).coefs } else s.therm j := by
  rw [State.therm, State.thInvalid_therms, Sparse.get_put h, State.therm]
  rfl

theorem State.therm_setTherm {s : State} (h : Sparse.wf s.therms = true) (n j : Nat) (v : Therm) :
    (s.setTherm n v).therm j = if j = n then v else s.therm j :=
  Sparse.get_put h

theorem State.setTherm_wf {s : State} (h : Sparse.wf s.therms = true) (n : Nat) (v : Therm) :
    Sparse.wf (s.setTherm n v).therms = true :=
  Sparse.wf_put h

theorem State.thInvalid_wf {s : State} (h : Sparse.wf s.therms = true) (n : Nat) : Sparse.wf (s.thInvalid n).therms = true := by
  rw [State.thInvalid_therms]
  exact Sparse.wf_put h

theorem State.rdS_thInvalid_coef {s : State} (h : Sparse.wf s.regs = true) (n k : Nat) :
    (s.thInvalid n).rdS feB Reg.feCoefC k = s.rdS feB Reg.feCoefC k := by
  rw [State.thInvalid]
  split
  · rw [State.rdS, State.rd_raise_ne]
    · rfl
    · exact h
    · simp only [fieldKey, Reg.feCoefC, Title.event]
      omega
  · rfl

theorem State.feStop_invalid {s : State} (h : Sparse.wf s.therms = true) (n : Fin 2) : (s.feStop.therm n).valid = false := by
  change (((s.thInvalid 0).thInvalid 1).therm n).valid = false
  rw [State.therm_thInvalid (State.thInvalid_wf h 0) 1 n]
  split
  · rfl
  · next hn =>
    rw [State.therm_thInvalid h, if_pos (by omega)]

/-! ### The intent and the excitation (R520, R521, R528) -/

section FeSheet
variable {s : State} {fn : Fin 65} {data : Word}

theorem exec_frontEndHostStateWrite_through (hw : s.lockedWrite fn feB (feB + 0x20) = true) :
    exec (.frontEndHostStateWrite fn data) s = .next (if intentOp data.toNat = opOff then
        ((s.storeIntent feB opOff 0).setOp feB opOff).feStop
      else if (s.storeIntent feB opRunning 0).feOp = opOff then (s.storeIntent feB opRunning 0).feStart
      else s.storeIntent feB opRunning 0) := by
  refine congrArg _ ((State.mmioWrite_through (State.lockedWrite_through hw) _).trans ?_)
  rw [State.feIntent, if_neg (by simp [State.lockedWrite_may hw])]

theorem exec_coefLoadWrite_through (hw : s.writesThrough fn (feB + 0x44) = true) :
    exec (.coefLoadWrite fn data) s = .next (s.feLoadEffect fn data.toNat) :=
  congrArg _ (State.mmioWrite_through hw _)

theorem exec_efcManualWrite_through (hw : s.lockedWrite fn feB (feB + 0x78) = true) :
    exec (.efcManualWrite fn data) s = .next (s.efcManualEffect fn data.toNat) :=
  congrArg _ (State.mmioWrite_through (State.lockedWrite_through hw) _)

end FeSheet

theorem exec_excitationFault (s : State) : exec .excitationFault s =
    .next (if (s.feOp = opStarting ∨ s.feOp = opRunning) ∧ s.rd feB Reg.feCtrlThEn ≠ 0 then
      State.feStop { ((s.setOp feB opFault).bumpSat feB Reg.feCountsExcFault).raise feB evExcFault with
        feAt := (((s.setOp feB opFault).bumpSat feB Reg.feCountsExcFault).raise feB evExcFault).now }
    else s) := rfl

theorem exec_excitationRetry (s : State) : exec .excitationRetry s =
    .next (if s.feOp = opFault ∧ s.feAt + secNs ≤ s.now ∧ s.rd feB Title.hostOp = opRunning then s.feStart else s) := rfl

/-! ### Readings and their rate (R517, R520) -/

/-- The first reading of a start is due (R520). -/
def State.feReady (s : State) : Bool := s.feOp == opStarting && decide (s.feAt + 110 * msNs ≤ s.now)

theorem exec_frontEndReading (th0 th1 : Bridge) (die : Int) (s : State) : exec (.frontEndReading th0 th1 die) s =
    .next (if s.feOp = opRunning ∨ s.feReady = true then
      (if s.feReady = true then s.setOp feB opRunning else s).feReadings th0 th1 die else s) := rfl

theorem State.feReady_ne {s : State} (h : s.feOp ≠ opStarting ∨ s.now < s.feAt + 110 * msNs) : s.feReady = false := by
  rcases h with h | h <;> simp [State.feReady, h]

/-- R517: the means of channel `h` once its last 10 readings are one more. -/
def thMeans (h : Therm) : List Int := (((h.acc.drop (h.acc.length - 10)).foldl (· + ·) 0) :: h.means).take 600

/-- R517: the readings of a second become a mean. -/
def State.thMeaned (s : State) (n : Nat) : State :=
  s.setTherm n { s.therm n with acc := (s.therm n).acc.take ((s.therm n).acc.length - 10), means := thMeans (s.therm n) }

/-- R517: the rate of 600 means is stored. -/
def State.thRated (a : State) (n : Fin 2) (means : List Int) : State :=
  let d := a.drawRound (rateNum means) rateDen
  let e := d.2.rateWord d.1
  e.2.wrS hmB (if n = 0 then Reg.hmRateTh0Rate else Reg.hmRateTh1Rate) e.1

theorem exec_frontEndRateSecond (n : Fin 2) (s : State) : exec (.frontEndRateSecond n) s =
    .next (if (s.therm n).valid ∧ 10 ≤ (s.therm n).acc.length ∧ s.feOp = opRunning then
      if (thMeans (s.therm n)).length < 600 then s.thMeaned n
      else if n = 0 then
        { (s.thMeaned n).thRated n (thMeans (s.therm n)) with hold := {
          ((s.thMeaned n).thRated n (thMeans (s.therm n))).hold with
            theta := ((s.thMeaned n).thRated n (thMeans (s.therm n))).rdS hmB Reg.hmTempTh0 - 3200
            rate := ((s.thMeaned n).thRated n (thMeans (s.therm n))).rdS hmB Reg.hmRateTh0Rate } }
      else (s.thMeaned n).thRated n (thMeans (s.therm n))
    else s) := rfl

/-! ### Coefficients (R513) -/

/-- The coefficients of channel `n` as the sheet holds them. -/
def State.thCoefs (s : State) (n : Nat) : List Int := (List.range 16).map (fun k => s.rdS feB Reg.feCoefC (16 * n + k))

/-- R513, R516: what FE_TH_CFG does to channel `n`; `old` is what it was. -/
def State.loadChannel (data old n : Nat) (t : State) : State :=
  if bitAt data n then (t.thInvalid n).setTherm n { (t.thInvalid n).therm n with coefs := t.thCoefs n }
  else if bitAt old n then t.thInvalid n else t

theorem State.feLoadEffect_locked {s : State} {fn data : Nat} (h : s.mayWriteL feB (masterOfFn fn) = true) :
    s.feLoadEffect fn data = forUpTo 2 (State.loadChannel data (s.rd feB Reg.feThCfgLoaded)) (s.wr feB Reg.feThCfgLoaded data) :=
  if_neg (by simp [h])

section LoadChannel
variable {t : State} (data old n : Nat)

theorem State.loadChannel_coefs (h : Sparse.wf t.regs = true) (j : Nat) : (t.loadChannel data old n).thCoefs j = t.thCoefs j := by
  refine List.map_congr_left (fun k _ => ?_)
  rw [State.loadChannel]
  split
  · exact State.rdS_thInvalid_coef h n _
  · split
    · exact State.rdS_thInvalid_coef h n _
    · rfl

theorem State.loadChannel_therms (h : Sparse.wf t.therms = true) : Sparse.wf (t.loadChannel data old n).therms = true := by
  rw [State.loadChannel]
  split
  · exact State.setTherm_wf (State.thInvalid_wf h n) n _
  · split
    · exact State.thInvalid_wf h n
    · exact h

theorem State.therm_loadChannel_ne (h : Sparse.wf t.therms = true) {j : Nat} (hj : j ≠ n) :
    (t.loadChannel data old n).therm j = t.therm j := by
  have hinvalid : (t.thInvalid n).therm j = t.therm j := by rw [State.therm_thInvalid h, if_neg hj]
  rw [State.loadChannel]
  split
  · rw [State.therm_setTherm (State.thInvalid_wf h n), if_neg hj, hinvalid]
  · split
    · exact hinvalid
    · rfl

/-- A channel that is named is invalid, and has the sheet's coefficients. -/
theorem State.therm_loadChannel_same (h : Sparse.wf t.therms = true) {data n : Nat} (hbit : bitAt data n = true) :
    ((t.loadChannel data old n).therm n).valid = false ∧ ((t.loadChannel data old n).therm n).coefs = t.thCoefs n := by
  rw [State.loadChannel, if_pos hbit, State.therm_setTherm (State.thInvalid_wf h n), if_pos rfl, State.therm_thInvalid h,
    if_pos rfl]
  exact ⟨rfl, rfl⟩

end LoadChannel

theorem State.therm_feLoadEffect {s : State} {fn data : Nat} (hinv : s.Inv) (hmay : s.mayWriteL feB (masterOfFn fn) = true)
    {n : Nat} (hn : n < 2) (hbit : bitAt data n = true) :
    ((s.feLoadEffect fn data).therm n).valid = false ∧ ((s.feLoadEffect fn data).therm n).coefs = s.thCoefs n := by
  rw [State.feLoadEffect_locked hmay]
  generalize s.rd feB Reg.feThCfgLoaded = old
  have hregs : Sparse.wf (s.wr feB Reg.feThCfgLoaded data).regs = true := State.wr_wf hinv.regs _ _ _ _
  have htherms : Sparse.wf (s.wr feB Reg.feThCfgLoaded data).therms = true := hinv.stores.therms
  have hcoefs (j : Nat) : (s.wr feB Reg.feThCfgLoaded data).thCoefs j = s.thCoefs j := by
    refine List.map_congr_left (fun k _ => ?_)
    rw [State.rdS, State.rd_wr_other (by simp only [fieldKey, Reg.feCoefC, Reg.feThCfgLoaded]; omega)]
    rfl
  generalize s.wr feB Reg.feThCfgLoaded data = t at hregs htherms hcoefs ⊢
  change (((t.loadChannel data old 0).loadChannel data old 1).therm n).valid = false ∧
    (((t.loadChannel data old 0).loadChannel data old 1).therm n).coefs = s.thCoefs n
  have htherms0 := State.loadChannel_therms data old 0 htherms
  match n, hn with
  | 0, _ =>
    rw [State.therm_loadChannel_ne _ _ _ htherms0 (by decide), ← hcoefs]
    exact State.therm_loadChannel_same old htherms hbit
  | 1, _ =>
    rw [← hcoefs, ← State.loadChannel_coefs data old 0 hregs]
    exact State.therm_loadChannel_same old htherms0 hbit

/-! ### The EFC output (R525, R526) -/

theorem exec_efcRefMeasure (mv : Nat) (s : State) : exec (.efcRefMeasure mv) s =
    .next (if decide (mv < 900) && !s.isSet feB Reg.feEfcRefLow then
      ((s.wr feB Reg.feEfcRefRefMv (min mv 8191)).wrB feB Reg.feEfcRefLow (decide (mv < 900))).raise feB evEfcRefLow
    else (s.wr feB Reg.feEfcRefRefMv (min mv 8191)).wrB feB Reg.feEfcRefLow (decide (mv < 900))) := rfl

theorem State.efcManualEffect_locked {s : State} {fn data : Nat} {en : Bool} (h : s.mayWriteL feB (masterOfFn fn) = true)
    (hen : (bitAt data 31 && s.opOf .tb 0 tbB == opOff) = en) : s.efcManualEffect fn data =
      if en = true then
        (((s.wr feB Reg.feEfcManCode data).wrB feB Reg.feEfcManManEn en).wrB feB Reg.feEfcManual en).setEfc (data % 2 ^ 18)
      else ((s.wr feB Reg.feEfcManCode data).wrB feB Reg.feEfcManManEn en).wrB feB Reg.feEfcManual en := by
  subst hen
  exact if_neg (by simp [h])

/-! ### The statement -/

/-- Settles O54: each command by the sheet's operating code, its lock and the times of R520, R521 and R525. -/
theorem frontEndStartsReadsAndFails : Obligations.FrontEndStartsReadsAndFails := by
  refine ⟨fun fn data s hw => ?_, fun th0 th1 die s => ?_, fun n s hinv => State.feStop_invalid hinv.stores.therms n,
    fun n s => ?_, fun fn data s hw => ?_, fun s => ?_, fun mv s => ⟨_, rfl, fun hlow hwas => ?_, fun hno => ?_⟩,
    fun fn data s hw => ⟨_, rfl, fun hen hoff => ?_, fun hno => ?_⟩⟩
  · rw [exec_frontEndHostStateWrite_through hw]
    refine ⟨fun hoff => ?_, fun hrun => ⟨_, rfl, fun hstart => ⟨_, rfl, ?_⟩, fun hgoing => ?_⟩⟩
    · rw [if_pos hoff]
    · rw [if_neg hrun, if_pos hstart]
      rfl
    · rw [if_neg hrun, if_neg hgoing]
  · rw [exec_frontEndReading]
    refine ⟨fun hrun hsoon => ?_, fun hrun => ?_, fun hstart hat => ?_⟩
    · rw [State.feReady_ne hsoon, if_neg (by simp [hrun])]
    · rw [State.feReady_ne (.inl (by rw [hrun]; decide)), if_pos (.inl hrun), if_neg Bool.false_ne_true]
    · have hready : s.feReady = true := by simp [State.feReady, hstart, hat]
      rw [if_pos (.inr hready), if_pos hready]
  · rw [exec_frontEndRateSecond]
    refine ⟨fun hno => ?_, fun hvalid hten hrun => ⟨_, _, rfl, rfl, fun hfew => ?_, fun hfull => ⟨_, _, _, rfl, rfl, rfl,
      fun hn => ?_, fun hn => ?_⟩⟩⟩
    · rw [if_neg (by rcases hno with h | h | h <;> simp [h])]
    · rw [if_pos ⟨hvalid, hten, hrun⟩]
      exact congrArg _ (if_pos hfew)
    · rw [if_pos ⟨hvalid, hten, hrun⟩, if_neg (show n ≠ 0 by rw [hn]; decide)]
      exact congrArg _ (if_neg (Nat.not_lt.2 hfull))
    · rw [if_pos ⟨hvalid, hten, hrun⟩, if_pos hn]
      exact congrArg _ (if_neg (Nat.not_lt.2 hfull))
  · rw [exec_coefLoadWrite_through hw]
    refine ⟨fun hno => ?_, fun hmay hinv => ⟨_, rfl, fun n hn hbit => State.therm_feLoadEffect hinv hmay hn hbit⟩⟩
    rw [State.feLoadEffect, if_pos (by simp [hno])]
  · rw [exec_excitationFault, exec_excitationRetry]
    refine ⟨fun hst hen => ⟨_, rfl, ?_⟩, fun hno => ?_, fun hst hat hrun => ⟨_, rfl, ?_⟩, fun hno => ?_⟩
    · rw [if_pos ⟨hst, hen⟩]
      rfl
    · rw [if_neg (fun h => hno.elim h.2 (fun hst => h.1.elim hst.1 hst.2))]
    · rw [if_pos ⟨hst, hat, hrun⟩]
      rfl
    · rw [if_neg]
      rintro ⟨hst, hat, hrun⟩
      exact hno.elim (absurd hst) (fun h => h.elim (Nat.not_lt.2 hat) (absurd hrun))
  · rw [exec_efcRefMeasure, if_pos (by simp [hlow, hwas])]
    rfl
  · rw [exec_efcRefMeasure, if_neg (by rcases hno with h | h <;> simp [h])]
  · rw [exec_efcManualWrite_through hw, State.efcManualEffect_locked (en := true) (State.lockedWrite_may hw) (by simp [hen, hoff]),
      if_pos rfl]
  · rw [exec_efcManualWrite_through hw, State.efcManualEffect_locked (en := false) (State.lockedWrite_may hw)
      (by rcases hno with h | h <;> simp [h]), if_neg Bool.false_ne_true]

end Sys2Proof.Machine
end

section
-- One proof at a time: elaborated side by side, they need more memory than the check allows.
set_option Elab.async false

/-! SUPPORT. The island's serial port (16_metrology.md R549-R564): what each command answers, and what a write of a parameter
leaves. -/

namespace Sys2Proof.Machine

/-! ### Commands of an island that is in reset, or none -/

section Off
variable {s : State} (hoff : s.islandOn = false)
include hoff

theorem ite_islandOn_off {α : Type} (t u : α) : (if s.islandOn = true then t else u) = u :=
  if_neg (by simp [hoff])

theorem ite_not_islandOn_off {α : Type} (t u : α) : (if (!s.islandOn) = true then t else u) = t :=
  if_pos (by simp [hoff])

theorem exec_streamFeedSend_off (k : Fin 8) : exec (.streamFeedSend k) s = .next s := by
  change execStreamFeedSend k s = _
  rw [execStreamFeedSend]
  split
  · rw [if_neg (by simp [hoff])]
  · rfl

end Off

/-! ### Commands of an island that runs -/

/-- The streams once feed `k` has the period that a command gives it. -/
def State.streamsWith (s : State) (k : Nat) (period : BitVec 16) : Sparse Stream :=
  if period = 0 then Sparse.del s.island.streams k
  else Sparse.ins s.island.streams k { period := period.toNat, sentAt := s.now }

section On
variable {s : State} (hon : s.islandOn = true)
include hon

theorem ite_islandOn_on {α : Type} (t u : α) : (if s.islandOn = true then t else u) = t :=
  if_pos hon

theorem ite_not_islandOn_on {α : Type} (t u : α) : (if (!s.islandOn) = true then t else u) = u :=
  if_neg (by simp [hon])

theorem exec_uartReadParam_on (item : BitVec 16) : exec (.uartReadParam item) s =
    .next (match s.paramValue item.toNat with
      | some v => s.uartAnswer 2 0 (leBytes 4 v)
      | none => s.uartAnswer 2 3 []) :=
  congrArg _ (ite_islandOn_on hon _ _)

theorem exec_uartReadLog_on (index : Word) : exec (.uartReadLog index) s =
    .next (match s.island.record? index.toNat with
      | some r => s.uartAnswer 5 0 r.bytes
      | none => s.uartAnswer 5 3 []) :=
  congrArg _ (ite_islandOn_on hon _ _)

theorem exec_uartReadFeed_on (feed : BitVec 8) : exec (.uartReadFeed feed) s =
    .next (if 8 ≤ feed.toNat then s.uartAnswer 8 3 [] else s.uartAnswer 8 0 (s.feedBytes feed.toNat)) :=
  congrArg _ (ite_not_islandOn_on hon _ _)

theorem exec_uartStream_on (feed : BitVec 8) (period : BitVec 16) : exec (.uartStream feed period) s =
    .next (if 8 ≤ feed.toNat then s.uartAnswer 6 3 [] else 
      State.uartAnswer (s.modIsland (fun d => { d with streams := s.streamsWith feed.toNat period })) 6 0 []) :=
  congrArg _ (ite_not_islandOn_on hon _ _)

theorem exec_uartTpSet_on (feed dir con en : BitVec 8) : exec (.uartTpSet feed dir con en) s =
    .next (if 8 ≤ feed.toNat ∨ 2 ≤ dir.toNat ∨ 3 ≤ con.toNat then s.uartAnswer 7 3 [] else State.uartAnswer
      (s.modIsland (fun d => { d with
        tpOn := en != 0, tpFeed := feed.toNat, tpRev := dir == 1, tpConst := con.toNat, tpAt := none, tpQueue := 0 })) 7 0 []) :=
  congrArg _ (ite_not_islandOn_on hon _ _)

theorem exec_uartBadFrame_on (bytes : List Byte) (gap : Bool) : exec (.uartBadFrame bytes gap) s =
    .next (if (gap || !uartGood bytes) = true then s.modIsland (fun d => { d with uartBad := satAdd 0xFFFF d.uartBad 1 })
      else if (uartRequest (bytes.getD 2 0).toNat).isNone then s.uartAnswer (bytes.getD 2 0).toNat 3 [] else s) :=
  congrArg _ (ite_not_islandOn_on hon _ _)

theorem exec_streamFeedSend_on {k : Fin 8} {r : Stream} (h : Sparse.find? s.island.streams k = some r) :
    exec (.streamFeedSend k) s = .next (if r.sentAt + r.period * msNs ≤ s.now then State.emit
      (s.modIsland (fun d => { d with streams := Sparse.ins d.streams k { r with sentAt := s.now } }))
        (.uart (uartFrame 0x86 (s.feedBytes k))) else s) := by
  change execStreamFeedSend k s = _
  simp only [execStreamFeedSend, h, hon, true_and]

end On

theorem Island.record_none {d : Island} {i : Nat} (h : d.log.length ≤ i) : d.record? i = none :=
  if_neg (Nat.not_lt.2 h)

theorem exec_streamFeedSend_none {s : State} {k : Fin 8} (h : Sparse.find? s.island.streams k = none) :
    exec (.streamFeedSend k) s = .next s := by
  change execStreamFeedSend k s = _
  rw [execStreamFeedSend, h]

/-! ### Writes of parameters (R551, R553, R556) -/

section WriteParam
variable {s : State} (hon : s.islandOn = true) {item : BitVec 16} {value : Word} {nvmOk : Bool}
include hon

theorem exec_uartWriteParam_closed (hseal : s.island.sealEn = false) :
    exec (.uartWriteParam item value nvmOk) s = .next (s.uartAnswer 3 1 []) :=
  congrArg _ ((ite_not_islandOn_on hon _ _).trans (if_pos (by simp [hseal])))

variable (hseal : s.island.sealEn = true)
include hseal

theorem exec_uartWriteParam_unknown (hnone : s.paramValue item.toNat = none) :
    exec (.uartWriteParam item value nvmOk) s = .next (s.uartAnswer 3 3 []) :=
  congrArg _ ((ite_not_islandOn_on hon _ _).trans ((if_neg (by simp [hseal])).trans (if_pos (by rw [hnone]; rfl))))

theorem exec_uartWriteParam_known {st : Nat} {t : State} (hknown : (s.paramValue item.toNat).isSome = true)
    (hres : s.writeParam item.toNat value.toNat nvmOk = (st, t)) :
    exec (.uartWriteParam item value nvmOk) s = .next (if st = 0 then
      t.uartAnswer 3 0 (leBytes 4 ((t.paramValue item.toNat).getD 0)) else t.uartAnswer 3 st []) := by
  refine congrArg _ ((ite_not_islandOn_on hon _ _).trans ((if_neg (by simp [hseal])).trans ?_))
  rw [if_neg (by cases h : s.paramValue item.toNat <;> simp [h] at hknown ⊢), hres]

end WriteParam

section Scalar
variable {s : State} {item value v : Nat} (hlo : 1 ≤ item % 256) (hhi : item % 256 ≤ 8)
include hlo hhi

/-- The value of a scalar parameter is the feed's. -/
theorem State.paramValue_scalar (h : s.paramValue item = some v) :
    ((s.feed (item / 256)).params.get (item % 256)).getD 0 = v := by
  rw [State.paramValue] at h
  split at h
  · cases h
  · rw [if_neg (by omega)] at h
    rw [h, Option.getD_some]

theorem State.writeParam_same (h : s.paramValue item = some v) (hsame : paramLegal (item % 256) value = v) (nvmOk : Bool) :
    s.writeParam item value nvmOk = (0, s) := by
  rw [State.writeParam, if_neg (by omega), State.paramValue_scalar hlo hhi h, if_pos hsame]

theorem State.writeParam_full (h : s.paramValue item = some v) (hdiff : paramLegal (item % 256) value ≠ v)
    (hfull : s.island.logFull = true) (nvmOk : Bool) : s.writeParam item value nvmOk = (2, s) := by
  rw [State.writeParam, if_neg (by omega), State.paramValue_scalar hlo hhi h, if_neg hdiff, if_pos hfull]

/-- A change is recorded, and the seal's count moves. -/
theorem State.writeParam_changes (h : s.paramValue item = some v) (hdiff : paramLegal (item % 256) value ≠ v)
    (hroom : s.island.logFull = false) : ∃ t, s.writeParam item value true = (0, t) ∧
      t.island.log.length = s.island.log.length + 1 ∧ t.island.sealCount = min 0xFFFFFFFF (s.island.sealCount + 1) := by
  rw [State.writeParam, if_neg (by omega), State.paramValue_scalar hlo hhi h, if_neg hdiff, if_neg (by simp [hroom]),
    if_neg (by decide)]
  refine ⟨_, rfl, ?_, ?_⟩ <;> split <;> rfl

end Scalar

/-! ### Commits (R552) -/

section Commit
variable {s : State} (hon : s.islandOn = true) {feed mask : BitVec 8} {nvmOk : Bool}
include hon

theorem exec_uartCommit_closed (hseal : s.island.sealEn = false) :
    exec (.uartCommit feed mask nvmOk) s = .next (s.uartAnswer 4 1 []) :=
  congrArg _ ((ite_not_islandOn_on hon _ _).trans (if_pos (by simp [hseal])))

variable (hseal : s.island.sealEn = true)
include hseal

theorem exec_uartCommit_unknown (hfeed : 8 ≤ feed.toNat) : exec (.uartCommit feed mask nvmOk) s = .next (s.uartAnswer 4 3 []) :=
  congrArg _ ((ite_not_islandOn_on hon _ _).trans ((if_neg (by simp [hseal])).trans (if_pos hfeed)))

/-- Set `m` is committed where the mask names it. -/
def commitNamed (nvmOk : Bool) (feed mask m : Nat) (x : Nat × State) : Nat × State :=
  if bitAt mask m then State.commitOne nvmOk feed m x else x

/-- The three sets of a commit, in their order. -/
def State.commitSets (s : State) (nvmOk : Bool) (feed mask : Nat) : Nat × State :=
  commitNamed nvmOk feed mask 2 (commitNamed nvmOk feed mask 1 (commitNamed nvmOk feed mask 0 (0, s)))

theorem exec_uartCommit_feed (hfeed : feed.toNat < 8) : exec (.uartCommit feed mask nvmOk) s =
    .next (if (s.commitSets nvmOk feed.toNat mask.toNat).1 = 0 then
      (s.commitSets nvmOk feed.toNat mask.toNat).2.uartAnswer 4 0
        (leBytes 4 (s.commitSets nvmOk feed.toNat mask.toNat).2.island.sealCount)
    else (s.commitSets nvmOk feed.toNat mask.toNat).2.uartAnswer 4 (s.commitSets nvmOk feed.toNat mask.toNat).1 []) :=
  congrArg _ ((ite_not_islandOn_on hon _ _).trans ((if_neg (by simp [hseal])).trans (if_neg (Nat.not_le.2 hfeed))))

end Commit

theorem State.commitSets_none {mask : Nat} (h : mask % 8 = 0) (s : State) (nvmOk : Bool) (feed : Nat) :
    s.commitSets nvmOk feed mask = (0, s) := by
  have hbit (m : Nat) (hm : m < 3) : ¬ bitAt mask m = true := by
    match m, hm with
    | 0, _ | 1, _ | 2, _ =>
      simp only [bitAt, beq_iff_eq]
      omega
  rw [State.commitSets, commitNamed, if_neg (hbit 2 (by decide)), commitNamed, if_neg (hbit 1 (by decide)), commitNamed,
    if_neg (hbit 0 (by decide))]

/-! ### The statement -/

/-- Settles O56: nothing of an island that is off, and each command's answer, the refusals in their order. -/
theorem islandAnswersItsSerialPort : Obligations.IslandAnswersItsSerialPort := by
  refine ⟨fun item value index nvmOk gap feed mask dir con en period bytes k s hoff => ?_, fun s hon => ?_⟩
  · have hif (t : State) : (if s.islandOn = true then t else s) = s := ite_islandOn_off hoff t s
    have hnot (t : State) : (if (!s.islandOn) = true then s else t) = s := ite_not_islandOn_off hoff s t
    exact ⟨congrArg _ (hif _), congrArg _ (hif _), congrArg _ (hnot _), congrArg _ (hnot _), congrArg _ (hif _),
      congrArg _ (hnot _), congrArg _ (hnot _), congrArg _ (hnot _), congrArg _ (hnot _), exec_streamFeedSend_off hoff k⟩
  · refine ⟨congrArg _ (ite_islandOn_on hon _ _), fun item => ?_, fun item value nvmOk => ?_, fun feed mask nvmOk => ?_,
      fun index => ?_, fun feed => ?_, fun k => exec_streamFeedSend_none, fun k r hr => ?_, fun feed dir con en => ?_,
      fun bytes gap => ?_⟩
    · rw [exec_uartReadParam_on hon]
      exact ⟨fun v hv => by rw [hv], fun hnone => by rw [hnone]⟩
    · refine ⟨fun hnone hseal => exec_uartWriteParam_unknown hon hseal hnone, exec_uartWriteParam_closed hon,
        fun v hv hseal hlo hhi hsame => ?_, fun v hv hseal hlo hhi hdiff hfull => ?_,
        fun v hv hseal hinv hlo hhi hdiff hroom => ?_, fun hknown hseal => ⟨_, _, rfl, fun hok => ?_, fun hno => ?_⟩⟩
      · rw [exec_uartWriteParam_known hon hseal (by simp [hv]) (State.writeParam_same hlo hhi hv hsame nvmOk), if_pos rfl, hv,
          Option.getD_some]
      · rw [exec_uartWriteParam_known hon hseal (by simp [hv]) (State.writeParam_full hlo hhi hv hdiff hfull nvmOk),
          if_neg (by decide)]
      · obtain ⟨t, hres, hlog, hcount⟩ := State.writeParam_changes hlo hhi hv hdiff hroom
        rw [exec_uartWriteParam_known hon hseal (by simp [hv]) hres, if_pos rfl]
        exact ⟨_, rfl, hlog, hcount⟩
      · rw [exec_uartWriteParam_known hon hseal hknown rfl, if_pos hok]
      · rw [exec_uartWriteParam_known hon hseal hknown rfl, if_neg hno]
    · refine ⟨fun hfeed hseal => exec_uartCommit_unknown hon hseal hfeed, exec_uartCommit_closed hon,
        fun hfeed hseal hmask => ?_, fun hfeed hseal => ⟨commitNamed nvmOk feed.toNat mask.toNat, _, fun m x => rfl, rfl,
          fun hok => ?_, fun hno => ?_⟩⟩
      · rw [exec_uartCommit_feed hon hseal hfeed, State.commitSets_none hmask, if_pos rfl]
      · rw [exec_uartCommit_feed hon hseal hfeed]
        exact congrArg _ (if_pos hok)
      · rw [exec_uartCommit_feed hon hseal hfeed]
        exact congrArg _ (if_neg hno)
    · rw [exec_uartReadLog_on hon]
      exact ⟨fun r hr => by rw [hr], fun hpast => by rw [Island.record_none hpast]⟩
    · rw [exec_uartReadFeed_on hon]
      refine ⟨fun hno => ⟨by rw [if_pos hno], fun period => by rw [exec_uartStream_on hon, if_pos hno]⟩, fun hfeed =>
        ⟨by rw [if_neg (Nat.not_le.2 hfeed)], fun period hp => ?_, ?_⟩⟩
      · rw [exec_uartStream_on hon, if_neg (Nat.not_le.2 hfeed), State.streamsWith, if_neg hp]
        rfl
      · rw [exec_uartStream_on hon, if_neg (Nat.not_le.2 hfeed), State.streamsWith, if_pos rfl]
        rfl
    · rw [exec_streamFeedSend_on hon hr]
      exact ⟨fun hdue => by rw [if_pos hdue], fun hsoon => by rw [if_neg (Nat.not_le.2 hsoon)]⟩
    · rw [exec_uartTpSet_on hon]
      refine ⟨fun hno => by rw [if_pos hno], fun hfeed hdir hcon => ?_⟩
      rw [if_neg (by omega)]
    · rw [exec_uartBadFrame_on hon]
      refine ⟨fun hbad => ?_, fun hgap hgood => ⟨fun hnone => ?_, fun hsome => ?_⟩⟩
      · rw [if_pos (by rcases hbad with h | h <;> simp [h])]
      · rw [if_neg (by simp [hgap, hgood]), if_pos (by rw [hnone]; rfl)]
      · rw [if_neg (by simp [hgap, hgood]), if_neg (Bool.eq_false_iff.1 (Option.isNone_eq_false_iff.2 hsome))]

end Sys2Proof.Machine
end

section
-- One proof at a time: elaborated side by side, they need more memory than the check allows.
set_option Elab.async false

/-! SUPPORT. The sources of the timebase (14_timebase.md R469-R476): the edges of PPS_IN, PTP's measurements, the frequency
sources, and the revert to a better source. -/

namespace Sys2Proof.Machine

/-! ### PPS_IN (R470, R471) -/

/-- The level that follows an edge of PPS_IN stands for `width` ns. -/
def State.ppsPulse (s : State) (width : Nat) : State :=
  { s with tb := { s.tb with pulseFrom := s.now, pulseTill := s.now + width } }

/-- An edge comes sooner than 999 ms after the last accepted one. -/
def State.ppsEarly (s : State) : Bool := match s.tb.ppsAt with | some a => decide (s.now < a + 999 * msNs) | none => false

theorem exec_ppsEdge (falling : Bool) (width : Nat) (s : State) : exec (.ppsEdge falling width) s =
    .next (if falling != s.isSet tbB Reg.tbPpsCfgPpsEdge then s.ppsPulse width
      else if width < 100 ∨ 500 * msNs < width ∨ s.ppsEarly = true then (s.ppsPulse width).ppsFast
      else (s.ppsPulse width).ppsAccept) := rfl

theorem State.ppsEarly_iff (s : State) : s.ppsEarly = true ↔ ∃ a, s.tb.ppsAt = some a ∧ s.now < a + 999 * msNs := by
  rw [State.ppsEarly]
  cases s.tb.ppsAt <;> simp

theorem exec_ppsPeriodFault_none {s : State} (h : s.tb.ppsAt = none) : exec .ppsPeriodFault s = .next s := by
  change Host.Outcome.next s.ppsFault = _
  rw [State.ppsFault, h]

theorem exec_ppsPeriodFault_some {s : State} {a : Nat} (h : s.tb.ppsAt = some a) : exec .ppsPeriodFault s =
    .next (if !s.tb.ppsLate ∧ a + 1001 * msNs ≤ s.now then
      ((s.bumpSat tbB Reg.tbPpsStatPeriodErr).ppsDrop).modTb (fun t => { t with ppsLate := true }) else s) := by
  change Host.Outcome.next s.ppsFault = _
  rw [State.ppsFault, h]

/-- Since when PPS_IN has had its level (R470). -/
def State.ppsSince (s : State) : Nat := if s.now < s.tb.pulseTill then s.tb.pulseFrom else s.tb.pulseTill

theorem exec_ppsStuck (s : State) : exec .ppsStuck s =
    .next (if decide (s.ppsSince + 1200 * msNs < s.now) && !s.isSet tbB Reg.tbPpsStatStuck then
      ((s.wr tbB Reg.tbPpsStatStuck 1).raise tbB evPpsStuck).ppsDrop else s) := rfl

section Writes
variable {s : State} {fn : Fin 65} (data : Word)

theorem exec_todNextArm_through (hw : s.lockedWrite fn tbB (tbB + 0x94) = true) : exec (.todNextArm fn data) s =
    .next ((s.wr tbB Reg.tbTodNextLoSecLo data.toNat).modTb (fun t => { t with
      armed := some (s.rd tbB Reg.tbTodNextHiSecHi * 2 ^ 32 + data.toNat % 2 ^ 32) })) := by
  refine congrArg _ ((State.mmioWrite_through (State.lockedWrite_through hw) _).trans ?_)
  rw [State.todArm, if_pos (State.lockedWrite_may hw)]

theorem exec_ptpSubmit_through (hw : s.writesThrough fn (tbB + 0x68) = true) : exec (.ptpSubmit fn data) s =
    .next (s.wr tbB Reg.tbPtpSubmitTNs (min (data.toNat % 2 ^ 30) 999999999)).ptpSubmit :=
  congrArg _ (State.mmioWrite_through hw _)

end Writes

/-! ### PTP (R469, R472) -/

/-- The instant that a measurement names. -/
def State.ptpAt (a : State) : Option Nat := placedAt (a.rd tbB Reg.tbPtpSubmitTNs) a.tb.epochs a.now a.tb.epoch

/-- R472: a measurement lies beyond the gate while locked to PTP. -/
def State.ptpGated (a : State) : Prop :=
  a.tb.state = tbLocked ∧ a.tbSelected = 1 ∧ a.rd tbB Reg.tbPtpCfgPtpGateUs ≠ 0 ∧
    a.rd tbB Reg.tbPtpCfgPtpGateUs * 1000 < (a.rdS tbB Reg.tbPtpOfsOfsNs).natAbs

/-- A measurement that is accepted is counted, and its error noted. -/
def State.ptpTaken (a : State) : State :=
  State.noteError { a with tb := { a.tb with ptp := (a.now :: a.tb.ptp).take 8 } } 1 (a.rdS tbB Reg.tbPtpOfsOfsNs)

section PtpSubmit
variable {a : State}

theorem State.ptpSubmit_unplaced (h : a.ptpAt = none) : a.ptpSubmit = a.bumpSat tbB Reg.tbCountsPtpRej := by
  rw [State.ptpAt] at h
  rw [State.ptpSubmit, h, Option.filter_none]

variable {at_ : Nat} (h : a.ptpAt = some at_)
include h

theorem State.ptpSubmit_old (hold : at_ + secNs < a.now) : a.ptpSubmit = a.bumpSat tbB Reg.tbCountsPtpRej := by
  rw [State.ptpAt] at h
  rw [State.ptpSubmit, h, Option.filter_some_neg (by simpa using hold)]

theorem State.ptpSubmit_gated (hgate : a.ptpGated) : a.ptpSubmit = a.bumpSat tbB Reg.tbCountsPtpRej := by
  by_cases hold : at_ + secNs < a.now
  · exact State.ptpSubmit_old h hold
  · rw [State.ptpAt] at h
    rw [State.ptpSubmit, h, Option.filter_some_pos (by simpa using hold)]
    exact if_pos hgate

theorem State.ptpSubmit_taken (hnew : a.now ≤ at_ + secNs) (hgate : ¬ a.ptpGated) : a.ptpSubmit =
    (if a.ptpTaken.ptpReady then a.ptpTaken.setQualified 1 true else a.ptpTaken).tbPhase 1 (a.rdS tbB Reg.tbPtpOfsOfsNs) at_ := by
  rw [State.ptpAt] at h
  rw [State.ptpSubmit, h, Option.filter_some_pos (by simpa using hnew)]
  exact if_neg hgate

end PtpSubmit

/-- The measurements of PTP have ceased. -/
def State.ptpSilent (s : State) : Bool := match s.tb.ptp with
  | a :: _ => decide (a + s.rd tbB Reg.tbPtpCfgPtpTimeoutMs * msNs ≤ s.now)
  | [] => true

theorem exec_ptpSourceTimeout (s : State) : exec .ptpSourceTimeout s =
    .next (if s.tbQualified 1 && s.ptpSilent then (s.setQualified 1 false).raise tbB evPtpTimeout else s) := rfl

theorem State.ptpSilent_nil {s : State} (h : s.tb.ptp = []) : s.ptpSilent = true := by
  rw [State.ptpSilent, h]

theorem State.ptpSilent_cons {s : State} {a : Nat} {rest : List Nat} (h : s.tb.ptp = a :: rest) :
    s.ptpSilent = decide (a + s.rd tbB Reg.tbPtpCfgPtpTimeoutMs * msNs ≤ s.now) := by
  rw [State.ptpSilent, h]

/-! ### The revert to a better source (R474) -/

/-- The better of two sources, the first on a tie. -/
def pickBetter (pri : Nat → Nat) (b : Option Nat) (m : Nat) : Option Nat :=
  match b with
  | none => some m
  | some x => if pri m < pri x then some m else some x

section PickBetter
variable {pri : Nat → Nat}

theorem foldl_pickBetter_stays {x : Nat} {l : List Nat} (h : ∀ k ∈ l, pri x ≤ pri k) :
    l.foldl (pickBetter pri) (some x) = some x := by
  induction l with
  | nil => rfl
  | cons a l ih =>
    obtain ⟨ha, hl⟩ := List.forall_mem_cons.1 h
    rw [List.foldl_cons, pickBetter, if_neg (Nat.not_lt.2 ha), ih hl]

theorem foldl_pickBetter_mem {b : Option Nat} {y : Nat} {l : List Nat} (h : l.foldl (pickBetter pri) b = some y) :
    b = some y ∨ y ∈ l := by
  induction l generalizing b with
  | nil => exact .inl h
  | cons a l ih =>
    rcases ih h with hpick | hmem
    · cases b with
      | none => exact .inr (List.mem_cons.2 (.inl (Option.some.inj hpick).symm))
      | some x =>
        rw [pickBetter] at hpick
        split at hpick
        · exact .inr (List.mem_cons.2 (.inl (Option.some.inj hpick).symm))
        · exact .inl hpick
    · exact .inr (List.mem_cons_of_mem _ hmem)

/-- Of an ascending list, the best and first of several is picked. -/
theorem foldl_pickBetter_first {m : Nat} {l : List Nat} (hl : l.Pairwise (· < ·)) (hm : m ∈ l)
    (hbest : ∀ k ∈ l, pri m ≤ pri k ∧ (k < m → pri m < pri k)) : l.foldl (pickBetter pri) none = some m := by
  obtain ⟨before, after, rfl⟩ := List.append_of_mem hm
  have hbefore (k : Nat) (hk : k ∈ before) : pri m < pri k :=
    (hbest k (List.mem_append_left _ hk)).2 ((List.pairwise_append.1 hl).2.2 k hk m List.mem_cons_self)
  have hafter (k : Nat) (hk : k ∈ after) : pri m ≤ pri k :=
    (hbest k (List.mem_append_right _ (List.mem_cons_of_mem _ hk))).1
  rw [List.foldl_append, List.foldl_cons]
  cases hpick : before.foldl (pickBetter pri) none with
  | none => exact foldl_pickBetter_stays hafter
  | some y =>
    have hy : y ∈ before := (foldl_pickBetter_mem hpick).resolve_left (fun h => nomatch h)
    rw [pickBetter, if_pos (hbefore y hy)]
    exact foldl_pickBetter_stays hafter

end PickBetter

/-- The best of the sources that have waited to be restored. -/
def State.wtrBest (s : State) : Option Nat :=
  ((List.range 5).filter (s.wtrReady s.tbSelected)).foldl (pickBetter s.tbPriority) none

theorem exec_wtrExpire (s : State) : exec .wtrExpire s =
    .next (if s.tbRuns && s.isSet tbB Reg.tbCtrlRevert && s.tbSelected != noSource then match s.wtrBest with
      | some m => s.tbSwitch m
      | none => s
    else s) := rfl

theorem State.wtrBest_none {s : State} (h : ∀ m < 5, s.wtrReady s.tbSelected m = false) : s.wtrBest = none := by
  have hnil : (List.range 5).filter (s.wtrReady s.tbSelected) = [] := by
    rw [List.filter_eq_nil_iff]
    exact fun m hm => by simp [h m (List.mem_range.1 hm)]
  rw [State.wtrBest, hnil]
  rfl

theorem State.wtrBest_some {s : State} {m : Nat} (hm : m < 5) (hready : s.wtrReady s.tbSelected m = true)
    (hbest : ∀ k < 5, s.wtrReady s.tbSelected k = true →
      s.tbPriority m ≤ s.tbPriority k ∧ (k < m → s.tbPriority m < s.tbPriority k)) : s.wtrBest = some m := by
  refine foldl_pickBetter_first ((List.pairwise_lt_range).filter _) ?_ (fun k hk => ?_)
  · exact List.mem_filter.2 ⟨List.mem_range.2 hm, hready⟩
  · obtain ⟨hlt, hk⟩ := List.mem_filter.1 hk
    exact hbest k (List.mem_range.1 hlt) hk

theorem exec_wtrExpire_none {s : State} (h : s.isSet tbB Reg.tbCtrlRevert = false ∨ s.tbSelected = noSource ∨
    s.tbRuns = false ∨ ∀ m < 5, s.wtrReady s.tbSelected m = false) : exec .wtrExpire s = .next s := by
  rw [exec_wtrExpire]
  rcases h with h | h | h | h
  · rw [if_neg (by simp [h])]
  · rw [if_neg (by simp [h])]
  · rw [if_neg (by simp [h])]
  · rw [State.wtrBest_none h, ite_self]

/-! ### Frequency sources (R469, R473) -/

theorem exec_freqSourceSecond (refIn : Bool) (samples : List Int) (s : State) {n : Nat} (hn : n = if refIn then 3 else 2) :
    exec (.freqSourceSecond refIn samples) s = .next (if !s.freqUsable n then
      (s.dropFreq n).modTb (fun t => { t with loops := Sparse.del t.loops n, outSince := Sparse.del t.outSince n })
    else (s.freqSpan n samples).tbFrequency n (Sparse.get {} (s.freqSpan n samples).tb.loops n).out) := by
  subst hn
  rfl

section QualifyTimer
variable {s : State} {refIn : Bool} {n : Nat} (hn : n = if refIn then 3 else 2)
include hn

theorem exec_sourceQualifyTimer_none (h : Sparse.find? s.tb.inRange n = none) :
    exec (.sourceQualifyTimer refIn) s = .next s := by
  subst hn
  change execSourceQualifyTimer refIn s = _
  simp only [execSourceQualifyTimer, h]

theorem exec_sourceQualifyTimer_some {a : Nat} (h : Sparse.find? s.tb.inRange n = some a) :
    exec (.sourceQualifyTimer refIn) s =
      .next (if s.freqUsable n ∧ a + 10 * secNs ≤ s.now then s.setQualified n true else s) := by
  subst hn
  change execSourceQualifyTimer refIn s = _
  simp only [execSourceQualifyTimer, h]

end QualifyTimer

/-! ### The statement -/

/-- Settles O51: each source's edges, measurements and timers by their times, and the revert by the best of the sources. -/
theorem timeSourcesAreAcceptedLostAndReplaced : Obligations.TimeSourcesAreAcceptedLostAndReplaced := by
  refine ⟨fun falling width s => ⟨s.ppsPulse width, rfl, fun hother => ?_, fun hedge hfast => ?_, fun hedge hlong hshort hlate => ?_⟩,
    fun s => ⟨exec_ppsPeriodFault_none, fun a ha hnew hat => ⟨_, rfl, ?_⟩, fun a ha hno => ?_, fun since hsince => ?_⟩,
    fun fn data s hw => ⟨_, rfl, exec_todNextArm_through data hw⟩, fun fn data s hw => ?_, fun s => ?_,
    fun refIn samples s => ⟨_, _, rfl, rfl, fun hno => ⟨_, rfl, ?_⟩, fun hok => ?_, exec_sourceQualifyTimer_none rfl,
      fun a ha => ⟨fun hok hat => ?_, fun hno => ?_⟩⟩⟩
  · rw [exec_ppsEdge, if_pos (by simpa using hother)]
  · rw [exec_ppsEdge, if_neg (by simpa using hedge), if_pos (by rwa [State.ppsEarly_iff])]
  · rw [exec_ppsEdge, if_neg (by simpa using hedge), if_neg]
    rintro (h | h | h)
    · omega
    · omega
    · obtain ⟨a, ha, hsoon⟩ := (State.ppsEarly_iff s).1 h
      exact absurd (hlate a ha) (Nat.not_le.2 hsoon)
  · rw [exec_ppsPeriodFault_some ha, if_pos ⟨by simp [hnew], hat⟩]
    rfl
  · rw [exec_ppsPeriodFault_some ha, if_neg (by rcases hno with h | h <;> simp [h])]
  · obtain rfl : since = s.ppsSince := hsince
    rw [exec_ppsStuck]
    refine ⟨fun hlong hnew => ?_, fun hno => ?_⟩
    · rw [if_pos (by simp [hlong, hnew])]
    · rw [if_neg (by rcases hno with h | h <;> simp [h])]
  · rw [exec_ptpSubmit_through data hw]
    refine ⟨_, _, _, rfl, rfl, rfl, fun hnone => congrArg _ (State.ptpSubmit_unplaced hnone), fun at_ hat =>
      ⟨fun hbad => congrArg _ (hbad.elim (State.ptpSubmit_old hat) (State.ptpSubmit_gated hat)), fun hnew hopen =>
        congrArg _ (State.ptpSubmit_taken hat hnew ?_)⟩⟩
    rintro ⟨hstate, hsel, hgate, hfar⟩
    exact hopen.elim (absurd hstate) (fun h => h.elim (absurd hsel) (fun h => h.elim hgate (Nat.not_le.2 hfar)))
  · rw [exec_ptpSourceTimeout]
    refine ⟨fun hq hnil => ?_, fun a rest hq hcons hat => ?_, fun a rest hcons hsoon => ?_, fun hq => ?_, exec_wtrExpire_none,
      fun m hm hrevert hsel hruns hready hbest => ?_⟩
    · rw [State.ptpSilent_nil hnil, if_pos (by simp [hq])]
    · rw [State.ptpSilent_cons hcons, if_pos (by simp [hq, hat])]
    · rw [State.ptpSilent_cons hcons, if_neg (by simp [hsoon])]
    · rw [if_neg (by simp [hq])]
    · rw [exec_wtrExpire, State.wtrBest_some hm hready hbest, if_pos (by simp [hruns, hrevert, hsel])]
  · rw [exec_freqSourceSecond refIn samples s rfl, if_pos (by rw [hno]; rfl)]
    rfl
  · rw [exec_freqSourceSecond refIn samples s rfl, if_neg (by rw [hok]; decide)]
  · rw [exec_sourceQualifyTimer_some rfl ha, if_pos ⟨hok, hat⟩]
  · rw [exec_sourceQualifyTimer_some rfl ha, if_neg]
    rintro ⟨hok, hat⟩
    rcases hno with h | h
    · exact absurd hok (by simp [h])
    · omega

end Sys2Proof.Machine
end

section
-- One proof at a time: elaborated side by side, they need more memory than the check allows.
set_option Elab.async false

/-! SUPPORT. The plates' timekeepers (14_timebase.md R490-R499): what a broadcast word changes of each, its loss and return, the
rejoin, the intent, and captures of time. -/

namespace Sys2Proof.Machine

/-! ### What lets a timekeeper run (R495) -/

/-- A timekeeper runs by its plate and by two fields of the plate's sheet. -/
theorem State.tkRuns_congr {s t : State} {q : Nat} (hplates : t.plates = s.plates)
    (hop : t.rd (plB q) Title.stateOp = s.rd (plB q) Title.stateOp) (hheld : t.rd (plB q) Title.held = s.rd (plB q) Title.held) :
    t.tkRuns q = s.tkRuns q := by
  have hcode : t.plateOp q = s.plateOp q := by
    rw [State.plateOp, State.plateOut, State.plate, hplates, hop]
    rfl
  have hheld : t.heldAt (plB q) = s.heldAt (plB q) := by simp only [State.heldAt, State.isSet, hheld]
  rw [State.tkRuns, State.tkOp, hcode, hheld]
  rfl

/-- The fields of a sheet in plate `p`'s window past its first one are not those of a plate sheet. -/
theorem plate_key_ne {p q o : Nat} {r r' : Row} (hlo : 0x1000 ≤ o) (hhi : o + r.off < 0x400000) (hl : r.lsb < 32)
    (hlo' : r'.off < 0x1000) (hl' : r'.lsb < 32) : fieldKey (plB q) r' 0 ≠ fieldKey (winB p + o) r 0 := by
  simp only [fieldKey, plB, winB, Nat.mul_zero]
  omega

section PlateWindow
variable {s : State} {p o : Nat} (hlo : 0x1000 ≤ o)
include hlo

theorem State.tkRuns_wr {r : Row} (hhi : o + r.off < 0x400000) (hl : r.lsb < 32) (v q : Nat) :
    (s.wr (winB p + o) r v).tkRuns q = s.tkRuns q :=
  State.tkRuns_congr rfl (State.rd_wr_other (plate_key_ne hlo hhi hl (by decide) (by decide)) s v)
    (State.rd_wr_other (plate_key_ne hlo hhi hl (by decide) (by decide)) s v)

theorem State.tkRuns_raise (h : Sparse.wf s.regs = true) (hhi : o + 0x10 < 0x400000) (i q : Nat) :
    (s.raise (winB p + o) i).tkRuns q = s.tkRuns q :=
  State.tkRuns_congr (by rw [State.raise_eq]) (State.rd_raise_ne h (plate_key_ne hlo hhi (by decide) (by decide) (by decide)))
    (State.rd_raise_ne h (plate_key_ne hlo hhi (by decide) (by decide) (by decide)))

end PlateWindow

/-! ### What a move of the plate's time leaves -/

/-- The parts of the state that a move of a plate's time leaves. -/
def State.timeParts (s : State) : Timebase × Sparse Timekeeper × Sparse PlateInt := (s.tb, s.tks, s.plates)

theorem State.timeParts_highwayStep (s : State) (p : Nat) (d : Int) : (s.highwayStep p d).timeParts = s.timeParts := by
  rw [State.highwayStep]
  split
  · simp only [State.timeParts, State.wr_tb, State.wr_tks, State.wr_plates, State.setSpacing, State.setHighway]
  · rfl

theorem State.timeParts_jbShift (s : State) (g : Nat) (d : Int) : (s.jbShift g d).timeParts = s.timeParts := by
  simp only [State.timeParts, State.jbShift, State.modJitter, State.setJitter, State.setQueue]

theorem State.timeParts_shiftMirrors (s : State) (p : Nat) (d : Int) : (s.shiftMirrors p d).timeParts = s.timeParts := by
  simp only [State.timeParts, State.shiftMirrors]

theorem State.timeParts_setHatch (s : State) (p : Nat) (h : Hatch) : (s.setHatch p h).timeParts = s.timeParts := by
  simp only [State.timeParts, State.setHatch]

theorem State.timeParts_plateTimeMoved (s : State) (p : Nat) (d : Int) : (s.plateTimeMoved p d).timeParts = s.timeParts := by
  rw [State.plateTimeMoved, State.timeParts_highwayStep, State.timeParts_shiftMirrors]
  exact forEach_leaves (g := State.timeParts) (fun g t => t.timeParts_jbShift g d) _ s

theorem State.timeParts_hatchRejoin (s : State) (p : Nat) (d : Int) : (s.hatchRejoin p d).timeParts = s.timeParts := by
  rw [State.hatchRejoin, State.hatchMoved]
  split
  · rw [State.timeParts_setHatch, State.timeParts_setHatch]
  · split
    · rw [State.timeParts_setHatch, State.timeParts_setHatch]
    · rw [State.timeParts_setHatch]

theorem State.timeParts_raise (s : State) (b i : Nat) : (s.raise b i).timeParts = s.timeParts := by
  rw [State.timeParts, State.raise_eq]
  rfl

theorem State.plates_of_timeParts {s t : State} (h : t.timeParts = s.timeParts) : t.plates = s.plates :=
  (Prod.mk.inj (Prod.mk.inj h).2).2

theorem State.tks_of_timeParts {s t : State} (h : t.timeParts = s.timeParts) : t.tks = s.tks :=
  (Prod.mk.inj (Prod.mk.inj h).2).1

theorem State.tb_of_timeParts {s t : State} (h : t.timeParts = s.timeParts) : t.tb = s.tb :=
  (Prod.mk.inj h).1

theorem State.tkRuns_of_leaves {s t : State} (hplates : t.plates = s.plates) (hregs : t.regs = s.regs) (q : Nat) :
    t.tkRuns q = s.tkRuns q :=
  State.tkRuns_congr hplates (State.rd_congr hregs _ _) (State.rd_congr hregs _ _)

theorem State.tkRuns_highwayStep (s : State) (p : Nat) (d : Int) (q : Nat) : (s.highwayStep p d).tkRuns q = s.tkRuns q := by
  rw [State.highwayStep]
  split
  · refine (State.tkRuns_wr (p := p) (o := 0x8000) (by decide) (by decide) (by decide) _ q).trans (State.tkRuns_of_leaves ?_ ?_ q)
    · simp only [State.setSpacing, State.setHighway]
    · simp only [State.setSpacing, State.setHighway]
  · rfl

theorem State.tkRuns_jbShift (s : State) (g : Nat) (d : Int) (q : Nat) : (s.jbShift g d).tkRuns q = s.tkRuns q :=
  State.tkRuns_of_leaves (State.plates_of_timeParts (s.timeParts_jbShift g d))
    (by simp only [State.jbShift, State.modJitter, State.setJitter, State.setQueue]) q

theorem State.tkRuns_plateTimeMoved (s : State) (p : Nat) (d : Int) (q : Nat) : (s.plateTimeMoved p d).tkRuns q = s.tkRuns q := by
  rw [State.plateTimeMoved, State.tkRuns_highwayStep]
  exact (State.tkRuns_of_leaves (State.plates_of_timeParts (State.timeParts_shiftMirrors _ p d))
      (by simp only [State.shiftMirrors]) q).trans
    (forEach_leaves (g := fun t : State => t.tkRuns q) (fun g t => t.tkRuns_jbShift g d q) _ s)

theorem State.tkRuns_setHatch (s : State) (p : Nat) (h : Hatch) (q : Nat) : (s.setHatch p h).tkRuns q = s.tkRuns q :=
  State.tkRuns_of_leaves (s.setHatch_plates p h) (s.setHatch_regs p h) q

theorem State.tkRuns_hatchRejoin (s : State) (p : Nat) (d : Int) (q : Nat) : (s.hatchRejoin p d).tkRuns q = s.tkRuns q := by
  rw [State.hatchRejoin, State.hatchMoved]
  split
  · rw [State.tkRuns_setHatch, State.tkRuns_setHatch]
  · split
    · rw [State.tkRuns_setHatch, State.tkRuns_setHatch]
    · rw [State.tkRuns_setHatch]

/-! ### A timekeeper adopts site time (R494) -/

theorem State.tk_setTk {s : State} (h : Sparse.wf s.tks = true) (p q : Nat) (v : Timekeeper) :
    (s.setTk p v).tk q = if q = p then v else s.tk q :=
  Sparse.get_put h

/-- The timekeeper of plate `p` starts afresh, and notes how long it was on its own clock. -/
def State.adoptStart (s : State) (p : Nat) : State :=
  let t := s.setTk p { goodRun := (s.tk p).goodRun }
  if (s.tk p).own then t.wr (ptB p) Reg.ptOwnOwnMs (min ((s.now - (s.tk p).ownFrom) / msNs) (2 ^ 32 - 1)) else t

theorem State.adopt_eq (s : State) (p : Nat) : s.adopt p =
    (((s.adoptStart p).plateTimeMoved p (-(s.tkOffset p) / 8)).hatchRejoin p (-(s.tkOffset p) / 8)).raise (ptB p) evRejoined := rfl

theorem State.adoptStart_timeParts (s : State) (p : Nat) :
    (s.adoptStart p).timeParts = (s.setTk p { goodRun := (s.tk p).goodRun }).timeParts := by
  rw [State.adoptStart]
  split <;> rfl

theorem State.adopt_timeParts (s : State) (p : Nat) :
    (s.adopt p).timeParts = (s.setTk p { goodRun := (s.tk p).goodRun }).timeParts := by
  rw [State.adopt_eq, State.timeParts_raise, State.timeParts_hatchRejoin, State.timeParts_plateTimeMoved,
    State.adoptStart_timeParts]

theorem State.tk_adopt {s : State} (h : Sparse.wf s.tks = true) (p q : Nat) :
    (s.adopt p).tk q = if q = p then { goodRun := (s.tk p).goodRun } else s.tk q := by
  rw [State.tk, State.tks_of_timeParts (s.adopt_timeParts p)]
  exact State.tk_setTk h p q _

theorem State.tkRuns_adoptStart (s : State) (p q : Nat) : (s.adoptStart p).tkRuns q = s.tkRuns q := by
  rw [State.adoptStart]
  split
  · exact State.tkRuns_wr (s := s.setTk p _) (p := p) (o := 0x9000) (by decide) (by decide) (by decide) _ q
  · rfl

theorem State.adoptStart_inv {s : State} (h : s.Inv) (p : Nat) : (s.adoptStart p).Inv := by
  rw [State.adoptStart]
  split
  · exact (State.wr_keeps (State.setTk_keeps (State.Keeps.refl s))).inv h
  · exact (State.setTk_keeps (State.Keeps.refl s)).inv h

theorem State.tkRuns_adopt {s : State} (h : s.Inv) (p q : Nat) : (s.adopt p).tkRuns q = s.tkRuns q := by
  have hwf := ((State.hatchRejoin_keeps (p := p) (d := -(s.tkOffset p) / 8) (State.plateTimeMoved_keeps (p := p)
    (d := -(s.tkOffset p) / 8) (State.Keeps.refl (s.adoptStart p)))).inv (State.adoptStart_inv h p)).regs
  rw [State.adopt_eq]
  exact (State.tkRuns_raise (p := p) (o := 0x9000) (by decide) hwf (by decide) _ q).trans
    ((State.tkRuns_hatchRejoin _ p _ q).trans ((State.tkRuns_plateTimeMoved _ p _ q).trans (s.tkRuns_adoptStart p q)))

/-! ### Broadcast words (R492, R493) -/

/-- Does a timekeeper that runs take the word as a bad one? -/
def Timekeeper.wordBad (k : Timekeeper) (bad : Bool) : Bool := bad || (!k.own && decide (800 < k.offset.natAbs))

/-- A bad word, and a good one, in the runs of a timekeeper. -/
def Timekeeper.badWord (k : Timekeeper) : Timekeeper := { k with badRun := min 15 (k.badRun + 1), goodRun := 0 }
def Timekeeper.goodWord (k : Timekeeper) : Timekeeper := { k with badRun := 0, goodRun := min 1000 (k.goodRun + 1) }

/-- What a word makes of a timekeeper. -/
def Timekeeper.afterWord (runs bad : Bool) (k : Timekeeper) : Timekeeper :=
  if !runs then k
  else if k.wordBad bad then k.badWord
  else if k.adopting then { goodRun := k.goodWord.goodRun } else k.goodWord

theorem State.takeWord_eq (s : State) (p : Nat) (bad : Bool) : s.takeWord p bad =
    if !s.tkRuns p then s
    else if (s.tk p).wordBad bad then (s.setTk p (s.tk p).badWord).bumpSat (ptB p) Reg.ptStatBadWords
    else if (s.tk p).adopting then (s.setTk p (s.tk p).goodWord).adopt p else s.setTk p (s.tk p).goodWord := rfl

theorem State.takeWord_tb (s : State) (p : Nat) (bad : Bool) : (s.takeWord p bad).tb = s.tb := by
  rw [State.takeWord_eq]
  split
  · rfl
  · split
    · rfl
    · split
      · rw [State.tb_of_timeParts (State.adopt_timeParts _ p)]
        rfl
      · rfl

section TakeWord
variable {s : State} (h : s.Inv) (p : Nat) (bad : Bool)
include h

theorem State.setTk_tks_wf (v : Timekeeper) : Sparse.wf (s.setTk p v).tks = true :=
  Sparse.wf_put h.stores.tks

theorem State.tk_takeWord (q : Nat) :
    (s.takeWord p bad).tk q = if q = p then (s.tk p).afterWord (s.tkRuns p) bad else s.tk q := by
  have hset (v : Timekeeper) : (s.setTk p v).tk q = if q = p then v else s.tk q := State.tk_setTk h.stores.tks p q v
  rw [State.takeWord_eq, Timekeeper.afterWord]
  split
  · split
    · next hq => rw [hq]
    · rfl
  · split
    · exact hset _
    · split
      · rw [State.tk_adopt (State.setTk_tks_wf h p _), hset, State.tk_setTk h.stores.tks, if_pos rfl]
        split <;> rfl
      · exact hset _

theorem State.tkRuns_takeWord (q : Nat) : (s.takeWord p bad).tkRuns q = s.tkRuns q := by
  rw [State.takeWord_eq]
  split
  · rfl
  · split
    · exact State.tkRuns_wr (s := s.setTk p _) (p := p) (o := 0x9000) (by decide) (by decide) (by decide) _ q
    · split
      · exact State.tkRuns_adopt ((State.setTk_keeps (State.Keeps.refl s)).inv h) p q
      · rfl

end TakeWord

/-- Every plate takes the word. -/
def State.takeWords (s : State) (bad : Nat) : State := forUpTo 8 (fun p t => t.takeWord p (bitAt bad p)) s

theorem State.takeWords_tb (s : State) (bad : Nat) : (s.takeWords bad).tb = s.tb :=
  forUpTo_leaves (g := State.tb) (f := fun p (t : State) => t.takeWord p (bitAt bad p)) (fun p t => t.takeWord_tb p _) 8 s

theorem State.tk_takeWords {s : State} (h : s.Inv) (bad : Nat) {p : Nat} (hp : p < 8) :
    (s.takeWords bad).tk p = (s.tk p).afterWord (s.tkRuns p) (bitAt bad p) := by
  refine forUpTo_each (I := fun t : State => t.Inv ∧ ∀ q, t.tkRuns q = s.tkRuns q) (g := fun t q => t.tk q)
    (F := fun q k => k.afterWord (s.tkRuns q) (bitAt bad q)) (f := fun p (t : State) => t.takeWord p (bitAt bad p))
    (fun i t ht => ?_) (fun i t ht => ?_) (fun i j t ht hj => ?_) ⟨h, fun q => rfl⟩ hp
  · obtain ⟨hinv, hruns⟩ := ht
    exact ⟨(State.takeWord_keeps (State.Keeps.refl t)).inv hinv, fun q =>
      (State.tkRuns_takeWord hinv i (bitAt bad i) q).trans (hruns q)⟩
  · rw [State.tk_takeWord ht.1, if_pos rfl, ht.2 i]
  · rw [State.tk_takeWord ht.1, if_neg hj]

theorem exec_broadcastWord (bad : BitVec 8) (s : State) : exec (.broadcastWord bad) s =
    .next (if s.isSet crB Reg.crRefStatusTbPllLock then (s.applyStep bad.toNat).takeWords bad.toNat else s) := rfl

/-! ### Loss, return and rejoin (R493-R495) -/

theorem exec_broadcastLoss (p : Fin 8) (s : State) : exec (.broadcastLoss p) s =
    .next (if s.tkRuns p && !(s.tk p).own && decide (s.rd (ptB p) Reg.ptCtrlBcMiss ≤ (s.tk p).badRun) then
      ((s.goOwn p).bumpSat (ptB p) Reg.ptStatLosses).raise (ptB p) evBcLost else s) := rfl

/-- R494: what 1 ms of good words leads to. -/
def State.bcBack (s : State) (p : Nat) : State :=
  let a := (s.wrS (ptB p) Reg.ptOffsetOffset (s.tkOffset p)).raise (ptB p) evBcBack
  if (s.tkOffset p).natAbs ≤ 8 * s.rd tbB Reg.tbStepStepLimit ∨ !a.activeIn p (p + 1) then
    a.setTk p { s.tk p with adopting := true }
  else a.setTk p { s.tk p with offset := s.tkOffset p, rejoin := true, rejoinFrom := a.now }

theorem exec_broadcastBack (p : Fin 8) (s : State) : exec (.broadcastBack p) s =
    .next (if s.tkRuns p && (s.tk p).own && !(s.tk p).rejoin && !(s.tk p).adopting && decide (1000 ≤ (s.tk p).goodRun) &&
      !s.tkHostOwn p then s.bcBack p else s) := rfl

theorem exec_rejoinAdopt (p : Fin 8) (s : State) : exec (.rejoinAdopt p) s =
    .next (if s.tkRuns p && (s.tk p).rejoin && decide ((s.tkOffset p).natAbs ≤ 64) then s.adopt p else s) := rfl

/-! ### The intent (R495, R499) -/

/-- A timekeeper that is put on its own clock while it runs. -/
def State.tkHeld (t : State) (p : Nat) : State :=
  if !(t.tk p).own then t.goOwn p
  else if (t.tk p).rejoin then t.setTk p (t.tkCoasting p) else t.setTk p { t.tk p with adopting := false }

theorem exec_timekeeperHostStateWrite_through {s : State} {fn : Fin 65} {p : Fin 8}
    (hw : s.lockedWrite fn (ptB p) (ptB p + 0x20) = true) (data : Word) {mode : Nat}
    (hmode : (if bitsOf data.toNat 8 8 = 2 then 2 else 1) = mode) : exec (.timekeeperHostStateWrite fn p data) s =
      .next (if intentOp data.toNat = opRunning ∧ mode = 2 ∧
          (s.storeIntent (ptB p) (intentOp data.toNat) mode).tkRuns p then
        (s.storeIntent (ptB p) (intentOp data.toNat) mode).tkHeld p
      else s.storeIntent (ptB p) (intentOp data.toNat) mode) := by
  subst hmode
  refine congrArg _ ((State.mmioWrite_through (State.lockedWrite_through hw) _).trans ?_)
  rw [State.tkIntent, if_neg (by simp [State.lockedWrite_may hw])]
  rfl

/-! ### The statement -/

/-- Settles O53: the words plate by plate, the timers by the timekeeper's state, and the intent by what the timekeeper does. -/
theorem plateTimekeepersFollowLoseAndRejoin : Obligations.PlateTimekeepersFollowLoseAndRejoin := by
  refine ⟨fun bad s hunlocked => ?_, fun bad s hlocked hstep hinv => ?_, fun p s => ?_, fun fn p data s hw => ?_,
    fun fn s hr => congrArg _ (State.mmioRead_through hr _), fun fn p s hr => congrArg _ (State.mmioRead_through hr _)⟩
  · rw [exec_broadcastWord, if_neg (by simp [hunlocked])]
  · have hnoStep : s.applyStep bad.toNat = s := by rw [State.applyStep, hstep]
    rw [exec_broadcastWord, if_pos hlocked, hnoStep]
    refine ⟨_, rfl, s.takeWords_tb _, fun p hp => ?_⟩
    rw [State.tk_takeWords hinv _ hp]
    refine ⟨fun hstill => ?_, fun hruns hbad => ?_, fun hruns hgood hnear => ?_⟩
    · rw [hstill]
      rfl
    · have hword : (s.tk p).wordBad (bitAt bad.toNat p) = true := by
        rcases hbad with h | ⟨hown, hfar⟩
        · simp [Timekeeper.wordBad, h]
        · simp [Timekeeper.wordBad, hown, hfar]
      rw [hruns, Timekeeper.afterWord, if_neg (by decide), if_pos hword]
      rfl
    · have hword : (s.tk p).wordBad (bitAt bad.toNat p) = false := by
        rcases hnear with h | h
        · simp [Timekeeper.wordBad, hgood, h]
        · simp [Timekeeper.wordBad, hgood, h]
      rw [hruns, Timekeeper.afterWord, if_neg (by decide), hword, if_neg Bool.false_ne_true]
      rfl
  · rw [exec_broadcastLoss, exec_broadcastBack, exec_rejoinAdopt]
    refine ⟨fun hruns hown hmiss => ?_, fun hno => ?_, fun hno => ?_, fun hruns hown hrejoin hadopt hgood hhost =>
      ⟨_, rfl, fun hnear => ?_, fun hfar hactive => ?_⟩, fun hruns hrejoin hnear => ?_, fun hno => ?_⟩
    · rw [if_pos (by simp [hruns, hown, hmiss])]
    · rw [if_neg (by rcases hno with h | h | h <;> simp [h])]
    · rw [if_neg (by rcases hno with h | h | h | h | h | h <;> simp [h])]
    · rw [if_pos (by simp [hruns, hown, hrejoin, hadopt, hgood, hhost])]
      exact congrArg _ (if_pos (by simpa using hnear))
    · rw [if_pos (by simp [hruns, hown, hrejoin, hadopt, hgood, hhost])]
      exact congrArg _ (if_neg (by simp [hfar, hactive]))
    · rw [if_pos (by simp [hruns, hrejoin, hnear])]
    · rw [if_neg (by rcases hno with h | h | h <;> simp [h])]
  · refine ⟨fun hother => ?_, fun hmode hrun => ?_⟩
    · rw [exec_timekeeperHostStateWrite_through hw data rfl, if_neg]
      rintro ⟨hrun, hmode, -⟩
      rcases hother with h | h
      · rw [if_neg h] at hmode
        cases hmode
      · exact h hrun
    · rw [exec_timekeeperHostStateWrite_through hw data (if_pos hmode), hrun]
      refine ⟨_, rfl, fun hstill => ?_, fun hruns hown => ?_, fun hruns hown hrejoin => ?_, fun hruns hown hrejoin => ?_⟩
      · rw [if_neg (by simp [hstill])]
      · rw [if_pos ⟨rfl, rfl, hruns⟩, State.tkHeld, if_pos (by rw [hown]; rfl)]
      · rw [if_pos ⟨rfl, rfl, hruns⟩, State.tkHeld, if_neg (by rw [hown]; decide), if_pos hrejoin]
      · rw [if_pos ⟨rfl, rfl, hruns⟩, State.tkHeld, if_neg (by rw [hown]; decide), if_neg (by rw [hrejoin]; decide)]

end Sys2Proof.Machine
end

section
-- One proof at a time: elaborated side by side, they need more memory than the check allows.
set_option Elab.async false

/-! SUPPORT. The timebase's control (14_timebase.md R462-R491): what every change of source or state leaves of its intent, the
steering of a millisecond, times set, holdover, the external servo, learning, the model's commands and PPS_OUT. -/

namespace Sys2Proof.Machine

/-! ### Fields that an event and a stored intent leave, be the store canonical or not -/

theorem State.rd_raise_other {b b' i i' : Nat} {r' : Row} (h : fieldKey b' r' i' ≠ fieldKey b Title.event 0) (s : State) :
    (s.raise b i).rd b' r' i' = s.rd b' r' i' := by
  rw [State.raise]
  split
  · rfl
  · dsimp only
    split
    · rw [State.rd, State.assertIrq_regs]
      exact State.rd_wr_other h s _
    · exact State.rd_wr_other h s _

/-- The fields that storing an intent writes. -/
def intentRows : List Row := [Title.mismatch, Title.held, Title.count, Title.hostOp, Title.hostMode]

theorem State.notePlateHold_other {b : Nat} (hb : (sheetAt b).map Prod.fst ≠ some .plate) (s : State) : s.notePlateHold b = s := by
  rw [State.notePlateHold]
  split
  · next heq => exact absurd (by rw [heq]; rfl) hb
  · rfl

section StoreIntent
variable {b b' i' : Nat} {r' : Row} (hb : (sheetAt b).map Prod.fst ≠ some .plate)
  (h : ∀ r ∈ intentRows, fieldKey b' r' i' ≠ fieldKey b r 0)
include hb h

theorem State.rd_endHold_other (s : State) : (s.endHold b).rd b' r' i' = s.rd b' r' i' := by
  have hfields : ((((s.clearAgree b).wr b Title.mismatch 0).wr b Title.held 0).wr b Title.count 0).rd b' r' i' =
      s.rd b' r' i' := by
    rw [State.rd_wr_other (h _ (by decide)), State.rd_wr_other (h _ (by decide)), State.rd_wr_other (h _ (by decide))]
    rfl
  rw [State.endHold, State.notePlateHold_other hb]
  split <;> exact hfields

theorem State.rd_storeIntent_other (s : State) (op mode : Nat) : (s.storeIntent b op mode).rd b' r' i' = s.rd b' r' i' := by
  rw [State.storeIntent, State.rd_wr_other (h _ (by decide)), State.rd_wr_other (h _ (by decide))]
  split
  · exact State.rd_endHold_other hb h s
  · rw [State.rd_wr_other (h _ (by decide)), State.rd_wr_other (h _ (by decide))]

end StoreIntent

/-! ### The intent and the operating code of the timebase -/

/-- The timebase's intent and the operating code of its data path. -/
def State.tbTitle (s : State) : Nat × Nat × Nat :=
  (s.rd tbB Title.hostOp, s.rd tbB Title.hostMode, s.rd tbB Title.stateOp)

def tbTitleKeys : List Nat := [fieldKey tbB Title.hostOp 0, fieldKey tbB Title.hostMode 0, fieldKey tbB Title.stateOp 0]

theorem State.tbTitle_congr {s t : State} (h : t.regs = s.regs) : t.tbTitle = s.tbTitle := by
  simp only [State.tbTitle, State.rd, h]

theorem State.tbTitle_wr {b i : Nat} {r : Row} (h : ∀ k ∈ tbTitleKeys, k ≠ fieldKey b r i) (s : State) (v : Nat) :
    (s.wr b r v i).tbTitle = s.tbTitle := by
  simp only [State.tbTitle, State.rd_wr_other (h (fieldKey tbB Title.hostOp 0) (by decide)),
    State.rd_wr_other (h (fieldKey tbB Title.hostMode 0) (by decide)),
    State.rd_wr_other (h (fieldKey tbB Title.stateOp 0) (by decide))]

theorem State.tbTitle_raise (s : State) (i : Nat) : (s.raise tbB i).tbTitle = s.tbTitle := by
  simp only [State.tbTitle, State.rd_raise_other (b := tbB) (b' := tbB) (r' := Title.hostOp) (i' := 0) (by decide),
    State.rd_raise_other (b := tbB) (b' := tbB) (r' := Title.hostMode) (i' := 0) (by decide),
    State.rd_raise_other (b := tbB) (b' := tbB) (r' := Title.stateOp) (i' := 0) (by decide)]

theorem State.drawRound_regs (s : State) (n d : Int) : (s.drawRound n d).2.regs = s.regs := by
  rw [State.drawRound]
  split <;> rfl

theorem State.meanOf_regs (s : State) (l : List Int) (dflt : Int) : (s.meanOf l dflt).2.regs = s.regs := by
  rw [State.meanOf]
  split
  · rfl
  · exact s.drawRound_regs _ _

theorem State.meanY_regs (s : State) (l : List YSecond) (dflt : Int) : (s.meanY l dflt).2.regs = s.regs := by
  rw [State.meanY]
  split
  · rfl
  · exact s.drawRound_regs _ _

theorem State.ppsOutCut_regs (s : State) : s.ppsOutCut.regs = s.regs := by
  rw [State.ppsOutCut]
  split <;> rfl

theorem State.tbTitle_setTbState (s : State) (v : Nat) : (s.setTbState v).tbTitle = s.tbTitle := by
  rw [State.setTbState]
  split
  · rfl
  · rw [State.tbTitle_raise, State.tbTitle_congr (State.ppsOutCut_regs _)]
    split
    · exact State.tbTitle_wr (r := Reg.tbHoTimeHoS) (by decide) s _
    · rfl

theorem State.tbTitle_setSelected (s : State) (n : Nat) : (s.setSelected n).tbTitle = s.tbTitle := by
  have hevent : (((s.wr tbB Reg.tbRefStatSelected n).bumpSat tbB Reg.tbCountsSwitches).raise tbB evTbSwitch).tbTitle =
      s.tbTitle := by
    rw [State.tbTitle_raise, State.bumpSat, State.tbTitle_wr (by decide), State.tbTitle_wr (by decide)]
  rw [State.setSelected]
  split
  · rfl
  · dsimp only
    split
    · exact hevent
    · rw [State.tbTitle_wr (by decide)]
      exact hevent

theorem State.tbTitle_moveTime (s : State) (d : Int) (force : Bool) : (s.moveTime d force).tbTitle = s.tbTitle := by
  rw [State.moveTime]
  split
  · rfl
  · split
    · rfl
    · rw [State.tbTitle_raise, State.bumpSat, State.tbTitle_wr (by decide)]
      rfl

theorem State.tbTitle_correct (s : State) (n : Nat) : (s.correct n).tbTitle = s.tbTitle := by
  rw [State.correct]
  split
  · exact s.tbTitle_moveTime _ _
  · rfl

theorem State.tbTitle_enterHoldover (s : State) : s.enterHoldover.tbTitle = s.tbTitle := by
  rw [State.enterHoldover]
  refine Eq.trans (State.tbTitle_wr (b := tbB) (r := Reg.tbHoTimeHoS) (i := 0) (by decide) _ 0) ?_
  rw [State.tbTitle_setTbState]
  exact State.tbTitle_congr ((State.drawRound_regs _ _ _).trans ((State.meanY_regs _ _ _).trans (State.meanOf_regs _ _ _)))

theorem State.tbTitle_tbSwitch (s : State) (n : Nat) : (s.tbSwitch n).tbTitle = s.tbTitle := by
  rw [State.tbSwitch]
  split
  · exact s.tbTitle_setSelected n
  · split
    · exact (State.tbTitle_setTbState _ _).trans (s.tbTitle_setSelected n)
    · split
      · exact (State.tbTitle_correct _ _).trans ((State.tbTitle_setTbState _ _).trans (s.tbTitle_setSelected n))
      · exact s.tbTitle_setSelected n
    · exact (State.tbTitle_correct _ _).trans ((State.tbTitle_setTbState _ _).trans (s.tbTitle_setSelected n))
    · exact s.tbTitle_setSelected n

theorem State.tbTitle_tbLost (s : State) : s.tbLost.tbTitle = s.tbTitle := by
  rw [State.tbLost]
  split
  · exact s.tbTitle_setSelected _
  · split
    · exact (State.tbTitle_setTbState _ _).trans (s.tbTitle_setSelected _)
    · exact (State.tbTitle_enterHoldover _).trans (s.tbTitle_setSelected _)
    · exact (State.tbTitle_enterHoldover _).trans (s.tbTitle_setSelected _)
    · exact s.tbTitle_setSelected _

theorem State.tbTitle_tbReselect (s : State) : s.tbReselect.tbTitle = s.tbTitle := by
  rw [State.tbReselect]
  split
  · rfl
  · dsimp only
    split
    · rfl
    · split
      · exact s.tbTitle_tbSwitch _
      · split
        · rfl
        · exact s.tbTitle_tbLost

theorem State.tbTitle_tbTakeUp (s : State) : s.tbTakeUp.tbTitle = s.tbTitle := by
  rw [State.tbTakeUp]
  split
  · exact s.tbTitle_tbSwitch _
  · rfl

/-! ### The intent (R466) -/

section StoredIntent
variable {s : State} (h : s.Inv) (b op mode : Nat)
include h

/-- The state in which a new intent is stored. -/
theorem State.storeIntent_eq : ∃ t : State, Sparse.wf t.regs = true ∧
    s.storeIntent b op mode = (t.wr b Title.hostOp op).wr b Title.hostMode mode := by
  refine ⟨_, ?_, rfl⟩
  split
  · exact ((State.endHold_keeps (State.Keeps.refl s)).inv h).regs
  · exact State.wr_wf (State.wr_wf h.regs _ _ _ _) _ _ _ _

theorem State.hostOp_storeIntent : (s.storeIntent b op mode).rd b Title.hostOp = op % 2 ^ 4 := by
  obtain ⟨t, hwf, heq⟩ := State.storeIntent_eq h b op mode
  rw [heq, State.rd_wr_apart (by decide)]
  exact State.rd_wr_same hwf b Title.hostOp op 0

theorem State.hostMode_storeIntent : (s.storeIntent b op mode).rd b Title.hostMode = mode % 2 ^ 8 := by
  obtain ⟨t, hwf, heq⟩ := State.storeIntent_eq h b op mode
  rw [heq]
  exact State.rd_wr_same (State.wr_wf hwf _ _ _ _) b Title.hostMode mode 0

end StoredIntent

/-- The timebase leaves OFF, where it was. -/
def State.tbAwake (a : State) : State := if a.rd tbB Title.stateOp = opOff then a.leaveOff else a

theorem State.tbAwake_wf {a : State} (h : Sparse.wf a.regs = true) : Sparse.wf a.tbAwake.regs = true := by
  rw [State.tbAwake]
  split
  · exact State.wr_wf (State.wr_wf (s := a.modTb _) h _ _ _ _) _ _ _ _
  · exact h

/-- Leaving OFF writes nothing but the front end's manual code. -/
theorem State.rd_tbAwake {a : State} {b : Nat} {r : Row} (hen : fieldKey b r 0 ≠ fieldKey feB Reg.feEfcManManEn 0)
    (hman : fieldKey b r 0 ≠ fieldKey feB Reg.feEfcManual 0) : a.tbAwake.rd b r = a.rd b r := by
  rw [State.tbAwake]
  split
  · rw [State.leaveOff, State.rd_wr_other hman, State.rd_wr_other hen]
    rfl
  · rfl

/-- The timebase as RUNNING leaves it, before it takes a source. -/
def State.tbStarted (s : State) (mode : Nat) : State :=
  let c := ((s.storeIntent tbB opRunning mode).tbAwake.setOp tbB opRunning).wr tbB Title.stateMode mode
  if s.rd tbB Title.stateOp = opOff ∨ s.tbMode ≠ mode then c.modTb (fun t => { t with extAt := s.now }) else c

theorem State.tbStarted_regs (s : State) (mode : Nat) : (s.tbStarted mode).regs =
    (((s.storeIntent tbB opRunning mode).tbAwake.setOp tbB opRunning).wr tbB Title.stateMode mode).regs := by
  rw [State.tbStarted]
  split <;> rfl

theorem State.tbTitle_tbStarted {s : State} (h : s.Inv) {mode : Nat} (hmode : mode < 2 ^ 8) :
    (s.tbStarted mode).tbTitle = (opRunning, mode, opRunning) := by
  have hwf : Sparse.wf (s.storeIntent tbB opRunning mode).tbAwake.regs = true :=
    State.tbAwake_wf ((State.storeIntent_keeps (State.Keeps.refl s)).inv h).regs
  rw [State.tbTitle_congr (s.tbStarted_regs mode), State.tbTitle_wr (by decide), State.tbTitle, State.setOp,
    State.rd_wr_other (by decide), State.rd_wr_other (by decide), State.rd_tbAwake (by decide) (by decide),
    State.rd_tbAwake (by decide) (by decide), State.hostOp_storeIntent h, State.hostMode_storeIntent h,
    State.rd_wr_same hwf, Nat.mod_eq_of_lt hmode]
  rfl

theorem State.tbSrc_tbStarted (s : State) (mode : Nat) :
    (s.tbStarted mode).rd crB Reg.crRefStatusTbSrc = s.rd crB Reg.crRefStatusTbSrc := by
  rw [State.rd, State.tbStarted_regs, ← State.rd, State.rd_wr_other (by decide), State.setOp, State.rd_wr_other (by decide),
    State.rd_tbAwake (by decide) (by decide), State.rd_storeIntent_other (by decide) (by decide)]

/-- A timebase that runs on OSC_IN stays as it is when its PLL's source is looked at (R464). -/
theorem State.tbPllMoved_stays {s : State} (hsrc : s.rd crB Reg.crRefStatusTbSrc = 1) (hop : s.rd tbB Title.stateOp ≠ opFault) :
    s.tbPllMoved = s := by
  rw [State.tbPllMoved, if_pos hsrc, if_neg hop]

section Intent
variable {s : State} {fn : Fin 65} {data : Word} (hw : s.lockedWrite fn tbB (tbB + 0x20) = true)
include hw

theorem exec_timebaseHostStateWrite_stop (hop : intentOp data.toNat ≠ opRunning) :
    exec (.timebaseHostStateWrite fn data) s = .next (if intentOp data.toNat = opOff then
      (((s.storeIntent tbB (intentOp data.toNat) 0).tbGoFree).setOp tbB opOff).wr tbB Title.stateMode 0
    else s.storeIntent tbB (intentOp data.toNat) 0) := by
  refine congrArg _ ((State.mmioWrite_through (State.lockedWrite_through hw) _).trans ?_)
  rw [State.tbIntent, if_neg (by simp [State.lockedWrite_may hw])]
  exact if_neg hop

theorem exec_timebaseHostStateWrite_run (hop : intentOp data.toNat = opRunning) {mode : Nat}
    (hmode : (if bitsOf data.toNat 8 8 = 2 then 2 else 1) = mode) : exec (.timebaseHostStateWrite fn data) s =
      .next (s.tbStarted mode).tbPllMoved.tbReselect.tbTakeUp := by
  subst hmode
  refine congrArg _ ((State.mmioWrite_through (State.lockedWrite_through hw) _).trans ?_)
  rw [State.tbIntent, if_neg (by simp [State.lockedWrite_may hw])]
  exact if_pos hop

theorem exec_timebaseHostStateWrite_runs (h : s.Inv) (hop : intentOp data.toNat = opRunning)
    (hsrc : s.rd crB Reg.crRefStatusTbSrc = 1) : ∃ t, exec (.timebaseHostStateWrite fn data) s = .next t ∧
      t.tbTitle = (opRunning, if bitsOf data.toNat 8 8 = 2 then 2 else 1, opRunning) := by
  have htitle : (s.tbStarted (if bitsOf data.toNat 8 8 = 2 then 2 else 1)).tbTitle =
      (opRunning, if bitsOf data.toNat 8 8 = 2 then 2 else 1, opRunning) :=
    State.tbTitle_tbStarted h (by split <;> decide)
  refine ⟨_, exec_timebaseHostStateWrite_run hw hop rfl, ?_⟩
  rw [State.tbTitle_tbTakeUp, State.tbTitle_tbReselect, State.tbPllMoved_stays ((s.tbSrc_tbStarted _).trans hsrc), htitle]
  rw [(Prod.mk.inj (Prod.mk.inj htitle).2).2]
  decide

end Intent

/-! ### Times set (R479, R482) -/

/-- Does a phase source steer in ACQUIRE, LOCKED or RELOCK? -/
def State.phaseSteers (s : State) : Bool :=
  (s.tb.state == tbAcquire || s.tb.state == tbLocked || s.tb.state == tbRelock) && phaseSource s.tbSelected

/-- The offset that TB_SET_CTRL moves site time by: what was written, or the way to it. -/
def State.setOffset (s : State) (relative : Bool) : Int :=
  if relative then toSigned 48 (s.rd tbB Reg.tbSetSecHiSecHi * 2 ^ 32 + s.rd tbB Reg.tbSetSecLoSecLo) * secNs
    + (s.rd tbB Reg.tbSetNsNs : Int)
  else ((s.rd tbB Reg.tbSetSecHiSecHi * 2 ^ 32 + s.rd tbB Reg.tbSetSecLoSecLo : Nat) : Int) * secNs
    + (s.rd tbB Reg.tbSetNsNs : Int) - s.siteNs

theorem exec_timeSetGo_through {s : State} {fn : Fin 65} (hw : s.writesThrough fn (tbB + 0x8C) = true) (data : Word) :
    exec (.timeSetGo fn data) s = .next (if !s.mayWriteL tbB (masterOfFn fn) || !bitAt data.toNat 0 || s.phaseSteers then s
      else s.moveTime (s.setOffset (bitAt data.toNat 1)) (bitAt data.toNat 2)) :=
  congrArg _ (State.mmioWrite_through hw _)

/-! ### A millisecond and a second of the timebase (R462, R463, R480, R484) -/

theorem exec_efcUpdate (osc : Int) (s : State) : exec (.efcUpdate osc) s =
    .next (if s.chip.power = .up then (if (s.driftTime osc).tbRuns then (s.driftTime osc).steer1ms else s.driftTime osc)
      else s) := rfl

theorem State.noteRatio_regs (s : State) : s.noteRatio.regs = s.regs := by
  rw [State.noteRatio]
  split <;> rfl

theorem State.noteRatio_state (s : State) : s.noteRatio.tb.state = s.tb.state := by
  rw [State.noteRatio]
  split <;> rfl

theorem State.driftTime_tbRuns (s : State) (osc : Int) : (s.driftTime osc).tbRuns = s.tbRuns := by
  rw [State.tbRuns, State.rd, State.driftTime, State.noteRatio_regs]
  rfl

theorem State.driftTime_state (s : State) (osc : Int) : (s.driftTime osc).tb.state = s.tb.state := by
  rw [State.driftTime, State.noteRatio_state]
  rfl

theorem exec_slewProfileEnd (s : State) : exec .slewProfileEnd s =
    .next (if s.tb.slew.run ∧ s.tb.slew.left = 0 ∧ s.tb.slew.freq = 0 then
      s.modTb (fun t => { t with slew := {}, deferred := false, movedAt := s.now }) else s) := rfl

theorem exec_holdoverEval (s : State) : exec .holdoverEval s =
    .next (if s.tb.state = tbHoldover then s.holdSeconds.modelY.2.modTb (fun t => { t with
      hoModel := s.usesModel, hoY := if s.usesModel then s.holdSeconds.modelY.1 + t.hoBase else t.hoMean }) else s) := rfl

theorem exec_ppsOutPulse (s : State) : exec .ppsOutPulse s =
    .next (if s.ppsOutOn ∧ s.chip.power = .up ∧ (s.siteSubNs ≤ 2 ∨ secNs ≤ s.siteSubNs + 2) then
      s.modTb (fun t => { t with ppsTill := s.now + s.rd tbB Reg.tbCtrlPpsWMs * msNs }) else s) := rfl

/-! ### The external servo (R477, R481) -/

theorem exec_extTimeout (s : State) : exec .extTimeout s =
    .next (if s.tbRuns ∧ s.tbMode = 2 ∧ (s.tb.state = tbLocked ∨ s.tb.state = tbRelock) ∧
        s.tb.extAt + s.rd tbB Reg.tbExtCtrlExtTimeoutMs * msNs ≤ s.now then
      s.enterHoldover.raise tbB evExtTimeout else s) := rfl

/-- A state of the external servo that a timeout watches. -/
def extTimed (x : Nat) : Bool := x == tbLocked || x == tbRelock

section ExtServo
variable {s : State} {fn : Fin 65} (data : Word)

theorem exec_extFreqWrite_through (hw : s.writesThrough fn (tbB + 0x74) = true) {t : State}
    (ht : t = s.wr tbB Reg.tbExtFreqFreq data.toNat) : exec (.extFreqWrite fn data) s = .next (if t.tbRuns && t.tbMode == 2 then
      (t.setY (toSigned 32 data.toNat)).modTb (fun x => { x with extAt := t.now }) else t) := by
  subst ht
  exact congrArg _ (State.mmioWrite_through hw _)

theorem exec_extStateWrite_through (hw : s.writesThrough fn (tbB + 0x78) = true) {t : State}
    (ht : t = s.storeWord fn tbB Reg.tbRows 0x78 data.toNat) : exec (.extStateWrite fn data) s =
      .next (if !t.tbRuns || t.tbMode != 2 then t
        else if t.rd tbB Reg.tbExtCtrlExtState = tbHoldover then (if t.tb.state = tbHoldover then t else t.enterHoldover)
        else (if extTimed (t.rd tbB Reg.tbExtCtrlExtState) && !extTimed t.tb.state then
          t.modTb (fun x => { x with extAt := t.now }) else t).setTbState (t.rd tbB Reg.tbExtCtrlExtState)) := by
  subst ht
  exact congrArg _ (State.mmioWrite_through hw _)

end ExtServo

/-! ### The model's commands (R489) -/

section Model
variable {s : State} {fn : Fin 65} (hw : s.writesThrough fn (hmB + 0x78) = true)
include hw

theorem exec_modelReset_through : exec (.modelReset fn) s = .next (s.modelCmd fn 1) :=
  congrArg _ (State.mmioWrite_through hw _)

theorem exec_modelExport_through : exec (.modelExport fn) s = .next (s.modelCmd fn 2) :=
  congrArg _ (State.mmioWrite_through hw _)

theorem exec_modelImport_through : exec (.modelImport fn) s = .next (s.modelCmd fn 4) :=
  congrArg _ (State.mmioWrite_through hw _)

end Model

section ModelCmd
variable {s : State} {fn : Nat}

theorem State.modelCmd_unlocked (h : s.mayWriteL hmB (masterOfFn fn) = false) (data : Nat) : s.modelCmd fn data = s :=
  if_pos (by simp [h])

theorem State.modelCmd_locked (h : s.mayWriteL hmB (masterOfFn fn) = true) (data : Nat) : s.modelCmd fn data =
    let a := if bitAt data 0 then s.modelReset else s
    let b := if bitAt data 1 then a.modelExport else a
    if bitAt data 2 then b.modelImport else b :=
  if_neg (by simp [h])

end ModelCmd

/-! ### The statement -/

/-- Settles O52: the intent by what leaves the sheet's title, and each command and timer by its conditions. -/
theorem timebaseSteersIsSetHoldsAndLearns : Obligations.TimebaseSteersIsSetHoldsAndLearns := by
  refine ⟨fun fn data s hw => ⟨fun hoff => ?_, fun hquiet => ?_, fun hrun hinv hsrc => ?_⟩, fun fn data s hw => ?_, fun s => ?_,
    fun fn data s hw => ⟨_, rfl, fun hno => ?_, fun hruns hmode => ⟨_, rfl, ?_⟩⟩,
    fun fn data s hw => ⟨_, rfl, fun hno => ?_, fun hruns hmode hhold => ?_, fun hruns hmode hother => ⟨_, rfl, ?_⟩⟩,
    fun fn s hw => ⟨fun hno => ?_, fun hmay => ?_⟩⟩
  · rw [exec_timebaseHostStateWrite_stop hw (by rw [hoff]; decide), if_pos hoff, hoff]
  · rw [exec_timebaseHostStateWrite_stop hw (by rw [hquiet]; decide), hquiet, if_neg (by decide)]
  · obtain ⟨t, hexec, htitle⟩ := exec_timebaseHostStateWrite_runs hw hinv hrun hsrc
    obtain ⟨hop, hrest⟩ := Prod.mk.inj htitle
    exact ⟨t, hexec, hop, Prod.mk.inj hrest⟩
  · rw [exec_timeSetGo_through hw]
    refine ⟨fun hno => ?_, fun hmay hgo hst hphase => ?_, fun hmay hgo hfree => ?_⟩
    · rw [if_pos (by rcases hno with h | h <;> simp [h])]
    · rw [if_pos (by rcases hst with h | h | h <;> simp [State.phaseSteers, h, hphase])]
    · have hsteers : s.phaseSteers = false := by
        rcases hfree with h | h | h <;> simp [State.phaseSteers, h, tbFree, tbHoldover, tbAcquire, tbLocked, tbRelock]
      rw [if_neg (by simp [hmay, hgo, hsteers])]
      rfl
  · rw [exec_slewProfileEnd, exec_holdoverEval, exec_extTimeout, exec_ppsOutPulse]
    refine ⟨fun osc => ?_, fun hrun hleft hfreq => ?_, fun hno => ?_, fun hno => ?_, fun hhold => ⟨_, _, _, rfl, rfl, ?_⟩,
      fun hruns hmode hst hat => ?_, fun hno => ?_, fun t ht => ht ▸ rfl, fun hon hup hsub => ?_, fun hno => ?_,
      decide_eq_true_iff⟩
    · rw [exec_efcUpdate]
      refine ⟨fun hdown => by rw [if_neg hdown], fun hup => ⟨_, _, s.driftTime osc, rfl, rfl, rfl, fun hstill => ?_,
        fun hruns => ⟨_, _, rfl, rfl, ?_⟩⟩⟩
      · rw [if_pos hup, s.driftTime_tbRuns, if_neg (by simp [hstill])]
      · rw [if_pos hup, s.driftTime_tbRuns, if_pos hruns, State.steer1ms, s.driftTime_state]
        rfl
    · rw [if_pos ⟨hrun, hleft, hfreq⟩]
      rfl
    · rw [if_neg (by rcases hno with h | h | h <;> simp [h])]
    · rw [if_neg hno]
    · rw [if_pos hhold]
      rfl
    · rw [if_pos ⟨hruns, hmode, hst, hat⟩]
    · rw [if_neg]
      rintro ⟨hruns, hmode, hst, hat⟩
      rcases hno with h | h | h | h
      · exact absurd hruns (by simp [h])
      · exact h hmode
      · exact hst.elim h.1 h.2
      · omega
    · rw [if_pos ⟨hon, hup, hsub⟩]
      rfl
    · rw [if_neg]
      rintro ⟨hon, hup, hsub⟩
      rcases hno with h | h | h
      · exact absurd hon (by simp [h])
      · exact h hup
      · omega
  · rw [exec_extFreqWrite_through data hw rfl, if_neg (by rcases hno with h | h <;> simp [h])]
  · rw [exec_extFreqWrite_through data hw rfl, if_pos (by simp [hruns, hmode])]
    rfl
  · rw [exec_extStateWrite_through data hw rfl, if_pos (by rcases hno with h | h <;> simp [h])]
  · rw [exec_extStateWrite_through data hw rfl, if_neg (by simp [hruns, hmode]), if_pos hhold]
  · rw [exec_extStateWrite_through data hw rfl, if_neg (by simp [hruns, hmode]), if_neg hother]
    simp only [extTimed, Bool.and_eq_true, Bool.or_eq_true, beq_iff_eq, Bool.not_eq_true', Bool.or_eq_false_iff, beq_eq_false_iff_ne]
    rfl
  · rw [exec_modelReset_through hw, exec_modelExport_through hw, exec_modelImport_through hw, State.modelCmd_unlocked hno,
      State.modelCmd_unlocked hno, State.modelCmd_unlocked hno]
    exact ⟨rfl, rfl, rfl⟩
  · rw [exec_modelReset_through hw, exec_modelExport_through hw, exec_modelImport_through hw, State.modelCmd_locked hmay,
      State.modelCmd_locked hmay, State.modelCmd_locked hmay]
    exact ⟨rfl, rfl, rfl, fun hmark => if_pos hmark⟩

end Sys2Proof.Machine
end

section
-- One proof at a time: elaborated side by side, they need more memory than the check allows.
set_option Elab.async false

/-! SUPPORT. The TDM highways (13_tdm.md R447-R460): their intent, the start of a master, what a slave watches, and the slips. -/

namespace Sys2Proof.Machine

/-! ### The intent (R455) -/

/-- R455: what a stored intent `op` does to the highway, `asleep` saying that its plate sleeps. -/
def State.thObeys (t : State) (p op : Nat) (asleep : Bool) : State :=
  match t.thOp p with
  | 0 => if op = opRunning ∧ !asleep then t.startHighway p else t
  | 1 => if op = opOff then t.offHighway p else t
  | 2 => if op = opOff then
      ((t.setHighway p { t.highway p with lastFrames := t.thFrameNow p + 1 }).setOp (thB p) opStopping).driveHighway p else t
  | _ => t

theorem exec_tdmHostStateWrite_through {s : State} {fn : Fin 65} {p : Fin 8}
    (hw : s.lockedWrite fn (thB p) (thB p + 0x20) = true) (data : Word) : exec (.tdmHostStateWrite fn p data) s =
      .next ((s.storeIntent (thB p) (intentOp data.toNat) 0).thObeys p (intentOp data.toNat) (s.plateAsleep p)) := by
  refine congrArg _ ((State.mmioWrite_through (State.lockedWrite_through hw) _).trans ?_)
  rw [State.thIntent, if_neg (by simp [State.lockedWrite_may hw])]
  rfl

section Obeys
variable {t : State} {p op : Nat} {asleep : Bool}

theorem State.thObeys_off (h : t.thOp p = opOff) : t.thObeys p op asleep =
    if op = opRunning ∧ !asleep then t.startHighway p else t := by
  rw [State.thObeys, h]
  rfl

theorem State.thObeys_starting (h : t.thOp p = opStarting) : t.thObeys p op asleep =
    if op = opOff then t.offHighway p else t := by
  rw [State.thObeys, h]
  rfl

theorem State.thObeys_running (h : t.thOp p = opRunning) : t.thObeys p op asleep = if op = opOff then
    ((t.setHighway p { t.highway p with lastFrames := t.thFrameNow p + 1 }).setOp (thB p) opStopping).driveHighway p
      else t := by
  rw [State.thObeys, h]
  rfl

theorem State.thObeys_other (hoff : t.thOp p ≠ opOff) (hstarting : t.thOp p ≠ opStarting) (hrunning : t.thOp p ≠ opRunning) :
    t.thObeys p op asleep = t := by
  rw [State.thObeys]
  split
  · next h => exact absurd h hoff
  · next h => exact absurd h hstarting
  · next h => exact absurd h hrunning
  · rfl

theorem State.thObeys_run (h : t.thOp p ≠ opOff ∨ asleep = true) : t.thObeys p opRunning asleep = t := by
  by_cases hoff : t.thOp p = opOff
  · rw [State.thObeys_off hoff, if_neg (by simp [h.resolve_left (not_not.2 hoff)])]
  · by_cases hstarting : t.thOp p = opStarting
    · rw [State.thObeys_starting hstarting, if_neg (by decide)]
    · by_cases hrunning : t.thOp p = opRunning
      · rw [State.thObeys_running hrunning, if_neg (by decide)]
      · exact State.thObeys_other hoff hstarting hrunning

theorem State.thObeys_stop (hstarting : t.thOp p ≠ opStarting) (hrunning : t.thOp p ≠ opRunning) :
    t.thObeys p opOff asleep = t := by
  by_cases hoff : t.thOp p = opOff
  · rw [State.thObeys_off hoff, if_neg (fun h => absurd h.1 (by decide))]
  · exact State.thObeys_other hoff hstarting hrunning

/-- An intent that is neither is only stored. -/
theorem State.thObeys_quiet (hop : op ≠ opOff) (hrun : op ≠ opRunning) : t.thObeys p op asleep = t := by
  by_cases hoff : t.thOp p = opOff
  · rw [State.thObeys_off hoff, if_neg (fun h => hrun h.1)]
  · by_cases hstarting : t.thOp p = opStarting
    · rw [State.thObeys_starting hstarting, if_neg hop]
    · by_cases hrunning : t.thOp p = opRunning
      · rw [State.thObeys_running hrunning, if_neg hop]
      · exact State.thObeys_other hoff hstarting hrunning

end Obeys

/-! ### The start of a master, and what a slave watches (R447, R449, R450, R453) -/

theorem exec_masterFsStart (p : Fin 8) (s : State) : exec (.masterFsStart p) s =
    .next (if s.thClocked p && s.thOp p == opStarting && (s.highway p).master && s.tkNs p % 125000 == 0 then
      ((s.setThDetail p 0 true).setThDetail p 1 true).runHighway p else s) := rfl

theorem exec_tdmClockLost (p : Fin 8) (s : State) : exec (.tdmClockLost p) s =
    .next (if s.thSlave p && s.thDetail p 0 then
      (((s.setThDetail p 0 false).noteCarried p).bumpSat (thB p) Reg.thErrsClkLost).raise (thB p) evThClkLost else s) := rfl

theorem exec_tdmClockBack (p : Fin 8) (s : State) : exec (.tdmClockBack p) s =
    .next (if s.thSlave p && !s.thDetail p 0 then
      (((s.setThDetail p 0 true).noteCarried p).alignStores p).raise (thB p) evThClkBack else s) := rfl

/-- A misplaced frame sync is counted, and in its run. -/
def State.fsCounted (s : State) (p : Nat) : State :=
  (s.setHighway p { s.highway p with fsErrRun := (s.highway p).fsRun s.now, fsErrAt := s.now }).bumpSat (thB p) Reg.thErrsFsErr

theorem exec_tdmFsError (p : Fin 8) (s : State) : exec (.tdmFsError p) s =
    .next (if s.thSlave p && s.thDetail p 1 then
      if (s.highway p).fsRun s.now < 3 then s.fsCounted p else ((s.fsCounted p).setThDetail p 1 false).noteCarried p
    else s) := rfl

/-- The frame sync is found again, and the stores are realigned. -/
def State.fsRealigned (s : State) (p : Nat) : State :=
  ((State.alignStores (((s.setThDetail p 1 true).setHighway p { s.highway p with fsErrRun := 0 }).noteCarried p) p).bumpSat
    (thB p) Reg.thErrsRealign).raise (thB p) evThRealign

theorem exec_tdmRealign (p : Fin 8) (s : State) : exec (.tdmRealign p) s =
    .next (if s.thSlave p && !s.thDetail p 1 then
      if (s.fsRealigned p).thOp p = opStarting then (s.fsRealigned p).runHighway p else s.fsRealigned p
    else s) := rfl

/-- The highway's measured offset is stored, and its spacings have drifted by it. -/
def State.freqStored (s : State) (p : Nat) (ppb : Int) : State :=
  (s.driftSpacings p ppb).wrS (thB p) Reg.thFreqOffsetPpb (clampInt (-(2 ^ 31)) (2 ^ 31 - 1) ppb)

/-- Is an offset beyond 200 ppm? -/
def beyond200ppm (ppb : Int) : Bool := decide (ppb < -200000 ∨ 200000 < ppb)

theorem exec_highwayFreqUpdate (p : Fin 8) (ppb : Int) (s : State) : exec (.highwayFreqUpdate p ppb) s =
    .next (if s.thSlave p then
      if beyond200ppm ppb = (s.freqStored p ppb).thDetail p 2 then s.freqStored p ppb
      else ((s.freqStored p ppb).setThDetail p 2 (beyond200ppm ppb)).raise (thB p) evThClkRange
    else s) := rfl

/-! ### Slips (R450, R451) -/

/-- The counter of a slip. -/
def slipRow (rx deleted : Bool) : Row :=
  if rx then (if deleted then Reg.thSlipsRxDel else Reg.thSlipsRxRep)
  else (if deleted then Reg.thSlipsTxDel else Reg.thSlipsTxRep)

/-- The slip is noted in the frame under way, counted and announced. -/
def State.slipNoted (s : State) (p : Nat) (rx deleted : Bool) : State :=
  (((s.setHighway p { s.highway p with frame := (s.highway p).frame.slips rx deleted (s.thFrameNow p) }).bumpSat
    (thB p) (slipRow rx deleted)).setSpacing p rx (s.spacing p rx + (if deleted then -(10 ^ 15) else 10 ^ 15))).raise (thB p)
      evThSlip

theorem exec_elasticSlip (p : Fin 8) (rx deleted : Bool) (s : State) : exec (.elasticSlip p rx deleted) s =
    .next (if !s.slipDue p rx deleted then s
      else forEach ((s.slipNoted p rx deleted).thChannels p) (fun g v => v.echoSlip g (s.thFrameNow p) deleted)
        (s.slipNoted p rx deleted)) := by
  cases rx <;> cases deleted <;> rfl

theorem State.slipDue_iff (s : State) (p : Nat) (rx deleted : Bool) :
    s.slipDue p rx deleted = true ↔ s.thOp p = opRunning ∧ s.thDetail p 0 = true ∧ s.thDetail p 1 = true ∧
      (if deleted then 175 * 10 ^ 13 ≤ s.spacing p rx else s.spacing p rx ≤ 25 * 10 ^ 13) ∧
      ((s.highway p).master = true → s.tkNs p % 125000 = s.rd (thB p) Reg.thPhasePhaseNs) := by
  cases deleted <;> cases hm : (s.highway p).master <;>
    simp [State.slipDue, State.thLocked, and_assoc, hm]

/-! ### The statement -/

/-- Settles O47: the intent by what the highway does, a slave's clock and frame sync by what it had, and the slips by when they
are due. -/
theorem highwaysLockSlipAndReport : Obligations.HighwaysLockSlipAndReport := by
  refine ⟨fun fn p data s hw => ⟨_, rfl, ?_⟩, fun p s => ?_, fun p rx deleted s => ⟨s.slipDue_iff p rx deleted, fun hno => ?_,
    fun hdue => ⟨_, s.slipNoted p rx deleted, rfl, rfl, ?_⟩⟩⟩
  · rw [exec_tdmHostStateWrite_through hw]
    refine ⟨fun hrun hoff hawake => ?_, fun hrun hno => ?_, fun hop hstarting => ?_, fun hop hrunning => ?_,
      fun hop hstarting hrunning => ?_, fun hop hrun => ?_⟩
    · rw [State.thObeys_off hoff, if_pos ⟨hrun, by simp [hawake]⟩]
    · rw [hrun] at hno ⊢
      rw [State.thObeys_run hno]
    · rw [State.thObeys_starting hstarting, if_pos hop]
    · rw [State.thObeys_running hrunning, if_pos hop]
    · rw [hop] at hstarting hrunning ⊢
      rw [State.thObeys_stop hstarting hrunning]
    · rw [State.thObeys_quiet hop hrun]
  · rw [exec_masterFsStart, exec_tdmClockLost, exec_tdmClockBack, exec_tdmFsError, exec_tdmRealign]
    refine ⟨fun hclk hop hmaster hgrid => ?_, fun hno => ?_, fun hslave hclk => ?_, fun hslave hclk => ?_,
      fun hslave hsync => ⟨_, s.fsCounted p, rfl, rfl, ?_⟩, fun hslave hsync => ⟨_, s.fsRealigned p, rfl, rfl, ?_⟩,
      fun hno ppb => ?_, fun ppb hslave => ⟨s.freqStored p ppb, rfl, ?_⟩⟩
    · rw [if_pos (by simp [hclk, hop, hmaster, hgrid])]
    · rw [if_neg (by rcases hno with h | h | h | h <;> simp [h])]
    · rw [if_pos (by simp [hslave, hclk]), if_neg (by simp [hclk])]
      exact ⟨rfl, rfl⟩
    · rw [if_neg (by simp [hclk]), if_pos (by simp [hslave, hclk])]
      exact ⟨rfl, rfl⟩
    · exact ⟨congrArg _ (if_pos (by simp [hslave, hsync])), congrArg _ (if_neg (by simp [hsync]))⟩
    · exact ⟨congrArg _ (if_pos (by simp [hslave, hsync])), congrArg _ (if_neg (by simp [hsync]))⟩
    · rw [exec_highwayFreqUpdate]
      simp only [hno, Bool.false_and, Bool.false_eq_true, if_false, and_self]
    · rw [exec_highwayFreqUpdate, if_pos hslave]
      exact ⟨fun hsame => congrArg _ (if_pos hsame), fun hdiff => congrArg _ (if_neg hdiff)⟩
  · rw [exec_elasticSlip, if_pos (by simp [hno])]
  · rw [exec_elasticSlip, if_neg (by simp [hdue])]

end Sys2Proof.Machine
end

section
-- One proof at a time: elaborated side by side, they need more memory than the check allows.
set_option Elab.async false

/-! SUPPORT. The operations of pairs (21_pairs_stacks.md) leave the timebase: one law per operation, written along its branches. -/

namespace Sys2Proof.Machine

/-! ### Branches, loops and shared operations -/

theorem tb_ite {c : Prop} [Decidable c] {a b s : State} (ha : a.tb = s.tb) (hb : b.tb = s.tb) : (if c then a else b).tb = s.tb := by
  split
  · exact ha
  · exact hb

theorem tb_forEach {α : Type} {f : α → State → State} (hf : ∀ a t, (f a t).tb = t.tb) (l : List α) (s : State) :
    (forEach l f s).tb = s.tb :=
  forEach_leaves (g := State.tb) hf l s

theorem tb_forUpTo {f : Nat → State → State} (hf : ∀ i t, (f i t).tb = t.tb) (n : Nat) (s : State) :
    (forUpTo n f s).tb = s.tb :=
  forUpTo_leaves (g := State.tb) hf n s

theorem State.raise_tb (s : State) (b i : Nat) : (s.raise b i).tb = s.tb := by
  rw [State.raise_eq]

theorem State.sendMsix_tb (s : State) (fn vec : Nat) : (s.sendMsix fn vec).tb = s.tb := by
  rw [State.sendMsix_eq]

theorem State.bumpSat_tb (s : State) (b : Nat) (r : Row) (i n : Nat) : (s.bumpSat b r i n).tb = s.tb := rfl

theorem State.withdraw_tb (s : State) (q : GrantReq) : (s.withdraw q).tb = s.tb := rfl

theorem State.ask_tb (s : State) (q : GrantReq) : (s.ask q).tb = s.tb := tb_ite rfl rfl

theorem State.storeField_tb (s : State) (fn b : Nat) (r : Row) (i data : Nat) : (s.storeField fn b r i data).tb = s.tb := by
  rw [State.storeField]
  split
  · exact tb_ite rfl rfl
  · exact tb_ite rfl rfl
  · exact tb_ite rfl rfl
  all_goals rfl

theorem State.storeWord_tb (s : State) (fn b : Nat) (rows : List Row) (off data : Nat) : (s.storeWord fn b rows off data).tb = s.tb := by
  refine tb_forEach (fun r t => ?_) rows s
  split
  · exact t.storeField_tb _ _ _ _ _
  · rfl

/-! ### Requests -/

theorem State.logAer_tb (s : State) (fn : Nat) (e : AerError) (np : Bool) : (s.logAer fn e np).tb = s.tb := by
  change (s.logAer fn e np).sansAer.tb = s.sansAer.tb
  rw [State.logAer_sansAer]

theorem State.breakLocksOf_tb (s : State) (m : Nat) : (s.breakLocksOf m).tb = s.tb := by
  change (s.breakLocksOf m).sansLocks.tb = s.sansLocks.tb
  rw [State.breakLocksOf_sansLocks]

theorem State.stopMaster_tb (s : State) (m : Nat) (ran : Bool) : (s.stopMaster m ran).tb = s.tb :=
  tb_ite rfl (tb_ite (s.sendMsix_tb _ _) (tb_ite rfl rfl))

theorem State.violate_tb (s : State) (m kind access : Nat) (plate : Option Nat) (lo hi : Nat) :
    (s.violate m kind access plate lo hi).tb = s.tb :=
  tb_ite rfl ((State.stopMaster_tb _ m _).trans ((State.raise_tb _ fzB 0).trans (State.breakLocksOf_tb _ m)))

theorem State.amendRecord_tb (s : State) (m : Nat) (f : FrzRec → FrzRec) : (s.amendRecord m f).tb = s.tb := by
  rw [State.amendRecord]
  split <;> rfl

theorem State.countAccess_tb (s : State) (fn : Nat) : (s.countAccess fn).tb = s.tb := tb_ite (s.amendRecord_tb _ _) rfl

theorem State.refuseRequest_tb (s : State) (fn : Nat) (completion : Bool) : (s.refuseRequest fn completion).tb = s.tb :=
  tb_ite (s.logAer_tb fn _ _) (s.logAer_tb fn _ _)

/-- A write leaves the timebase where its effect does. -/
theorem State.mmioWrite_tb {f : State → State} (hf : ∀ t, (f t).tb = t.tb) (s : State) (fn a : Nat) : (s.mmioWrite fn a f).tb = s.tb := by
  refine tb_ite ?_ rfl
  rw [State.writeAt]
  split
  · rfl
  · exact s.refuseRequest_tb fn false
  · exact s.countAccess_tb fn
  · exact s.countAccess_tb fn
  · exact s.countAccess_tb fn
  · exact s.violate_tb _ _ _ _ _ _
  · exact (hf _).trans (s.countAccess_tb fn)

/-! ### Channels -/

theorem State.modChan_tb (s : State) (g : Nat) (f : Chan → Chan) : (s.modChan g f).tb = s.tb := rfl

theorem State.modJitter_tb (s : State) (g : Nat) (f : Jitter → Jitter) : (s.modJitter g f).tb = s.tb := rfl

theorem State.modMedia_tb (s : State) (g : Nat) (f : Media → Media) : (s.modMedia g f).tb = s.tb := rfl

theorem State.setPhase_tb (s : State) (g ph : Nat) : (s.setPhase g ph).tb = s.tb := rfl

theorem State.vector2_tb (s : State) (t : Nat) : (s.vector2 t).tb = s.tb := by
  rw [State.vector2]
  split
  · exact State.sendMsix_tb _ _ _
  · rfl

theorem State.chAssert_tb (s : State) (g : Nat) : (s.chAssert g).tb = s.tb := by
  rw [State.chAssert]
  split
  · exact s.vector2_tb _
  · rfl

theorem State.chEvent_tb (s : State) (g i : Nat) : (s.chEvent g i).tb = s.tb := tb_ite rfl (tb_ite (State.chAssert_tb _ g) rfl)

theorem State.setPath_tb (s : State) (g next : Nat) : (s.setPath g next).tb = s.tb := (State.wr_tb _ _ _ _ _).trans (tb_ite rfl rfl)

theorem State.noteBeyond_tb (s : State) (p : Nat) : (s.noteBeyond p).tb = s.tb := tb_ite (State.raise_tb _ _ _) rfl

theorem State.leavePeer_tb (s : State) (g : Nat) : (s.leavePeer g).tb = s.tb := tb_ite (State.chEvent_tb _ _ _) rfl

theorem State.releaseBurst_tb (s : State) (g : Nat) : (s.releaseBurst g).tb = s.tb := by
  have hwithdrawn (e : Echo) : ((s.setEcho g e).withdraw (.echo g)).tb = s.tb := s.setEcho_tb g e
  have hfreed (t : State) : (t.fastFreed (g / 256)).tb = t.tb := rfl
  have hcleared (e : Echo) (v : Nat) : (((s.setEcho g e).withdraw (.echo g)).wr (chB g) Reg.ecStatusBurst v).tb = s.tb :=
    (State.wr_tb _ _ _ _ _).trans (hwithdrawn e)
  exact tb_ite ((hfreed _).trans (tb_ite (hwithdrawn _) (hcleared _ _))) (tb_ite (hwithdrawn _) (hcleared _ _))

theorem State.echoStop_tb (s : State) (g : Nat) : (s.echoStop g).tb = s.tb :=
  tb_ite rfl ((State.wr_tb _ _ _ _ _).trans ((State.setPhase_tb _ _ _).trans (s.releaseBurst_tb g)))

theorem State.releaseHeld_tb (s : State) (g : Nat) : (s.releaseHeld g).tb = s.tb := by
  simp only [State.releaseHeld, State.noteBeyond_tb, State.setChan_tb, State.withdraw_tb, State.mediaClose, State.jbClose,
    State.echoClose, State.echoStop_tb, State.leavePeer_tb]

theorem State.flushQueue_tb (s : State) (p q : Nat) : (s.flushQueue p q).tb = s.tb := by
  rw [State.flushQueue]
  split
  · exact tb_ite rfl rfl
  · rfl

theorem State.releaseChannel_tb (s : State) (g : Nat) : (s.releaseChannel g).tb = s.tb :=
  (State.flushQueue_tb _ _ _).trans (s.releaseHeld_tb g)

theorem State.writeHeader_tb (s : State) (g : Nat) : (s.writeHeader g).tb = s.tb := rfl

theorem State.setTd_tb (s : State) (g : Nat) (bypass nlpOff forced : Bool) : (s.setTd g bypass nlpOff forced).tb = s.tb :=
  tb_ite (tb_ite rfl rfl) ((State.chEvent_tb _ _ _).trans (tb_ite rfl rfl))

theorem State.dfEdge_tb (s : State) (g : Nat) (edge : Bool) : (s.dfEdge g edge).tb = s.tb := tb_ite rfl (State.chEvent_tb _ _ _)

theorem State.retryWithin_tb (s : State) (p : Nat) : (s.retryWithin p).tb = s.tb := by
  rw [State.retryWithin]
  split <;> rfl

theorem State.askFast_tb (s : State) (g : Nat) : (s.askFast g).tb = s.tb :=
  tb_ite rfl (tb_ite rfl (tb_ite (State.ask_tb _ _) (State.retryWithin_tb _ _)))

theorem State.dropRequest_tb (s : State) (g : Nat) : (s.dropRequest g).tb = s.tb := by
  rw [State.dropRequest]
  split
  · exact tb_ite rfl (State.setPath_tb _ _ _)
  · rfl

theorem State.addRequest_tb (s : State) (g : Nat) (isOpen : Bool) : (s.addRequest g isOpen).tb = s.tb := State.setPath_tb _ g _

theorem State.classifyReq_tb (s : State) (g : Nat) : (s.classifyReq g).tb = s.tb := by
  have ht := s.dropRequest_tb g
  have hmod (f : Chan → Chan) : ((s.dropRequest g).modChan g f).tb = s.tb := (State.modChan_tb _ g f).trans ht
  have hadd (o : Bool) : ((s.dropRequest g).addRequest g o).tb = s.tb := (State.addRequest_tb _ g o).trans ht
  exact tb_ite (tb_ite ht (hmod _)) (tb_ite ht (tb_ite (tb_ite (hadd _) (tb_ite (hadd _) ht)) (tb_ite (hmod _) ht)))

/-! ### Frames, lanes and roles -/

theorem State.modPair_tb (s : State) (p : Nat) (f : PairPlate → PairPlate) : (s.modPair p f).tb = s.tb := rfl

theorem State.sendEpk_tb (s : State) (lanes : List Nat) (plate : Option Nat) (dest : Fin 9) (b : EpkBody) :
    (s.sendEpk lanes plate dest b).tb = s.tb :=
  tb_ite rfl (tb_forEach (f := fun _ (t : State) => t.emit _) (fun _ _ => rfl) lanes _)

theorem State.sendRole_tb (s : State) (subtype : Nat) (plate : Option Nat) : (s.sendRole subtype plate).tb = s.tb :=
  tb_ite (s.sendEpk_tb _ _ _ _) rfl

theorem State.setProt_tb (s : State) (p v : Nat) : (s.setProt p v).tb = s.tb := tb_ite rfl (State.raise_tb _ _ _)

theorem State.dropProt_tb (s : State) (p : Nat) : (s.dropProt p).tb = s.tb := State.setProt_tb _ p _

theorem State.setRole_tb (s : State) (p r : Nat) : (s.setRole p r).tb = s.tb := rfl

theorem State.noteMaster_tb (s before : State) : (s.noteMaster before).tb = s.tb :=
  tb_ite rfl (tb_ite (s.raise_tb _ _) (s.raise_tb _ _))

theorem State.heardOn_tb (s : State) (l n : Nat) : (s.heardOn l n).tb = s.tb := tb_ite rfl (State.noteMaster_tb _ _)

theorem State.relayBody_tb (s : State) (l : Nat) (b : EpkBody) : (s.relayBody l b).2.tb = s.tb := by
  cases b <;> rfl

theorem State.relay_tb (s : State) (h : EpkHdr) (b : EpkBody) : (s.relay h b).tb = s.tb := tb_ite rfl (s.relayBody_tb _ b)

/-- A mirror frame is taken on the PAIR lanes alone, and not relayed. -/
theorem State.epkIn_mirror {b : EpkBody} (hb : onStack b = false) (s : State) (h : EpkHdr) (f : State → State) : s.epkIn h b f =
    if s.laneIsUp h.lane = false ∨ 2 ≤ h.lane.val then s
    else if h.origin.val ≠ (s.heardOn h.lane h.origin).myNode ∧
        (h.dest = everyNode ∨ h.dest.val = (s.heardOn h.lane h.origin).myNode) then f (s.heardOn h.lane h.origin)
    else s.heardOn h.lane h.origin := by
  have hheard : s.epkHeard h b = s.heardOn h.lane h.origin := if_pos (by simp [hb])
  rw [State.epkIn_eq, hheard, hb]
  simp only [Bool.not_false, Bool.true_and, Bool.or_eq_true, Bool.not_eq_true', decide_eq_true_eq]

theorem State.epkIn_tb {f : State → State} (hf : ∀ t, (f t).tb = t.tb) (s : State) (h : EpkHdr) (b : EpkBody) :
    (s.epkIn h b f).tb = s.tb := by
  have hu : (s.epkHeard h b).tb = s.tb :=
    tb_ite (s.heardOn_tb _ _) ((State.relay_tb _ h b).trans (s.heardOn_tb _ _))
  rw [State.epkIn_eq]
  exact tb_ite rfl (tb_ite ((hf _).trans hu) hu)

theorem State.goActive_tb (s : State) (p : Nat) : (s.goActive p).tb = s.tb := by
  rw [State.goActive, State.sendRole_tb, State.modPair_tb, State.wr_tb, State.setRole_tb, State.dropProt_tb]

theorem State.goStandby_tb (s : State) (p : Nat) : (s.goStandby p).tb = s.tb := by
  rw [State.goStandby, State.sendRole_tb]
  split
  · rw [State.raise_tb, State.bumpSat_tb, State.modPair_tb, State.setRole_tb, State.dropProt_tb]
  · rw [State.modPair_tb, State.setRole_tb, State.dropProt_tb]

theorem State.dropMirror_tb (s : State) (g : Nat) : (s.dropMirror g).tb = s.tb := by
  simp only [State.dropMirror, State.modChan_tb, State.wr_tb, State.setPath_tb, State.releaseChannel_tb]

theorem State.unpair_tb (s : State) (p : Nat) : (s.unpair p).tb = s.tb := by
  rw [State.unpair, State.sendRole_tb, State.modPair_tb, State.setRole_tb, State.dropProt_tb]
  exact tb_ite (tb_forEach (fun g t => t.dropMirror_tb g) _ s) rfl

theorem State.settleRole_tb (s : State) (p : Nat) : (s.settleRole p).tb = s.tb := by
  rw [State.settleRole]
  split
  · rfl
  · extract_lets r a
    have ha : a.tb = s.tb :=
      tb_ite (tb_ite rfl (s.unpair_tb p))
        (tb_ite rfl (tb_ite (tb_ite rfl (tb_ite (s.modPair_tb p _) (s.goActive_tb p))) (tb_ite rfl (s.goStandby_tb p))))
    have hb (v w : Nat) : ((a.wr ekB Reg.ekPlateEpoch v p).setProt p w).tb = s.tb := (State.setProt_tb _ p w).trans ha
    exact tb_ite (tb_ite (hb _ _) (hb _ _)) ha

theorem State.askSwitch_tb (s : State) (p other : Nat) : (s.askSwitch p other).tb = s.tb := tb_ite rfl rfl

theorem State.takeEntry_tb (s : State) (p : Nat) (e : RoleEntry) : (s.takeEntry p e).tb = s.tb :=
  (State.settleRole_tb _ p).trans (tb_ite (State.askSwitch_tb _ p 1) rfl)

theorem State.takeEntries_tb (s : State) (p : Nat) (l : List RoleEntry) : (s.takeEntries p l).tb = s.tb := by
  induction l generalizing s p with
  | nil => rfl
  | cons e l ih =>
    rw [State.takeEntries]
    split
    · exact (ih _ _).trans (s.takeEntry_tb p e)
    · rfl

theorem State.takeNotice_tb (s : State) (p subtype : Nat) : (s.takeNotice p subtype).tb = s.tb :=
  tb_ite rfl (tb_ite rfl (tb_ite rfl (s.goActive_tb p)))

/-! ### Mirrors -/

theorem State.pokeWord_tb (s : State) (g off v : Nat) : (s.pokeWord g off v).tb = s.tb := by
  rw [State.pokeWord]
  refine tb_ite (s := s) ((State.modChan_tb _ g _).trans ?_) ?_
  all_goals
    refine tb_forEach (fun r t => ?_) mirrorRows s
    split
    · exact tb_ite rfl rfl
    · rfl

theorem State.chargeMirror_tb (s : State) (g : Nat) (changed : Bool) : (s.chargeMirror g changed).tb = s.tb :=
  tb_ite rfl (tb_ite (s.ask_tb _) rfl)

theorem State.setMirror_tb (s : State) (p n : Nat) (all : Bool) (m : MirrorChan) : (s.setMirror p n all m).tb = s.tb := by
  delta State.setMirror
  extract_lets g b fresh a l c e d f h k r u old quarters i
  have ha : a.tb = s.tb := tb_forEach (fun w t => tb_ite (t.pokeWord_tb g _ _) rfl) m.words s
  have hl : l.tb = s.tb := tb_ite ((State.writeHeader_tb a g).trans ha) ha
  have hc : c.tb = s.tb := (State.noteBeyond_tb _ p).trans ((State.chargeMirror_tb _ g _).trans ((State.modChan_tb l g _).trans hl))
  have hd : d.tb = s.tb := (State.setTd_tb _ g _ _ _).trans ((State.setEcho_tb c g _).trans hc)
  have hf : f.tb = d.tb := by simp only [f, State.wr_tb, State.setPhase_tb]
  have hk : k.tb = f.tb := by simp only [k, h, State.modMedia_tb, State.modJitter_tb]
  have hu : u.tb = k.tb := by simp only [u, r, State.wr_tb]
  exact hu.trans (hk.trans (hf.trans hd))

theorem State.applyMirror_tb (s : State) (p n : Nat) (all : Bool) (chans : List MirrorChan) :
    (s.applyMirror p n all chans).tb = s.tb :=
  (tb_forEach (fun m t => t.setMirror_tb p n all m) chans _).trans (tb_forEach (fun g t => t.dropMirror_tb g) _ s)

theorem State.sendAck_tb (s : State) (p : Nat) : (s.sendAck p).tb = s.tb := s.sendEpk_tb _ _ _ _

theorem State.applyProof_tb (s : State) (p n : Nat) (chans : List MirrorChan) : (s.applyProof p n chans).tb = s.tb := by
  have ha : ((s.applyMirror p n false chans).sendAck p).tb = s.tb := (State.sendAck_tb _ p).trans (s.applyMirror_tb p n false chans)
  exact tb_ite ha ha

theorem State.proofLost_tb (s : State) (n : Nat) : (s.proofLost n).tb = s.tb := State.raise_tb _ _ _

theorem State.proofBroken_tb (s : State) (p n : Nat) : (s.proofBroken p n).tb = s.tb := State.proofLost_tb _ 1

theorem State.takeProof_tb (s : State) (p n : Nat) (chans : List MirrorChan) : (s.takeProof p n chans).tb = s.tb :=
  tb_ite rfl (tb_ite (s.proofLost_tb 1) ((State.applyProof_tb _ p n chans).trans (tb_ite rfl (s.proofLost_tb _))))

theorem State.handedOver_tb (s : State) (p : Nat) : (s.handedOver p).tb = s.tb := by
  rw [State.handedOver, State.sendRole_tb, State.modPair_tb, State.setRole_tb, State.dropProt_tb]
  refine tb_forEach (fun g t => ?_) _ s
  exact t.echoStop_tb g

/-- R704, R708: the numbers up to `n` are acknowledged. -/
def State.ackNoted (s : State) (p n : Nat) : State :=
  let x := s.pair p
  let c := upTo n x.carried
  let w := upTo n x.sentWords
  let a := forEach c.1 (fun e t => forEach e.2 (fun g u => u.wr (chB g) Reg.pmStatusMirrored 1) t) s
  a.modPair p (fun q => { q with
    acked := max q.acked n, unacked := (c.2.filter (fun e => some e.1 != q.impression)).length
    carried := c.2, sentWords := w.2, ackedWords := w.1.foldl (fun l e => mergeWords l e.2) q.ackedWords })

/-- R704: with its impression acknowledged the plate is protected. -/
def State.ackImpression (b : State) (p n : Nat) (impression : Option Nat) : State :=
  match impression with
  | some k => if k ≤ n ∧ b.prot p = protImprinting then
      (State.setProt { b with imprGrants := Sparse.del b.imprGrants p } p protProtected).sendRole 0 none else b
  | none => b

theorem State.takeAck_eq (s : State) (p n : Nat) : s.takeAck p n =
    match (s.pair p).handover with
    | some k => if k ≤ n then ((s.ackNoted p n).ackImpression p n (s.pair p).impression).handedOver p
      else (s.ackNoted p n).ackImpression p n (s.pair p).impression
    | none => (s.ackNoted p n).ackImpression p n (s.pair p).impression := rfl

theorem State.ackNoted_tb (s : State) (p n : Nat) : (s.ackNoted p n).tb = s.tb := by
  rw [State.ackNoted, State.modPair_tb]
  refine tb_forEach (fun e t => ?_) _ s
  exact tb_forEach (f := fun g (u : State) => u.wr (chB g) Reg.pmStatusMirrored 1) (fun _ _ => rfl) e.2 t

theorem State.ackImpression_tb (b : State) (p n : Nat) (impression : Option Nat) :
    (b.ackImpression p n impression).tb = b.tb := by
  cases impression with
  | none => rfl
  | some k => exact tb_ite ((State.sendRole_tb _ _ _).trans (State.setProt_tb _ p _)) rfl

theorem State.takeAck_tb (s : State) (p n : Nat) : (s.takeAck p n).tb = s.tb := by
  have hnoted := (State.ackImpression_tb _ p n (s.pair p).impression).trans (s.ackNoted_tb p n)
  rw [State.takeAck_eq]
  split
  · exact tb_ite ((State.handedOver_tb _ p).trans hnoted) hnoted
  · exact hnoted

/-! ### Takeover, and the trace check -/

theorem State.resumeEcho_tb (s : State) (g : Nat) (m : MirrorInfo) (last : Nat) : (s.resumeEcho g m last).tb = s.tb := by
  delta State.resumeEcho
  extract_lets b e held old mask off a ph t
  have ha : a.tb = s.tb := by simp only [a, State.wr_tb, State.setEcho_tb]
  have ht : t.tb = s.tb := (State.setPhase_tb _ g _).trans ((State.wr_tb a _ _ _ _).trans ha)
  refine tb_ite ((State.setPhase_tb _ g _).trans ((State.wr_tb a _ _ _ _).trans ha)) ?_
  refine tb_ite ht ?_
  exact ((t.askFast_tb g).trans ht)

theorem State.resumeJitter_tb (s : State) (g : Nat) (m : MirrorInfo) : (s.resumeJitter g m).tb = s.tb := State.dfEdge_tb _ g _

theorem State.resumeRtp_tb (s : State) (g : Nat) (m : MirrorInfo) : (s.resumeRtp g m).tb = s.tb := rfl

theorem State.resumeChannel_tb (s : State) (last g : Nat) : (s.resumeChannel last g).tb = s.tb := by
  delta State.resumeChannel
  extract_lets b m a d e
  have ha : a.tb = s.tb := (State.resumeRtp_tb _ g m).trans ((State.resumeJitter_tb _ g m).trans (s.resumeEcho_tb g m last))
  have he : e.tb = a.tb := by simp only [e, d, State.wr_tb]
  exact tb_ite (s.dropMirror_tb g)
    ((State.classifyReq_tb _ g).trans ((State.noteBeyond_tb _ _).trans ((State.modChan_tb e g _).trans (he.trans ha))))

theorem State.takeOver_tb (s : State) (p cause : Nat) : (s.takeOver p cause).tb = s.tb := by
  rw [State.takeOver, tb_forEach (fun g t => t.resumeChannel_tb _ g), State.raise_tb, State.bumpSat_tb, State.wr_tb, State.wr_tb,
    State.wr_tb, State.goActive_tb]

theorem State.endPairHold_tb (s : State) (p : Nat) : (s.endPairHold p).tb = s.tb := rfl

theorem State.wantStored_tb (s : State) (p : Nat) : (s.wantStored p).tb = s.tb := by
  have ha : ((s.driveHighway p).settleRole p).tb = s.tb := State.settleRole_tb _ p
  rw [State.wantStored, State.sendRole_tb]
  split
  · exact tb_ite ((State.askSwitch_tb _ p _).trans ha) ha
  · exact ha

theorem State.ekPlateEffect_tb (s : State) (fn p data : Nat) : (s.ekPlateEffect fn p data).tb = s.tb :=
  tb_ite rfl ((State.wantStored_tb _ p).trans ((State.endPairHold_tb _ p).trans (s.storeWord_tb _ _ _ _ _)))

theorem State.pairAccept_tb (s : State) (fn p : Nat) : (s.pairAccept fn p).tb = s.tb :=
  tb_ite rfl ((State.wantStored_tb _ p).trans (State.endPairHold_tb _ p))

theorem State.pairMiss_tb (s : State) (p : Nat) : (s.pairMiss p).tb = s.tb := tb_ite rfl (State.raise_tb _ _ _)

theorem State.pairSample_tb (s : State) (p : Nat) : (s.pairSample p).tb = s.tb := by
  have hmiss (f : PairPlate → PairPlate) : ((s.modPair p f).pairMiss p).tb = s.tb := State.pairMiss_tb _ p
  refine tb_ite rfl (tb_ite (hmiss _) (tb_ite rfl ?_))
  split
  · rfl
  · exact tb_ite rfl (s.pairMiss_tb p)

end Sys2Proof.Machine
end

section
-- One proof at a time: elaborated side by side, they need more memory than the check allows.
set_option Elab.async false

/-! SUPPORT. Pairs (21_pairs_stacks.md R698-R721): what hearing a frame leaves, role and mirror frames, the partner's loss,
takeover, switchover and the trace check of pair activity. -/

namespace Sys2Proof.Machine

/-! ### What hearing a frame leaves (R695, R697) -/

/-- The parts of the state by which a pair's frames are judged, its registers aside. -/
def State.pairParts (s : State) :
    Option Nat × Option Nat × Nat × List Nat × Sparse Nat × Sparse PairPlate × Fuses :=
  (s.epk.partnerUid, s.epk.drainFrom, s.now, s.frozen, s.imprGrants, s.pairs, s.fuses)

theorem State.noteMaster_pairParts (s before : State) : (s.noteMaster before).pairParts = s.pairParts := by
  have hraise : (s.raise ekB evMasterChange).pairParts = s.pairParts := by
    rw [State.pairParts, State.raise_eq]
    rfl
  rw [State.noteMaster]
  split
  · rfl
  · dsimp only
    split
    · exact hraise
    · exact hraise

theorem State.heardOn_pairParts (s : State) (l n : Nat) : (s.heardOn l n).pairParts = s.pairParts := by
  rw [State.heardOn]
  dsimp only
  split
  · rfl
  · exact State.noteMaster_pairParts _ _

section Rd
variable {b i : Nat} {r : Row} (hevent : fieldKey b r i ≠ fieldKey ekB Title.event 0)
  (hlease : fieldKey b r i ≠ fieldKey ekB Reg.ekStkLeaseLease 0)
include hevent hlease

theorem State.rd_noteMaster_other (s before : State) : (s.noteMaster before).rd b r i = s.rd b r i := by
  rw [State.noteMaster]
  split
  · rfl
  · dsimp only
    split
    · exact State.rd_raise_other hevent s
    · exact (State.rd_wr_other hlease (s.raise ekB evMasterChange) _).trans (State.rd_raise_other hevent s)

theorem State.rd_heardOn_other (s : State) (l n : Nat) : (s.heardOn l n).rd b r i = s.rd b r i := by
  rw [State.heardOn]
  dsimp only
  split
  · rfl
  · exact State.rd_noteMaster_other hevent hlease _ _

end Rd

/-- The fields of a plate in the Epkuone sheet are left. -/
theorem State.rd_heardOn_plate {r : Row} (hoff : r.off = 0x80) (hstride : r.stride = 8) (hl : r.lsb < 32) (s : State) (l n p : Nat) :
    (s.heardOn l n).rd ekB r p = s.rd ekB r p :=
  State.rd_heardOn_other (by simp only [fieldKey, Title.event, hoff, hstride]; omega)
    (by simp only [fieldKey, Reg.ekStkLeaseLease, hoff, hstride]; omega) s l n

section PairParts
variable {s t : State} (h : t.pairParts = s.pairParts)
include h

theorem State.pairParts_inj : t.epk.partnerUid = s.epk.partnerUid ∧ t.epk.drainFrom = s.epk.drainFrom ∧ t.now = s.now ∧
    t.frozen = s.frozen ∧ t.imprGrants = s.imprGrants ∧ t.pairs = s.pairs ∧ t.fuses = s.fuses := by
  simpa only [State.pairParts, Prod.mk.injEq] using h

theorem State.hasPartner_of_pairParts : t.hasPartner = s.hasPartner := by
  obtain ⟨huid, -⟩ := State.pairParts_inj h
  rw [State.hasPartner, huid, State.hasPartner]

theorem State.myNode_of_pairParts (hsid : t.sid = s.sid) : t.myNode = s.myNode := by
  obtain ⟨huid, -⟩ := State.pairParts_inj h
  rw [State.myNode, huid, hsid]
  rfl

theorem State.partnerNode_of_pairParts (hsid : t.sid = s.sid) : t.partnerNode = s.partnerNode := by
  rw [State.partnerNode, State.myNode_of_pairParts h hsid, hsid, State.partnerNode]

theorem State.agentActs_of_pairParts : t.agentActs = s.agentActs := by
  obtain ⟨-, hdrain, hnow, hfrozen, -⟩ := State.pairParts_inj h
  rw [State.agentActs, State.isFrozen, hdrain, hnow, hfrozen]
  rfl

theorem State.pairedPlate_of_pairParts {p : Nat} (hwant : t.rd ekB Reg.ekPlateWant p = s.rd ekB Reg.ekPlateWant p) :
    t.pairedPlate p = s.pairedPlate p := by
  obtain ⟨-, -, -, -, -, hpairs, hfuses⟩ := State.pairParts_inj h
  rw [State.pairedPlate, State.hasPartner_of_pairParts h, State.plateEnabled, hfuses, hwant, State.pair, hpairs]
  rfl

end PairParts

section HeardOn
variable (s : State) (l n p : Nat)

theorem State.sid_heardOn : (s.heardOn l n).sid = s.sid := State.rd_heardOn_other (by decide) (by decide) s l n

theorem State.myNode_heardOn : (s.heardOn l n).myNode = s.myNode :=
  State.myNode_of_pairParts (s.heardOn_pairParts l n) (s.sid_heardOn l n)

theorem State.role_heardOn : (s.heardOn l n).role p = s.role p := State.rd_heardOn_plate rfl rfl (by decide) s l n p

theorem State.prot_heardOn : (s.heardOn l n).prot p = s.prot p := State.rd_heardOn_plate rfl rfl (by decide) s l n p

theorem State.agentActs_heardOn : (s.heardOn l n).agentActs = s.agentActs :=
  State.agentActs_of_pairParts (s.heardOn_pairParts l n)

theorem State.mirrors_heardOn : (s.heardOn l n).mirrors? p = s.mirrors? p := by
  have hpaired := State.pairedPlate_of_pairParts (s.heardOn_pairParts l n)
    (State.rd_heardOn_plate (r := Reg.ekPlateWant) rfl rfl (by decide) s l n p)
  rw [State.mirrors?, s.agentActs_heardOn, s.role_heardOn, hpaired, State.mirrors?]

theorem State.imprGrants_heardOn : (s.heardOn l n).imprGrants = s.imprGrants := by
  obtain ⟨-, -, -, -, hgrants, -⟩ := State.pairParts_inj (s.heardOn_pairParts l n)
  exact hgrants

end HeardOn

/-- A node's number and its partner's differ. -/
theorem State.partnerNode_ne_myNode (s : State) : s.partnerNode ≠ s.myNode := by
  have hbit : ∃ b < 2, s.myNode = 2 * s.sid + b := by
    rw [State.myNode]
    split
    · split
      · exact ⟨1, by decide, rfl⟩
      · exact ⟨0, by decide, rfl⟩
    · exact ⟨0, by decide, rfl⟩
  obtain ⟨b, hb, hnode⟩ := hbit
  rw [State.partnerNode, hnode]
  split <;> omega

/-! ### Role frames (R698, R702) -/

theorem exec_roleSend (s : State) : exec .roleSend s = .next (s.sendRole 0 none) := rfl

theorem State.sendEpk_regs (s : State) (lanes : List Nat) (plate : Option Nat) (dest : Fin 9) (b : EpkBody) :
    (s.sendEpk lanes plate dest b).regs = s.regs := by
  rw [State.sendEpk]
  split
  · rfl
  · exact forEach_leaves (g := State.regs) (f := fun l (t : State) => t.emit _) (fun _ _ => rfl) lanes _

theorem State.sendRole_regs (s : State) (subtype : Nat) (plate : Option Nat) : (s.sendRole subtype plate).regs = s.regs := by
  rw [State.sendRole]
  split
  · exact s.sendEpk_regs _ _ _ _
  · rfl

/-- The notice of a role frame is taken first. -/
def State.noticed (t : State) (plate : Option (Fin 8)) (subtype : Nat) : State :=
  match plate with
  | some p => if subtype = 0 then t else t.takeNotice p subtype
  | none => t

/-- A role frame is taken from the partner alone. -/
def State.useRole (t : State) (h : EpkHdr) (subtype : Nat) (plates : List RoleEntry) : State :=
  if !t.hasPartner || h.origin.val != t.partnerNode then t else (t.noticed h.plate subtype).takeEntries 0 plates

theorem exec_roleReceived (h : EpkHdr) (subtype : Fin 3) (plates : List RoleEntry) (s : State) :
    exec (.roleReceived h subtype plates) s =
      .next (s.epkIn h (.role subtype plates) (fun t => t.useRole h subtype plates)) := rfl

theorem State.noticed_tb (t : State) (plate : Option (Fin 8)) (subtype : Nat) : (t.noticed plate subtype).tb = t.tb := by
  cases plate with
  | none => rfl
  | some p => exact tb_ite rfl (t.takeNotice_tb p subtype)

theorem State.noticed_none {t : State} {plate : Option (Fin 8)} {subtype : Nat} (h : subtype = 0 ∨ plate = none) :
    t.noticed plate subtype = t := by
  cases plate with
  | none => rfl
  | some p => exact if_pos (h.resolve_right (fun h => nomatch h))

theorem State.useRole_tb (t : State) (h : EpkHdr) (subtype : Nat) (plates : List RoleEntry) :
    (t.useRole h subtype plates).tb = t.tb :=
  tb_ite rfl ((State.takeEntries_tb _ 0 plates).trans (t.noticed_tb _ _))

section Heard
variable {s t : State} {h : EpkHdr} {subtype : Fin 3} {plates : List RoleEntry}
  (ht : t = (s.heardOn h.lane h.origin).relay h (.role subtype plates))
include ht

/-- A role frame that is heard and relayed leaves the pair's parts, and every register but two. -/
theorem State.heardRole_parts : t.pairParts = s.pairParts ∧ t.sid = s.sid := by
  have hrelay : t.pairParts = (s.heardOn h.lane h.origin).pairParts ∧ t.sid = (s.heardOn h.lane h.origin).sid := by
    rw [ht, State.relay]
    dsimp only
    split <;> exact ⟨rfl, rfl⟩
  exact ⟨hrelay.1.trans (s.heardOn_pairParts _ _), hrelay.2.trans (s.sid_heardOn _ _)⟩

theorem State.heardRole_nodes : t.myNode = s.myNode ∧ t.hasPartner = s.hasPartner ∧ t.partnerNode = s.partnerNode := by
  obtain ⟨hparts, hsid⟩ := State.heardRole_parts ht
  exact ⟨State.myNode_of_pairParts hparts hsid, State.hasPartner_of_pairParts hparts, State.partnerNode_of_pairParts hparts hsid⟩

variable (hup : s.laneIsUp h.lane = true)
include hup

theorem exec_roleReceived_past (hpast : h.origin.val = s.myNode ∨ h.dest ≠ everyNode ∧ h.dest.val ≠ s.myNode ∨
    s.hasPartner = false ∨ h.origin.val ≠ s.partnerNode) : exec (.roleReceived h subtype plates) s = .next t := by
  obtain ⟨hmine, hpartner, hother⟩ := State.heardRole_nodes ht
  rw [exec_roleReceived]
  by_cases hused : h.origin.val ≠ t.myNode ∧ (h.dest = everyNode ∨ h.dest.val = t.myNode)
  · obtain ⟨horigin, hdest⟩ := hused
    rw [State.epkIn_used rfl _ hup ht horigin hdest, State.useRole, if_pos]
    rw [hmine] at horigin hdest
    rw [hpartner, hother]
    rcases hpast with h | h | h | h
    · exact absurd h horigin
    · exact (hdest.elim h.1 h.2).elim
    · simp [h]
    · simp [h]
  · have hpast' : h.origin.val = t.myNode ∨ (h.dest ≠ everyNode ∧ h.dest.val ≠ t.myNode) := by tauto
    rw [State.epkIn_past rfl _ hup ht hpast']

theorem exec_roleReceived_used (hdest : h.dest = everyNode ∨ h.dest.val = s.myNode) (hhas : s.hasPartner = true)
    (horigin : h.origin.val = s.partnerNode) : exec (.roleReceived h subtype plates) s =
      .next ((t.noticed h.plate subtype).takeEntries 0 plates) := by
  obtain ⟨hmine, hpartner, hother⟩ := State.heardRole_nodes ht
  rw [exec_roleReceived, State.epkIn_used rfl _ hup ht (by rw [hmine, horigin]; exact s.partnerNode_ne_myNode)
    (by rwa [hmine]), State.useRole, if_neg (by simp [hpartner, hhas, hother, horigin])]

end Heard

/-! ### The partner's loss (R696, R702) -/

/-- What the partner's loss does to plate `p`. -/
def State.losePartner (t : State) (p : Nat) : State :=
  (if t.role p = roleStandby then
      if t.plateServes p then t.modPair p (fun q => { q with takeCause := some 2 }) else t.unpair p
    else if t.role p = roleActive then t.dropProt p else t).modPair p (fun q => { q with partner := none, switch := false })

/-- The partner's identity is forgotten. -/
def State.forgetPartner (a : State) : State :=
  (State.wr { a with epk := { a.epk with partnerUid := none } } ekB Reg.ekPartnerLoUid 0).wr ekB Reg.ekPartnerHiUid 0

theorem State.forgetPartner_tb (a : State) : a.forgetPartner.tb = a.tb := rfl

theorem exec_partnerLoss (s : State) : exec .partnerLoss s =
    .next (if s.hasPartner && decide (s.epk.partnerHeard + s.lossNs ≤ s.now) then
      (forUpTo 8 (fun p t => t.losePartner p) s).forgetPartner.noteMaster s else s) := by
  change execPartnerLoss s = _
  simp only [execPartnerLoss, State.losePartner, State.forgetPartner]

theorem State.losePartner_tb (p : Nat) (t : State) : (t.losePartner p).tb = t.tb :=
  (State.modPair_tb _ p _).trans
    (tb_ite (tb_ite (t.modPair_tb p _) (t.unpair_tb p)) (tb_ite (t.dropProt_tb p) rfl))

theorem State.losePartner_keeps {z t : State} (p : Nat) (h : z.Keeps t) : z.Keeps (t.losePartner p) := by
  rw [State.losePartner]
  refine State.modPair_keeps ?_
  split_ifs
  · exact State.modPair_keeps h
  · exact State.unpair_keeps h
  · exact State.dropProt_keeps h
  · exact h

theorem exec_partnerLoss_tb (s : State) : ∃ t, exec .partnerLoss s = .next t ∧ t.tb = s.tb := by
  refine ⟨_, exec_partnerLoss s, tb_ite ((State.noteMaster_tb _ s).trans ?_) rfl⟩
  exact (State.forgetPartner_tb _).trans (tb_forUpTo State.losePartner_tb 8 s)

/-- The identity of a lost partner is gone, and reads 0. -/
theorem State.forgetPartner_uid {a : State} (h : Sparse.wf a.regs = true) (before : State) :
    (a.forgetPartner.noteMaster before).epk.partnerUid = none ∧
      (a.forgetPartner.noteMaster before).rd ekB Reg.ekPartnerLoUid = 0 ∧
      (a.forgetPartner.noteMaster before).rd ekB Reg.ekPartnerHiUid = 0 := by
  obtain ⟨huid, -⟩ := State.pairParts_inj (a.forgetPartner.noteMaster_pairParts before)
  refine ⟨huid.trans rfl, ?_, ?_⟩
  · rw [State.rd_noteMaster_other (by decide) (by decide), State.forgetPartner, State.rd_wr_other (by decide)]
    exact State.rd_wr_same (s := { a with epk := { a.epk with partnerUid := none } }) h _ _ _ _
  · rw [State.rd_noteMaster_other (by decide) (by decide), State.forgetPartner]
    refine State.rd_wr_same ?_ _ _ _ _
    exact State.wr_wf (s := { a with epk := { a.epk with partnerUid := none } }) h _ _ _ _

/-! ### Mirror frames (R704-R709) -/

def State.useImpression (t : State) (plate : Option (Fin 8)) (n : Nat) (chans : List MirrorChan) (whole : Bool) : State :=
  match plate with
  | none => t
  | some p =>
    if !t.mirrors? p || !whole || Sparse.get 0 t.imprGrants p == 0 then t
    else
      let a := (t.applyMirror p n true chans).bumpSat ekB Reg.ekCountsImpressions
      let b := State.modPair { a with imprGrants := Sparse.del a.imprGrants p } p (fun q => { q with waiting := [] })
      forEach ((t.pair p).waiting.filter (fun e => decide (n < e.1))) (fun e u => u.takeProof p e.1 e.2) (b.sendAck p)

def State.useProof (t : State) (plate : Option (Fin 8)) (n : Nat) (whole : Bool) (chans : List MirrorChan) : State :=
  match plate with
  | none => t
  | some p => if !t.mirrors? p then t else if whole then t.takeProof p n chans else t.proofBroken p n

def State.useAck (t : State) (plate : Option (Fin 8)) (n : Nat) : State :=
  match plate with
  | some p => if t.agentActs && t.role p == roleActive && t.prot p != protNone then t.takeAck p n else t
  | none => t

section MirrorFrames
variable (h : EpkHdr) (number : BitVec 32) (chans : List MirrorChan) (whole : Bool) (s : State)

theorem exec_impressionEndReceived : exec (.impressionEndReceived h number chans whole) s =
    .next (s.epkIn h (.impression number.toNat chans) (fun t => t.useImpression h.plate number.toNat chans whole)) := rfl

theorem exec_proofEndReceived : exec (.proofEndReceived h number whole chans) s =
    .next (s.epkIn h (.proof number.toNat chans) (fun t => t.useProof h.plate number.toNat whole chans)) := rfl

theorem exec_ackReceived : exec (.ackReceived h number) s =
    .next (s.epkIn h (.ack number.toNat) (fun t => t.useAck h.plate number.toNat)) := rfl

end MirrorFrames

theorem State.useImpression_tb (t : State) (plate : Option (Fin 8)) (n : Nat) (chans : List MirrorChan) (whole : Bool) :
    (t.useImpression plate n chans whole).tb = t.tb := by
  cases plate with
  | none => rfl
  | some p =>
    rw [State.useImpression]
    refine tb_ite rfl ((tb_forEach (fun (e : Nat × List MirrorChan) u => u.takeProof_tb p e.1 e.2) _ _).trans ?_)
    exact (State.sendAck_tb _ p).trans ((State.modPair_tb _ p _).trans (t.applyMirror_tb p n true chans))

theorem State.useProof_tb (t : State) (plate : Option (Fin 8)) (n : Nat) (whole : Bool) (chans : List MirrorChan) :
    (t.useProof plate n whole chans).tb = t.tb := by
  cases plate with
  | none => rfl
  | some p => exact tb_ite rfl (tb_ite (t.takeProof_tb p n chans) (t.proofBroken_tb p n))

theorem State.useAck_tb (t : State) (plate : Option (Fin 8)) (n : Nat) : (t.useAck plate n).tb = t.tb := by
  cases plate with
  | none => rfl
  | some p => exact tb_ite (t.takeAck_tb p n) rfl

section MirrorUses
variable {t : State} {p : Fin 8} {n : Nat} {chans : List MirrorChan} {whole : Bool}

theorem State.useImpression_skips (h : t.mirrors? p = false ∨ whole = false ∨ Sparse.get 0 t.imprGrants p = 0) :
    t.useImpression (some p) n chans whole = t :=
  if_pos (by rcases h with h | h | h <;> simp [h])

/-- The plate's mirror once an impression has been applied. -/
def State.impressed (t : State) (p n : Nat) (chans : List MirrorChan) : State :=
  (t.applyMirror p n true chans).bumpSat ekB Reg.ekCountsImpressions

theorem State.useImpression_taken (hm : t.mirrors? p = true) (hw : whole = true) (hg : Sparse.get 0 t.imprGrants p ≠ 0) :
    t.useImpression (some p) n chans whole =
      forEach ((t.pair p).waiting.filter (fun e => decide (n < e.1))) (fun e u => u.takeProof p e.1 e.2)
        ((State.modPair { t.impressed p n chans with imprGrants := Sparse.del (t.impressed p n chans).imprGrants p } p
          (fun q => { q with waiting := [] })).sendAck p) :=
  if_neg (by simp [hm, hw, hg])

theorem State.useProof_skips (h : t.mirrors? p = false) : t.useProof (some p) n whole chans = t :=
  if_pos (by simp [h])

theorem State.useProof_mirrors (h : t.mirrors? p = true) : t.useProof (some p) n whole chans =
    if whole then t.takeProof p n chans else t.proofBroken p n :=
  if_neg (by simp [h])

theorem State.useAck_eq : t.useAck (some p) n =
    if t.agentActs && t.role p == roleActive && t.prot p != protNone then t.takeAck p n else t := rfl

end MirrorUses

section EpkInMirror
variable {s : State} {h : EpkHdr} {b : EpkBody} (hb : onStack b = false) (f : State → State)
include hb

theorem State.epkIn_mirror_off (hoff : s.laneIsUp h.lane = false ∨ 2 ≤ h.lane.val) : s.epkIn h b f = s := by
  rw [State.epkIn_mirror hb, if_pos hoff]

variable (hup : s.laneIsUp h.lane = true) (hpair : h.lane.val < 2)
include hup hpair

theorem State.epkIn_mirror_heard : s.epkIn h b f =
    if h.origin.val ≠ s.myNode ∧ (h.dest = everyNode ∨ h.dest.val = s.myNode) then f (s.heardOn h.lane h.origin)
    else s.heardOn h.lane h.origin := by
  rw [State.epkIn_mirror hb, if_neg (by simp [hup, hpair]), s.myNode_heardOn]

theorem State.epkIn_mirror_used (horigin : h.origin.val ≠ s.myNode) (hdest : h.dest = everyNode ∨ h.dest.val = s.myNode) :
    s.epkIn h b f = f (s.heardOn h.lane h.origin) := by
  rw [State.epkIn_mirror_heard hb f hup hpair, if_pos ⟨horigin, hdest⟩]

theorem State.epkIn_mirror_past (hpast : h.origin.val = s.myNode ∨ h.dest ≠ everyNode ∧ h.dest.val ≠ s.myNode ∨ h.plate = none)
    (hnone : h.plate = none → f (s.heardOn h.lane h.origin) = s.heardOn h.lane h.origin) :
    s.epkIn h b f = s.heardOn h.lane h.origin := by
  rw [State.epkIn_mirror_heard hb f hup hpair]
  split
  · next hused =>
    rcases hpast with h | h | h
    · exact absurd h hused.1
    · exact (hused.2.elim h.1 h.2).elim
    · exact hnone h
  · rfl

end EpkInMirror

/-! ### Grants, takeover, and the trace check of pair activity (R706, R716, R719-R721) -/

theorem State.askImpression_leaves (s : State) (p : Nat) :
    (s.askImpression p).regs = s.regs ∧ (s.askImpression p).pairs = s.pairs := by
  rw [State.askImpression]
  split
  · rw [State.ask]
    split <;> exact ⟨rfl, rfl⟩
  · exact ⟨rfl, rfl⟩

theorem exec_impressionGrantRetry (p : Fin 8) (s : State) : exec (.impressionGrantRetry p) s =
    .next (if (s.pair p).askedAt ≠ 0 ∧ (s.pair p).askedAt + 100 * msNs ≤ s.now then s.askImpression p else s) := rfl

theorem exec_takeover_none {p : Fin 8} {s : State} (h : (s.pair p).takeCause = none) : exec (.takeover p) s = .next s := by
  change execTakeover p s = _
  rw [execTakeover, h]

theorem exec_takeover_some {p : Fin 8} {s : State} {c : Nat} (h : (s.pair p).takeCause = some c) : exec (.takeover p) s =
    .next (if s.plateServes p && s.role p == roleStandby then s.takeOver p c else s) := by
  change execTakeover p s = _
  rw [execTakeover, h]

theorem exec_pairTraceSample (p : Fin 8) (s : State) :
    exec (.pairTraceSample p) s = .next (if s.chip.sheetsReady then s.pairSample p else s) := rfl

/-- The sample's start of the second for which a moving role is allowed is forgotten. -/
def State.agreeCleared (s : State) (p : Nat) : State := s.modPair p (fun q => { q with agreeSince := none })

section PairSample
variable {s : State} {p : Nat} (hfree : s.pairHeld p = false)
include hfree

theorem State.pairSample_miss (hno : (s.pairAgrees p).1 = false) : s.pairSample p = (s.agreeCleared p).pairMiss p := by
  rw [State.pairSample, if_neg (by simp [hfree]), if_pos (by simp [hno])]
  rfl

theorem State.pairSample_agrees (hyes : s.pairAgrees p = (true, false)) :
    s.pairSample p = (s.agreeCleared p).wr ekB Reg.ekPtraceCount 0 p := by
  rw [State.pairSample, if_neg (by simp [hfree]), if_neg (by simp [hyes]), if_pos (by simp [hyes])]
  rfl

variable (hmoves : s.pairAgrees p = (true, true))
include hmoves

theorem State.pairSample_starts (hnone : (s.pair p).agreeSince = none) : s.pairSample p =
    (s.modPair p (fun q => { q with agreeSince := some s.now })).wr ekB Reg.ekPtraceCount 0 p := by
  rw [State.pairSample, if_neg (by simp [hfree]), if_neg (by simp [hmoves]), if_neg (by simp [hmoves]), hnone]

theorem State.pairSample_since {a : Nat} (hsome : (s.pair p).agreeSince = some a) : s.pairSample p =
    if s.now - a ≤ secNs then s.wr ekB Reg.ekPtraceCount 0 p else s.pairMiss p := by
  rw [State.pairSample, if_neg (by simp [hfree]), if_neg (by simp [hmoves]), if_neg (by simp [hmoves]), hsome]

end PairSample

/-- Two fields with one stride that lie apart for the first plate lie apart for every plate. -/
theorem fieldKey_ne_of_stride {b : Nat} {r r' : Row} (hstride : r.stride = r'.stride) (h : fieldKey b r 0 ≠ fieldKey b r' 0) (i : Nat) :
    fieldKey b r i ≠ fieldKey b r' i := by
  simp only [fieldKey, hstride] at h ⊢
  omega

/-- The fields of a plate's trace check are none of the sheet's events. -/
theorem ptrace_ne_event {r : Row} (hoff : r.off = 0x84) (hlsb : r.lsb < 32) (p : Nat) :
    fieldKey ekB r p ≠ fieldKey ekB Title.event 0 := by
  simp only [fieldKey, hoff, Title.event]
  omega

/-- The third mismatch in a row holds the pair, and says so. -/
theorem State.pairMiss_holds {s : State} (h : Sparse.wf s.regs = true) {p : Nat} (hn : 3 ≤ s.rd ekB Reg.ekPtraceCount p + 1) :
    (s.pairMiss p).pairHeld p = true ∧ (s.pairMiss p).isSet ekB Reg.ekPtraceMismatch p = true := by
  have hwf := State.wr_wf h ekB Reg.ekPtraceCount 3 p
  have hmismatch := State.wr_wf hwf ekB Reg.ekPtraceMismatch 1 p
  rw [State.pairMiss, if_neg (Nat.not_lt.2 hn), State.pairHeld, State.isSet, State.isSet,
    State.rd_raise_other (ptrace_ne_event (by rfl) (by decide) p), State.rd_raise_other (ptrace_ne_event (by rfl) (by decide) p)]
  constructor
  · rw [State.rd_wr_other (fieldKey_ne_of_stride (by rfl) (by decide) p), State.rd_wr_other (fieldKey_ne_of_stride (by rfl) (by decide) p),
      State.rd_wr_same hmismatch]
    rfl
  · rw [State.rd_wr_other (fieldKey_ne_of_stride (by rfl) (by decide) p), State.rd_wr_other (fieldKey_ne_of_stride (by rfl) (by decide) p),
      State.rd_wr_other (fieldKey_ne_of_stride (by rfl) (by decide) p), State.rd_wr_same hwf]
    rfl

section Writes
variable {s : State} {fn : Fin 65} {p : Fin 8}

theorem exec_switchoverRequest (data : Word) (s : State) : exec (.switchoverRequest fn p data) s =
    .next (s.mmioWrite fn (ekB + 0x80 + 8 * p.val) (fun t => t.ekPlateEffect fn p data.toNat)) := rfl

theorem exec_pairAcceptPath (s : State) : exec (.pairAcceptPath fn p) s =
    .next (s.mmioWrite fn (ekB + 0x84 + 8 * p.val) (fun t => t.pairAccept fn p)) := rfl

end Writes

/-! ### The statement -/

section MirrorFramesTaken
variable {s : State} {h : EpkHdr} (number : BitVec 32) (chans : List MirrorChan) (whole : Bool)

theorem mirrorFrames_off (hoff : s.laneIsUp h.lane = false ∨ 2 ≤ h.lane.val) :
    exec (.impressionEndReceived h number chans whole) s = .next s ∧
      exec (.proofEndReceived h number whole chans) s = .next s ∧ exec (.ackReceived h number) s = .next s := by
  rw [exec_impressionEndReceived, exec_proofEndReceived, exec_ackReceived, State.epkIn_mirror_off rfl _ hoff,
    State.epkIn_mirror_off rfl _ hoff, State.epkIn_mirror_off rfl _ hoff]
  exact ⟨rfl, rfl, rfl⟩

variable (hup : s.laneIsUp h.lane = true) (hpair : h.lane.val < 2)
include hup hpair

theorem mirrorFrames_past
    (hpast : h.origin.val = s.myNode ∨ h.dest ≠ everyNode ∧ h.dest.val ≠ s.myNode ∨ h.plate = none) :
    exec (.impressionEndReceived h number chans whole) s = .next (s.heardOn h.lane h.origin) ∧
      exec (.proofEndReceived h number whole chans) s = .next (s.heardOn h.lane h.origin) ∧
      exec (.ackReceived h number) s = .next (s.heardOn h.lane h.origin) := by
  rw [exec_impressionEndReceived, exec_proofEndReceived, exec_ackReceived,
    State.epkIn_mirror_past rfl _ hup hpair hpast (fun hnone => by rw [hnone]; rfl),
    State.epkIn_mirror_past rfl _ hup hpair hpast (fun hnone => by rw [hnone]; rfl),
    State.epkIn_mirror_past rfl _ hup hpair hpast (fun hnone => by rw [hnone]; rfl)]
  exact ⟨rfl, rfl, rfl⟩

theorem mirrorFrames_used {p : Fin 8} (hp : h.plate = some p) (horigin : h.origin.val ≠ s.myNode)
    (hdest : h.dest = everyNode ∨ h.dest.val = s.myNode) :
    exec (.impressionEndReceived h number chans whole) s =
        .next ((s.heardOn h.lane h.origin).useImpression (some p) number.toNat chans whole) ∧
      exec (.proofEndReceived h number whole chans) s =
        .next ((s.heardOn h.lane h.origin).useProof (some p) number.toNat whole chans) ∧
      exec (.ackReceived h number) s = .next ((s.heardOn h.lane h.origin).useAck (some p) number.toNat) := by
  rw [exec_impressionEndReceived, exec_proofEndReceived, exec_ackReceived,
    State.epkIn_mirror_used rfl _ hup hpair horigin hdest, State.epkIn_mirror_used rfl _ hup hpair horigin hdest,
    State.epkIn_mirror_used rfl _ hup hpair horigin hdest, hp]
  exact ⟨rfl, rfl, rfl⟩

end MirrorFramesTaken

section LeavesTimebase
variable (s : State) (fn : Fin 65) (p : Fin 8) (data : Word)

theorem exec_takeover_tb : ∃ t, exec (.takeover p) s = .next t ∧ t.tb = s.tb := by
  cases hcause : (s.pair p).takeCause with
  | none => exact ⟨s, exec_takeover_none hcause, rfl⟩
  | some c => exact ⟨_, exec_takeover_some hcause, tb_ite (s.takeOver_tb p c) rfl⟩

theorem exec_pairTraceSample_tb : ∃ t, exec (.pairTraceSample p) s = .next t ∧ t.tb = s.tb :=
  ⟨_, exec_pairTraceSample p s, tb_ite (s.pairSample_tb p) rfl⟩

theorem exec_switchoverRequest_tb : ∃ t, exec (.switchoverRequest fn p data) s = .next t ∧ t.tb = s.tb :=
  ⟨_, exec_switchoverRequest data s, State.mmioWrite_tb (fun t => t.ekPlateEffect_tb _ _ _) s _ _⟩

theorem exec_pairAcceptPath_tb : ∃ t, exec (.pairAcceptPath fn p) s = .next t ∧ t.tb = s.tb :=
  ⟨_, exec_pairAcceptPath s, State.mmioWrite_tb (fun t => t.pairAccept_tb _ _) s _ _⟩

theorem exec_impressionGrantRetry_leaves :
    ∃ t, exec (.impressionGrantRetry p) s = .next t ∧ t.regs = s.regs ∧ t.pairs = s.pairs := by
  refine ⟨_, exec_impressionGrantRetry p s, ?_⟩
  split
  · exact s.askImpression_leaves p
  · exact ⟨rfl, rfl⟩

end LeavesTimebase

/-- Settles O60: role frames by the partner's node, mirror frames by the lane and the plate's role, each timer and sample by its
times, and the frame laws of the timebase. -/
theorem pairsExchangeRolesMirrorsAndHandOver : Obligations.PairsExchangeRolesMirrorsAndHandOver := by
  refine ⟨fun s => ⟨fun hno => ⟨?_, ?_⟩, fun hhas => ?_, fun hsoon => ?_, fun hinv hhas hat => ?_⟩,
    fun h subtype plates s => ⟨fun hdown => ?_, fun hup => ⟨_, rfl, exec_roleReceived_past rfl hup,
      fun hdest hhas horigin => ⟨fun hplain => ?_, fun p hsub hp => ?_⟩⟩⟩,
    fun h number chans whole s => ⟨mirrorFrames_off number chans whole, fun hup hpair => ⟨_, rfl,
      mirrorFrames_past number chans whole hup hpair, fun p hp horigin hdest => ?_⟩⟩,
    fun h subtype plates number chans whole fn p data s => ⟨⟨_, exec_roleSend s, s.sendRole_regs 0 none, s.sendRole_tb 0 none⟩,
      exec_partnerLoss_tb s, ⟨_, exec_roleReceived h subtype plates s, State.epkIn_tb (fun t => t.useRole_tb _ _ _) s _ _⟩,
      ⟨_, exec_impressionEndReceived h number chans whole s, State.epkIn_tb (fun t => t.useImpression_tb _ _ _ _) s _ _⟩,
      ⟨_, exec_proofEndReceived h number chans whole s, State.epkIn_tb (fun t => t.useProof_tb _ _ _ _) s _ _⟩,
      ⟨_, exec_ackReceived h number s, State.epkIn_tb (fun t => t.useAck_tb _ _) s _ _⟩,
      exec_impressionGrantRetry_leaves s p, exec_takeover_tb s p, exec_pairTraceSample_tb s p,
      exec_switchoverRequest_tb s fn p data, exec_pairAcceptPath_tb s fn p⟩,
    fun p s => ⟨fun hasked hat => ?_, fun hno => ?_, exec_takeover_none, fun c hc => ⟨fun hserves hrole => ?_, fun hno => ?_⟩,
      fun hno => ?_, fun hready hfree hdiff => ⟨_, rfl, fun hfew => ?_, fun hthird hinv => ?_⟩, fun hready hfree hsame => ?_,
      fun hready hfree hmoves => ⟨fun hnone => ?_, fun a ha hsoon => ?_, fun a ha hover => ?_⟩⟩,
    fun fn p data s hw => ⟨fun hmay => ?_, fun hno => ?_⟩, fun fn p s hw => ⟨fun hmay hheld => ?_, fun hno => ?_⟩⟩
  · rw [exec_roleSend, State.sendRole, if_neg (by simp [hno])]
  · rw [exec_partnerLoss, if_neg (by simp [hno])]
  · rw [exec_roleSend, State.sendRole, if_pos hhas]
  · rw [exec_partnerLoss, if_neg (by simp [hsoon])]
  · rw [exec_partnerLoss, if_pos (by simp [hhas, hat])]
    have hkeeps : s.Keeps (forUpTo 8 (fun p t => t.losePartner p) s) :=
      forUpTo_keeps 8 (State.Keeps.refl s) (fun p t => State.losePartner_keeps p)
    exact ⟨_, rfl, State.forgetPartner_uid (hkeeps.inv hinv).regs s⟩
  · rw [exec_roleReceived, State.epkIn_down rfl _ hdown]
  · rw [exec_roleReceived_used rfl hup hdest hhas horigin, State.noticed_none hplain]
  · rw [exec_roleReceived_used rfl hup hdest hhas horigin, hp]
    exact congrArg (fun a : State => Host.Outcome.next (a.takeEntries 0 plates)) (if_neg hsub)
  · obtain ⟨himpression, hproof, hack⟩ := mirrorFrames_used number chans whole hup hpair hp horigin hdest
    have hmirrors := s.mirrors_heardOn h.lane h.origin p
    have hgrants := s.imprGrants_heardOn h.lane h.origin
    rw [himpression, hproof, hack, State.useAck_eq, s.agentActs_heardOn, s.role_heardOn, s.prot_heardOn]
    refine ⟨fun hno => ⟨?_, ?_⟩, fun hyes hwhole => ?_, fun hyes hbroken => ⟨?_, ?_⟩, fun hno => ?_,
      fun hyes hwhole hgrant => ⟨_, _, rfl, rfl, ?_⟩, fun hacts hrole hprot => ?_, fun hno => ?_⟩
    · rw [State.useProof_skips (hmirrors.trans hno)]
    · rw [State.useImpression_skips (.inl (hmirrors.trans hno))]
    · rw [State.useProof_mirrors (hmirrors.trans hyes), if_pos hwhole]
    · rw [State.useProof_mirrors (hmirrors.trans hyes), if_neg (by simp [hbroken])]
    · rw [State.useImpression_skips (.inr (.inl hbroken))]
    · rw [State.useImpression_skips (.inr (.inr (by rwa [hgrants])))]
    · rw [State.useImpression_taken (hmirrors.trans hyes) hwhole (by rwa [hgrants])]
      rfl
    · rw [if_pos (by simp [hacts, hrole, hprot])]
    · rw [if_neg (by rcases hno with h | h | h <;> simp [h])]
  · rw [exec_impressionGrantRetry, if_pos ⟨hasked, hat⟩]
  · rw [exec_impressionGrantRetry, if_neg (by rintro ⟨hasked, hat⟩; omega)]
  · rw [exec_takeover_some hc, if_pos (by simp [hserves, hrole])]
  · rw [exec_takeover_some hc, if_neg (by rcases hno with h | h <;> simp [h])]
  · rw [exec_pairTraceSample]
    rcases hno with h | h
    · rw [if_neg (by simp [h])]
    · rw [State.pairSample, if_pos h, ite_self]
  · rw [exec_pairTraceSample, if_pos hready, State.pairSample_miss hfree hdiff]
    exact congrArg _ (if_pos hfew)
  · rw [exec_pairTraceSample, if_pos hready, State.pairSample_miss hfree hdiff]
    exact ⟨_, rfl, State.pairMiss_holds (s := s.agreeCleared p) hinv.regs hthird⟩
  · rw [exec_pairTraceSample, if_pos hready, State.pairSample_agrees hfree hsame]
    rfl
  · rw [exec_pairTraceSample, if_pos hready, State.pairSample_starts hfree hmoves hnone]
  · rw [exec_pairTraceSample, if_pos hready, State.pairSample_since hfree hmoves ha, if_pos (by omega)]
  · rw [exec_pairTraceSample, if_pos hready, State.pairSample_since hfree hmoves ha, if_neg (by omega)]
  · rw [exec_switchoverRequest, State.mmioWrite_through hw, State.ekPlateEffect, if_neg (by simp [hmay])]
  · rw [exec_switchoverRequest, State.mmioWrite_through hw, State.ekPlateEffect, if_pos (by simp [hno])]
  · rw [exec_pairAcceptPath, State.mmioWrite_through hw, State.pairAccept, if_neg (by simp [hmay, hheld])]
  · rw [exec_pairAcceptPath, State.mmioWrite_through hw, State.pairAccept, if_pos (by rcases hno with h | h <;> simp [h])]

end Sys2Proof.Machine
end
